-- ==== Sys2Proof/Word.lean ====
section
/-! DEFINITION. The word types of the OV-7160's control space (R6) and the sparse table every layer uses. -/

namespace Sys2Proof

/-- A register value: every register is 32 bits wide (R6). -/
abbrev Word := BitVec 32

/-- A byte. -/
abbrev Byte := BitVec 8

/-- A sparse table: (key, value) pairs by rising key; a key that is not listed has the table's default value. -/
abbrev KMap (α : Type) := List (Nat × α)

end Sys2Proof
end

