-- ==== Sys2Proof/Syntax.lean ====
section
/-! DEFINITION. The commands of the OV-7160: one constructor per row of the table of operations, and the types of their
operands. An operand is what the outside supplies: the initiator and data of an access, a frame or a block received, a
sensor's reading, the outcome of an analogue process. -/

namespace Sys2Proof.Machine

/-! ### Types of the operands -/

/-- A die index 0-9 (R14): 0 IOS, 1 ION, 2-9 FD0-FD7. -/
abbrev Die := Fin 10

/-- A fabric die FDk (die index 2 + k). -/
abbrev FabDie := Fin 8

/-- An I/O die: 0 IOS, 1 ION. -/
abbrev IoDie := Fin 2

/-- A 12-bit initiator ID: die index in bits [11:8], endpoint in [7:0] (R185). -/
abbrev Init := BitVec 12

/-- An error class (R507), device-fatal apart, which is latched and never reported to an error block alone. -/
inductive ErrClass where
  | corrected
  | contained
  | regionFatal
  | dieFatal
deriving DecidableEq, Repr, Inhabited

/-- What a slack monitor watches (R79, `TICK_OVR_SRC`): a router, a region, or a quiet-window duty with its code
(1 command commit, 2 segment commit, 3 scrub step, 4 refresh). -/
inductive Monitor where
  | router (x y : Nat)
  | region (d : Die) (i : Nat)
  | duty (d : Die) (code : Nat)
deriving DecidableEq, Repr

/-- What the outside supplies at a tick boundary: the dies whose Ringlet frame arrived bad (R65), the fabric dies in
which two strobes merged (R68), the completion offsets of the tick that ends (R79, R81), the quiet-window duties
still running (R59), upsets of the three scrub control copies: die, copy, value (R518), and the errors of the crossing FIFOs of regions since
the last boundary: die, local region, overflow in [7:0] and underrun in [15:8] (R110). -/
structure BoundaryIn where
  badFrames : List Die := []
  merged : List Die := []
  offsets : List (Monitor × Nat) := []
  lateDuties : List (Die × Nat) := []
  ctlUpsets : List (FabDie × Nat × Word) := []
  xfifo : List (FabDie × Fin 24 × BitVec 16) := []
deriving DecidableEq, Repr, Inhabited

/-- A frame that a scrubber finds wrong: its column code and frame index (R416) and how many of its 4,123 stored bits are
wrong (R512). -/
structure FrameErr where
  col : Byte
  idx : Byte
  bits : Nat
deriving DecidableEq, Repr, Inhabited

/-- What the scrubbers find in one quiet window: fabric die, frame of the walk (0-57,599), and the error. A frame not
listed has no error. -/
structure QuietIn where
  frameErrors : List (FabDie × Nat × FrameErr) := []
deriving DecidableEq, Repr, Inhabited

/-- What the image fixes of a CMB (R125): the mode (0 M27, 1 D18, 2 Q8, 3 F32), the pre-adder in use, and the operands that
are signed: in D18 A, B, D, C; in Q8 the a bytes (first) and the b bytes (second). -/
structure CmbCfg where
  mode : Fin 4 := 0
  pre : Bool := false
  sa : Bool := true
  sb : Bool := true
  sd : Bool := true
  sc : Bool := true
deriving DecidableEq, Repr, Inhabited

/-- The ports of a CMB in one cycle (R124) with the residues that arrive with CIN. -/
structure CmbIn where
  a : Word := 0
  b : Word := 0
  d : BitVec 27 := 0
  c : BitVec 64 := 0
  ce : Bool := true
  zsel : Fin 4 := 0
  neg : Bool := false
  presub : Bool := false
  clr : Bool := false
  cin : BitVec 80 := 0
  cinR0 : Byte := 0
  cinR1 : Byte := 0
deriving DecidableEq, Repr, Inhabited

/-- An upset of a CMB in one cycle (R136, R137): the bits that flip in its accumulator register, in its two residue registers, and in
the second copy of the F32 exponent and sign. -/
structure CmbUpset where
  acc : BitVec 80 := 0
  r0 : Byte := 0
  r1 : Byte := 0
  dup : BitVec 9 := 0
deriving DecidableEq, Repr, Inhabited


/-- A memory block of a fabric die (R151, R152): a BM36 or BM36-D, or (deep) a DM288, by column and row. -/
structure Blk where
  die : FabDie
  deep : Bool
  col : Nat
  row : Nat
deriving DecidableEq, Repr, Inhabited

/-- A port of a block with its image settings: port B of a BM36-D, width in bits (R155), rotate (R157). -/
structure MemPort where
  portB : Bool := false
  width : Nat := 64
  rotate : Bool := false
deriving DecidableEq, Repr, Inhabited

/-- The image's window access setting of a block (R176). -/
inductive WinAccess where
  | none
  | read
  | readWrite
deriving DecidableEq, Repr, Inhabited

/-- A 64-byte line of a packet (R190, R193): byte enables, and byte j in bits [8j+7:8j]. -/
structure Line where
  be : BitVec 64
  data : BitVec 512
deriving DecidableEq, Repr, Inhabited

/-- A data flit as it arrives (R190): its line, its crc field, and whether a fence appended it (truncated). -/
structure Flit where
  line : Line
  crc : Word
  truncated : Bool := false
deriving DecidableEq, Repr, Inhabited

/-- The fields of a header (R191). -/
structure Hdr where
  dstX : Nat := 0
  dstY : Nat := 0
  dstEp : Nat := 0
  srcX : Nat := 0
  srcY : Nat := 0
  srcId : Nat := 0
  opcode : Nat := 0
  cls : Bool := false
  key : Nat := 0
  dbg : Bool := false
  queue : Nat := 0
  seq : Nat := 0
  slot : Nat := 0
  flits : Nat := 0
  addr : Nat := 0
  count : Nat := 0
  status : Nat := 0
  hops : Nat := 0
  corrected : Bool := false
  reissue : Bool := false
deriving DecidableEq, Repr, Inhabited

/-- Whose request a target bridge performs (R335): the port that its frame came by, the source device, the src_id and tag in the
frame. -/
structure Serve where
  port : Nat
  device : Nat
  src : Nat
  tag : Nat
deriving DecidableEq, Repr, Inhabited

/-- A request as an initiator gives it to its network interface (R187, R188): write or read, 48-bit address, the number
of bytes minus 1 of a read, the lines of a write, queue, key index and debug attribute. `via` names the endpoint of a
request that reaches a page through it (R409), `afterWrites` a host read that waits for earlier writes (R293), `bar`
the BAR of a host request, and `serve` the frame that a target bridge performs (R335). -/
structure NocReq where
  src : Init
  write : Bool
  addr : BitVec 48
  count : Fin 512 := 0
  lines : List Line := []
  queue : Fin 32 := 0
  key : Fin 64 := 0
  dbg : Bool := false
  via : Option Byte := none
  afterWrites : Bool := false
  bar : Fin 4 := 0
  serve : Option Serve := none
deriving DecidableEq, Repr, Inhabited

/-- What training finds in the receive direction of a module (R249): its position k on the edge, the physical wires whose
margin is below the threshold, and the smallest margin of a wire in use with that wire. -/
structure WireSweep where
  k : Fin 8
  bad : List (Fin 66)
  margin : Fin 64
  wire : Fin 66
deriving DecidableEq, Repr, Inhabited

/-- An end of a stream channel that an image binds (R244): die, module, channel, receive end, link ID, and the local region on a
fabric die. -/
structure ChanBind where
  die : Die
  m : Fin 32
  ch : Bool
  rx : Bool
  link : Word
  region : Option (Fin 24)
deriving DecidableEq, Repr, Inhabited

/-- A request of the partner die (R263). -/
structure PartnerReq where
  ep : Byte
  write : Bool
  addr : BitVec 48
  count : Fin 512
  lines : List Line
  queue : Fin 32
  seq : Fin 1024
deriving DecidableEq, Repr, Inhabited

/-- An event message (R325). -/
structure EvMsg where
  src : BitVec 14
  be : Bool
  cluster : Bool
  num : BitVec 14
  act : BitVec 64
  arg : Word
deriving DecidableEq, Repr, Inhabited

/-- A management message (R319). -/
inductive Mgmt where
  | joinReq (id : BitVec 16)
  | joinGrant (id : BitVec 14) (j count : BitVec 64) (h : BitVec 16)
  | joinRefuse (reason : Nat)
  | routeAdd (id : BitVec 14)
  | routeDel (id : BitVec 14)
  | report (r : Word)
deriving DecidableEq, Repr, Inhabited

/-- A time frame (R313); the stamps t2 and t3 are TS72 values in fine steps of 1/256 tb. -/
structure TimeFrame where
  tseq : BitVec 16
  calib : Bool
  root : Bool
  holdover : Bool
  pending : Bool
  test : Bool
  epoch : BitVec 8
  t2 : BitVec 72
  t3 : BitVec 72
  num : BitVec 64
  bnd : BitVec 64
  p : Word
  q : Word
  at_ : BitVec 64
  pNext : Word
  qNext : Word
  h : BitVec 16
  rUp : Word
deriving DecidableEq, Repr, Inhabited

/-- A memory frame (R334): a request or a response. -/
structure MemFrame where
  target : BitVec 14
  source : BitVec 14
  src : Init
  dbg : Bool
  opcode : BitVec 4
  queue : Fin 32
  addr : BitVec 48
  count : Fin 512
  tag : Fin 64
  status : Byte
  lines : List Line
deriving DecidableEq, Repr, Inhabited

/-- A command frame: 96 bytes, the 24 words of the host buffer (R487, R496), word 0 in bits [31:0]. -/
abbrev CmdFrame := BitVec 768

/-- The content of an Itastea frame, by kind (R304). -/
inductive ItaMsg where
  | time (f : TimeFrame)
  | event (m : EvMsg)
  | memReq (m : MemFrame)
  | memRsp (m : MemFrame)
  | command (f : CmdFrame)
  | mgmt (m : Mgmt)
deriving DecidableEq, Repr, Inhabited

/-- What the DIMM returns for a line beyond what was stored (R351): nothing wrong; an error that the code corrects, in a device, its lowest
pin; an error that it detects and cannot correct; an error beyond the code's limits. -/
inductive DimmErr where
  | none
  | correctable (device : Fin 10) (pin : Fin 40)
  | uncorrectable
  | undetected
deriving DecidableEq, Repr, Inhabited

/-- A line of a DRAM request as the DIMM serves it: its error; the stored line and tag where somebody has changed them (R372 to R379);
an uncorrectable error of its tag line (R378); and the lines of its page that fail verification in an overflow procedure
(R381). -/
structure DimmLine where
  err : DimmErr := .none
  got : Option (BitVec 512 × Word) := Option.none
  tagLost : Bool := false
  stale : List (Fin 64) := []
deriving DecidableEq, Repr, Inhabited

/-- What the DIMMs contribute to a request: its lines in order (clean where the list ends), and the service time in tb (R350). -/
structure DramIn where
  lines : List DimmLine := []
  svc : Nat := 0
deriving DecidableEq, Repr, Inhabited

/-- The SPD of a channel's DIMMs (R340, R354, R359): DIMMs, ranks per DIMM, x8 devices, density (0 16 Gb, 1 24 Gb, 2 32 Gb), tRFC in tb,
whether everything it reports is supported, and the hPPR resources left. -/
structure Spd where
  dimms : Fin 3
  ranks : Fin 3
  x8 : Bool
  density : Fin 3
  trfc : Nat
  supported : Bool
  avail : Word
deriving DecidableEq, Repr, Inhabited


/-- A row for hPPR: rank over the channel, bank group, bank, row (R359). -/
structure PprRow where
  rank : Nat
  bg : Nat
  bank : Nat
  row : Nat
deriving DecidableEq, Repr, Inhabited

/-- A partition table entry of a device header (R423). -/
structure Part where
  ctype : Byte
  copyB : Byte
  addr : Word
  size : Word
deriving DecidableEq, Repr, Inhabited

/-- The type-specific area of a device header (R413). -/
structure DevHdr where
  compat : List (Byte × Byte)
  role : Byte
  idMode : Byte
  fixedId : BitVec 16
  h : BitVec 16
  persSrc : Byte
  nvmMhz : Byte
  pcieIds : BitVec 64
  classRev : Word
  deadline : Word
  allow : List (BitVec 128)
  ddrGrade : Byte
  ddrReq : Byte
  upstream : Byte
  sets : List (Word × Word × Word)
  parts : List Part
deriving DecidableEq, Repr, Inhabited

/-- The type-specific area of a container (R413, R473): a device header; a shell with its host region; Hawkmoth firmware
with version, entry and heartbeat period; Skipper firmware with version and, per core 1-12, segment and entry; none. -/
inductive HdrArea where
  | none
  | device (x : DevHdr)
  | shell (host : Byte)
  | hawkmoth (version entry : Word) (period : BitVec 16)
  | skipper (version : Word) (cores : List (Byte × BitVec 16))
deriving DecidableEq, Repr, Inhabited

/-- A segment table entry (R414). -/
structure Seg where
  ty : Byte
  die : Byte
  region : Byte
  flags : Byte
  off : Word
  len : Word
  nonce : BitVec 96
  design : Word
  digest : BitVec 384
deriving DecidableEq, Repr, Inhabited

/-- A container header (R411): every byte that the layout marks zero is zero. -/
structure Header where
  magic : Word
  version : BitVec 16
  ctype : Byte
  flags : Byte
  part : BitVec 16
  dieMap : BitVec 16
  minFab : Byte
  minIo : Byte
  count : BitVec 16
  uid : BitVec 64
  design : Word
  length : Word
  area : HdrArea
  segs : List Seg
  key : BitVec 776
  sig : BitVec 768
deriving DecidableEq, Repr, Inhabited

/-- An event that raises current (R462): a die's reset release, a region fill, the wake of a BM36 or a DM288 block, the start of a lane
quad, the training of a DDR channel. -/
inductive WakeEv where
  | release (d : Die)
  | fill (d : FabDie) (region : Fin 24)
  | wakeBm (d : FabDie)
  | wakeDm (d : FabDie)
  | quad (d : IoDie) (q : Fin 21)
  | dram (c : Fin 8)
deriving DecidableEq, Repr

/-- What a START_STEP_END or START_STEP_TIMEOUT carries (R438): whether the step passed, and what the outside shows it: the sizes in MiB of the flashes that answered
discovery at S2, the dies silent at S4, at S8 the dies
that the shell container names (R449), the headers that the two copies of the device header hold at S4, the checks that failed at S7 with
the first die. -/
structure StepIn where
  ok : Bool := true
  nvm0 : Option (BitVec 16) := none
  nvm1 : Option (BitVec 16) := none
  silent : List Die := []
  shell : List Die := []
  copy0 : Option Header := none
  copy1 : Option Header := none
  failed : Byte := 0
  die : Die := 0
deriving DecidableEq, Repr, Inhabited

/-- How the programming of a journal record ends (R456, R457): done, cut by a power loss, or failed. -/
inductive Prog where
  | done
  | torn
  | failed
deriving DecidableEq, Repr, Inhabited

/-- A core number (R466). -/
abbrev Core := Fin 13

/-- What a core does at an address of its memory map (R468, R469): fetch, load or store of 2^n bytes, or a FENCE. -/
inductive CoreOp where
  | fetch
  | load (n : Fin 3)
  | store (n : Fin 3) (data : Word)
  | fence
deriving DecidableEq, Repr

/-- What an access finds in an SRAM word (R471): no error, one that is corrected, one that is not. -/
inductive SramErr where
  | none
  | ce
  | ue
deriving DecidableEq, Repr

/-- How a fed instruction ends (R577): it completes, giving `ddata` a value where it writes that CSR; it raises an exception with a RISC-V
code; or it is a load or a store. -/
inductive FeedOut where
  | done (ddata : Option Word)
  | exc (code : Fin 16)
  | access (op : CoreOp) (addr : Word) (err : SramErr) (pins : BitVec 64)
deriving DecidableEq, Repr

/-- A filled key slot (R364): K_mix with k0 in bits [63:0], K_pad, H. -/
structure KeySlot where
  mix : BitVec 256 := 0
  pad : BitVec 128 := 0
  h : Word := 0
deriving DecidableEq, Repr, Inhabited

/-- What the tests of a die give (R590, R595, R598): the sets that failed (logic, memory, analogue, loop-back), failing memory blocks with
the first one's column, row and kind, the analogue checks that failed and that ran, and the first failing lane. -/
structure BistOut where
  fails : BitVec 4 := 0
  memFails : Nat := 0
  memCol : BitVec 5 := 0
  memRow : Byte := 0
  memKind : BitVec 2 := 0
  anaFailed : Byte := 0
  anaRan : Byte := 0
  lane : BitVec 7 := 0
deriving DecidableEq, Repr, Inhabited

/-- The path by which a request reaches the access registers of the debug bus master (R569); `other` stands for every other initiator. -/
inductive DbgPath where
  | other
  | jtag
  | host
  | itastea
deriving DecidableEq, Repr, Inhabited

/-- The path's code in `DBG_OWN.owner` (R597). -/
def DbgPath.code (p : DbgPath) : Nat :=
  match p with
  | .other => 0
  | .jtag => 1
  | .host => 2
  | .itastea => 3

/-- What the outside supplies to an access that starts an operation: local events `drained` (R326), DMA descriptors `started` (R295), output
`units` of a cancelled query (R407), the halves freed by the time of an access to the staging (R431), whether the image declares PROBE_TRIG (R233), the next
instruction of a core that halts and the outcome of a fed or stepped instruction (R575 to R578), what an SRAM word is found
with (R471), and whether the image opens the addressed block of the on-chip window to writes (R573). -/
structure CtlEnv where
  drained : Nat := 0
  started : Nat := 0
  units : Nat := 0
  freed0 : Bool := false
  freed1 : Bool := false
  declared : Bool := false
  dpc : Word := 0
  out : FeedOut := .done Option.none
  err : SramErr := .none
  opened : Bool := false
deriving DecidableEq, Repr

/-- A register access as it reaches a die's control space (R6, R10): the initiator, its key index, the debug attribute and whether a
debug read is to perform the side effect (R11, R585), the place (page * 0x10000 + offset), the number of bytes, and
the data of a write. `hw` holds the bits that a hardware event of the same cycle sets in the register, or the value it
puts into an RC field (R12). -/
structure CtlAccess where
  src : Init
  key : Fin 64 := 0
  dbg : Bool := false
  consume : Bool := false
  place : BitVec 24
  bytes : Nat := 4
  data : Word := 0
  hw : Word := 0
  env : CtlEnv := {}
deriving DecidableEq, Repr

/-- What the outside supplies to a request at its target: the latency that the statistics count (R236), what the DIMMs return (R350), what an
access to control space needs, the bits of `hw` that an event of the same cycle sets (R12), and at a region (R106) the
answers of its logic, a status with the lines of a read: `earlier` to requests accepted before, oldest first, and
`reply` to this one, none where it goes on. -/
structure TargetIn where
  lat : Nat := 0
  dimm : DramIn := {}
  env : CtlEnv := {}
  hw : Word := 0
  earlier : List (Byte × List Line) := []
  reply : Option (Byte × List Line) := Option.none
deriving DecidableEq, Repr

end Sys2Proof.Machine

namespace Sys2Proof

open Sys2Proof.Machine

/-- The commands. -/
inductive Instr where
  /-- POWER_GOOD (R540): Every rail monitor has reported in-window for 1 ms, so S0 ends and the start sequence begins. -/
  | powerGood (refsel : Fin 8)
  /-- SAFEOSC_READY (R535): SafeOsc reports ready, so the dies leave the asynchronous reset of R460 and the clock monitor starts. -/
  | safeoscReady
  /-- VAUX_LOSS (R541): Loss of VAUX resets the whole device and clears every sticky field. -/
  | vauxLoss
  /-- SYSRST_ASSERT (R549): SYSRST# is held low for at least 10 µs, which causes a power-on reset and leaves any safe state. -/
  | sysrstAssert
  /-- TIMEBASE_LOCK (R530): The timebase PLL lock has held for 2^16 tb, so S1 ends, the timebase count starts at 0 and tick boundary 0 falls. -/
  | timebaseLock (delays : List (Fin 4096))
  /-- S1_LOCK_WAIT_RECORD (R438): S1 has waited 100 ms for lock, so the device records one failure record for S1. -/
  | s1LockWaitRecord
  /-- CLOCK_MONITOR_FAULT (R536): The monitor finds no REFCLK edge for 16 SafeOsc cycles, or timebase lock drops; the tick stops and the device enters the safe state. -/
  | clockMonitorFault
  /-- TICK_BOUNDARY (R51): The tick generator has counted P tb, so the tick number increments and every boundary duty runs. -/
  | tickBoundary (b : BoundaryIn)
  /-- QUIET_WINDOW_OPEN (R56): The quiet window of a tick starts, scheduled admission closes, and critical commands, scrub steps and quiet refreshes start. -/
  | quietWindowOpen (q : QuietIn)
  /-- SEGMENT_COMMIT (R396): At qs + 16 each record engine advances commit for every entry over its complete records. -/
  | segmentCommit (passes : Bool) (bad : List (BitVec 16 × Bool))
  /-- HEARTBEAT_CHECK (R477): At boundary minus 16 tb the heartbeat monitor clears or increments misses and raises a heartbeat fault at N. -/
  | heartbeatCheck
  /-- TICK_ARM (R69): A write of TICK_ARM.arm on the time root arms a period change or is refused with a reason. -/
  | tickArm (both : Bool)
  /-- TICK_CANCEL (R70): A write of TICK_ARM.cancel withdraws a pending period change or is refused. -/
  | tickCancel
  /-- SLACK_OVERRUN (R80): A region or router's tick work completes at or after the next boundary, and the overrun is reported and counted. -/
  | slackOverrun (m : Monitor) (n off amount : Nat) (q : QuietIn)
  /-- REGISTER_WRITE (R10): A control-space write to a register with no row of its own acts by its access code, or is refused under R6. -/
  | registerWrite (d : Die) (a : CtlAccess)
  /-- READ_CLEAR_REGISTER (R12): A read of an RC counter or maximum returns its value and clears it, keeping any coincident event. -/
  | readClearRegister (d : Die) (a : CtlAccess)
  /-- START_STEP_END (R438): A start step ends with pass or failure, writes its journal record and moves to the next step, a restart, a degraded start or a stop. -/
  | startStepEnd (i : StepIn)
  /-- START_STEP_TIMEOUT (R438): A start step reaches its limit without passing and fails. -/
  | startStepTimeout (i : StepIn)
  /-- JOURNAL_RECORD_WRITE (R456): A buffered journal record is written to the current sector, taking a new sector when the current one is full. -/
  | journalRecordWrite (p : Prog) (bad : List (Fin 64))
  /-- JOURNAL_ERASE_DONE (R459): The erase of ERASE_JOURNAL finishes, the checkpoint is rewritten and erase_done is set. -/
  | journalEraseDone (bad : List (Fin 64))
  /-- WAKE_GOVERNOR_ADMIT (R462): A queued current-raising event is admitted on its rail once the 1 µs step budget allows. -/
  | wakeGovernorAdmit (new : List WakeEv) (rail : Fin 14)
  /-- RELEASE_RAMP_STEP (R463): A ramp step of a release begins, raising the edges that the die's clock lines deliver. -/
  | releaseRampStep (d : FabDie)
  /-- REGION_DRAIN_IDLE (R100): A draining region's endpoint becomes idle; clocks gate, isolation takes safe values and the region enters LOADING. -/
  | regionDrainIdle (r : Fin 192) (answers : List (Byte × List Line))
  /-- REGION_DRAIN_TIMEOUT (R101): 4,096 endpoint cycles pass while draining; outstanding requests end with region reload and the load proceeds. -/
  | regionDrainTimeout (r : Fin 192)
  /-- CONTAINER_HEADER_CHECK (R419): The loader reads a container header whole and checks it, rejecting it before any write on failure. -/
  | containerHeaderCheck (h : Header)
  /-- FRAME_RECORD (R416): A configuration engine takes one 520-byte frame record, checks it and writes it through the column remap. -/
  | frameRecord (k : Nat) (addr : Word) (data : BitVec 4096) (crc : Word)
  /-- SEGMENT_VERIFY (R415): The last byte of a segment arrives and its digest and any GCM tag are checked. -/
  | segmentVerify (k : Nat) (stored : List Byte)
  /-- REGION_FILL_DONE (R166): The memory fill of a load's regions completes, so they enter INITIALIZING and take their INIT values. -/
  | regionFillDone (init : List (Blk × Nat × BitVec 64)) (binds : List ChanBind) (busy : List (FabDie × Fin 8)) (bad : Option (Blk × Nat))
  /-- POWER_ON_FILL_DONE (R167): The power-on fill of every memory of a fabric die completes, so the configuration engine accepts frames. -/
  | powerOnFillDone (d : FabDie) (bad : List (Bool × Nat × Nat × Nat))
  /-- CMB_RESIDUE_MISMATCH (R140): A block's residue or duplicate check fails in a cycle; SUSPECT is raised and the sticky bit is set. -/
  | cmbResidueMismatch (d : FabDie) (col : Fin 13) (row : Fin 300) (g : CmbCfg) (x : CmbIn) (u : CmbUpset)
  /-- CMB_MISMATCH_REPORT (R141): A column collector's report reaches the error block; counts, events, records and the automark update. -/
  | cmbMismatchReport (d : FabDie) (n : Nat)
  /-- CMBERR_REC_POP (R150): A read of CMBERR_REC_LO pops the oldest CMB record and captures its tick. -/
  | cmberrRecPop (d : FabDie) (peek : Bool)
  /-- MEMORY_PORT_READ (R161): A block read port reads a word, corrects it or reports it uncorrectable, and schedules a write-back. -/
  | memoryPortRead (b : Blk) (p : MemPort) (a : Nat) (upset : BitVec 72) (superseded : Bool)
  /-- MEMORY_PORT_WRITE (R156): A block write port writes a word, merging partial writes, or refuses a partial write over an uncorrectable word. -/
  | memoryPortWrite (b : Blk) (p : MemPort) (a : Nat) (data : BitVec 64) (be : Byte) (collides : Bool)
  /-- MEMORY_SLEEP (R168): SLEEP is sampled at 1, so the block completes pending writes and enters retention. -/
  | memorySleep (b : Blk)
  /-- MEMORY_WAKE_DONE (R169): A block's wake from retention completes and NRDY falls. -/
  | memoryWakeDone (b : Blk) (took : Nat)
  /-- MEMORY_WINDOW_REQUEST (R177): An on-chip window request waits for an idle port cycle and then acts as a user access. -/
  | memoryWindowRequest (d : FabDie) (access : WinAccess)
  /-- MEMORY_WINDOW_BUSY (R177): A window request finds no idle cycle in 4,096 port cycles and ends with memory busy. -/
  | memoryWindowBusy (d : FabDie)
  /-- MECC_REPORT (R173): A memory block report reaches the error block and updates counts, events and the record FIFO. -/
  | meccReport (d : FabDie)
  /-- MECC_REC_POP (R179): A read of MECC_REC_LO pops the oldest memory record and captures its address and tick. -/
  | meccRecPop (d : FabDie) (peek : Bool)
  /-- MECC_INJ_WRITE (R179): A write of MECC_INJ in BLANK or SERVICE arms an injection into the next write of the selected block. -/
  | meccInjWrite (d : FabDie) (v : Word)
  /-- NOC_REQUEST_ISSUE (R187): An initiator's network interface decodes a request, assigns seq and queue and admits or holds it. -/
  | nocRequestIssue (r : NocReq)
  /-- HELD_REQUEST_ADMIT (R215): A held request is admitted at the first later offset at which its entry's window and budget allow. -/
  | heldRequestAdmit (i : Init) (q : Fin 32) (seq : Fin 1024)
  /-- NOC_FENCE (R203): A fence request to the interface waits for every earlier request of its queue to complete. -/
  | nocFence (i : Init) (q : Fin 32)
  /-- ROUTER_HEADER (R196): A router checks a header at an input port and routes, corrects or drops it. -/
  | routerHeader (x : Fin 16) (y : Fin 10) (port : Fin 8) (resp : Bool) (raw : BitVec 256) (flits : List Flit) (marks : List (Fin 16 × Word))
  /-- TARGET_REQUEST (R199): A target endpoint takes a whole request and answers it with data, acknowledgement, error or RETRY. -/
  | targetRequest (raw : BitVec 256) (flits : List Flit) (port : Fin 4) (x : TargetIn)
  /-- NI_RESPONSE (R202): An initiator's interface takes a response and delivers completions of its queue in issue order. -/
  | niResponse (raw : BitVec 256) (flits : List Flit) (port : Fin 4)
  /-- NOTIFY (R197): A responder's interface receives NOTIFY and reports it to its error block. -/
  | notify (raw : BitVec 256) (port : Fin 4)
  /-- RETRY_REISSUE (R205): After retry_gap the interface reissues the next RETRY request with reissue = 1, or ends it at retry_max. -/
  | retryReissue (i : Init) (q : Fin 32) (die : Die) (ep : Byte)
  /-- NOC_RESPONSE_TIMEOUT (R206): No answer arrives within 2^timeout_exp tb, so the request completes with no response. -/
  | nocResponseTimeout (i : Init) (q : Fin 32) (seq : Fin 1024)
  /-- SCHEDULE_SWAP_ARM (R220): A write of PROBES_SCH_SWAP.arm starts shadow bank checks on every die or is refused. -/
  | scheduleSwapArm (both : Bool)
  /-- SCHEDULE_SWAP_CANCEL (R220): A write of PROBES_SCH_SWAP.cancel withdraws a pending swap and unlocks the shadow banks. -/
  | scheduleSwapCancel
  /-- SCHEDULE_BANK_CHECK_DONE (R219): A die finishes checking its shadow bank; the swap becomes pending or is refused. -/
  | scheduleBankCheckDone (d : Die)
  /-- PROBE_ENABLE (R234): A write setting PROBES_Pp_CTRL.enable clears counters and starts the probe, or enters ERROR. -/
  | probeEnable (d : Die) (p : Fin 16) (v : Word) (declared : Bool)
  /-- PROBE_DISABLE (R234): A write clearing enable stops the probe and returns it to IDLE. -/
  | probeDisable (d : Die) (p : Fin 16)
  /-- PROBE_FORCE_TRIGGER (R232): A write of PROBES_Pp_FORCE.trigger triggers the probe. -/
  | probeForceTrigger (d : Die) (p : Fin 16)
  /-- PROBE_FORCE_STOP (R232): A write of PROBES_Pp_FORCE.stop flushes the FIFO and stops the probe. -/
  | probeForceStop (d : Die) (p : Fin 16)
  /-- PROBE_TRIG_EDGE (R233): A rising PROBE_TRIG edge reaches a probe and triggers it. -/
  | probeTrigEdge (d : FabDie) (p : Fin 4)
  /-- PROBE_TRACE_WRITE (R231): A probe writes a packet of trace entries when 16 fill a block or an entry has waited 256 tb. -/
  | probeTraceWrite (d : Die) (p : Fin 16)
  /-- PROBE_TRACE_WRITE_DONE (R231): A trace write completes; a status other than OK stops the probe with error 5. -/
  | probeTraceWriteDone (d : Die) (p : Fin 16) (status : Byte)
  /-- STATS_CAPTURE (R237): PROBES_ST_CMD.capture copies the selected statistics entry into the holding registers. -/
  | statsCapture (d : Die)
  /-- STATS_CLEAR (R237): PROBES_ST_CMD.clear zeroes the entry, frees it unless pinned and sets its since-tick. -/
  | statsClear (d : Die)
  /-- STATS_PIN (R237): PROBES_ST_CMD.pin binds the entry to pin_id or is refused. -/
  | statsPin (d : Die)
  /-- STATS_UNPIN (R237): PROBES_ST_CMD.unpin releases the entry's binding. -/
  | statsUnpin (d : Die)
  /-- TUNNEL_FRAME (R242): A tunnel module receives a frame, delivers its flits and applies its control fields if ccrc passes. -/
  | tunnelFrame (d : Die) (m : Fin 32) (raw : BitVec 2048)
  /-- STREAM_SLOT (R245): A stream module receives a slot and queues its word, or closes the channel on a CRC failure. -/
  | streamSlot (d : Die) (m : Fin 32) (ch : Bool) (raw : BitVec 288) (took : Nat)
  /-- CORUG_TRAIN (R256): The train operation of CORUG_CMD trains a fenced edge, or is refused with a reason. -/
  | corugTrain (i : Init) (d : Die) (e : Fin 4)
  /-- CORUG_TRAIN_DONE (R249): An edge training completes, replacing failing wires with spares, and sets trained or train_fail. -/
  | corugTrainDone (d : Die) (e : Fin 4) (near far : List WireSweep)
  /-- CORUG_UNFENCE (R256): The unfence operation of CORUG_CMD unfences a trained edge whose far die has reset. -/
  | corugUnfence (i : Init) (d : Die) (e : Fin 4)
  /-- CORUG_RESYNC (R248): The resync operation empties both FIFOs of a closed channel, zeroes credits and reopens it on matching link IDs. -/
  | corugResync (i : Init) (d : Die) (e : Fin 4) (k : Fin 8) (ch : Bool)
  /-- FENCE_NOTICE (R253): A running die receives a fence notice from its neighbour and fences the edge. -/
  | fenceNotice (d : Die) (e : Fin 4) (test : Bool)
  /-- EDGE_NO_VALID_FRAMES (R253): No valid frame arrives on an edge for 16 port cycles, so the edge fences with cause 2. -/
  | edgeNoValidFrames (d : Die) (e : Fin 4)
  /-- STATUS_LINK_FENCE (R615): IOS fences a die's status link on a fence notice or 16 cycles without a status frame. -/
  | statusLinkFence (d : Die)
  /-- STATUS_LINK_FRAME (R615): IOS receives a status frame carrying a die's reports and status, unfencing the link after the die's reset. -/
  | statusLinkFrame (d : Die)
  /-- UCIE_DISCOVERY_REPLY (R262): The partner's discovery reply arrives and is matched against the allow-entries for admission. -/
  | ucieDiscoveryReply (b : BitVec 128)
  /-- UCIE_DISCOVERY_TIMEOUT (R262): No discovery reply arrives within 1 ms, so admission is refused. -/
  | ucieDiscoveryTimeout
  /-- UCIE_UNIT (R259): The bridge receives a 256-byte unit and delivers its flits, or discards it on a CRC failure. -/
  | ucieUnit (raw : BitVec 2048)
  /-- UCIE_PARTNER_REQUEST (R263): A partner request enters the mesh if permitted and inside a window, or is blocked. -/
  | uciePartnerRequest (r : PartnerReq)
  /-- UCIE_LINK_DOWN (R264): The UCIe link goes down while admitted, and the bridge acts as a fenced edge. -/
  | ucieLinkDown
  /-- UCIE_ADMIT (R264): UCIE_CMD.admit retrains the link and repeats discovery and admission. -/
  | ucieAdmit (i : Init)
  /-- UCIE_DOWN (R264): UCIE_CMD.down takes the link down. -/
  | ucieDown (i : Init)
  /-- LANE_RETRAIN (R297): The retrain operation of LQ_CMD retrains a lane. -/
  | laneRetrain (i : Init) (d : IoDie) (q : Fin 21) (n : Fin 4)
  /-- LANE_STOP (R297): The stop operation of LQ_CMD puts a lane OFF. -/
  | laneStop (i : Init) (d : IoDie) (q : Fin 21) (n : Fin 4)
  /-- LANE_START (R297): The start operation of LQ_CMD starts a lane from its configuration. -/
  | laneStart (i : Init) (d : IoDie) (q : Fin 21) (n : Fin 4)
  /-- LANE_PLL_WRITE (R268): A write of LQ_PLLA or LQ_PLLB starts a lane PLL or leaves it stopped with pll_range. -/
  | lanePllWrite (i : Init) (d : IoDie) (q : Fin 21) (b : Bool) (v : Word)
  /-- TRAINING_BLOCK (R275): A lane receives a training block and applies its tap requests and far-end state. -/
  | trainingBlock (d : IoDie) (l : Fin 80) (b : BitVec 64)
  /-- TRAINING_ROUND_END (R276): A receiver ends a round of 4,096 blocks and sends its request, ready or done. -/
  | trainingRoundEnd (d : IoDie) (l : Fin 80) (pre post : Fin 4) (better : Bool) (margin : Fin 64)
  /-- TRAINING_TIMEOUT (R276): No training block within 2 ms, or training not ended in 20 ms, fails the lane. -/
  | trainingTimeout (d : IoDie) (l : Fin 80) (long : Bool)
  /-- LANE_BLOCK (R281): A lane checks a block's sync header, hunting toward lock or losing lock. -/
  | laneBlock (d : IoDie) (l : Fin 80) (hdr : BitVec 2) (payload : BitVec 64) (full : Bool)
  /-- ALIGN_BLOCK (R282): An align block arrives; the engine deskews the bundle, raises bundle-up and stamps it. -/
  | alignBlock (d : IoDie) (l : Fin 80) (b : BitVec 64) (stamp : BitVec 72)
  /-- PERST_ASSERT (R291): PERST# resets only the endpoint, the DMA queues and the PCIE page. -/
  | perstAssert
  /-- PCIE_HOT_RESET (R291): A hot reset resets only the endpoint, the DMA queues and the PCIE page. -/
  | pcieHotReset
  /-- PCIE_FLR (R291): A function-level reset resets only the endpoint, the DMA queues and the PCIE page. -/
  | pcieFlr
  /-- PCIE_LINK_DOWN (R291): The PCI Express link goes down and the endpoint is reset. -/
  | pcieLinkDown
  /-- PCIE_LINK_UP (R289): The PCI Express link comes up and sets link_up. -/
  | pcieLinkUp (speed : Fin 8) (width : Fin 32)
  /-- PCIE_HOST_REQUEST (R293): A host TLP through a BAR enters the mesh as initiator 0x018 and returns a completion status. -/
  | pcieHostRequest (bar : Fin 5) (write : Bool) (off : Nat) (count : Nat) (lines : List Line) (relaxed : Bool)
  /-- DMA_TAIL_WRITE (R295): A host write of PCIE_Qq_TAIL makes new descriptors available to an enabled queue. -/
  | dmaTailWrite (q : Fin 32) (v : BitVec 16)
  /-- DMA_QUEUE_ENABLE (R295): A write of enable = 1 resumes a queue from head. -/
  | dmaQueueEnable (q : Fin 32) (v : Word)
  /-- DMA_QUEUE_DISABLE (R295): A write of enable = 0 completes started descriptors and enters IDLE. -/
  | dmaQueueDisable (q : Fin 32) (started : Nat)
  /-- DMA_DESCRIPTOR_DONE (R295): A descriptor completes; its status is written back, head advances, and failure enters ERROR. -/
  | dmaDescriptorDone (q : Fin 32) (desc : BitVec 224) (host : Fin 7) (noc : Byte) (later : List Bool)
  /-- HOST_DOORBELL (R481): A write of CORE_HOSTDB raises an MSI-X vector while the link is up. -/
  | hostDoorbell (i : Init) (v : Word)
  /-- HELLO (R308): An Itastea port receives a HELLO, moving toward JOINING or UP or going DOWN on a mismatch. -/
  | hello (p : Fin 8) (b : BitVec 64)
  /-- FSTART (R306): A port receives a frame whole and accepts, discards or NAKs it by seq and CRC. -/
  | fstart (p : Fin 8) (b : BitVec 64) (body : List Byte)
  /-- ACK (R305): An ACK returns credits and frees acknowledged replay frames. -/
  | ack (p : Fin 8) (b : BitVec 64)
  /-- NAK (R306): A NAK makes the sender replay from the named seq. -/
  | nak (p : Fin 8) (b : BitVec 64)
  /-- REPLAY_TIMEOUT (R306): 2,048 blocks pass without ACK progress, so the sender replays, going DOWN after 8. -/
  | replayTimeout (p : Fin 8)
  /-- GOODBYE (R309): A GOODBYE arrives and the port goes DOWN with reason 6. -/
  | goodbye (p : Fin 8) (b : BitVec 64)
  /-- HELLO_TIMEOUT (R309): 4 × 65,536 blocks pass without a valid HELLO, so the port goes DOWN. -/
  | helloTimeout (p : Fin 8)
  /-- PORT_RETRY_TIMEOUT (R308): 100 ms pass in DOWN, so the port retrains. -/
  | portRetryTimeout (p : Fin 8)
  /-- ITA_PORT_DOWN_OP (R309): ITA_CMD op 1 takes a port down. -/
  | itaPortDownOp (i : Init) (p : Fin 8)
  /-- ITA_PORT_UP_OP (R308): ITA_CMD op 2 brings a DOWN port up to retrain. -/
  | itaPortUpOp (i : Init) (p : Fin 8)
  /-- ITA_REJOIN (R320): ITA_CMD op 3 makes the upstream port join again. -/
  | itaRejoin (i : Init) (p : Fin 8)
  /-- ITA_REHOME (R338): ITA_CMD op 4 makes an alt peer port the upstream, or is refused. -/
  | itaRehome (i : Init) (p : Fin 8)
  /-- TSYNC (R311): A TSYNC is stamped on send or arrival for offset measurement or calibration. -/
  | tsync (p : Fin 8) (sent : Bool) (b : BitVec 64) (stamp : BitVec 72)
  /-- CALIBRATION_TIMEOUT (R312): No calibration answer in 10 µs, so the old delay stays. -/
  | calibrationTimeout (p : Fin 8)
  /-- TIME_FRAME (R313): A child takes a time frame, computes θ and slews, and arms any announced period change. -/
  | timeFrame (p : Fin 8) (f : TimeFrame)
  /-- JOIN_REQ (R319): The parent takes a JOIN_REQ and answers with a grant or a refusal. -/
  | joinReq (p : Fin 8) (id : BitVec 16)
  /-- JOIN_GRANT (R319): A child takes a grant, its ID and H, calibrates and schedules its load at boundary J. -/
  | joinGrant (p : Fin 8) (id : BitVec 14) (j count : BitVec 64) (h : BitVec 16)
  /-- JOIN_REFUSE (R319): A child takes a refusal and repeats JOIN_REQ every 1 ms. -/
  | joinRefuse (p : Fin 8) (reason : Nat)
  /-- JOIN_LOAD (R74): At boundary J the follower loads count and tick number, sets sync and the port enters UP. -/
  | joinLoad (k : Nat)
  /-- ROUTE_ADD (R322): A device learns a route for the named ID and passes the message upstream. -/
  | routeAdd (p : Fin 8) (id : BitVec 14)
  /-- ROUTE_DEL (R323): A device empties the route for the named ID and passes the message upstream. -/
  | routeDel (p : Fin 8) (id : BitVec 14)
  /-- REPORT (R328): A parent takes a child's largest subtree route latency. -/
  | report (p : Fin 8) (r : Word)
  /-- REPORT_SEND (R328): Every 1,024 ticks a device sends REPORT upstream. -/
  | reportSend
  /-- EVENT_FRAME (R327): A device takes an event frame, forwards it and looks up its ERT entry. -/
  | eventFrame (p : Fin 8) (m : EvMsg)
  /-- ITA_EVSEND (R326): A write of ITA_EVSEND enters a local event with act-at n + H + extra. -/
  | itaEvsend (v : Word) (drained : Nat)
  /-- EVT_SEND (R326): A region's event port raises EVT_SEND and enters a local event. -/
  | evtSend (r : Fin 192) (num : BitVec 14) (arg : Word) (be cluster : Bool) (drained : Nat)
  /-- ITA_HEV_POP (R337): A read of ITA_HEV pops the oldest Hawkmoth event. -/
  | itaHevPop (peek : Bool)
  /-- REMOTE_MEMORY_REQUEST (R335): A target bridge takes a memory request frame and issues it as its own initiator. -/
  | remoteMemoryRequest (p : Fin 8) (m : MemFrame)
  /-- REMOTE_MEMORY_RESPONSE (R335): A source bridge takes a response frame and completes the NoC request with its status. -/
  | remoteMemoryResponse (p : Fin 8) (m : MemFrame)
  /-- COMMAND_FRAME (R336): A device takes a command frame and checks it, forwards it by route, or discards it from a wrong port. -/
  | commandFrame (p : Fin 8) (f : CmdFrame)
  /-- CMD_HSUBMIT (R487): A host write of CMD_HSUBMIT submits the frame in the host buffer to the command FIFO. -/
  | cmdHsubmit (i : Init) (v : Word)
  /-- COMMAND_CHECK (R489): The command block checks the next frame and accepts it or logs a refusal. -/
  | commandCheck
  /-- COUNTER_CHECKPOINT_DONE (R492): A checkpoint write completes in the journal and KEYS_CKPT, and K advances. -/
  | counterCheckpointDone
  /-- FUSE_BURN_DONE (R502): The fuse burn of a REKEY or SET_LIFECYCLE completes. -/
  | fuseBurnDone (ok : Bool)
  /-- LOAD_PERSONALITY (R433): The command starts a personality load from its named source. -/
  | loadPersonality (src : Fin 4) (addr : BitVec 48) (digest : BitVec 384)
  /-- LOAD_REGION (R433): The command starts a region-set load from its named source. -/
  | loadRegion (src : Fin 4) (addr : BitVec 48) (digest : BitVec 384)
  /-- SET_LIFECYCLE (R502): The command burns a new life-cycle state and restarts the device. -/
  | setLifecycle (target : Fin 5)
  /-- REKEY (R494): The command installs new command keys, burns the next key row and resets the counter. -/
  | rekey (cmd bc : BitVec 128)
  /-- KEY_LOAD (R497): The command fills or empties a data key slot. -/
  | keyLoad (slot : Fin 64) (clear : Bool) (key : KeySlot)
  /-- DIE_RESET (R497): The command fences the named die, resets it and releases it 10 µs later. -/
  | dieReset (d : Die)
  /-- DIE_RESET_RELEASE (R115): A die leaves a reset outside a start, re-applying its wear entries with every edge fenced. -/
  | dieResetRelease (d : Die)
  /-- BIST_ENTER (R590): The command loads BIST_REQ and starts a BIST, or is refused. -/
  | bistEnter (mask : BitVec 16) (set last : Byte)
  /-- SPARE_COMMIT (R521): The command commits a spare of one pool and queues a wear-map entry. -/
  | spareCommit (b : BitVec 128)
  /-- PPR_COMMIT (R360): The command starts an hPPR repair of one DRAM row. -/
  | pprCommit (c : Fin 8) (row : PprRow)
  /-- ERASE_JOURNAL (R459): The command writes a checkpoint and erases the journal. -/
  | eraseJournal
  /-- DEBUG_UNLOCK (R589): The command grants Skipper debug and hold until an expiry tick. -/
  | debugUnlock (skipper hold : Bool) (expiry : BitVec 64)
  /-- SET_TIME_ROOT (R497): The command changes the configured time-root role. -/
  | setTimeRoot (root : Bool)
  /-- PROVISION_DATA_WRITE (R504): A write of KEYS_PROV_DATA stores a word of the selected provisioning item. -/
  | provisionDataWrite (i : Init) (v : Word)
  /-- PROVISION_BURN (R504): A write of KEYS_PROV_CMD.burn burns the provisioning items, sets PROVISIONED and restarts, or is refused. -/
  | provisionBurn (i : Init)
  /-- DDR_RETRAIN (R344): The retrain operation of DDR_CMD retrains one channel at the grade of the start. -/
  | ddrRetrain (i : Init) (c : Fin 8)
  /-- DDR_TRAINING_DONE (R343): A channel training completes and the channel becomes READY or FAILED. -/
  | ddrTrainingDone (c : Fin 8) (spd : Option Spd) (ok : Bool)
  /-- DDR_ALERT (R345): DDRc_ALERT# reports a parity error; the channel recovers and reissues, or retrains on a second within 1 ms. -/
  | ddrAlert (c : Fin 8)
  /-- DDR_REQUEST (R352): A channel serves a read or write, correcting, reporting or refusing as the code requires. -/
  | ddrRequest (c : Fin 8) (h : Hdr) (lines : List Line) (x : DramIn)
  /-- REFRESH_POINT (R355): At a refresh point, a fixed refresh stalls every channel or a quiet debt is incurred. -/
  | refreshPoint
  /-- DIMM_TEMP_READ (R357): Every 2^18 tb each channel reads its DIMM sensors and IOS decides the hot state. -/
  | dimmTempRead (c : Fin 8) (t0 t1 : Option Byte)
  /-- DDR_SET_COMMIT (R347): A write of DDR_SET_COMMIT validates the staged set table and pends it. -/
  | ddrSetCommit (i : Init)
  /-- DDR_REC_POP (R362): A read of DDR_REC_LO pops the oldest channel record. -/
  | ddrRecPop (c : Fin 8) (peek : Bool)
  /-- PPR_REPAIR_DONE (R360): A repair ends, the channel returns to READY or retrains on failure. -/
  | pprRepairDone (c : Fin 8) (ok left : Bool)
  /-- MIU_RANGE_ENABLE (R367): The enable operation of MIU_CMD locks the slot and starts a sweep, or is refused. -/
  | miuRangeEnable (i : Init) (r : Fin 16)
  /-- MIU_RANGE_DISABLE (R368): The disable operation of MIU_CMD drains the range, sweeps it to zero and unlocks its slot. -/
  | miuRangeDisable (i : Init) (r : Fin 16)
  /-- MIU_SWEEP_DONE (R367): A range's sweep ends on every channel, so it enters ON or OFF. -/
  | miuSweepDone
  /-- MIU_REQUEST (R379): The MIU checks a DRAM request against protected ranges and reads, writes or blocks it. -/
  | miuRequest (c : Fin 8) (h : Hdr) (lines : List Line) (x : DramIn)
  /-- MIU_METADATA_FETCH_DONE (R378): A counter line or tree node arrives and is verified, or a second mismatch is a tree fault. -/
  | miuMetadataFetchDone (c : Fin 8) (r : Fin 16) (level : Fin 15) (idx : Nat) (got : Option (Option (BitVec 512))) (evict : List (Fin 16 × Nat))
  /-- MIU_REC_POP (R385): A read of MIU_REC_LO pops the oldest MIU record. -/
  | miuRecPop (d : IoDie) (peek : Bool)
  /-- RECORD_PORT_WORD (R387): A record port takes a word, opening, extending or closing a record. -/
  | recordPortWord (e : IoDie) (p : Fin 16) (data : BitVec 256) (sb : BitVec 16) (last : Bool)
  /-- RECORD_WRITE_ANSWER (R397): A record write is answered; a status other than OK puts the port in ERROR. -/
  | recordWriteAnswer (e : IoDie) (p : Fin 16) (status : Byte)
  /-- RECORD_SEG_BIND (R394): A write of RECORD_Pp_SEG with bind = 1 binds the port at its next record boundary. -/
  | recordSegBind (i : Init) (e : IoDie) (p : Fin 16) (seg : BitVec 16)
  /-- RECORD_SEG_UNBIND (R394): A write of RECORD_Pp_SEG with bind = 0 unbinds the port at its next record boundary. -/
  | recordSegUnbind (i : Init) (e : IoDie) (p : Fin 16) (seg : BitVec 16)
  /-- DIR_DEFINE (R391): RECORD_DIR_CMD op 1 defines a directory entry from the staged values or is refused. -/
  | dirDefine (i : Init)
  /-- DIR_RELEASE (R410): RECORD_DIR_CMD op 2 returns an entry to FREE. -/
  | dirRelease (i : Init)
  /-- DIR_EMPTY (R410): RECORD_DIR_CMD op 3 sets oldest to commit. -/
  | dirEmpty (i : Init)
  /-- PWRFAIL (R399): PWRFAIL# held low for 1 µs starts a flush of both engines. -/
  | pwrfail
  /-- POWER_FAIL_FLUSH_DONE (R399): The flush's outstanding writes answer and one commit runs, setting flushed or incomplete. -/
  | powerFailFlushDone (inTime : Bool)
  /-- QUERY_GO (R401): A write of RECORD_QS_CTRL.go checks the key and queues a query. -/
  | queryGo (e : IoDie) (slot : Fin 64) (key : Fin 64)
  /-- QUERY_CANCEL (R407): RECORD_QS_CTRL.cancel stops or removes a query with status 7. -/
  | queryCancel (e : IoDie) (slot : Fin 64) (units : Nat)
  /-- QUERY_CLEAR (R410): RECORD_QS_CTRL.clear returns a DONE or ERROR slot to IDLE. -/
  | queryClear (e : IoDie) (slot : Fin 64)
  /-- QUERY_DONE (R406): A query's data writes are answered, its result header is written and it ends. -/
  | queryDone (e : IoDie) (slot : Fin 64) (wrStatus : Byte) (rdFail : Option (Nat × Byte))
  /-- STAGING_PUSH (R431): CFG_STG_CTRL.push hands a staging half to the loader. -/
  | stagingPush (i : Init) (half : Bool) (len : Nat) (freed0 freed1 : Bool)
  /-- STAGING_ABORT (R434): CFG_STG_CTRL.abort ends the container early, aborting the load. -/
  | stagingAbort (i : Init)
  /-- STAGING_TIMEOUT (R434): No push arrives for CFG_STG_TIMEOUT, so the load aborts. -/
  | stagingTimeout
  /-- PERSONALITY_DEADLINE (R429): The personality deadline reaches 0, so the device goes on with the shell alone. -/
  | personalityDeadline
  /-- NVM_READ (R437): NVM_CMD op 1 reads flash into the Hawkmoth data SRAM. -/
  | nvmRead (i : Init) (flash : Bool)
  /-- NVM_PROGRAM (R437): NVM_CMD op 2 programs flash from the data SRAM. -/
  | nvmProgram (i : Init) (flash : Bool)
  /-- NVM_ERASE (R437): NVM_CMD op 3 erases a 64 KiB sector. -/
  | nvmErase (i : Init) (flash : Bool)
  /-- NVM_TRANSFER_DONE (R437): An NVM transfer ends with done or error. -/
  | nvmTransferDone (reason : Fin 6)
  /-- CORE_LOAD (R474): A write of CORE_LOAD starts loading a Skipper or is refused. -/
  | coreLoad (i : Init) (core : Fin 16)
  /-- CORE_LOAD_DONE (R474): A Skipper's segment verifies and it leaves reset, or it stays in reset. -/
  | coreLoadDone (stored : Option (List Byte))
  /-- CORE_CTRL_RESET (R476): A write of CORE_CTRL.reset holds or releases a Skipper. -/
  | coreCtrlReset (i : Init) (c : Core) (v : Bool)
  /-- WATCHDOG_START (R475): A write of CORE_WDOG_CFG.en starts a core's watchdog. -/
  | watchdogStart (c : Core) (v : Word)
  /-- WATCHDOG_KICK (R475): A write of 0x0000_A5A5 to CORE_WDOG_KICK reloads the watchdog. -/
  | watchdogKick (c : Core) (v : Word)
  /-- WATCHDOG_EXPIRY (R476): A watchdog expires, resetting the core. -/
  | watchdogExpiry (c : Core)
  /-- HEARTBEAT_KICK (R477): The Hawkmoth writes CORE_HB_KICK. -/
  | heartbeatKick (i : Init)
  /-- LOCKSTEP_MISMATCH (R479): The Hawkmoth pair disagrees, so both cores are held in reset and the device enters the safe state. -/
  | lockstepMismatch
  /-- MAILBOX_PUSH (R480): A write of CORE_MB_IN pushes a word with its source, or gets RETRY when full. -/
  | mailboxPush (c : Core) (w : Word) (i : Init) (dbg : Bool)
  /-- MAILBOX_POP (R480): A read of CORE_MB_POP pops the oldest word and captures its source. -/
  | mailboxPop (c : Core) (peek : Bool)
  /-- CORE_BUS_ACCESS (R469): A core load or store leaves as a NoC request, faulting or latching CORE_BUSERR on failure. -/
  | coreBusAccess (c : Core) (op : CoreOp) (addr : Word) (err : SramErr) (pins : BitVec 64)
  /-- PORT_ACCESS (R483): A core load or store to the private GPIO port reads inputs or updates outputs. -/
  | portAccess (c : Core) (reg : Fin 16) (write : Option Word) (pins : BitVec 64)
  /-- ERROR_REPORT (R509): An error block takes a report, counting, logging and routing it and forwarding it to IOS. -/
  | errorReport (d : Die) (src : Fin 16) (c : ErrClass) (region : Fin 32) (detail : BitVec 16)
  /-- ERR_LOG_POP (R527): A read of ERR_LOG_LO pops the oldest log entry. -/
  | errLogPop (d : Die) (peek : Bool)
  /-- ERR_FAIL_REGION (R517): ERR_CMD op 1 takes a RUNNING region into FAILED. -/
  | errFailRegion (i : Init) (d : FabDie) (r : Fin 32)
  /-- SCRUB_BACKGROUND_READ (R513): At each gap × 64 tb the scrubber checks one frame. -/
  | scrubBackgroundRead (d : FabDie) (e : FrameErr)
  /-- AGING_MEASURE (R519): Every 2^24 tb each aging monitor measures its slowdown. -/
  | agingMeasure (l : List (Die × Fin 24 × BitVec 16))
  /-- WEAR_MAP_WRITE_DONE (R524): An entry's write to both wear-map copies completes, or fails. -/
  | wearMapWriteDone (first second : Bool)
  /-- FABRIC_PLL_UNLOCK (R533): A fabric PLL loses lock and its outputs stop. -/
  | fabricPllUnlock (d : FabDie) (k : Fin 8)
  /-- FABRIC_PLL_RELOCK (R533): A fabric PLL relocks and its outputs resume. -/
  | fabricPllRelock (d : FabDie) (k : Fin 8)
  /-- FREQ_METER_START (R537): CLK_FMm_N.start starts a frequency meter. -/
  | freqMeterStart (m : Fin 16) (v : Word)
  /-- FREQ_METER_DONE (R537): A meter's gate ends and its count is posted. -/
  | freqMeterDone (m : Fin 16) (count : Nat)
  /-- CLOCK_GATE_REQUEST (R538): Writing 1 to a CLK_GATE bit requests idle of the block. -/
  | clockGateRequest (i : Init) (d : Die) (b : Fin 30)
  /-- CLOCK_GATE_OPEN (R538): Writing 0 to a CLK_GATE bit opens the gate. -/
  | clockGateOpen (i : Init) (d : Die) (b : Fin 30)
  /-- CLOCK_GATE_IDLE_ACK (R538): The block acknowledges idle and its gate closes. -/
  | clockGateIdleAck (d : Die) (b : Fin 30)
  /-- CLOCK_GATE_TIMEOUT (R538): No acknowledgement in 4,096 cycles withdraws the request. -/
  | clockGateTimeout (d : Die) (b : Fin 30)
  /-- RAIL_SAMPLE (R541): Each rail monitor samples its rail, recording a fault after two out-of-window samples. -/
  | railSample (d : Die) (bad : Byte) (low : Bool) (levels : BitVec 4)
  /-- CORE_RAIL_RECOVER (R541): 1 ms after the rail returns the die leaves reset. -/
  | coreRailRecover (d : Die)
  /-- THROTTLE_WINDOW_END (R543): At a 16 µs window end each throttle source adjusts its level. -/
  | throttleWindowEnd (amps : List (BitVec 12)) (mw : List Nat)
  /-- THERMAL_SAMPLE (R545): Each die reads its four sensors, validates them and sets warn and throttle. -/
  | thermalSample (d : Die) (t0 : BitVec 12) (t1 : BitVec 12) (t2 : BitVec 12) (t3 : BitVec 12)
  /-- GPIO_FUNC_WRITE (R559): A write of GPIO_Pj_CFG claims, releases or changes a pin's function, or is refused. -/
  | gpioFuncWrite (i : Init) (d : IoDie) (j : Fin 64) (v : Word)
  /-- GPIO_SWITCH_END (R558): The 2-cycle break-before-make hold ends and the new function drives the pin. -/
  | gpioSwitchEnd (d : IoDie) (j : Fin 64)
  /-- ADC_CONVERSION (R562): The monitor ADC converts the next analogue pin. -/
  | adcConversion (d : IoDie) (j : Fin 64) (steps : Nat)
  /-- TIMER_CAPTURE (R563): A timer captures a selected edge with a timebase stamp. -/
  | timerCapture (d : IoDie) (t : Fin 8) (rising : Bool) (count : Nat)
  /-- TRIGGER_OWN_WRITE (R565): A write of GPIO_TRIGl_OWN claims or releases a trigger line, or is refused. -/
  | triggerOwnWrite (i : Init) (l : Fin 8) (v : Word)
  /-- TRIGGER_DRIVE_WRITE (R565): A write of GPIO_TRIGl_CTRL.drive pulls or releases a Hawkmoth-owned line. -/
  | triggerDriveWrite (i : Init) (l : Fin 8) (v : Word)
  /-- TRIGGER_EDGE (R567): A trigger line falls; it is stamped, counted and optionally sent as an event. -/
  | triggerEdge (l : Fin 8) (stamp : BitVec 72) (ext : Byte) (drained : Nat)
  /-- TRIGGER_PULSE_END (R332): An ERT trigger pulse's width ends and the line is released. -/
  | triggerPulseEnd (l : Fin 8)
  /-- DBG_CLAIM (R570): DBG_OWN.claim gives the master to the writer's path, or conflicts. -/
  | dbgClaim (path : DbgPath)
  /-- DBG_RELEASE (R570): DBG_OWN.release ends the owner's ownership. -/
  | dbgRelease (path : DbgPath)
  /-- DBG_BM_READ (R585): DBG_BM_CMD.read issues a debug read of one word. -/
  | dbgBmRead (path : DbgPath) (consume : Bool) (env : CtlEnv)
  /-- DBG_BM_WRITE (R573): DBG_BM_CMD.write issues a debug write of one word. -/
  | dbgBmWrite (path : DbgPath) (env : CtlEnv)
  /-- DBG_BM_DONE (R573): A debug master access completes and its status is posted. -/
  | dbgBmDone
  /-- JTAG_DBGPATH_UPDATE (R572): Update-DR of DBGPATH reads or writes a word of the IOS DEBUG page. -/
  | jtagDbgpathUpdate (dr : BitVec 48) (env : CtlEnv)
  /-- CORE_HALT (R575): DBG_Cs_CMD.halt stops the core at its next instruction boundary. -/
  | coreHalt (i : Init) (c : Core) (dpc : Word)
  /-- CORE_RESUME (R578): DBG_Cs_CMD.resume restarts the core at DPC. -/
  | coreResume (i : Init) (c : Core)
  /-- CORE_STEP (R578): DBG_Cs_CMD.step runs one instruction and halts. -/
  | coreStep (i : Init) (c : Core) (out : FeedOut) (dpc : Word)
  /-- CORE_IFEED (R577): A write of DBG_Cs_IFEED runs one instruction on the halted core. -/
  | coreIfeed (i : Init) (c : Core) (w : Word) (out : FeedOut)
  /-- CORE_EBREAK_HALT (R580): An EBREAK on a Skipper with ebreak_halt halts it. -/
  | coreEbreakHalt (c : Core) (dpc : Word)
  /-- DTX_WRITE (R582): A core writes the dtx CSR, filling DBG_Cs_DTX or losing the word. -/
  | dtxWrite (c : Core) (w : Word)
  /-- DRX_READ (R582): A core reads the drx CSR, taking DBG_Cs_DRX. -/
  | drxRead (c : Core)
  /-- DRX_DEBUGGER_WRITE (R582): A debugger write of DBG_Cs_DRX fills it or is dropped. -/
  | drxDebuggerWrite (i : Init) (c : Core) (w : Word)
  /-- DTX_ACK (R582): The debugger writes 1 to dtx_full to acknowledge a DTX word. -/
  | dtxAck (i : Init) (c : Core) (v : Word)
  /-- MDATA_ACCESS (R584): A read or write of DBG_Cs_MDATA accesses the SRAM word at MADDR and may advance it. -/
  | mdataAccess (i : Init) (c : Core) (write : Option Word) (err : SramErr)
  /-- BIST_START (R590): BIST_CTRL.start in BLANK starts the requested BIST. -/
  | bistStart (i : Init)
  /-- BIST_ABORT (R592): BIST_CTRL.abort stops every running set. -/
  | bistAbort
  /-- BIST_DIE_START (R593): A queued die starts its sets when the scheduler allows. -/
  | bistDieStart (d : Die)
  /-- BIST_DIE_DONE (R592): A die finishes its sets; results are written and it is reset. -/
  | bistDieDone (d : Die) (r : BistOut)
  /-- PERST_RELEASE (R427): PERST# is released, starting the endpoint's configuration-retry and BAR-decode deadlines that the personality deadline counts from. -/
  | perstRelease (after : Fin 160000001)
  /-- UCIE_LINK_TRAINED (R260): UCIe training of the accessory link ends, so the bridge sends its discovery request, or the state becomes DOWN on failure. -/
  | ucieLinkTrained (ok : Bool) (rate : Fin 8)
  /-- LANE_PLL_LOCKED (R268): A quad's lane PLL reaches lock, setting a_lock or b_lock, so lanes taking its rate can start. -/
  | lanePllLocked (d : IoDie) (q : Fin 21) (b : Bool)
  /-- LANE_PLL_LOCK_LOST (R297): A running lane PLL loses lock, setting LQ_EVT.pll_unlock and leaving its lanes without a clock. -/
  | lanePllLockLost (d : IoDie) (q : Fin 21) (b : Bool)
  /-- CORUG_MARGIN_LOW (R251): An in-service margin sweep finds a Corug receive wire below margin_thr, setting margin_low and CORUG_Mm_MARGIN. -/
  | corugMarginLow (d : Die) (m : Fin 32) (wire : Fin 66) (margin : Fin 64)
  /-- CORUG_SWAP_DONE (R251): The 64 port cycles of a spare-wire swap end; the module carries traffic again and swap_done is set. -/
  | corugSwapDone (d : Die) (m : Fin 32)
  /-- DIR_MIRROR_REBUILD_DONE (R393): IOS finishes rewriting the ION directory mirror entry by entry in the background and sets RECORD_STAT.mirror_ok. -/
  | dirMirrorRebuildDone
  /-- MACHINE_TIMER_INTERRUPT (R482): A core's mtime reaches CORE_MTIMECMP, so its machine timer interrupt becomes pending. -/
  | machineTimerInterrupt (c : Core)
  /-- TRIGGER_PULSE_START (R332): At boundary act-at plus delay, an ERT trigger-pulse action pulls its owned trigger line low. -/
  | triggerPulseStart (l : Fin 8)
  /-- TIMER_PULSE_END (R563): A pulse-mode timer's width + 1 GPIO-clock cycles run out and its output deasserts. -/
  | timerPulseEnd (d : IoDie) (t : Fin 8)
deriving DecidableEq, Repr

end Sys2Proof
end

