-- ==== Sys2Proof/WellFormed.lean ====
section
/-! DEFINITION. Which operands of a command are well formed: the values that the outside can supply under the spec's own
ranges (an initiator names a die that exists, a block exists, a field fits its place in a frame). `exec` does not ask for
it: it is total, and answers ill-formed operands too; `wf` marks the commands that can come from outside. -/

namespace Sys2Proof

open Sys2Proof.Machine

/-- An initiator ID names a die that exists (R185). -/
def wfInit (i : Init) : Bool := decide (i.toNat / 256 < 10)

/-- What a slack monitor watches exists: a router of the mesh, a region of a fabric die, a duty of the quiet window (R79). -/
def wfMonitor (m : Monitor) : Bool :=
  match m with
  | .router x y => decide (x < 16 ∧ y < 10)
  | .region d i => decide (2 ≤ d.val ∧ i < 24)
  | .duty _ code => decide (1 ≤ code ∧ code ≤ 4)

/-- A wrong frame has at least one wrong bit of its 4,123 stored bits (R512). -/
def wfFrameErr (e : FrameErr) : Bool := decide (1 ≤ e.bits ∧ e.bits ≤ 4123)

/-- What the scrubbers find lies among the 57,600 frames of the walk (R513). -/
def wfQuiet (q : QuietIn) : Bool := q.frameErrors.all (fun e => decide (e.2.1 < 57600) && wfFrameErr e.2.2)

/-- What a boundary brings: monitors that exist, duty codes of the quiet window, one of three copies (R518). -/
def wfBoundary (b : BoundaryIn) : Bool :=
  b.offsets.all (fun e => wfMonitor e.1) && b.lateDuties.all (fun e => decide (1 ≤ e.2 ∧ e.2 ≤ 4)) &&
  b.ctlUpsets.all (fun e => decide (e.2.1 < 3))

/-- A memory block of the die's columns (R152). -/
def wfBlk (b : Blk) : Bool :=
  if b.deep then decide (b.col < 8 ∧ b.row < 100) else decide (b.col < 20 ∧ b.row < 150)

/-- The words of a block (R151). -/
def blkWords (b : Blk) : Nat := if b.deep then 4096 else 512

/-- A port of a block has a width that its type allows (R155). -/
def wfPort (b : Blk) (p : MemPort) : Bool := if b.deep then decide (p.width = 64) else [8, 16, 32, 64].contains p.width

/-- The addresses of a port (R155). -/
def portAddrs (b : Blk) (p : MemPort) : Nat := blkWords b * (64 / p.width)

/-- A packet carries at most eight lines (R191). -/
def wfLineCount (l : List Line) : Bool := decide (l.length ≤ 8)

/-- A packet carries at most eight data flits (R191). -/
def wfFlits (l : List Flit) : Bool := decide (l.length ≤ 8)

/-- A write carries one to eight lines, a read none (R192). -/
def wfLines (write : Bool) (l : List Line) : Bool :=
  if write then decide (1 ≤ l.length ∧ l.length ≤ 8) else l.isEmpty

/-- A request of an initiator that exists, with the lines of its kind (R187). -/
def wfRequest (r : NocReq) : Bool := wfInit r.src && wfLines r.write r.lines

/-- The fields of a header fit their places (R191). -/
def wfHdr (h : Hdr) : Bool :=
  decide (h.dstX < 16 ∧ h.dstY < 16 ∧ h.dstEp < 256 ∧ h.srcX < 16 ∧ h.srcY < 16 ∧ h.srcId < 4096 ∧ h.opcode < 16) &&
  decide (h.key < 64 ∧ h.queue < 32 ∧ h.seq < 1024 ∧ h.slot < 4096 ∧ h.flits ≤ 8 ∧ h.addr < 2 ^ 48 ∧ h.count < 512) &&
  decide (h.status < 256 ∧ h.hops < 256)

/-- A memory frame carries at most eight line groups (R334). -/
def wfFrame (m : MemFrame) : Bool := wfLineCount m.lines && wfInit m.src

/-- At most the descriptors of one queue have started (R295). -/
def wfEnv (e : CtlEnv) : Bool := decide (e.started ≤ 0x10000)

/-- An access of an initiator that exists (R185); its place and its size are checked by the die (R6). -/
def wfAccess (a : CtlAccess) : Bool := wfInit a.src && wfEnv a.env

/-- What the DIMMs return has at most the eight lines of a packet (R352). -/
def wfDram (x : DramIn) : Bool := decide (x.lines.length ≤ 8)

/-- What a target's outside supplies: at most eight lines an answer (R191). -/
def wfTarget (x : TargetIn) : Bool :=
  wfDram x.dimm && wfEnv x.env && x.earlier.all (fun e => wfLineCount e.2) && x.reply.all (fun e => wfLineCount e.2)

/-- The SPD of a fitted channel: one or two ranks on each DIMM (R340). -/
def wfSpd (x : Spd) : Bool := decide (x.dimms.val = 0 ∨ 1 ≤ x.ranks.val)

/-- A header carried by a start step agrees with its segment count (R411). -/
def wfHeader (h : Header) : Bool := decide (h.segs.length = h.count.toNat)

/-- What a start step is shown: headers that agree with their counts. -/
def wfStep (i : StepIn) : Bool := i.copy0.all wfHeader && i.copy1.all wfHeader

/-- The sweeps of a training name each module of the edge at most once (R249). -/
def wfSweeps (l : List WireSweep) : Bool := decide ((l.map (·.k)).Nodup)

/-- A well-formed command: its operands are ones that the outside can supply. One arm per command. -/
def wf (i : Instr) : Bool :=
  match i with
  | .powerGood _ => true
  | .safeoscReady => true
  | .vauxLoss => true
  | .sysrstAssert => true
  | .timebaseLock delays => decide (delays.length ≤ 10)
  | .s1LockWaitRecord => true
  | .clockMonitorFault => true
  | .tickBoundary b => wfBoundary b
  | .quietWindowOpen q => wfQuiet q
  | .segmentCommit _ _ => true
  | .heartbeatCheck => true
  | .tickArm _ => true
  | .tickCancel => true
  | .slackOverrun m _ _ _ q => wfMonitor m && wfQuiet q
  | .registerWrite _ a => wfAccess a
  | .readClearRegister _ a => wfAccess a
  | .startStepEnd i => wfStep i
  | .startStepTimeout i => wfStep i
  | .journalRecordWrite _ _ => true
  | .journalEraseDone _ => true
  | .wakeGovernorAdmit _ _ => true
  | .releaseRampStep _ => true
  | .regionDrainIdle _ _ => true
  | .regionDrainTimeout _ => true
  | .containerHeaderCheck h => wfHeader h
  | .frameRecord _ _ _ _ => true
  | .segmentVerify _ _ => true
  | .regionFillDone init binds _ bad =>
      init.all (fun e => wfBlk e.1 && decide (e.2.1 < blkWords e.1)) && bad.all (fun e => wfBlk e.1 && decide (e.2 < blkWords e.1)) &&
      binds.all (fun e => e.region.isNone || decide (2 ≤ e.die.val))
  | .powerOnFillDone d bad =>
      bad.all (fun e => wfBlk ⟨d, e.1, e.2.1, e.2.2.1⟩ && decide (e.2.2.2 < blkWords ⟨d, e.1, e.2.1, e.2.2.1⟩))
  | .cmbResidueMismatch _ _ _ _ _ _ => true
  | .cmbMismatchReport _ n => decide (1 ≤ n)
  | .cmberrRecPop _ _ => true
  | .memoryPortRead b p a _ _ => wfBlk b && wfPort b p && decide (a < portAddrs b p)
  | .memoryPortWrite b p a _ _ _ => wfBlk b && wfPort b p && decide (a < portAddrs b p)
  | .memorySleep b => wfBlk b
  | .memoryWakeDone b _ => wfBlk b
  | .memoryWindowRequest _ _ => true
  | .memoryWindowBusy _ => true
  | .meccReport _ => true
  | .meccRecPop _ _ => true
  | .meccInjWrite _ _ => true
  | .nocRequestIssue r => wfRequest r
  | .heldRequestAdmit i _ _ => wfInit i
  | .nocFence i _ => wfInit i
  | .routerHeader _ _ _ _ _ flits _ => wfFlits flits
  | .targetRequest _ flits _ x => wfFlits flits && wfTarget x
  | .niResponse _ flits _ => wfFlits flits
  | .notify _ _ => true
  | .retryReissue i _ _ _ => wfInit i
  | .nocResponseTimeout i _ _ => wfInit i
  | .scheduleSwapArm _ => true
  | .scheduleSwapCancel => true
  | .scheduleBankCheckDone _ => true
  | .probeEnable _ _ _ _ => true
  | .probeDisable _ _ => true
  | .probeForceTrigger _ _ => true
  | .probeForceStop _ _ => true
  | .probeTrigEdge _ _ => true
  | .probeTraceWrite _ _ => true
  | .probeTraceWriteDone _ _ _ => true
  | .statsCapture _ => true
  | .statsClear _ => true
  | .statsPin _ => true
  | .statsUnpin _ => true
  | .tunnelFrame _ _ _ => true
  | .streamSlot _ _ _ _ _ => true
  | .corugTrain i _ _ => wfInit i
  | .corugTrainDone _ _ near far => wfSweeps near && wfSweeps far
  | .corugUnfence i _ _ => wfInit i
  | .corugResync i _ _ _ _ => wfInit i
  | .fenceNotice _ _ _ => true
  | .edgeNoValidFrames _ _ => true
  | .statusLinkFence _ => true
  | .statusLinkFrame _ => true
  | .ucieDiscoveryReply _ => true
  | .ucieDiscoveryTimeout => true
  | .ucieUnit _ => true
  | .uciePartnerRequest r => wfLines r.write r.lines
  | .ucieLinkDown => true
  | .ucieAdmit i => wfInit i
  | .ucieDown i => wfInit i
  | .laneRetrain i _ _ _ => wfInit i
  | .laneStop i _ _ _ => wfInit i
  | .laneStart i _ _ _ => wfInit i
  | .lanePllWrite i _ _ _ _ => wfInit i
  | .trainingBlock _ _ _ => true
  | .trainingRoundEnd _ _ _ _ _ _ => true
  | .trainingTimeout _ _ _ => true
  | .laneBlock _ _ _ _ _ => true
  | .alignBlock _ _ _ _ => true
  | .perstAssert => true
  | .pcieHotReset => true
  | .pcieFlr => true
  | .pcieLinkDown => true
  | .pcieLinkUp _ _ => true
  | .pcieHostRequest _ write _ count lines _ => wfLines write lines && decide (count ≤ 512)
  | .dmaTailWrite _ _ => true
  | .dmaQueueEnable _ _ => true
  | .dmaQueueDisable _ _ => true
  | .dmaDescriptorDone _ _ _ _ _ => true
  | .hostDoorbell i _ => wfInit i
  | .hello _ _ => true
  | .fstart _ _ body => decide (body.length % 8 = 0 ∧ body.length ≤ 608)
  | .ack _ _ => true
  | .nak _ _ => true
  | .replayTimeout _ => true
  | .goodbye _ _ => true
  | .helloTimeout _ => true
  | .portRetryTimeout _ => true
  | .itaPortDownOp i _ => wfInit i
  | .itaPortUpOp i _ => wfInit i
  | .itaRejoin i _ => wfInit i
  | .itaRehome i _ => wfInit i
  | .tsync _ _ _ _ => true
  | .calibrationTimeout _ => true
  | .timeFrame _ _ => true
  | .joinReq _ _ => true
  | .joinGrant _ _ _ _ _ => true
  | .joinRefuse _ reason => decide (1 ≤ reason ∧ reason ≤ 5)
  | .joinLoad _ => true
  | .routeAdd _ _ => true
  | .routeDel _ _ => true
  | .report _ _ => true
  | .reportSend => true
  | .eventFrame _ _ => true
  | .itaEvsend _ _ => true
  | .evtSend _ _ _ _ _ _ => true
  | .itaHevPop _ => true
  | .remoteMemoryRequest _ m => wfFrame m
  | .remoteMemoryResponse _ m => wfFrame m
  | .commandFrame _ _ => true
  | .cmdHsubmit i _ => wfInit i
  | .commandCheck => true
  | .counterCheckpointDone => true
  | .fuseBurnDone _ => true
  | .loadPersonality _ _ _ => true
  | .loadRegion _ _ _ => true
  | .setLifecycle _ => true
  | .rekey _ _ => true
  | .keyLoad _ _ _ => true
  | .dieReset _ => true
  | .dieResetRelease _ => true
  | .bistEnter _ _ _ => true
  | .spareCommit _ => true
  | .pprCommit _ _ => true
  | .eraseJournal => true
  | .debugUnlock _ _ _ => true
  | .setTimeRoot _ => true
  | .provisionDataWrite i _ => wfInit i
  | .provisionBurn i => wfInit i
  | .ddrRetrain i _ => wfInit i
  | .ddrTrainingDone _ spd _ => spd.all wfSpd
  | .ddrAlert _ => true
  | .ddrRequest _ h lines x => wfHdr h && wfLineCount lines && wfDram x
  | .refreshPoint => true
  | .dimmTempRead _ _ _ => true
  | .ddrSetCommit i => wfInit i
  | .ddrRecPop _ _ => true
  | .pprRepairDone _ _ _ => true
  | .miuRangeEnable i _ => wfInit i
  | .miuRangeDisable i _ => wfInit i
  | .miuSweepDone => true
  | .miuRequest _ h lines x => wfHdr h && wfLineCount lines && wfDram x
  | .miuMetadataFetchDone _ _ _ _ _ _ => true
  | .miuRecPop _ _ => true
  | .recordPortWord _ _ _ _ _ => true
  | .recordWriteAnswer _ _ _ => true
  | .recordSegBind i _ _ _ => wfInit i
  | .recordSegUnbind i _ _ _ => wfInit i
  | .dirDefine i => wfInit i
  | .dirRelease i => wfInit i
  | .dirEmpty i => wfInit i
  | .pwrfail => true
  | .powerFailFlushDone _ => true
  | .queryGo _ _ _ => true
  | .queryCancel _ _ _ => true
  | .queryClear _ _ => true
  | .queryDone _ _ _ _ => true
  | .stagingPush i _ _ _ _ => wfInit i
  | .stagingAbort i => wfInit i
  | .stagingTimeout => true
  | .personalityDeadline => true
  | .nvmRead i _ => wfInit i
  | .nvmProgram i _ => wfInit i
  | .nvmErase i _ => wfInit i
  | .nvmTransferDone _ => true
  | .coreLoad i _ => wfInit i
  | .coreLoadDone _ => true
  | .coreCtrlReset i _ _ => wfInit i
  | .watchdogStart _ _ => true
  | .watchdogKick _ _ => true
  | .watchdogExpiry _ => true
  | .heartbeatKick i => wfInit i
  | .lockstepMismatch => true
  | .mailboxPush _ _ i _ => wfInit i
  | .mailboxPop _ _ => true
  | .coreBusAccess _ _ _ _ _ => true
  | .portAccess _ _ _ _ => true
  | .errorReport _ _ _ _ _ => true
  | .errLogPop _ _ => true
  | .errFailRegion i _ _ => wfInit i
  | .scrubBackgroundRead _ e => wfFrameErr e
  | .agingMeasure l => l.all (fun e => decide (2 ≤ e.1.val))
  | .wearMapWriteDone _ _ => true
  | .fabricPllUnlock _ _ => true
  | .fabricPllRelock _ _ => true
  | .freqMeterStart _ _ => true
  | .freqMeterDone _ _ => true
  | .clockGateRequest i _ _ => wfInit i
  | .clockGateOpen i _ _ => wfInit i
  | .clockGateIdleAck _ _ => true
  | .clockGateTimeout _ _ => true
  | .railSample _ _ _ _ => true
  | .coreRailRecover _ => true
  | .throttleWindowEnd amps mw => decide (amps.length ≤ 8 ∧ mw.length ≤ 10)
  | .thermalSample _ _ _ _ _ => true
  | .gpioFuncWrite i _ _ _ => wfInit i
  | .gpioSwitchEnd _ _ => true
  | .adcConversion _ _ _ => true
  | .timerCapture _ _ _ _ => true
  | .triggerOwnWrite i _ _ => wfInit i
  | .triggerDriveWrite i _ _ => wfInit i
  | .triggerEdge _ _ _ _ => true
  | .triggerPulseEnd _ => true
  | .dbgClaim _ => true
  | .dbgRelease _ => true
  | .dbgBmRead _ _ env => wfEnv env
  | .dbgBmWrite _ env => wfEnv env
  | .dbgBmDone => true
  | .jtagDbgpathUpdate _ env => wfEnv env
  | .coreHalt i _ _ => wfInit i
  | .coreResume i _ => wfInit i
  | .coreStep i _ _ _ => wfInit i
  | .coreIfeed i _ _ _ => wfInit i
  | .coreEbreakHalt _ _ => true
  | .dtxWrite _ _ => true
  | .drxRead _ => true
  | .drxDebuggerWrite i _ _ => wfInit i
  | .dtxAck i _ _ => wfInit i
  | .mdataAccess i _ _ _ => wfInit i
  | .bistStart i => wfInit i
  | .bistAbort => true
  | .bistDieStart _ => true
  | .bistDieDone _ _ => true
  | .perstRelease _ => true
  | .ucieLinkTrained _ _ => true
  | .lanePllLocked _ _ _ => true
  | .lanePllLockLost _ _ _ => true
  | .corugMarginLow _ _ _ _ => true
  | .corugSwapDone _ _ => true
  | .dirMirrorRebuildDone => true
  | .machineTimerInterrupt _ => true
  | .triggerPulseStart _ => true
  | .timerPulseEnd _ _ => true

end Sys2Proof
end

