-- ==== Sys2Proof/Config.lean ====
section
/-! DEFINITION. What an implementation fixes and the values the manual leaves open: constants without a body, so
that no proof can see what they are. -/

namespace Sys2Proof

/-- The free values (assumption 2): value n of a run. State holds the counter n. -/
opaque Config.free : Nat → BitVec 64

/-- The data of a configuration frame that a scrubber has miscorrected (R512; assumption 2). -/
opaque Config.freeFrame : Nat → BitVec 4096

/-- The fused table of CTLE codes by lane rate in kb/s (R274): peaking in bits [4:0], gain in [8:5]. The manual names the
table and gives no entry of it. -/
opaque Config.ctleCodes : Nat → BitVec 9

/-! ### The published cryptographic functions (assumption 8)

The manual names them and teaches none of them (Scope, "Standards the device uses"); the model leaves them
uninterpreted. Byte strings are numbers with a length, least significant byte first. -/

/-- AES-128 of one block under a key (R486, R488). -/
opaque Config.aes128 : BitVec 128 → BitVec 128 → BitVec 128

/-- SHA-384 of a byte string, as the byte string of its digest (R412, R414). -/
opaque Config.sha384 : List (BitVec 8) → BitVec 384

/-- ECDSA P-384 verification: public key bytes, digest, signature (r, s) (R412). -/
opaque Config.ecdsaHolds : BitVec 776 → BitVec 384 → BitVec 768 → Bool

/-- AES-256-GCM opening of a stored segment: key, nonce, additional data, stored bytes; the plaintext when the tag
verifies (R415). -/
opaque Config.gcmOpen : BitVec 256 → BitVec 96 → List (BitVec 8) → List (BitVec 8) → Option (List (BitVec 8))

end Sys2Proof
end

