-- ==== Sys2Proof/Machine/Codec.lean ====
section
/-! DEFINITION. Check codes and packed layouts: CRC-32C (R195), CRC-16 (R242), CRC-8 (R245), and the header of a packet
with its check bits (R191, R194). Numbers hold bits; byte j of a number is its bits [8j+7:8j]. -/

namespace Sys2Proof.Machine

/-- Bits [lo+len-1:lo] of a number. -/
def nbits (x lo len : Nat) : Nat := x / 2 ^ lo % 2 ^ len

/-- Bit i of a number. -/
def nbit (x i : Nat) : Bool := x / 2 ^ i % 2 == 1

/-- The n low bytes of a number, least significant first. -/
def bytesOf (n x : Nat) : List Nat :=
  match n with
  | 0 => []
  | n + 1 => x % 256 :: bytesOf n (x / 256)

/-- The number whose bytes are given, least significant first. -/
def ofBytes (l : List Nat) : Nat := l.foldr (fun b a => b + 256 * a) 0

/-- One step of a reflected CRC-32C register. -/
def crc32cBit (c : Nat) : Nat := if c % 2 = 1 then (c / 2) ^^^ 0x82F63B78 else c / 2

/-- A reflected CRC-32C register after one byte. -/
def crc32cByte (c b : Nat) : Nat :=
  crc32cBit (crc32cBit (crc32cBit (crc32cBit (crc32cBit (crc32cBit (crc32cBit (crc32cBit (c ^^^ b))))))))

/-- CRC-32C: reflected, initial value and final XOR 0xFFFF_FFFF (R195). -/
def crc32c (l : List Nat) : Nat := l.foldl crc32cByte 0xFFFFFFFF ^^^ 0xFFFFFFFF

/-- One step of a CRC register of width w with polynomial p, most significant bit first. -/
def crcBit (w p c : Nat) : Nat :=
  if c / 2 ^ (w - 1) % 2 = 1 then (c * 2 % 2 ^ w) ^^^ p else c * 2 % 2 ^ w

/-- n steps of such a register. -/
def crcBits (n w p c : Nat) : Nat :=
  match n with
  | 0 => c
  | n + 1 => crcBits n w p (crcBit w p c)

/-- CRC-16: polynomial 0x1021, initial value 0xFFFF, not reflected (R242). The bytes go lowest first and each byte most
significant bit first (DEDUCED, assumption 10). -/
def crc16 (l : List Nat) : Nat := l.foldl (fun c b => crcBits 8 16 0x1021 (c ^^^ b * 256)) 0xFFFF

/-- CRC-8: polynomial 0x07, initial value 0, not reflected (R245; byte order as for CRC-16, assumption 10). -/
def crc8 (l : List Nat) : Nat := l.foldl (fun c b => crcBits 8 8 0x07 (c ^^^ b)) 0

/-- The crc of data flit i (R195). -/
def lineCrc (l : Line) (i : Nat) : Word :=
  BitVec.ofNat 32 (crc32c (bytesOf 64 l.data.toNat ++ bytesOf 8 l.be.toNat ++ [i % 256]))

/-! ### The header (R191, R194) -/

/-- The header fields in bits [153:0]; bits [246:154] are 0 (R191). -/
def Hdr.pack (h : Hdr) : Nat :=
  h.dstX % 16 + h.dstY % 16 * 2 ^ 4 + h.dstEp % 256 * 2 ^ 8 + h.srcX % 16 * 2 ^ 16 + h.srcY % 16 * 2 ^ 20 +
  h.srcId % 4096 * 2 ^ 24 + h.opcode % 16 * 2 ^ 36 + h.cls.toNat * 2 ^ 40 + h.key % 64 * 2 ^ 41 + h.dbg.toNat * 2 ^ 47 +
  h.queue % 32 * 2 ^ 48 + h.seq % 1024 * 2 ^ 53 + h.slot % 4096 * 2 ^ 63 + h.flits % 16 * 2 ^ 75 +
  h.addr % 2 ^ 48 * 2 ^ 79 + h.count % 512 * 2 ^ 127 + h.status % 256 * 2 ^ 136 + h.hops % 256 * 2 ^ 144 +
  h.corrected.toNat * 2 ^ 152 + h.reissue.toNat * 2 ^ 153

/-- The header fields of a header's bits. -/
def Hdr.unpack (x : Nat) : Hdr :=
  { dstX := nbits x 0 4, dstY := nbits x 4 4, dstEp := nbits x 8 8, srcX := nbits x 16 4, srcY := nbits x 20 4,
    srcId := nbits x 24 12, opcode := nbits x 36 4, cls := nbit x 40, key := nbits x 41 6, dbg := nbit x 47,
    queue := nbits x 48 5, seq := nbits x 53 10, slot := nbits x 63 12, flits := nbits x 75 4, addr := nbits x 79 48,
    count := nbits x 127 9, status := nbits x 136 8, hops := nbits x 144 8, corrected := nbit x 152,
    reissue := nbit x 153 }

/-- Place n header bits, lowest first, at the codeword positions from p on that are not powers of two. -/
def hamPlace (n p x : Nat) : Nat :=
  match n with
  | 0 => 0
  | n + 1 =>
    let q := if p &&& (p - 1) = 0 then p + 1 else p
    (x % 2) * 2 ^ q + hamPlace n (q + 1) (x / 2)

/-- Collect n header bits from the codeword, from position p on. -/
def hamCollect (n p c : Nat) : Nat :=
  match n with
  | 0 => 0
  | n + 1 =>
    let q := if p &&& (p - 1) = 0 then p + 1 else p
    nbits c q 1 + 2 * hamCollect n (q + 1) c

/-- The XOR of the numbers of the set positions among the n positions from p on. -/
def hamSyn (n p c : Nat) : Nat :=
  match n with
  | 0 => 0
  | n + 1 => (if nbit c p then p else 0) ^^^ hamSyn n (p + 1) c

/-- The parity of the n bits of x from bit p on. -/
def parityFrom (n p x : Nat) : Bool :=
  match n with
  | 0 => false
  | n + 1 => xor (nbit x p) (parityFrom n (p + 1) x)

/-- The codeword of a header's 256 bits: header bits at their positions, check bit k at position 2^k (R194). -/
def hamWord (x : Nat) : Nat :=
  hamPlace 247 3 (nbits x 0 247) + nbits x 247 1 * 2 ^ 1 + nbits x 248 1 * 2 ^ 2 + nbits x 249 1 * 2 ^ 4 +
  nbits x 250 1 * 2 ^ 8 + nbits x 251 1 * 2 ^ 16 + nbits x 252 1 * 2 ^ 32 + nbits x 253 1 * 2 ^ 64 +
  nbits x 254 1 * 2 ^ 128

/-- The 256 header bits with their check bits, for header bits [246:0]. -/
def hamEncode (x : Nat) : Nat :=
  let syn := hamSyn 256 0 (hamPlace 247 3 (nbits x 0 247))
  let y := nbits x 0 247 + nbits syn 0 8 * 2 ^ 247
  y + (parityFrom 255 0 y).toNat * 2 ^ 255

/-- What a check of a header finds: clean, corrected, or uncorrectable (R194, R196). -/
inductive HdrCheck where
  | clean (h : Hdr)
  | fixed (h : Hdr)
  | bad
deriving DecidableEq, Repr

/-- Check a header's 256 bits: every single error is corrected and every double error detected (R194). -/
def hamCheck (x : Nat) : HdrCheck :=
  let c := hamWord x
  let syn := hamSyn 256 0 c
  let odd := parityFrom 256 0 x
  if syn = 0 then (if odd then .fixed (Hdr.unpack (nbits x 0 247)) else .clean (Hdr.unpack (nbits x 0 247)))
  else if odd then .fixed (Hdr.unpack (hamCollect 247 3 (c ^^^ 2 ^ syn)))
  else .bad

end Sys2Proof.Machine
end

