-- ==== Sys2Proof/Machine/Crypto.lean ====
section
/-! DEFINITION. AES-CMAC and counter-mode key stream over the uninterpreted AES-128 (R376, R486, R488; assumption 8). Byte strings are lists
of numbers; a block is a number with its first byte lowest. -/

namespace Sys2Proof.Machine

/-- AES-128 of a block. -/
def aes (key : BitVec 128) (blk : Nat) : Nat := (Config.aes128 key (BitVec.ofNat 128 blk)).toNat

/-- The sixteen bytes of a block in the other order. -/
def revBlock (x : Nat) : Nat := ofBytes (bytesOf 16 x).reverse

/-- Doubling of a block in the field of CMAC, first byte most significant. -/
def cmacDouble (x : Nat) : Nat :=
  let b := revBlock x
  let y := b * 2 % 2 ^ 128
  revBlock (if 2 ^ 127 ≤ b then y ^^^ 0x87 else y)

/-- The chain of CMAC over the bytes that follow chain value c; `n` bounds the blocks. -/
def cmacChain (key : BitVec 128) (k1 k2 : Nat) (n : Nat) (c : Nat) (l : List Nat) : Nat :=
  match n with
  | 0 => c
  | n + 1 =>
    if l.length = 16 then aes key (c ^^^ ofBytes l ^^^ k1)
    else if l.length < 16 then aes key (c ^^^ ofBytes (l ++ [0x80]) ^^^ k2)
    else cmacChain key k1 k2 n (aes key (c ^^^ ofBytes (l.take 16))) (l.drop 16)

/-- AES-CMAC of a byte string. -/
def cmac (key : BitVec 128) (l : List Nat) : Nat :=
  let k1 := cmacDouble (aes key 0)
  cmacChain key k1 (cmacDouble k1) (l.length / 16 + 1) 0 l

end Sys2Proof.Machine
end

