-- ==== Sys2Proof/Machine/Regs.lean ====
section
/-! DEFINITION. The registers of the control pages: names, fields, and the table of access masks and reset
values, from the register summaries and field maps of the chapters (R13, R36 and each page's rule). -/

namespace Sys2Proof.Machine

/-- A field of a register: the register's place (page * 0x10000 + offset), its lowest bit and its width (R10). -/
structure Fld where
  reg : Nat
  lo : Nat
  len : Nat
deriving DecidableEq, Repr

/-! ### Register places: page number times 0x10000 plus offset (R16) -/

abbrev SYS_PART : Nat := 0x000000
abbrev SYS_DIE : Nat := 0x000004
abbrev SYS_UID_LO : Nat := 0x000008
abbrev SYS_UID_HI : Nat := 0x00000C
abbrev SYS_S4RES : Nat := 0x000010
abbrev SYS_S4FAULT : Nat := 0x000014
abbrev SYS_SCRATCH : Nat := 0x000018
abbrev TICK_P : Nat := 0x010000
abbrev TICK_Q : Nat := 0x010004
abbrev TICK_NEXT_P : Nat := 0x010008
abbrev TICK_NEXT_Q : Nat := 0x01000C
abbrev TICK_AT_LO : Nat := 0x010010
abbrev TICK_AT_HI : Nat := 0x010014
abbrev TICK_ARM : Nat := 0x010018
abbrev TICK_ARMSTAT : Nat := 0x01001C
abbrev TICK_ROLE : Nat := 0x010020
abbrev TICK_NUM_LO : Nat := 0x010040
abbrev TICK_NUM_HI : Nat := 0x010044
abbrev TICK_BND_LO : Nat := 0x010048
abbrev TICK_BND_HI : Nat := 0x01004C
abbrev TICK_NOW_LO : Nat := 0x010050
abbrev TICK_NOW_HI : Nat := 0x010054
abbrev TICK_STATUS : Nat := 0x010058
abbrev TICK_EVT : Nat := 0x01005C
abbrev TICK_EVTEN : Nat := 0x010060
abbrev TICK_OVR_CNT : Nat := 0x010064
abbrev TICK_OVR_SRC : Nat := 0x010068
abbrev TICK_OVR_TICK_LO : Nat := 0x01006C
abbrev TICK_OVR_TICK_HI : Nat := 0x010070
abbrev TICK_USE_MAX : Nat := 0x010074
abbrev TICK_RING : Nat := 0x010078
abbrev TICK_RING_ERR : Nat := 0x01007C
abbrev REGIONS_RUN : Nat := 0x900000
abbrev REGIONS_FAIL : Nat := 0x900004
abbrev REGIONS_EVT : Nat := 0x900008
abbrev REGIONS_EVTEN : Nat := 0x90000C
abbrev REGIONS_REMAP (n : Nat) : Nat := 0x900010 + n * 0x4
abbrev REGIONS_CREMAP : Nat := 0x900024
abbrev REGIONS_STATE (n : Nat) : Nat := 0x900100 + n * 0x20
abbrev REGIONS_ID (n : Nat) : Nat := 0x900104 + n * 0x20
abbrev REGIONS_SLACK (n : Nat) : Nat := 0x900108 + n * 0x20
abbrev REGIONS_OVR (n : Nat) : Nat := 0x90010C + n * 0x20
abbrev REGIONS_XFIFO (n : Nat) : Nat := 0x900110 + n * 0x20
abbrev REGIONS_ISO (n : Nat) : Nat := 0x900114 + n * 0x20
abbrev REGIONS_CAP (n : Nat) : Nat := 0x900118 + n * 0x20
abbrev REGIONS_ABORT (n : Nat) : Nat := 0x90011C + n * 0x20
abbrev CMBERR_CTRL : Nat := 0x740000
abbrev CMBERR_EVT : Nat := 0x740004
abbrev CMBERR_EVTEN : Nat := 0x740008
abbrev CMBERR_MARK : Nat := 0x74000C
abbrev CMBERR_MARK_SET : Nat := 0x740010
abbrev CMBERR_REC_LO : Nat := 0x740014
abbrev CMBERR_REC_HI : Nat := 0x740018
abbrev CMBERR_FIFO_STAT : Nat := 0x74001C
abbrev CMBERR_TOTAL : Nat := 0x740020
abbrev CMBERR_THR : Nat := 0x740024
abbrev CMBERR_CNT (n : Nat) : Nat := 0x740040 + n * 0x4
abbrev CMBERR_STICKY (n : Nat) (w : Nat) : Nat := 0x740400 + n * 0x40 + w * 0x4
abbrev MECC_CTRL : Nat := 0x760000
abbrev MECC_EVT : Nat := 0x760004
abbrev MECC_EVTEN : Nat := 0x760008
abbrev MECC_REC_LO : Nat := 0x76000C
abbrev MECC_REC_ADR : Nat := 0x760010
abbrev MECC_REC_TICK : Nat := 0x760014
abbrev MECC_FIFO_STAT : Nat := 0x760018
abbrev MECC_CE_CNT : Nat := 0x76001C
abbrev MECC_UE_CNT : Nat := 0x760020
abbrev MECC_SEL : Nat := 0x760024
abbrev MECC_BLK : Nat := 0x760028
abbrev MECC_INJ : Nat := 0x76002C
abbrev MECC_WAKE_MAX : Nat := 0x760030
abbrev NOC_CTRL : Nat := 0x580000
abbrev NOC_EVT : Nat := 0x580004
abbrev NOC_EVTEN : Nat := 0x580008
abbrev NOC_HDR_CE : Nat := 0x58000C
abbrev NOC_HDR_UE : Nat := 0x580010
abbrev NOC_DROP_LOC : Nat := 0x580014
abbrev NOC_CRC_CNT : Nat := 0x580018
abbrev NOC_CRC_LOC : Nat := 0x58001C
abbrev NOC_LOST_CNT : Nat := 0x580020
abbrev NOC_LOST_LOC : Nat := 0x580024
abbrev NOC_FENCE_CNT : Nat := 0x580028
abbrev NOC_RETRY_CNT : Nat := 0x58002C
abbrev NOC_RTR_SEL : Nat := 0x580030
abbrev NOC_RTR_STAT : Nat := 0x580034
abbrev NOC_RTR_SLACK : Nat := 0x580038
abbrev NOC_RTR_OVR : Nat := 0x58003C
abbrev PROBES_SCH_STATE : Nat := 0x600000
abbrev PROBES_SCH_EVT : Nat := 0x600004
abbrev PROBES_SCH_EVTEN : Nat := 0x600008
abbrev PROBES_SCH_IDX : Nat := 0x60000C
abbrev PROBES_SCH_ENT (n : Nat) : Nat := 0x600010 + n * 0x4
abbrev PROBES_SCH_HDR_P : Nat := 0x600020
abbrev PROBES_SCH_HDR_Q : Nat := 0x600024
abbrev PROBES_SCH_CRC : Nat := 0x600028
abbrev PROBES_SCH_SWAP : Nat := 0x60002C
abbrev PROBES_SCH_AT_LO : Nat := 0x600030
abbrev PROBES_SCH_AT_HI : Nat := 0x600034
abbrev PROBES_SCH_SWSTAT : Nat := 0x600038
abbrev PROBES_SCH_ADMIT : Nat := 0x600040
abbrev PROBES_SCH_HELD : Nat := 0x600044
abbrev PROBES_SCH_DEMOTE : Nat := 0x600048
abbrev PROBES_SCH_LAST : Nat := 0x60004C
abbrev PROBES_P_CTRL (n : Nat) : Nat := 0x600100 + n * 0x80
abbrev PROBES_P_STAT (n : Nat) : Nat := 0x600104 + n * 0x80
abbrev PROBES_P_FORCE (n : Nat) : Nat := 0x600108 + n * 0x80
abbrev PROBES_P_SRC (n : Nat) : Nat := 0x60010C + n * 0x80
abbrev PROBES_P_DST (n : Nat) : Nat := 0x600110 + n * 0x80
abbrev PROBES_P_MATCH (n : Nat) : Nat := 0x600114 + n * 0x80
abbrev PROBES_P_ALO_LO (n : Nat) : Nat := 0x600118 + n * 0x80
abbrev PROBES_P_ALO_HI (n : Nat) : Nat := 0x60011C + n * 0x80
abbrev PROBES_P_AHI_LO (n : Nat) : Nat := 0x600120 + n * 0x80
abbrev PROBES_P_AHI_HI (n : Nat) : Nat := 0x600124 + n * 0x80
abbrev PROBES_P_BUF_LO (n : Nat) : Nat := 0x600128 + n * 0x80
abbrev PROBES_P_BUF_HI (n : Nat) : Nat := 0x60012C + n * 0x80
abbrev PROBES_P_BUFSZ (n : Nat) : Nat := 0x600130 + n * 0x80
abbrev PROBES_P_WPTR (n : Nat) : Nat := 0x600134 + n * 0x80
abbrev PROBES_P_POST (n : Nat) : Nat := 0x600138 + n * 0x80
abbrev PROBES_P_TTICK_LO (n : Nat) : Nat := 0x60013C + n * 0x80
abbrev PROBES_P_TTICK_HI (n : Nat) : Nat := 0x600140 + n * 0x80
abbrev PROBES_P_HCNT_LO (n : Nat) : Nat := 0x600144 + n * 0x80
abbrev PROBES_P_HCNT_HI (n : Nat) : Nat := 0x600148 + n * 0x80
abbrev PROBES_P_FCNT_LO (n : Nat) : Nat := 0x60014C + n * 0x80
abbrev PROBES_P_FCNT_HI (n : Nat) : Nat := 0x600150 + n * 0x80
abbrev PROBES_P_LOST (n : Nat) : Nat := 0x600154 + n * 0x80
abbrev PROBES_P_TRIGPOS (n : Nat) : Nat := 0x600158 + n * 0x80
abbrev PROBES_ST_SEL : Nat := 0x600A00
abbrev PROBES_ST_CMD : Nat := 0x600A04
abbrev PROBES_ST_ID : Nat := 0x600A08
abbrev PROBES_ST_REQ : Nat := 0x600A0C
abbrev PROBES_ST_RDB_LO : Nat := 0x600A10
abbrev PROBES_ST_RDB_HI : Nat := 0x600A14
abbrev PROBES_ST_WRB_LO : Nat := 0x600A18
abbrev PROBES_ST_WRB_HI : Nat := 0x600A1C
abbrev PROBES_ST_LATSUM_LO : Nat := 0x600A20
abbrev PROBES_ST_LATSUM_HI : Nat := 0x600A24
abbrev PROBES_ST_LATMAX : Nat := 0x600A28
abbrev PROBES_ST_ANS : Nat := 0x600A2C
abbrev PROBES_ST_SINCE_LO : Nat := 0x600A30
abbrev PROBES_ST_SINCE_HI : Nat := 0x600A34
abbrev CORUG_EDGE : Nat := 0x680000
abbrev CORUG_EVT : Nat := 0x680004
abbrev CORUG_EVTEN : Nat := 0x680008
abbrev CORUG_CMD : Nat := 0x68000C
abbrev CORUG_CMDSTAT : Nat := 0x680010
abbrev CORUG_CFG : Nat := 0x680014
abbrev CORUG_FENCE_LOG : Nat := 0x680018
abbrev CORUG_M_STAT (n : Nat) : Nat := 0x680100 + n * 0x20
abbrev CORUG_M_TXMAP (n : Nat) : Nat := 0x680104 + n * 0x20
abbrev CORUG_M_RXMAP (n : Nat) : Nat := 0x680108 + n * 0x20
abbrev CORUG_M_MARGIN (n : Nat) : Nat := 0x68010C + n * 0x20
abbrev CORUG_M_ERR (n : Nat) : Nat := 0x680110 + n * 0x20
abbrev CORUG_M_SDROP (n : Nat) : Nat := 0x680114 + n * 0x20
abbrev CORUG_M_CHAN (n : Nat) : Nat := 0x680118 + n * 0x20
abbrev UCIE_CTRL : Nat := 0x880000
abbrev UCIE_STAT : Nat := 0x880004
abbrev UCIE_EVT : Nat := 0x880008
abbrev UCIE_EVTEN : Nat := 0x88000C
abbrev UCIE_CMD : Nat := 0x880010
abbrev UCIE_DISC (n : Nat) : Nat := 0x880014 + n * 0x4
abbrev UCIE_CRC_CNT : Nat := 0x880024
abbrev UCIE_BLOCK_CNT : Nat := 0x880028
abbrev UCIE_WIN_BASE_LO (n : Nat) : Nat := 0x880040 + n * 0x10
abbrev UCIE_WIN_BASE_HI (n : Nat) : Nat := 0x880044 + n * 0x10
abbrev UCIE_WIN_LIM_LO (n : Nat) : Nat := 0x880048 + n * 0x10
abbrev UCIE_WIN_LIM_HI (n : Nat) : Nat := 0x88004C + n * 0x10
abbrev LQ_PLLA (q : Nat) : Nat := 0x300000 + q * 0x10000
abbrev LQ_PLLB (q : Nat) : Nat := 0x300004 + q * 0x10000
abbrev LQ_STAT (q : Nat) : Nat := 0x300008 + q * 0x10000
abbrev LQ_EVT (q : Nat) : Nat := 0x30000C + q * 0x10000
abbrev LQ_EVTEN (q : Nat) : Nat := 0x300010 + q * 0x10000
abbrev LQ_CMD (q : Nat) : Nat := 0x300014 + q * 0x10000
abbrev LQ_L_CFG (q : Nat) (n : Nat) : Nat := 0x300100 + q * 0x10000 + n * 0x40
abbrev LQ_L_TXEQ (q : Nat) (n : Nat) : Nat := 0x300104 + q * 0x10000 + n * 0x40
abbrev LQ_L_RXEQ (q : Nat) (n : Nat) : Nat := 0x300108 + q * 0x10000 + n * 0x40
abbrev LQ_L_STAT (q : Nat) (n : Nat) : Nat := 0x30010C + q * 0x10000 + n * 0x40
abbrev LQ_L_HDRERR (q : Nat) (n : Nat) : Nat := 0x300110 + q * 0x10000 + n * 0x40
abbrev LQ_L_LOCKLOSS (q : Nat) (n : Nat) : Nat := 0x300114 + q * 0x10000 + n * 0x40
abbrev LQ_L_DROP (q : Nat) (n : Nat) : Nat := 0x300118 + q * 0x10000 + n * 0x40
abbrev LQ_L_ALTS_LO (q : Nat) (n : Nat) : Nat := 0x30011C + q * 0x10000 + n * 0x40
abbrev LQ_L_ALTS_HI (q : Nat) (n : Nat) : Nat := 0x300120 + q * 0x10000 + n * 0x40
abbrev LQ_L_ALTS_FINE (q : Nat) (n : Nat) : Nat := 0x300124 + q * 0x10000 + n * 0x40
abbrev PCIE_STAT : Nat := 0x500000
abbrev PCIE_EVT : Nat := 0x500004
abbrev PCIE_EVTEN : Nat := 0x500008
abbrev PCIE_CTRL : Nat := 0x50000C
abbrev PCIE_BAR2 : Nat := 0x500010
abbrev PCIE_KEYS : Nat := 0x500014
abbrev PCIE_CLWIN (n : Nat) : Nat := 0x500018 + n * 0x4
abbrev PCIE_HWERR : Nat := 0x500028
abbrev PCIE_Q_CTRL (n : Nat) : Nat := 0x500400 + n * 0x20
abbrev PCIE_Q_BASE_LO (n : Nat) : Nat := 0x500404 + n * 0x20
abbrev PCIE_Q_BASE_HI (n : Nat) : Nat := 0x500408 + n * 0x20
abbrev PCIE_Q_TAIL (n : Nat) : Nat := 0x50040C + n * 0x20
abbrev PCIE_Q_HEAD (n : Nat) : Nat := 0x500410 + n * 0x20
abbrev PCIE_Q_STAT (n : Nat) : Nat := 0x500414 + n * 0x20
abbrev PCIE_Q_KEY (n : Nat) : Nat := 0x500418 + n * 0x20
abbrev PCIE_MSIX_TBL (n : Nat) : Nat := 0x508000 + n * 0x4
abbrev PCIE_MSIX_PBA (n : Nat) : Nat := 0x50C000 + n * 0x4
abbrev ITA_ID : Nat := 0x280000
abbrev ITA_HORIZON : Nat := 0x280004
abbrev ITA_WORST : Nat := 0x280008
abbrev ITA_EVT : Nat := 0x28000C
abbrev ITA_EVTEN : Nat := 0x280010
abbrev ITA_CMD : Nat := 0x280014
abbrev ITA_CMDSTAT : Nat := 0x280018
abbrev ITA_RDIE : Nat := 0x28001C
abbrev ITA_RDRAM : Nat := 0x280020
abbrev ITA_KEY : Nat := 0x280024
abbrev ITA_EVSEND : Nat := 0x280028
abbrev ITA_EVARG : Nat := 0x28002C
abbrev ITA_EV_LATE : Nat := 0x280030
abbrev ITA_EV_OVF : Nat := 0x280034
abbrev ITA_EV_LATELOC : Nat := 0x280038
abbrev ITA_DROP : Nat := 0x28003C
abbrev ITA_ERT_IDX : Nat := 0x280040
abbrev ITA_ERT_W0 : Nat := 0x280044
abbrev ITA_ERT_W1 : Nat := 0x280048
abbrev ITA_HEV : Nat := 0x280050
abbrev ITA_HEV_ARG : Nat := 0x280054
abbrev ITA_HEV_TICK : Nat := 0x280058
abbrev ITA_RT_IDX : Nat := 0x280060
abbrev ITA_RT_DATA : Nat := 0x280064
abbrev ITA_P_CFG (n : Nat) : Nat := 0x280100 + n * 0x40
abbrev ITA_P_STAT (n : Nat) : Nat := 0x280104 + n * 0x40
abbrev ITA_P_CHILD (n : Nat) : Nat := 0x280108 + n * 0x40
abbrev ITA_P_ASYM (n : Nat) : Nat := 0x28010C + n * 0x40
abbrev ITA_P_DELAY (n : Nat) : Nat := 0x280110 + n * 0x40
abbrev ITA_P_OFFSET (n : Nat) : Nat := 0x280114 + n * 0x40
abbrev ITA_P_HOPB (n : Nat) : Nat := 0x280118 + n * 0x40
abbrev ITA_P_REPLAY (n : Nat) : Nat := 0x28011C + n * 0x40
abbrev ITA_P_ERR (n : Nat) : Nat := 0x280120 + n * 0x40
abbrev ITA_P_DROP (n : Nat) : Nat := 0x280124 + n * 0x40
abbrev DDR_STAT (c : Nat) : Nat := 0x100000 + c * 0x10000
abbrev DDR_EVT (c : Nat) : Nat := 0x100004 + c * 0x10000
abbrev DDR_EVTEN (c : Nat) : Nat := 0x100008 + c * 0x10000
abbrev DDR_CMD (c : Nat) : Nat := 0x10000C + c * 0x10000
abbrev DDR_CMDSTAT (c : Nat) : Nat := 0x100010 + c * 0x10000
abbrev DDR_TEMP (c : Nat) : Nat := 0x100014 + c * 0x10000
abbrev DDR_REC_LO (c : Nat) : Nat := 0x100018 + c * 0x10000
abbrev DDR_REC_ROW (c : Nat) : Nat := 0x10001C + c * 0x10000
abbrev DDR_REC_TICK (c : Nat) : Nat := 0x100020 + c * 0x10000
abbrev DDR_FIFO_STAT (c : Nat) : Nat := 0x100024 + c * 0x10000
abbrev DDR_CE_CNT (c : Nat) : Nat := 0x100028 + c * 0x10000
abbrev DDR_UE_CNT (c : Nat) : Nat := 0x10002C + c * 0x10000
abbrev DDR_PPR_AVAIL (c : Nat) : Nat := 0x100030 + c * 0x10000
abbrev DDR_SVC_MAX (c : Nat) : Nat := 0x100034 + c * 0x10000
abbrev DDR_REF_CTRL : Nat := 0x100800
abbrev DDR_REF_STAT : Nat := 0x100804
abbrev DDR_REF_CNT : Nat := 0x100808
abbrev DDR_SET_A (n : Nat) : Nat := 0x100810 + n * 0x10
abbrev DDR_SET_B (n : Nat) : Nat := 0x100814 + n * 0x10
abbrev DDR_SET_C (n : Nat) : Nat := 0x100818 + n * 0x10
abbrev DDR_SET_COMMIT : Nat := 0x100890
abbrev DDR_SET_STAT : Nat := 0x100894
abbrev MIU_STAT : Nat := 0x180000
abbrev MIU_EVT : Nat := 0x180004
abbrev MIU_EVTEN : Nat := 0x180008
abbrev MIU_REC_LO : Nat := 0x18000C
abbrev MIU_REC_ADDR_LO : Nat := 0x180010
abbrev MIU_REC_ADDR_HI : Nat := 0x180014
abbrev MIU_REC_SRC : Nat := 0x180018
abbrev MIU_FIFO_STAT : Nat := 0x18001C
abbrev MIU_BLOCK_CNT : Nat := 0x180020
abbrev MIU_TAGFAIL_CNT : Nat := 0x180024
abbrev MIU_OVF_CNT : Nat := 0x180028
abbrev MIU_HIT_CNT : Nat := 0x18002C
abbrev MIU_MISS_CNT : Nat := 0x180030
abbrev MIU_CMD : Nat := 0x180040
abbrev MIU_CMDSTAT : Nat := 0x180044
abbrev MIU_SLOT_LO : Nat := 0x180048
abbrev MIU_SLOT_HI : Nat := 0x18004C
abbrev MIU_R_BASE (n : Nat) : Nat := 0x180100 + n * 0x10
abbrev MIU_R_SIZE (n : Nat) : Nat := 0x180104 + n * 0x10
abbrev MIU_R_CFG (n : Nat) : Nat := 0x180108 + n * 0x10
abbrev MIU_R_STAT (n : Nat) : Nat := 0x18010C + n * 0x10
abbrev RECORD_CTRL : Nat := 0x200000
abbrev RECORD_STAT : Nat := 0x200004
abbrev RECORD_EVT : Nat := 0x200008
abbrev RECORD_EVTEN : Nat := 0x20000C
abbrev RECORD_PF : Nat := 0x200010
abbrev RECORD_QTRUST_LO : Nat := 0x200014
abbrev RECORD_QTRUST_HI : Nat := 0x200018
abbrev RECORD_DIR_IDX : Nat := 0x200020
abbrev RECORD_DIR_W (n : Nat) : Nat := 0x200024 + n * 0x4
abbrev RECORD_DIR_CMD : Nat := 0x200044
abbrev RECORD_DIR_STAT : Nat := 0x200048
abbrev RECORD_P_CFG (n : Nat) : Nat := 0x200100 + n * 0x20
abbrev RECORD_P_SEG (n : Nat) : Nat := 0x200104 + n * 0x20
abbrev RECORD_P_STAT (n : Nat) : Nat := 0x200108 + n * 0x20
abbrev RECORD_P_RECS (n : Nat) : Nat := 0x20010C + n * 0x20
abbrev RECORD_P_DROP (n : Nat) : Nat := 0x200110 + n * 0x20
abbrev RECORD_P_SEQ (n : Nat) : Nat := 0x200114 + n * 0x20
abbrev RECORD_P_ERR (n : Nat) : Nat := 0x200118 + n * 0x20
abbrev RECORD_QS_D (n : Nat) (w : Nat) : Nat := 0x208000 + n * 0x100 + w * 0x4
abbrev RECORD_QS_CTRL (n : Nat) : Nat := 0x208040 + n * 0x100
abbrev RECORD_QS_STAT (n : Nat) : Nat := 0x208044 + n * 0x100
abbrev RECORD_QS_RBYTES (n : Nat) : Nat := 0x208048 + n * 0x100
abbrev CFG_STAT : Nat := 0x060000
abbrev CFG_EVT : Nat := 0x060004
abbrev CFG_EVTEN : Nat := 0x060008
abbrev CFG_PDEADLINE : Nat := 0x06000C
abbrev CFG_PREMAIN : Nat := 0x060010
abbrev CFG_LOADSET (n : Nat) : Nat := 0x060014 + n * 0x4
abbrev CFG_PROGRESS : Nat := 0x06002C
abbrev CFG_TOTAL : Nat := 0x060030
abbrev CFG_DESIGN : Nat := 0x060034
abbrev CFG_STG_CTRL : Nat := 0x060038
abbrev CFG_STG_STAT : Nat := 0x06003C
abbrev CFG_STG_TIMEOUT : Nat := 0x060040
abbrev CFG_ENG_STAT : Nat := 0x060100
abbrev CFG_ENG_FRAMES : Nat := 0x060104
abbrev CFG_ENG_FERR : Nat := 0x060108
abbrev CFG_STG_H0 (n : Nat) : Nat := 0x068000 + n * 0x4
abbrev CFG_STG_H1 (n : Nat) : Nat := 0x06C000 + n * 0x4
abbrev NVM_STAT : Nat := 0x050000
abbrev NVM_EVT : Nat := 0x050004
abbrev NVM_EVTEN : Nat := 0x050008
abbrev NVM_CMD : Nat := 0x05000C
abbrev NVM_ADDR : Nat := 0x050010
abbrev NVM_LEN : Nat := 0x050014
abbrev NVM_BUF : Nat := 0x050018
abbrev NVM_CMDSTAT : Nat := 0x05001C
abbrev NVM_CFG : Nat := 0x050020
abbrev NVM_SIZE : Nat := 0x050024
abbrev JOURNAL_STAT : Nat := 0x070000
abbrev JOURNAL_EVT : Nat := 0x070004
abbrev JOURNAL_EVTEN : Nat := 0x070008
abbrev JOURNAL_PLAN : Nat := 0x07000C
abbrev JOURNAL_FAILS : Nat := 0x070010
abbrev JOURNAL_STARTS : Nat := 0x070014
abbrev JOURNAL_SECT : Nat := 0x070018
abbrev JOURNAL_RETRY : Nat := 0x07001C
abbrev JOURNAL_RIDX : Nat := 0x070020
abbrev JOURNAL_RW (n : Nat) : Nat := 0x070024 + n * 0x4
abbrev JOURNAL_STICKY : Nat := 0x070044
abbrev JOURNAL_REL_LO : Nat := 0x070048
abbrev JOURNAL_REL_HI : Nat := 0x07004C
abbrev JOURNAL_WG_LIMIT : Nat := 0x070080
abbrev JOURNAL_WG_DELAY : Nat := 0x070084
abbrev JOURNAL_WG_CNT : Nat := 0x070088
abbrev JOURNAL_WG_QUEUED : Nat := 0x07008C
abbrev JOURNAL_WG_RSTEP (n : Nat) : Nat := 0x070100 + n * 0x4
abbrev CORE_ID (s : Nat) : Nat := 0x800000 + s * 0x4000
abbrev CORE_CTRL (s : Nat) : Nat := 0x800004 + s * 0x4000
abbrev CORE_STAT (s : Nat) : Nat := 0x800008 + s * 0x4000
abbrev CORE_CAUSE (s : Nat) : Nat := 0x80000C + s * 0x4000
abbrev CORE_EVT (s : Nat) : Nat := 0x800010 + s * 0x4000
abbrev CORE_EVTEN (s : Nat) : Nat := 0x800014 + s * 0x4000
abbrev CORE_IRQ_PEND (s : Nat) : Nat := 0x800018 + s * 0x4000
abbrev CORE_IRQ_EN (s : Nat) : Nat := 0x80001C + s * 0x4000
abbrev CORE_MTIMECMP_LO (s : Nat) : Nat := 0x800020 + s * 0x4000
abbrev CORE_MTIMECMP_HI (s : Nat) : Nat := 0x800024 + s * 0x4000
abbrev CORE_WIN0 (s : Nat) : Nat := 0x800028 + s * 0x4000
abbrev CORE_WIN1 (s : Nat) : Nat := 0x80002C + s * 0x4000
abbrev CORE_KEY (s : Nat) : Nat := 0x800030 + s * 0x4000
abbrev CORE_BUSERR (s : Nat) : Nat := 0x800034 + s * 0x4000
abbrev CORE_WDOG_CFG (s : Nat) : Nat := 0x800038 + s * 0x4000
abbrev CORE_WDOG_KICK (s : Nat) : Nat := 0x80003C + s * 0x4000
abbrev CORE_WDOG_CNT (s : Nat) : Nat := 0x800040 + s * 0x4000
abbrev CORE_MB_IN (s : Nat) : Nat := 0x800044 + s * 0x4000
abbrev CORE_MB_POP (s : Nat) : Nat := 0x800048 + s * 0x4000
abbrev CORE_MB_SRC (s : Nat) : Nat := 0x80004C + s * 0x4000
abbrev CORE_MB_STAT (s : Nat) : Nat := 0x800050 + s * 0x4000
abbrev CORE_SRAM_ERR (s : Nat) : Nat := 0x800054 + s * 0x4000
abbrev CORE_LOAD : Nat := 0x800080
abbrev CORE_LOADSTAT : Nat := 0x800084
abbrev CORE_HB_CFG : Nat := 0x800088
abbrev CORE_HB_KICK : Nat := 0x80008C
abbrev CORE_HB_STAT : Nat := 0x800090
abbrev CORE_SAFE : Nat := 0x800094
abbrev CORE_HOSTDB : Nat := 0x800098
abbrev CMD_STAT : Nat := 0x080000
abbrev CMD_EVT : Nat := 0x080004
abbrev CMD_EVTEN : Nat := 0x080008
abbrev CMD_LAST_LO : Nat := 0x08000C
abbrev CMD_LAST_HI : Nat := 0x080010
abbrev CMD_CKPT_LO : Nat := 0x080014
abbrev CMD_CKPT_HI : Nat := 0x080018
abbrev CMD_TAGFAIL : Nat := 0x08001C
abbrev CMD_ACCEPT : Nat := 0x080020
abbrev CMD_RES_IDX : Nat := 0x080024
abbrev CMD_RES_W (n : Nat) : Nat := 0x080028 + n * 0x4
abbrev CMD_HSUBMIT : Nat := 0x080040
abbrev CMD_HSTAT : Nat := 0x080044
abbrev CMD_HBUF (n : Nat) : Nat := 0x080080 + n * 0x4
abbrev KEYS_LC : Nat := 0x090000
abbrev KEYS_STAT : Nat := 0x090004
abbrev KEYS_EVT : Nat := 0x090008
abbrev KEYS_EVTEN : Nat := 0x09000C
abbrev KEYS_FILLED_LO : Nat := 0x090010
abbrev KEYS_FILLED_HI : Nat := 0x090014
abbrev KEYS_KCV_CMD : Nat := 0x090018
abbrev KEYS_KCV_BC : Nat := 0x09001C
abbrev KEYS_CKPT_LO : Nat := 0x090020
abbrev KEYS_CKPT_HI : Nat := 0x090024
abbrev KEYS_PROV_SEL : Nat := 0x090040
abbrev KEYS_PROV_DATA : Nat := 0x090044
abbrev KEYS_PROV_CMD : Nat := 0x090048
abbrev KEYS_PROV_STAT : Nat := 0x09004C
abbrev ERR_SRC : Nat := 0x700000
abbrev ERR_SRCEN : Nat := 0x700004
abbrev ERR_CE_CNT : Nat := 0x700008
abbrev ERR_CT_CNT : Nat := 0x70000C
abbrev ERR_RF_CNT : Nat := 0x700010
abbrev ERR_DF_CNT : Nat := 0x700014
abbrev ERR_LOG_LO : Nat := 0x700018
abbrev ERR_LOG_TICK : Nat := 0x70001C
abbrev ERR_LOG_STAT : Nat := 0x700020
abbrev ERR_CMD : Nat := 0x700024
abbrev ERR_CMDSTAT : Nat := 0x700028
abbrev ERR_DIES : Nat := 0x700040
abbrev ERR_DIESEN : Nat := 0x700044
abbrev ERR_FATAL : Nat := 0x700048
abbrev ERR_NOTIFY : Nat := 0x70004C
abbrev SCRUB_MASTER : Nat := 0x700080
abbrev SCRUB_CTL : Nat := 0x700100
abbrev SCRUB_POS : Nat := 0x700104
abbrev SCRUB_WALK : Nat := 0x700108
abbrev SCRUB_EVT : Nat := 0x70010C
abbrev SCRUB_EVTEN : Nat := 0x700110
abbrev SCRUB_CE_CNT : Nat := 0x700114
abbrev SCRUB_UE_CNT : Nat := 0x700118
abbrev SCRUB_VOTE_CNT : Nat := 0x70011C
abbrev SCRUB_UE_MAP : Nat := 0x700120
abbrev SPARE_STAT : Nat := 0x780000
abbrev SPARE_EVT : Nat := 0x780004
abbrev SPARE_EVTEN : Nat := 0x780008
abbrev SPARE_CFG : Nat := 0x78000C
abbrev SPARE_POOL : Nat := 0x780010
abbrev SPARE_HIT : Nat := 0x780014
abbrev SPARE_AGE (n : Nat) : Nat := 0x780100 + n * 0x4
abbrev SPARE_AGEB (n : Nat) : Nat := 0x780180 + n * 0x4
abbrev SPARE_COLCNT (n : Nat) : Nat := 0x780400 + n * 0x4
abbrev CLK_REF : Nat := 0x020000
abbrev CLK_EVT : Nat := 0x020004
abbrev CLK_EVTEN : Nat := 0x020008
abbrev CLK_GATE : Nat := 0x02000C
abbrev CLK_GATE_STAT : Nat := 0x020010
abbrev CLK_GATE_FAIL : Nat := 0x020014
abbrev CLK_PLL_CFG (n : Nat) : Nat := 0x020020 + n * 0x4
abbrev CLK_PLL_DIV (n : Nat) : Nat := 0x020040 + n * 0x4
abbrev CLK_PLL_LOCK : Nat := 0x020060
abbrev CLK_THROTTLE : Nat := 0x020064
abbrev CLK_FM_SEL (n : Nat) : Nat := 0x020100 + n * 0x10
abbrev CLK_FM_N (n : Nat) : Nat := 0x020104 + n * 0x10
abbrev CLK_FM_RES (n : Nat) : Nat := 0x020108 + n * 0x10
abbrev CLK_FM_STAT (n : Nat) : Nat := 0x02010C + n * 0x10
abbrev PWR_VMON : Nat := 0x030000
abbrev PWR_EVT : Nat := 0x030004
abbrev PWR_EVTEN : Nat := 0x030008
abbrev PWR_CAP : Nat := 0x03000C
abbrev PWR_CUR : Nat := 0x030010
abbrev PWR_CUR_MAX : Nat := 0x030014
abbrev PWR_PKG_CAP : Nat := 0x030020
abbrev PWR_PKG_NOW : Nat := 0x030024
abbrev PWR_SAFE : Nat := 0x030030
abbrev THERM_CFG : Nat := 0x030040
abbrev THERM_S (n : Nat) : Nat := 0x030044 + n * 0x4
abbrev THERM_MAX : Nat := 0x030054
abbrev THERM_TRIPLOG : Nat := 0x030058
abbrev GPIO_EVT : Nat := 0x040000
abbrev GPIO_EVTEN : Nat := 0x040004
abbrev GPIO_CONF_LO : Nat := 0x040008
abbrev GPIO_CONF_HI : Nat := 0x04000C
abbrev GPIO_BANK : Nat := 0x040010
abbrev GPIO_ADC_CTRL : Nat := 0x040014
abbrev GPIO_TRIG_STAT : Nat := 0x040018
abbrev GPIO_TRIG_CONF : Nat := 0x04001C
abbrev GPIO_TMR_CFG (n : Nat) : Nat := 0x040100 + n * 0x10
abbrev GPIO_TMR_CAP_LO (n : Nat) : Nat := 0x040104 + n * 0x10
abbrev GPIO_TMR_CAP_HI (n : Nat) : Nat := 0x040108 + n * 0x10
abbrev GPIO_TRIG_OWN (n : Nat) : Nat := 0x040200 + n * 0x20
abbrev GPIO_TRIG_CTRL (n : Nat) : Nat := 0x040204 + n * 0x20
abbrev GPIO_TRIG_TS_LO (n : Nat) : Nat := 0x040208 + n * 0x20
abbrev GPIO_TRIG_TS_HI (n : Nat) : Nat := 0x04020C + n * 0x20
abbrev GPIO_TRIG_TS_FINE (n : Nat) : Nat := 0x040210 + n * 0x20
abbrev GPIO_P_CFG (n : Nat) : Nat := 0x040400 + n * 0x8
abbrev GPIO_P_ADC (n : Nat) : Nat := 0x040404 + n * 0x8
abbrev DBG_OWN : Nat := 0x0A0000
abbrev DBG_EVT : Nat := 0x0A0004
abbrev DBG_EVTEN : Nat := 0x0A0008
abbrev DBG_RIGHTS : Nat := 0x0A000C
abbrev DBG_BM_ADDR_LO : Nat := 0x0A0010
abbrev DBG_BM_ADDR_HI : Nat := 0x0A0014
abbrev DBG_BM_DATA : Nat := 0x0A0018
abbrev DBG_BM_CMD : Nat := 0x0A001C
abbrev DBG_BM_STAT : Nat := 0x0A0020
abbrev DBG_GEXP_LO : Nat := 0x0A0024
abbrev DBG_GEXP_HI : Nat := 0x0A0028
abbrev DBG_C_CTRL (n : Nat) : Nat := 0x0A0100 + n * 0x40
abbrev DBG_C_CMD (n : Nat) : Nat := 0x0A0104 + n * 0x40
abbrev DBG_C_STAT (n : Nat) : Nat := 0x0A0108 + n * 0x40
abbrev DBG_C_DPC (n : Nat) : Nat := 0x0A010C + n * 0x40
abbrev DBG_C_IFEED (n : Nat) : Nat := 0x0A0110 + n * 0x40
abbrev DBG_C_DATA (n : Nat) : Nat := 0x0A0114 + n * 0x40
abbrev DBG_C_DTX (n : Nat) : Nat := 0x0A0118 + n * 0x40
abbrev DBG_C_DRX (n : Nat) : Nat := 0x0A011C + n * 0x40
abbrev DBG_C_TSTAT (n : Nat) : Nat := 0x0A0120 + n * 0x40
abbrev DBG_C_MADDR (n : Nat) : Nat := 0x0A0124 + n * 0x40
abbrev DBG_C_MDATA (n : Nat) : Nat := 0x0A0128 + n * 0x40
abbrev DBG_PATCH_ADDR (n : Nat) : Nat := 0x0A0400 + n * 0x8
abbrev DBG_PATCH_DATA (n : Nat) : Nat := 0x0A0404 + n * 0x8
abbrev BIST_REQ : Nat := 0x0B0000
abbrev BIST_CTRL : Nat := 0x0B0004
abbrev BIST_CFG : Nat := 0x0B0008
abbrev BIST_STAT : Nat := 0x0B000C
abbrev BIST_EVT : Nat := 0x0B0010
abbrev BIST_EVTEN : Nat := 0x0B0014
abbrev BIST_S7 : Nat := 0x0B0018
abbrev BIST_D_STAT (n : Nat) : Nat := 0x0B0100 + n * 0x10
abbrev BIST_D_MEM (n : Nat) : Nat := 0x0B0104 + n * 0x10
abbrev BIST_D_ANA (n : Nat) : Nat := 0x0B0108 + n * 0x10
abbrev BIST_D_TIME (n : Nat) : Nat := 0x0B010C + n * 0x10

/-! ### Fields -/

abbrev SYS_PART_part : Fld := ⟨SYS_PART, 0, 16⟩
abbrev SYS_PART_variant : Fld := ⟨SYS_PART, 16, 4⟩
abbrev SYS_DIE_index : Fld := ⟨SYS_DIE, 0, 4⟩
abbrev SYS_DIE_type : Fld := ⟨SYS_DIE, 4, 2⟩
abbrev SYS_DIE_stepping : Fld := ⟨SYS_DIE, 8, 8⟩
abbrev SYS_UID_LO_value : Fld := ⟨SYS_UID_LO, 0, 32⟩
abbrev SYS_UID_HI_value : Fld := ⟨SYS_UID_HI, 0, 32⟩
abbrev SYS_S4RES_fab : Fld := ⟨SYS_S4RES, 0, 8⟩
abbrev SYS_S4RES_io : Fld := ⟨SYS_S4RES, 8, 8⟩
abbrev SYS_S4RES_present : Fld := ⟨SYS_S4RES, 16, 10⟩
abbrev SYS_S4RES_pass : Fld := ⟨SYS_S4RES, 26, 1⟩
abbrev SYS_S4FAULT_cause : Fld := ⟨SYS_S4FAULT, 0, 4⟩
abbrev SYS_S4FAULT_die : Fld := ⟨SYS_S4FAULT, 4, 4⟩
abbrev SYS_S4FAULT_found : Fld := ⟨SYS_S4FAULT, 8, 8⟩
abbrev SYS_S4FAULT_expected : Fld := ⟨SYS_S4FAULT, 16, 8⟩
abbrev SYS_SCRATCH_value : Fld := ⟨SYS_SCRATCH, 0, 32⟩
abbrev TICK_P_value : Fld := ⟨TICK_P, 0, 25⟩
abbrev TICK_Q_value : Fld := ⟨TICK_Q, 0, 25⟩
abbrev TICK_NEXT_P_value : Fld := ⟨TICK_NEXT_P, 0, 25⟩
abbrev TICK_NEXT_Q_value : Fld := ⟨TICK_NEXT_Q, 0, 25⟩
abbrev TICK_AT_LO_value : Fld := ⟨TICK_AT_LO, 0, 32⟩
abbrev TICK_AT_HI_value : Fld := ⟨TICK_AT_HI, 0, 32⟩
abbrev TICK_ARM_arm : Fld := ⟨TICK_ARM, 0, 1⟩
abbrev TICK_ARM_cancel : Fld := ⟨TICK_ARM, 1, 1⟩
abbrev TICK_ARMSTAT_pending : Fld := ⟨TICK_ARMSTAT, 0, 1⟩
abbrev TICK_ARMSTAT_reason : Fld := ⟨TICK_ARMSTAT, 8, 4⟩
abbrev TICK_ROLE_root : Fld := ⟨TICK_ROLE, 0, 1⟩
abbrev TICK_ROLE_source : Fld := ⟨TICK_ROLE, 1, 2⟩
abbrev TICK_ROLE_cfg : Fld := ⟨TICK_ROLE, 3, 1⟩
abbrev TICK_NUM_LO_value : Fld := ⟨TICK_NUM_LO, 0, 32⟩
abbrev TICK_NUM_HI_value : Fld := ⟨TICK_NUM_HI, 0, 32⟩
abbrev TICK_BND_LO_value : Fld := ⟨TICK_BND_LO, 0, 32⟩
abbrev TICK_BND_HI_value : Fld := ⟨TICK_BND_HI, 0, 32⟩
abbrev TICK_NOW_LO_value : Fld := ⟨TICK_NOW_LO, 0, 32⟩
abbrev TICK_NOW_HI_value : Fld := ⟨TICK_NOW_HI, 0, 32⟩
abbrev TICK_STATUS_lock : Fld := ⟨TICK_STATUS, 0, 1⟩
abbrev TICK_STATUS_sync : Fld := ⟨TICK_STATUS, 1, 1⟩
abbrev TICK_STATUS_holdover : Fld := ⟨TICK_STATUS, 2, 1⟩
abbrev TICK_STATUS_testper : Fld := ⟨TICK_STATUS, 3, 1⟩
abbrev TICK_STATUS_countdown : Fld := ⟨TICK_STATUS, 8, 8⟩
abbrev TICK_STATUS_epoch : Fld := ⟨TICK_STATUS, 16, 8⟩
abbrev TICK_EVT_overrun : Fld := ⟨TICK_EVT, 0, 1⟩
abbrev TICK_EVT_ring_err : Fld := ⟨TICK_EVT, 1, 1⟩
abbrev TICK_EVT_lock_lost : Fld := ⟨TICK_EVT, 2, 1⟩
abbrev TICK_EVT_strobe_merge : Fld := ⟨TICK_EVT, 3, 1⟩
abbrev TICK_EVT_late_announce : Fld := ⟨TICK_EVT, 4, 1⟩
abbrev TICK_EVT_out_of_step : Fld := ⟨TICK_EVT, 5, 1⟩
abbrev TICK_EVT_arm_refused : Fld := ⟨TICK_EVT, 6, 1⟩
abbrev TICK_EVT_holdover_enter : Fld := ⟨TICK_EVT, 7, 1⟩
abbrev TICK_EVTEN_overrun : Fld := ⟨TICK_EVTEN, 0, 1⟩
abbrev TICK_EVTEN_ring_err : Fld := ⟨TICK_EVTEN, 1, 1⟩
abbrev TICK_EVTEN_lock_lost : Fld := ⟨TICK_EVTEN, 2, 1⟩
abbrev TICK_EVTEN_strobe_merge : Fld := ⟨TICK_EVTEN, 3, 1⟩
abbrev TICK_EVTEN_late_announce : Fld := ⟨TICK_EVTEN, 4, 1⟩
abbrev TICK_EVTEN_out_of_step : Fld := ⟨TICK_EVTEN, 5, 1⟩
abbrev TICK_EVTEN_arm_refused : Fld := ⟨TICK_EVTEN, 6, 1⟩
abbrev TICK_EVTEN_holdover_enter : Fld := ⟨TICK_EVTEN, 7, 1⟩
abbrev TICK_OVR_CNT_value : Fld := ⟨TICK_OVR_CNT, 0, 32⟩
abbrev TICK_OVR_SRC_die : Fld := ⟨TICK_OVR_SRC, 0, 4⟩
abbrev TICK_OVR_SRC_kind : Fld := ⟨TICK_OVR_SRC, 4, 2⟩
abbrev TICK_OVR_SRC_where : Fld := ⟨TICK_OVR_SRC, 8, 8⟩
abbrev TICK_OVR_SRC_amount : Fld := ⟨TICK_OVR_SRC, 16, 16⟩
abbrev TICK_OVR_TICK_LO_value : Fld := ⟨TICK_OVR_TICK_LO, 0, 32⟩
abbrev TICK_OVR_TICK_HI_value : Fld := ⟨TICK_OVR_TICK_HI, 0, 32⟩
abbrev TICK_USE_MAX_value : Fld := ⟨TICK_USE_MAX, 0, 32⟩
abbrev TICK_RING_delay : Fld := ⟨TICK_RING, 0, 12⟩
abbrev TICK_RING_ERR_value : Fld := ⟨TICK_RING_ERR, 0, 32⟩
abbrev REGIONS_RUN_mask : Fld := ⟨REGIONS_RUN, 0, 24⟩
abbrev REGIONS_FAIL_mask : Fld := ⟨REGIONS_FAIL, 0, 24⟩
abbrev REGIONS_EVT_load_done : Fld := ⟨REGIONS_EVT, 0, 1⟩
abbrev REGIONS_EVT_load_abort : Fld := ⟨REGIONS_EVT, 1, 1⟩
abbrev REGIONS_EVT_overrun : Fld := ⟨REGIONS_EVT, 2, 1⟩
abbrev REGIONS_EVT_xfifo : Fld := ⟨REGIONS_EVT, 3, 1⟩
abbrev REGIONS_EVT_shift_applied : Fld := ⟨REGIONS_EVT, 4, 1⟩
abbrev REGIONS_EVT_drain_timeout : Fld := ⟨REGIONS_EVT, 5, 1⟩
abbrev REGIONS_EVTEN_load_done : Fld := ⟨REGIONS_EVTEN, 0, 1⟩
abbrev REGIONS_EVTEN_load_abort : Fld := ⟨REGIONS_EVTEN, 1, 1⟩
abbrev REGIONS_EVTEN_overrun : Fld := ⟨REGIONS_EVTEN, 2, 1⟩
abbrev REGIONS_EVTEN_xfifo : Fld := ⟨REGIONS_EVTEN, 3, 1⟩
abbrev REGIONS_EVTEN_shift_applied : Fld := ⟨REGIONS_EVTEN, 4, 1⟩
abbrev REGIONS_EVTEN_drain_timeout : Fld := ⟨REGIONS_EVTEN, 5, 1⟩
abbrev REGIONS_REMAP_active (n : Nat) : Fld := ⟨(REGIONS_REMAP n), 0, 6⟩
abbrev REGIONS_REMAP_pending (n : Nat) : Fld := ⟨(REGIONS_REMAP n), 8, 6⟩
abbrev REGIONS_REMAP_from_fuse (n : Nat) : Fld := ⟨(REGIONS_REMAP n), 16, 1⟩
abbrev REGIONS_REMAP_from_wear (n : Nat) : Fld := ⟨(REGIONS_REMAP n), 17, 1⟩
abbrev REGIONS_CREMAP_active : Fld := ⟨REGIONS_CREMAP, 0, 4⟩
abbrev REGIONS_CREMAP_pending : Fld := ⟨REGIONS_CREMAP, 8, 4⟩
abbrev REGIONS_CREMAP_from_fuse : Fld := ⟨REGIONS_CREMAP, 16, 1⟩
abbrev REGIONS_CREMAP_from_wear : Fld := ⟨REGIONS_CREMAP, 17, 1⟩
abbrev REGIONS_STATE_state (n : Nat) : Fld := ⟨(REGIONS_STATE n), 0, 3⟩
abbrev REGIONS_STATE_class (n : Nat) : Fld := ⟨(REGIONS_STATE n), 3, 1⟩
abbrev REGIONS_STATE_shell (n : Nat) : Fld := ⟨(REGIONS_STATE n), 4, 1⟩
abbrev REGIONS_STATE_shift_wait (n : Nat) : Fld := ⟨(REGIONS_STATE n), 5, 1⟩
abbrev REGIONS_STATE_loads (n : Nat) : Fld := ⟨(REGIONS_STATE n), 16, 16⟩
abbrev REGIONS_ID_value (n : Nat) : Fld := ⟨(REGIONS_ID n), 0, 32⟩
abbrev REGIONS_SLACK_value (n : Nat) : Fld := ⟨(REGIONS_SLACK n), 0, 32⟩
abbrev REGIONS_OVR_value (n : Nat) : Fld := ⟨(REGIONS_OVR n), 0, 32⟩
abbrev REGIONS_XFIFO_overflow (n : Nat) : Fld := ⟨(REGIONS_XFIFO n), 0, 8⟩
abbrev REGIONS_XFIFO_underrun (n : Nat) : Fld := ⟨(REGIONS_XFIFO n), 8, 8⟩
abbrev REGIONS_ISO_isolated (n : Nat) : Fld := ⟨(REGIONS_ISO n), 0, 1⟩
abbrev REGIONS_ISO_retry (n : Nat) : Fld := ⟨(REGIONS_ISO n), 1, 1⟩
abbrev REGIONS_ISO_empty (n : Nat) : Fld := ⟨(REGIONS_ISO n), 2, 1⟩
abbrev REGIONS_CAP_tiles (n : Nat) : Fld := ⟨(REGIONS_CAP n), 0, 13⟩
abbrev REGIONS_ABORT_reason (n : Nat) : Fld := ⟨(REGIONS_ABORT n), 0, 4⟩
abbrev REGIONS_ABORT_drained (n : Nat) : Fld := ⟨(REGIONS_ABORT n), 16, 16⟩
abbrev CMBERR_CTRL_automark : Fld := ⟨CMBERR_CTRL, 0, 1⟩
abbrev CMBERR_EVT_mismatch : Fld := ⟨CMBERR_EVT, 0, 1⟩
abbrev CMBERR_EVT_cascade : Fld := ⟨CMBERR_EVT, 1, 1⟩
abbrev CMBERR_EVT_fp_compare : Fld := ⟨CMBERR_EVT, 2, 1⟩
abbrev CMBERR_EVT_dropped : Fld := ⟨CMBERR_EVT, 3, 1⟩
abbrev CMBERR_EVT_threshold : Fld := ⟨CMBERR_EVT, 4, 1⟩
abbrev CMBERR_EVTEN_mismatch : Fld := ⟨CMBERR_EVTEN, 0, 1⟩
abbrev CMBERR_EVTEN_cascade : Fld := ⟨CMBERR_EVTEN, 1, 1⟩
abbrev CMBERR_EVTEN_fp_compare : Fld := ⟨CMBERR_EVTEN, 2, 1⟩
abbrev CMBERR_EVTEN_dropped : Fld := ⟨CMBERR_EVTEN, 3, 1⟩
abbrev CMBERR_EVTEN_threshold : Fld := ⟨CMBERR_EVTEN, 4, 1⟩
abbrev CMBERR_MARK_mark : Fld := ⟨CMBERR_MARK, 0, 24⟩
abbrev CMBERR_MARK_SET_mark : Fld := ⟨CMBERR_MARK_SET, 0, 24⟩
abbrev CMBERR_REC_LO_column : Fld := ⟨CMBERR_REC_LO, 0, 4⟩
abbrev CMBERR_REC_LO_row : Fld := ⟨CMBERR_REC_LO, 4, 9⟩
abbrev CMBERR_REC_LO_kind : Fld := ⟨CMBERR_REC_LO, 13, 3⟩
abbrev CMBERR_REC_LO_mode : Fld := ⟨CMBERR_REC_LO, 16, 2⟩
abbrev CMBERR_REC_LO_valid : Fld := ⟨CMBERR_REC_LO, 18, 1⟩
abbrev CMBERR_REC_LO_region : Fld := ⟨CMBERR_REC_LO, 19, 5⟩
abbrev CMBERR_REC_HI_tick : Fld := ⟨CMBERR_REC_HI, 0, 32⟩
abbrev CMBERR_FIFO_STAT_level : Fld := ⟨CMBERR_FIFO_STAT, 0, 6⟩
abbrev CMBERR_FIFO_STAT_dropped : Fld := ⟨CMBERR_FIFO_STAT, 16, 16⟩
abbrev CMBERR_TOTAL_value : Fld := ⟨CMBERR_TOTAL, 0, 32⟩
abbrev CMBERR_THR_count : Fld := ⟨CMBERR_THR, 0, 16⟩
abbrev CMBERR_THR_column : Fld := ⟨CMBERR_THR, 16, 4⟩
abbrev CMBERR_CNT_value (n : Nat) : Fld := ⟨(CMBERR_CNT n), 0, 32⟩
abbrev CMBERR_STICKY_block (n : Nat) (w : Nat) : Fld := ⟨(CMBERR_STICKY n w), 0, 32⟩
abbrev MECC_CTRL_ce_records : Fld := ⟨MECC_CTRL, 0, 1⟩
abbrev MECC_EVT_ce : Fld := ⟨MECC_EVT, 0, 1⟩
abbrev MECC_EVT_ue : Fld := ⟨MECC_EVT, 1, 1⟩
abbrev MECC_EVT_pw_refused : Fld := ⟨MECC_EVT, 2, 1⟩
abbrev MECC_EVT_fill_fail : Fld := ⟨MECC_EVT, 3, 1⟩
abbrev MECC_EVT_dropped : Fld := ⟨MECC_EVT, 4, 1⟩
abbrev MECC_EVT_wcollide : Fld := ⟨MECC_EVT, 5, 1⟩
abbrev MECC_EVT_wake_delayed : Fld := ⟨MECC_EVT, 6, 1⟩
abbrev MECC_EVT_window_busy : Fld := ⟨MECC_EVT, 7, 1⟩
abbrev MECC_EVTEN_ce : Fld := ⟨MECC_EVTEN, 0, 1⟩
abbrev MECC_EVTEN_ue : Fld := ⟨MECC_EVTEN, 1, 1⟩
abbrev MECC_EVTEN_pw_refused : Fld := ⟨MECC_EVTEN, 2, 1⟩
abbrev MECC_EVTEN_fill_fail : Fld := ⟨MECC_EVTEN, 3, 1⟩
abbrev MECC_EVTEN_dropped : Fld := ⟨MECC_EVTEN, 4, 1⟩
abbrev MECC_EVTEN_wcollide : Fld := ⟨MECC_EVTEN, 5, 1⟩
abbrev MECC_EVTEN_wake_delayed : Fld := ⟨MECC_EVTEN, 6, 1⟩
abbrev MECC_EVTEN_window_busy : Fld := ⟨MECC_EVTEN, 7, 1⟩
abbrev MECC_REC_LO_column : Fld := ⟨MECC_REC_LO, 0, 5⟩
abbrev MECC_REC_LO_row : Fld := ⟨MECC_REC_LO, 5, 8⟩
abbrev MECC_REC_LO_kind : Fld := ⟨MECC_REC_LO, 13, 2⟩
abbrev MECC_REC_LO_type : Fld := ⟨MECC_REC_LO, 15, 1⟩
abbrev MECC_REC_LO_valid : Fld := ⟨MECC_REC_LO, 16, 1⟩
abbrev MECC_REC_LO_source : Fld := ⟨MECC_REC_LO, 17, 2⟩
abbrev MECC_REC_LO_region : Fld := ⟨MECC_REC_LO, 19, 5⟩
abbrev MECC_REC_ADR_word : Fld := ⟨MECC_REC_ADR, 0, 12⟩
abbrev MECC_REC_ADR_bit : Fld := ⟨MECC_REC_ADR, 12, 7⟩
abbrev MECC_REC_TICK_value : Fld := ⟨MECC_REC_TICK, 0, 32⟩
abbrev MECC_FIFO_STAT_level : Fld := ⟨MECC_FIFO_STAT, 0, 6⟩
abbrev MECC_FIFO_STAT_dropped : Fld := ⟨MECC_FIFO_STAT, 16, 16⟩
abbrev MECC_CE_CNT_value : Fld := ⟨MECC_CE_CNT, 0, 32⟩
abbrev MECC_UE_CNT_value : Fld := ⟨MECC_UE_CNT, 0, 32⟩
abbrev MECC_SEL_column : Fld := ⟨MECC_SEL, 0, 5⟩
abbrev MECC_SEL_row : Fld := ⟨MECC_SEL, 5, 8⟩
abbrev MECC_SEL_type : Fld := ⟨MECC_SEL, 15, 1⟩
abbrev MECC_BLK_exists : Fld := ⟨MECC_BLK, 0, 1⟩
abbrev MECC_BLK_dual : Fld := ⟨MECC_BLK, 1, 1⟩
abbrev MECC_BLK_retention : Fld := ⟨MECC_BLK, 2, 1⟩
abbrev MECC_BLK_not_ready : Fld := ⟨MECC_BLK, 3, 1⟩
abbrev MECC_BLK_ce_seen : Fld := ⟨MECC_BLK, 4, 1⟩
abbrev MECC_BLK_ue_seen : Fld := ⟨MECC_BLK, 5, 1⟩
abbrev MECC_BLK_spare_used : Fld := ⟨MECC_BLK, 6, 2⟩
abbrev MECC_BLK_spare_pending : Fld := ⟨MECC_BLK, 8, 2⟩
abbrev MECC_BLK_ce_count : Fld := ⟨MECC_BLK, 16, 16⟩
abbrev MECC_INJ_arm : Fld := ⟨MECC_INJ, 0, 1⟩
abbrev MECC_INJ_double : Fld := ⟨MECC_INJ, 1, 1⟩
abbrev MECC_INJ_bit_a : Fld := ⟨MECC_INJ, 2, 7⟩
abbrev MECC_INJ_bit_b : Fld := ⟨MECC_INJ, 9, 7⟩
abbrev MECC_WAKE_MAX_value : Fld := ⟨MECC_WAKE_MAX, 0, 32⟩
abbrev NOC_CTRL_timeout_exp : Fld := ⟨NOC_CTRL, 0, 5⟩
abbrev NOC_CTRL_retry_gap : Fld := ⟨NOC_CTRL, 8, 8⟩
abbrev NOC_CTRL_retry_max : Fld := ⟨NOC_CTRL, 16, 8⟩
abbrev NOC_EVT_hdr_ce : Fld := ⟨NOC_EVT, 0, 1⟩
abbrev NOC_EVT_hdr_drop : Fld := ⟨NOC_EVT, 1, 1⟩
abbrev NOC_EVT_crc_fail : Fld := ⟨NOC_EVT, 2, 1⟩
abbrev NOC_EVT_lost : Fld := ⟨NOC_EVT, 3, 1⟩
abbrev NOC_EVT_fenced : Fld := ⟨NOC_EVT, 4, 1⟩
abbrev NOC_EVT_retry_limit : Fld := ⟨NOC_EVT, 5, 1⟩
abbrev NOC_EVT_malformed : Fld := ⟨NOC_EVT, 6, 1⟩
abbrev NOC_EVT_overrun : Fld := ⟨NOC_EVT, 7, 1⟩
abbrev NOC_EVTEN_hdr_ce : Fld := ⟨NOC_EVTEN, 0, 1⟩
abbrev NOC_EVTEN_hdr_drop : Fld := ⟨NOC_EVTEN, 1, 1⟩
abbrev NOC_EVTEN_crc_fail : Fld := ⟨NOC_EVTEN, 2, 1⟩
abbrev NOC_EVTEN_lost : Fld := ⟨NOC_EVTEN, 3, 1⟩
abbrev NOC_EVTEN_fenced : Fld := ⟨NOC_EVTEN, 4, 1⟩
abbrev NOC_EVTEN_retry_limit : Fld := ⟨NOC_EVTEN, 5, 1⟩
abbrev NOC_EVTEN_malformed : Fld := ⟨NOC_EVTEN, 6, 1⟩
abbrev NOC_EVTEN_overrun : Fld := ⟨NOC_EVTEN, 7, 1⟩
abbrev NOC_HDR_CE_value : Fld := ⟨NOC_HDR_CE, 0, 32⟩
abbrev NOC_HDR_UE_value : Fld := ⟨NOC_HDR_UE, 0, 32⟩
abbrev NOC_DROP_LOC_x : Fld := ⟨NOC_DROP_LOC, 0, 4⟩
abbrev NOC_DROP_LOC_y : Fld := ⟨NOC_DROP_LOC, 4, 4⟩
abbrev NOC_DROP_LOC_port : Fld := ⟨NOC_DROP_LOC, 8, 3⟩
abbrev NOC_DROP_LOC_at_ni : Fld := ⟨NOC_DROP_LOC, 11, 1⟩
abbrev NOC_DROP_LOC_tick : Fld := ⟨NOC_DROP_LOC, 16, 16⟩
abbrev NOC_CRC_CNT_value : Fld := ⟨NOC_CRC_CNT, 0, 32⟩
abbrev NOC_CRC_LOC_src_id : Fld := ⟨NOC_CRC_LOC, 0, 12⟩
abbrev NOC_CRC_LOC_endpoint : Fld := ⟨NOC_CRC_LOC, 12, 8⟩
abbrev NOC_CRC_LOC_flit : Fld := ⟨NOC_CRC_LOC, 20, 3⟩
abbrev NOC_CRC_LOC_dir : Fld := ⟨NOC_CRC_LOC, 23, 1⟩
abbrev NOC_CRC_LOC_notified : Fld := ⟨NOC_CRC_LOC, 24, 1⟩
abbrev NOC_LOST_CNT_value : Fld := ⟨NOC_LOST_CNT, 0, 32⟩
abbrev NOC_LOST_LOC_endpoint : Fld := ⟨NOC_LOST_LOC, 0, 8⟩
abbrev NOC_LOST_LOC_queue : Fld := ⟨NOC_LOST_LOC, 8, 5⟩
abbrev NOC_LOST_LOC_dst_x : Fld := ⟨NOC_LOST_LOC, 16, 4⟩
abbrev NOC_LOST_LOC_dst_y : Fld := ⟨NOC_LOST_LOC, 20, 4⟩
abbrev NOC_LOST_LOC_dst_ep : Fld := ⟨NOC_LOST_LOC, 24, 8⟩
abbrev NOC_FENCE_CNT_value : Fld := ⟨NOC_FENCE_CNT, 0, 32⟩
abbrev NOC_RETRY_CNT_value : Fld := ⟨NOC_RETRY_CNT, 0, 32⟩
abbrev NOC_RTR_SEL_x : Fld := ⟨NOC_RTR_SEL, 0, 4⟩
abbrev NOC_RTR_SEL_y : Fld := ⟨NOC_RTR_SEL, 4, 4⟩
abbrev NOC_RTR_STAT_exists : Fld := ⟨NOC_RTR_STAT, 0, 1⟩
abbrev NOC_RTR_STAT_fenced : Fld := ⟨NOC_RTR_STAT, 1, 4⟩
abbrev NOC_RTR_STAT_tunnel : Fld := ⟨NOC_RTR_STAT, 5, 4⟩
abbrev NOC_RTR_SLACK_value : Fld := ⟨NOC_RTR_SLACK, 0, 32⟩
abbrev NOC_RTR_OVR_value : Fld := ⟨NOC_RTR_OVR, 0, 32⟩
abbrev PROBES_SCH_STATE_state : Fld := ⟨PROBES_SCH_STATE, 0, 2⟩
abbrev PROBES_SCH_STATE_bank : Fld := ⟨PROBES_SCH_STATE, 2, 1⟩
abbrev PROBES_SCH_STATE_locked : Fld := ⟨PROBES_SCH_STATE, 3, 1⟩
abbrev PROBES_SCH_EVT_swap_done : Fld := ⟨PROBES_SCH_EVT, 0, 1⟩
abbrev PROBES_SCH_EVT_swap_refused : Fld := ⟨PROBES_SCH_EVT, 1, 1⟩
abbrev PROBES_SCH_EVT_suspended : Fld := ⟨PROBES_SCH_EVT, 2, 1⟩
abbrev PROBES_SCH_EVT_demoted : Fld := ⟨PROBES_SCH_EVT, 3, 1⟩
abbrev PROBES_SCH_EVT_held_over : Fld := ⟨PROBES_SCH_EVT, 4, 1⟩
abbrev PROBES_SCH_EVT_locked_write : Fld := ⟨PROBES_SCH_EVT, 5, 1⟩
abbrev PROBES_SCH_EVTEN_swap_done : Fld := ⟨PROBES_SCH_EVTEN, 0, 1⟩
abbrev PROBES_SCH_EVTEN_swap_refused : Fld := ⟨PROBES_SCH_EVTEN, 1, 1⟩
abbrev PROBES_SCH_EVTEN_suspended : Fld := ⟨PROBES_SCH_EVTEN, 2, 1⟩
abbrev PROBES_SCH_EVTEN_demoted : Fld := ⟨PROBES_SCH_EVTEN, 3, 1⟩
abbrev PROBES_SCH_EVTEN_held_over : Fld := ⟨PROBES_SCH_EVTEN, 4, 1⟩
abbrev PROBES_SCH_EVTEN_locked_write : Fld := ⟨PROBES_SCH_EVTEN, 5, 1⟩
abbrev PROBES_SCH_IDX_index : Fld := ⟨PROBES_SCH_IDX, 0, 12⟩
abbrev PROBES_SCH_IDX_bank : Fld := ⟨PROBES_SCH_IDX, 12, 1⟩
abbrev PROBES_SCH_ENT_value (n : Nat) : Fld := ⟨(PROBES_SCH_ENT n), 0, 32⟩
abbrev PROBES_SCH_HDR_P_value : Fld := ⟨PROBES_SCH_HDR_P, 0, 25⟩
abbrev PROBES_SCH_HDR_Q_value : Fld := ⟨PROBES_SCH_HDR_Q, 0, 25⟩
abbrev PROBES_SCH_CRC_value : Fld := ⟨PROBES_SCH_CRC, 0, 32⟩
abbrev PROBES_SCH_SWAP_arm : Fld := ⟨PROBES_SCH_SWAP, 0, 1⟩
abbrev PROBES_SCH_SWAP_cancel : Fld := ⟨PROBES_SCH_SWAP, 1, 1⟩
abbrev PROBES_SCH_AT_LO_value : Fld := ⟨PROBES_SCH_AT_LO, 0, 32⟩
abbrev PROBES_SCH_AT_HI_value : Fld := ⟨PROBES_SCH_AT_HI, 0, 32⟩
abbrev PROBES_SCH_SWSTAT_checking : Fld := ⟨PROBES_SCH_SWSTAT, 0, 1⟩
abbrev PROBES_SCH_SWSTAT_pending : Fld := ⟨PROBES_SCH_SWSTAT, 1, 1⟩
abbrev PROBES_SCH_SWSTAT_reason : Fld := ⟨PROBES_SCH_SWSTAT, 4, 4⟩
abbrev PROBES_SCH_SWSTAT_die : Fld := ⟨PROBES_SCH_SWSTAT, 8, 4⟩
abbrev PROBES_SCH_ADMIT_value : Fld := ⟨PROBES_SCH_ADMIT, 0, 32⟩
abbrev PROBES_SCH_HELD_value : Fld := ⟨PROBES_SCH_HELD, 0, 32⟩
abbrev PROBES_SCH_DEMOTE_value : Fld := ⟨PROBES_SCH_DEMOTE, 0, 32⟩
abbrev PROBES_SCH_LAST_entry : Fld := ⟨PROBES_SCH_LAST, 0, 12⟩
abbrev PROBES_SCH_LAST_init_ep : Fld := ⟨PROBES_SCH_LAST, 12, 8⟩
abbrev PROBES_SCH_LAST_kind : Fld := ⟨PROBES_SCH_LAST, 20, 1⟩
abbrev PROBES_P_CTRL_enable (n : Nat) : Fld := ⟨(PROBES_P_CTRL n), 0, 1⟩
abbrev PROBES_P_CTRL_mode (n : Nat) : Fld := ⟨(PROBES_P_CTRL n), 1, 2⟩
abbrev PROBES_P_CTRL_trig_src (n : Nat) : Fld := ⟨(PROBES_P_CTRL n), 3, 2⟩
abbrev PROBES_P_CTRL_x (n : Nat) : Fld := ⟨(PROBES_P_CTRL n), 5, 4⟩
abbrev PROBES_P_CTRL_y (n : Nat) : Fld := ⟨(PROBES_P_CTRL n), 9, 4⟩
abbrev PROBES_P_CTRL_ports (n : Nat) : Fld := ⟨(PROBES_P_CTRL n), 13, 8⟩
abbrev PROBES_P_CTRL_key (n : Nat) : Fld := ⟨(PROBES_P_CTRL n), 21, 6⟩
abbrev PROBES_P_STAT_state (n : Nat) : Fld := ⟨(PROBES_P_STAT n), 0, 3⟩
abbrev PROBES_P_STAT_triggered (n : Nat) : Fld := ⟨(PROBES_P_STAT n), 3, 1⟩
abbrev PROBES_P_STAT_error (n : Nat) : Fld := ⟨(PROBES_P_STAT n), 8, 8⟩
abbrev PROBES_P_STAT_status (n : Nat) : Fld := ⟨(PROBES_P_STAT n), 16, 8⟩
abbrev PROBES_P_FORCE_trigger (n : Nat) : Fld := ⟨(PROBES_P_FORCE n), 0, 1⟩
abbrev PROBES_P_FORCE_stop (n : Nat) : Fld := ⟨(PROBES_P_FORCE n), 1, 1⟩
abbrev PROBES_P_SRC_value (n : Nat) : Fld := ⟨(PROBES_P_SRC n), 0, 12⟩
abbrev PROBES_P_SRC_mask (n : Nat) : Fld := ⟨(PROBES_P_SRC n), 16, 12⟩
abbrev PROBES_P_DST_value (n : Nat) : Fld := ⟨(PROBES_P_DST n), 0, 16⟩
abbrev PROBES_P_DST_mask (n : Nat) : Fld := ⟨(PROBES_P_DST n), 16, 16⟩
abbrev PROBES_P_MATCH_class (n : Nat) : Fld := ⟨(PROBES_P_MATCH n), 0, 2⟩
abbrev PROBES_P_MATCH_key (n : Nat) : Fld := ⟨(PROBES_P_MATCH n), 2, 6⟩
abbrev PROBES_P_MATCH_key_mask (n : Nat) : Fld := ⟨(PROBES_P_MATCH n), 8, 6⟩
abbrev PROBES_P_MATCH_opcodes (n : Nat) : Fld := ⟨(PROBES_P_MATCH n), 14, 7⟩
abbrev PROBES_P_MATCH_range (n : Nat) : Fld := ⟨(PROBES_P_MATCH n), 21, 1⟩
abbrev PROBES_P_ALO_LO_value (n : Nat) : Fld := ⟨(PROBES_P_ALO_LO n), 0, 32⟩
abbrev PROBES_P_ALO_HI_addr (n : Nat) : Fld := ⟨(PROBES_P_ALO_HI n), 0, 16⟩
abbrev PROBES_P_AHI_LO_value (n : Nat) : Fld := ⟨(PROBES_P_AHI_LO n), 0, 32⟩
abbrev PROBES_P_AHI_HI_addr (n : Nat) : Fld := ⟨(PROBES_P_AHI_HI n), 0, 16⟩
abbrev PROBES_P_BUF_LO_value (n : Nat) : Fld := ⟨(PROBES_P_BUF_LO n), 0, 32⟩
abbrev PROBES_P_BUF_HI_addr (n : Nat) : Fld := ⟨(PROBES_P_BUF_HI n), 0, 16⟩
abbrev PROBES_P_BUFSZ_s (n : Nat) : Fld := ⟨(PROBES_P_BUFSZ n), 0, 5⟩
abbrev PROBES_P_WPTR_index (n : Nat) : Fld := ⟨(PROBES_P_WPTR n), 0, 25⟩
abbrev PROBES_P_WPTR_wrapped (n : Nat) : Fld := ⟨(PROBES_P_WPTR n), 31, 1⟩
abbrev PROBES_P_POST_count (n : Nat) : Fld := ⟨(PROBES_P_POST n), 0, 25⟩
abbrev PROBES_P_TTICK_LO_value (n : Nat) : Fld := ⟨(PROBES_P_TTICK_LO n), 0, 32⟩
abbrev PROBES_P_TTICK_HI_value (n : Nat) : Fld := ⟨(PROBES_P_TTICK_HI n), 0, 32⟩
abbrev PROBES_P_HCNT_LO_value (n : Nat) : Fld := ⟨(PROBES_P_HCNT_LO n), 0, 32⟩
abbrev PROBES_P_HCNT_HI_value (n : Nat) : Fld := ⟨(PROBES_P_HCNT_HI n), 0, 32⟩
abbrev PROBES_P_FCNT_LO_value (n : Nat) : Fld := ⟨(PROBES_P_FCNT_LO n), 0, 32⟩
abbrev PROBES_P_FCNT_HI_value (n : Nat) : Fld := ⟨(PROBES_P_FCNT_HI n), 0, 32⟩
abbrev PROBES_P_LOST_value (n : Nat) : Fld := ⟨(PROBES_P_LOST n), 0, 32⟩
abbrev PROBES_P_TRIGPOS_index (n : Nat) : Fld := ⟨(PROBES_P_TRIGPOS n), 0, 25⟩
abbrev PROBES_ST_SEL_endpoint : Fld := ⟨PROBES_ST_SEL, 0, 8⟩
abbrev PROBES_ST_SEL_entry : Fld := ⟨PROBES_ST_SEL, 8, 5⟩
abbrev PROBES_ST_SEL_pin_id : Fld := ⟨PROBES_ST_SEL, 16, 12⟩
abbrev PROBES_ST_CMD_capture : Fld := ⟨PROBES_ST_CMD, 0, 1⟩
abbrev PROBES_ST_CMD_clear : Fld := ⟨PROBES_ST_CMD, 1, 1⟩
abbrev PROBES_ST_CMD_pin : Fld := ⟨PROBES_ST_CMD, 2, 1⟩
abbrev PROBES_ST_CMD_unpin : Fld := ⟨PROBES_ST_CMD, 3, 1⟩
abbrev PROBES_ST_ID_init_id : Fld := ⟨PROBES_ST_ID, 0, 12⟩
abbrev PROBES_ST_ID_used : Fld := ⟨PROBES_ST_ID, 12, 1⟩
abbrev PROBES_ST_ID_pinned : Fld := ⟨PROBES_ST_ID, 13, 1⟩
abbrev PROBES_ST_ID_other : Fld := ⟨PROBES_ST_ID, 14, 1⟩
abbrev PROBES_ST_ID_exists : Fld := ⟨PROBES_ST_ID, 15, 1⟩
abbrev PROBES_ST_ID_pin_refused : Fld := ⟨PROBES_ST_ID, 16, 1⟩
abbrev PROBES_ST_REQ_value : Fld := ⟨PROBES_ST_REQ, 0, 32⟩
abbrev PROBES_ST_RDB_LO_value : Fld := ⟨PROBES_ST_RDB_LO, 0, 32⟩
abbrev PROBES_ST_RDB_HI_value : Fld := ⟨PROBES_ST_RDB_HI, 0, 32⟩
abbrev PROBES_ST_WRB_LO_value : Fld := ⟨PROBES_ST_WRB_LO, 0, 32⟩
abbrev PROBES_ST_WRB_HI_value : Fld := ⟨PROBES_ST_WRB_HI, 0, 32⟩
abbrev PROBES_ST_LATSUM_LO_value : Fld := ⟨PROBES_ST_LATSUM_LO, 0, 32⟩
abbrev PROBES_ST_LATSUM_HI_value : Fld := ⟨PROBES_ST_LATSUM_HI, 0, 32⟩
abbrev PROBES_ST_LATMAX_value : Fld := ⟨PROBES_ST_LATMAX, 0, 32⟩
abbrev PROBES_ST_ANS_retry : Fld := ⟨PROBES_ST_ANS, 0, 16⟩
abbrev PROBES_ST_ANS_error : Fld := ⟨PROBES_ST_ANS, 16, 16⟩
abbrev PROBES_ST_SINCE_LO_value : Fld := ⟨PROBES_ST_SINCE_LO, 0, 32⟩
abbrev PROBES_ST_SINCE_HI_value : Fld := ⟨PROBES_ST_SINCE_HI, 0, 32⟩
abbrev CORUG_EVT_fence : Fld := ⟨CORUG_EVT, 0, 1⟩
abbrev CORUG_EVT_unfence : Fld := ⟨CORUG_EVT, 1, 1⟩
abbrev CORUG_EVT_margin_low : Fld := ⟨CORUG_EVT, 2, 1⟩
abbrev CORUG_EVT_swap_done : Fld := ⟨CORUG_EVT, 3, 1⟩
abbrev CORUG_EVT_ctl_crc : Fld := ⟨CORUG_EVT, 4, 1⟩
abbrev CORUG_EVT_stream_closed : Fld := ⟨CORUG_EVT, 5, 1⟩
abbrev CORUG_EVT_stream_drop : Fld := ⟨CORUG_EVT, 6, 1⟩
abbrev CORUG_EVT_train_fail : Fld := ⟨CORUG_EVT, 7, 1⟩
abbrev CORUG_EVT_cmd_refused : Fld := ⟨CORUG_EVT, 8, 1⟩
abbrev CORUG_EVTEN_fence : Fld := ⟨CORUG_EVTEN, 0, 1⟩
abbrev CORUG_EVTEN_unfence : Fld := ⟨CORUG_EVTEN, 1, 1⟩
abbrev CORUG_EVTEN_margin_low : Fld := ⟨CORUG_EVTEN, 2, 1⟩
abbrev CORUG_EVTEN_swap_done : Fld := ⟨CORUG_EVTEN, 3, 1⟩
abbrev CORUG_EVTEN_ctl_crc : Fld := ⟨CORUG_EVTEN, 4, 1⟩
abbrev CORUG_EVTEN_stream_closed : Fld := ⟨CORUG_EVTEN, 5, 1⟩
abbrev CORUG_EVTEN_stream_drop : Fld := ⟨CORUG_EVTEN, 6, 1⟩
abbrev CORUG_EVTEN_train_fail : Fld := ⟨CORUG_EVTEN, 7, 1⟩
abbrev CORUG_EVTEN_cmd_refused : Fld := ⟨CORUG_EVTEN, 8, 1⟩
abbrev CORUG_CMD_op : Fld := ⟨CORUG_CMD, 0, 3⟩
abbrev CORUG_CMD_edge : Fld := ⟨CORUG_CMD, 3, 2⟩
abbrev CORUG_CMD_module : Fld := ⟨CORUG_CMD, 5, 3⟩
abbrev CORUG_CMD_channel : Fld := ⟨CORUG_CMD, 8, 1⟩
abbrev CORUG_CMDSTAT_busy : Fld := ⟨CORUG_CMDSTAT, 0, 1⟩
abbrev CORUG_CMDSTAT_op : Fld := ⟨CORUG_CMDSTAT, 1, 3⟩
abbrev CORUG_CMDSTAT_reason : Fld := ⟨CORUG_CMDSTAT, 4, 4⟩
abbrev CORUG_CFG_margin_thr : Fld := ⟨CORUG_CFG, 0, 6⟩
abbrev CORUG_CFG_conservative : Fld := ⟨CORUG_CFG, 8, 1⟩
abbrev CORUG_FENCE_LOG_edge : Fld := ⟨CORUG_FENCE_LOG, 0, 2⟩
abbrev CORUG_FENCE_LOG_cause : Fld := ⟨CORUG_FENCE_LOG, 2, 4⟩
abbrev CORUG_FENCE_LOG_tick : Fld := ⟨CORUG_FENCE_LOG, 16, 16⟩
abbrev CORUG_M_STAT_exists (n : Nat) : Fld := ⟨(CORUG_M_STAT n), 0, 1⟩
abbrev CORUG_M_STAT_kind (n : Nat) : Fld := ⟨(CORUG_M_STAT n), 1, 2⟩
abbrev CORUG_M_STAT_trained (n : Nat) : Fld := ⟨(CORUG_M_STAT n), 3, 1⟩
abbrev CORUG_M_STAT_tx_spares (n : Nat) : Fld := ⟨(CORUG_M_STAT n), 8, 2⟩
abbrev CORUG_M_STAT_rx_spares (n : Nat) : Fld := ⟨(CORUG_M_STAT n), 10, 2⟩
abbrev CORUG_M_TXMAP_b1 (n : Nat) : Fld := ⟨(CORUG_M_TXMAP n), 0, 7⟩
abbrev CORUG_M_TXMAP_b2 (n : Nat) : Fld := ⟨(CORUG_M_TXMAP n), 8, 7⟩
abbrev CORUG_M_RXMAP_b1 (n : Nat) : Fld := ⟨(CORUG_M_RXMAP n), 0, 7⟩
abbrev CORUG_M_RXMAP_b2 (n : Nat) : Fld := ⟨(CORUG_M_RXMAP n), 8, 7⟩
abbrev CORUG_M_MARGIN_margin (n : Nat) : Fld := ⟨(CORUG_M_MARGIN n), 0, 6⟩
abbrev CORUG_M_MARGIN_wire (n : Nat) : Fld := ⟨(CORUG_M_MARGIN n), 8, 7⟩
abbrev CORUG_M_ERR_crc (n : Nat) : Fld := ⟨(CORUG_M_ERR n), 0, 16⟩
abbrev CORUG_M_ERR_loop (n : Nat) : Fld := ⟨(CORUG_M_ERR n), 16, 16⟩
abbrev CORUG_M_SDROP_value (n : Nat) : Fld := ⟨(CORUG_M_SDROP n), 0, 32⟩
abbrev CORUG_M_CHAN_value (n : Nat) : Fld := ⟨(CORUG_M_CHAN n), 0, 32⟩
abbrev UCIE_CTRL_rate_cap : Fld := ⟨UCIE_CTRL, 0, 3⟩
abbrev UCIE_STAT_state : Fld := ⟨UCIE_STAT, 0, 3⟩
abbrev UCIE_STAT_rate : Fld := ⟨UCIE_STAT, 3, 3⟩
abbrev UCIE_STAT_reason : Fld := ⟨UCIE_STAT, 8, 4⟩
abbrev UCIE_STAT_entry : Fld := ⟨UCIE_STAT, 12, 3⟩
abbrev UCIE_EVT_admitted : Fld := ⟨UCIE_EVT, 0, 1⟩
abbrev UCIE_EVT_refused : Fld := ⟨UCIE_EVT, 1, 1⟩
abbrev UCIE_EVT_down : Fld := ⟨UCIE_EVT, 2, 1⟩
abbrev UCIE_EVT_crc : Fld := ⟨UCIE_EVT, 3, 1⟩
abbrev UCIE_EVT_blocked : Fld := ⟨UCIE_EVT, 4, 1⟩
abbrev UCIE_EVTEN_admitted : Fld := ⟨UCIE_EVTEN, 0, 1⟩
abbrev UCIE_EVTEN_refused : Fld := ⟨UCIE_EVTEN, 1, 1⟩
abbrev UCIE_EVTEN_down : Fld := ⟨UCIE_EVTEN, 2, 1⟩
abbrev UCIE_EVTEN_crc : Fld := ⟨UCIE_EVTEN, 3, 1⟩
abbrev UCIE_EVTEN_blocked : Fld := ⟨UCIE_EVTEN, 4, 1⟩
abbrev UCIE_CMD_admit : Fld := ⟨UCIE_CMD, 0, 1⟩
abbrev UCIE_CMD_down : Fld := ⟨UCIE_CMD, 1, 1⟩
abbrev UCIE_DISC_value (n : Nat) : Fld := ⟨(UCIE_DISC n), 0, 32⟩
abbrev UCIE_CRC_CNT_value : Fld := ⟨UCIE_CRC_CNT, 0, 32⟩
abbrev UCIE_BLOCK_CNT_value : Fld := ⟨UCIE_BLOCK_CNT, 0, 32⟩
abbrev UCIE_WIN_BASE_LO_addr (n : Nat) : Fld := ⟨(UCIE_WIN_BASE_LO n), 12, 20⟩
abbrev UCIE_WIN_BASE_HI_addr (n : Nat) : Fld := ⟨(UCIE_WIN_BASE_HI n), 0, 16⟩
abbrev UCIE_WIN_LIM_LO_addr (n : Nat) : Fld := ⟨(UCIE_WIN_LIM_LO n), 12, 20⟩
abbrev UCIE_WIN_LIM_HI_addr (n : Nat) : Fld := ⟨(UCIE_WIN_LIM_HI n), 0, 16⟩
abbrev LQ_PLLA_rate_kbps (q : Nat) : Fld := ⟨(LQ_PLLA q), 0, 26⟩
abbrev LQ_PLLA_en (q : Nat) : Fld := ⟨(LQ_PLLA q), 31, 1⟩
abbrev LQ_PLLB_rate_kbps (q : Nat) : Fld := ⟨(LQ_PLLB q), 0, 26⟩
abbrev LQ_PLLB_en (q : Nat) : Fld := ⟨(LQ_PLLB q), 31, 1⟩
abbrev LQ_STAT_a_lock (q : Nat) : Fld := ⟨(LQ_STAT q), 0, 1⟩
abbrev LQ_STAT_b_lock (q : Nat) : Fld := ⟨(LQ_STAT q), 1, 1⟩
abbrev LQ_STAT_spare_quad (q : Nat) : Fld := ⟨(LQ_STAT q), 2, 1⟩
abbrev LQ_EVT_lock (q : Nat) : Fld := ⟨(LQ_EVT q), 0, 1⟩
abbrev LQ_EVT_lock_lost (q : Nat) : Fld := ⟨(LQ_EVT q), 1, 1⟩
abbrev LQ_EVT_train_fail (q : Nat) : Fld := ⟨(LQ_EVT q), 2, 1⟩
abbrev LQ_EVT_no_entry (q : Nat) : Fld := ⟨(LQ_EVT q), 3, 1⟩
abbrev LQ_EVT_drop (q : Nat) : Fld := ⟨(LQ_EVT q), 4, 1⟩
abbrev LQ_EVT_pll_unlock (q : Nat) : Fld := ⟨(LQ_EVT q), 5, 1⟩
abbrev LQ_EVT_pll_range (q : Nat) : Fld := ⟨(LQ_EVT q), 6, 1⟩
abbrev LQ_EVT_refused (q : Nat) : Fld := ⟨(LQ_EVT q), 7, 1⟩
abbrev LQ_EVT_bundle_stop (q : Nat) : Fld := ⟨(LQ_EVT q), 8, 1⟩
abbrev LQ_EVTEN_lock (q : Nat) : Fld := ⟨(LQ_EVTEN q), 0, 1⟩
abbrev LQ_EVTEN_lock_lost (q : Nat) : Fld := ⟨(LQ_EVTEN q), 1, 1⟩
abbrev LQ_EVTEN_train_fail (q : Nat) : Fld := ⟨(LQ_EVTEN q), 2, 1⟩
abbrev LQ_EVTEN_no_entry (q : Nat) : Fld := ⟨(LQ_EVTEN q), 3, 1⟩
abbrev LQ_EVTEN_drop (q : Nat) : Fld := ⟨(LQ_EVTEN q), 4, 1⟩
abbrev LQ_EVTEN_pll_unlock (q : Nat) : Fld := ⟨(LQ_EVTEN q), 5, 1⟩
abbrev LQ_EVTEN_pll_range (q : Nat) : Fld := ⟨(LQ_EVTEN q), 6, 1⟩
abbrev LQ_EVTEN_refused (q : Nat) : Fld := ⟨(LQ_EVTEN q), 7, 1⟩
abbrev LQ_EVTEN_bundle_stop (q : Nat) : Fld := ⟨(LQ_EVTEN q), 8, 1⟩
abbrev LQ_CMD_lane (q : Nat) : Fld := ⟨(LQ_CMD q), 0, 2⟩
abbrev LQ_CMD_op (q : Nat) : Fld := ⟨(LQ_CMD q), 2, 2⟩
abbrev LQ_L_CFG_mode (q : Nat) (n : Nat) : Fld := ⟨(LQ_L_CFG q n), 0, 3⟩
abbrev LQ_L_CFG_pll (q : Nat) (n : Nat) : Fld := ⟨(LQ_L_CFG q n), 3, 1⟩
abbrev LQ_L_CFG_div (q : Nat) (n : Nat) : Fld := ⟨(LQ_L_CFG q n), 4, 2⟩
abbrev LQ_L_CFG_eq (q : Nat) (n : Nat) : Fld := ⟨(LQ_L_CFG q n), 6, 1⟩
abbrev LQ_L_CFG_bc (q : Nat) (n : Nat) : Fld := ⟨(LQ_L_CFG q n), 7, 1⟩
abbrev LQ_L_CFG_req (q : Nat) (n : Nat) : Fld := ⟨(LQ_L_CFG q n), 8, 1⟩
abbrev LQ_L_CFG_tx_inv (q : Nat) (n : Nat) : Fld := ⟨(LQ_L_CFG q n), 9, 1⟩
abbrev LQ_L_CFG_rx_inv (q : Nat) (n : Nat) : Fld := ⟨(LQ_L_CFG q n), 10, 1⟩
abbrev LQ_L_CFG_use (q : Nat) (n : Nat) : Fld := ⟨(LQ_L_CFG q n), 11, 2⟩
abbrev LQ_L_CFG_bw (q : Nat) (n : Nat) : Fld := ⟨(LQ_L_CFG q n), 13, 2⟩
abbrev LQ_L_CFG_noalign (q : Nat) (n : Nat) : Fld := ⟨(LQ_L_CFG q n), 15, 1⟩
abbrev LQ_L_CFG_engine (q : Nat) (n : Nat) : Fld := ⟨(LQ_L_CFG q n), 16, 4⟩
abbrev LQ_L_TXEQ_pre (q : Nat) (n : Nat) : Fld := ⟨(LQ_L_TXEQ q n), 0, 4⟩
abbrev LQ_L_TXEQ_main (q : Nat) (n : Nat) : Fld := ⟨(LQ_L_TXEQ q n), 8, 6⟩
abbrev LQ_L_TXEQ_post (q : Nat) (n : Nat) : Fld := ⟨(LQ_L_TXEQ q n), 16, 5⟩
abbrev LQ_L_TXEQ_from_table (q : Nat) (n : Nat) : Fld := ⟨(LQ_L_TXEQ q n), 24, 1⟩
abbrev LQ_L_TXEQ_negotiated (q : Nat) (n : Nat) : Fld := ⟨(LQ_L_TXEQ q n), 25, 1⟩
abbrev LQ_L_RXEQ_ctle (q : Nat) (n : Nat) : Fld := ⟨(LQ_L_RXEQ q n), 0, 5⟩
abbrev LQ_L_RXEQ_gain (q : Nat) (n : Nat) : Fld := ⟨(LQ_L_RXEQ q n), 8, 4⟩
abbrev LQ_L_STAT_state (q : Nat) (n : Nat) : Fld := ⟨(LQ_L_STAT q n), 0, 3⟩
abbrev LQ_L_STAT_bundle_up (q : Nat) (n : Nat) : Fld := ⟨(LQ_L_STAT q n), 3, 1⟩
abbrev LQ_L_STAT_reason (q : Nat) (n : Nat) : Fld := ⟨(LQ_L_STAT q n), 4, 4⟩
abbrev LQ_L_STAT_phys (q : Nat) (n : Nat) : Fld := ⟨(LQ_L_STAT q n), 8, 7⟩
abbrev LQ_L_STAT_margin (q : Nat) (n : Nat) : Fld := ⟨(LQ_L_STAT q n), 16, 6⟩
abbrev LQ_L_HDRERR_value (q : Nat) (n : Nat) : Fld := ⟨(LQ_L_HDRERR q n), 0, 32⟩
abbrev LQ_L_LOCKLOSS_value (q : Nat) (n : Nat) : Fld := ⟨(LQ_L_LOCKLOSS q n), 0, 32⟩
abbrev LQ_L_DROP_value (q : Nat) (n : Nat) : Fld := ⟨(LQ_L_DROP q n), 0, 32⟩
abbrev LQ_L_ALTS_LO_value (q : Nat) (n : Nat) : Fld := ⟨(LQ_L_ALTS_LO q n), 0, 32⟩
abbrev LQ_L_ALTS_HI_value (q : Nat) (n : Nat) : Fld := ⟨(LQ_L_ALTS_HI q n), 0, 32⟩
abbrev LQ_L_ALTS_FINE_fine (q : Nat) (n : Nat) : Fld := ⟨(LQ_L_ALTS_FINE q n), 0, 8⟩
abbrev LQ_L_ALTS_FINE_count (q : Nat) (n : Nat) : Fld := ⟨(LQ_L_ALTS_FINE q n), 8, 24⟩
abbrev PCIE_STAT_up : Fld := ⟨PCIE_STAT, 0, 1⟩
abbrev PCIE_STAT_speed : Fld := ⟨PCIE_STAT, 1, 3⟩
abbrev PCIE_STAT_width : Fld := ⟨PCIE_STAT, 4, 5⟩
abbrev PCIE_STAT_perst : Fld := ⟨PCIE_STAT, 9, 1⟩
abbrev PCIE_STAT_d3hot : Fld := ⟨PCIE_STAT, 10, 1⟩
abbrev PCIE_EVT_link_up : Fld := ⟨PCIE_EVT, 0, 1⟩
abbrev PCIE_EVT_link_down : Fld := ⟨PCIE_EVT, 1, 1⟩
abbrev PCIE_EVT_perst : Fld := ⟨PCIE_EVT, 2, 1⟩
abbrev PCIE_EVT_hot_reset : Fld := ⟨PCIE_EVT, 3, 1⟩
abbrev PCIE_EVT_flr : Fld := ⟨PCIE_EVT, 4, 1⟩
abbrev PCIE_EVT_host_wr_err : Fld := ⟨PCIE_EVT, 5, 1⟩
abbrev PCIE_EVT_dma_err : Fld := ⟨PCIE_EVT, 6, 1⟩
abbrev PCIE_EVT_refused : Fld := ⟨PCIE_EVT, 7, 1⟩
abbrev PCIE_EVTEN_link_up : Fld := ⟨PCIE_EVTEN, 0, 1⟩
abbrev PCIE_EVTEN_link_down : Fld := ⟨PCIE_EVTEN, 1, 1⟩
abbrev PCIE_EVTEN_perst : Fld := ⟨PCIE_EVTEN, 2, 1⟩
abbrev PCIE_EVTEN_hot_reset : Fld := ⟨PCIE_EVTEN, 3, 1⟩
abbrev PCIE_EVTEN_flr : Fld := ⟨PCIE_EVTEN, 4, 1⟩
abbrev PCIE_EVTEN_host_wr_err : Fld := ⟨PCIE_EVTEN, 5, 1⟩
abbrev PCIE_EVTEN_dma_err : Fld := ⟨PCIE_EVTEN, 6, 1⟩
abbrev PCIE_EVTEN_refused : Fld := ⟨PCIE_EVTEN, 7, 1⟩
abbrev PCIE_CTRL_evt_vector : Fld := ⟨PCIE_CTRL, 0, 6⟩
abbrev PCIE_BAR2_size : Fld := ⟨PCIE_BAR2, 0, 5⟩
abbrev PCIE_BAR2_base : Fld := ⟨PCIE_BAR2, 8, 11⟩
abbrev PCIE_KEYS_bar2 : Fld := ⟨PCIE_KEYS, 0, 6⟩
abbrev PCIE_KEYS_shell : Fld := ⟨PCIE_KEYS, 8, 6⟩
abbrev PCIE_CLWIN_id (n : Nat) : Fld := ⟨(PCIE_CLWIN n), 0, 14⟩
abbrev PCIE_CLWIN_en (n : Nat) : Fld := ⟨(PCIE_CLWIN n), 31, 1⟩
abbrev PCIE_HWERR_status : Fld := ⟨PCIE_HWERR, 0, 8⟩
abbrev PCIE_HWERR_bar : Fld := ⟨PCIE_HWERR, 8, 2⟩
abbrev PCIE_HWERR_tick : Fld := ⟨PCIE_HWERR, 16, 16⟩
abbrev PCIE_Q_CTRL_enable (n : Nat) : Fld := ⟨(PCIE_Q_CTRL n), 0, 1⟩
abbrev PCIE_Q_CTRL_ring (n : Nat) : Fld := ⟨(PCIE_Q_CTRL n), 1, 5⟩
abbrev PCIE_Q_CTRL_vector (n : Nat) : Fld := ⟨(PCIE_Q_CTRL n), 6, 6⟩
abbrev PCIE_Q_BASE_LO_addr (n : Nat) : Fld := ⟨(PCIE_Q_BASE_LO n), 5, 27⟩
abbrev PCIE_Q_BASE_HI_value (n : Nat) : Fld := ⟨(PCIE_Q_BASE_HI n), 0, 32⟩
abbrev PCIE_Q_TAIL_index (n : Nat) : Fld := ⟨(PCIE_Q_TAIL n), 0, 16⟩
abbrev PCIE_Q_HEAD_index (n : Nat) : Fld := ⟨(PCIE_Q_HEAD n), 0, 16⟩
abbrev PCIE_Q_STAT_state (n : Nat) : Fld := ⟨(PCIE_Q_STAT n), 0, 2⟩
abbrev PCIE_Q_STAT_noc (n : Nat) : Fld := ⟨(PCIE_Q_STAT n), 8, 8⟩
abbrev PCIE_Q_STAT_host (n : Nat) : Fld := ⟨(PCIE_Q_STAT n), 16, 4⟩
abbrev PCIE_Q_KEY_key (n : Nat) : Fld := ⟨(PCIE_Q_KEY n), 0, 6⟩
abbrev PCIE_MSIX_TBL_value (n : Nat) : Fld := ⟨(PCIE_MSIX_TBL n), 0, 32⟩
abbrev PCIE_MSIX_PBA_value (n : Nat) : Fld := ⟨(PCIE_MSIX_PBA n), 0, 32⟩
abbrev ITA_ID_id : Fld := ⟨ITA_ID, 0, 14⟩
abbrev ITA_ID_valid : Fld := ⟨ITA_ID, 14, 1⟩
abbrev ITA_ID_assigned : Fld := ⟨ITA_ID, 15, 1⟩
abbrev ITA_ID_top : Fld := ⟨ITA_ID, 16, 1⟩
abbrev ITA_ID_head : Fld := ⟨ITA_ID, 17, 1⟩
abbrev ITA_ID_upstream : Fld := ⟨ITA_ID, 18, 4⟩
abbrev ITA_HORIZON_h : Fld := ⟨ITA_HORIZON, 0, 16⟩
abbrev ITA_WORST_tb : Fld := ⟨ITA_WORST, 0, 32⟩
abbrev ITA_EVT_port_up : Fld := ⟨ITA_EVT, 0, 1⟩
abbrev ITA_EVT_port_down : Fld := ⟨ITA_EVT, 1, 1⟩
abbrev ITA_EVT_join_refused : Fld := ⟨ITA_EVT, 2, 1⟩
abbrev ITA_EVT_late : Fld := ⟨ITA_EVT, 3, 1⟩
abbrev ITA_EVT_overflow : Fld := ⟨ITA_EVT, 4, 1⟩
abbrev ITA_EVT_horizon_short : Fld := ⟨ITA_EVT, 5, 1⟩
abbrev ITA_EVT_root_conflict : Fld := ⟨ITA_EVT, 6, 1⟩
abbrev ITA_EVT_hev : Fld := ⟨ITA_EVT, 7, 1⟩
abbrev ITA_EVT_cmd_wrongpath : Fld := ⟨ITA_EVT, 8, 1⟩
abbrev ITA_EVT_refused : Fld := ⟨ITA_EVT, 9, 1⟩
abbrev ITA_EVTEN_port_up : Fld := ⟨ITA_EVTEN, 0, 1⟩
abbrev ITA_EVTEN_port_down : Fld := ⟨ITA_EVTEN, 1, 1⟩
abbrev ITA_EVTEN_join_refused : Fld := ⟨ITA_EVTEN, 2, 1⟩
abbrev ITA_EVTEN_late : Fld := ⟨ITA_EVTEN, 3, 1⟩
abbrev ITA_EVTEN_overflow : Fld := ⟨ITA_EVTEN, 4, 1⟩
abbrev ITA_EVTEN_horizon_short : Fld := ⟨ITA_EVTEN, 5, 1⟩
abbrev ITA_EVTEN_root_conflict : Fld := ⟨ITA_EVTEN, 6, 1⟩
abbrev ITA_EVTEN_hev : Fld := ⟨ITA_EVTEN, 7, 1⟩
abbrev ITA_EVTEN_cmd_wrongpath : Fld := ⟨ITA_EVTEN, 8, 1⟩
abbrev ITA_EVTEN_refused : Fld := ⟨ITA_EVTEN, 9, 1⟩
abbrev ITA_CMD_op : Fld := ⟨ITA_CMD, 0, 3⟩
abbrev ITA_CMD_port : Fld := ⟨ITA_CMD, 3, 3⟩
abbrev ITA_CMDSTAT_op : Fld := ⟨ITA_CMDSTAT, 0, 3⟩
abbrev ITA_CMDSTAT_reason : Fld := ⟨ITA_CMDSTAT, 4, 4⟩
abbrev ITA_RDIE_die : Fld := ⟨ITA_RDIE, 0, 4⟩
abbrev ITA_RDRAM_id : Fld := ⟨ITA_RDRAM, 0, 14⟩
abbrev ITA_RDRAM_half : Fld := ⟨ITA_RDRAM, 16, 1⟩
abbrev ITA_KEY_remote : Fld := ⟨ITA_KEY, 0, 6⟩
abbrev ITA_EVSEND_event : Fld := ⟨ITA_EVSEND, 0, 14⟩
abbrev ITA_EVSEND_be : Fld := ⟨ITA_EVSEND, 14, 1⟩
abbrev ITA_EVSEND_scope : Fld := ⟨ITA_EVSEND, 15, 1⟩
abbrev ITA_EVSEND_extra : Fld := ⟨ITA_EVSEND, 16, 16⟩
abbrev ITA_EVARG_arg : Fld := ⟨ITA_EVARG, 0, 32⟩
abbrev ITA_EV_LATE_value : Fld := ⟨ITA_EV_LATE, 0, 32⟩
abbrev ITA_EV_OVF_value : Fld := ⟨ITA_EV_OVF, 0, 32⟩
abbrev ITA_EV_LATELOC_source : Fld := ⟨ITA_EV_LATELOC, 0, 14⟩
abbrev ITA_EV_LATELOC_event : Fld := ⟨ITA_EV_LATELOC, 14, 14⟩
abbrev ITA_EV_LATELOC_be : Fld := ⟨ITA_EV_LATELOC, 28, 1⟩
abbrev ITA_DROP_value : Fld := ⟨ITA_DROP, 0, 32⟩
abbrev ITA_ERT_IDX_index : Fld := ⟨ITA_ERT_IDX, 0, 14⟩
abbrev ITA_ERT_W0_src_value : Fld := ⟨ITA_ERT_W0, 0, 14⟩
abbrev ITA_ERT_W0_src_mask : Fld := ⟨ITA_ERT_W0, 14, 14⟩
abbrev ITA_ERT_W0_action : Fld := ⟨ITA_ERT_W0, 28, 3⟩
abbrev ITA_ERT_W0_valid : Fld := ⟨ITA_ERT_W0, 31, 1⟩
abbrev ITA_ERT_W1_param : Fld := ⟨ITA_ERT_W1, 0, 32⟩
abbrev ITA_HEV_source : Fld := ⟨ITA_HEV, 0, 14⟩
abbrev ITA_HEV_event : Fld := ⟨ITA_HEV, 14, 14⟩
abbrev ITA_HEV_valid : Fld := ⟨ITA_HEV, 28, 1⟩
abbrev ITA_HEV_ARG_value : Fld := ⟨ITA_HEV_ARG, 0, 32⟩
abbrev ITA_HEV_TICK_value : Fld := ⟨ITA_HEV_TICK, 0, 32⟩
abbrev ITA_RT_IDX_index : Fld := ⟨ITA_RT_IDX, 0, 8⟩
abbrev ITA_RT_IDX_table : Fld := ⟨ITA_RT_IDX, 8, 1⟩
abbrev ITA_RT_DATA_port : Fld := ⟨ITA_RT_DATA, 0, 4⟩
abbrev ITA_P_CFG_en (n : Nat) : Fld := ⟨(ITA_P_CFG n), 0, 1⟩
abbrev ITA_P_CFG_lane0 (n : Nat) : Fld := ⟨(ITA_P_CFG n), 1, 7⟩
abbrev ITA_P_CFG_width (n : Nat) : Fld := ⟨(ITA_P_CFG n), 8, 2⟩
abbrev ITA_P_CFG_rate (n : Nat) : Fld := ⟨(ITA_P_CFG n), 10, 2⟩
abbrev ITA_P_CFG_role (n : Nat) : Fld := ⟨(ITA_P_CFG n), 12, 2⟩
abbrev ITA_P_CFG_alt (n : Nat) : Fld := ⟨(ITA_P_CFG n), 14, 1⟩
abbrev ITA_P_STAT_state (n : Nat) : Fld := ⟨(ITA_P_STAT n), 0, 3⟩
abbrev ITA_P_STAT_sync (n : Nat) : Fld := ⟨(ITA_P_STAT n), 3, 1⟩
abbrev ITA_P_STAT_reason (n : Nat) : Fld := ⟨(ITA_P_STAT n), 4, 4⟩
abbrev ITA_P_STAT_far_id (n : Nat) : Fld := ⟨(ITA_P_STAT n), 8, 14⟩
abbrev ITA_P_STAT_far_valid (n : Nat) : Fld := ⟨(ITA_P_STAT n), 22, 1⟩
abbrev ITA_P_CHILD_id (n : Nat) : Fld := ⟨(ITA_P_CHILD n), 0, 14⟩
abbrev ITA_P_CHILD_valid (n : Nat) : Fld := ⟨(ITA_P_CHILD n), 14, 1⟩
abbrev ITA_P_ASYM_a (n : Nat) : Fld := ⟨(ITA_P_ASYM n), 0, 16⟩
abbrev ITA_P_DELAY_d (n : Nat) : Fld := ⟨(ITA_P_DELAY n), 0, 32⟩
abbrev ITA_P_OFFSET_theta (n : Nat) : Fld := ⟨(ITA_P_OFFSET n), 0, 32⟩
abbrev ITA_P_HOPB_hopb (n : Nat) : Fld := ⟨(ITA_P_HOPB n), 0, 16⟩
abbrev ITA_P_REPLAY_replays (n : Nat) : Fld := ⟨(ITA_P_REPLAY n), 0, 16⟩
abbrev ITA_P_REPLAY_naks (n : Nat) : Fld := ⟨(ITA_P_REPLAY n), 16, 16⟩
abbrev ITA_P_ERR_crc (n : Nat) : Fld := ⟨(ITA_P_ERR n), 0, 16⟩
abbrev ITA_P_ERR_ctl (n : Nat) : Fld := ⟨(ITA_P_ERR n), 16, 8⟩
abbrev ITA_P_ERR_cmd (n : Nat) : Fld := ⟨(ITA_P_ERR n), 24, 8⟩
abbrev ITA_P_DROP_events (n : Nat) : Fld := ⟨(ITA_P_DROP n), 0, 32⟩
abbrev DDR_STAT_state (c : Nat) : Fld := ⟨(DDR_STAT c), 0, 3⟩
abbrev DDR_STAT_grade (c : Nat) : Fld := ⟨(DDR_STAT c), 4, 3⟩
abbrev DDR_STAT_dimms (c : Nat) : Fld := ⟨(DDR_STAT c), 8, 2⟩
abbrev DDR_STAT_ranks (c : Nat) : Fld := ⟨(DDR_STAT c), 10, 3⟩
abbrev DDR_STAT_width (c : Nat) : Fld := ⟨(DDR_STAT c), 13, 1⟩
abbrev DDR_STAT_density (c : Nat) : Fld := ⟨(DDR_STAT c), 14, 2⟩
abbrev DDR_STAT_capacity (c : Nat) : Fld := ⟨(DDR_STAT c), 16, 9⟩
abbrev DDR_EVT_ce (c : Nat) : Fld := ⟨(DDR_EVT c), 0, 1⟩
abbrev DDR_EVT_ue (c : Nat) : Fld := ⟨(DDR_EVT c), 1, 1⟩
abbrev DDR_EVT_pw_refused (c : Nat) : Fld := ⟨(DDR_EVT c), 2, 1⟩
abbrev DDR_EVT_hot (c : Nat) : Fld := ⟨(DDR_EVT c), 3, 1⟩
abbrev DDR_EVT_overheat (c : Nat) : Fld := ⟨(DDR_EVT c), 4, 1⟩
abbrev DDR_EVT_train_fail (c : Nat) : Fld := ⟨(DDR_EVT c), 5, 1⟩
abbrev DDR_EVT_retrain_done (c : Nat) : Fld := ⟨(DDR_EVT c), 6, 1⟩
abbrev DDR_EVT_ppr_done (c : Nat) : Fld := ⟨(DDR_EVT c), 7, 1⟩
abbrev DDR_EVT_ppr_fail (c : Nat) : Fld := ⟨(DDR_EVT c), 8, 1⟩
abbrev DDR_EVT_dropped (c : Nat) : Fld := ⟨(DDR_EVT c), 9, 1⟩
abbrev DDR_EVT_refused (c : Nat) : Fld := ⟨(DDR_EVT c), 10, 1⟩
abbrev DDR_EVTEN_ce (c : Nat) : Fld := ⟨(DDR_EVTEN c), 0, 1⟩
abbrev DDR_EVTEN_ue (c : Nat) : Fld := ⟨(DDR_EVTEN c), 1, 1⟩
abbrev DDR_EVTEN_pw_refused (c : Nat) : Fld := ⟨(DDR_EVTEN c), 2, 1⟩
abbrev DDR_EVTEN_hot (c : Nat) : Fld := ⟨(DDR_EVTEN c), 3, 1⟩
abbrev DDR_EVTEN_overheat (c : Nat) : Fld := ⟨(DDR_EVTEN c), 4, 1⟩
abbrev DDR_EVTEN_train_fail (c : Nat) : Fld := ⟨(DDR_EVTEN c), 5, 1⟩
abbrev DDR_EVTEN_retrain_done (c : Nat) : Fld := ⟨(DDR_EVTEN c), 6, 1⟩
abbrev DDR_EVTEN_ppr_done (c : Nat) : Fld := ⟨(DDR_EVTEN c), 7, 1⟩
abbrev DDR_EVTEN_ppr_fail (c : Nat) : Fld := ⟨(DDR_EVTEN c), 8, 1⟩
abbrev DDR_EVTEN_dropped (c : Nat) : Fld := ⟨(DDR_EVTEN c), 9, 1⟩
abbrev DDR_EVTEN_refused (c : Nat) : Fld := ⟨(DDR_EVTEN c), 10, 1⟩
abbrev DDR_CMD_op (c : Nat) : Fld := ⟨(DDR_CMD c), 0, 2⟩
abbrev DDR_CMDSTAT_busy (c : Nat) : Fld := ⟨(DDR_CMDSTAT c), 0, 1⟩
abbrev DDR_CMDSTAT_op (c : Nat) : Fld := ⟨(DDR_CMDSTAT c), 1, 2⟩
abbrev DDR_CMDSTAT_reason (c : Nat) : Fld := ⟨(DDR_CMDSTAT c), 4, 4⟩
abbrev DDR_TEMP_t0 (c : Nat) : Fld := ⟨(DDR_TEMP c), 0, 8⟩
abbrev DDR_TEMP_t1 (c : Nat) : Fld := ⟨(DDR_TEMP c), 8, 8⟩
abbrev DDR_TEMP_hot (c : Nat) : Fld := ⟨(DDR_TEMP c), 16, 1⟩
abbrev DDR_REC_LO_kind (c : Nat) : Fld := ⟨(DDR_REC_LO c), 0, 2⟩
abbrev DDR_REC_LO_dimm (c : Nat) : Fld := ⟨(DDR_REC_LO c), 2, 1⟩
abbrev DDR_REC_LO_rank (c : Nat) : Fld := ⟨(DDR_REC_LO c), 3, 1⟩
abbrev DDR_REC_LO_sub (c : Nat) : Fld := ⟨(DDR_REC_LO c), 4, 1⟩
abbrev DDR_REC_LO_bg (c : Nat) : Fld := ⟨(DDR_REC_LO c), 5, 3⟩
abbrev DDR_REC_LO_bank (c : Nat) : Fld := ⟨(DDR_REC_LO c), 8, 2⟩
abbrev DDR_REC_LO_device (c : Nat) : Fld := ⟨(DDR_REC_LO c), 10, 4⟩
abbrev DDR_REC_LO_valid (c : Nat) : Fld := ⟨(DDR_REC_LO c), 15, 1⟩
abbrev DDR_REC_LO_pin (c : Nat) : Fld := ⟨(DDR_REC_LO c), 16, 6⟩
abbrev DDR_REC_ROW_row (c : Nat) : Fld := ⟨(DDR_REC_ROW c), 0, 18⟩
abbrev DDR_REC_ROW_line (c : Nat) : Fld := ⟨(DDR_REC_ROW c), 18, 7⟩
abbrev DDR_REC_TICK_value (c : Nat) : Fld := ⟨(DDR_REC_TICK c), 0, 32⟩
abbrev DDR_FIFO_STAT_level (c : Nat) : Fld := ⟨(DDR_FIFO_STAT c), 0, 6⟩
abbrev DDR_FIFO_STAT_dropped (c : Nat) : Fld := ⟨(DDR_FIFO_STAT c), 16, 16⟩
abbrev DDR_CE_CNT_value (c : Nat) : Fld := ⟨(DDR_CE_CNT c), 0, 32⟩
abbrev DDR_UE_CNT_value (c : Nat) : Fld := ⟨(DDR_UE_CNT c), 0, 32⟩
abbrev DDR_PPR_AVAIL_avail (c : Nat) : Fld := ⟨(DDR_PPR_AVAIL c), 0, 32⟩
abbrev DDR_SVC_MAX_value (c : Nat) : Fld := ⟨(DDR_SVC_MAX c), 0, 32⟩
abbrev DDR_REF_CTRL_force_fixed : Fld := ⟨DDR_REF_CTRL, 0, 1⟩
abbrev DDR_REF_STAT_quiet : Fld := ⟨DDR_REF_STAT, 0, 1⟩
abbrev DDR_REF_STAT_hot : Fld := ⟨DDR_REF_STAT, 1, 1⟩
abbrev DDR_REF_STAT_kmax : Fld := ⟨DDR_REF_STAT, 2, 3⟩
abbrev DDR_REF_STAT_stale : Fld := ⟨DDR_REF_STAT, 5, 1⟩
abbrev DDR_REF_STAT_s : Fld := ⟨DDR_REF_STAT, 16, 16⟩
abbrev DDR_REF_CNT_value : Fld := ⟨DDR_REF_CNT, 0, 32⟩
abbrev DDR_SET_A_base (n : Nat) : Fld := ⟨(DDR_SET_A n), 0, 11⟩
abbrev DDR_SET_A_size (n : Nat) : Fld := ⟨(DDR_SET_A n), 16, 12⟩
abbrev DDR_SET_A_en (n : Nat) : Fld := ⟨(DDR_SET_A n), 31, 1⟩
abbrev DDR_SET_B_ways (n : Nat) : Fld := ⟨(DDR_SET_B n), 0, 2⟩
abbrev DDR_SET_B_grain (n : Nat) : Fld := ⟨(DDR_SET_B n), 4, 5⟩
abbrev DDR_SET_B_cbase (n : Nat) : Fld := ⟨(DDR_SET_B n), 16, 11⟩
abbrev DDR_SET_C_chan (n : Nat) : Fld := ⟨(DDR_SET_C n), 0, 24⟩
abbrev DDR_SET_COMMIT_commit : Fld := ⟨DDR_SET_COMMIT, 0, 1⟩
abbrev DDR_SET_STAT_pending : Fld := ⟨DDR_SET_STAT, 0, 1⟩
abbrev DDR_SET_STAT_set : Fld := ⟨DDR_SET_STAT, 1, 3⟩
abbrev DDR_SET_STAT_reason : Fld := ⟨DDR_SET_STAT, 4, 4⟩
abbrev MIU_STAT_sweep : Fld := ⟨MIU_STAT, 0, 1⟩
abbrev MIU_STAT_dirty : Fld := ⟨MIU_STAT, 1, 1⟩
abbrev MIU_EVT_blocked : Fld := ⟨MIU_EVT, 0, 1⟩
abbrev MIU_EVT_tag_fail : Fld := ⟨MIU_EVT, 1, 1⟩
abbrev MIU_EVT_poisoned : Fld := ⟨MIU_EVT, 2, 1⟩
abbrev MIU_EVT_tree_fault : Fld := ⟨MIU_EVT, 3, 1⟩
abbrev MIU_EVT_sweep_done : Fld := ⟨MIU_EVT, 4, 1⟩
abbrev MIU_EVT_dropped : Fld := ⟨MIU_EVT, 5, 1⟩
abbrev MIU_EVT_refused : Fld := ⟨MIU_EVT, 6, 1⟩
abbrev MIU_EVTEN_blocked : Fld := ⟨MIU_EVTEN, 0, 1⟩
abbrev MIU_EVTEN_tag_fail : Fld := ⟨MIU_EVTEN, 1, 1⟩
abbrev MIU_EVTEN_poisoned : Fld := ⟨MIU_EVTEN, 2, 1⟩
abbrev MIU_EVTEN_tree_fault : Fld := ⟨MIU_EVTEN, 3, 1⟩
abbrev MIU_EVTEN_sweep_done : Fld := ⟨MIU_EVTEN, 4, 1⟩
abbrev MIU_EVTEN_dropped : Fld := ⟨MIU_EVTEN, 5, 1⟩
abbrev MIU_EVTEN_refused : Fld := ⟨MIU_EVTEN, 6, 1⟩
abbrev MIU_REC_LO_kind : Fld := ⟨MIU_REC_LO, 0, 3⟩
abbrev MIU_REC_LO_valid : Fld := ⟨MIU_REC_LO, 3, 1⟩
abbrev MIU_REC_LO_range : Fld := ⟨MIU_REC_LO, 4, 4⟩
abbrev MIU_REC_LO_channel : Fld := ⟨MIU_REC_LO, 8, 3⟩
abbrev MIU_REC_LO_dbg : Fld := ⟨MIU_REC_LO, 11, 1⟩
abbrev MIU_REC_LO_key : Fld := ⟨MIU_REC_LO, 12, 6⟩
abbrev MIU_REC_ADDR_LO_value : Fld := ⟨MIU_REC_ADDR_LO, 0, 32⟩
abbrev MIU_REC_ADDR_HI_addr : Fld := ⟨MIU_REC_ADDR_HI, 0, 16⟩
abbrev MIU_REC_SRC_src_id : Fld := ⟨MIU_REC_SRC, 0, 12⟩
abbrev MIU_REC_SRC_tick : Fld := ⟨MIU_REC_SRC, 16, 16⟩
abbrev MIU_FIFO_STAT_level : Fld := ⟨MIU_FIFO_STAT, 0, 6⟩
abbrev MIU_FIFO_STAT_dropped : Fld := ⟨MIU_FIFO_STAT, 16, 16⟩
abbrev MIU_BLOCK_CNT_value : Fld := ⟨MIU_BLOCK_CNT, 0, 32⟩
abbrev MIU_TAGFAIL_CNT_value : Fld := ⟨MIU_TAGFAIL_CNT, 0, 32⟩
abbrev MIU_OVF_CNT_value : Fld := ⟨MIU_OVF_CNT, 0, 32⟩
abbrev MIU_HIT_CNT_value : Fld := ⟨MIU_HIT_CNT, 0, 32⟩
abbrev MIU_MISS_CNT_value : Fld := ⟨MIU_MISS_CNT, 0, 32⟩
abbrev MIU_CMD_range : Fld := ⟨MIU_CMD, 0, 4⟩
abbrev MIU_CMD_op : Fld := ⟨MIU_CMD, 4, 2⟩
abbrev MIU_CMDSTAT_busy : Fld := ⟨MIU_CMDSTAT, 0, 1⟩
abbrev MIU_CMDSTAT_op : Fld := ⟨MIU_CMDSTAT, 1, 2⟩
abbrev MIU_CMDSTAT_reason : Fld := ⟨MIU_CMDSTAT, 8, 4⟩
abbrev MIU_SLOT_LO_locked : Fld := ⟨MIU_SLOT_LO, 0, 32⟩
abbrev MIU_SLOT_HI_locked : Fld := ⟨MIU_SLOT_HI, 0, 32⟩
abbrev MIU_R_BASE_base (n : Nat) : Fld := ⟨(MIU_R_BASE n), 0, 29⟩
abbrev MIU_R_SIZE_size (n : Nat) : Fld := ⟨(MIU_R_SIZE n), 0, 30⟩
abbrev MIU_R_CFG_mix (n : Nat) : Fld := ⟨(MIU_R_CFG n), 0, 1⟩
abbrev MIU_R_CFG_integ (n : Nat) : Fld := ⟨(MIU_R_CFG n), 1, 1⟩
abbrev MIU_R_CFG_slot (n : Nat) : Fld := ⟨(MIU_R_CFG n), 2, 6⟩
abbrev MIU_R_CFG_roots (n : Nat) : Fld := ⟨(MIU_R_CFG n), 8, 4⟩
abbrev MIU_R_CFG_mbase (n : Nat) : Fld := ⟨(MIU_R_CFG n), 12, 11⟩
abbrev MIU_R_STAT_state (n : Nat) : Fld := ⟨(MIU_R_STAT n), 0, 2⟩
abbrev MIU_R_STAT_reason (n : Nat) : Fld := ⟨(MIU_R_STAT n), 4, 4⟩
abbrev MIU_R_STAT_levels (n : Nat) : Fld := ⟨(MIU_R_STAT n), 8, 4⟩
abbrev MIU_R_STAT_fault_ch (n : Nat) : Fld := ⟨(MIU_R_STAT n), 12, 8⟩
abbrev RECORD_CTRL_pf_flush : Fld := ⟨RECORD_CTRL, 0, 1⟩
abbrev RECORD_CTRL_qbw : Fld := ⟨RECORD_CTRL, 8, 8⟩
abbrev RECORD_STAT_mirror_ok : Fld := ⟨RECORD_STAT, 0, 1⟩
abbrev RECORD_STAT_running : Fld := ⟨RECORD_STAT, 1, 3⟩
abbrev RECORD_STAT_queued : Fld := ⟨RECORD_STAT, 4, 7⟩
abbrev RECORD_EVT_commit_late : Fld := ⟨RECORD_EVT, 0, 1⟩
abbrev RECORD_EVT_drop : Fld := ⟨RECORD_EVT, 1, 1⟩
abbrev RECORD_EVT_port_err : Fld := ⟨RECORD_EVT, 2, 1⟩
abbrev RECORD_EVT_seg_full : Fld := ⟨RECORD_EVT, 3, 1⟩
abbrev RECORD_EVT_seg_lost : Fld := ⟨RECORD_EVT, 4, 1⟩
abbrev RECORD_EVT_dir_fault : Fld := ⟨RECORD_EVT, 5, 1⟩
abbrev RECORD_EVT_query_done : Fld := ⟨RECORD_EVT, 6, 1⟩
abbrev RECORD_EVT_query_err : Fld := ⟨RECORD_EVT, 7, 1⟩
abbrev RECORD_EVT_flush_done : Fld := ⟨RECORD_EVT, 8, 1⟩
abbrev RECORD_EVT_refused : Fld := ⟨RECORD_EVT, 9, 1⟩
abbrev RECORD_EVTEN_commit_late : Fld := ⟨RECORD_EVTEN, 0, 1⟩
abbrev RECORD_EVTEN_drop : Fld := ⟨RECORD_EVTEN, 1, 1⟩
abbrev RECORD_EVTEN_port_err : Fld := ⟨RECORD_EVTEN, 2, 1⟩
abbrev RECORD_EVTEN_seg_full : Fld := ⟨RECORD_EVTEN, 3, 1⟩
abbrev RECORD_EVTEN_seg_lost : Fld := ⟨RECORD_EVTEN, 4, 1⟩
abbrev RECORD_EVTEN_dir_fault : Fld := ⟨RECORD_EVTEN, 5, 1⟩
abbrev RECORD_EVTEN_query_done : Fld := ⟨RECORD_EVTEN, 6, 1⟩
abbrev RECORD_EVTEN_query_err : Fld := ⟨RECORD_EVTEN, 7, 1⟩
abbrev RECORD_EVTEN_flush_done : Fld := ⟨RECORD_EVTEN, 8, 1⟩
abbrev RECORD_EVTEN_refused : Fld := ⟨RECORD_EVTEN, 9, 1⟩
abbrev RECORD_PF_flushed : Fld := ⟨RECORD_PF, 0, 1⟩
abbrev RECORD_PF_incomplete : Fld := ⟨RECORD_PF, 1, 1⟩
abbrev RECORD_PF_tick : Fld := ⟨RECORD_PF, 16, 16⟩
abbrev RECORD_QTRUST_LO_trust : Fld := ⟨RECORD_QTRUST_LO, 0, 32⟩
abbrev RECORD_QTRUST_HI_trust : Fld := ⟨RECORD_QTRUST_HI, 0, 32⟩
abbrev RECORD_DIR_IDX_index : Fld := ⟨RECORD_DIR_IDX, 0, 16⟩
abbrev RECORD_DIR_W_word (n : Nat) : Fld := ⟨(RECORD_DIR_W n), 0, 32⟩
abbrev RECORD_DIR_CMD_op : Fld := ⟨RECORD_DIR_CMD, 0, 2⟩
abbrev RECORD_DIR_STAT_busy : Fld := ⟨RECORD_DIR_STAT, 0, 1⟩
abbrev RECORD_DIR_STAT_reason : Fld := ⟨RECORD_DIR_STAT, 4, 4⟩
abbrev RECORD_P_CFG_en (n : Nat) : Fld := ⟨(RECORD_P_CFG n), 0, 1⟩
abbrev RECORD_P_CFG_key (n : Nat) : Fld := ⟨(RECORD_P_CFG n), 1, 6⟩
abbrev RECORD_P_SEG_seg (n : Nat) : Fld := ⟨(RECORD_P_SEG n), 0, 16⟩
abbrev RECORD_P_SEG_bind (n : Nat) : Fld := ⟨(RECORD_P_SEG n), 31, 1⟩
abbrev RECORD_P_STAT_state (n : Nat) : Fld := ⟨(RECORD_P_STAT n), 0, 2⟩
abbrev RECORD_P_STAT_reason (n : Nat) : Fld := ⟨(RECORD_P_STAT n), 4, 4⟩
abbrev RECORD_P_STAT_open (n : Nat) : Fld := ⟨(RECORD_P_STAT n), 8, 1⟩
abbrev RECORD_P_STAT_words (n : Nat) : Fld := ⟨(RECORD_P_STAT n), 16, 13⟩
abbrev RECORD_P_RECS_value (n : Nat) : Fld := ⟨(RECORD_P_RECS n), 0, 32⟩
abbrev RECORD_P_DROP_value (n : Nat) : Fld := ⟨(RECORD_P_DROP n), 0, 32⟩
abbrev RECORD_P_SEQ_value (n : Nat) : Fld := ⟨(RECORD_P_SEQ n), 0, 32⟩
abbrev RECORD_P_ERR_status (n : Nat) : Fld := ⟨(RECORD_P_ERR n), 0, 8⟩
abbrev RECORD_QS_D_value (n : Nat) (w : Nat) : Fld := ⟨(RECORD_QS_D n w), 0, 32⟩
abbrev RECORD_QS_CTRL_go (n : Nat) : Fld := ⟨(RECORD_QS_CTRL n), 0, 1⟩
abbrev RECORD_QS_CTRL_cancel (n : Nat) : Fld := ⟨(RECORD_QS_CTRL n), 1, 1⟩
abbrev RECORD_QS_CTRL_clear (n : Nat) : Fld := ⟨(RECORD_QS_CTRL n), 2, 1⟩
abbrev RECORD_QS_STAT_state (n : Nat) : Fld := ⟨(RECORD_QS_STAT n), 0, 3⟩
abbrev RECORD_QS_STAT_status (n : Nat) : Fld := ⟨(RECORD_QS_STAT n), 8, 8⟩
abbrev RECORD_QS_STAT_noc (n : Nat) : Fld := ⟨(RECORD_QS_STAT n), 16, 8⟩
abbrev RECORD_QS_RBYTES_value (n : Nat) : Fld := ⟨(RECORD_QS_RBYTES n), 0, 32⟩
abbrev CFG_STAT_hdr : Fld := ⟨CFG_STAT, 0, 2⟩
abbrev CFG_STAT_shell_up : Fld := ⟨CFG_STAT, 2, 1⟩
abbrev CFG_STAT_pers_up : Fld := ⟨CFG_STAT, 3, 1⟩
abbrev CFG_STAT_shell_only : Fld := ⟨CFG_STAT, 4, 1⟩
abbrev CFG_STAT_busy : Fld := ⟨CFG_STAT, 5, 1⟩
abbrev CFG_STAT_src : Fld := ⟨CFG_STAT, 6, 2⟩
abbrev CFG_STAT_reject : Fld := ⟨CFG_STAT, 8, 4⟩
abbrev CFG_STAT_abort : Fld := ⟨CFG_STAT, 16, 4⟩
abbrev CFG_EVT_load_done : Fld := ⟨CFG_EVT, 0, 1⟩
abbrev CFG_EVT_rejected : Fld := ⟨CFG_EVT, 1, 1⟩
abbrev CFG_EVT_aborted : Fld := ⟨CFG_EVT, 2, 1⟩
abbrev CFG_EVT_deadline : Fld := ⟨CFG_EVT, 3, 1⟩
abbrev CFG_EVT_bad_setting : Fld := ⟨CFG_EVT, 4, 1⟩
abbrev CFG_EVT_busy : Fld := ⟨CFG_EVT, 5, 1⟩
abbrev CFG_EVT_stg_refused : Fld := ⟨CFG_EVT, 6, 1⟩
abbrev CFG_EVTEN_load_done : Fld := ⟨CFG_EVTEN, 0, 1⟩
abbrev CFG_EVTEN_rejected : Fld := ⟨CFG_EVTEN, 1, 1⟩
abbrev CFG_EVTEN_aborted : Fld := ⟨CFG_EVTEN, 2, 1⟩
abbrev CFG_EVTEN_deadline : Fld := ⟨CFG_EVTEN, 3, 1⟩
abbrev CFG_EVTEN_bad_setting : Fld := ⟨CFG_EVTEN, 4, 1⟩
abbrev CFG_EVTEN_busy : Fld := ⟨CFG_EVTEN, 5, 1⟩
abbrev CFG_EVTEN_stg_refused : Fld := ⟨CFG_EVTEN, 6, 1⟩
abbrev CFG_PDEADLINE_value : Fld := ⟨CFG_PDEADLINE, 0, 32⟩
abbrev CFG_PREMAIN_value : Fld := ⟨CFG_PREMAIN, 0, 32⟩
abbrev CFG_LOADSET_regions (n : Nat) : Fld := ⟨(CFG_LOADSET n), 0, 32⟩
abbrev CFG_PROGRESS_value : Fld := ⟨CFG_PROGRESS, 0, 32⟩
abbrev CFG_TOTAL_value : Fld := ⟨CFG_TOTAL, 0, 32⟩
abbrev CFG_DESIGN_value : Fld := ⟨CFG_DESIGN, 0, 32⟩
abbrev CFG_STG_CTRL_push : Fld := ⟨CFG_STG_CTRL, 0, 1⟩
abbrev CFG_STG_CTRL_half : Fld := ⟨CFG_STG_CTRL, 1, 1⟩
abbrev CFG_STG_CTRL_abort : Fld := ⟨CFG_STG_CTRL, 2, 1⟩
abbrev CFG_STG_CTRL_len : Fld := ⟨CFG_STG_CTRL, 16, 15⟩
abbrev CFG_STG_STAT_open : Fld := ⟨CFG_STG_STAT, 0, 1⟩
abbrev CFG_STG_STAT_free0 : Fld := ⟨CFG_STG_STAT, 1, 1⟩
abbrev CFG_STG_STAT_free1 : Fld := ⟨CFG_STG_STAT, 2, 1⟩
abbrev CFG_STG_TIMEOUT_ms : Fld := ⟨CFG_STG_TIMEOUT, 0, 16⟩
abbrev CFG_ENG_STAT_busy : Fld := ⟨CFG_ENG_STAT, 0, 1⟩
abbrev CFG_ENG_STAT_region : Fld := ⟨CFG_ENG_STAT, 1, 5⟩
abbrev CFG_ENG_FRAMES_count : Fld := ⟨CFG_ENG_FRAMES, 0, 32⟩
abbrev CFG_ENG_FERR_count : Fld := ⟨CFG_ENG_FERR, 0, 32⟩
abbrev CFG_STG_H0_value (n : Nat) : Fld := ⟨(CFG_STG_H0 n), 0, 32⟩
abbrev CFG_STG_H1_value (n : Nat) : Fld := ⟨(CFG_STG_H1 n), 0, 32⟩
abbrev NVM_STAT_nvm0 : Fld := ⟨NVM_STAT, 0, 1⟩
abbrev NVM_STAT_nvm1 : Fld := ⟨NVM_STAT, 1, 1⟩
abbrev NVM_EVT_done : Fld := ⟨NVM_EVT, 0, 1⟩
abbrev NVM_EVT_error : Fld := ⟨NVM_EVT, 1, 1⟩
abbrev NVM_EVT_refused : Fld := ⟨NVM_EVT, 2, 1⟩
abbrev NVM_EVTEN_done : Fld := ⟨NVM_EVTEN, 0, 1⟩
abbrev NVM_EVTEN_error : Fld := ⟨NVM_EVTEN, 1, 1⟩
abbrev NVM_EVTEN_refused : Fld := ⟨NVM_EVTEN, 2, 1⟩
abbrev NVM_CMD_op : Fld := ⟨NVM_CMD, 0, 2⟩
abbrev NVM_CMD_flash : Fld := ⟨NVM_CMD, 2, 1⟩
abbrev NVM_ADDR_addr : Fld := ⟨NVM_ADDR, 0, 30⟩
abbrev NVM_LEN_len : Fld := ⟨NVM_LEN, 0, 17⟩
abbrev NVM_BUF_offset : Fld := ⟨NVM_BUF, 0, 18⟩
abbrev NVM_CMDSTAT_busy : Fld := ⟨NVM_CMDSTAT, 0, 1⟩
abbrev NVM_CMDSTAT_op : Fld := ⟨NVM_CMDSTAT, 1, 2⟩
abbrev NVM_CMDSTAT_reason : Fld := ⟨NVM_CMDSTAT, 4, 4⟩
abbrev NVM_CFG_mhz : Fld := ⟨NVM_CFG, 0, 8⟩
abbrev NVM_SIZE_nvm0 : Fld := ⟨NVM_SIZE, 0, 16⟩
abbrev NVM_SIZE_nvm1 : Fld := ⟨NVM_SIZE, 16, 16⟩
abbrev JOURNAL_STAT_step : Fld := ⟨JOURNAL_STAT, 0, 4⟩
abbrev JOURNAL_STAT_running : Fld := ⟨JOURNAL_STAT, 4, 1⟩
abbrev JOURNAL_STAT_released : Fld := ⟨JOURNAL_STAT, 5, 1⟩
abbrev JOURNAL_STAT_degraded : Fld := ⟨JOURNAL_STAT, 6, 1⟩
abbrev JOURNAL_STAT_cause : Fld := ⟨JOURNAL_STAT, 7, 4⟩
abbrev JOURNAL_STAT_stopped : Fld := ⟨JOURNAL_STAT, 11, 1⟩
abbrev JOURNAL_STAT_frozen : Fld := ⟨JOURNAL_STAT, 12, 1⟩
abbrev JOURNAL_STAT_erasing : Fld := ⟨JOURNAL_STAT, 13, 1⟩
abbrev JOURNAL_EVT_step_fail : Fld := ⟨JOURNAL_EVT, 0, 1⟩
abbrev JOURNAL_EVT_degraded : Fld := ⟨JOURNAL_EVT, 1, 1⟩
abbrev JOURNAL_EVT_frozen : Fld := ⟨JOURNAL_EVT, 2, 1⟩
abbrev JOURNAL_EVT_sector_retired : Fld := ⟨JOURNAL_EVT, 3, 1⟩
abbrev JOURNAL_EVT_wg_delay : Fld := ⟨JOURNAL_EVT, 4, 1⟩
abbrev JOURNAL_EVT_erase_done : Fld := ⟨JOURNAL_EVT, 5, 1⟩
abbrev JOURNAL_EVT_refused : Fld := ⟨JOURNAL_EVT, 6, 1⟩
abbrev JOURNAL_EVTEN_step_fail : Fld := ⟨JOURNAL_EVTEN, 0, 1⟩
abbrev JOURNAL_EVTEN_degraded : Fld := ⟨JOURNAL_EVTEN, 1, 1⟩
abbrev JOURNAL_EVTEN_frozen : Fld := ⟨JOURNAL_EVTEN, 2, 1⟩
abbrev JOURNAL_EVTEN_sector_retired : Fld := ⟨JOURNAL_EVTEN, 3, 1⟩
abbrev JOURNAL_EVTEN_wg_delay : Fld := ⟨JOURNAL_EVTEN, 4, 1⟩
abbrev JOURNAL_EVTEN_erase_done : Fld := ⟨JOURNAL_EVTEN, 5, 1⟩
abbrev JOURNAL_EVTEN_refused : Fld := ⟨JOURNAL_EVTEN, 6, 1⟩
abbrev JOURNAL_PLAN_alt : Fld := ⟨JOURNAL_PLAN, 0, 16⟩
abbrev JOURNAL_PLAN_ddr_down : Fld := ⟨JOURNAL_PLAN, 16, 3⟩
abbrev JOURNAL_PLAN_skip7 : Fld := ⟨JOURNAL_PLAN, 19, 1⟩
abbrev JOURNAL_PLAN_retry : Fld := ⟨JOURNAL_PLAN, 20, 1⟩
abbrev JOURNAL_STARTS_number : Fld := ⟨JOURNAL_STARTS, 0, 32⟩
abbrev JOURNAL_SECT_sector : Fld := ⟨JOURNAL_SECT, 0, 6⟩
abbrev JOURNAL_SECT_retired : Fld := ⟨JOURNAL_SECT, 6, 7⟩
abbrev JOURNAL_SECT_erases : Fld := ⟨JOURNAL_SECT, 14, 17⟩
abbrev JOURNAL_RETRY_steps : Fld := ⟨JOURNAL_RETRY, 0, 16⟩
abbrev JOURNAL_RIDX_back : Fld := ⟨JOURNAL_RIDX, 0, 4⟩
abbrev JOURNAL_RW_word (n : Nat) : Fld := ⟨(JOURNAL_RW n), 0, 32⟩
abbrev JOURNAL_STICKY_dclk : Fld := ⟨JOURNAL_STICKY, 0, 1⟩
abbrev JOURNAL_STICKY_restarts : Fld := ⟨JOURNAL_STICKY, 1, 3⟩
abbrev JOURNAL_STICKY_stop_step : Fld := ⟨JOURNAL_STICKY, 4, 4⟩
abbrev JOURNAL_STICKY_stop_valid : Fld := ⟨JOURNAL_STICKY, 8, 1⟩
abbrev JOURNAL_REL_LO_tick : Fld := ⟨JOURNAL_REL_LO, 0, 32⟩
abbrev JOURNAL_REL_HI_tick : Fld := ⟨JOURNAL_REL_HI, 0, 32⟩
abbrev JOURNAL_WG_LIMIT_l : Fld := ⟨JOURNAL_WG_LIMIT, 0, 6⟩
abbrev JOURNAL_WG_DELAY_tb : Fld := ⟨JOURNAL_WG_DELAY, 0, 32⟩
abbrev JOURNAL_WG_CNT_count : Fld := ⟨JOURNAL_WG_CNT, 0, 32⟩
abbrev JOURNAL_WG_QUEUED_events : Fld := ⟨JOURNAL_WG_QUEUED, 0, 16⟩
abbrev CORE_ID_core (s : Nat) : Fld := ⟨(CORE_ID s), 0, 4⟩
abbrev CORE_ID_lockstep (s : Nat) : Fld := ⟨(CORE_ID s), 4, 1⟩
abbrev CORE_CTRL_reset (s : Nat) : Fld := ⟨(CORE_CTRL s), 0, 1⟩
abbrev CORE_STAT_state (s : Nat) : Fld := ⟨(CORE_STAT s), 0, 2⟩
abbrev CORE_STAT_loaded (s : Nat) : Fld := ⟨(CORE_STAT s), 2, 1⟩
abbrev CORE_STAT_locked (s : Nat) : Fld := ⟨(CORE_STAT s), 3, 1⟩
abbrev CORE_STAT_wdog (s : Nat) : Fld := ⟨(CORE_STAT s), 4, 1⟩
abbrev CORE_CAUSE_cause (s : Nat) : Fld := ⟨(CORE_CAUSE s), 0, 3⟩
abbrev CORE_EVT_wdog_reset (s : Nat) : Fld := ⟨(CORE_EVT s), 0, 1⟩
abbrev CORE_EVT_bus_err (s : Nat) : Fld := ⟨(CORE_EVT s), 1, 1⟩
abbrev CORE_EVT_sram_ce (s : Nat) : Fld := ⟨(CORE_EVT s), 2, 1⟩
abbrev CORE_EVT_sram_ue (s : Nat) : Fld := ⟨(CORE_EVT s), 3, 1⟩
abbrev CORE_EVT_refused (s : Nat) : Fld := ⟨(CORE_EVT s), 4, 1⟩
abbrev CORE_EVTEN_wdog_reset (s : Nat) : Fld := ⟨(CORE_EVTEN s), 0, 1⟩
abbrev CORE_EVTEN_bus_err (s : Nat) : Fld := ⟨(CORE_EVTEN s), 1, 1⟩
abbrev CORE_EVTEN_sram_ce (s : Nat) : Fld := ⟨(CORE_EVTEN s), 2, 1⟩
abbrev CORE_EVTEN_sram_ue (s : Nat) : Fld := ⟨(CORE_EVTEN s), 3, 1⟩
abbrev CORE_EVTEN_refused (s : Nat) : Fld := ⟨(CORE_EVTEN s), 4, 1⟩
abbrev CORE_IRQ_PEND_mailbox (s : Nat) : Fld := ⟨(CORE_IRQ_PEND s), 0, 1⟩
abbrev CORE_IRQ_PEND_blocks (s : Nat) : Fld := ⟨(CORE_IRQ_PEND s), 1, 1⟩
abbrev CORE_IRQ_PEND_bus_err (s : Nat) : Fld := ⟨(CORE_IRQ_PEND s), 2, 1⟩
abbrev CORE_IRQ_PEND_tick (s : Nat) : Fld := ⟨(CORE_IRQ_PEND s), 3, 1⟩
abbrev CORE_IRQ_PEND_quiet (s : Nat) : Fld := ⟨(CORE_IRQ_PEND s), 4, 1⟩
abbrev CORE_IRQ_EN_en (s : Nat) : Fld := ⟨(CORE_IRQ_EN s), 0, 5⟩
abbrev CORE_MTIMECMP_LO_cmp (s : Nat) : Fld := ⟨(CORE_MTIMECMP_LO s), 0, 32⟩
abbrev CORE_MTIMECMP_HI_cmp (s : Nat) : Fld := ⟨(CORE_MTIMECMP_HI s), 0, 32⟩
abbrev CORE_WIN0_base (s : Nat) : Fld := ⟨(CORE_WIN0 s), 0, 18⟩
abbrev CORE_WIN0_en (s : Nat) : Fld := ⟨(CORE_WIN0 s), 31, 1⟩
abbrev CORE_WIN1_base (s : Nat) : Fld := ⟨(CORE_WIN1 s), 0, 18⟩
abbrev CORE_WIN1_en (s : Nat) : Fld := ⟨(CORE_WIN1 s), 31, 1⟩
abbrev CORE_KEY_key (s : Nat) : Fld := ⟨(CORE_KEY s), 0, 6⟩
abbrev CORE_BUSERR_status (s : Nat) : Fld := ⟨(CORE_BUSERR s), 0, 8⟩
abbrev CORE_BUSERR_store (s : Nat) : Fld := ⟨(CORE_BUSERR s), 8, 1⟩
abbrev CORE_BUSERR_tick (s : Nat) : Fld := ⟨(CORE_BUSERR s), 16, 16⟩
abbrev CORE_WDOG_CFG_timeout (s : Nat) : Fld := ⟨(CORE_WDOG_CFG s), 0, 24⟩
abbrev CORE_WDOG_CFG_en (s : Nat) : Fld := ⟨(CORE_WDOG_CFG s), 31, 1⟩
abbrev CORE_WDOG_KICK_key (s : Nat) : Fld := ⟨(CORE_WDOG_KICK s), 0, 32⟩
abbrev CORE_WDOG_CNT_left (s : Nat) : Fld := ⟨(CORE_WDOG_CNT s), 0, 32⟩
abbrev CORE_MB_IN_word (s : Nat) : Fld := ⟨(CORE_MB_IN s), 0, 32⟩
abbrev CORE_MB_POP_word (s : Nat) : Fld := ⟨(CORE_MB_POP s), 0, 32⟩
abbrev CORE_MB_SRC_src_id (s : Nat) : Fld := ⟨(CORE_MB_SRC s), 0, 12⟩
abbrev CORE_MB_SRC_valid (s : Nat) : Fld := ⟨(CORE_MB_SRC s), 12, 1⟩
abbrev CORE_MB_SRC_dbg (s : Nat) : Fld := ⟨(CORE_MB_SRC s), 13, 1⟩
abbrev CORE_MB_STAT_level (s : Nat) : Fld := ⟨(CORE_MB_STAT s), 0, 6⟩
abbrev CORE_SRAM_ERR_ce (s : Nat) : Fld := ⟨(CORE_SRAM_ERR s), 0, 16⟩
abbrev CORE_SRAM_ERR_ue (s : Nat) : Fld := ⟨(CORE_SRAM_ERR s), 16, 16⟩
abbrev CORE_LOAD_core : Fld := ⟨CORE_LOAD, 0, 4⟩
abbrev CORE_LOADSTAT_busy : Fld := ⟨CORE_LOADSTAT, 0, 1⟩
abbrev CORE_LOADSTAT_core : Fld := ⟨CORE_LOADSTAT, 1, 4⟩
abbrev CORE_LOADSTAT_reason : Fld := ⟨CORE_LOADSTAT, 8, 4⟩
abbrev CORE_HB_CFG_period : Fld := ⟨CORE_HB_CFG, 0, 16⟩
abbrev CORE_HB_CFG_active : Fld := ⟨CORE_HB_CFG, 16, 1⟩
abbrev CORE_HB_CFG_hold : Fld := ⟨CORE_HB_CFG, 17, 1⟩
abbrev CORE_HB_KICK_any : Fld := ⟨CORE_HB_KICK, 0, 32⟩
abbrev CORE_HB_STAT_misses : Fld := ⟨CORE_HB_STAT, 0, 16⟩
abbrev CORE_HB_STAT_faults : Fld := ⟨CORE_HB_STAT, 16, 3⟩
abbrev CORE_SAFE_lockstep : Fld := ⟨CORE_SAFE, 0, 1⟩
abbrev CORE_SAFE_heartbeat : Fld := ⟨CORE_SAFE, 1, 1⟩
abbrev CORE_SAFE_tick : Fld := ⟨CORE_SAFE, 16, 16⟩
abbrev CORE_HOSTDB_vector : Fld := ⟨CORE_HOSTDB, 0, 6⟩
abbrev CMD_STAT_busy : Fld := ⟨CMD_STAT, 0, 1⟩
abbrev CMD_STAT_exhausted : Fld := ⟨CMD_STAT, 1, 1⟩
abbrev CMD_STAT_guard : Fld := ⟨CMD_STAT, 2, 1⟩
abbrev CMD_STAT_ckpt : Fld := ⟨CMD_STAT, 3, 1⟩
abbrev CMD_STAT_fifo : Fld := ⟨CMD_STAT, 4, 3⟩
abbrev CMD_STAT_ticked : Fld := ⟨CMD_STAT, 7, 5⟩
abbrev CMD_EVT_accepted : Fld := ⟨CMD_EVT, 0, 1⟩
abbrev CMD_EVT_refused : Fld := ⟨CMD_EVT, 1, 1⟩
abbrev CMD_EVT_tag_fail : Fld := ⟨CMD_EVT, 2, 1⟩
abbrev CMD_EVT_ckpt_done : Fld := ⟨CMD_EVT, 3, 1⟩
abbrev CMD_EVT_exhausted : Fld := ⟨CMD_EVT, 4, 1⟩
abbrev CMD_EVT_host_refused : Fld := ⟨CMD_EVT, 5, 1⟩
abbrev CMD_EVTEN_accepted : Fld := ⟨CMD_EVTEN, 0, 1⟩
abbrev CMD_EVTEN_refused : Fld := ⟨CMD_EVTEN, 1, 1⟩
abbrev CMD_EVTEN_tag_fail : Fld := ⟨CMD_EVTEN, 2, 1⟩
abbrev CMD_EVTEN_ckpt_done : Fld := ⟨CMD_EVTEN, 3, 1⟩
abbrev CMD_EVTEN_exhausted : Fld := ⟨CMD_EVTEN, 4, 1⟩
abbrev CMD_EVTEN_host_refused : Fld := ⟨CMD_EVTEN, 5, 1⟩
abbrev CMD_LAST_LO_value : Fld := ⟨CMD_LAST_LO, 0, 32⟩
abbrev CMD_LAST_HI_value : Fld := ⟨CMD_LAST_HI, 0, 16⟩
abbrev CMD_CKPT_LO_value : Fld := ⟨CMD_CKPT_LO, 0, 32⟩
abbrev CMD_CKPT_HI_value : Fld := ⟨CMD_CKPT_HI, 0, 16⟩
abbrev CMD_TAGFAIL_value : Fld := ⟨CMD_TAGFAIL, 0, 32⟩
abbrev CMD_ACCEPT_value : Fld := ⟨CMD_ACCEPT, 0, 32⟩
abbrev CMD_RES_IDX_back : Fld := ⟨CMD_RES_IDX, 0, 4⟩
abbrev CMD_RES_W_word (n : Nat) : Fld := ⟨(CMD_RES_W n), 0, 32⟩
abbrev CMD_HSUBMIT_len : Fld := ⟨CMD_HSUBMIT, 0, 7⟩
abbrev CMD_HSTAT_full : Fld := ⟨CMD_HSTAT, 0, 1⟩
abbrev CMD_HSTAT_reason : Fld := ⟨CMD_HSTAT, 4, 4⟩
abbrev CMD_HBUF_value (n : Nat) : Fld := ⟨(CMD_HBUF n), 0, 32⟩
abbrev KEYS_LC_state : Fld := ⟨KEYS_LC, 0, 3⟩
abbrev KEYS_LC_moves : Fld := ⟨KEYS_LC, 4, 6⟩
abbrev KEYS_LC_row : Fld := ⟨KEYS_LC, 10, 3⟩
abbrev KEYS_STAT_root : Fld := ⟨KEYS_STAT, 0, 1⟩
abbrev KEYS_STAT_image : Fld := ⟨KEYS_STAT, 1, 1⟩
abbrev KEYS_STAT_skipper_dbg : Fld := ⟨KEYS_STAT, 2, 1⟩
abbrev KEYS_STAT_hold : Fld := ⟨KEYS_STAT, 3, 1⟩
abbrev KEYS_EVT_slot_loaded : Fld := ⟨KEYS_EVT, 0, 1⟩
abbrev KEYS_EVT_slot_cleared : Fld := ⟨KEYS_EVT, 1, 1⟩
abbrev KEYS_EVT_rekeyed : Fld := ⟨KEYS_EVT, 2, 1⟩
abbrev KEYS_EVT_prov_refused : Fld := ⟨KEYS_EVT, 3, 1⟩
abbrev KEYS_EVT_refused : Fld := ⟨KEYS_EVT, 4, 1⟩
abbrev KEYS_EVTEN_slot_loaded : Fld := ⟨KEYS_EVTEN, 0, 1⟩
abbrev KEYS_EVTEN_slot_cleared : Fld := ⟨KEYS_EVTEN, 1, 1⟩
abbrev KEYS_EVTEN_rekeyed : Fld := ⟨KEYS_EVTEN, 2, 1⟩
abbrev KEYS_EVTEN_prov_refused : Fld := ⟨KEYS_EVTEN, 3, 1⟩
abbrev KEYS_EVTEN_refused : Fld := ⟨KEYS_EVTEN, 4, 1⟩
abbrev KEYS_FILLED_LO_filled : Fld := ⟨KEYS_FILLED_LO, 0, 32⟩
abbrev KEYS_FILLED_HI_filled : Fld := ⟨KEYS_FILLED_HI, 0, 32⟩
abbrev KEYS_KCV_CMD_kcv : Fld := ⟨KEYS_KCV_CMD, 0, 32⟩
abbrev KEYS_KCV_BC_kcv : Fld := ⟨KEYS_KCV_BC, 0, 32⟩
abbrev KEYS_CKPT_LO_value : Fld := ⟨KEYS_CKPT_LO, 0, 32⟩
abbrev KEYS_CKPT_HI_value : Fld := ⟨KEYS_CKPT_HI, 0, 16⟩
abbrev KEYS_CKPT_HI_valid : Fld := ⟨KEYS_CKPT_HI, 16, 1⟩
abbrev KEYS_PROV_SEL_item : Fld := ⟨KEYS_PROV_SEL, 0, 2⟩
abbrev KEYS_PROV_SEL_word : Fld := ⟨KEYS_PROV_SEL, 8, 4⟩
abbrev KEYS_PROV_DATA_data : Fld := ⟨KEYS_PROV_DATA, 0, 32⟩
abbrev KEYS_PROV_CMD_burn : Fld := ⟨KEYS_PROV_CMD, 0, 1⟩
abbrev KEYS_PROV_STAT_busy : Fld := ⟨KEYS_PROV_STAT, 0, 1⟩
abbrev KEYS_PROV_STAT_reason : Fld := ⟨KEYS_PROV_STAT, 4, 4⟩
abbrev KEYS_PROV_STAT_written : Fld := ⟨KEYS_PROV_STAT, 8, 4⟩
abbrev ERR_SRC_src : Fld := ⟨ERR_SRC, 0, 16⟩
abbrev ERR_SRCEN_src : Fld := ⟨ERR_SRCEN, 0, 16⟩
abbrev ERR_CE_CNT_count : Fld := ⟨ERR_CE_CNT, 0, 32⟩
abbrev ERR_CT_CNT_count : Fld := ⟨ERR_CT_CNT, 0, 32⟩
abbrev ERR_RF_CNT_count : Fld := ⟨ERR_RF_CNT, 0, 32⟩
abbrev ERR_DF_CNT_count : Fld := ⟨ERR_DF_CNT, 0, 32⟩
abbrev ERR_LOG_LO_source : Fld := ⟨ERR_LOG_LO, 0, 4⟩
abbrev ERR_LOG_LO_class : Fld := ⟨ERR_LOG_LO, 4, 3⟩
abbrev ERR_LOG_LO_valid : Fld := ⟨ERR_LOG_LO, 7, 1⟩
abbrev ERR_LOG_LO_region : Fld := ⟨ERR_LOG_LO, 8, 5⟩
abbrev ERR_LOG_LO_detail : Fld := ⟨ERR_LOG_LO, 16, 16⟩
abbrev ERR_LOG_TICK_tick : Fld := ⟨ERR_LOG_TICK, 0, 32⟩
abbrev ERR_LOG_STAT_level : Fld := ⟨ERR_LOG_STAT, 0, 5⟩
abbrev ERR_LOG_STAT_dropped : Fld := ⟨ERR_LOG_STAT, 16, 16⟩
abbrev ERR_CMD_op : Fld := ⟨ERR_CMD, 0, 2⟩
abbrev ERR_CMD_region : Fld := ⟨ERR_CMD, 2, 5⟩
abbrev ERR_CMDSTAT_reason : Fld := ⟨ERR_CMDSTAT, 0, 4⟩
abbrev ERR_DIES_any : Fld := ⟨ERR_DIES, 0, 10⟩
abbrev ERR_DIES_fatal : Fld := ⟨ERR_DIES, 16, 10⟩
abbrev ERR_DIESEN_any : Fld := ⟨ERR_DIESEN, 0, 10⟩
abbrev ERR_DIESEN_fatal : Fld := ⟨ERR_DIESEN, 16, 10⟩
abbrev ERR_FATAL_refclk : Fld := ⟨ERR_FATAL, 0, 1⟩
abbrev ERR_FATAL_lockstep : Fld := ⟨ERR_FATAL, 1, 1⟩
abbrev ERR_FATAL_heartbeat : Fld := ⟨ERR_FATAL, 2, 1⟩
abbrev ERR_FATAL_thermal : Fld := ⟨ERR_FATAL, 3, 1⟩
abbrev ERR_FATAL_tick : Fld := ⟨ERR_FATAL, 16, 16⟩
abbrev ERR_NOTIFY_event : Fld := ⟨ERR_NOTIFY, 0, 14⟩
abbrev ERR_NOTIFY_ita : Fld := ⟨ERR_NOTIFY, 14, 1⟩
abbrev ERR_NOTIFY_host : Fld := ⟨ERR_NOTIFY, 15, 1⟩
abbrev SCRUB_MASTER_step : Fld := ⟨SCRUB_MASTER, 0, 4⟩
abbrev SCRUB_MASTER_gap : Fld := ⟨SCRUB_MASTER, 8, 5⟩
abbrev SCRUB_CTL_step : Fld := ⟨SCRUB_CTL, 0, 4⟩
abbrev SCRUB_CTL_gap : Fld := ⟨SCRUB_CTL, 8, 5⟩
abbrev SCRUB_POS_frame : Fld := ⟨SCRUB_POS, 0, 16⟩
abbrev SCRUB_POS_walks : Fld := ⟨SCRUB_POS, 16, 16⟩
abbrev SCRUB_WALK_length : Fld := ⟨SCRUB_WALK, 0, 16⟩
abbrev SCRUB_EVT_ce : Fld := ⟨SCRUB_EVT, 0, 1⟩
abbrev SCRUB_EVT_ue : Fld := ⟨SCRUB_EVT, 1, 1⟩
abbrev SCRUB_EVT_vote : Fld := ⟨SCRUB_EVT, 2, 1⟩
abbrev SCRUB_EVT_walk_late : Fld := ⟨SCRUB_EVT, 3, 1⟩
abbrev SCRUB_EVTEN_ce : Fld := ⟨SCRUB_EVTEN, 0, 1⟩
abbrev SCRUB_EVTEN_ue : Fld := ⟨SCRUB_EVTEN, 1, 1⟩
abbrev SCRUB_EVTEN_vote : Fld := ⟨SCRUB_EVTEN, 2, 1⟩
abbrev SCRUB_EVTEN_walk_late : Fld := ⟨SCRUB_EVTEN, 3, 1⟩
abbrev SCRUB_CE_CNT_count : Fld := ⟨SCRUB_CE_CNT, 0, 32⟩
abbrev SCRUB_UE_CNT_count : Fld := ⟨SCRUB_UE_CNT, 0, 32⟩
abbrev SCRUB_VOTE_CNT_count : Fld := ⟨SCRUB_VOTE_CNT, 0, 32⟩
abbrev SCRUB_UE_MAP_map : Fld := ⟨SCRUB_UE_MAP, 0, 24⟩
abbrev SPARE_STAT_wm_state : Fld := ⟨SPARE_STAT, 0, 2⟩
abbrev SPARE_STAT_wm_busy : Fld := ⟨SPARE_STAT, 2, 1⟩
abbrev SPARE_STAT_queued : Fld := ⟨SPARE_STAT, 3, 5⟩
abbrev SPARE_STAT_skipped : Fld := ⟨SPARE_STAT, 8, 8⟩
abbrev SPARE_STAT_entries : Fld := ⟨SPARE_STAT, 16, 13⟩
abbrev SPARE_EVT_col_thr : Fld := ⟨SPARE_EVT, 0, 1⟩
abbrev SPARE_EVT_age_thr : Fld := ⟨SPARE_EVT, 1, 1⟩
abbrev SPARE_EVT_wm_done : Fld := ⟨SPARE_EVT, 2, 1⟩
abbrev SPARE_EVT_wm_fail : Fld := ⟨SPARE_EVT, 3, 1⟩
abbrev SPARE_EVT_wm_bad : Fld := ⟨SPARE_EVT, 4, 1⟩
abbrev SPARE_EVT_skipped : Fld := ⟨SPARE_EVT, 5, 1⟩
abbrev SPARE_EVT_pool_empty : Fld := ⟨SPARE_EVT, 6, 1⟩
abbrev SPARE_EVTEN_col_thr : Fld := ⟨SPARE_EVTEN, 0, 1⟩
abbrev SPARE_EVTEN_age_thr : Fld := ⟨SPARE_EVTEN, 1, 1⟩
abbrev SPARE_EVTEN_wm_done : Fld := ⟨SPARE_EVTEN, 2, 1⟩
abbrev SPARE_EVTEN_wm_fail : Fld := ⟨SPARE_EVTEN, 3, 1⟩
abbrev SPARE_EVTEN_wm_bad : Fld := ⟨SPARE_EVTEN, 4, 1⟩
abbrev SPARE_EVTEN_skipped : Fld := ⟨SPARE_EVTEN, 5, 1⟩
abbrev SPARE_EVTEN_pool_empty : Fld := ⟨SPARE_EVTEN, 6, 1⟩
abbrev SPARE_CFG_col_thr : Fld := ⟨SPARE_CFG, 0, 16⟩
abbrev SPARE_CFG_age_thr : Fld := ⟨SPARE_CFG, 16, 8⟩
abbrev SPARE_POOL_logic : Fld := ⟨SPARE_POOL, 0, 5⟩
abbrev SPARE_POOL_cmb : Fld := ⟨SPARE_POOL, 5, 1⟩
abbrev SPARE_POOL_corug_out : Fld := ⟨SPARE_POOL, 8, 6⟩
abbrev SPARE_POOL_lanes : Fld := ⟨SPARE_POOL, 16, 4⟩
abbrev SPARE_HIT_column : Fld := ⟨SPARE_HIT, 0, 8⟩
abbrev SPARE_HIT_col_valid : Fld := ⟨SPARE_HIT, 8, 1⟩
abbrev SPARE_HIT_monitor : Fld := ⟨SPARE_HIT, 16, 5⟩
abbrev SPARE_HIT_age_valid : Fld := ⟨SPARE_HIT, 21, 1⟩
abbrev SPARE_AGE_slowdown (n : Nat) : Fld := ⟨(SPARE_AGE n), 0, 12⟩
abbrev SPARE_AGE_count (n : Nat) : Fld := ⟨(SPARE_AGE n), 16, 16⟩
abbrev SPARE_AGEB_baseline (n : Nat) : Fld := ⟨(SPARE_AGEB n), 0, 16⟩
abbrev SPARE_COLCNT_count (n : Nat) : Fld := ⟨(SPARE_COLCNT n), 0, 32⟩
abbrev CLK_REF_refsel : Fld := ⟨CLK_REF, 0, 3⟩
abbrev CLK_REF_tb_lock : Fld := ⟨CLK_REF, 3, 1⟩
abbrev CLK_REF_safeosc_ready : Fld := ⟨CLK_REF, 4, 1⟩
abbrev CLK_REF_ref_lost : Fld := ⟨CLK_REF, 5, 1⟩
abbrev CLK_EVT_pll_unlock : Fld := ⟨CLK_EVT, 0, 1⟩
abbrev CLK_EVT_gate_timeout : Fld := ⟨CLK_EVT, 1, 1⟩
abbrev CLK_EVT_fm_done : Fld := ⟨CLK_EVT, 2, 1⟩
abbrev CLK_EVT_refused : Fld := ⟨CLK_EVT, 3, 1⟩
abbrev CLK_EVTEN_pll_unlock : Fld := ⟨CLK_EVTEN, 0, 1⟩
abbrev CLK_EVTEN_gate_timeout : Fld := ⟨CLK_EVTEN, 1, 1⟩
abbrev CLK_EVTEN_fm_done : Fld := ⟨CLK_EVTEN, 2, 1⟩
abbrev CLK_EVTEN_refused : Fld := ⟨CLK_EVTEN, 3, 1⟩
abbrev CLK_GATE_block : Fld := ⟨CLK_GATE, 0, 30⟩
abbrev CLK_GATE_STAT_block : Fld := ⟨CLK_GATE_STAT, 0, 30⟩
abbrev CLK_GATE_FAIL_bit : Fld := ⟨CLK_GATE_FAIL, 0, 5⟩
abbrev CLK_GATE_FAIL_valid : Fld := ⟨CLK_GATE_FAIL, 5, 1⟩
abbrev CLK_PLL_CFG_m (n : Nat) : Fld := ⟨(CLK_PLL_CFG n), 0, 6⟩
abbrev CLK_PLL_CFG_f (n : Nat) : Fld := ⟨(CLK_PLL_CFG n), 6, 16⟩
abbrev CLK_PLL_CFG_en (n : Nat) : Fld := ⟨(CLK_PLL_CFG n), 31, 1⟩
abbrev CLK_PLL_LOCK_lock : Fld := ⟨CLK_PLL_LOCK, 0, 8⟩
abbrev CLK_THROTTLE_level : Fld := ⟨CLK_THROTTLE, 0, 4⟩
abbrev CLK_THROTTLE_power : Fld := ⟨CLK_THROTTLE, 4, 1⟩
abbrev CLK_THROTTLE_thermal : Fld := ⟨CLK_THROTTLE, 5, 1⟩
abbrev CLK_THROTTLE_package : Fld := ⟨CLK_THROTTLE, 6, 1⟩
abbrev CLK_FM_SEL_meas (n : Nat) : Fld := ⟨(CLK_FM_SEL n), 0, 12⟩
abbrev CLK_FM_SEL_gate (n : Nat) : Fld := ⟨(CLK_FM_SEL n), 12, 12⟩
abbrev CLK_FM_N_n (n : Nat) : Fld := ⟨(CLK_FM_N n), 0, 24⟩
abbrev CLK_FM_N_start (n : Nat) : Fld := ⟨(CLK_FM_N n), 31, 1⟩
abbrev CLK_FM_RES_count (n : Nat) : Fld := ⟨(CLK_FM_RES n), 0, 32⟩
abbrev CLK_FM_STAT_busy (n : Nat) : Fld := ⟨(CLK_FM_STAT n), 0, 1⟩
abbrev CLK_FM_STAT_done (n : Nat) : Fld := ⟨(CLK_FM_STAT n), 1, 1⟩
abbrev CLK_FM_STAT_sat (n : Nat) : Fld := ⟨(CLK_FM_STAT n), 2, 1⟩
abbrev CLK_FM_STAT_absent (n : Nat) : Fld := ⟨(CLK_FM_STAT n), 3, 1⟩
abbrev CLK_FM_STAT_bad_sel (n : Nat) : Fld := ⟨(CLK_FM_STAT n), 4, 1⟩
abbrev PWR_VMON_good : Fld := ⟨PWR_VMON, 0, 8⟩
abbrev PWR_VMON_fault : Fld := ⟨PWR_VMON, 8, 8⟩
abbrev PWR_EVT_throttle : Fld := ⟨PWR_EVT, 0, 1⟩
abbrev PWR_EVT_floor : Fld := ⟨PWR_EVT, 1, 1⟩
abbrev PWR_EVT_warn : Fld := ⟨PWR_EVT, 2, 1⟩
abbrev PWR_EVT_sensor_bad : Fld := ⟨PWR_EVT, 3, 1⟩
abbrev PWR_EVT_rail : Fld := ⟨PWR_EVT, 4, 1⟩
abbrev PWR_EVT_refused : Fld := ⟨PWR_EVT, 5, 1⟩
abbrev PWR_EVTEN_throttle : Fld := ⟨PWR_EVTEN, 0, 1⟩
abbrev PWR_EVTEN_floor : Fld := ⟨PWR_EVTEN, 1, 1⟩
abbrev PWR_EVTEN_warn : Fld := ⟨PWR_EVTEN, 2, 1⟩
abbrev PWR_EVTEN_sensor_bad : Fld := ⟨PWR_EVTEN, 3, 1⟩
abbrev PWR_EVTEN_rail : Fld := ⟨PWR_EVTEN, 4, 1⟩
abbrev PWR_EVTEN_refused : Fld := ⟨PWR_EVTEN, 5, 1⟩
abbrev PWR_CAP_limit : Fld := ⟨PWR_CAP, 0, 7⟩
abbrev PWR_CUR_current : Fld := ⟨PWR_CUR, 0, 12⟩
abbrev PWR_CUR_MAX_current : Fld := ⟨PWR_CUR_MAX, 0, 12⟩
abbrev PWR_PKG_CAP_watts : Fld := ⟨PWR_PKG_CAP, 0, 10⟩
abbrev PWR_PKG_NOW_watts : Fld := ⟨PWR_PKG_NOW, 0, 10⟩
abbrev PWR_PKG_NOW_stale : Fld := ⟨PWR_PKG_NOW, 16, 10⟩
abbrev PWR_SAFE_entered : Fld := ⟨PWR_SAFE, 0, 1⟩
abbrev PWR_SAFE_cause : Fld := ⟨PWR_SAFE, 1, 3⟩
abbrev PWR_SAFE_tick : Fld := ⟨PWR_SAFE, 16, 16⟩
abbrev THERM_CFG_warn : Fld := ⟨THERM_CFG, 0, 8⟩
abbrev THERM_CFG_throttle : Fld := ⟨THERM_CFG, 8, 8⟩
abbrev THERM_S_temp (n : Nat) : Fld := ⟨(THERM_S n), 0, 12⟩
abbrev THERM_S_valid (n : Nat) : Fld := ⟨(THERM_S n), 12, 1⟩
abbrev THERM_MAX_temp : Fld := ⟨THERM_MAX, 0, 12⟩
abbrev THERM_MAX_valid : Fld := ⟨THERM_MAX, 12, 1⟩
abbrev THERM_TRIPLOG_die : Fld := ⟨THERM_TRIPLOG, 0, 4⟩
abbrev THERM_TRIPLOG_sensor : Fld := ⟨THERM_TRIPLOG, 4, 2⟩
abbrev THERM_TRIPLOG_no_valid : Fld := ⟨THERM_TRIPLOG, 6, 1⟩
abbrev THERM_TRIPLOG_temp : Fld := ⟨THERM_TRIPLOG, 16, 12⟩
abbrev GPIO_EVT_conflict : Fld := ⟨GPIO_EVT, 0, 1⟩
abbrev GPIO_EVT_trig_conflict : Fld := ⟨GPIO_EVT, 1, 1⟩
abbrev GPIO_EVT_trig_edge : Fld := ⟨GPIO_EVT, 2, 1⟩
abbrev GPIO_EVT_tmr_capture : Fld := ⟨GPIO_EVT, 3, 1⟩
abbrev GPIO_EVT_adc_done : Fld := ⟨GPIO_EVT, 4, 1⟩
abbrev GPIO_EVT_bank : Fld := ⟨GPIO_EVT, 5, 1⟩
abbrev GPIO_EVT_refused : Fld := ⟨GPIO_EVT, 6, 1⟩
abbrev GPIO_EVT_bad_func : Fld := ⟨GPIO_EVT, 7, 1⟩
abbrev GPIO_EVTEN_conflict : Fld := ⟨GPIO_EVTEN, 0, 1⟩
abbrev GPIO_EVTEN_trig_conflict : Fld := ⟨GPIO_EVTEN, 1, 1⟩
abbrev GPIO_EVTEN_trig_edge : Fld := ⟨GPIO_EVTEN, 2, 1⟩
abbrev GPIO_EVTEN_tmr_capture : Fld := ⟨GPIO_EVTEN, 3, 1⟩
abbrev GPIO_EVTEN_adc_done : Fld := ⟨GPIO_EVTEN, 4, 1⟩
abbrev GPIO_EVTEN_bank : Fld := ⟨GPIO_EVTEN, 5, 1⟩
abbrev GPIO_EVTEN_refused : Fld := ⟨GPIO_EVTEN, 6, 1⟩
abbrev GPIO_EVTEN_bad_func : Fld := ⟨GPIO_EVTEN, 7, 1⟩
abbrev GPIO_CONF_LO_pins : Fld := ⟨GPIO_CONF_LO, 0, 32⟩
abbrev GPIO_CONF_HI_pins : Fld := ⟨GPIO_CONF_HI, 0, 32⟩
abbrev GPIO_BANK_level0 : Fld := ⟨GPIO_BANK, 0, 2⟩
abbrev GPIO_BANK_level1 : Fld := ⟨GPIO_BANK, 2, 2⟩
abbrev GPIO_ADC_CTRL_en : Fld := ⟨GPIO_ADC_CTRL, 0, 1⟩
abbrev GPIO_TRIG_STAT_low : Fld := ⟨GPIO_TRIG_STAT, 0, 8⟩
abbrev GPIO_TRIG_STAT_pulling : Fld := ⟨GPIO_TRIG_STAT, 8, 8⟩
abbrev GPIO_TRIG_CONF_conflict : Fld := ⟨GPIO_TRIG_CONF, 0, 8⟩
abbrev GPIO_TMR_CFG_mode (n : Nat) : Fld := ⟨(GPIO_TMR_CFG n), 0, 2⟩
abbrev GPIO_TMR_CFG_every (n : Nat) : Fld := ⟨(GPIO_TMR_CFG n), 2, 8⟩
abbrev GPIO_TMR_CFG_width (n : Nat) : Fld := ⟨(GPIO_TMR_CFG n), 10, 8⟩
abbrev GPIO_TMR_CFG_pin (n : Nat) : Fld := ⟨(GPIO_TMR_CFG n), 18, 6⟩
abbrev GPIO_TMR_CFG_owned (n : Nat) : Fld := ⟨(GPIO_TMR_CFG n), 24, 1⟩
abbrev GPIO_TMR_CFG_by_trig (n : Nat) : Fld := ⟨(GPIO_TMR_CFG n), 25, 1⟩
abbrev GPIO_TMR_CAP_LO_count (n : Nat) : Fld := ⟨(GPIO_TMR_CAP_LO n), 0, 32⟩
abbrev GPIO_TMR_CAP_HI_count (n : Nat) : Fld := ⟨(GPIO_TMR_CAP_HI n), 0, 32⟩
abbrev GPIO_TRIG_OWN_owner (n : Nat) : Fld := ⟨(GPIO_TRIG_OWN n), 0, 3⟩
abbrev GPIO_TRIG_OWN_unit (n : Nat) : Fld := ⟨(GPIO_TRIG_OWN n), 4, 3⟩
abbrev GPIO_TRIG_CTRL_drive (n : Nat) : Fld := ⟨(GPIO_TRIG_CTRL n), 0, 1⟩
abbrev GPIO_TRIG_CTRL_ev_en (n : Nat) : Fld := ⟨(GPIO_TRIG_CTRL n), 1, 1⟩
abbrev GPIO_TRIG_CTRL_event (n : Nat) : Fld := ⟨(GPIO_TRIG_CTRL n), 2, 14⟩
abbrev GPIO_TRIG_CTRL_scope (n : Nat) : Fld := ⟨(GPIO_TRIG_CTRL n), 16, 1⟩
abbrev GPIO_TRIG_CTRL_be (n : Nat) : Fld := ⟨(GPIO_TRIG_CTRL n), 17, 1⟩
abbrev GPIO_TRIG_TS_LO_count (n : Nat) : Fld := ⟨(GPIO_TRIG_TS_LO n), 0, 32⟩
abbrev GPIO_TRIG_TS_HI_count (n : Nat) : Fld := ⟨(GPIO_TRIG_TS_HI n), 0, 32⟩
abbrev GPIO_TRIG_TS_FINE_fine (n : Nat) : Fld := ⟨(GPIO_TRIG_TS_FINE n), 0, 8⟩
abbrev GPIO_TRIG_TS_FINE_edges (n : Nat) : Fld := ⟨(GPIO_TRIG_TS_FINE n), 8, 24⟩
abbrev GPIO_P_CFG_func (n : Nat) : Fld := ⟨(GPIO_P_CFG n), 0, 4⟩
abbrev GPIO_P_CFG_thr (n : Nat) : Fld := ⟨(GPIO_P_CFG n), 4, 2⟩
abbrev GPIO_P_CFG_analog (n : Nat) : Fld := ⟨(GPIO_P_CFG n), 6, 1⟩
abbrev GPIO_P_CFG_pull (n : Nat) : Fld := ⟨(GPIO_P_CFG n), 7, 2⟩
abbrev GPIO_P_CFG_filt (n : Nat) : Fld := ⟨(GPIO_P_CFG n), 9, 2⟩
abbrev GPIO_P_CFG_switching (n : Nat) : Fld := ⟨(GPIO_P_CFG n), 16, 1⟩
abbrev GPIO_P_ADC_code (n : Nat) : Fld := ⟨(GPIO_P_ADC n), 0, 12⟩
abbrev GPIO_P_ADC_valid (n : Nat) : Fld := ⟨(GPIO_P_ADC n), 12, 1⟩
abbrev GPIO_P_ADC_sat (n : Nat) : Fld := ⟨(GPIO_P_ADC n), 13, 1⟩
abbrev GPIO_P_ADC_tick (n : Nat) : Fld := ⟨(GPIO_P_ADC n), 16, 16⟩
abbrev DBG_OWN_claim : Fld := ⟨DBG_OWN, 0, 1⟩
abbrev DBG_OWN_release : Fld := ⟨DBG_OWN, 1, 1⟩
abbrev DBG_OWN_owner : Fld := ⟨DBG_OWN, 2, 2⟩
abbrev DBG_EVT_halted : Fld := ⟨DBG_EVT, 0, 1⟩
abbrev DBG_EVT_feed_err : Fld := ⟨DBG_EVT, 1, 1⟩
abbrev DBG_EVT_refused : Fld := ⟨DBG_EVT, 2, 1⟩
abbrev DBG_EVT_path_conflict : Fld := ⟨DBG_EVT, 3, 1⟩
abbrev DBG_EVT_grant_end : Fld := ⟨DBG_EVT, 4, 1⟩
abbrev DBG_EVTEN_halted : Fld := ⟨DBG_EVTEN, 0, 1⟩
abbrev DBG_EVTEN_feed_err : Fld := ⟨DBG_EVTEN, 1, 1⟩
abbrev DBG_EVTEN_refused : Fld := ⟨DBG_EVTEN, 2, 1⟩
abbrev DBG_EVTEN_path_conflict : Fld := ⟨DBG_EVTEN, 3, 1⟩
abbrev DBG_EVTEN_grant_end : Fld := ⟨DBG_EVTEN, 4, 1⟩
abbrev DBG_RIGHTS_bm_write : Fld := ⟨DBG_RIGHTS, 0, 1⟩
abbrev DBG_RIGHTS_skipper : Fld := ⟨DBG_RIGHTS, 1, 1⟩
abbrev DBG_RIGHTS_hawkmoth : Fld := ⟨DBG_RIGHTS, 2, 1⟩
abbrev DBG_RIGHTS_test : Fld := ⟨DBG_RIGHTS, 3, 1⟩
abbrev DBG_RIGHTS_hold : Fld := ⟨DBG_RIGHTS, 4, 1⟩
abbrev DBG_RIGHTS_factory : Fld := ⟨DBG_RIGHTS, 5, 1⟩
abbrev DBG_BM_ADDR_LO_word : Fld := ⟨DBG_BM_ADDR_LO, 2, 30⟩
abbrev DBG_BM_ADDR_HI_addr : Fld := ⟨DBG_BM_ADDR_HI, 0, 16⟩
abbrev DBG_BM_DATA_value : Fld := ⟨DBG_BM_DATA, 0, 32⟩
abbrev DBG_BM_CMD_read : Fld := ⟨DBG_BM_CMD, 0, 1⟩
abbrev DBG_BM_CMD_write : Fld := ⟨DBG_BM_CMD, 1, 1⟩
abbrev DBG_BM_CMD_consume : Fld := ⟨DBG_BM_CMD, 2, 1⟩
abbrev DBG_BM_STAT_busy : Fld := ⟨DBG_BM_STAT, 0, 1⟩
abbrev DBG_BM_STAT_status : Fld := ⟨DBG_BM_STAT, 8, 8⟩
abbrev DBG_GEXP_LO_tick : Fld := ⟨DBG_GEXP_LO, 0, 32⟩
abbrev DBG_GEXP_HI_tick : Fld := ⟨DBG_GEXP_HI, 0, 32⟩
abbrev DBG_C_CTRL_ebreak_halt (n : Nat) : Fld := ⟨(DBG_C_CTRL n), 0, 1⟩
abbrev DBG_C_CTRL_halt_on_reset (n : Nat) : Fld := ⟨(DBG_C_CTRL n), 1, 1⟩
abbrev DBG_C_CTRL_consume (n : Nat) : Fld := ⟨(DBG_C_CTRL n), 2, 1⟩
abbrev DBG_C_CMD_halt (n : Nat) : Fld := ⟨(DBG_C_CMD n), 0, 1⟩
abbrev DBG_C_CMD_resume (n : Nat) : Fld := ⟨(DBG_C_CMD n), 1, 1⟩
abbrev DBG_C_CMD_step (n : Nat) : Fld := ⟨(DBG_C_CMD n), 2, 1⟩
abbrev DBG_C_STAT_state (n : Nat) : Fld := ⟨(DBG_C_STAT n), 0, 2⟩
abbrev DBG_C_STAT_cause (n : Nat) : Fld := ⟨(DBG_C_STAT n), 2, 2⟩
abbrev DBG_C_STAT_fed_busy (n : Nat) : Fld := ⟨(DBG_C_STAT n), 4, 1⟩
abbrev DBG_C_STAT_ferr (n : Nat) : Fld := ⟨(DBG_C_STAT n), 5, 1⟩
abbrev DBG_C_STAT_fcause (n : Nat) : Fld := ⟨(DBG_C_STAT n), 6, 4⟩
abbrev DBG_C_STAT_ticked (n : Nat) : Fld := ⟨(DBG_C_STAT n), 10, 1⟩
abbrev DBG_C_STAT_halted_ticks (n : Nat) : Fld := ⟨(DBG_C_STAT n), 16, 16⟩
abbrev DBG_C_DPC_pc (n : Nat) : Fld := ⟨(DBG_C_DPC n), 0, 32⟩
abbrev DBG_C_IFEED_word (n : Nat) : Fld := ⟨(DBG_C_IFEED n), 0, 32⟩
abbrev DBG_C_DATA_word (n : Nat) : Fld := ⟨(DBG_C_DATA n), 0, 32⟩
abbrev DBG_C_DTX_word (n : Nat) : Fld := ⟨(DBG_C_DTX n), 0, 32⟩
abbrev DBG_C_DRX_word (n : Nat) : Fld := ⟨(DBG_C_DRX n), 0, 32⟩
abbrev DBG_C_TSTAT_dtx_full (n : Nat) : Fld := ⟨(DBG_C_TSTAT n), 0, 1⟩
abbrev DBG_C_TSTAT_drx_full (n : Nat) : Fld := ⟨(DBG_C_TSTAT n), 1, 1⟩
abbrev DBG_C_TSTAT_dtx_lost (n : Nat) : Fld := ⟨(DBG_C_TSTAT n), 2, 1⟩
abbrev DBG_C_TSTAT_drx_lost (n : Nat) : Fld := ⟨(DBG_C_TSTAT n), 3, 1⟩
abbrev DBG_C_MADDR_word (n : Nat) : Fld := ⟨(DBG_C_MADDR n), 2, 16⟩
abbrev DBG_C_MADDR_isram (n : Nat) : Fld := ⟨(DBG_C_MADDR n), 18, 1⟩
abbrev DBG_C_MADDR_inc (n : Nat) : Fld := ⟨(DBG_C_MADDR n), 19, 1⟩
abbrev DBG_C_MADDR_ue (n : Nat) : Fld := ⟨(DBG_C_MADDR n), 20, 1⟩
abbrev DBG_C_MDATA_word (n : Nat) : Fld := ⟨(DBG_C_MDATA n), 0, 32⟩
abbrev DBG_PATCH_ADDR_word (n : Nat) : Fld := ⟨(DBG_PATCH_ADDR n), 2, 16⟩
abbrev DBG_PATCH_ADDR_en (n : Nat) : Fld := ⟨(DBG_PATCH_ADDR n), 31, 1⟩
abbrev DBG_PATCH_DATA_word (n : Nat) : Fld := ⟨(DBG_PATCH_DATA n), 0, 32⟩
abbrev BIST_REQ_mask : Fld := ⟨BIST_REQ, 0, 10⟩
abbrev BIST_REQ_set : Fld := ⟨BIST_REQ, 12, 3⟩
abbrev BIST_CTRL_start : Fld := ⟨BIST_CTRL, 0, 1⟩
abbrev BIST_CTRL_abort : Fld := ⟨BIST_CTRL, 1, 1⟩
abbrev BIST_CFG_pcap : Fld := ⟨BIST_CFG, 0, 8⟩
abbrev BIST_STAT_state : Fld := ⟨BIST_STAT, 0, 2⟩
abbrev BIST_STAT_running : Fld := ⟨BIST_STAT, 2, 10⟩
abbrev BIST_STAT_queued : Fld := ⟨BIST_STAT, 12, 10⟩
abbrev BIST_EVT_done : Fld := ⟨BIST_EVT, 0, 1⟩
abbrev BIST_EVT_fail : Fld := ⟨BIST_EVT, 1, 1⟩
abbrev BIST_EVT_refused : Fld := ⟨BIST_EVT, 2, 1⟩
abbrev BIST_EVT_s7_fail : Fld := ⟨BIST_EVT, 3, 1⟩
abbrev BIST_EVTEN_done : Fld := ⟨BIST_EVTEN, 0, 1⟩
abbrev BIST_EVTEN_fail : Fld := ⟨BIST_EVTEN, 1, 1⟩
abbrev BIST_EVTEN_refused : Fld := ⟨BIST_EVTEN, 2, 1⟩
abbrev BIST_EVTEN_s7_fail : Fld := ⟨BIST_EVTEN, 3, 1⟩
abbrev BIST_S7_ran : Fld := ⟨BIST_S7, 0, 1⟩
abbrev BIST_S7_pass : Fld := ⟨BIST_S7, 1, 1⟩
abbrev BIST_S7_skipped : Fld := ⟨BIST_S7, 2, 1⟩
abbrev BIST_S7_failed : Fld := ⟨BIST_S7, 8, 8⟩
abbrev BIST_S7_die : Fld := ⟨BIST_S7, 16, 4⟩
abbrev BIST_D_STAT_state (n : Nat) : Fld := ⟨(BIST_D_STAT n), 0, 3⟩
abbrev BIST_D_STAT_fails (n : Nat) : Fld := ⟨(BIST_D_STAT n), 8, 4⟩
abbrev BIST_D_STAT_mem_fails (n : Nat) : Fld := ⟨(BIST_D_STAT n), 16, 16⟩
abbrev BIST_D_MEM_column (n : Nat) : Fld := ⟨(BIST_D_MEM n), 0, 5⟩
abbrev BIST_D_MEM_row (n : Nat) : Fld := ⟨(BIST_D_MEM n), 5, 8⟩
abbrev BIST_D_MEM_kind (n : Nat) : Fld := ⟨(BIST_D_MEM n), 13, 2⟩
abbrev BIST_D_MEM_valid (n : Nat) : Fld := ⟨(BIST_D_MEM n), 15, 1⟩
abbrev BIST_D_ANA_failed (n : Nat) : Fld := ⟨(BIST_D_ANA n), 0, 8⟩
abbrev BIST_D_ANA_ran (n : Nat) : Fld := ⟨(BIST_D_ANA n), 8, 8⟩
abbrev BIST_D_ANA_lane (n : Nat) : Fld := ⟨(BIST_D_ANA n), 16, 7⟩
abbrev BIST_D_TIME_run (n : Nat) : Fld := ⟨(BIST_D_TIME n), 0, 16⟩
abbrev BIST_D_TIME_wait (n : Nat) : Fld := ⟨(BIST_D_TIME n), 16, 16⟩

/-- The consecutive failure count of start step s (`JOURNAL_FAILS`, R444). -/
abbrev JOURNAL_FAILS_count (s : Nat) : Fld := ⟨JOURNAL_FAILS, 2 * s, 2⟩
/-- The release current of device region 4k + j (`JOURNAL_WG_RSTEP_k`, R463). -/
abbrev JOURNAL_WG_RSTEP_step (n j : Nat) : Fld := ⟨JOURNAL_WG_RSTEP n, 8 * j, 8⟩
/-- The divider of output o of fabric PLL n (`CLK_PLLk_DIV`, R532). -/
abbrev CLK_PLL_DIV_div (n o : Nat) : Fld := ⟨CLK_PLL_DIV n, 8 * o, 8⟩
/-- The byte of edge e in `CORUG_EDGE` (R265). -/
abbrev CORUG_EDGE_present (e : Nat) : Fld := ⟨CORUG_EDGE, 8 * e, 1⟩
abbrev CORUG_EDGE_trained (e : Nat) : Fld := ⟨CORUG_EDGE, 8 * e + 1, 1⟩
abbrev CORUG_EDGE_fenced (e : Nat) : Fld := ⟨CORUG_EDGE, 8 * e + 2, 1⟩
abbrev CORUG_EDGE_reset_seen (e : Nat) : Fld := ⟨CORUG_EDGE, 8 * e + 3, 1⟩
abbrev CORUG_EDGE_conservative (e : Nat) : Fld := ⟨CORUG_EDGE, 8 * e + 4, 1⟩
abbrev CORUG_EDGE_loopback (e : Nat) : Fld := ⟨CORUG_EDGE, 8 * e + 5, 1⟩
/-- The state of stream channel k of module m (`CORUG_Mm_CHAN`): k = 0, 1 transmit, 2, 3 receive. -/
abbrev CORUG_M_CHAN_st (m k : Nat) : Fld := ⟨CORUG_M_CHAN m, 2 * k, 2⟩

end Sys2Proof.Machine
end

