-- ==== Sys2Proof/Machine/RegTable.lean ====
section
/-! DEFINITION. The register table: for each register of a page the dies that carry it, its access masks (R10),
its sticky bits and its reset value (R13), from the register summaries and field maps of the chapters. -/

namespace Sys2Proof.Machine

/-- A register, or an array of registers: register (i, j) of the array sits at off + i * s1 + j * s2 of its page.
`dies` is a mask of die indices; `rw`, `w1c`, `w1s`, `rc` are the bits with those access codes (R10);
`sticky` the bits marked (S), `image` the bits marked image and `reset` the reset value (R13). -/
structure RegRow where
  off : Nat
  s1 : Nat
  c1 : Nat
  s2 : Nat
  c2 : Nat
  dies : Nat
  rw : Nat
  w1c : Nat
  w1s : Nat
  rc : Nat
  sticky : Nat
  image : Nat
  reset : Nat
deriving DecidableEq, Repr, Inhabited

/-- Registers of page 0x00. -/
def rows00 : List RegRow :=
  [⟨0, 4, 1, 4, 1, 0x3FF, 0, 0, 0, 0, 0, 0, 0⟩ /- SYS_PART -/,
   ⟨4, 4, 1, 4, 1, 0x3FF, 0, 0, 0, 0, 0, 0, 0⟩ /- SYS_DIE -/,
   ⟨8, 4, 1, 4, 1, 0x3FF, 0, 0, 0, 0, 0, 0, 0⟩ /- SYS_UID_LO -/,
   ⟨0xC, 4, 1, 4, 1, 0x3FF, 0, 0, 0, 0, 0, 0, 0⟩ /- SYS_UID_HI -/,
   ⟨0x10, 4, 1, 4, 1, 1, 0, 0, 0, 0, 0, 0, 0⟩ /- SYS_S4RES -/,
   ⟨0x14, 4, 1, 4, 1, 1, 0, 0, 0, 0, 0xFFFFFF, 0, 0⟩ /- SYS_S4FAULT -/,
   ⟨0x18, 4, 1, 4, 1, 0x3FF, 0xFFFFFFFF, 0, 0, 0, 0, 0, 0⟩ /- SYS_SCRATCH -/]

/-- Registers of page 0x01. -/
def rows01 : List RegRow :=
  [⟨0, 4, 1, 4, 1, 1, 0, 0, 0, 0, 0, 0, 0x800⟩ /- TICK_P -/,
   ⟨4, 4, 1, 4, 1, 1, 0, 0, 0, 0, 0, 0, 0x100⟩ /- TICK_Q -/,
   ⟨8, 4, 1, 4, 1, 1, 0x1FFFFFF, 0, 0, 0, 0, 0, 0x800⟩ /- TICK_NEXT_P -/,
   ⟨0xC, 4, 1, 4, 1, 1, 0x1FFFFFF, 0, 0, 0, 0, 0, 0x100⟩ /- TICK_NEXT_Q -/,
   ⟨0x10, 4, 1, 4, 1, 1, 0xFFFFFFFF, 0, 0, 0, 0, 0, 0⟩ /- TICK_AT_LO -/,
   ⟨0x14, 4, 1, 4, 1, 1, 0xFFFFFFFF, 0, 0, 0, 0, 0, 0⟩ /- TICK_AT_HI -/,
   ⟨0x18, 4, 1, 4, 1, 1, 0, 0, 0, 0, 0, 0, 0⟩ /- TICK_ARM -/,
   ⟨0x1C, 4, 1, 4, 1, 1, 0, 0, 0, 0, 0, 0, 0⟩ /- TICK_ARMSTAT -/,
   ⟨0x20, 4, 1, 4, 1, 1, 0, 0, 0, 0, 0, 0, 0⟩ /- TICK_ROLE -/,
   ⟨0x40, 4, 1, 4, 1, 0x3FF, 0, 0, 0, 0, 0, 0, 0⟩ /- TICK_NUM_LO -/,
   ⟨0x44, 4, 1, 4, 1, 0x3FF, 0, 0, 0, 0, 0, 0, 0⟩ /- TICK_NUM_HI -/,
   ⟨0x48, 4, 1, 4, 1, 0x3FF, 0, 0, 0, 0, 0, 0, 0⟩ /- TICK_BND_LO -/,
   ⟨0x4C, 4, 1, 4, 1, 0x3FF, 0, 0, 0, 0, 0, 0, 0⟩ /- TICK_BND_HI -/,
   ⟨0x50, 4, 1, 4, 1, 0x3FF, 0, 0, 0, 0, 0, 0, 0⟩ /- TICK_NOW_LO -/,
   ⟨0x54, 4, 1, 4, 1, 0x3FF, 0, 0, 0, 0, 0, 0, 0⟩ /- TICK_NOW_HI -/,
   ⟨0x58, 4, 1, 4, 1, 0x3FF, 0, 0, 0, 0, 0, 0, 0⟩ /- TICK_STATUS -/,
   ⟨0x5C, 4, 1, 4, 1, 0x3FF, 0, 0xFF, 0, 0, 0, 0, 0⟩ /- TICK_EVT -/,
   ⟨0x60, 4, 1, 4, 1, 0x3FF, 0xFF, 0, 0, 0, 0, 0, 0⟩ /- TICK_EVTEN -/,
   ⟨0x64, 4, 1, 4, 1, 0x3FF, 0, 0, 0, 0xFFFFFFFF, 0, 0, 0⟩ /- TICK_OVR_CNT -/,
   ⟨0x68, 4, 1, 4, 1, 0x3FF, 0, 0, 0, 0, 0, 0, 0⟩ /- TICK_OVR_SRC -/,
   ⟨0x6C, 4, 1, 4, 1, 0x3FF, 0, 0, 0, 0, 0, 0, 0⟩ /- TICK_OVR_TICK_LO -/,
   ⟨0x70, 4, 1, 4, 1, 0x3FF, 0, 0, 0, 0, 0, 0, 0⟩ /- TICK_OVR_TICK_HI -/,
   ⟨0x74, 4, 1, 4, 1, 0x3FF, 0, 0, 0, 0xFFFFFFFF, 0, 0, 0⟩ /- TICK_USE_MAX -/,
   ⟨0x78, 4, 1, 4, 1, 0x3FF, 0, 0, 0, 0, 0, 0, 0⟩ /- TICK_RING -/,
   ⟨0x7C, 4, 1, 4, 1, 0x3FF, 0, 0, 0, 0xFFFFFFFF, 0, 0, 0⟩ /- TICK_RING_ERR -/]

/-- Registers of page 0x02. -/
def rows02 : List RegRow :=
  [⟨0, 4, 1, 4, 1, 1, 0, 0, 0, 0, 0, 0, 0⟩ /- CLK_REF -/,
   ⟨4, 4, 1, 4, 1, 0x3FF, 0, 0xF, 0, 0, 0, 0, 0⟩ /- CLK_EVT -/,
   ⟨8, 4, 1, 4, 1, 0x3FF, 0xF, 0, 0, 0, 0, 0, 0⟩ /- CLK_EVTEN -/,
   ⟨0xC, 4, 1, 4, 1, 0x3FF, 0x3FFFFFFF, 0, 0, 0, 0, 0, 0⟩ /- CLK_GATE -/,
   ⟨0x10, 4, 1, 4, 1, 0x3FF, 0, 0, 0, 0, 0, 0, 0⟩ /- CLK_GATE_STAT -/,
   ⟨0x14, 4, 1, 4, 1, 0x3FF, 0, 0, 0, 0, 0, 0, 0⟩ /- CLK_GATE_FAIL -/,
   ⟨0x20, 4, 8, 4, 1, 0x3FC, 0, 0, 0, 0, 0, 0x803FFFFF, 0⟩ /- CLK_PLL_CFG -/,
   ⟨0x40, 4, 8, 4, 1, 0x3FC, 0, 0, 0, 0, 0, 0xFFFFFFFF, 0⟩ /- CLK_PLL_DIV -/,
   ⟨0x60, 4, 1, 4, 1, 0x3FC, 0, 0, 0, 0, 0, 0, 0⟩ /- CLK_PLL_LOCK -/,
   ⟨0x64, 4, 1, 4, 1, 0x3FC, 0, 0, 0, 0, 0, 0, 8⟩ /- CLK_THROTTLE -/,
   ⟨0x100, 0x10, 16, 4, 1, 1, 0xFFFFFF, 0, 0, 0, 0, 0, 0⟩ /- CLK_FM_SEL -/,
   ⟨0x104, 0x10, 16, 4, 1, 1, 0xFFFFFF, 0, 0, 0, 0, 0, 0⟩ /- CLK_FM_N -/,
   ⟨0x108, 0x10, 16, 4, 1, 1, 0, 0, 0, 0, 0, 0, 0⟩ /- CLK_FM_RES -/,
   ⟨0x10C, 0x10, 16, 4, 1, 1, 0, 0, 0, 0, 0, 0, 0⟩ /- CLK_FM_STAT -/]

/-- Registers of page 0x03. -/
def rows03 : List RegRow :=
  [⟨0, 4, 1, 4, 1, 0x3FF, 0, 0xFF00, 0, 0, 0, 0, 0⟩ /- PWR_VMON -/,
   ⟨4, 4, 1, 4, 1, 0x3FF, 0, 0x3F, 0, 0, 0, 0, 0⟩ /- PWR_EVT -/,
   ⟨8, 4, 1, 4, 1, 0x3FF, 0x3F, 0, 0, 0, 0, 0, 0⟩ /- PWR_EVTEN -/,
   ⟨0xC, 4, 1, 4, 1, 0x3FC, 0x7F, 0, 0, 0, 0, 0, 0x46⟩ /- PWR_CAP -/,
   ⟨0x10, 4, 1, 4, 1, 0x3FC, 0, 0, 0, 0, 0, 0, 0⟩ /- PWR_CUR -/,
   ⟨0x14, 4, 1, 4, 1, 0x3FC, 0, 0, 0, 0xFFF, 0, 0, 0⟩ /- PWR_CUR_MAX -/,
   ⟨0x20, 4, 1, 4, 1, 1, 0x3FF, 0, 0, 0, 0, 0, 0x1E0⟩ /- PWR_PKG_CAP -/,
   ⟨0x24, 4, 1, 4, 1, 1, 0, 0, 0, 0, 0, 0, 0⟩ /- PWR_PKG_NOW -/,
   ⟨0x30, 4, 1, 4, 1, 1, 0, 1, 0, 0, 0xFFFF000F, 0, 0⟩ /- PWR_SAFE -/,
   ⟨0x40, 4, 1, 4, 1, 0x3FF, 0xFFFF, 0, 0, 0, 0, 0, 0x695F⟩ /- THERM_CFG -/,
   ⟨0x44, 4, 4, 4, 1, 0x3FF, 0, 0, 0, 0, 0, 0, 0⟩ /- THERM_S -/,
   ⟨0x54, 4, 1, 4, 1, 0x3FF, 0, 0, 0, 0x1FFF, 0, 0, 0⟩ /- THERM_MAX -/,
   ⟨0x58, 4, 1, 4, 1, 1, 0, 0, 0, 0, 0xFFF007F, 0, 0⟩ /- THERM_TRIPLOG -/]

/-- Registers of page 0x04. -/
def rows04 : List RegRow :=
  [⟨0, 4, 1, 4, 1, 3, 0, 0xFF, 0, 0, 0, 0, 0⟩ /- GPIO_EVT -/,
   ⟨4, 4, 1, 4, 1, 3, 0xFF, 0, 0, 0, 0, 0, 0⟩ /- GPIO_EVTEN -/,
   ⟨8, 4, 1, 4, 1, 3, 0, 0xFFFFFFFF, 0, 0, 0, 0, 0⟩ /- GPIO_CONF_LO -/,
   ⟨0xC, 4, 1, 4, 1, 1, 0, 0xFFFFFFFF, 0, 0, 0, 0, 0⟩ /- GPIO_CONF_HI -/,
   ⟨0x10, 4, 1, 4, 1, 3, 0, 0, 0, 0, 0, 0, 0⟩ /- GPIO_BANK -/,
   ⟨0x14, 4, 1, 4, 1, 3, 1, 0, 0, 0, 0, 0, 0⟩ /- GPIO_ADC_CTRL -/,
   ⟨0x18, 4, 1, 4, 1, 1, 0, 0, 0, 0, 0, 0, 0⟩ /- GPIO_TRIG_STAT -/,
   ⟨0x1C, 4, 1, 4, 1, 1, 0, 0xFF, 0, 0, 0, 0, 0⟩ /- GPIO_TRIG_CONF -/,
   ⟨0x100, 0x10, 8, 4, 1, 3, 0x3FFFF, 0, 0, 0, 0, 0, 0⟩ /- GPIO_TMR_CFG -/,
   ⟨0x104, 0x10, 8, 4, 1, 3, 0, 0, 0, 0, 0, 0, 0⟩ /- GPIO_TMR_CAP_LO -/,
   ⟨0x108, 0x10, 8, 4, 1, 3, 0, 0, 0, 0, 0, 0, 0⟩ /- GPIO_TMR_CAP_HI -/,
   ⟨0x200, 0x20, 8, 4, 1, 1, 0x77, 0, 0, 0, 0, 0, 0⟩ /- GPIO_TRIG_OWN -/,
   ⟨0x204, 0x20, 8, 4, 1, 1, 0x3FFFF, 0, 0, 0, 0, 0, 0⟩ /- GPIO_TRIG_CTRL -/,
   ⟨0x208, 0x20, 8, 4, 1, 1, 0, 0, 0, 0, 0, 0, 0⟩ /- GPIO_TRIG_TS_LO -/,
   ⟨0x20C, 0x20, 8, 4, 1, 1, 0, 0, 0, 0, 0, 0, 0⟩ /- GPIO_TRIG_TS_HI -/,
   ⟨0x210, 0x20, 8, 4, 1, 1, 0, 0, 0, 0, 0, 0, 0⟩ /- GPIO_TRIG_TS_FINE -/,
   ⟨0x400, 8, 64, 4, 1, 1, 0x7FF, 0, 0, 0, 0, 0, 0⟩ /- GPIO_P_CFG -/,
   ⟨0x400, 8, 32, 4, 1, 2, 0x7FF, 0, 0, 0, 0, 0, 0⟩ /- GPIO_P_CFG -/,
   ⟨0x404, 8, 64, 4, 1, 1, 0, 0, 0, 0, 0, 0, 0⟩ /- GPIO_P_ADC -/,
   ⟨0x404, 8, 32, 4, 1, 2, 0, 0, 0, 0, 0, 0, 0⟩ /- GPIO_P_ADC -/]

/-- Registers of page 0x05. -/
def rows05 : List RegRow :=
  [⟨0, 4, 1, 4, 1, 1, 0, 0, 0, 0, 0, 0, 0⟩ /- NVM_STAT -/,
   ⟨4, 4, 1, 4, 1, 1, 0, 7, 0, 0, 0, 0, 0⟩ /- NVM_EVT -/,
   ⟨8, 4, 1, 4, 1, 1, 7, 0, 0, 0, 0, 0, 0⟩ /- NVM_EVTEN -/,
   ⟨0xC, 4, 1, 4, 1, 1, 0, 0, 0, 0, 0, 0, 0⟩ /- NVM_CMD -/,
   ⟨0x10, 4, 1, 4, 1, 1, 0x3FFFFFFF, 0, 0, 0, 0, 0, 0⟩ /- NVM_ADDR -/,
   ⟨0x14, 4, 1, 4, 1, 1, 0x1FFFF, 0, 0, 0, 0, 0, 0⟩ /- NVM_LEN -/,
   ⟨0x18, 4, 1, 4, 1, 1, 0x3FFFF, 0, 0, 0, 0, 0, 0⟩ /- NVM_BUF -/,
   ⟨0x1C, 4, 1, 4, 1, 1, 0, 0, 0, 0, 0, 0, 0⟩ /- NVM_CMDSTAT -/,
   ⟨0x20, 4, 1, 4, 1, 1, 0xFF, 0, 0, 0, 0, 0, 0x32⟩ /- NVM_CFG -/,
   ⟨0x24, 4, 1, 4, 1, 1, 0, 0, 0, 0, 0, 0, 0⟩ /- NVM_SIZE -/]

/-- Registers of page 0x06. -/
def rows06 : List RegRow :=
  [⟨0, 4, 1, 4, 1, 1, 0, 0, 0, 0, 0, 0, 0⟩ /- CFG_STAT -/,
   ⟨4, 4, 1, 4, 1, 1, 0, 0x7F, 0, 0, 0, 0, 0⟩ /- CFG_EVT -/,
   ⟨8, 4, 1, 4, 1, 1, 0x7F, 0, 0, 0, 0, 0, 0⟩ /- CFG_EVTEN -/,
   ⟨0xC, 4, 1, 4, 1, 1, 0, 0, 0, 0, 0, 0, 0x2710⟩ /- CFG_PDEADLINE -/,
   ⟨0x10, 4, 1, 4, 1, 1, 0, 0, 0, 0, 0, 0, 0⟩ /- CFG_PREMAIN -/,
   ⟨0x14, 4, 6, 4, 1, 1, 0, 0, 0, 0, 0, 0, 0⟩ /- CFG_LOADSET -/,
   ⟨0x2C, 4, 1, 4, 1, 1, 0, 0, 0, 0, 0, 0, 0⟩ /- CFG_PROGRESS -/,
   ⟨0x30, 4, 1, 4, 1, 1, 0, 0, 0, 0, 0, 0, 0⟩ /- CFG_TOTAL -/,
   ⟨0x34, 4, 1, 4, 1, 1, 0, 0, 0, 0, 0, 0, 0⟩ /- CFG_DESIGN -/,
   ⟨0x38, 4, 1, 4, 1, 1, 0, 0, 0, 0, 0, 0, 0⟩ /- CFG_STG_CTRL -/,
   ⟨0x3C, 4, 1, 4, 1, 1, 0, 0, 0, 0, 0, 0, 6⟩ /- CFG_STG_STAT -/,
   ⟨0x40, 4, 1, 4, 1, 1, 0xFFFF, 0, 0, 0, 0, 0, 0x3E8⟩ /- CFG_STG_TIMEOUT -/,
   ⟨0x100, 4, 1, 4, 1, 0x3FC, 0, 0, 0, 0, 0, 0, 0x3E⟩ /- CFG_ENG_STAT -/,
   ⟨0x104, 4, 1, 4, 1, 0x3FC, 0, 0, 0, 0xFFFFFFFF, 0, 0, 0⟩ /- CFG_ENG_FRAMES -/,
   ⟨0x108, 4, 1, 4, 1, 0x3FC, 0, 0, 0, 0xFFFFFFFF, 0, 0, 0⟩ /- CFG_ENG_FERR -/,
   ⟨0x8000, 4, 4096, 4, 1, 1, 0, 0, 0, 0, 0, 0, 0⟩ /- CFG_STG_H0 -/,
   ⟨0xC000, 4, 4096, 4, 1, 1, 0, 0, 0, 0, 0, 0, 0⟩ /- CFG_STG_H1 -/]

/-- Registers of page 0x07. -/
def rows07 : List RegRow :=
  [⟨0, 4, 1, 4, 1, 1, 0, 0, 0, 0, 0, 0, 0⟩ /- JOURNAL_STAT -/,
   ⟨4, 4, 1, 4, 1, 1, 0, 0x7F, 0, 0, 0, 0, 0⟩ /- JOURNAL_EVT -/,
   ⟨8, 4, 1, 4, 1, 1, 0x7F, 0, 0, 0, 0, 0, 0⟩ /- JOURNAL_EVTEN -/,
   ⟨0xC, 4, 1, 4, 1, 1, 0, 0, 0, 0, 0, 0, 0⟩ /- JOURNAL_PLAN -/,
   ⟨0x10, 4, 1, 4, 1, 1, 0, 0, 0, 0, 0, 0, 0⟩ /- JOURNAL_FAILS -/,
   ⟨0x14, 4, 1, 4, 1, 1, 0, 0, 0, 0, 0, 0, 0⟩ /- JOURNAL_STARTS -/,
   ⟨0x18, 4, 1, 4, 1, 1, 0, 0, 0, 0, 0, 0, 0⟩ /- JOURNAL_SECT -/,
   ⟨0x1C, 4, 1, 4, 1, 1, 0xFFFF, 0, 0, 0, 0, 0, 0⟩ /- JOURNAL_RETRY -/,
   ⟨0x20, 4, 1, 4, 1, 1, 0xF, 0, 0, 0, 0, 0, 0⟩ /- JOURNAL_RIDX -/,
   ⟨0x24, 4, 8, 4, 1, 1, 0, 0, 0, 0, 0, 0, 0⟩ /- JOURNAL_RW -/,
   ⟨0x44, 4, 1, 4, 1, 1, 0, 0, 0, 0, 0x1FF, 0, 0⟩ /- JOURNAL_STICKY -/,
   ⟨0x48, 4, 1, 4, 1, 1, 0, 0, 0, 0, 0, 0, 0⟩ /- JOURNAL_REL_LO -/,
   ⟨0x4C, 4, 1, 4, 1, 1, 0, 0, 0, 0, 0, 0, 0⟩ /- JOURNAL_REL_HI -/,
   ⟨0x80, 4, 1, 4, 1, 1, 0x3F, 0, 0, 0, 0, 0, 0x14⟩ /- JOURNAL_WG_LIMIT -/,
   ⟨0x84, 4, 1, 4, 1, 1, 0, 0, 0, 0xFFFFFFFF, 0, 0, 0⟩ /- JOURNAL_WG_DELAY -/,
   ⟨0x88, 4, 1, 4, 1, 1, 0, 0, 0, 0xFFFFFFFF, 0, 0, 0⟩ /- JOURNAL_WG_CNT -/,
   ⟨0x8C, 4, 1, 4, 1, 1, 0, 0, 0, 0, 0, 0, 0⟩ /- JOURNAL_WG_QUEUED -/,
   ⟨0x100, 4, 48, 4, 1, 1, 0xFFFFFFFF, 0, 0, 0, 0, 0, 0x8080808⟩ /- JOURNAL_WG_RSTEP -/]

/-- Registers of page 0x08. -/
def rows08 : List RegRow :=
  [⟨0, 4, 1, 4, 1, 1, 0, 0, 0, 0, 0, 0, 0⟩ /- CMD_STAT -/,
   ⟨4, 4, 1, 4, 1, 1, 0, 0x3F, 0, 0, 0, 0, 0⟩ /- CMD_EVT -/,
   ⟨8, 4, 1, 4, 1, 1, 0x3F, 0, 0, 0, 0, 0, 0⟩ /- CMD_EVTEN -/,
   ⟨0xC, 4, 1, 4, 1, 1, 0, 0, 0, 0, 0, 0, 0⟩ /- CMD_LAST_LO -/,
   ⟨0x10, 4, 1, 4, 1, 1, 0, 0, 0, 0, 0, 0, 0⟩ /- CMD_LAST_HI -/,
   ⟨0x14, 4, 1, 4, 1, 1, 0, 0, 0, 0, 0, 0, 0⟩ /- CMD_CKPT_LO -/,
   ⟨0x18, 4, 1, 4, 1, 1, 0, 0, 0, 0, 0, 0, 0⟩ /- CMD_CKPT_HI -/,
   ⟨0x1C, 4, 1, 4, 1, 1, 0, 0, 0, 0xFFFFFFFF, 0, 0, 0⟩ /- CMD_TAGFAIL -/,
   ⟨0x20, 4, 1, 4, 1, 1, 0, 0, 0, 0xFFFFFFFF, 0, 0, 0⟩ /- CMD_ACCEPT -/,
   ⟨0x24, 4, 1, 4, 1, 1, 0xF, 0, 0, 0, 0, 0, 0⟩ /- CMD_RES_IDX -/,
   ⟨0x28, 4, 4, 4, 1, 1, 0, 0, 0, 0, 0, 0, 0⟩ /- CMD_RES_W -/,
   ⟨0x40, 4, 1, 4, 1, 1, 0, 0, 0, 0, 0, 0, 0⟩ /- CMD_HSUBMIT -/,
   ⟨0x44, 4, 1, 4, 1, 1, 0, 0, 0, 0, 0, 0, 0⟩ /- CMD_HSTAT -/,
   ⟨0x80, 4, 24, 4, 1, 1, 0, 0, 0, 0, 0, 0, 0⟩ /- CMD_HBUF -/]

/-- Registers of page 0x09. -/
def rows09 : List RegRow :=
  [⟨0, 4, 1, 4, 1, 1, 0, 0, 0, 0, 0, 0, 0⟩ /- KEYS_LC -/,
   ⟨4, 4, 1, 4, 1, 1, 0, 0, 0, 0, 0, 0, 0⟩ /- KEYS_STAT -/,
   ⟨8, 4, 1, 4, 1, 1, 0, 0x1F, 0, 0, 0, 0, 0⟩ /- KEYS_EVT -/,
   ⟨0xC, 4, 1, 4, 1, 1, 0x1F, 0, 0, 0, 0, 0, 0⟩ /- KEYS_EVTEN -/,
   ⟨0x10, 4, 1, 4, 1, 1, 0, 0, 0, 0, 0, 0, 0⟩ /- KEYS_FILLED_LO -/,
   ⟨0x14, 4, 1, 4, 1, 1, 0, 0, 0, 0, 0, 0, 0⟩ /- KEYS_FILLED_HI -/,
   ⟨0x18, 4, 1, 4, 1, 1, 0, 0, 0, 0, 0, 0, 0⟩ /- KEYS_KCV_CMD -/,
   ⟨0x1C, 4, 1, 4, 1, 1, 0, 0, 0, 0, 0, 0, 0⟩ /- KEYS_KCV_BC -/,
   ⟨0x20, 4, 1, 4, 1, 1, 0, 0, 0, 0, 0xFFFFFFFF, 0, 0⟩ /- KEYS_CKPT_LO -/,
   ⟨0x24, 4, 1, 4, 1, 1, 0, 0, 0, 0, 0x1FFFF, 0, 0⟩ /- KEYS_CKPT_HI -/,
   ⟨0x40, 4, 1, 4, 1, 1, 0xF03, 0, 0, 0, 0, 0, 0⟩ /- KEYS_PROV_SEL -/,
   ⟨0x44, 4, 1, 4, 1, 1, 0, 0, 0, 0, 0, 0, 0⟩ /- KEYS_PROV_DATA -/,
   ⟨0x48, 4, 1, 4, 1, 1, 0, 0, 0, 0, 0, 0, 0⟩ /- KEYS_PROV_CMD -/,
   ⟨0x4C, 4, 1, 4, 1, 1, 0, 0, 0, 0, 0, 0, 0⟩ /- KEYS_PROV_STAT -/]

/-- Registers of page 0x0A. -/
def rows0A_0 : List RegRow :=
  [⟨0, 4, 1, 4, 1, 1, 0, 0, 0, 0, 0, 0, 0⟩ /- DBG_OWN -/,
   ⟨4, 4, 1, 4, 1, 1, 0, 0x1F, 0, 0, 0, 0, 0⟩ /- DBG_EVT -/,
   ⟨8, 4, 1, 4, 1, 1, 0x1F, 0, 0, 0, 0, 0, 0⟩ /- DBG_EVTEN -/,
   ⟨0xC, 4, 1, 4, 1, 1, 0, 0, 0, 0, 0, 0, 0⟩ /- DBG_RIGHTS -/,
   ⟨0x10, 4, 1, 4, 1, 1, 0xFFFFFFFC, 0, 0, 0, 0, 0, 0⟩ /- DBG_BM_ADDR_LO -/,
   ⟨0x14, 4, 1, 4, 1, 1, 0xFFFF, 0, 0, 0, 0, 0, 0⟩ /- DBG_BM_ADDR_HI -/,
   ⟨0x18, 4, 1, 4, 1, 1, 0xFFFFFFFF, 0, 0, 0, 0, 0, 0⟩ /- DBG_BM_DATA -/,
   ⟨0x1C, 4, 1, 4, 1, 1, 0, 0, 0, 0, 0, 0, 0⟩ /- DBG_BM_CMD -/,
   ⟨0x20, 4, 1, 4, 1, 1, 0, 0, 0, 0, 0, 0, 0⟩ /- DBG_BM_STAT -/,
   ⟨0x24, 4, 1, 4, 1, 1, 0, 0, 0, 0, 0, 0, 0⟩ /- DBG_GEXP_LO -/,
   ⟨0x28, 4, 1, 4, 1, 1, 0, 0, 0, 0, 0, 0, 0⟩ /- DBG_GEXP_HI -/,
   ⟨0x100, 0x40, 3, 4, 1, 1, 7, 0, 0, 0, 0, 0, 0⟩ /- DBG_C_CTRL -/,
   ⟨0x140, 0x40, 2, 4, 1, 2, 7, 0, 0, 0, 0, 0, 0⟩ /- DBG_C_CTRL -/,
   ⟨0x100, 0x40, 1, 4, 1, 0x3FC, 7, 0, 0, 0, 0, 0, 0⟩ /- DBG_C_CTRL -/,
   ⟨0x104, 0x40, 3, 4, 1, 1, 0, 0, 0, 0, 0, 0, 0⟩ /- DBG_C_CMD -/,
   ⟨0x144, 0x40, 2, 4, 1, 2, 0, 0, 0, 0, 0, 0, 0⟩ /- DBG_C_CMD -/,
   ⟨0x104, 0x40, 1, 4, 1, 0x3FC, 0, 0, 0, 0, 0, 0, 0⟩ /- DBG_C_CMD -/,
   ⟨0x108, 0x40, 3, 4, 1, 1, 0, 0, 0, 0, 0, 0, 0⟩ /- DBG_C_STAT -/,
   ⟨0x148, 0x40, 2, 4, 1, 2, 0, 0, 0, 0, 0, 0, 0⟩ /- DBG_C_STAT -/,
   ⟨0x108, 0x40, 1, 4, 1, 0x3FC, 0, 0, 0, 0, 0, 0, 0⟩ /- DBG_C_STAT -/,
   ⟨0x10C, 0x40, 3, 4, 1, 1, 0xFFFFFFFF, 0, 0, 0, 0, 0, 0⟩ /- DBG_C_DPC -/,
   ⟨0x14C, 0x40, 2, 4, 1, 2, 0xFFFFFFFF, 0, 0, 0, 0, 0, 0⟩ /- DBG_C_DPC -/,
   ⟨0x10C, 0x40, 1, 4, 1, 0x3FC, 0xFFFFFFFF, 0, 0, 0, 0, 0, 0⟩ /- DBG_C_DPC -/,
   ⟨0x110, 0x40, 3, 4, 1, 1, 0, 0, 0, 0, 0, 0, 0⟩ /- DBG_C_IFEED -/,
   ⟨0x150, 0x40, 2, 4, 1, 2, 0, 0, 0, 0, 0, 0, 0⟩ /- DBG_C_IFEED -/,
   ⟨0x110, 0x40, 1, 4, 1, 0x3FC, 0, 0, 0, 0, 0, 0, 0⟩ /- DBG_C_IFEED -/,
   ⟨0x114, 0x40, 3, 4, 1, 1, 0xFFFFFFFF, 0, 0, 0, 0, 0, 0⟩ /- DBG_C_DATA -/,
   ⟨0x154, 0x40, 2, 4, 1, 2, 0xFFFFFFFF, 0, 0, 0, 0, 0, 0⟩ /- DBG_C_DATA -/,
   ⟨0x114, 0x40, 1, 4, 1, 0x3FC, 0xFFFFFFFF, 0, 0, 0, 0, 0, 0⟩ /- DBG_C_DATA -/,
   ⟨0x118, 0x40, 3, 4, 1, 1, 0, 0, 0, 0, 0, 0, 0⟩ /- DBG_C_DTX -/,
   ⟨0x158, 0x40, 2, 4, 1, 2, 0, 0, 0, 0, 0, 0, 0⟩ /- DBG_C_DTX -/,
   ⟨0x118, 0x40, 1, 4, 1, 0x3FC, 0, 0, 0, 0, 0, 0, 0⟩ /- DBG_C_DTX -/,
   ⟨0x11C, 0x40, 3, 4, 1, 1, 0xFFFFFFFF, 0, 0, 0, 0, 0, 0⟩ /- DBG_C_DRX -/,
   ⟨0x15C, 0x40, 2, 4, 1, 2, 0xFFFFFFFF, 0, 0, 0, 0, 0, 0⟩ /- DBG_C_DRX -/,
   ⟨0x11C, 0x40, 1, 4, 1, 0x3FC, 0xFFFFFFFF, 0, 0, 0, 0, 0, 0⟩ /- DBG_C_DRX -/,
   ⟨0x120, 0x40, 3, 4, 1, 1, 0, 0xD, 0, 0, 0, 0, 0⟩ /- DBG_C_TSTAT -/,
   ⟨0x160, 0x40, 2, 4, 1, 2, 0, 0xD, 0, 0, 0, 0, 0⟩ /- DBG_C_TSTAT -/,
   ⟨0x120, 0x40, 1, 4, 1, 0x3FC, 0, 0xD, 0, 0, 0, 0, 0⟩ /- DBG_C_TSTAT -/,
   ⟨0x124, 0x40, 3, 4, 1, 1, 0xFFFFC, 0, 0, 0, 0, 0, 0⟩ /- DBG_C_MADDR -/,
   ⟨0x164, 0x40, 2, 4, 1, 2, 0xFFFFC, 0, 0, 0, 0, 0, 0⟩ /- DBG_C_MADDR -/]

/-- Registers of page 0x0A. -/
def rows0A_1 : List RegRow :=
  [⟨0x124, 0x40, 1, 4, 1, 0x3FC, 0xFFFFC, 0, 0, 0, 0, 0, 0⟩ /- DBG_C_MADDR -/,
   ⟨0x128, 0x40, 3, 4, 1, 1, 0xFFFFFFFF, 0, 0, 0, 0, 0, 0⟩ /- DBG_C_MDATA -/,
   ⟨0x168, 0x40, 2, 4, 1, 2, 0xFFFFFFFF, 0, 0, 0, 0, 0, 0⟩ /- DBG_C_MDATA -/,
   ⟨0x128, 0x40, 1, 4, 1, 0x3FC, 0xFFFFFFFF, 0, 0, 0, 0, 0, 0⟩ /- DBG_C_MDATA -/,
   ⟨0x400, 8, 16, 4, 1, 1, 0x8003FFFC, 0, 0, 0, 0, 0, 0⟩ /- DBG_PATCH_ADDR -/,
   ⟨0x404, 8, 16, 4, 1, 1, 0xFFFFFFFF, 0, 0, 0, 0, 0, 0⟩ /- DBG_PATCH_DATA -/]

/-- Registers of page 0x0B. -/
def rows0B : List RegRow :=
  [⟨0, 4, 1, 4, 1, 1, 0x73FF, 0, 0, 0, 0, 0, 0⟩ /- BIST_REQ -/,
   ⟨4, 4, 1, 4, 1, 1, 0, 0, 0, 0, 0, 0, 0⟩ /- BIST_CTRL -/,
   ⟨8, 4, 1, 4, 1, 1, 0xFF, 0, 0, 0, 0, 0, 0x78⟩ /- BIST_CFG -/,
   ⟨0xC, 4, 1, 4, 1, 1, 0, 0, 0, 0, 0, 0, 0⟩ /- BIST_STAT -/,
   ⟨0x10, 4, 1, 4, 1, 1, 0, 0xF, 0, 0, 0, 0, 0⟩ /- BIST_EVT -/,
   ⟨0x14, 4, 1, 4, 1, 1, 0xF, 0, 0, 0, 0, 0, 0⟩ /- BIST_EVTEN -/,
   ⟨0x18, 4, 1, 4, 1, 1, 0, 0, 0, 0, 0, 0, 0⟩ /- BIST_S7 -/,
   ⟨0x100, 0x10, 10, 4, 1, 1, 0, 0, 0, 0, 0, 0, 0⟩ /- BIST_D_STAT -/,
   ⟨0x104, 0x10, 10, 4, 1, 1, 0, 0, 0, 0, 0, 0, 0⟩ /- BIST_D_MEM -/,
   ⟨0x108, 0x10, 10, 4, 1, 1, 0, 0, 0, 0, 0, 0, 0⟩ /- BIST_D_ANA -/,
   ⟨0x10C, 0x10, 10, 4, 1, 1, 0, 0, 0, 0, 0, 0, 0⟩ /- BIST_D_TIME -/]

/-- Registers of page 0x10. -/
def rows10 : List RegRow :=
  [⟨0, 4, 1, 4, 1, 3, 0, 0, 0, 0, 0, 0, 0⟩ /- DDR_STAT -/,
   ⟨4, 4, 1, 4, 1, 3, 0, 0x7FF, 0, 0, 0, 0, 0⟩ /- DDR_EVT -/,
   ⟨8, 4, 1, 4, 1, 3, 0x7FF, 0, 0, 0, 0, 0, 0⟩ /- DDR_EVTEN -/,
   ⟨0xC, 4, 1, 4, 1, 3, 0, 0, 0, 0, 0, 0, 0⟩ /- DDR_CMD -/,
   ⟨0x10, 4, 1, 4, 1, 3, 0, 0, 0, 0, 0, 0, 0⟩ /- DDR_CMDSTAT -/,
   ⟨0x14, 4, 1, 4, 1, 3, 0, 0, 0, 0, 0, 0, 0xFFFF⟩ /- DDR_TEMP -/,
   ⟨0x18, 4, 1, 4, 1, 3, 0, 0, 0, 0x3FBFFF, 0, 0, 0⟩ /- DDR_REC_LO -/,
   ⟨0x1C, 4, 1, 4, 1, 3, 0, 0, 0, 0, 0, 0, 0⟩ /- DDR_REC_ROW -/,
   ⟨0x20, 4, 1, 4, 1, 3, 0, 0, 0, 0, 0, 0, 0⟩ /- DDR_REC_TICK -/,
   ⟨0x24, 4, 1, 4, 1, 3, 0, 0, 0, 0, 0, 0, 0⟩ /- DDR_FIFO_STAT -/,
   ⟨0x28, 4, 1, 4, 1, 3, 0, 0, 0, 0xFFFFFFFF, 0, 0, 0⟩ /- DDR_CE_CNT -/,
   ⟨0x2C, 4, 1, 4, 1, 3, 0, 0, 0, 0xFFFFFFFF, 0, 0, 0⟩ /- DDR_UE_CNT -/,
   ⟨0x30, 4, 1, 4, 1, 3, 0, 0, 0, 0, 0, 0, 0⟩ /- DDR_PPR_AVAIL -/,
   ⟨0x34, 4, 1, 4, 1, 3, 0, 0, 0, 0xFFFFFFFF, 0, 0, 0⟩ /- DDR_SVC_MAX -/,
   ⟨0x800, 4, 1, 4, 1, 1, 1, 0, 0, 0, 0, 0, 0⟩ /- DDR_REF_CTRL -/,
   ⟨0x804, 4, 1, 4, 1, 1, 0, 0, 0, 0, 0, 0, 0⟩ /- DDR_REF_STAT -/,
   ⟨0x808, 4, 1, 4, 1, 1, 0, 0, 0, 0xFFFFFFFF, 0, 0, 0⟩ /- DDR_REF_CNT -/,
   ⟨0x810, 0x10, 8, 4, 1, 1, 0x8FFF07FF, 0, 0, 0, 0, 0, 0⟩ /- DDR_SET_A -/,
   ⟨0x814, 0x10, 8, 4, 1, 1, 0x7FF01F3, 0, 0, 0, 0, 0, 0⟩ /- DDR_SET_B -/,
   ⟨0x818, 0x10, 8, 4, 1, 1, 0xFFFFFF, 0, 0, 0, 0, 0, 0⟩ /- DDR_SET_C -/,
   ⟨0x890, 4, 1, 4, 1, 1, 0, 0, 0, 0, 0, 0, 0⟩ /- DDR_SET_COMMIT -/,
   ⟨0x894, 4, 1, 4, 1, 1, 0, 0, 0, 0, 0, 0, 0⟩ /- DDR_SET_STAT -/]

/-- Registers of page 0x18. -/
def rows18 : List RegRow :=
  [⟨0, 4, 1, 4, 1, 3, 0, 0, 0, 0, 0, 0, 0⟩ /- MIU_STAT -/,
   ⟨4, 4, 1, 4, 1, 3, 0, 0x7F, 0, 0, 0, 0, 0⟩ /- MIU_EVT -/,
   ⟨8, 4, 1, 4, 1, 3, 0x7F, 0, 0, 0, 0, 0, 0⟩ /- MIU_EVTEN -/,
   ⟨0xC, 4, 1, 4, 1, 3, 0, 0, 0, 0x3FFFF, 0, 0, 0⟩ /- MIU_REC_LO -/,
   ⟨0x10, 4, 1, 4, 1, 3, 0, 0, 0, 0, 0, 0, 0⟩ /- MIU_REC_ADDR_LO -/,
   ⟨0x14, 4, 1, 4, 1, 3, 0, 0, 0, 0, 0, 0, 0⟩ /- MIU_REC_ADDR_HI -/,
   ⟨0x18, 4, 1, 4, 1, 3, 0, 0, 0, 0, 0, 0, 0⟩ /- MIU_REC_SRC -/,
   ⟨0x1C, 4, 1, 4, 1, 3, 0, 0, 0, 0, 0, 0, 0⟩ /- MIU_FIFO_STAT -/,
   ⟨0x20, 4, 1, 4, 1, 3, 0, 0, 0, 0xFFFFFFFF, 0, 0, 0⟩ /- MIU_BLOCK_CNT -/,
   ⟨0x24, 4, 1, 4, 1, 3, 0, 0, 0, 0xFFFFFFFF, 0, 0, 0⟩ /- MIU_TAGFAIL_CNT -/,
   ⟨0x28, 4, 1, 4, 1, 3, 0, 0, 0, 0xFFFFFFFF, 0, 0, 0⟩ /- MIU_OVF_CNT -/,
   ⟨0x2C, 4, 1, 4, 1, 3, 0, 0, 0, 0xFFFFFFFF, 0, 0, 0⟩ /- MIU_HIT_CNT -/,
   ⟨0x30, 4, 1, 4, 1, 3, 0, 0, 0, 0xFFFFFFFF, 0, 0, 0⟩ /- MIU_MISS_CNT -/,
   ⟨0x40, 4, 1, 4, 1, 1, 0, 0, 0, 0, 0, 0, 0⟩ /- MIU_CMD -/,
   ⟨0x44, 4, 1, 4, 1, 1, 0, 0, 0, 0, 0, 0, 0⟩ /- MIU_CMDSTAT -/,
   ⟨0x48, 4, 1, 4, 1, 1, 0, 0, 0, 0, 0, 0, 0⟩ /- MIU_SLOT_LO -/,
   ⟨0x4C, 4, 1, 4, 1, 1, 0, 0, 0, 0, 0, 0, 0⟩ /- MIU_SLOT_HI -/,
   ⟨0x100, 0x10, 16, 4, 1, 1, 0x1FFFFFFF, 0, 0, 0, 0, 0, 0⟩ /- MIU_R_BASE -/,
   ⟨0x104, 0x10, 16, 4, 1, 1, 0x3FFFFFFF, 0, 0, 0, 0, 0, 0⟩ /- MIU_R_SIZE -/,
   ⟨0x108, 0x10, 16, 4, 1, 1, 0x7FFFFF, 0, 0, 0, 0, 0, 0⟩ /- MIU_R_CFG -/,
   ⟨0x10C, 0x10, 16, 4, 1, 1, 0, 0, 0, 0, 0, 0, 0⟩ /- MIU_R_STAT -/]

/-- Registers of page 0x20. -/
def rows20 : List RegRow :=
  [⟨0, 4, 1, 4, 1, 3, 0xFF01, 0, 0, 0, 0, 0, 0x1401⟩ /- RECORD_CTRL -/,
   ⟨4, 4, 1, 4, 1, 3, 0, 0, 0, 0, 0, 0, 1⟩ /- RECORD_STAT -/,
   ⟨8, 4, 1, 4, 1, 3, 0, 0x3FF, 0, 0, 0, 0, 0⟩ /- RECORD_EVT -/,
   ⟨0xC, 4, 1, 4, 1, 3, 0x3FF, 0, 0, 0, 0, 0, 0⟩ /- RECORD_EVTEN -/,
   ⟨0x10, 4, 1, 4, 1, 1, 0, 0, 0, 0, 0xFFFF0003, 0, 0⟩ /- RECORD_PF -/,
   ⟨0x14, 4, 1, 4, 1, 3, 0xFFFFFFFF, 0, 0, 0, 0, 0, 0⟩ /- RECORD_QTRUST_LO -/,
   ⟨0x18, 4, 1, 4, 1, 3, 0xFFFFFFFF, 0, 0, 0, 0, 0, 0⟩ /- RECORD_QTRUST_HI -/,
   ⟨0x20, 4, 1, 4, 1, 3, 0xFFFF, 0, 0, 0, 0, 0, 0⟩ /- RECORD_DIR_IDX -/,
   ⟨0x24, 4, 8, 4, 1, 3, 0, 0, 0, 0, 0, 0, 0⟩ /- RECORD_DIR_W -/,
   ⟨0x44, 4, 1, 4, 1, 1, 0, 0, 0, 0, 0, 0, 0⟩ /- RECORD_DIR_CMD -/,
   ⟨0x48, 4, 1, 4, 1, 1, 0, 0, 0, 0, 0, 0, 0⟩ /- RECORD_DIR_STAT -/,
   ⟨0x100, 0x20, 16, 4, 1, 3, 0, 0, 0, 0, 0, 0x7F, 0⟩ /- RECORD_P_CFG -/,
   ⟨0x104, 0x20, 16, 4, 1, 3, 0x8000FFFF, 0, 0, 0, 0, 0, 0⟩ /- RECORD_P_SEG -/,
   ⟨0x108, 0x20, 16, 4, 1, 3, 0, 0, 0, 0, 0, 0, 0⟩ /- RECORD_P_STAT -/,
   ⟨0x10C, 0x20, 16, 4, 1, 3, 0, 0, 0, 0xFFFFFFFF, 0, 0, 0⟩ /- RECORD_P_RECS -/,
   ⟨0x110, 0x20, 16, 4, 1, 3, 0, 0, 0, 0xFFFFFFFF, 0, 0, 0⟩ /- RECORD_P_DROP -/,
   ⟨0x114, 0x20, 16, 4, 1, 3, 0, 0, 0, 0, 0, 0, 0⟩ /- RECORD_P_SEQ -/,
   ⟨0x118, 0x20, 16, 4, 1, 3, 0, 0, 0, 0, 0, 0, 0⟩ /- RECORD_P_ERR -/,
   ⟨0x8000, 0x100, 64, 4, 16, 3, 0xFFFFFFFF, 0, 0, 0, 0, 0, 0⟩ /- RECORD_QS_D -/,
   ⟨0x8040, 0x100, 64, 4, 1, 3, 0, 0, 0, 0, 0, 0, 0⟩ /- RECORD_QS_CTRL -/,
   ⟨0x8044, 0x100, 64, 4, 1, 3, 0, 0, 0, 0, 0, 0, 0⟩ /- RECORD_QS_STAT -/,
   ⟨0x8048, 0x100, 64, 4, 1, 3, 0, 0, 0, 0, 0, 0, 0⟩ /- RECORD_QS_RBYTES -/]

/-- Registers of page 0x28. -/
def rows28 : List RegRow :=
  [⟨0, 4, 1, 4, 1, 1, 0, 0, 0, 0, 0, 0, 0x3C0000⟩ /- ITA_ID -/,
   ⟨4, 4, 1, 4, 1, 1, 0, 0, 0, 0, 0, 0, 0⟩ /- ITA_HORIZON -/,
   ⟨8, 4, 1, 4, 1, 1, 0, 0, 0, 0, 0, 0, 0⟩ /- ITA_WORST -/,
   ⟨0xC, 4, 1, 4, 1, 1, 0, 0x3FF, 0, 0, 0, 0, 0⟩ /- ITA_EVT -/,
   ⟨0x10, 4, 1, 4, 1, 1, 0x3FF, 0, 0, 0, 0, 0, 0⟩ /- ITA_EVTEN -/,
   ⟨0x14, 4, 1, 4, 1, 1, 0, 0, 0, 0, 0, 0, 0⟩ /- ITA_CMD -/,
   ⟨0x18, 4, 1, 4, 1, 1, 0, 0, 0, 0, 0, 0, 0⟩ /- ITA_CMDSTAT -/,
   ⟨0x1C, 4, 1, 4, 1, 1, 0xF, 0, 0, 0, 0, 0, 0⟩ /- ITA_RDIE -/,
   ⟨0x20, 4, 1, 4, 1, 1, 0x13FFF, 0, 0, 0, 0, 0, 0⟩ /- ITA_RDRAM -/,
   ⟨0x24, 4, 1, 4, 1, 1, 0x3F, 0, 0, 0, 0, 0, 0⟩ /- ITA_KEY -/,
   ⟨0x28, 4, 1, 4, 1, 1, 0, 0, 0, 0, 0, 0, 0⟩ /- ITA_EVSEND -/,
   ⟨0x2C, 4, 1, 4, 1, 1, 0xFFFFFFFF, 0, 0, 0, 0, 0, 0⟩ /- ITA_EVARG -/,
   ⟨0x30, 4, 1, 4, 1, 1, 0, 0, 0, 0xFFFFFFFF, 0, 0, 0⟩ /- ITA_EV_LATE -/,
   ⟨0x34, 4, 1, 4, 1, 1, 0, 0, 0, 0xFFFFFFFF, 0, 0, 0⟩ /- ITA_EV_OVF -/,
   ⟨0x38, 4, 1, 4, 1, 1, 0, 0, 0, 0, 0, 0, 0⟩ /- ITA_EV_LATELOC -/,
   ⟨0x3C, 4, 1, 4, 1, 1, 0, 0, 0, 0xFFFFFFFF, 0, 0, 0⟩ /- ITA_DROP -/,
   ⟨0x40, 4, 1, 4, 1, 1, 0x3FFF, 0, 0, 0, 0, 0, 0⟩ /- ITA_ERT_IDX -/,
   ⟨0x44, 4, 1, 4, 1, 1, 0xFFFFFFFF, 0, 0, 0, 0, 0, 0⟩ /- ITA_ERT_W0 -/,
   ⟨0x48, 4, 1, 4, 1, 1, 0xFFFFFFFF, 0, 0, 0, 0, 0, 0⟩ /- ITA_ERT_W1 -/,
   ⟨0x50, 4, 1, 4, 1, 1, 0, 0, 0, 0x1FFFFFFF, 0, 0, 0⟩ /- ITA_HEV -/,
   ⟨0x54, 4, 1, 4, 1, 1, 0, 0, 0, 0, 0, 0, 0⟩ /- ITA_HEV_ARG -/,
   ⟨0x58, 4, 1, 4, 1, 1, 0, 0, 0, 0, 0, 0, 0⟩ /- ITA_HEV_TICK -/,
   ⟨0x60, 4, 1, 4, 1, 1, 0x1FF, 0, 0, 0, 0, 0, 0⟩ /- ITA_RT_IDX -/,
   ⟨0x64, 4, 1, 4, 1, 1, 0, 0, 0, 0, 0, 0, 0xF⟩ /- ITA_RT_DATA -/,
   ⟨0x100, 0x40, 4, 4, 1, 3, 0, 0, 0, 0, 0, 0x7FFF, 0⟩ /- ITA_P_CFG -/,
   ⟨0x104, 0x40, 4, 4, 1, 3, 0, 0, 0, 0, 0, 0, 0⟩ /- ITA_P_STAT -/,
   ⟨0x108, 0x40, 4, 4, 1, 3, 0x7FFF, 0, 0, 0, 0, 0, 0⟩ /- ITA_P_CHILD -/,
   ⟨0x10C, 0x40, 4, 4, 1, 3, 0xFFFF, 0, 0, 0, 0, 0xFFFF, 0⟩ /- ITA_P_ASYM -/,
   ⟨0x110, 0x40, 4, 4, 1, 3, 0, 0, 0, 0, 0, 0, 0⟩ /- ITA_P_DELAY -/,
   ⟨0x114, 0x40, 4, 4, 1, 3, 0, 0, 0, 0, 0, 0, 0⟩ /- ITA_P_OFFSET -/,
   ⟨0x118, 0x40, 4, 4, 1, 3, 0, 0, 0, 0, 0, 0, 0⟩ /- ITA_P_HOPB -/,
   ⟨0x11C, 0x40, 4, 4, 1, 3, 0, 0, 0, 0xFFFFFFFF, 0, 0, 0⟩ /- ITA_P_REPLAY -/,
   ⟨0x120, 0x40, 4, 4, 1, 3, 0, 0, 0, 0xFFFFFFFF, 0, 0, 0⟩ /- ITA_P_ERR -/,
   ⟨0x124, 0x40, 4, 4, 1, 3, 0, 0, 0, 0xFFFFFFFF, 0, 0, 0⟩ /- ITA_P_DROP -/]

/-- Registers of page 0x30. -/
def rows30 : List RegRow :=
  [⟨0, 4, 1, 4, 1, 3, 0x83FFFFFF, 0, 0, 0, 0, 0, 0⟩ /- LQ_PLLA -/,
   ⟨4, 4, 1, 4, 1, 3, 0x83FFFFFF, 0, 0, 0, 0, 0, 0⟩ /- LQ_PLLB -/,
   ⟨8, 4, 1, 4, 1, 3, 0, 0, 0, 0, 0, 0, 0⟩ /- LQ_STAT -/,
   ⟨0xC, 4, 1, 4, 1, 3, 0, 0x1FF, 0, 0, 0, 0, 0⟩ /- LQ_EVT -/,
   ⟨0x10, 4, 1, 4, 1, 3, 0x1FF, 0, 0, 0, 0, 0, 0⟩ /- LQ_EVTEN -/,
   ⟨0x14, 4, 1, 4, 1, 3, 0, 0, 0, 0, 0, 0, 0⟩ /- LQ_CMD -/,
   ⟨0x100, 0x40, 4, 4, 1, 3, 0xFFFFF, 0, 0, 0, 0, 0xFFFFF, 0⟩ /- LQ_L_CFG -/,
   ⟨0x104, 0x40, 4, 4, 1, 3, 0x1F3F0F, 0, 0, 0, 0, 0x1F3F0F, 0⟩ /- LQ_L_TXEQ -/,
   ⟨0x108, 0x40, 4, 4, 1, 3, 0, 0, 0, 0, 0, 0, 0⟩ /- LQ_L_RXEQ -/,
   ⟨0x10C, 0x40, 4, 4, 1, 3, 0, 0, 0, 0, 0, 0, 0x7F00⟩ /- LQ_L_STAT -/,
   ⟨0x110, 0x40, 4, 4, 1, 3, 0, 0, 0, 0xFFFFFFFF, 0, 0, 0⟩ /- LQ_L_HDRERR -/,
   ⟨0x114, 0x40, 4, 4, 1, 3, 0, 0, 0, 0xFFFFFFFF, 0, 0, 0⟩ /- LQ_L_LOCKLOSS -/,
   ⟨0x118, 0x40, 4, 4, 1, 3, 0, 0, 0, 0xFFFFFFFF, 0, 0, 0⟩ /- LQ_L_DROP -/,
   ⟨0x11C, 0x40, 4, 4, 1, 3, 0, 0, 0, 0, 0, 0, 0⟩ /- LQ_L_ALTS_LO -/,
   ⟨0x120, 0x40, 4, 4, 1, 3, 0, 0, 0, 0, 0, 0, 0⟩ /- LQ_L_ALTS_HI -/,
   ⟨0x124, 0x40, 4, 4, 1, 3, 0, 0, 0, 0, 0, 0, 0⟩ /- LQ_L_ALTS_FINE -/]

/-- Registers of page 0x50. -/
def rows50 : List RegRow :=
  [⟨0, 4, 1, 4, 1, 1, 0, 0, 0, 0, 0, 0, 0⟩ /- PCIE_STAT -/,
   ⟨4, 4, 1, 4, 1, 1, 0, 0xFF, 0, 0, 0, 0, 0⟩ /- PCIE_EVT -/,
   ⟨8, 4, 1, 4, 1, 1, 0xFF, 0, 0, 0, 0, 0, 0⟩ /- PCIE_EVTEN -/,
   ⟨0xC, 4, 1, 4, 1, 1, 0x3F, 0, 0, 0, 0, 0, 0⟩ /- PCIE_CTRL -/,
   ⟨0x10, 4, 1, 4, 1, 1, 0x7FF00, 0, 0, 0, 0, 0x7FF1F, 0⟩ /- PCIE_BAR2 -/,
   ⟨0x14, 4, 1, 4, 1, 1, 0x3F, 0, 0, 0, 0, 0x3F3F, 0⟩ /- PCIE_KEYS -/,
   ⟨0x18, 4, 4, 4, 1, 1, 0x80003FFF, 0, 0, 0, 0, 0, 0⟩ /- PCIE_CLWIN -/,
   ⟨0x28, 4, 1, 4, 1, 1, 0, 0, 0, 0, 0, 0, 0⟩ /- PCIE_HWERR -/,
   ⟨0x400, 0x20, 32, 4, 1, 1, 0xFFF, 0, 0, 0, 0, 0, 0⟩ /- PCIE_Q_CTRL -/,
   ⟨0x404, 0x20, 32, 4, 1, 1, 0xFFFFFFE0, 0, 0, 0, 0, 0, 0⟩ /- PCIE_Q_BASE_LO -/,
   ⟨0x408, 0x20, 32, 4, 1, 1, 0xFFFFFFFF, 0, 0, 0, 0, 0, 0⟩ /- PCIE_Q_BASE_HI -/,
   ⟨0x40C, 0x20, 32, 4, 1, 1, 0xFFFF, 0, 0, 0, 0, 0, 0⟩ /- PCIE_Q_TAIL -/,
   ⟨0x410, 0x20, 32, 4, 1, 1, 0, 0, 0, 0, 0, 0, 0⟩ /- PCIE_Q_HEAD -/,
   ⟨0x414, 0x20, 32, 4, 1, 1, 0, 0, 0, 0, 0, 0, 0⟩ /- PCIE_Q_STAT -/,
   ⟨0x418, 0x20, 32, 4, 1, 1, 0x3F, 0, 0, 0, 0, 0x3F, 0⟩ /- PCIE_Q_KEY -/,
   ⟨0x8000, 4, 256, 4, 1, 1, 0xFFFFFFFF, 0, 0, 0, 0, 0, 0⟩ /- PCIE_MSIX_TBL -/,
   ⟨0xC000, 4, 2, 4, 1, 1, 0, 0, 0, 0, 0, 0, 0⟩ /- PCIE_MSIX_PBA -/]

/-- Registers of page 0x58. -/
def rows58 : List RegRow :=
  [⟨0, 4, 1, 4, 1, 0x3FF, 0xFFFF1F, 0, 0, 0, 0, 0, 0xFF1014⟩ /- NOC_CTRL -/,
   ⟨4, 4, 1, 4, 1, 0x3FF, 0, 0xFF, 0, 0, 0, 0, 0⟩ /- NOC_EVT -/,
   ⟨8, 4, 1, 4, 1, 0x3FF, 0xFF, 0, 0, 0, 0, 0, 0⟩ /- NOC_EVTEN -/,
   ⟨0xC, 4, 1, 4, 1, 0x3FF, 0, 0, 0, 0xFFFFFFFF, 0, 0, 0⟩ /- NOC_HDR_CE -/,
   ⟨0x10, 4, 1, 4, 1, 0x3FF, 0, 0, 0, 0xFFFFFFFF, 0, 0, 0⟩ /- NOC_HDR_UE -/,
   ⟨0x14, 4, 1, 4, 1, 0x3FF, 0, 0, 0, 0, 0, 0, 0⟩ /- NOC_DROP_LOC -/,
   ⟨0x18, 4, 1, 4, 1, 0x3FF, 0, 0, 0, 0xFFFFFFFF, 0, 0, 0⟩ /- NOC_CRC_CNT -/,
   ⟨0x1C, 4, 1, 4, 1, 0x3FF, 0, 0, 0, 0, 0, 0, 0⟩ /- NOC_CRC_LOC -/,
   ⟨0x20, 4, 1, 4, 1, 0x3FF, 0, 0, 0, 0xFFFFFFFF, 0, 0, 0⟩ /- NOC_LOST_CNT -/,
   ⟨0x24, 4, 1, 4, 1, 0x3FF, 0, 0, 0, 0, 0, 0, 0⟩ /- NOC_LOST_LOC -/,
   ⟨0x28, 4, 1, 4, 1, 0x3FF, 0, 0, 0, 0xFFFFFFFF, 0, 0, 0⟩ /- NOC_FENCE_CNT -/,
   ⟨0x2C, 4, 1, 4, 1, 0x3FF, 0, 0, 0, 0xFFFFFFFF, 0, 0, 0⟩ /- NOC_RETRY_CNT -/,
   ⟨0x30, 4, 1, 4, 1, 0x3FF, 0xFF, 0, 0, 0, 0, 0, 0⟩ /- NOC_RTR_SEL -/,
   ⟨0x34, 4, 1, 4, 1, 0x3FF, 0, 0, 0, 0, 0, 0, 0⟩ /- NOC_RTR_STAT -/,
   ⟨0x38, 4, 1, 4, 1, 0x3FF, 0, 0, 0, 0xFFFFFFFF, 0, 0, 0⟩ /- NOC_RTR_SLACK -/,
   ⟨0x3C, 4, 1, 4, 1, 0x3FF, 0, 0, 0, 0xFFFFFFFF, 0, 0, 0⟩ /- NOC_RTR_OVR -/]

/-- Registers of page 0x60. -/
def rows60_0 : List RegRow :=
  [⟨0, 4, 1, 4, 1, 0x3FF, 0, 0, 0, 0, 0, 0, 0⟩ /- PROBES_SCH_STATE -/,
   ⟨4, 4, 1, 4, 1, 0x3FF, 0, 0x3F, 0, 0, 0, 0, 0⟩ /- PROBES_SCH_EVT -/,
   ⟨8, 4, 1, 4, 1, 0x3FF, 0x3F, 0, 0, 0, 0, 0, 0⟩ /- PROBES_SCH_EVTEN -/,
   ⟨0xC, 4, 1, 4, 1, 0x3FF, 0x1FFF, 0, 0, 0, 0, 0, 0⟩ /- PROBES_SCH_IDX -/,
   ⟨0x10, 4, 4, 4, 1, 0x3FF, 0xFFFFFFFF, 0, 0, 0, 0, 0, 0⟩ /- PROBES_SCH_ENT -/,
   ⟨0x20, 4, 1, 4, 1, 0x3FF, 0x1FFFFFF, 0, 0, 0, 0, 0, 0⟩ /- PROBES_SCH_HDR_P -/,
   ⟨0x24, 4, 1, 4, 1, 0x3FF, 0x1FFFFFF, 0, 0, 0, 0, 0, 0⟩ /- PROBES_SCH_HDR_Q -/,
   ⟨0x28, 4, 1, 4, 1, 0x3FF, 0xFFFFFFFF, 0, 0, 0, 0, 0, 0⟩ /- PROBES_SCH_CRC -/,
   ⟨0x2C, 4, 1, 4, 1, 1, 0, 0, 0, 0, 0, 0, 0⟩ /- PROBES_SCH_SWAP -/,
   ⟨0x30, 4, 1, 4, 1, 1, 0xFFFFFFFF, 0, 0, 0, 0, 0, 0⟩ /- PROBES_SCH_AT_LO -/,
   ⟨0x34, 4, 1, 4, 1, 1, 0xFFFFFFFF, 0, 0, 0, 0, 0, 0⟩ /- PROBES_SCH_AT_HI -/,
   ⟨0x38, 4, 1, 4, 1, 1, 0, 0, 0, 0, 0, 0, 0⟩ /- PROBES_SCH_SWSTAT -/,
   ⟨0x40, 4, 1, 4, 1, 0x3FF, 0, 0, 0, 0xFFFFFFFF, 0, 0, 0⟩ /- PROBES_SCH_ADMIT -/,
   ⟨0x44, 4, 1, 4, 1, 0x3FF, 0, 0, 0, 0xFFFFFFFF, 0, 0, 0⟩ /- PROBES_SCH_HELD -/,
   ⟨0x48, 4, 1, 4, 1, 0x3FF, 0, 0, 0, 0xFFFFFFFF, 0, 0, 0⟩ /- PROBES_SCH_DEMOTE -/,
   ⟨0x4C, 4, 1, 4, 1, 0x3FF, 0, 0, 0, 0, 0, 0, 0⟩ /- PROBES_SCH_LAST -/,
   ⟨0x100, 0x80, 16, 4, 1, 3, 0x7FFFFFF, 0, 0, 0, 0, 0, 0⟩ /- PROBES_P_CTRL -/,
   ⟨0x100, 0x80, 4, 4, 1, 0x3FC, 0x7FFFFFF, 0, 0, 0, 0, 0, 0⟩ /- PROBES_P_CTRL -/,
   ⟨0x104, 0x80, 16, 4, 1, 3, 0, 0, 0, 0, 0, 0, 0⟩ /- PROBES_P_STAT -/,
   ⟨0x104, 0x80, 4, 4, 1, 0x3FC, 0, 0, 0, 0, 0, 0, 0⟩ /- PROBES_P_STAT -/,
   ⟨0x108, 0x80, 16, 4, 1, 3, 0, 0, 0, 0, 0, 0, 0⟩ /- PROBES_P_FORCE -/,
   ⟨0x108, 0x80, 4, 4, 1, 0x3FC, 0, 0, 0, 0, 0, 0, 0⟩ /- PROBES_P_FORCE -/,
   ⟨0x10C, 0x80, 16, 4, 1, 3, 0xFFF0FFF, 0, 0, 0, 0, 0, 0⟩ /- PROBES_P_SRC -/,
   ⟨0x10C, 0x80, 4, 4, 1, 0x3FC, 0xFFF0FFF, 0, 0, 0, 0, 0, 0⟩ /- PROBES_P_SRC -/,
   ⟨0x110, 0x80, 16, 4, 1, 3, 0xFFFFFFFF, 0, 0, 0, 0, 0, 0⟩ /- PROBES_P_DST -/,
   ⟨0x110, 0x80, 4, 4, 1, 0x3FC, 0xFFFFFFFF, 0, 0, 0, 0, 0, 0⟩ /- PROBES_P_DST -/,
   ⟨0x114, 0x80, 16, 4, 1, 3, 0x3FFFFF, 0, 0, 0, 0, 0, 0x1FC000⟩ /- PROBES_P_MATCH -/,
   ⟨0x114, 0x80, 4, 4, 1, 0x3FC, 0x3FFFFF, 0, 0, 0, 0, 0, 0x1FC000⟩ /- PROBES_P_MATCH -/,
   ⟨0x118, 0x80, 16, 4, 1, 3, 0xFFFFFFFF, 0, 0, 0, 0, 0, 0⟩ /- PROBES_P_ALO_LO -/,
   ⟨0x118, 0x80, 4, 4, 1, 0x3FC, 0xFFFFFFFF, 0, 0, 0, 0, 0, 0⟩ /- PROBES_P_ALO_LO -/,
   ⟨0x11C, 0x80, 16, 4, 1, 3, 0xFFFF, 0, 0, 0, 0, 0, 0⟩ /- PROBES_P_ALO_HI -/,
   ⟨0x11C, 0x80, 4, 4, 1, 0x3FC, 0xFFFF, 0, 0, 0, 0, 0, 0⟩ /- PROBES_P_ALO_HI -/,
   ⟨0x120, 0x80, 16, 4, 1, 3, 0xFFFFFFFF, 0, 0, 0, 0, 0, 0⟩ /- PROBES_P_AHI_LO -/,
   ⟨0x120, 0x80, 4, 4, 1, 0x3FC, 0xFFFFFFFF, 0, 0, 0, 0, 0, 0⟩ /- PROBES_P_AHI_LO -/,
   ⟨0x124, 0x80, 16, 4, 1, 3, 0xFFFF, 0, 0, 0, 0, 0, 0⟩ /- PROBES_P_AHI_HI -/,
   ⟨0x124, 0x80, 4, 4, 1, 0x3FC, 0xFFFF, 0, 0, 0, 0, 0, 0⟩ /- PROBES_P_AHI_HI -/,
   ⟨0x128, 0x80, 16, 4, 1, 3, 0xFFFFFFFF, 0, 0, 0, 0, 0, 0⟩ /- PROBES_P_BUF_LO -/,
   ⟨0x128, 0x80, 4, 4, 1, 0x3FC, 0xFFFFFFFF, 0, 0, 0, 0, 0, 0⟩ /- PROBES_P_BUF_LO -/,
   ⟨0x12C, 0x80, 16, 4, 1, 3, 0xFFFF, 0, 0, 0, 0, 0, 0⟩ /- PROBES_P_BUF_HI -/,
   ⟨0x12C, 0x80, 4, 4, 1, 0x3FC, 0xFFFF, 0, 0, 0, 0, 0, 0⟩ /- PROBES_P_BUF_HI -/]

/-- Registers of page 0x60. -/
def rows60_1 : List RegRow :=
  [⟨0x130, 0x80, 16, 4, 1, 3, 0x1F, 0, 0, 0, 0, 0, 0xC⟩ /- PROBES_P_BUFSZ -/,
   ⟨0x130, 0x80, 4, 4, 1, 0x3FC, 0x1F, 0, 0, 0, 0, 0, 0xC⟩ /- PROBES_P_BUFSZ -/,
   ⟨0x134, 0x80, 16, 4, 1, 3, 0, 0, 0, 0, 0, 0, 0⟩ /- PROBES_P_WPTR -/,
   ⟨0x134, 0x80, 4, 4, 1, 0x3FC, 0, 0, 0, 0, 0, 0, 0⟩ /- PROBES_P_WPTR -/,
   ⟨0x138, 0x80, 16, 4, 1, 3, 0x1FFFFFF, 0, 0, 0, 0, 0, 0⟩ /- PROBES_P_POST -/,
   ⟨0x138, 0x80, 4, 4, 1, 0x3FC, 0x1FFFFFF, 0, 0, 0, 0, 0, 0⟩ /- PROBES_P_POST -/,
   ⟨0x13C, 0x80, 16, 4, 1, 3, 0xFFFFFFFF, 0, 0, 0, 0, 0, 0⟩ /- PROBES_P_TTICK_LO -/,
   ⟨0x13C, 0x80, 4, 4, 1, 0x3FC, 0xFFFFFFFF, 0, 0, 0, 0, 0, 0⟩ /- PROBES_P_TTICK_LO -/,
   ⟨0x140, 0x80, 16, 4, 1, 3, 0xFFFFFFFF, 0, 0, 0, 0, 0, 0⟩ /- PROBES_P_TTICK_HI -/,
   ⟨0x140, 0x80, 4, 4, 1, 0x3FC, 0xFFFFFFFF, 0, 0, 0, 0, 0, 0⟩ /- PROBES_P_TTICK_HI -/,
   ⟨0x144, 0x80, 16, 4, 1, 3, 0, 0, 0, 0, 0, 0, 0⟩ /- PROBES_P_HCNT_LO -/,
   ⟨0x144, 0x80, 4, 4, 1, 0x3FC, 0, 0, 0, 0, 0, 0, 0⟩ /- PROBES_P_HCNT_LO -/,
   ⟨0x148, 0x80, 16, 4, 1, 3, 0, 0, 0, 0, 0, 0, 0⟩ /- PROBES_P_HCNT_HI -/,
   ⟨0x148, 0x80, 4, 4, 1, 0x3FC, 0, 0, 0, 0, 0, 0, 0⟩ /- PROBES_P_HCNT_HI -/,
   ⟨0x14C, 0x80, 16, 4, 1, 3, 0, 0, 0, 0, 0, 0, 0⟩ /- PROBES_P_FCNT_LO -/,
   ⟨0x14C, 0x80, 4, 4, 1, 0x3FC, 0, 0, 0, 0, 0, 0, 0⟩ /- PROBES_P_FCNT_LO -/,
   ⟨0x150, 0x80, 16, 4, 1, 3, 0, 0, 0, 0, 0, 0, 0⟩ /- PROBES_P_FCNT_HI -/,
   ⟨0x150, 0x80, 4, 4, 1, 0x3FC, 0, 0, 0, 0, 0, 0, 0⟩ /- PROBES_P_FCNT_HI -/,
   ⟨0x154, 0x80, 16, 4, 1, 3, 0, 0, 0, 0, 0, 0, 0⟩ /- PROBES_P_LOST -/,
   ⟨0x154, 0x80, 4, 4, 1, 0x3FC, 0, 0, 0, 0, 0, 0, 0⟩ /- PROBES_P_LOST -/,
   ⟨0x158, 0x80, 16, 4, 1, 3, 0, 0, 0, 0, 0, 0, 0⟩ /- PROBES_P_TRIGPOS -/,
   ⟨0x158, 0x80, 4, 4, 1, 0x3FC, 0, 0, 0, 0, 0, 0, 0⟩ /- PROBES_P_TRIGPOS -/,
   ⟨0xA00, 4, 1, 4, 1, 0x3FF, 0xFFF1FFF, 0, 0, 0, 0, 0, 0⟩ /- PROBES_ST_SEL -/,
   ⟨0xA04, 4, 1, 4, 1, 0x3FF, 0, 0, 0, 0, 0, 0, 0⟩ /- PROBES_ST_CMD -/,
   ⟨0xA08, 4, 1, 4, 1, 0x3FF, 0, 0, 0, 0, 0, 0, 0⟩ /- PROBES_ST_ID -/,
   ⟨0xA0C, 4, 1, 4, 1, 0x3FF, 0, 0, 0, 0, 0, 0, 0⟩ /- PROBES_ST_REQ -/,
   ⟨0xA10, 4, 1, 4, 1, 0x3FF, 0, 0, 0, 0, 0, 0, 0⟩ /- PROBES_ST_RDB_LO -/,
   ⟨0xA14, 4, 1, 4, 1, 0x3FF, 0, 0, 0, 0, 0, 0, 0⟩ /- PROBES_ST_RDB_HI -/,
   ⟨0xA18, 4, 1, 4, 1, 0x3FF, 0, 0, 0, 0, 0, 0, 0⟩ /- PROBES_ST_WRB_LO -/,
   ⟨0xA1C, 4, 1, 4, 1, 0x3FF, 0, 0, 0, 0, 0, 0, 0⟩ /- PROBES_ST_WRB_HI -/,
   ⟨0xA20, 4, 1, 4, 1, 0x3FF, 0, 0, 0, 0, 0, 0, 0⟩ /- PROBES_ST_LATSUM_LO -/,
   ⟨0xA24, 4, 1, 4, 1, 0x3FF, 0, 0, 0, 0, 0, 0, 0⟩ /- PROBES_ST_LATSUM_HI -/,
   ⟨0xA28, 4, 1, 4, 1, 0x3FF, 0, 0, 0, 0, 0, 0, 0⟩ /- PROBES_ST_LATMAX -/,
   ⟨0xA2C, 4, 1, 4, 1, 0x3FF, 0, 0, 0, 0, 0, 0, 0⟩ /- PROBES_ST_ANS -/,
   ⟨0xA30, 4, 1, 4, 1, 0x3FF, 0, 0, 0, 0, 0, 0, 0⟩ /- PROBES_ST_SINCE_LO -/,
   ⟨0xA34, 4, 1, 4, 1, 0x3FF, 0, 0, 0, 0, 0, 0, 0⟩ /- PROBES_ST_SINCE_HI -/]

/-- Registers of page 0x68. -/
def rows68 : List RegRow :=
  [⟨0, 4, 1, 4, 1, 0x3FF, 0, 0, 0, 0, 0, 0, 0⟩ /- CORUG_EDGE -/,
   ⟨4, 4, 1, 4, 1, 0x3FF, 0, 0x1FF, 0, 0, 0, 0, 0⟩ /- CORUG_EVT -/,
   ⟨8, 4, 1, 4, 1, 0x3FF, 0x1FF, 0, 0, 0, 0, 0, 0⟩ /- CORUG_EVTEN -/,
   ⟨0xC, 4, 1, 4, 1, 0x3FF, 0, 0, 0, 0, 0, 0, 0⟩ /- CORUG_CMD -/,
   ⟨0x10, 4, 1, 4, 1, 0x3FF, 0, 0, 0, 0, 0, 0, 0⟩ /- CORUG_CMDSTAT -/,
   ⟨0x14, 4, 1, 4, 1, 0x3FF, 0x3F, 0, 0, 0, 0, 0, 0x10⟩ /- CORUG_CFG -/,
   ⟨0x18, 4, 1, 4, 1, 0x3FF, 0, 0, 0, 0, 0, 0, 0⟩ /- CORUG_FENCE_LOG -/,
   ⟨0x100, 0x20, 32, 4, 1, 0x3FF, 0, 0, 0, 0, 0, 0, 0⟩ /- CORUG_M_STAT -/,
   ⟨0x104, 0x20, 32, 4, 1, 0x3FF, 0, 0, 0, 0, 0, 0, 0x7F7F⟩ /- CORUG_M_TXMAP -/,
   ⟨0x108, 0x20, 32, 4, 1, 0x3FF, 0, 0, 0, 0, 0, 0, 0x7F7F⟩ /- CORUG_M_RXMAP -/,
   ⟨0x10C, 0x20, 32, 4, 1, 0x3FF, 0, 0, 0, 0, 0, 0, 0⟩ /- CORUG_M_MARGIN -/,
   ⟨0x110, 0x20, 32, 4, 1, 0x3FF, 0, 0, 0, 0xFFFFFFFF, 0, 0, 0⟩ /- CORUG_M_ERR -/,
   ⟨0x114, 0x20, 32, 4, 1, 0x3FF, 0, 0, 0, 0xFFFFFFFF, 0, 0, 0⟩ /- CORUG_M_SDROP -/,
   ⟨0x118, 0x20, 32, 4, 1, 0x3FF, 0, 0, 0, 0, 0, 0, 0⟩ /- CORUG_M_CHAN -/]

/-- Registers of page 0x70. -/
def rows70 : List RegRow :=
  [⟨0, 4, 1, 4, 1, 0x3FF, 0, 0xFFFF, 0, 0, 0, 0, 0⟩ /- ERR_SRC -/,
   ⟨4, 4, 1, 4, 1, 0x3FF, 0xFFFF, 0, 0, 0, 0, 0, 0⟩ /- ERR_SRCEN -/,
   ⟨8, 4, 1, 4, 1, 0x3FF, 0, 0, 0, 0xFFFFFFFF, 0, 0, 0⟩ /- ERR_CE_CNT -/,
   ⟨0xC, 4, 1, 4, 1, 0x3FF, 0, 0, 0, 0xFFFFFFFF, 0, 0, 0⟩ /- ERR_CT_CNT -/,
   ⟨0x10, 4, 1, 4, 1, 0x3FF, 0, 0, 0, 0xFFFFFFFF, 0, 0, 0⟩ /- ERR_RF_CNT -/,
   ⟨0x14, 4, 1, 4, 1, 0x3FF, 0, 0, 0, 0xFFFFFFFF, 0, 0, 0⟩ /- ERR_DF_CNT -/,
   ⟨0x18, 4, 1, 4, 1, 0x3FF, 0, 0, 0, 0xFFFF1FFF, 0, 0, 0⟩ /- ERR_LOG_LO -/,
   ⟨0x1C, 4, 1, 4, 1, 0x3FF, 0, 0, 0, 0, 0, 0, 0⟩ /- ERR_LOG_TICK -/,
   ⟨0x20, 4, 1, 4, 1, 0x3FF, 0, 0, 0, 0, 0, 0, 0⟩ /- ERR_LOG_STAT -/,
   ⟨0x24, 4, 1, 4, 1, 0x3FC, 0, 0, 0, 0, 0, 0, 0⟩ /- ERR_CMD -/,
   ⟨0x28, 4, 1, 4, 1, 0x3FC, 0, 0, 0, 0, 0, 0, 0⟩ /- ERR_CMDSTAT -/,
   ⟨0x40, 4, 1, 4, 1, 1, 0, 0x3FF03FF, 0, 0, 0, 0, 0⟩ /- ERR_DIES -/,
   ⟨0x44, 4, 1, 4, 1, 1, 0x3FF03FF, 0, 0, 0, 0, 0, 0⟩ /- ERR_DIESEN -/,
   ⟨0x48, 4, 1, 4, 1, 1, 0, 0xF, 0, 0, 0xFFFF000F, 0, 0⟩ /- ERR_FATAL -/,
   ⟨0x4C, 4, 1, 4, 1, 1, 0xFFFF, 0, 0, 0, 0, 0, 0⟩ /- ERR_NOTIFY -/,
   ⟨0x80, 4, 1, 4, 1, 1, 0x1F0F, 0, 0, 0, 0, 0, 0x1404⟩ /- SCRUB_MASTER -/,
   ⟨0x100, 4, 1, 4, 1, 0x3FC, 0, 0, 0, 0, 0, 0, 0x1404⟩ /- SCRUB_CTL -/,
   ⟨0x104, 4, 1, 4, 1, 0x3FC, 0, 0, 0, 0, 0, 0, 0⟩ /- SCRUB_POS -/,
   ⟨0x108, 4, 1, 4, 1, 0x3FC, 0, 0, 0, 0, 0, 0, 0⟩ /- SCRUB_WALK -/,
   ⟨0x10C, 4, 1, 4, 1, 0x3FC, 0, 0xF, 0, 0, 0, 0, 0⟩ /- SCRUB_EVT -/,
   ⟨0x110, 4, 1, 4, 1, 0x3FC, 0xF, 0, 0, 0, 0, 0, 0⟩ /- SCRUB_EVTEN -/,
   ⟨0x114, 4, 1, 4, 1, 0x3FC, 0, 0, 0, 0xFFFFFFFF, 0, 0, 0⟩ /- SCRUB_CE_CNT -/,
   ⟨0x118, 4, 1, 4, 1, 0x3FC, 0, 0, 0, 0xFFFFFFFF, 0, 0, 0⟩ /- SCRUB_UE_CNT -/,
   ⟨0x11C, 4, 1, 4, 1, 0x3FC, 0, 0, 0, 0xFFFFFFFF, 0, 0, 0⟩ /- SCRUB_VOTE_CNT -/,
   ⟨0x120, 4, 1, 4, 1, 0x3FC, 0, 0xFFFFFF, 0, 0, 0, 0, 0⟩ /- SCRUB_UE_MAP -/]

/-- Registers of page 0x74. -/
def rows74 : List RegRow :=
  [⟨0, 4, 1, 4, 1, 0x3FC, 1, 0, 0, 0, 0, 0, 0⟩ /- CMBERR_CTRL -/,
   ⟨4, 4, 1, 4, 1, 0x3FC, 0, 0x1F, 0, 0, 0, 0, 0⟩ /- CMBERR_EVT -/,
   ⟨8, 4, 1, 4, 1, 0x3FC, 0x1F, 0, 0, 0, 0, 0, 0⟩ /- CMBERR_EVTEN -/,
   ⟨0xC, 4, 1, 4, 1, 0x3FC, 0, 0xFFFFFF, 0, 0, 0, 0, 0⟩ /- CMBERR_MARK -/,
   ⟨0x10, 4, 1, 4, 1, 0x3FC, 0, 0, 0xFFFFFF, 0, 0, 0, 0⟩ /- CMBERR_MARK_SET -/,
   ⟨0x14, 4, 1, 4, 1, 0x3FC, 0, 0, 0, 0xFFFFFF, 0, 0, 0⟩ /- CMBERR_REC_LO -/,
   ⟨0x18, 4, 1, 4, 1, 0x3FC, 0, 0, 0, 0, 0, 0, 0⟩ /- CMBERR_REC_HI -/,
   ⟨0x1C, 4, 1, 4, 1, 0x3FC, 0, 0, 0, 0, 0, 0, 0⟩ /- CMBERR_FIFO_STAT -/,
   ⟨0x20, 4, 1, 4, 1, 0x3FC, 0, 0, 0, 0xFFFFFFFF, 0, 0, 0⟩ /- CMBERR_TOTAL -/,
   ⟨0x24, 4, 1, 4, 1, 0x3FC, 0xFFFF, 0, 0, 0, 0, 0, 0⟩ /- CMBERR_THR -/,
   ⟨0x40, 4, 13, 4, 1, 0x3FC, 0, 0, 0, 0xFFFFFFFF, 0, 0, 0⟩ /- CMBERR_CNT -/,
   ⟨0x400, 0x40, 13, 4, 10, 0x3FC, 0, 0xFFFFFFFF, 0, 0, 0, 0, 0⟩ /- CMBERR_STICKY -/]

/-- Registers of page 0x76. -/
def rows76 : List RegRow :=
  [⟨0, 4, 1, 4, 1, 0x3FC, 1, 0, 0, 0, 0, 0, 1⟩ /- MECC_CTRL -/,
   ⟨4, 4, 1, 4, 1, 0x3FC, 0, 0xFF, 0, 0, 0, 0, 0⟩ /- MECC_EVT -/,
   ⟨8, 4, 1, 4, 1, 0x3FC, 0xFF, 0, 0, 0, 0, 0, 0⟩ /- MECC_EVTEN -/,
   ⟨0xC, 4, 1, 4, 1, 0x3FC, 0, 0, 0, 0xFFFFFF, 0, 0, 0⟩ /- MECC_REC_LO -/,
   ⟨0x10, 4, 1, 4, 1, 0x3FC, 0, 0, 0, 0, 0, 0, 0⟩ /- MECC_REC_ADR -/,
   ⟨0x14, 4, 1, 4, 1, 0x3FC, 0, 0, 0, 0, 0, 0, 0⟩ /- MECC_REC_TICK -/,
   ⟨0x18, 4, 1, 4, 1, 0x3FC, 0, 0, 0, 0, 0, 0, 0⟩ /- MECC_FIFO_STAT -/,
   ⟨0x1C, 4, 1, 4, 1, 0x3FC, 0, 0, 0, 0xFFFFFFFF, 0, 0, 0⟩ /- MECC_CE_CNT -/,
   ⟨0x20, 4, 1, 4, 1, 0x3FC, 0, 0, 0, 0xFFFFFFFF, 0, 0, 0⟩ /- MECC_UE_CNT -/,
   ⟨0x24, 4, 1, 4, 1, 0x3FC, 0x9FFF, 0, 0, 0, 0, 0, 0⟩ /- MECC_SEL -/,
   ⟨0x28, 4, 1, 4, 1, 0x3FC, 0, 0x30, 0, 0, 0, 0, 0⟩ /- MECC_BLK -/,
   ⟨0x2C, 4, 1, 4, 1, 0x3FC, 0xFFFF, 0, 0, 0, 0, 0, 0⟩ /- MECC_INJ -/,
   ⟨0x30, 4, 1, 4, 1, 0x3FC, 0, 0, 0, 0xFFFFFFFF, 0, 0, 0⟩ /- MECC_WAKE_MAX -/]

/-- Registers of page 0x78. -/
def rows78 : List RegRow :=
  [⟨0, 4, 1, 4, 1, 0x3FF, 0, 0, 0, 0, 0, 0, 0⟩ /- SPARE_STAT -/,
   ⟨4, 4, 1, 4, 1, 0x3FF, 0, 0x7F, 0, 0, 0, 0, 0⟩ /- SPARE_EVT -/,
   ⟨8, 4, 1, 4, 1, 0x3FF, 0x7F, 0, 0, 0, 0, 0, 0⟩ /- SPARE_EVTEN -/,
   ⟨0xC, 4, 1, 4, 1, 0x3FF, 0xFFFFFF, 0, 0, 0, 0, 0, 0x1E0004⟩ /- SPARE_CFG -/,
   ⟨0x10, 4, 1, 4, 1, 0x3FF, 0, 0, 0, 0, 0, 0, 0⟩ /- SPARE_POOL -/,
   ⟨0x14, 4, 1, 4, 1, 0x3FF, 0, 0, 0, 0, 0, 0, 0⟩ /- SPARE_HIT -/,
   ⟨0x100, 4, 24, 4, 1, 0x3FC, 0, 0, 0, 0, 0, 0, 0⟩ /- SPARE_AGE -/,
   ⟨0x100, 4, 21, 4, 1, 3, 0, 0, 0, 0, 0, 0, 0⟩ /- SPARE_AGE -/,
   ⟨0x180, 4, 24, 4, 1, 0x3FC, 0, 0, 0, 0, 0, 0, 0⟩ /- SPARE_AGEB -/,
   ⟨0x180, 4, 21, 4, 1, 3, 0, 0, 0, 0, 0, 0, 0⟩ /- SPARE_AGEB -/,
   ⟨0x400, 4, 200, 4, 1, 0x3FC, 0, 0, 0, 0xFFFFFFFF, 0, 0, 0⟩ /- SPARE_COLCNT -/]

/-- Registers of page 0x80. -/
def rows80_0 : List RegRow :=
  [⟨0, 0x4000, 3, 4, 1, 1, 0, 0, 0, 0, 0, 0, 0⟩ /- CORE_ID -/,
   ⟨0x4000, 0x4000, 2, 4, 1, 2, 0, 0, 0, 0, 0, 0, 0⟩ /- CORE_ID -/,
   ⟨0, 0x4000, 1, 4, 1, 0x3FC, 0, 0, 0, 0, 0, 0, 0⟩ /- CORE_ID -/,
   ⟨4, 0x4000, 3, 4, 1, 1, 1, 0, 0, 0, 0, 0, 0⟩ /- CORE_CTRL -/,
   ⟨0x4004, 0x4000, 2, 4, 1, 2, 1, 0, 0, 0, 0, 0, 0⟩ /- CORE_CTRL -/,
   ⟨4, 0x4000, 1, 4, 1, 0x3FC, 1, 0, 0, 0, 0, 0, 0⟩ /- CORE_CTRL -/,
   ⟨8, 0x4000, 3, 4, 1, 1, 0, 0, 0, 0, 0, 0, 0⟩ /- CORE_STAT -/,
   ⟨0x4008, 0x4000, 2, 4, 1, 2, 0, 0, 0, 0, 0, 0, 0⟩ /- CORE_STAT -/,
   ⟨8, 0x4000, 1, 4, 1, 0x3FC, 0, 0, 0, 0, 0, 0, 0⟩ /- CORE_STAT -/,
   ⟨0xC, 0x4000, 3, 4, 1, 1, 0, 0, 0, 0, 0, 0, 0⟩ /- CORE_CAUSE -/,
   ⟨0x400C, 0x4000, 2, 4, 1, 2, 0, 0, 0, 0, 0, 0, 0⟩ /- CORE_CAUSE -/,
   ⟨0xC, 0x4000, 1, 4, 1, 0x3FC, 0, 0, 0, 0, 0, 0, 0⟩ /- CORE_CAUSE -/,
   ⟨0x10, 0x4000, 3, 4, 1, 1, 0, 0x1F, 0, 0, 0, 0, 0⟩ /- CORE_EVT -/,
   ⟨0x4010, 0x4000, 2, 4, 1, 2, 0, 0x1F, 0, 0, 0, 0, 0⟩ /- CORE_EVT -/,
   ⟨0x10, 0x4000, 1, 4, 1, 0x3FC, 0, 0x1F, 0, 0, 0, 0, 0⟩ /- CORE_EVT -/,
   ⟨0x14, 0x4000, 3, 4, 1, 1, 0x1F, 0, 0, 0, 0, 0, 0⟩ /- CORE_EVTEN -/,
   ⟨0x4014, 0x4000, 2, 4, 1, 2, 0x1F, 0, 0, 0, 0, 0, 0⟩ /- CORE_EVTEN -/,
   ⟨0x14, 0x4000, 1, 4, 1, 0x3FC, 0x1F, 0, 0, 0, 0, 0, 0⟩ /- CORE_EVTEN -/,
   ⟨0x18, 0x4000, 3, 4, 1, 1, 0, 0x18, 0, 0, 0, 0, 0⟩ /- CORE_IRQ_PEND -/,
   ⟨0x4018, 0x4000, 2, 4, 1, 2, 0, 0x18, 0, 0, 0, 0, 0⟩ /- CORE_IRQ_PEND -/,
   ⟨0x18, 0x4000, 1, 4, 1, 0x3FC, 0, 0x18, 0, 0, 0, 0, 0⟩ /- CORE_IRQ_PEND -/,
   ⟨0x1C, 0x4000, 3, 4, 1, 1, 0x1F, 0, 0, 0, 0, 0, 0⟩ /- CORE_IRQ_EN -/,
   ⟨0x401C, 0x4000, 2, 4, 1, 2, 0x1F, 0, 0, 0, 0, 0, 0⟩ /- CORE_IRQ_EN -/,
   ⟨0x1C, 0x4000, 1, 4, 1, 0x3FC, 0x1F, 0, 0, 0, 0, 0, 0⟩ /- CORE_IRQ_EN -/,
   ⟨0x20, 0x4000, 3, 4, 1, 1, 0xFFFFFFFF, 0, 0, 0, 0, 0, 0xFFFFFFFF⟩ /- CORE_MTIMECMP_LO -/,
   ⟨0x4020, 0x4000, 2, 4, 1, 2, 0xFFFFFFFF, 0, 0, 0, 0, 0, 0xFFFFFFFF⟩ /- CORE_MTIMECMP_LO -/,
   ⟨0x20, 0x4000, 1, 4, 1, 0x3FC, 0xFFFFFFFF, 0, 0, 0, 0, 0, 0xFFFFFFFF⟩ /- CORE_MTIMECMP_LO -/,
   ⟨0x24, 0x4000, 3, 4, 1, 1, 0xFFFFFFFF, 0, 0, 0, 0, 0, 0xFFFFFFFF⟩ /- CORE_MTIMECMP_HI -/,
   ⟨0x4024, 0x4000, 2, 4, 1, 2, 0xFFFFFFFF, 0, 0, 0, 0, 0, 0xFFFFFFFF⟩ /- CORE_MTIMECMP_HI -/,
   ⟨0x24, 0x4000, 1, 4, 1, 0x3FC, 0xFFFFFFFF, 0, 0, 0, 0, 0, 0xFFFFFFFF⟩ /- CORE_MTIMECMP_HI -/,
   ⟨0x28, 0x4000, 3, 4, 1, 1, 0x8003FFFF, 0, 0, 0, 0, 0, 0⟩ /- CORE_WIN0 -/,
   ⟨0x4028, 0x4000, 2, 4, 1, 2, 0x8003FFFF, 0, 0, 0, 0, 0, 0⟩ /- CORE_WIN0 -/,
   ⟨0x28, 0x4000, 1, 4, 1, 0x3FC, 0x8003FFFF, 0, 0, 0, 0, 0, 0⟩ /- CORE_WIN0 -/,
   ⟨0x2C, 0x4000, 3, 4, 1, 1, 0x8003FFFF, 0, 0, 0, 0, 0, 0⟩ /- CORE_WIN1 -/,
   ⟨0x402C, 0x4000, 2, 4, 1, 2, 0x8003FFFF, 0, 0, 0, 0, 0, 0⟩ /- CORE_WIN1 -/,
   ⟨0x2C, 0x4000, 1, 4, 1, 0x3FC, 0x8003FFFF, 0, 0, 0, 0, 0, 0⟩ /- CORE_WIN1 -/,
   ⟨0x30, 0x4000, 3, 4, 1, 1, 0x3F, 0, 0, 0, 0, 0, 0⟩ /- CORE_KEY -/,
   ⟨0x4030, 0x4000, 2, 4, 1, 2, 0x3F, 0, 0, 0, 0, 0, 0⟩ /- CORE_KEY -/,
   ⟨0x30, 0x4000, 1, 4, 1, 0x3FC, 0x3F, 0, 0, 0, 0, 0, 0⟩ /- CORE_KEY -/,
   ⟨0x34, 0x4000, 3, 4, 1, 1, 0, 0, 0, 0, 0, 0, 0⟩ /- CORE_BUSERR -/]

/-- Registers of page 0x80. -/
def rows80_1 : List RegRow :=
  [⟨0x4034, 0x4000, 2, 4, 1, 2, 0, 0, 0, 0, 0, 0, 0⟩ /- CORE_BUSERR -/,
   ⟨0x34, 0x4000, 1, 4, 1, 0x3FC, 0, 0, 0, 0, 0, 0, 0⟩ /- CORE_BUSERR -/,
   ⟨0x38, 0x4000, 3, 4, 1, 1, 0xFFFFFF, 0, 0x80000000, 0, 0, 0, 0⟩ /- CORE_WDOG_CFG -/,
   ⟨0x4038, 0x4000, 2, 4, 1, 2, 0xFFFFFF, 0, 0x80000000, 0, 0, 0, 0⟩ /- CORE_WDOG_CFG -/,
   ⟨0x38, 0x4000, 1, 4, 1, 0x3FC, 0xFFFFFF, 0, 0x80000000, 0, 0, 0, 0⟩ /- CORE_WDOG_CFG -/,
   ⟨0x3C, 0x4000, 3, 4, 1, 1, 0, 0, 0, 0, 0, 0, 0⟩ /- CORE_WDOG_KICK -/,
   ⟨0x403C, 0x4000, 2, 4, 1, 2, 0, 0, 0, 0, 0, 0, 0⟩ /- CORE_WDOG_KICK -/,
   ⟨0x3C, 0x4000, 1, 4, 1, 0x3FC, 0, 0, 0, 0, 0, 0, 0⟩ /- CORE_WDOG_KICK -/,
   ⟨0x40, 0x4000, 3, 4, 1, 1, 0, 0, 0, 0, 0, 0, 0⟩ /- CORE_WDOG_CNT -/,
   ⟨0x4040, 0x4000, 2, 4, 1, 2, 0, 0, 0, 0, 0, 0, 0⟩ /- CORE_WDOG_CNT -/,
   ⟨0x40, 0x4000, 1, 4, 1, 0x3FC, 0, 0, 0, 0, 0, 0, 0⟩ /- CORE_WDOG_CNT -/,
   ⟨0x44, 0x4000, 3, 4, 1, 1, 0, 0, 0, 0, 0, 0, 0⟩ /- CORE_MB_IN -/,
   ⟨0x4044, 0x4000, 2, 4, 1, 2, 0, 0, 0, 0, 0, 0, 0⟩ /- CORE_MB_IN -/,
   ⟨0x44, 0x4000, 1, 4, 1, 0x3FC, 0, 0, 0, 0, 0, 0, 0⟩ /- CORE_MB_IN -/,
   ⟨0x48, 0x4000, 3, 4, 1, 1, 0, 0, 0, 0xFFFFFFFF, 0, 0, 0⟩ /- CORE_MB_POP -/,
   ⟨0x4048, 0x4000, 2, 4, 1, 2, 0, 0, 0, 0xFFFFFFFF, 0, 0, 0⟩ /- CORE_MB_POP -/,
   ⟨0x48, 0x4000, 1, 4, 1, 0x3FC, 0, 0, 0, 0xFFFFFFFF, 0, 0, 0⟩ /- CORE_MB_POP -/,
   ⟨0x4C, 0x4000, 3, 4, 1, 1, 0, 0, 0, 0, 0, 0, 0⟩ /- CORE_MB_SRC -/,
   ⟨0x404C, 0x4000, 2, 4, 1, 2, 0, 0, 0, 0, 0, 0, 0⟩ /- CORE_MB_SRC -/,
   ⟨0x4C, 0x4000, 1, 4, 1, 0x3FC, 0, 0, 0, 0, 0, 0, 0⟩ /- CORE_MB_SRC -/,
   ⟨0x50, 0x4000, 3, 4, 1, 1, 0, 0, 0, 0, 0, 0, 0⟩ /- CORE_MB_STAT -/,
   ⟨0x4050, 0x4000, 2, 4, 1, 2, 0, 0, 0, 0, 0, 0, 0⟩ /- CORE_MB_STAT -/,
   ⟨0x50, 0x4000, 1, 4, 1, 0x3FC, 0, 0, 0, 0, 0, 0, 0⟩ /- CORE_MB_STAT -/,
   ⟨0x54, 0x4000, 3, 4, 1, 1, 0, 0, 0, 0xFFFFFFFF, 0, 0, 0⟩ /- CORE_SRAM_ERR -/,
   ⟨0x4054, 0x4000, 2, 4, 1, 2, 0, 0, 0, 0xFFFFFFFF, 0, 0, 0⟩ /- CORE_SRAM_ERR -/,
   ⟨0x54, 0x4000, 1, 4, 1, 0x3FC, 0, 0, 0, 0xFFFFFFFF, 0, 0, 0⟩ /- CORE_SRAM_ERR -/,
   ⟨0x80, 4, 1, 4, 1, 1, 0, 0, 0, 0, 0, 0, 0⟩ /- CORE_LOAD -/,
   ⟨0x84, 4, 1, 4, 1, 1, 0, 0, 0, 0, 0, 0, 0⟩ /- CORE_LOADSTAT -/,
   ⟨0x88, 4, 1, 4, 1, 1, 0, 0, 0, 0, 0, 0, 0⟩ /- CORE_HB_CFG -/,
   ⟨0x8C, 4, 1, 4, 1, 1, 0, 0, 0, 0, 0, 0, 0⟩ /- CORE_HB_KICK -/,
   ⟨0x90, 4, 1, 4, 1, 1, 0, 0, 0, 0, 0, 0, 0⟩ /- CORE_HB_STAT -/,
   ⟨0x94, 4, 1, 4, 1, 1, 0, 3, 0, 0, 0xFFFF0003, 0, 0⟩ /- CORE_SAFE -/,
   ⟨0x98, 4, 1, 4, 1, 1, 0, 0, 0, 0, 0, 0, 0⟩ /- CORE_HOSTDB -/]

/-- Registers of page 0x88. -/
def rows88 : List RegRow :=
  [⟨0, 4, 1, 4, 1, 1, 7, 0, 0, 0, 0, 0, 4⟩ /- UCIE_CTRL -/,
   ⟨4, 4, 1, 4, 1, 1, 0, 0, 0, 0, 0, 0, 0⟩ /- UCIE_STAT -/,
   ⟨8, 4, 1, 4, 1, 1, 0, 0x1F, 0, 0, 0, 0, 0⟩ /- UCIE_EVT -/,
   ⟨0xC, 4, 1, 4, 1, 1, 0x1F, 0, 0, 0, 0, 0, 0⟩ /- UCIE_EVTEN -/,
   ⟨0x10, 4, 1, 4, 1, 1, 0, 0, 0, 0, 0, 0, 0⟩ /- UCIE_CMD -/,
   ⟨0x14, 4, 4, 4, 1, 1, 0, 0, 0, 0, 0, 0, 0⟩ /- UCIE_DISC -/,
   ⟨0x24, 4, 1, 4, 1, 1, 0, 0, 0, 0xFFFFFFFF, 0, 0, 0⟩ /- UCIE_CRC_CNT -/,
   ⟨0x28, 4, 1, 4, 1, 1, 0, 0, 0, 0xFFFFFFFF, 0, 0, 0⟩ /- UCIE_BLOCK_CNT -/,
   ⟨0x40, 0x10, 4, 4, 1, 1, 0xFFFFF000, 0, 0, 0, 0, 0, 0⟩ /- UCIE_WIN_BASE_LO -/,
   ⟨0x44, 0x10, 4, 4, 1, 1, 0xFFFF, 0, 0, 0, 0, 0, 0⟩ /- UCIE_WIN_BASE_HI -/,
   ⟨0x48, 0x10, 4, 4, 1, 1, 0xFFFFF000, 0, 0, 0, 0, 0, 0⟩ /- UCIE_WIN_LIM_LO -/,
   ⟨0x4C, 0x10, 4, 4, 1, 1, 0xFFFF, 0, 0, 0, 0, 0, 0⟩ /- UCIE_WIN_LIM_HI -/]

/-- Registers of page 0x90. -/
def rows90 : List RegRow :=
  [⟨0, 4, 1, 4, 1, 0x3FC, 0, 0, 0, 0, 0, 0, 0⟩ /- REGIONS_RUN -/,
   ⟨4, 4, 1, 4, 1, 0x3FC, 0, 0, 0, 0, 0, 0, 0⟩ /- REGIONS_FAIL -/,
   ⟨8, 4, 1, 4, 1, 0x3FC, 0, 0x3F, 0, 0, 0, 0, 0⟩ /- REGIONS_EVT -/,
   ⟨0xC, 4, 1, 4, 1, 0x3FC, 0x3F, 0, 0, 0, 0, 0, 0⟩ /- REGIONS_EVTEN -/,
   ⟨0x10, 4, 5, 4, 1, 0x3FC, 0, 0, 0, 0, 0, 0, 0⟩ /- REGIONS_REMAP -/,
   ⟨0x24, 4, 1, 4, 1, 0x3FC, 0, 0, 0, 0, 0, 0, 0⟩ /- REGIONS_CREMAP -/,
   ⟨0x100, 0x20, 24, 4, 1, 0x3FC, 0, 0, 0, 0, 0, 0x18, 0⟩ /- REGIONS_STATE -/,
   ⟨0x104, 0x20, 24, 4, 1, 0x3FC, 0, 0, 0, 0, 0, 0xFFFFFFFF, 0⟩ /- REGIONS_ID -/,
   ⟨0x108, 0x20, 24, 4, 1, 0x3FC, 0, 0, 0, 0xFFFFFFFF, 0, 0, 0⟩ /- REGIONS_SLACK -/,
   ⟨0x10C, 0x20, 24, 4, 1, 0x3FC, 0, 0, 0, 0xFFFFFFFF, 0, 0, 0⟩ /- REGIONS_OVR -/,
   ⟨0x110, 0x20, 24, 4, 1, 0x3FC, 0, 0xFFFF, 0, 0, 0, 0, 0⟩ /- REGIONS_XFIFO -/,
   ⟨0x114, 0x20, 24, 4, 1, 0x3FC, 0, 0, 0, 0, 0, 0, 7⟩ /- REGIONS_ISO -/,
   ⟨0x118, 0x20, 24, 4, 1, 0x3FC, 0, 0, 0, 0, 0, 0, 0⟩ /- REGIONS_CAP -/,
   ⟨0x11C, 0x20, 24, 4, 1, 0x3FC, 0, 0, 0, 0, 0, 0, 0⟩ /- REGIONS_ABORT -/]

/-- The registers of page p (R36); a page outside the table has none. -/
def pageRows (p : Nat) : List RegRow :=
  match p with
  | 0x00 => rows00
  | 0x01 => rows01
  | 0x02 => rows02
  | 0x03 => rows03
  | 0x04 => rows04
  | 0x05 => rows05
  | 0x06 => rows06
  | 0x07 => rows07
  | 0x08 => rows08
  | 0x09 => rows09
  | 0x0A => rows0A_0 ++ rows0A_1
  | 0x0B => rows0B
  | 0x10 => rows10
  | 0x18 => rows18
  | 0x20 => rows20
  | 0x28 => rows28
  | 0x30 => rows30
  | 0x50 => rows50
  | 0x58 => rows58
  | 0x60 => rows60_0 ++ rows60_1
  | 0x68 => rows68
  | 0x70 => rows70
  | 0x74 => rows74
  | 0x76 => rows76
  | 0x78 => rows78
  | 0x80 => rows80_0 ++ rows80_1
  | 0x88 => rows88
  | 0x90 => rows90
  | 0x11 => rows10
  | 0x12 => rows10
  | 0x13 => rows10
  | _ => if 0x30 ≤ p ∧ p ≤ 0x44 then rows30 else []

/-- The dies that carry page p (R36), as a mask of die indices. -/
def pageDies (p : Nat) : Nat :=
  if p ≤ 0x03 ∨ p = 0x0A ∨ p = 0x0B ∨ p = 0x58 ∨ p = 0x60 ∨ p = 0x68 ∨ p = 0x70 ∨ p = 0x78 ∨ p = 0x80 then 0x3FF
  else if p = 0x04 ∨ (0x10 ≤ p ∧ p ≤ 0x13) ∨ p = 0x18 ∨ p = 0x20 ∨ p = 0x28 ∨ (0x30 ≤ p ∧ p ≤ 0x44) then 3
  else if p = 0x05 ∨ (0x07 ≤ p ∧ p ≤ 0x09) ∨ p = 0x50 ∨ p = 0x88 then 1
  else if p = 0x06 then 0x3FD
  else if p = 0x74 ∨ p = 0x76 ∨ p = 0x90 then 0x3FC
  else 0

/-- Whether page p exists on die d (R36). -/
def pageExists (d p : Nat) : Bool := (pageDies p).testBit d

/-- Whether offset `off` of die d is one of the registers of the row. -/
def RegRow.hits (x : RegRow) (d off : Nat) : Bool :=
  x.dies.testBit d && decide (x.off ≤ off) &&
    (let k := off - x.off
     if x.c2 = 1 then decide (k % x.s1 = 0 ∧ k / x.s1 < x.c1)
     else decide (k / x.s1 < x.c1 ∧ k % x.s1 % x.s2 = 0 ∧ k % x.s1 / x.s2 < x.c2))

/-- The row of the register at place r (page * 0x10000 + offset) of die d; none for an unoccupied offset (R8). -/
def regRow (d r : Nat) : Option RegRow :=
  (pageRows (r / 0x10000)).find? (fun x => x.hits d (r % 0x10000))

end Sys2Proof.Machine
end

