-- ==== Sys2Proof/Machine/KMap.lean ====
section
/-! DEFINITION. Reading and writing the sparse tables of the state. A table lists its keys in rising order, and it
lists no key whose value is the default, so that equal tables are equal data. -/

namespace Sys2Proof

/-- The value at key k, where d is what an unlisted key holds. -/
def KMap.lookD {α : Type} (m : KMap α) (k : Nat) (d : α) : α :=
  match m with
  | [] => d
  | (k', v) :: t => if k' = k then v else KMap.lookD t k d

/-- The table without key k. -/
def KMap.del {α : Type} (m : KMap α) (k : Nat) : KMap α :=
  match m with
  | [] => []
  | (k', v) :: t => if k' = k then KMap.del t k else (k', v) :: KMap.del t k

/-- The table with (k, v) put in front of the first larger key. -/
def KMap.ins {α : Type} (m : KMap α) (k : Nat) (v : α) : KMap α :=
  match m with
  | [] => [(k, v)]
  | (k', v') :: t => if k < k' then (k, v) :: (k', v') :: t else (k', v') :: KMap.ins t k v

/-- The table with value v at key k, where d is what an unlisted key holds. -/
def KMap.putD {α : Type} [DecidableEq α] (m : KMap α) (k : Nat) (v d : α) : KMap α :=
  if v = d then KMap.del m k else KMap.ins (KMap.del m k) k v

/-- The value at key k of a table whose default is the type's own. -/
def KMap.look {α : Type} [Inhabited α] (m : KMap α) (k : Nat) : α := KMap.lookD m k default

/-- The table with value v at key k, the default being the type's own. -/
def KMap.put {α : Type} [Inhabited α] [DecidableEq α] (m : KMap α) (k : Nat) (v : α) : KMap α :=
  KMap.putD m k v default

/-- The table without the keys from lo up to, not including, hi. -/
def KMap.dropRange {α : Type} (m : KMap α) (lo hi : Nat) : KMap α :=
  m.filter (fun e => !(decide (lo ≤ e.1) && decide (e.1 < hi)))

/-- The keys rise strictly. -/
def KMap.sorted {α : Type} (m : KMap α) : Bool :=
  match m with
  | [] => true
  | (k, _) :: t => (match t with
    | [] => true
    | (k', _) :: _ => decide (k < k')) && KMap.sorted t

/-- The canonical form: keys rise strictly and no entry holds what an unlisted key holds. -/
def KMap.wfD {α : Type} [DecidableEq α] (m : KMap α) (d : Nat → α) : Bool :=
  KMap.sorted m && m.all (fun e => decide (e.2 ≠ d e.1))

end Sys2Proof
end

