-- ==== Sys2Proof/Machine/State.lean ====
section
/-! DEFINITION. The state of the OV-7160 as plain data. A register of a control page has its home in `regs`, keyed by
die, page and offset; what the manual names that is no register stands in the fields beside it. -/

namespace Sys2Proof.Machine

/-- Why the machine stops: no command of this model raises it (assumption 4); it exists for the interface. Safe. -/
inductive Fault where
  | none_raised
deriving DecidableEq, Repr

/-- Why a command is refused. -/
inductive Refusal where
  /-- Raised by an arm of `exec` whose command has no meaning in the model. Safe: the machine stops. -/
  | notModelled (mnemonic : String)
deriving DecidableEq, Repr

/-! ### Time (02) -/

/-- The timebase count, the tick number, the count of the last boundary, and the period and quiet length of the
current tick (R45, R50, R51, R52). -/
structure Time where
  count : Nat := 0
  num : Nat := 0
  bnd : Nat := 0
  p : Nat := 2048
  q : Nat := 256
deriving DecidableEq, Repr, Inhabited

/-- Whether the timebase and tick generator have not started, run, or have stopped (R45, R46). -/
inductive TbState where
  | off
  | running
  | stopped
deriving DecidableEq, Repr, Inhabited

/-- A change of period: at boundary `at`, P and Q become p and q (R69, R71). -/
structure Change where
  tick : Nat
  p : Nat
  q : Nat
deriving DecidableEq, Repr, Inhabited

/-- A die's Ringlet receiver (R64, R65, R82): locked, whether it ever locked since its reset, the streak of valid
frames, the streak of bad frames, waiting for a countdown of 0, boundaries marked while unlocked, the last boundary it
marked, and the copies of slots 14 and 15. -/
structure RingRx where
  lock : Bool := false
  ever : Bool := false
  good : Nat := 0
  bad : Nat := 0
  wait : Bool := false
  unlocked : Nat := 0
  num : Nat := 0
  bnd : Nat := 0
  countdown : Nat := 0
  flags : Nat := 0
deriving DecidableEq, Repr, Inhabited

/-- The rest of the tick (02): generator state, whether the quiet window of this tick has opened and its
heartbeat check has been made, the pending period
change, the receivers by die, duties of an earlier quiet window still running (die, code), and the time-follower
state of IOS: in sync, holdover, epoch (R74, R76), whether a reload is due (R75). -/
structure TickSt where
  tb : TbState := .off
  quietOpen : Bool := false
  hbDone : Bool := false
  pend : Option Change := none
  rx : KMap RingRx := []
  late : List (Nat × Nat) := []
  sync : Bool := false
  holdover : Bool := false
  epoch : Nat := 0
  reload : Bool := false
deriving DecidableEq, Repr, Inhabited

/-! ### Power, clocks, safe state (15, 19, 22) -/

/-- Supply and clock conditions, the safe state and the pins (R540, R547 to R549, R574, R606): `live` lists the dies out of
reset; `railBad` counts out-of-window samples by die * 8 + rail; `tripped` counts consecutive samples at or above 115 °C by die; `hot` the dies with a sensor not below the throttle threshold; `clkHeld` the reset that a double clock fault holds; `fmLost` the
meters whose measured die was fenced or reset during the gate (R537). -/
structure PwrSt where
  railsGood : Bool := false
  oscReady : Bool := false
  safe : Bool := false
  factory : Bool := false
  refselPin : Nat := 7
  perst : Bool := false
  pwrfailLow : Bool := false
  faultLow : Bool := false
  live : KMap Bool := []
  held : KMap Bool := []
  railBad : KMap Nat := []
  tripped : KMap Nat := []
  hot : KMap Bool := []
  lvlPower : KMap Nat := []
  lvlThermal : KMap Nat := []
  lvlPkg : KMap Nat := []
  avg : KMap (List Nat) := []
  watts : KMap Nat := []
  clkHeld : Bool := false
  fmLost : KMap Bool := []
deriving DecidableEq, Repr, Inhabited

/-! ### Checked arithmetic (04) -/

/-- A CMB (R126, R133 to R135): its accumulator, the two carried residues, the second copy of the sign and exponent, ACC_OVF and
FPFLAGS of the value held, and 1 + the tick of its last report. -/
structure CmbBlk where
  acc : BitVec 80 := 0
  r0 : Byte := 0
  r1 : Byte := 0
  dup : BitVec 9 := 0
  ovf : Bool := false
  flags : BitVec 4 := 0
  told : Nat := 0
deriving DecidableEq, Repr, Inhabited

/-- A report of a column collector (R141, R142): column, row, the kinds that failed, mode, local region, tick, and whether the sticky
bit was clear at detection. -/
structure CmbReport where
  col : Nat
  row : Nat
  kinds : List Nat
  mode : Nat
  region : Nat
  tick : Nat
  fresh : Bool
deriving DecidableEq, Repr, Inhabited

/-- The CMBs by (die * 13 + column) * 512 + row, reports on their way and record FIFOs by die (R143). -/
structure CmbSt where
  blk : KMap CmbBlk := []
  report : KMap (List CmbReport) := []
  fifo : KMap (List CmbReport) := []
deriving DecidableEq, Repr, Inhabited

/-! ### Fabric memories (05) -/

/-- A stored word: 64 data bits of a valid codeword and the mask of its 72 stored bits that are wrong (bits 0-63 data,
64-71 check); R161 gives what a mask of one, two or more bits does. -/
structure MemWord where
  data : BitVec 64 := 0
  err : BitVec 72 := 0
deriving DecidableEq, Repr, Inhabited

/-- What a block holds beside its words: in retention or waking (R168, R169), the reports made (R179), the spare rows
assigned and pending (R172). -/
structure BlkSt where
  asleep : Bool := false
  ceSeen : Bool := false
  ueSeen : Bool := false
  ce : Nat := 0
  used : List Nat := []
  pend : List Nat := []
deriving DecidableEq, Repr, Inhabited

/-- A report on its way to the die's error block (R173): type, column, row, kind, source, region, word, bit, tick. -/
structure MemReport where
  deep : Bool
  col : Nat
  row : Nat
  kind : Nat
  source : Nat
  region : Nat
  word : Nat
  bit : Nat
  tick : Nat
deriving DecidableEq, Repr, Inhabited

/-- The fabric memories: words by block and address, blocks, reports on their way and the record FIFO by die (R174),
window requests waiting by die (R176, R177). -/
structure MemSt where
  word : KMap MemWord := []
  blk : KMap BlkSt := []
  report : KMap (List MemReport) := []
  fifo : KMap (List MemReport) := []
  window : KMap (List (Hdr × List Line)) := []
deriving DecidableEq, Repr, Inhabited

/-! ### The network (06) -/

/-- What a router holds beside the registers (R207, R209): the ports fenced (bit 0 west, 1 east, 2 south, 3 north), its
largest completion offset and its overruns. -/
structure RouterSt where
  fenced : Nat := 0
  slack : Nat := 0
  ovr : Nat := 0
deriving DecidableEq, Repr, Inhabited

/-- Where a packet of an interface stands: held for admission (R215), in flight, answered with RETRY (R205), done, or
waiting behind others of its queue and target (R205). -/
inductive NiPhase where
  | held
  | flight
  | retry
  | done
  | wait
deriving DecidableEq, Repr, Inhabited

/-- A packet of a request in a network interface: its header and lines, where it stands, RETRY answers, and the answer. -/
structure NiPart where
  hdr : Hdr
  lines : List Line := []
  phase : NiPhase := .wait
  retries : Nat := 0
  status : Nat := 0
  data : List Line := []
deriving DecidableEq, Repr, Inhabited

/-- A request or a fence that a network interface holds (R188, R202, R203): its packets once it has started, its status
when it ended without one, and whether its result is discarded (R291). -/
structure NiEnt where
  req : NocReq
  fence : Bool := false
  started : Bool := false
  parts : List NiPart := []
  status : Nat := 0
  dead : Bool := false
deriving DecidableEq, Repr, Inhabited

/-- The interfaces (R188, R200, R204, R205): requests in issue order, the next seq by initiator * 32 + queue, the streams whose
next request carries reissue, the retry flags of the targets, and the requests that a target has taken and not answered, with the
latency and the bytes that its statistics count (R236). -/
structure NetSt where
  ents : List NiEnt := []
  seq : KMap Nat := []
  force : KMap Bool := []
  flag : KMap Bool := []
  taken : KMap (Option (Nat × Nat)) := []
deriving DecidableEq, Repr, Inhabited

/-! ### Scheduled traffic and probes (07) -/

/-- The reservation banks (R211, R212): entries by (die * 2 + bank) * 4096 + index, header P, Q, CRC by die * 2 + bank, the
active bank by die; the flits spent in this tick by die * 4096 + index (R214); the swap arm under check and its dies still
checking, and the swap pending (R220). -/
structure SchSt where
  entry : KMap (BitVec 128) := []
  hdr : KMap (Nat × Nat × Nat) := []
  active : KMap Nat := []
  spent : KMap Nat := []
  arm : Option Nat := none
  checking : List Nat := []
  pend : Option Nat := none
deriving DecidableEq, Repr, Inhabited

/-- A probe (R231, R232): its FIFO of entries with their indices, whether entries were lost before the next one, whether the
next one is the first after the trigger, and the entries that remain after it. -/
structure ProbeSt where
  fifo : List (Nat × BitVec 256) := []
  gap : Bool := false
  trig : Bool := false
  left : Nat := 0
deriving DecidableEq, Repr, Inhabited

/-- A statistics entry (R235, R236). -/
structure StatEnt where
  used : Bool := false
  pinned : Bool := false
  id : Nat := 0
  req : Nat := 0
  rdb : Nat := 0
  wrb : Nat := 0
  latsum : Nat := 0
  latmax : Nat := 0
  retry : Nat := 0
  error : Nat := 0
  since : Nat := 0
deriving DecidableEq, Repr, Inhabited

/-! ### Corug links and the accessory site (08) -/

/-- One end of a stream channel (R244 to R248): its link ID and the local region bound to it, the words in its receive FIFO
(DATA, SB, LAST), the words taken, the far end's count of words taken, and whether the last delivered word had LAST. -/
structure ChanSt where
  link : Option Word := none
  region : Option Nat := none
  fifo : List (BitVec 273) := []
  taken : Nat := 0
  acked : Nat := 0
  atLast : Bool := true
deriving DecidableEq, Repr, Inhabited

/-- What the Corug ports hold: the edge being trained by die (edge + 1; 0 none), edges fenced by their own die's reset (R616) by
die * 4 + edge, channel ends by ((die * 32 + module) * 2 + channel) * 2 + (1 receive), the last credit counts and the spare
swaps under way by die * 32 + module, and the dies that have left a reset since their status link fenced (R615). -/
structure CorugSt where
  train : KMap Nat := []
  born : KMap Bool := []
  chan : KMap ChanSt := []
  credit : KMap (BitVec 32) := []
  swap : KMap Bool := []
  linkReset : KMap Bool := []
deriving DecidableEq, Repr, Inhabited

/-- The UCIe bridge (R259 to R264): the partner was admitted with the die 10 window forwarded; it may initiate; its key
index; and by virtual channel whether a packet is open. -/
structure AccSt where
  opened : Bool := false
  initiates : Bool := false
  key : Nat := 0
  openVc : List Bool := [false, false, false, false]
deriving DecidableEq, Repr, Inhabited

/-! ### Serial lanes and the host endpoint (09) -/

/-- What a logical lane holds beside its registers (R274 to R282): the configuration of its last start, the taps it started from, the
outcomes of the last requests, its training seq, whether a valid training block came, how many with ready came, whether its
own receiver is ready and its rounds without a better margin; the streak of valid headers while hunting, the last headers
while locked (true valid), the bit offset, the count of its last align block, and whether no word went out since bundle-up. -/
structure LaneSt where
  cfg : Word := 0
  startPre : Nat := 0
  startPost : Nat := 0
  stPre : Nat := 0
  stPost : Nat := 0
  seq : Nat := 0
  valid : Bool := false
  ready : Nat := 0
  own : Bool := false
  rounds : Nat := 0
  count : Nat := 0
  window : List Bool := []
  slip : Nat := 0
  align : Option Nat := none
  fresh : Bool := false
deriving DecidableEq, Repr, Inhabited

/-- The lanes by die * 80 + logical lane, the lane that each spare serves (lane + 1; 0 none) by die * 4 + spare (R286), and
whether this start runs lanes from the board table (R279). -/
structure LqSt where
  lane : KMap LaneSt := []
  spare : KMap Nat := []
  board : Bool := false
deriving DecidableEq, Repr, Inhabited

/-- The endpoint (R291, R292, R427): the image's values of its page by place, the shell host region (device region + 1), how long
after the later of PERST# release and the end of S9 the BARs decode, as the last release gave it, and the count from which
they decode. -/
structure PcieSt where
  image : KMap Word := []
  host : Nat := 0
  barAfter : Option Nat := none
  barFrom : Option Nat := none
deriving DecidableEq, Repr, Inhabited

/-! ### Itastea (10) -/

/-- What a port holds beside its registers (R303 to R314, R319): valid HELLOs counted in LINKUP, the seq expected and
whether a NAK for it went out, the next seq, the frames not yet acknowledged, replays without progress, buffers in
use at the far end by kind (event, request, response, command) and the counts last reported, own counts of buffers
freed, frames waiting for credit, the next tseq, the child's calibration start (tseq, t1), the last arrivals of a
TSYNC (tseq, stamp), the parent's t2 (tseq, stamp), the child's largest reported route latency, the ID granted to the child, and a grant taken:
join tick J and the count at it. -/
structure ItaPort where
  hellos : Nat := 0
  rxSeq : Nat := 0
  nakSent : Bool := false
  txSeq : Nat := 0
  unacked : List (Nat × ItaMsg) := []
  replays : Nat := 0
  used : List Nat := [0, 0, 0, 0]
  seen : List Nat := [0, 0, 0, 0]
  freed : List Nat := [0, 0, 0, 0]
  waiting : List ItaMsg := []
  tseq : Nat := 0
  calStart : Option (Nat × Nat) := none
  arrival : Option (Nat × Nat) := none
  calT2 : Option (Nat × Nat) := none
  repR : Nat := 0
  child : Option Nat := none
  grant : Option (Nat × Nat) := none
deriving DecidableEq, Repr, Inhabited

/-- An accepted event waiting for boundary act (R330 to R332): its action and parameter word as read from the ERT, and
the message. -/
structure PendEv where
  act : Nat
  action : Nat
  param : Word
  msg : EvMsg
deriving DecidableEq, Repr

/-- A remote request outstanding at the source bridge (R335): the port, the tag, and the request's header. -/
structure Remote where
  port : Nat
  tag : Nat
  hdr : Hdr
deriving DecidableEq, Repr

/-- What the device holds for Itastea: the ports, the ERT (word 0, word 1), the member and cluster routes (port + 1; 0
empty), local events not yet forwarded, pending events, the Hawkmoth event FIFO, remote requests outstanding, the ID
mode and horizon of the device header, whether a period change was armed or cancelled since the last boundary
(R311), and the last time frame of the upstream port (tick number, count, P, Q). -/
structure ItaSt where
  port : KMap ItaPort := []
  ert : KMap (BitVec 64) := []
  member : KMap Nat := []
  cluster : KMap Nat := []
  localEv : Nat := 0
  pend : List PendEv := []
  hev : List EvMsg := []
  remote : List Remote := []
  announce : Bool := false
  lastUp : Option (Nat × Nat × Nat × Nat) := none
deriving DecidableEq, Repr, Inhabited

/-! ### DRAM (11) -/

/-- An interleave set in effect (R346). -/
structure DdrSet where
  base : Nat
  size : Nat
  ways : Nat
  grain : Nat
  cbase : Nat
  chan : List Nat
deriving DecidableEq, Repr, Inhabited

/-- A 64-byte line of a DIMM (R342, R352): its data, as plain data where a protected range mixes it; whether it has been written since
the DIMM was powered; whether it holds an uncorrectable error. -/
structure DramLine where
  data : BitVec 512 := 0
  known : Bool := false
  bad : Bool := false
deriving DecidableEq, Repr, Inhabited

/-- What has happened to many lines at once, newest first: lines lo to hi - 1 of channel c hold zero (a sweep, R367, R368), or are
lost; a row of channel c is lost (R360), the row given with the ranks and lines per row that name it. -/
inductive Fill where
  | zero (c lo hi : Nat)
  | lost (c lo hi : Nat)
  | lostRow (c ranks lines key : Nat)
deriving DecidableEq, Repr, Inhabited

/-- What a channel holds beside its registers (R342 to R345, R357, R360): its SPD, the grade it trains at, whether it trains for S11,
the count of the last ALERT#, the row to repair, the last readings of its DIMMs as they count (0 none) and their failed
reads. -/
structure DdrChan where
  spd : Option Spd := none
  grade : Nat := 0
  s11 : Bool := false
  alert : Option Nat := none
  ppr : Option PprRow := none
  temp : List Nat := [0, 0]
  fails : List Nat := [0, 0]
deriving DecidableEq, Repr, Inhabited

/-- A record of a channel (R353, R361): kind, line, device, pin, tick. -/
structure DdrRec where
  kind : Nat
  line : Nat
  device : Nat
  pin : Nat
  tick : Nat
deriving DecidableEq, Repr, Inhabited

/-- DRAM: the interleave table in effect and the one committed for the next boundary (R346 to R348), the lines by channel * 2^33 + line, the
fills, the channels, their record FIFOs, the grade of the start, the refreshes owed (R355), the hot state decisions
waiting for their boundary (R357). -/
structure DdrSt where
  sets : List (Option DdrSet) := []
  next : Option (List (Option DdrSet)) := none
  line : KMap DramLine := []
  fill : List Fill := []
  chan : KMap DdrChan := []
  fifo : KMap (List DdrRec) := []
  grade : Nat := 0
  owed : Nat := 0
  hotAt : List (Nat × Bool) := []
deriving DecidableEq, Repr, Inhabited

/-! ### Memory integrity (12) -/

/-- A record of a MIU (R384, R385). -/
structure MiuRec where
  kind : Nat
  range : Nat
  chan : Nat
  hdr : Hdr
  tick : Nat
deriving DecidableEq, Repr, Inhabited

/-- A request that waits for metadata (R382). -/
structure MiuWait where
  chan : Nat
  hdr : Hdr
  lines : List Line
  dimm : DramIn
deriving DecidableEq, Repr, Inhabited

/-- The MIUs: counter lines by (range * 8 + channel) * 2^28 + page (R372); the metadata caches (1 clean, 2 modified) by ((channel * 16 +
range) * 16 + level) * 2^28 + index, level 15 the tag lines (R377); failed first fetches by the same key (R378); lines
whose tag was lost by the key of their tag line (R378); requests waiting; the sweep under way (range, enable); the record
FIFOs by die. -/
structure MiuSt where
  ctr : KMap (BitVec 512) := []
  cache : KMap Nat := []
  tries : KMap Bool := []
  noTag : KMap (BitVec 16) := []
  wait : List MiuWait := []
  sweep : Option (Nat × Bool) := none
  fifo : KMap (List MiuRec) := []
deriving DecidableEq, Repr, Inhabited

/-! ### The record service (13) -/

/-- What a port does at its next record boundary (R394, R398): binds an entry, unbinds, or drops for a reason. -/
inductive RecWant where
  | bind (entry : Nat)
  | unbind
  | drop (reason : Nat)
deriving DecidableEq, Repr, Inhabited

/-- An open record (R387 to R390): its number, whether its words are discarded and how many there are, the line count it starts at, the
payload words so far, lines issued beyond the first, SB[15:2] of the first word, the count and tick of its arrival,
suspect, continued. -/
structure RecOpen where
  id : Nat
  drop : Bool := false
  n : Nat := 0
  start : Nat := 0
  payload : List (BitVec 256) := []
  issued : Nat := 1
  sb : Nat := 0
  count : Nat := 0
  tick : Nat := 0
  suspect : Bool := false
  cont : Bool := false
deriving DecidableEq, Repr, Inhabited

/-- A record not committed yet (R388, R396): its number, entry, line count, lines, tick, writes unanswered, closed. -/
structure RecRef where
  id : Nat
  entry : Nat
  start : Nat
  lines : Nat := 0
  tick : Nat := 0
  left : Nat := 0
  closed : Bool := false
deriving DecidableEq, Repr, Inhabited

/-- A record port (R386 to R397): the entry bound, what it does at the next boundary, the line count of the next record, the next record's
number, whether the next record is continued, the open record, records not committed, writes not answered (record, lines). -/
structure RecPort where
  entry : Option Nat := none
  want : Option RecWant := none
  at_ : Nat := 0
  next : Nat := 0
  cont : Bool := false
  open_ : Option RecOpen := none
  recs : List RecRef := []
  sent : List (Nat × Nat) := []
deriving DecidableEq, Repr, Inhabited

/-- A directory entry (R392): state 0 FREE, 1 IDLE, 2 BOUND, 3 FULL, 4 LOST; the committed records it holds, oldest first, as lines and
tick. -/
structure DirEnt where
  base : Nat := 0
  size : Nat := 0
  state : Nat := 0
  fill : Bool := false
  engine : Bool := false
  port : Nat := 0
  key : Nat := 0
  next : Nat := 0
  oldest : Nat := 0
  commit : Nat := 0
  records : Nat := 0
  tOld : Nat := 0
  tNew : Nat := 0
  held : List (Nat × Nat) := []
deriving DecidableEq, Repr, Inhabited

/-- The record service: ports by engine * 16 + port; the directory and its mirror; the staged words 0 and 1 of a define; query slots in
the order of their go writes by engine, and what a running query works over, by engine * 64 + slot: the line count it starts at and
the records (lines, tick) committed then; the
flush under way: count of its start. -/
structure RecSt where
  port : KMap RecPort := []
  dir : KMap DirEnt := []
  mirror : KMap DirEnt := []
  stage0 : Word := 0
  stage1 : Word := 0
  queue : KMap (List Nat) := []
  span : KMap (Nat × List (Nat × Nat)) := []
  flush : Bool := false
deriving DecidableEq, Repr, Inhabited

/-! ### Regions and loads (03, 14) -/

/-- A load in progress (R100, R425, R433): the container type it expects, the source (0 NVM A, 1 NVM B, 2 host, 3 DRAM)
and address, the digest that the command carried, the header once accepted, whether its regions fill (2) or wait for
release (3), the segments verified, the regions it clears, settings waiting (die, place, value), and whether it is the
load of S12. -/
structure Load where
  kind : Nat
  src : Nat
  addr : Nat
  digest : Option (BitVec 384)
  hdr : Option Header := none
  phase : Nat := 0
  done : List Nat := []
  clear : List Nat := []
  settings : List (Nat × Nat × Word) := []
  atS12 : Bool := false
deriving DecidableEq, Repr, Inhabited

/-- The fabric's hidden state: the load in progress, requests accepted by the logic of a region and not yet answered
(R100, R101) by device region, the engines that accept frames (R167) by die, configuration frames by die and physical
place, the staging halves' words (R431), container bytes pushed through staging, and a host-source load that waits for
staging to open (R431). -/
structure FabSt where
  load : Option Load := none
  waiting : KMap (List Hdr) := []
  engReady : KMap Bool := []
  frame : KMap (BitVec 4096) := []
  stage : KMap Word := []
  staged : Nat := 0
deriving DecidableEq, Repr, Inhabited

/-! ### The journal (15) -/

/-- A journal record (R454): its start number, step, kind (0 step, 1 checkpoint, 2 clock fault), attempt, outcome, variant, the time
stamp, detail, governor delay, and the counter of a checkpoint or the sticky bits of a clock fault. -/
structure JRec where
  start : Nat := 0
  step : Nat := 0
  kind : Nat := 0
  attempt : Nat := 0
  outcome : Nat := 0
  variant : Nat := 0
  ts : Nat := 0
  detail : Nat := 0
  delay : Nat := 0
  value : Nat := 0
deriving DecidableEq, Repr, Inhabited

/-- A sector of the journal (R453, R457): its header when valid (erase count, sequence), the records of slots 1 on, none for one whose
CRC fails, and whether an erase or program of it failed. -/
structure Sector where
  hdr : Option (Nat × Nat) := none
  recs : List (Option JRec) := []
  failed : Bool := false
deriving DecidableEq, Repr, Inhabited

/-- The journal block (R453 to R459): the buffer of 16 records, the current sector, whether this start has scanned the journal, and
the phase of an ERASE_JOURNAL (0 none, 1 checkpoint, 2 erase). -/
structure JourSt where
  buf : List JRec := []
  cur : Option Nat := none
  scanned : Bool := false
  erase : Nat := 0
deriving DecidableEq, Repr, Inhabited

/-! ### The wake governor (15) -/

/-- The governor (R462 to R464): events waiting with the count of their request, admitted steps of the last microsecond as rail, count and
1/20 A, and the release ramps by die: step, d and T. -/
structure WakeSt where
  queue : List (WakeEv × Nat) := []
  done : List (Nat × Nat × Nat) := []
  ramp : KMap (Nat × Nat × Nat) := []
deriving DecidableEq, Repr, Inhabited

/-! ### The start (15) -/

/-- The start sequencer (R438 to R452): the device header in use, the header it came in, its copy (1 or 2; 0 none), S12 has begun or the deferred wait
runs (R431), the release of S15 has taken place, S14 has begun (R319), S9 has ended, and the count from which the personality deadline
counts (R427, R430); the copy that S4 read (1 or 2; 0 none); the reject reasons of the two copies at S5, and the reject and abort
reasons of the step that runs; consecutive failures by step (R444); the delay of the governor in the step, in tb; the record of 100 ms of
S1 made; S12 is deferred to after S14 (R430); the Hawkmoth and Skipper firmware headers with their copy (R472); the S8 of a degraded
start trains the shell edges alone, and the dies with shell regions as that step found them (R449); the wear entries skipped at S12; the dies that do not answer S4. -/
structure StartSt where
  hdr : Option DevHdr := none
  hdrHeader : Option Header := none
  hdrCopy : Nat := 0
  s12 : Bool := false
  released : Bool := false
  mayJoin : Bool := false
  s9 : Bool := false
  deadline : Option Nat := none
  s4Copy : Nat := 0
  rej0 : Nat := 0
  rej1 : Nat := 0
  reject : Nat := 0
  abort : Nat := 0
  fails : List Nat := []
  delay : Nat := 0
  s1rec : Bool := false
  deferred : Bool := false
  hawk : Option Header := none
  skip : Option Header := none
  fwCopy : Nat := 0
  shellS8 : Bool := false
  shellDies : List Nat := []
  s12skip : Nat := 0
  silent : List Nat := []
deriving DecidableEq, Repr, Inhabited

/-! ### Cores (16, 21) -/

/-- The cores (R466 to R483, R575 to R586): instruction and data SRAM words by core * 0x10000 + word, those with an uncorrectable error,
the mailboxes (word, src_id, dbg), the watchdogs (cycles left at a count), the machine timer interrupts pending, the kick of the heartbeat since
the last check, the Skipper being loaded; the boundaries that passed in the current halt are `DBG_Cs_STAT`'s own. -/
structure CoreSt where
  isram : KMap Word := []
  dsram : KMap Word := []
  iue : KMap Bool := []
  due : KMap Bool := []
  mail : KMap (List (Word × Nat × Bool)) := []
  wdog : KMap (Nat × Nat) := []
  mtip : KMap Bool := []
  kicked : Bool := false
  loading : Option Nat := none
deriving DecidableEq, Repr, Inhabited

/-! ### Fuses, keys and commands (17) -/

/-- The fuses (R39, R498 to R502): life-cycle state, moves used between FIELD and SERVICE, key rows burnt (K_cmd, K_bc), root
hash, image key, variant, stepping and unique ID of each die; the spares assigned at manufacture, each as the body of a SPARE_COMMIT
(R115, R520, R521), and the fused values of registers, by die * 0x1000000 + place, that differ from the model's (R120, R519). -/
structure Fuses where
  lc : Nat := 0
  moves : Nat := 0
  rows : List (BitVec 128 × BitVec 128) := []
  rootHash : Option (BitVec 384) := none
  imageKey : Option (BitVec 256) := none
  variant : Nat := 0
  stepping : List Nat := [0x21, 0x21, 0x30, 0x30, 0x30, 0x30, 0x30, 0x30, 0x30, 0x30]
  uids : List Nat := [1, 2, 3, 4, 5, 6, 7, 8, 9, 10]
  spares : List (BitVec 128) := []
  regs : List (Nat × Word) := []
deriving DecidableEq, Repr, Inhabited

/-- The unique ID of die d. -/
def Fuses.uid (x : Fuses) (d : Nat) : BitVec 64 := BitVec.ofNat 64 (x.uids.getD d 0)

/-- The key block (R364, R498, R499, R504): the life-cycle state read at S2, the command keys in use, the key slots, the provisioning words
staged by item * 16 + word, and the words of each item that have been written, as a mask. -/
structure KeySt where
  lc : Nat := 0
  cmd : BitVec 128 := 0
  bc : BitVec 128 := 0
  slot : KMap KeySlot := []
  prov : KMap Word := []
  provSeen : KMap Nat := []
deriving DecidableEq, Repr, Inhabited

/-- A critical command frame as it reached the block (R486), whether it came from the upstream port, and its bytes. -/
structure CmdWait where
  frame : CmdFrame
  up : Bool
  len : Nat := 96
deriving DecidableEq, Repr, Inhabited

/-- An entry of the result log (R505). -/
structure CmdRes where
  cmd : Nat := 0
  reason : Nat := 0
  bcast : Bool := false
  up : Bool := false
  consumed : Bool := false
  tick : Nat := 0
  counter : Nat := 0
  detail : Nat := 0
  target : Nat := 0
deriving DecidableEq, Repr, Inhabited

/-- A fuse burn under way (R494, R502, R504): a key row, a life-cycle state, the provisioned items. -/
inductive Burn where
  | row (cmd bc : BitVec 128)
  | lifeCycle (target : Nat)
  | provision
deriving DecidableEq, Repr

/-- The command block (R486 to R495): the host buffer's words, the submitted frame that waits, the FIFO of 4, frames that the upstream port
holds behind it, the accepted commands that wait for their commit with the key that tagged them, the log (newest first), the checkpoint being
written, the burn under way, a REKEY not finished, and the tick in which a SET_LIFECYCLE has committed. -/
structure CmdSt where
  hbuf : KMap Word := []
  held : Option CmdWait := none
  fifo : List CmdWait := []
  port : List CmdWait := []
  acc : List (CmdWait × BitVec 128) := []
  log : List CmdRes := []
  ckpt : Option Nat := none
  burn : Option Burn := none
  rekey : Bool := false
  ended : Option Nat := none
deriving DecidableEq, Repr, Inhabited

/-! ### Errors, scrubbing and spares (18) -/

/-- A scrubber (R513 to R518): the three copies of its control, and the count at the start of its walk. -/
structure ScrubSt where
  c0 : Word := 0x1404
  c1 : Word := 0x1404
  c2 : Word := 0x1404
  walkAt : Nat := 0
deriving DecidableEq, Repr, Inhabited

/-- The error logs by die, oldest first (word 0, tick) (R509), the scrubbers by die, and wear-map entries waiting to be written
(R524). -/
structure ErrSt where
  log : KMap (List (Nat × Nat)) := []
  scrub : KMap ScrubSt := []
  queue : List (BitVec 128) := []
deriving DecidableEq, Repr, Inhabited

/-- A wear-map copy (R523): sequence and entries. -/
structure WearCopy where
  seq : Nat
  entries : List (BitVec 128)
deriving DecidableEq, Repr, Inhabited

/-- What the flashes hold and the transfer that runs (R421, R422, R437, R523): bytes by flash * 2^30 + address, erased bytes
unlisted; the two wear-map copies, none when not valid; the sectors of the journal. -/
structure NvSt where
  flash : KMap Byte := []
  transfer : Option (Bool × Nat × Nat × Nat) := none
  wear0 : Option WearCopy := none
  wear1 : Option WearCopy := none
  jour : KMap Sector := []
deriving DecidableEq, Repr, Inhabited

/-! ### GPIO and trigger lines (20) -/

/-- What the GPIO blocks hold beside their registers: ERT pulses waiting (line, start, width) and under way (line) (R332, R566),
the lines other cards hold low (R564), timer outputs asserted by die * 8 + unit (R563), and the core port's output levels
and enables by die (R483). -/
structure GpioSt where
  pulse : List (Nat × Nat × Nat) := []
  active : List Nat := []
  ext : Byte := 0
  timerOn : KMap Bool := []
  portOut : KMap (BitVec 64) := []
  portOe : KMap (BitVec 64) := []
deriving DecidableEq, Repr, Inhabited

/-! ### Debug and self-test (21) -/

/-- The debug bus master and the BIST controller (R569 to R573, R590 to R593): the master access outstanding (a write, with its side
effects) and its status and data once it has completed, the last DBGPATH capture (data, completed, refused), the count from which each queued die waits and each running die runs. -/
structure DbgSt where
  bm : Option (Bool × Bool) := none
  bmDone : Option (Nat × Word) := none
  jtag : Word × Bool × Bool := (0, false, false)
  bistAt : KMap Nat := []
deriving DecidableEq, Repr, Inhabited

/-! ### Outputs -/

/-- What a command puts out (assumption 3): the data of a register read; the P, COUT
residues, SUSPECT, ACC_OVF and FPFLAGS of a CMB; the outputs of a memory block's port (data,
RD_ECC, NRDY) and WERR of a write; a packet into the mesh, or out of a router's port (0 west, 1 east, 2 south, 3 north,
4 local); a completion to an initiator (R198); a flit or a stream word that leaves a Corug port; what the
UCIe bridge puts into the mesh or sends to the partner; lane training blocks, blocks delivered and end
markers; a completion to the host (0 OK, 1 Unsupported Request, 2 Completer Abort), bytes written to host memory or to the DRAM of a
peer device, and a descriptor status written back; an
MSI-X message (vector, address, data); an Itastea frame on a port with
its seq; a control block on a port; what a core's access returns, the RISC-V code of the
exception it raises, or that it waits; the status of a register access (R198); a RETRY answer. -/
inductive Out where
  | value (w : Word)
  | cmb (p : BitVec 80) (r0 r1 : Byte) (suspect ovf : Bool) (flags : BitVec 4)
  | memRead (data : BitVec 64) (ecc : Nat) (nrdy : Bool)
  | memWrite (werr : Bool)
  | packet (h : Hdr) (flits : List Flit)
  | route (x y port : Nat) (resp : Bool) (h : Hdr) (flits : List Flit)
  | completion (src queue : Nat) (status : Nat) (lines : List Line)
  | tunnel (die m slot : Nat) (flit : BitVec 616)
  | stream (die m ch : Nat) (word : BitVec 273)
  | ucieFlit (slot : Nat) (flit : BitVec 616)
  | ucieClose (vc : Nat)
  | ucieDiscover
  | ucieAnswer (h : Hdr) (flits : List Flit)
  | laneTrain (die lane count : Nat) (blk : BitVec 64)
  | laneBlock (die lane : Nat) (ctl err first : Bool) (payload : BitVec 64)
  | laneEos (die lane : Nat)
  | hostCpl (status : Nat) (lines : List Line)
  | hostData (addr : Nat) (bytes : List Byte)
  | peerData (dev : Nat) (addr : Nat) (bytes : List Byte)
  | dmaStatus (q index : Nat) (w : Word)
  | msix (vector : Nat) (addrLo addrHi data : Word)
  | ita (port : Nat) (seq : Option Nat) (m : ItaMsg)
  | itaCtl (port : Nat) (blk : BitVec 64)
  | itaAccept (port kind : Nat)
  | evtRx (region : Nat) (m : EvMsg)
  | timerOut (die unit : Nat) (on : Bool)
  | trigger (line : Nat) (pulled : Bool)
  | coreValue (core : Nat) (w : Word)
  | coreTrap (core code : Nat)
  | coreStall (core : Nat)
  | access (status : Nat)
  | retry
deriving DecidableEq, Repr, Inhabited

/-! ### The whole state -/

/-- The OV-7160. -/
structure State where
  regs : KMap Word := []
  time : Time := {}
  tick : TickSt := {}
  pwr : PwrSt := {}
  fab : FabSt := {}
  cmb : CmbSt := {}
  mem : MemSt := {}
  rtr : KMap RouterSt := []
  net : NetSt := {}
  sch : SchSt := {}
  probe : KMap ProbeSt := []
  stats : KMap StatEnt := []
  corug : CorugSt := {}
  acc : AccSt := {}
  lq : LqSt := {}
  pcie : PcieSt := {}
  ddr : DdrSt := {}
  miu : MiuSt := {}
  rec_ : RecSt := {}
  statusFenced : KMap Bool := []
  ita : ItaSt := {}
  start : StartSt := {}
  jour : JourSt := {}
  wake : WakeSt := {}
  cmd : CmdSt := {}
  dbg : DbgSt := {}
  hold : KMap (Option Word) := []
  core : CoreSt := {}
  fuses : Fuses := {}
  keys : KeySt := {}
  err : ErrSt := {}
  nv : NvSt := {}
  gpio : GpioSt := {}
  freeCtr : Nat := 0
  out : List Out := []
  pending : List Instr := []
deriving DecidableEq, Repr, Inhabited

/-- The life-cycle state that the key block holds (R501). -/
def State.lifeCycle (s : State) : Nat := s.keys.lc

/-- The machine right after reset, before power good: nothing listed in any table, so that every register, buffer and
memory holds the value its table's default gives (R13), no command waits, and the generator has not started (R45). The
fuses are as manufactured (assumption 5) and the REFSEL pins read 7 (assumption 7). -/
def State.reset : State := {}

end Sys2Proof.Machine
end

