-- ==== Sys2Proof/Machine/Ops.lean ====
section
/-! DEFINITION. The named operations over registers, time and outputs that every command uses. -/

namespace Sys2Proof.Machine

/-- What every meaning answers. -/
abbrev Res := Host.Outcome State Fault Refusal

/-! ### The frame of every command

A command acts on everything but the queue. Time moves only in the commands of the timebase, and fuses change only in
the commands that burn them; the three runners say so once for all commands. -/

/-- The state with no output: what a command starts from. -/
def State.fresh (s : State) : State := { s with out := [] }

/-- The state after an effect u of a command that began at s: u with the queue, the time and the fuses of s. -/
def State.ended (s u : State) : State := { u with pending := s.pending, time := s.time, fuses := s.fuses }

/-- Run a command's effect: outputs start empty; the queue, the time and the fuses are left as they were. -/
def run (f : State → State) (s : State) : Res := .next (s.ended (f s.fresh))

/-- Run the effect of a command of the timebase: the time becomes what `clock` says; the queue and the fuses are left as they were. -/
def runTime (clock : State → Time) (f : State → State) (s : State) : Res := .next { s.ended (f s.fresh) with time := clock s }

/-- Run the effect of a command that burns fuses: the fuses become what `burn` says; the queue and the time are left as they were. -/
def runFuse (burn : State → Fuses) (f : State → State) (s : State) : Res := .next { s.ended (f s.fresh) with fuses := burn s }

/-! ### Fields of a word -/

/-- Bits [lo+len-1:lo] of a word, as a number. -/
def bitsOf (w : Word) (lo len : Nat) : Nat := w.toNat / 2 ^ lo % 2 ^ len

/-- The word with v (cut to len bits) in bits [lo+len-1:lo]. -/
def putBits (w : Word) (lo len v : Nat) : Word :=
  BitVec.ofNat 32 (w.toNat / 2 ^ (lo + len) * 2 ^ (lo + len) + v % 2 ^ len * 2 ^ lo + w.toNat % 2 ^ lo)

/-! ### The register file -/

/-- The key of place r (page * 0x10000 + offset) of die d. -/
def regKey (d r : Nat) : Nat := d * 0x1000000 + r

/-- The value of a fuse register as manufactured, where the register table's column says "fuse" (assumption 5);
none for a register whose table entry gives a number. -/
def fuseReset (d r : Nat) : Option Word :=
  if d ≥ 2 ∧ (r = REGIONS_REMAP 0 ∨ r = REGIONS_REMAP 1 ∨ r = REGIONS_REMAP 2 ∨ r = REGIONS_REMAP 3 ∨
      r = REGIONS_REMAP 4) then some 0x00003F3F
  else if d ≥ 2 ∧ r = REGIONS_CREMAP then some 0x00000F0F
  else if d ≥ 2 ∧ r / 0x10000 = 0x90 ∧ r % 0x20 = 0x18 ∧ 0x100 ≤ r % 0x10000 ∧ r % 0x10000 < 0x400 then
    some (if r % 0x10000 < 0x240 then 6385 else 6600)
  else if SPARE_AGEB 0 ≤ r ∧ r < SPARE_AGEB 24 then some 0x8000
  else if r = SPARE_POOL then some (if d ≥ 2 then 0x0000003F else 0x000F0000)
  else if r = CORUG_EDGE then
    some (if d < 2 then 0x01010101
      else if d = 2 ∨ d = 6 then 0x01010100
      else if d = 5 ∨ d = 9 then 0x01010001
      else 0x01010101)
  else if r = CORE_ID 0 then some (if d = 0 then 0x10 else if d = 1 then 0 else BitVec.ofNat 32 (d + 3))
  else if r = CORE_ID 1 then some (if d = 0 then 1 else if d = 1 then 3 else 0)
  else if r = CORE_ID 2 then some (if d = 0 then 2 else if d = 1 then 4 else 0)
  else none

/-- The reset value of a register (R13): the table's, or the fuse's. -/
def resetVal (d r : Nat) : Word :=
  match regRow d r with
  | some x => match fuseReset d r with
    | some w => w
    | none => BitVec.ofNat 32 x.reset
  | none => 0

/-- Read the stored value of a register. -/
def State.rd (s : State) (d r : Nat) : Word :=
  KMap.lookD s.regs (regKey d r) (resetVal d r)

/-- Store a value in a register. -/
def State.wr (s : State) (d r : Nat) (v : Word) : State :=
  { s with regs := KMap.putD s.regs (regKey d r) v (resetVal d r) }

/-- Read a field. -/
def State.f (s : State) (d : Nat) (x : Fld) : Nat := bitsOf (s.rd d x.reg) x.lo x.len

/-- Whether a field holds something other than 0. -/
def State.on (s : State) (d : Nat) (x : Fld) : Bool := s.f d x != 0

/-- Store a field. -/
def State.setF (s : State) (d : Nat) (x : Fld) (v : Nat) : State :=
  s.wr d x.reg (putBits (s.rd d x.reg) x.lo x.len v)

/-- Store a one-bit field. -/
def State.setB (s : State) (d : Nat) (x : Fld) (b : Bool) : State := s.setF d x (if b then 1 else 0)

/-- Store several fields of one die. -/
def State.setFs (s : State) (d : Nat) (l : List (Fld × Nat)) : State :=
  match l with
  | [] => s
  | (x, v) :: t => (s.setF d x v).setFs d t

/-- A 64-bit pair of registers, low word first (R7). -/
def State.rd64 (s : State) (d lo hi : Nat) : Nat := (s.rd d lo).toNat + (s.rd d hi).toNat * 2 ^ 32

/-- Store a 64-bit pair, low word first. -/
def State.wr64 (s : State) (d lo hi v : Nat) : State :=
  (s.wr d lo (BitVec.ofNat 32 v)).wr d hi (BitVec.ofNat 32 (v / 2 ^ 32))

/-! ### Outputs and free values -/

/-- Put something out. -/
def State.emit (s : State) (o : Out) : State := { s with out := s.out ++ [o] }

/-- The next free value, and the state with the counter advanced (assumption 2). -/
def State.free (s : State) : BitVec 64 := Config.free s.freeCtr

/-- The state once the next free value has been taken. -/
def State.freeNext (s : State) : State := { s with freeCtr := s.freeCtr + 1 }

/-- Apply a change when a condition holds. -/
def State.when (s : State) (c : Bool) (f : State → State) : State := if c then f s else s

/-- Apply a change for each element of a list, in order. -/
def State.each {α : Type} (s : State) (l : List α) (f : State → α → State) : State := l.foldl f s

/-! ### Time -/

/-- Bits [15:0] of the tick number. -/
def State.tick16 (s : State) : Nat := s.time.num % 0x10000

/-- Bits [31:0] of the tick number. -/
def State.tick32 (s : State) : Nat := s.time.num % 0x100000000

/-- A test period is in effect: P from 16 to 79 (R53). -/
def State.testPeriod (s : State) : Bool := decide (s.time.p < 80)

/-- The generator runs (R45, R46). -/
def State.tbRuns (s : State) : Bool := s.tick.tb == .running

/-- The count of the quiet window's start (R4). -/
def State.qs (s : State) : Nat := s.time.bnd + s.time.p - s.time.q

/-- Duty `code` of an earlier quiet window still runs on die d (R59). -/
def State.lateDuty (s : State) (d code : Nat) : Bool := s.tick.late.contains (d, code)

/-! ### Dies -/

/-- Die d is out of reset (15, R460; R497; R541; R548). -/
def State.live (s : State) (d : Nat) : Bool := KMap.look s.pwr.live d

/-- Die d counts as fenced in the checks that name a die: its status link is fenced at IOS (R511, R615), or it is held
in reset (DEDUCED, assumption 12). -/
def State.dieFenced (s : State) (d : Nat) : Bool := (decide (d ≠ 0) && KMap.look s.statusFenced d) || !s.live d

/-- The state code of local region i of die d (R99). -/
def State.regionState (s : State) (d i : Nat) : Nat := s.f d (REGIONS_STATE_state i)

/-- Give the registers whose keys `hit` names their reset values, but for sticky bits, and for image bits where `keep` says so (R13). -/
def resetRegs (hit keep : Nat → Bool) (m : KMap Word) : KMap Word :=
  match m with
  | [] => []
  | (k, v) :: t =>
    if hit k then
      let d := k / 0x1000000
      let r := k % 0x1000000
      let mask := match regRow d r with
        | some x => BitVec.ofNat 32 (if keep k then x.sticky ||| x.image else x.sticky)
        | none => 0
      let v' := (v &&& mask) ||| (resetVal d r &&& ~~~mask)
      if v' = resetVal d r then resetRegs hit keep t else (k, v') :: resetRegs hit keep t
    else (k, v) :: resetRegs hit keep t

/-- Clear the sticky bits of every register too (R541: loss of VAUX). -/
def clearSticky (m : KMap Word) : KMap Word :=
  m.filter (fun e => match regRow (e.1 / 0x1000000) (e.1 % 0x1000000) with
    | some x => x.sticky == 0
    | none => true)

end Sys2Proof.Machine
end

