-- ==== Sys2Proof/Machine/Flags.lean ====
section
/-! DEFINITION. Event bits, counters and location latches: the flag computations of the pages. -/

namespace Sys2Proof.Machine

/-- Set an event bit (R12). -/
def State.evt (s : State) (d : Nat) (x : Fld) : State := s.setF d x 1

/-- Add n to a counter that saturates at all ones. -/
def State.inc (s : State) (d : Nat) (x : Fld) (n : Nat) : State :=
  s.setF d x (min (s.f d x + n) (2 ^ x.len - 1))

/-- Add n to a 64-bit counter pair that saturates at all ones. -/
def State.inc64 (s : State) (d lo hi n : Nat) : State := s.wr64 d lo hi (min (s.rd64 d lo hi + n) (2 ^ 64 - 1))

/-- Raise a largest-value field to v when v is larger, saturating at all ones. -/
def State.largest (s : State) (d : Nat) (x : Fld) (v : Nat) : State :=
  s.setF d x (min (max (s.f d x) v) (2 ^ x.len - 1))

/-- Set an event bit; a location is latched first when the bit was clear. -/
def State.evtLatch (s : State) (d : Nat) (x : Fld) (loc : State → State) : State :=
  if s.on d x then s.evt d x else (loc s).evt d x

/-- A number saturated at 2^n - 1. -/
def sat (n v : Nat) : Nat := min v (2 ^ n - 1)

/-- A field map for a word: fields given as (lowest bit, value). -/
def packBits (l : List (Nat × Nat)) : Word := BitVec.ofNat 32 (l.foldl (fun a e => a + e.2 * 2 ^ e.1) 0)

end Sys2Proof.Machine
end

