-- ==== Sys2Proof/Machine/Operands.lean ====
section
/-! DEFINITION. The operand forms: who an initiator is, and which router, endpoint, page or window an address names. -/

namespace Sys2Proof.Machine

/-- The Hawkmoth, initiator 0x001 (R185). -/
def isHawkmoth (i : Init) : Bool := i == 0x001#12

/-- The debug bus master, initiator 0x004 (R569). -/
def isDebugMaster (i : Init) : Bool := i == 0x004#12

/-- The PCI Express host, initiator 0x018 (R185). -/
def isHost (i : Init) : Bool := i == 0x018#12

/-- The die of an initiator. -/
def initDie (i : Init) : Nat := i.toNat / 256

/-- The endpoint of an initiator on its die. -/
def initEp (i : Init) : Nat := i.toNat % 256

/-- The Skipper of fabric die d, endpoint 0x01 (R185). -/
def isSkipperOf (i : Init) (d : Nat) : Bool := decide (2 ≤ d) && decide (initDie i = d) && decide (initEp i = 1)

/-- The memory agent of I/O die d, endpoint 0x03. -/
def isMemAgentOf (i : Init) (d : Nat) : Bool := decide (d < 2) && decide (initDie i = d) && decide (initEp i = 3)

/-- The lane agent of I/O die d, endpoint 0x02. -/
def isLaneAgentOf (i : Init) (d : Nat) : Bool := decide (d < 2) && decide (initDie i = d) && decide (initEp i = 2)

/-- A core of die d (R466): Hawkmoth or Skipper, lane agent, memory agent. -/
def isCoreOf (i : Init) (d : Nat) : Bool :=
  decide (initDie i = d) && ((decide (initEp i = 1) && decide (d ≠ 1)) || (decide (d < 2) && (decide (initEp i = 2) || decide (initEp i = 3))))

/-- The core number of the core in slot k of die d (R466). -/
def coreNum (d k : Nat) : Nat := if d = 0 then k else if d = 1 then k + 2 else d + 3

/-- The die of core c (R466). -/
def coreDie (c : Nat) : Nat := if c ≤ 2 then 0 else if c ≤ 4 then 1 else c - 3

/-- The slot of core c in its die's core page (R485). -/
def coreSlot (c : Nat) : Nat := if c ≤ 2 then c else if c ≤ 4 then c - 2 else 0

/-- The endpoint of core c (R466). -/
def coreEp (c : Nat) : Nat := if c ≤ 2 then c + 1 else if c ≤ 4 then c - 1 else 1

/-- The initiator ID of core c. -/
def coreInit (c : Nat) : Nat := coreDie c * 256 + coreEp c

/-- The die index of router (x, y) (R19). -/
def dieIndex (x y : Nat) : Nat :=
  if y = 0 then 0 else if y = 9 then 1 else if y ≤ 4 then 2 + x / 4 else 6 + x / 4

/-- The first router column of fabric die d (R19). -/
def dieX (d : Nat) : Nat := 4 * ((d - 2) % 4)

/-- The first router row of die d (R19, R185). -/
def dieY (d : Nat) : Nat := if d = 0 then 0 else if d = 1 then 9 else if d < 6 then 1 else 5

/-- The local router row of region row j (R107). -/
def regionRouterRow (j : Nat) : Nat :=
  match j with
  | 0 => 0
  | 1 => 1
  | 2 => 1
  | 3 => 2
  | 4 => 2
  | _ => 3

/-- The router of endpoint ep of die d (R107, R185); none where no endpoint exists. -/
def epRouter (d ep : Nat) : Option (Nat × Nat) :=
  let y := dieY d
  if d < 2 then
    if ep = 0 ∨ (ep = 1 ∧ d = 0) ∨ (ep = 4 ∧ d = 0) then some (0, y)
    else if ep = 2 ∨ ep = 3 then some (12, y)
    else if 8 ≤ ep ∧ ep < 12 then some (4 * (ep - 8) + 2, y)
    else if ep = 0x10 ∨ ep = 0x11 then some (7, y)
    else if d = 0 ∧ (ep = 0x18 ∨ (0x20 ≤ ep ∧ ep < 0x40)) then some (1, 0)
    else if 0x60 ≤ ep ∧ ep < 0x64 then some (13, y)
    else if d = 0 ∧ ep = 0x68 then some (15, 0)
    else if 0x80 ≤ ep ∧ ep < 0x90 then some (ep - 0x80, y)
    else none
  else if d < 10 then
    let x := dieX d
    if ep = 0 ∨ ep = 1 then some (x, y)
    else if ep = 5 then some (x + 1, y)
    else if 0x40 ≤ ep ∧ ep < 0x58 then some (x + (ep - 0x40) % 4, y + regionRouterRow ((ep - 0x40) / 4))
    else if ep = 0x70 then some (x + 2, y)
    else if 0x80 ≤ ep ∧ ep < 0x84 then some (x + (ep - 0x80), y)
    else none
  else none

/-- Whether endpoint ep of die d is a target (R185). -/
def isTarget (d ep : Nat) : Bool :=
  (epRouter d ep).isSome &&
    (decide (ep = 0) || decide (ep = 1) || decide (ep = 2) || decide (ep = 3) || (decide (8 ≤ ep) && decide (ep < 12)) ||
      decide (ep = 0x10) || (decide (0x40 ≤ ep) && decide (ep < 0x58)) || (decide (0x60 ≤ ep) && decide (ep < 0x64)) ||
      decide (ep = 0x68) || decide (ep = 0x70))

/-- The dies other than IOS, in index order. -/
def otherDies : List Nat := [1, 2, 3, 4, 5, 6, 7, 8, 9]

/-- All dies. -/
def allDies : List Nat := [0, 1, 2, 3, 4, 5, 6, 7, 8, 9]

/-- The fabric dies. -/
def fabDies : List Nat := [2, 3, 4, 5, 6, 7, 8, 9]

/-- Device region number of local region i of die d (R94). -/
def devRegion (d i : Nat) : Nat := (d - 2) * 24 + i

/-- The die of device region r. -/
def regionDie (r : Nat) : Nat := 2 + r / 24

/-- The local index of device region r. -/
def regionLocal (r : Nat) : Nat := r % 24

end Sys2Proof.Machine
end

