-- ==== Sys2Proof/Machine/Events.lean ====
section
/-! DEFINITION. Notices that leave the device: MSI-X vectors (R289, R296) and Itastea event messages (R325 to R332), with
the sending side of an Itastea port (R304 to R306). -/

namespace Sys2Proof.Machine

/-! ### MSI-X -/

/-- Raise MSI-X vector v: while the link is up it is sent, or, masked in its table entry, marked in the pending-bit
array (R296). -/
def raiseMsix (v : Nat) (s : State) : State :=
  if !s.on 0 PCIE_STAT_up then s
  else if bitsOf (s.rd 0 (PCIE_MSIX_TBL (4 * v + 3))) 0 1 = 1 then
    s.wr 0 (PCIE_MSIX_PBA (v / 32)) (s.rd 0 (PCIE_MSIX_PBA (v / 32)) ||| BitVec.ofNat 32 (2 ^ (v % 32)))
  else s.emit (.msix v (s.rd 0 (PCIE_MSIX_TBL (4 * v))) (s.rd 0 (PCIE_MSIX_TBL (4 * v + 1))) (s.rd 0 (PCIE_MSIX_TBL (4 * v + 2))))

/-! ### Itastea ports -/

/-- The die of port p (R299). -/
def portDie (p : Nat) : Nat := p / 4

/-- A field of port p's registers, the field given by local port. -/
def State.pf (s : State) (p : Nat) (x : Nat → Fld) : Nat := s.f (portDie p) (x (p % 4))

/-- Store a field of port p's registers. -/
def State.setPf (s : State) (p : Nat) (x : Nat → Fld) (v : Nat) : State := s.setF (portDie p) (x (p % 4)) v

/-- Add n to a counter of port p. -/
def State.incPf (s : State) (p : Nat) (x : Nat → Fld) (n : Nat) : State := s.inc (portDie p) (x (p % 4)) n

/-- What port p holds beside its registers. -/
def State.port (s : State) (p : Nat) : ItaPort := KMap.look s.ita.port p

/-- Store what port p holds. -/
def State.setPort (s : State) (p : Nat) (x : ItaPort) : State :=
  { s with ita := { s.ita with port := KMap.put s.ita.port p x } }

/-- The state code of port p (`ITA_Pq_STAT.state`, R308): 0 OFF, 1 TRAINING, 2 LINKUP, 3 JOINING, 4 UP, 5 DOWN. -/
def State.portState (s : State) (p : Nat) : Nat := s.pf p ITA_P_STAT_state

/-- The role of port p: 0 upstream, 1 downstream, 2 peer (R300). -/
def State.portRole (s : State) (p : Nat) : Nat := s.pf p ITA_P_CFG_role

/-- The eight ports. -/
def allPorts : List Nat := [0, 1, 2, 3, 4, 5, 6, 7]

/-- The upstream path: a port, 8 the host, 15 before S5 (R300). -/
def State.upstream (s : State) : Nat := s.f 0 ITA_ID_upstream

/-- The device has an upstream Itastea port. -/
def State.hasUpPort (s : State) : Bool := decide (s.upstream < 8)

/-- The device's own ID. -/
def State.devId (s : State) : Nat := s.f 0 ITA_ID_id

/-- The cluster number of a device ID (R315). -/
def clusterOf (id : Nat) : Nat := id / 64

/-- The kind of a frame (R304). -/
def ItaMsg.kind (m : ItaMsg) : Nat :=
  match m with
  | .time _ => 0
  | .event _ => 1
  | .memReq _ => 2
  | .memRsp _ => 3
  | .command _ => 4
  | .mgmt _ => 5

/-- The place of a sequenced kind in the cumulative counts of an ACK: events, requests, responses, commands (R303). -/
def kindSlot (k : Nat) : Nat := k - 1

/-- The receive buffers of a sequenced kind (R304). -/
def kindBuffers (k : Nat) : Nat := if k = 4 then 4 else 64

/-- Element i of a list of numbers, 0 outside it. -/
def nth (l : List Nat) (i : Nat) : Nat := l.getD i 0

/-- The list with element i replaced. -/
def setNth (l : List Nat) (i v : Nat) : List Nat := l.set i v

/-- A port takes frames for sending: UP, or on the way there (R308); LINKUP and JOINING carry unsequenced frames. -/
def State.portSends (s : State) (p : Nat) : Bool := decide (2 ≤ s.portState p) && decide (s.portState p ≤ 4)

/-- Send a frame on port p: an unsequenced kind at once; a sequenced kind numbered and kept for replay while its kind has a
credit and fewer than 128 frames are unacknowledged, and otherwise waiting (R304 to R306). -/
def itaSend (p : Nat) (m : ItaMsg) (s : State) : State :=
  let k := m.kind
  let x := s.port p
  if k = 0 ∨ k = 5 then
    if s.portSends p then s.emit (.ita p none m) else s
  else if s.portState p ≠ 4 then s
  else
    let i := kindSlot k
    if nth x.used i < kindBuffers k ∧ x.unacked.length < 128 then
      (s.setPort p { x with txSeq := (x.txSeq + 1) % 4096, unacked := x.unacked ++ [(x.txSeq, m)],
                            used := setNth x.used i (nth x.used i + 1) }).emit (.ita p (some x.txSeq) m)
    else s.setPort p { x with waiting := x.waiting ++ [m] }

/-! ### Events (R325 to R332) -/

/-- The timebase count of boundary n, n after the current tick, with a pending change taken into account (R71). -/
def State.boundaryCount (s : State) (n : Nat) : Nat :=
  match s.tick.pend with
  | some c =>
    if c.tick < n then s.time.bnd + (c.tick - s.time.num) * s.time.p + (n - c.tick) * c.p
    else s.time.bnd + (n - s.time.num) * s.time.p
  | none => s.time.bnd + (n - s.time.num) * s.time.p

/-- Count an event dropped for space or range (R326, R331, R332). -/
def eventOverflow (s : State) : State := (s.inc 0 ITA_EV_OVF_value 1).evt 0 ITA_EVT_overflow

/-- Forward an event on the upstream port and all downstream ports but the one it came from; a cluster-scope event not
over a link whose far end has another cluster number (R327). -/
def eventForward (src : Nat) (m : EvMsg) (s : State) : State :=
  s.each allPorts (fun s p =>
    if p ≠ src ∧ s.portState p = 4 ∧ s.portRole p ≤ 1 ∧
        (m.cluster = false ∨ clusterOf (s.pf p ITA_P_STAT_far_id) = clusterOf s.devId) then itaSend p (.event m) s
    else s)

/-- The ERT entry of an event number: word 0 and word 1 (R330). -/
def State.ertEntry (s : State) (n : Nat) : Nat × Word :=
  let e := KMap.look s.ita.ert n
  (e.toNat % 2 ^ 32, BitVec.ofNat 32 (e.toNat / 2 ^ 32))

/-- Put an accepted event in the pending queue of 1,024 (R331). -/
def eventQueue (act : Nat) (w0 : Nat) (w1 : Word) (m : EvMsg) (s : State) : State :=
  if 1024 ≤ s.ita.pend.length then eventOverflow s
  else { s with ita := { s.ita with pend := s.ita.pend ++ [⟨act, nbits w0 28 3, w1, m⟩] } }

/-- Look an event up in the device's own ERT as its last block is checked (R330, R331). -/
def eventLookup (m : EvMsg) (s : State) : State :=
  let (w0, w1) := s.ertEntry m.num.toNat
  let src := m.src.toNat
  let act := m.act.toNat
  if nbit w0 31 = false ∨ (src ^^^ nbits w0 0 14) &&& nbits w0 14 14 ≠ 0 then s
  else if s.time.num + 65535 < act then eventOverflow s
  else if s.time.num < act ∧ s.time.count + 64 ≤ s.boundaryCount act then eventQueue act w0 w1 m s
  else
    let s := s.inc 0 ITA_EV_LATE_value 1
    let s := s.evtLatch 0 ITA_EVT_late (fun s =>
      s.setFs 0 [(ITA_EV_LATELOC_source, src), (ITA_EV_LATELOC_event, m.num.toNat), (ITA_EV_LATELOC_be, m.be.toNat)])
    if m.be then eventQueue (s.time.num + 1) w0 w1 m s else s

/-- A local event enters (R326): stamped with act-at = n + H + e, it takes a place of the local FIFO of 64, of which
`drained` places were freed since the last entry, is forwarded, and is looked up at home. -/
def localEvent (num : BitVec 14) (arg : Word) (be cluster : Bool) (extra drained : Nat) (s : State) : State :=
  let s := { s with ita := { s.ita with localEv := s.ita.localEv - drained } }
  if 64 ≤ s.ita.localEv then eventOverflow s
  else
    let m : EvMsg := ⟨BitVec.ofNat 14 s.devId, be, cluster, num,
      BitVec.ofNat 64 (s.time.num + s.f 0 ITA_HORIZON_h + extra), arg⟩
    let s := { s with ita := { s.ita with localEv := s.ita.localEv + 1 } }
    eventLookup m (eventForward 8 m s)

end Sys2Proof.Machine
end

