-- ==== Sys2Proof/Machine/Errors.lean ====
section
/-! DEFINITION. Error reports (R507 to R511): the error block of a die, the status link to IOS, and the notices of a
die-fatal report. -/

namespace Sys2Proof.Machine

/-- The class code of a log entry (`ERR_LOG_LO.class`). -/
def ErrClass.code (c : ErrClass) : Nat :=
  match c with
  | .corrected => 0
  | .contained => 1
  | .regionFatal => 2
  | .dieFatal => 3

/-- The counter of a class (R509). -/
def ErrClass.counter (c : ErrClass) : Fld :=
  match c with
  | .corrected => ⟨ERR_CE_CNT, 0, 32⟩
  | .contained => ⟨ERR_CT_CNT, 0, 32⟩
  | .regionFatal => ⟨ERR_RF_CNT, 0, 32⟩
  | .dieFatal => ⟨ERR_DF_CNT, 0, 32⟩

/-- What IOS does with a report of class contained or above of die d (R510): the bits of `ERR_DIES`, and for a die-fatal
report the notices of `ERR_NOTIFY`. -/
def iosReport (d : Nat) (c : ErrClass) (s : State) : State :=
  match c with
  | .corrected => s
  | .contained | .regionFatal => s.setF 0 ⟨ERR_DIES, d, 1⟩ 1
  | .dieFatal =>
    let s := (s.setF 0 ⟨ERR_DIES, d, 1⟩ 1).setF 0 ⟨ERR_DIES, 16 + d, 1⟩ 1
    let s := s.when (s.on 0 ERR_NOTIFY_host) (raiseMsix (s.f 0 PCIE_CTRL_evt_vector))
    s.when (s.on 0 ERR_NOTIFY_ita) (localEvent (BitVec.ofNat 14 (s.f 0 ERR_NOTIFY_event)) 0 true false 0 0)

/-- The error block of die d takes a report (R509): class counter, source bit, and for the two fatal classes the log of
16 entries. -/
def dieReport (d src : Nat) (c : ErrClass) (region detail : Nat) (s : State) : State :=
  let s := s.inc d c.counter 1
  let s := s.setF d ⟨ERR_SRC, src, 1⟩ 1
  if c.code < 2 then s
  else
    let l := KMap.look s.err.log d
    if 16 ≤ l.length then s.inc d ERR_LOG_STAT_dropped 1
    else
      let e := (src + c.code * 16 + 128 + region % 32 * 256 + detail % 65536 * 65536, s.tick32)
      { s with err := { s.err with log := KMap.put s.err.log d (l ++ [e]) } }

/-- A report to the error block of die d, sent on to IOS when its class is contained or above and the die's status link
is not fenced there (R509 to R511). A die that is held in reset reports nothing. -/
def errReport (d src : Nat) (c : ErrClass) (region detail : Nat) (s : State) : State :=
  if !s.live d then s
  else
    let s := dieReport d src c region detail s
    if d = 0 ∨ KMap.look s.statusFenced d = false then iosReport d c s else s

/-- Die d fences at IOS or enters reset: a meter that measures one of its clocks will end without a count (R537). -/
def meterLost (d : Nat) (s : State) : State :=
  let hit := (List.range 16).filter (fun m => s.on 0 (CLK_FM_STAT_busy m) && decide (s.f 0 (CLK_FM_SEL_meas m) / 256 = d))
  { s with pwr := { s.pwr with fmLost := hit.foldl (fun a m => KMap.put a m true) s.pwr.fmLost } }

/-- A device-fatal cause is latched with the tick of the first one (R507, R508). -/
def setFatal (x : Fld) (s : State) : State :=
  let s := if bitsOf (s.rd 0 ERR_FATAL) 0 4 = 0 then s.setF 0 ERR_FATAL_tick (if s.tick.tb = .off then 0 else s.tick16) else s
  s.setF 0 x 1

end Sys2Proof.Machine
end

