-- ==== Sys2Proof/Machine/Stats.lean ====
section
/-! DEFINITION. The per-initiator statistics of a target (R235, R236) and its retry flags (R204). -/

namespace Sys2Proof.Machine

/-! ### Statistics (R235, R236) -/

/-- The key of statistics entry k of endpoint ep of die d. -/
def statKey (d ep k : Nat) : Nat := (d * 256 + ep) * 32 + k

/-- A statistics entry. -/
def State.stat (s : State) (d ep k : Nat) : StatEnt := KMap.look s.stats (statKey d ep k)

/-- Store a statistics entry. -/
def State.setStat (s : State) (d ep k : Nat) (x : StatEnt) : State := { s with stats := KMap.put s.stats (statKey d ep k) x }

/-- The entry numbers of a target but for "other". -/
def statNums : List Nat := [0, 1, 2, 3, 4, 5, 6, 7, 8, 9, 10, 11, 12, 13, 14, 15]

/-- The entry that initiator `id` holds at a target. -/
def State.statOf (s : State) (d ep id : Nat) : Option Nat :=
  statNums.find? (fun k => (s.stat d ep k).used && decide ((s.stat d ep k).id = id))

/-- The entry that counts initiator `id`: its own, the lowest free one, or "other" (R235). -/
def State.statSlot (s : State) (d ep id : Nat) : Nat :=
  match s.statOf d ep id with
  | some k => k
  | none => (statNums.find? (fun k => !(s.stat d ep k).used)).getD 16

/-- How a target answers: OK, RETRY, or ERROR with a status. -/
inductive Answered where
  | ok
  | retry
  | error
deriving DecidableEq, Repr, Inhabited

/-- A request has arrived at its target: it takes its entry and is counted (R235, R236). -/
def statArrive (d ep id : Nat) (s : State) : State :=
  let k := s.statSlot d ep id
  let x := s.stat d ep k
  s.setStat d ep k { x with used := x.used || decide (k < 16), id := if k < 16 then id else x.id, req := sat 32 (x.req + 1) }

/-- Its answer is counted: `lat` is the latency, `bytes` those it asked for (R236). -/
def statAnswer (d ep id lat bytes : Nat) (write : Bool) (a : Answered) (s : State) : State :=
  let k := s.statSlot d ep id
  let x := s.stat d ep k
  let ok := decide (a = .ok)
  let timed := decide (a ≠ .retry)
  let y : StatEnt := { x with
    rdb := if ok && !write then sat 64 (x.rdb + bytes) else x.rdb,
    wrb := if ok && write then sat 64 (x.wrb + bytes) else x.wrb,
    latsum := if timed then sat 64 (x.latsum + lat) else x.latsum,
    latmax := if timed then sat 32 (max x.latmax lat) else x.latmax,
    retry := if a = .retry then sat 16 (x.retry + 1) else x.retry,
    error := if a = .error then sat 16 (x.error + 1) else x.error }
  s.setStat d ep k y

/-! ### Retry flags of a target (R204) -/

/-- The key of a target's retry flag for an initiator and queue. -/
def flagKey (die ep src q : Nat) : Nat := ((die * 256 + ep) * 4096 + src) * 32 + q

/-- The flag of the pair of a request at its target. -/
def State.retryFlag (s : State) (h : Hdr) : Bool := KMap.look s.net.flag (flagKey (dieIndex h.dstX h.dstY) h.dstEp h.srcId h.queue)

/-- Set or clear it. -/
def setRetryFlag (h : Hdr) (b : Bool) (s : State) : State :=
  { s with net := { s.net with flag := KMap.put s.net.flag (flagKey (dieIndex h.dstX h.dstY) h.dstEp h.srcId h.queue) b } }

/-! ### What an answer leaves at the target -/

/-- The key of a request that a target has taken and not answered. -/
def takenKey (h : Hdr) : Nat := flagKey (dieIndex h.dstX h.dstY) h.dstEp h.srcId h.queue * 1024 + h.seq

/-- A target takes a request: its latency and bytes are noted until it is answered (R236). -/
def takeRequest (h : Hdr) (lat bytes : Nat) (s : State) : State :=
  let s := statArrive (dieIndex h.dstX h.dstY) h.dstEp h.srcId s
  { s with net := { s.net with taken := KMap.put s.net.taken (takenKey h) (some (lat, bytes)) } }

/-- A target answers a request: the answer is counted, RETRY to a first issue sets the pair's retry flag, and any other answer to a reissue
clears it (R204, R236). -/
def answered (h : Hdr) (a : Answered) (s : State) : State :=
  let s := match KMap.look s.net.taken (takenKey h) with
    | some (lat, bytes) =>
      statAnswer (dieIndex h.dstX h.dstY) h.dstEp h.srcId lat bytes (decide (h.opcode = 1)) a
        { s with net := { s.net with taken := KMap.put s.net.taken (takenKey h) none } }
    | none => s
  if a = .retry then (if h.reissue then s else setRetryFlag h true s)
  else if h.reissue then setRetryFlag h false s else s

end Sys2Proof.Machine
end

