-- ==== Sys2Proof/Machine/Answers.lean ====
section
/-! DEFINITION. The answer of a target to a request (R192, R193, R198, R199), and the bytes a request spans. -/

namespace Sys2Proof.Machine

/-- The first byte after a request's bytes: a read spans count + 1 bytes; a write the lines of its flits. -/
def Hdr.endAddr (h : Hdr) : Nat :=
  if h.opcode = 0 then h.addr + h.count + 1 else h.addr / 64 * 64 + 64 * h.flits

/-- The number of lines a read spans (R193). -/
def Hdr.readLines (h : Hdr) : Nat := (h.addr + h.count) / 64 - h.addr / 64 + 1

/-- The byte enables of line i of the bytes [a, a + n) (R193). -/
def lineBe (a n i : Nat) : BitVec 64 :=
  let base := a / 64 * 64 + 64 * i
  let lo := if base ≤ a then a - base else 0
  let hi := min 64 (a + n - base)
  BitVec.ofNat 64 (if lo < hi then 2 ^ hi - 2 ^ lo else 0)

/-- The header of an answer (R192): it copies queue, seq, key, dbg and class and goes back to the source. -/
def Hdr.answer (h : Hdr) (op status flits : Nat) : Hdr :=
  { dstX := h.srcX, dstY := h.srcY, dstEp := h.srcId % 256, srcX := h.dstX, srcY := h.dstY,
    srcId := dieIndex h.dstX h.dstY * 256 + h.dstEp, opcode := op, cls := h.cls, key := h.key, dbg := h.dbg,
    queue := h.queue, seq := h.seq, slot := 0, flits := flits, addr := h.addr, count := 0, status := status }

/-- A data flit of a line, with its crc (R195). -/
def mkFlit (l : Line) (i : Nat) : Flit := ⟨l, lineCrc l i, false⟩

/-- The data flits of lines. -/
def mkFlits (l : List Line) (i : Nat := 0) : List Flit :=
  match l with
  | [] => []
  | x :: t => mkFlit x i :: mkFlits t (i + 1)

/-- Answer a request with a status other than OK: opcode ERROR (R199); a malformed status is an event of the endpoint's die (R209). -/
def answerError (h : Hdr) (status : Nat) (s : State) : State :=
  let s := answered h .error s
  let s := s.when (decide (status = 0x0B)) (fun s => s.evt (dieIndex h.dstX h.dstY) NOC_EVT_malformed)
  s.emit (.packet (h.answer 4 status 0) [])

/-- Acknowledge a write (R199). -/
def answerAck (h : Hdr) (s : State) : State := (answered h .ok s).emit (.packet (h.answer 3 0 0) [])

/-- Answer RETRY (R204). -/
def answerRetry (h : Hdr) (s : State) : State := (answered h .retry s).emit (.packet (h.answer 5 0 0) [])

/-- Answer a read with its lines (R192, R193). -/
def answerData (h : Hdr) (l : List Line) (s : State) : State :=
  (answered h .ok s).emit (.packet (h.answer 2 0 l.length) (mkFlits l))

/-- Answer a read of a 4-byte word: one line with the word at its bytes (R193). -/
def answerWord (h : Hdr) (w : Word) (s : State) : State :=
  let o := h.addr % 64
  answerData h [⟨lineBe h.addr 4 0, BitVec.ofNat 512 (w.toNat * 2 ^ (8 * o))⟩] s

/-- The data and enables of the byte at address a among the lines of a write. -/
def lineByte (l : List Line) (base a : Nat) : Option Byte :=
  match l[(a - base) / 64]? with
  | some x =>
    let j := (a - base) % 64
    if x.be.getLsbD j then some (BitVec.ofNat 8 (x.data.toNat / 2 ^ (8 * j))) else none
  | none => none

end Sys2Proof.Machine
end

