-- ==== Sys2Proof/Machine/Memories.lean ====
section
/-! DEFINITION. Block and deep memories (05): ports, check bits, retention, spare rows, reports, and the on-chip window. -/

namespace Sys2Proof.Machine

/-! ### Blocks -/

/-- The block's key in the tables. -/
def Blk.key (b : Blk) : Nat := ((b.die.val * 2 + b.deep.toNat) * 32 + b.col) * 256 + b.row

/-- The key of stored word a of a block. -/
def Blk.wordKey (b : Blk) (a : Nat) : Nat := b.key * 4096 + a

/-- The block exists: BM36 in 20 columns of 150, DM288 in 8 columns of 100 (R152). -/
def Blk.exists (b : Blk) : Bool :=
  if b.deep then decide (b.col < 8) && decide (b.row < 100) else decide (b.col < 20) && decide (b.row < 150)

/-- A BM36-D: m mod 4 is not 0 and k mod 6 is 0 (R153). -/
def Blk.dual (b : Blk) : Bool := !b.deep && decide (b.col % 4 ≠ 0) && decide (b.row % 6 = 0)

/-- The region row of DM288 row k (R152). -/
def deepRow (k : Nat) : Nat :=
  if k ≤ 16 then 0 else if k ≤ 33 then 1 else if k ≤ 49 then 2 else if k ≤ 65 then 3 else if k ≤ 82 then 4 else 5

/-- The local region of a block (R152). -/
def Blk.region (b : Blk) : Nat := if b.deep then 4 * deepRow b.row + b.col / 2 else 4 * (b.row / 25) + b.col / 5

/-- The words of a block (R151). -/
def Blk.words (b : Blk) : Nat := if b.deep then 4096 else 512

/-- The die index of the block's die. -/
def Blk.di (b : Blk) : Nat := b.die.val + 2

/-- What a block holds. -/
def State.blk (s : State) (b : Blk) : BlkSt := KMap.look s.mem.blk b.key

/-- Store what a block holds. -/
def State.setBlk (s : State) (b : Blk) (x : BlkSt) : State :=
  { s with mem := { s.mem with blk := KMap.put s.mem.blk b.key x } }

/-- Stored word a of a block. -/
def State.memWord (s : State) (b : Blk) (a : Nat) : MemWord := KMap.look s.mem.word (b.wordKey a)

/-- Store word a of a block. -/
def State.setMemWord (s : State) (b : Blk) (a : Nat) (w : MemWord) : State :=
  { s with mem := { s.mem with word := KMap.put s.mem.word (b.wordKey a) w } }

/-- The number of set bits among the n low bits of a number. -/
def popcount (n x : Nat) : Nat :=
  match n with
  | 0 => 0
  | n + 1 => x % 2 + popcount n (x / 2)

/-- The number of the lowest set bit of a number of at most n bits; n when none. -/
def lowBit (n x : Nat) : Nat :=
  match n with
  | 0 => 0
  | n + 1 => if x % 2 = 1 then 0 else 1 + lowBit n (x / 2)

/-- What a check of a stored word finds (R161): clean, one bit corrected, or uncorrectable. Three or more wrong bits may
be reported as corrected with wrong data, or not reported: a free value says which (assumption 2). -/
inductive Secded where
  | clean (data : BitVec 64)
  | fixed (data : BitVec 64) (bit : Nat)
  | bad (data : BitVec 64)
deriving DecidableEq, Repr

/-- Check a stored word, and what is free about it taken from a free value. -/
def secded (w : MemWord) (free : BitVec 64) : Secded :=
  let n := popcount 72 w.err.toNat
  let raw := w.data ^^^ BitVec.ofNat 64 w.err.toNat
  if n = 0 then .clean w.data
  else if n = 1 then .fixed w.data (lowBit 72 w.err.toNat)
  else if n = 2 then .bad raw
  else if free.toNat % 3 = 0 then .clean raw
  else if free.toNat % 3 = 1 then .fixed (raw ^^^ free) (free.toNat % 72)
  else .bad raw

/-- Take a free value when the word has three or more wrong bits. -/
def freeIf (w : MemWord) (s : State) : State := s.when (decide (2 < popcount 72 w.err.toNat)) State.freeNext

/-! ### Reports (R173, R174) -/

/-- A report leaves the block for its die's error block. -/
def memReport (b : Blk) (kind source word bit : Nat) (s : State) : State :=
  let d := b.di
  let r : MemReport := ⟨b.deep, b.col, b.row, kind, source, b.region, word, bit, s.tick32⟩
  { s with mem := { s.mem with report := KMap.put s.mem.report d (KMap.look s.mem.report d ++ [r]) } }

/-- The block a report names. -/
def MemReport.blk (r : MemReport) (d : FabDie) : Blk := ⟨d, r.deep, r.col, r.row⟩

/-- A block report reaches the error block of its die (R173, R174): counts, events, the block's own marks, the record
FIFO of 32, and the error report of its class. -/
def meccTake (d : FabDie) (r : MemReport) (s : State) : State :=
  let di := d.val + 2
  let s := if r.kind = 0 then s.inc di MECC_CE_CNT_value 1 else s.inc di MECC_UE_CNT_value 1
  let s := s.setF di ⟨MECC_EVT, r.kind, 1⟩ 1
  let b := r.blk d
  let x := s.blk b
  let s := if r.kind = 0 then s.setBlk b { x with ceSeen := true, ce := min (x.ce + 1) 0xFFFF }
    else s.setBlk b { x with ueSeen := true }
  let fifo := KMap.look s.mem.fifo di
  let s :=
    if r.kind = 0 ∧ s.f di MECC_CTRL_ce_records = 0 then s
    else if 32 ≤ fifo.length then (s.inc di MECC_FIFO_STAT_dropped 1).evt di MECC_EVT_dropped
    else { s with mem := { s.mem with fifo := KMap.put s.mem.fifo di (fifo ++ [r]) } }
  errReport di 1 (if r.kind = 0 then .corrected else if r.kind = 3 then .regionFatal else .contained)
    (if r.kind = 3 then r.region else 0x1F) 0 s

/-- MECC_REPORT: the oldest report on its way arrives. -/
def meccReport (d : FabDie) (s : State) : State :=
  match KMap.look s.mem.report (d.val + 2) with
  | [] => s
  | r :: t =>
    meccTake d r { s with mem := { s.mem with report := KMap.put s.mem.report (d.val + 2) t } }

/-- MECC_REPORT (R173, R174). -/
def execMeccReport (d : FabDie) (s : State) : Res := run (meccReport d) s

/-- The record of a report as the three words a pop gives (`MECC_REC_LO`, `MECC_REC_ADR`, `MECC_REC_TICK`). -/
def MemReport.words (r : MemReport) : Word × Word × Word :=
  (packBits [(0, r.col), (5, r.row), (13, r.kind), (15, r.deep.toNat), (16, 1), (17, r.source), (19, r.region)],
   packBits [(0, r.word), (12, r.bit)], BitVec.ofNat 32 r.tick)

/-- A read of `MECC_REC_LO`: the oldest record popped, its other words captured; a debug read does neither (R11, R179). -/
def meccPop (d : FabDie) (peek : Bool) (s : State) : State × Word :=
  let di := d.val + 2
  match KMap.look s.mem.fifo di with
  | [] => (if peek then s else (s.wr di MECC_REC_ADR 0).wr di MECC_REC_TICK 0, 0)
  | r :: t =>
    let (w, a, k) := r.words
    (if peek then s
     else (({ s with mem := { s.mem with fifo := KMap.put s.mem.fifo di t } }).wr di MECC_REC_ADR a).wr di MECC_REC_TICK k, w)

/-- MECC_REC_POP (R179). -/
def execMeccRecPop (d : FabDie) (peek : Bool) (s : State) : Res :=
  run (fun s => let (s, w) := meccPop d peek s; s.emit (.value w)) s

/-! ### Reads and writes of a word (R154 to R164) -/

/-- Read word a of an awake block (R161, R162, R164): the data presented, RD_ECC, and the write-back unless a user
write supersedes it (R163). -/
def readWord (b : Blk) (a source : Nat) (superseded : Bool) (s : State) : State × BitVec 64 × Nat :=
  let w := s.memWord b a
  let free := s.free
  let s := freeIf w s
  match secded w free with
  | .clean d => (s, d, 0)
  | .fixed d bit =>
    let s := memReport b 0 source a bit s
    (if superseded then s else s.setMemWord b a ⟨d, 0⟩, d, 1)
  | .bad d => (memReport b 1 source a 0x7F s, d, 2)

/-- The bits of a byte-enable mask. -/
def beMask (n : Nat) (be : Nat) : Nat :=
  match n with
  | 0 => 0
  | n + 1 => (be % 2) * 255 + 256 * beMask n (be / 2)

/-- Injection armed for a block (`MECC_SEL`, `MECC_INJ`, R179). -/
def State.injArmed (s : State) (b : Blk) : Bool :=
  s.on b.di MECC_INJ_arm && decide (s.f b.di MECC_SEL_column = b.col) && decide (s.f b.di MECC_SEL_row = b.row) &&
    decide (s.f b.di MECC_SEL_type = b.deep.toNat)

/-- The error mask of an armed injection. -/
def State.injMask (s : State) (d : Nat) : Nat :=
  2 ^ s.f d MECC_INJ_bit_a ^^^ (if s.on d MECC_INJ_double then 2 ^ s.f d MECC_INJ_bit_b else 0)

/-- Store data with new check bits, with an armed injection's bits inverted (R164, R179). -/
def storeWord (b : Blk) (a : Nat) (d : BitVec 64) (s : State) : State :=
  if s.injArmed b then
    (s.setMemWord b a ⟨d, BitVec.ofNat 72 (s.injMask b.di)⟩).setF b.di MECC_INJ_arm 0
  else s.setMemWord b a ⟨d, 0⟩

/-- Write the bits of `mask` in word a of an awake block: a partial write merges with the corrected old word, and is
refused over an uncorrectable one (R156, R164). Answers whether it was refused. -/
def writeWord (b : Blk) (a source : Nat) (d mask : BitVec 64) (s : State) : State × Bool :=
  if mask = BitVec.allOnes 64 then (storeWord b a d s, false)
  else if mask = 0 then (s, false)
  else
    let w := s.memWord b a
    let free := s.free
    let s := freeIf w s
    match secded w free with
    | .clean old => (storeWord b a ((d &&& mask) ||| (old &&& ~~~mask)) s, false)
    | .fixed old _ => (storeWord b a ((d &&& mask) ||| (old &&& ~~~mask)) s, false)
    | .bad _ => (memReport b 2 source a 0x7F s, true)

/-- The stored word and the lane or rotation that address a of a port names (R155, R157). -/
def MemPort.place (p : MemPort) (deep : Bool) (a : Nat) : Nat × Nat :=
  if deep then (if p.rotate then (a / 8, a % 8) else (a, 0)) else (a / (64 / p.width), a % (64 / p.width))

/-- Rotate a word right by k byte lanes: output lane i is lane (i + k) mod 8 (R157). -/
def rotLanes (d : BitVec 64) (k : Nat) : BitVec 64 := d.rotateRight (8 * (k % 8))

/-- Rotate a word left by k byte lanes. -/
def unrotLanes (d : BitVec 64) (k : Nat) : BitVec 64 := d.rotateLeft (8 * (k % 8))

/-- MEMORY_PORT_READ: port p of block b reads address a; `upset` are stored bits that have flipped since the word was last
written, and `superseded` says that a user write meets the write-back (R154 to R164, R170). -/
def memPortRead (b : Blk) (p : MemPort) (a : Nat) (upset : BitVec 72) (superseded : Bool) (s : State) : State :=
  if (s.blk b).asleep then s.emit (.memRead 0 0 true)
  else
    let (w, k) := p.place b.deep a
    let x := s.memWord b w
    let s := s.setMemWord b w { x with err := x.err ^^^ upset }
    let (s, d, e) := readWord b w p.portB.toNat superseded s
    let d := if b.deep then rotLanes d k
      else BitVec.ofNat 64 (d.toNat / 2 ^ (p.width * k) % 2 ^ p.width)
    s.emit (.memRead d e false)

/-- MEMORY_PORT_READ (R161). -/
def execMemoryPortRead (b : Blk) (p : MemPort) (a : Nat) (upset : BitVec 72) (superseded : Bool) (s : State) : Res :=
  run (memPortRead b p a upset superseded) s

/-- MEMORY_PORT_WRITE: port p of block b writes `data` at address a under byte enables `be`; `collides` says that both ports
of a BM36-D write this word at once (R155 to R160, R163, R164, R170). -/
def memPortWrite (b : Blk) (p : MemPort) (a : Nat) (data : BitVec 64) (be : Byte) (collides : Bool) (s : State) : State :=
  if (s.blk b).asleep then s.emit (.memWrite true)
  else if collides && p.portB then (s.evt b.di MECC_EVT_wcollide).emit (.memWrite false)
  else
    let (w, k) := p.place b.deep a
    let full := BitVec.ofNat 64 (beMask 8 be.toNat)
    let (d, m) :=
      if b.deep then (unrotLanes data k, unrotLanes full k)
      else if p.width = 64 then (data, full)
      else (BitVec.ofNat 64 (data.toNat % 2 ^ p.width * 2 ^ (p.width * k)),
            BitVec.ofNat 64 ((2 ^ p.width - 1) * 2 ^ (p.width * k)))
    let (s, refused) := writeWord b w p.portB.toNat d m s
    s.emit (.memWrite refused)

/-- MEMORY_PORT_WRITE (R156). -/
def execMemoryPortWrite (b : Blk) (p : MemPort) (a : Nat) (data : BitVec 64) (be : Byte) (collides : Bool) (s : State) : Res :=
  run (memPortWrite b p a data be collides) s

/-! ### Retention (R168 to R171) -/

/-- SLEEP is sampled at 1: a block of a RUNNING region enters retention (R168). -/
def memSleep (b : Blk) (s : State) : State :=
  if s.regionState b.di b.region = 5 then s.setBlk b { s.blk b with asleep := true } else s

/-- MEMORY_SLEEP (R168). -/
def execMemorySleep (b : Blk) (s : State) : Res := run (memSleep b) s

/-- A wake completes, `took` tb after SLEEP fell (R169). -/
def memWakeDone (b : Blk) (took : Nat) (s : State) : State :=
  if (s.blk b).asleep then
    let s := s.setBlk b { s.blk b with asleep := false }
    let s := s.when (decide (3200 < took)) (fun s => s.evt b.di MECC_EVT_wake_delayed)
    s.largest b.di MECC_WAKE_MAX_value took
  else s

/-- MEMORY_WAKE_DONE (R169). -/
def execMemoryWakeDone (b : Blk) (took : Nat) (s : State) : Res := run (memWakeDone b took) s

/-! ### Fill, and blocks of a region that a load takes (R165 to R167, R171, R172) -/

/-- The block of a table key. -/
def blkOfKey (k : Nat) : Blk := ⟨Fin.ofNat 8 (k / 16384), k / 8192 % 2 == 1, k / 256 % 32, k % 256⟩

/-- Every block of a region wakes, and its pending spare rows become assigned (R171, R172; step 4 of R100). -/
def memRegionTaken (d i : Nat) (s : State) : State :=
  let take (m : KMap BlkSt) (e : Nat × BlkSt) : KMap BlkSt :=
    let b := blkOfKey e.1
    if b.di = d ∧ b.region = i then
      KMap.put m e.1 { e.2 with asleep := false, used := e.2.used ++ e.2.pend, pend := [] }
    else m
  let t := s.mem.blk.foldl take s.mem.blk
  { s with mem := { s.mem with blk := t } }

/-- Every block of the regions in `rs` of die d reads as filled with zero words (R166). -/
def memFill (d : Nat) (rs : List Nat) (s : State) : State :=
  let keep (e : Nat × MemWord) : Bool :=
    let b := blkOfKey (e.1 / 4096)
    !(decide (b.di = d) && rs.contains b.region)
  let t := s.mem.word.filter keep
  { s with mem := { s.mem with word := t } }

/-- POWER_ON_FILL_DONE: the power-on fill of a fabric die ends; the engine accepts frames from then on; each block in `bad`
failed at a word (R166, R167). -/
def powerOnFillDone (d : FabDie) (bad : List (Bool × Nat × Nat × Nat)) (s : State) : State :=
  let di := d.val + 2
  if !s.live di then s
  else
    let s := memFill di (List.range 24) s
    let s := s.each bad (fun s e => memReport ⟨d, e.1, e.2.1, e.2.2.1⟩ 3 3 e.2.2.2 0x7F s)
    { s with fab := { s.fab with engReady := KMap.put s.fab.engReady di true } }

/-- POWER_ON_FILL_DONE (R166). -/
def execPowerOnFillDone (d : FabDie) (bad : List (Bool × Nat × Nat × Nat)) (s : State) : Res :=
  run (powerOnFillDone d bad) s

/-! ### The on-chip window (R175 to R178) -/

/-- The block and its byte offset that an offset of a die's window area names; none where nothing is (R175). -/
def windowBlk (d : FabDie) (off : Nat) : Option (Blk × Nat) :=
  if off < 0xBB8000 then some (⟨d, false, off / 0x1000 / 150, off / 0x1000 % 150⟩, off % 0x1000)
  else if 0x1000000 ≤ off ∧ off < 0x2900000 then
    let o := off - 0x1000000
    some (⟨d, true, o / 0x8000 / 100, o / 0x8000 % 100⟩, o % 0x8000)
  else none

/-- Read n words of a block from word a, window source: data and whether one was uncorrectable. -/
def windowReadWords (b : Blk) (a n : Nat) (s : State) : State × List (BitVec 64) × Bool :=
  match n with
  | 0 => (s, [], false)
  | n + 1 =>
    let (s, d, e) := readWord b a 2 false s
    let (s, l, bad) := windowReadWords b (a + 1) n s
    (s, d :: l, bad || decide (e = 2))

/-- Write the bytes of the lines of a request to words of a block, from word a. -/
def windowWriteWords (b : Blk) (a n : Nat) (be data : Nat) (s : State) : State × Bool :=
  match n with
  | 0 => (s, false)
  | n + 1 =>
    let (s, r) := writeWord b a 2 (BitVec.ofNat 64 data) (BitVec.ofNat 64 (beMask 8 be)) s
    let (s, r') := windowWriteWords b (a + 1) n (be / 256) (data / 2 ^ 64) s
    (s, r || r')

/-- The lines as one number of data bits, and one of byte enables, first line lowest. -/
def linesData (l : List Line) : Nat := l.foldr (fun x a => x.data.toNat + 2 ^ 512 * a) 0

/-- The byte enables of lines as one number, first line lowest. -/
def linesBe (l : List Line) : Nat := l.foldr (fun x a => x.be.toNat + 2 ^ 64 * a) 0

/-- The lines that hold n bytes from address a, given as words of 8 bytes from the 64-byte line of a. -/
def mkLines (n : Nat) (be data : Nat) : List Line :=
  match n with
  | 0 => []
  | n + 1 => ⟨BitVec.ofNat 64 be, BitVec.ofNat 512 data⟩ :: mkLines n (be / 2 ^ 64) (data / 2 ^ 512)

/-- The lines of a read answer: the bytes requested, taken from `data`, the bytes from the first line's address on (R193). -/
def Hdr.dataLines (h : Hdr) (data : Nat) : List Line :=
  let n := h.readLines
  let o := h.addr % 64
  let be := 2 ^ (o + h.count + 1) - 2 ^ o
  mkLines n be (data &&& ofBytes (List.replicate o 0 ++ List.replicate (h.count + 1) 255))

/-- A window request takes its idle cycle and acts as a user access (R176 to R178). `access` is the block's image
setting. -/
def windowAct (d : FabDie) (access : WinAccess) (h : Hdr) (lines : List Line) (s : State) : State :=
  match windowBlk d (h.addr % 0x4000000) with
  | none => answerError h 1 s
  | some (b, off) =>
    let write := decide (h.opcode = 1)
    if (match access with | .none => true | .read => write | .readWrite => false) then answerError h 3 s
    else if s.regionState b.di b.region ≠ 5 then answerError h 3 s
    else if (s.blk b).asleep then answerRetry h s
    else
      let first := off / 64 * 8
      if write then
        let (s, r) := windowWriteWords b first (8 * lines.length) (linesBe lines) (linesData lines) s
        if r then answerError h 6 s else answerAck h s
      else
        let lo := off / 8
        let n := (off + h.count) / 8 - lo + 1
        let (s, l, bad) := windowReadWords b lo n s
        if bad then answerError h 6 s
        else answerData h (h.dataLines (l.foldr (fun x a => x.toNat + 2 ^ 64 * a) 0 * 2 ^ (64 * (lo - first)))) s

/-- Take the oldest window request of a die, if any, and act on it. -/
def windowTake (d : FabDie) (f : Hdr → List Line → State → State) (s : State) : State :=
  match KMap.look s.mem.window (d.val + 2) with
  | [] => s
  | (h, l) :: t => f h l { s with mem := { s.mem with window := KMap.put s.mem.window (d.val + 2) t } }

/-- MEMORY_WINDOW_REQUEST (R176, R177). -/
def execMemoryWindowRequest (d : FabDie) (access : WinAccess) (s : State) : Res :=
  run (windowTake d (windowAct d access)) s

/-- MEMORY_WINDOW_BUSY: no idle cycle in 4,096 (R177). -/
def execMemoryWindowBusy (d : FabDie) (s : State) : Res :=
  run (windowTake d (fun h _ s => answerError h 5 (s.evt (d.val + 2) MECC_EVT_window_busy))) s

/-! ### Injection and the selected block (R179) -/

/-- A write of `MECC_INJ`: accepted in BLANK and SERVICE only (R179). -/
def meccInjWrite (d : FabDie) (v : Word) (s : State) : State :=
  if s.lifeCycle = 0 ∨ s.lifeCycle = 3 then s.wr (d.val + 2) MECC_INJ (v &&& 0xFFFF) else s

/-- MECC_INJ_WRITE (R179). -/
def execMeccInjWrite (d : FabDie) (v : Word) (s : State) : Res := run (meccInjWrite d v) s

/-- The block that `MECC_SEL` names on die index d. -/
def State.selBlk (s : State) (d : Nat) : Blk :=
  ⟨Fin.ofNat 8 (d - 2), s.on d MECC_SEL_type, s.f d MECC_SEL_column, s.f d MECC_SEL_row⟩

/-- `MECC_BLK` as it reads (R179). -/
def State.meccBlk (s : State) (d : Nat) : Word :=
  let b := s.selBlk d
  if !b.exists then 0
  else
    let x := s.blk b
    packBits [(0, 1), (1, b.dual.toNat), (2, x.asleep.toNat), (3, x.asleep.toNat), (4, x.ceSeen.toNat), (5, x.ueSeen.toNat),
      (6, x.used.length), (8, x.pend.length), (16, x.ce)]

end Sys2Proof.Machine
end

