-- ==== Sys2Proof/Machine/Fabric.lean ====
section
/-! DEFINITION. Regions of the fabric (03): states, isolation, drain, the column remap, and what a region answers. -/

namespace Sys2Proof.Machine

/-- The six region rows and four region columns of a die as local indices. -/
def allRegions : List Nat :=
  [0, 1, 2, 3, 4, 5, 6, 7, 8, 9, 10, 11, 12, 13, 14, 15, 16, 17, 18, 19, 20, 21, 22, 23]

/-- Enter a region state, with the isolation bits it shows: all 0 in RUNNING, retry alone in DRAINING, all 1 otherwise
(R99, R120). -/
def setRegion (d i st : Nat) (s : State) : State :=
  (s.setF d (REGIONS_STATE_state i) st).wr d (REGIONS_ISO i) (if st = 5 then 0 else if st = 1 then 2 else 7)

/-- A region enters LOADING with the class, the shell flag and the design ID of its new image (step 3 of R100, R106); its
memory blocks wake and take their pending spare rows (R171, R172). -/
def enterLoading (d i : Nat) (mapped shell : Bool) (design : Word) (s : State) : State :=
  let s := memRegionTaken d i (setRegion d i 2 s)
  ((s.setB d (REGIONS_STATE_class i) mapped).setB d (REGIONS_STATE_shell i) shell).wr d (REGIONS_ID i) design

/-- The configuration frames of a region are cleared (R90). -/
def clearFrames (d i : Nat) (s : State) : State :=
  let t := KMap.dropRange s.fab.frame ((d * 24 + i) * 0x10000) ((d * 24 + i + 1) * 0x10000)
  { s with fab := { s.fab with frame := t } }

/-- A region enters UNLOADED: configuration memory cleared, a stream region with the shell flag 0 (R99, R106, R433). -/
def unloadRegion (d i : Nat) (s : State) : State :=
  let s := clearFrames d i (setRegion d i 0 s)
  ((s.setB d (REGIONS_STATE_class i) false).setB d (REGIONS_STATE_shell i) false).wr d (REGIONS_ID i) 0

/-- A region enters FAILED (R99, R103). -/
def failRegion (d i : Nat) (s : State) : State := setRegion d i 6 s

/-- The requests that the logic of a region has accepted and not answered. -/
def State.regionWaiting (s : State) (d i : Nat) : List Hdr := KMap.look s.fab.waiting (devRegion d i)

/-- Forget them. -/
def dropWaiting (d i : Nat) (s : State) : State :=
  { s with fab := { s.fab with waiting := KMap.put s.fab.waiting (devRegion d i) [] } }

/-- A drain is cut short (R101, R103): each outstanding request completes with "region reload", counted in `drained`. -/
def cutDrain (d i : Nat) (s : State) : State :=
  let l := s.regionWaiting d i
  let s := s.each l (fun s h => answerError h 4 s)
  let s := dropWaiting d i s
  (s.inc d (REGIONS_ABORT_drained i) l.length).evt d REGIONS_EVT_drain_timeout

/-! ### Column shifts (R112 to R116) -/

/-- No shift point. -/
def noShift : Nat := 0x3F

/-- Local region i holds a logical column that a shift of group g at point p moves (R114). -/
def logicAffects (g p i : Nat) : Bool := decide ((40 * g + p) / 50 ≤ i % 4) && decide (i % 4 ≤ (40 * g + 39) / 50)

/-- Local region i holds a CMB column that a CMB shift at point p moves (R148). -/
def cmbAffects (p i : Nat) : Bool := decide (p / 3 ≤ i % 4)

/-- A pending shift affects local region i of die d (R114). -/
def State.shiftWait (s : State) (d i : Nat) : Bool :=
  [0, 1, 2, 3, 4].any (fun g =>
    let p := s.f d (REGIONS_REMAP_pending g)
    decide (p ≠ noShift) && logicAffects g p i) ||
  (decide (s.f d REGIONS_CREMAP_pending ≠ 0xF) && cmbAffects (s.f d REGIONS_CREMAP_pending) i)

/-- Bring `shift_wait` of every region of a die up to date (R114). -/
def markShiftWait (d : Nat) (s : State) : State :=
  s.each allRegions (fun s i => s.setB d (REGIONS_STATE_shift_wait i) (s.shiftWait d i))

/-- The pending shift of group g becomes active (R112, R114, R116). -/
def activateLogic (d g : Nat) (s : State) : State :=
  s.setFs d [(REGIONS_REMAP_active g, s.f d (REGIONS_REMAP_pending g)), (REGIONS_REMAP_pending g, noShift),
    (REGIONS_REMAP_from_fuse g, 0), (REGIONS_REMAP_from_wear g, 1)]

/-- The pending CMB shift becomes active. -/
def activateCmb (d : Nat) (s : State) : State :=
  s.setFs d [(REGIONS_CREMAP_active, s.f d REGIONS_CREMAP_pending), (REGIONS_CREMAP_pending, 0xF),
    (REGIONS_CREMAP_from_fuse, 0), (REGIONS_CREMAP_from_wear, 1)]

/-- Step 4 of R100 on die d: each pending shift whose affected regions are all in the load `rs` or UNLOADED becomes active
(R114). -/
def applyShifts (d : Nat) (rs : List Nat) (s : State) : State :=
  let free (s : State) (i : Nat) : Bool := rs.contains i || decide (s.regionState d i = 0)
  let s := s.each [0, 1, 2, 3, 4] (fun s g =>
    let p := s.f d (REGIONS_REMAP_pending g)
    if p ≠ noShift ∧ allRegions.all (fun i => !logicAffects g p i || free s i) then
      (activateLogic d g s).evt d REGIONS_EVT_shift_applied
    else s)
  let p := s.f d REGIONS_CREMAP_pending
  let s := if p ≠ 0xF ∧ allRegions.all (fun i => !cmbAffects p i || free s i) then
      (activateCmb d s).evt d REGIONS_EVT_shift_applied
    else s
  markShiftWait d s

/-- The physical column code of a frame's logical column code: logic column c at 41 (c div 40) + c mod 40, one place east
from the active shift point of its group on; CMB columns from 205 likewise; other columns as they are (R112). -/
def State.physColumn (s : State) (d c : Nat) : Nat :=
  if c < 200 then
    let g := c / 40
    let k := c % 40
    41 * g + (if s.f d (REGIONS_REMAP_active g) ≤ k then k + 1 else k)
  else if c < 212 then
    let l := c - 200
    205 + (if s.f d REGIONS_CREMAP_active ≤ l then l + 1 else l)
  else c + 6

/-- The place of a frame in the tables: die, local region, physical column, frame index. -/
def frameKey (d i col idx : Nat) : Nat := (d * 24 + i) * 0x10000 + col * 256 + idx

end Sys2Proof.Machine
end

