-- ==== Sys2Proof/Machine/Cmb.lean ====
section
/-! DEFINITION. Checked arithmetic (04): the datapath of a CMB, its residue datapath, the checks, and the reports they make. -/

namespace Sys2Proof.Machine

/-! ### Numbers -/

/-- The low n bits of x as an unsigned or a two's-complement number. -/
def numOf (signed : Bool) (n x : Nat) : Int :=
  let v := x % 2 ^ n
  if signed ∧ 2 ^ (n - 1) ≤ v then (v : Int) - 2 ^ n else v

/-- The residue of an integer (R132). -/
def residue (x : Int) : Nat := (x % 255).toNat

/-- z ± p. -/
def addSub (neg : Bool) (z p : Int) : Int := if neg then z - p else z + p

/-- The direction of the wrap that brings x into n signed bits: how many times 2^n is taken off (R128, R129). -/
def wrapDir (n : Nat) (x : Int) : Int := (x + 2 ^ (n - 1)) / 2 ^ n

/-- x in n bits. -/
def lowBits (n : Nat) (x : Int) : Nat := (x % 2 ^ n).toNat

/-! ### binary32 (R130) -/

/-- Sign. -/
def fSign (x : Nat) : Bool := nbit x 31

/-- Exponent field. -/
def fExp (x : Nat) : Nat := nbits x 23 8

/-- Fraction field. -/
def fFrac (x : Nat) : Nat := nbits x 0 23

/-- The significand with its hidden bit; a subnormal counts as zero. -/
def fSig (x : Nat) : Nat := if fExp x = 0 then 0 else 2 ^ 23 + fFrac x

/-- NaN. -/
def fNan (x : Nat) : Bool := decide (fExp x = 255) && decide (fFrac x ≠ 0)

/-- Infinite. -/
def fInf (x : Nat) : Bool := decide (fExp x = 255) && decide (fFrac x = 0)

/-- A signaling NaN. -/
def fSnan (x : Nat) : Bool := fNan x && !nbit x 22

/-- The significand that a residue of a stored value is formed of (R134, R136): the hidden bit is 0 for zero, infinity and NaN. -/
def fCarried (x : Nat) : Nat :=
  if fExp x = 0 then fFrac x else if fExp x = 255 then fFrac x else 2 ^ 23 + fFrac x

/-- A zero of a sign. -/
def fZero (sgn : Bool) : Nat := sgn.toNat * 2 ^ 31

/-- The outcome of an addition in F32: the value, the flags (invalid, overflow, underflow, inexact from bit 0), and, where the result is
a rounded finite number, the exponent of its last bit on the scale of `fma`. -/
structure FRes where
  val : Nat
  flags : Nat
  lsb : Option Nat := none

/-- Round s * 2^(e - 300), s > 0, to nearest, ties to even (R130): a subnormal result is flushed to zero of its sign; a result
beyond the format is infinite. -/
def fRound (sgn : Bool) (s e : Nat) : FRes :=
  let top := e + Nat.log2 s
  let l := if top < 174 then 151 else top - 23
  let k := l - e
  let q := if e ≤ l then s / 2 ^ k else s * 2 ^ (e - l)
  let r := if e ≤ l then s % 2 ^ k else 0
  let up := decide (2 ^ k < 2 * r) || (decide (2 * r = 2 ^ k) && decide (q % 2 = 1))
  let q := if e < l ∧ up then q + 1 else q
  let (q, l) := if q = 2 ^ 24 then (2 ^ 23, l + 1) else (q, l)
  if q < 2 ^ 23 then ⟨fZero sgn, 0xC, none⟩
  else if 255 ≤ l - 150 then ⟨fZero sgn + 255 * 2 ^ 23, 0xA, none⟩
  else ⟨fZero sgn + (l - 150) * 2 ^ 23 + (q - 2 ^ 23), if r = 0 then 0 else 8, some l⟩

/-- a * b + z, rounded once (R127, R130). `open_` says whether infinity times zero raises invalid beside a quiet NaN addend, which
IEEE 754 leaves open (assumption 2). -/
def fma (a b z : Nat) (open_ : Bool) : FRes :=
  let nan : Nat := 0x7FC00000
  let bad := (fInf a && decide (fSig b = 0)) || (fInf b && decide (fSig a = 0))
  let sp := fSign a != fSign b
  if fSnan a || fSnan b || fSnan z then ⟨nan, 1, none⟩
  else if fNan a || fNan b then ⟨nan, 0, none⟩
  else if bad then ⟨nan, if fNan z && !open_ then 0 else 1, none⟩
  else if fNan z then ⟨nan, 0, none⟩
  else if fInf a || fInf b then
    (if fInf z && (fSign z != sp) then ⟨nan, 1, none⟩ else ⟨fZero sp + 255 * 2 ^ 23, 0, none⟩)
  else if fInf z then ⟨z, 0, none⟩
  else
    let p := fSig a * fSig b
    let ep := fExp a + fExp b
    let ez := fExp z + 150
    let e := min ep ez
    let ip : Int := p * 2 ^ (ep - e)
    let iz : Int := fSig z * 2 ^ (ez - e)
    let sum := (if sp then -ip else ip) + (if fSign z then -iz else iz)
    if sum = 0 then
      (if p = 0 ∧ fSig z = 0 then ⟨fZero (sp && fSign z), 0, none⟩ else ⟨0, 0, none⟩)
    else fRound (decide (sum < 0)) sum.natAbs e

/-! ### The four modes (R126 to R129, R132 to R134) -/

/-- The value a cycle puts into the accumulator: the register, the carried residues, the flags. -/
structure CmbOut where
  acc : Nat := 0
  r0 : Nat := 0
  r1 : Nat := 0
  ovf : Bool := false
  flags : Nat := 0

/-- The addend of an n-bit lane at bit lo, signed, and its residue: zero, the own accumulator, port C (own residue), or CIN. -/
def addend (x : CmbIn) (k : CmbBlk) (zsel lo n : Nat) (rOwn rCin : Byte) : Int × Nat :=
  if zsel = 1 then (numOf true n (nbits k.acc.toNat lo n), rOwn.toNat)
  else if zsel = 2 then (numOf true n x.c.toNat, residue (numOf true n x.c.toNat))
  else if zsel = 3 then (numOf true n (nbits x.cin.toNat lo n), rCin.toNat)
  else (0, 0)

/-- acc := z ± p in n bits, with its carried residue (R129, R134). -/
def accumulate (n : Nat) (neg : Bool) (z : Int × Nat) (p : Int) (rp : Nat) : Nat × Nat × Bool :=
  let full := addSub neg z.1 p
  let v := wrapDir n full
  let c : Int := 2 ^ n % 255
  (lowBits n full, residue (addSub neg z.2 rp - v * c), decide (v ≠ 0))

/-- Mode M27 (R127, R128). -/
def cmbM27 (g : CmbCfg) (x : CmbIn) (k : CmbBlk) : CmbOut :=
  let a := numOf true 27 x.a.toNat
  let d := numOf true 27 x.d.toNat
  let b := numOf true 27 x.b.toNat
  let sum := addSub x.presub a d
  let w := wrapDir 27 sum
  let m := if g.pre then sum - w * 2 ^ 27 else a
  let rm : Nat := if g.pre then residue (addSub x.presub (residue a) (residue d) - 8 * w) else residue a
  let (p, r, o) := accumulate 64 x.neg (addend x k x.zsel 0 64 k.r0 x.cinR0) (m * b) (rm * residue b % 255)
  { acc := p, r0 := r, ovf := o || (g.pre && decide (w ≠ 0)) }

/-- Mode D18: two lanes; ZSEL = 2 acts as 0 (R127). -/
def cmbD18 (g : CmbCfg) (x : CmbIn) (k : CmbBlk) : CmbOut :=
  let zs := if x.zsel = 2 then 0 else x.zsel.val
  let lane (lo : Nat) (rOwn rCin : Byte) (u v : Int) : Nat × Nat × Bool :=
    accumulate 40 x.neg (addend x k zs lo 40 rOwn rCin) (u * v) (residue u * residue v % 255)
  let (p0, r0, o0) := lane 0 k.r0 x.cinR0 (numOf g.sa 18 x.a.toNat) (numOf g.sb 18 x.b.toNat)
  let (p1, r1, o1) := lane 40 k.r1 x.cinR1 (numOf g.sd 18 x.d.toNat) (numOf g.sc 18 x.c.toNat)
  { acc := p0 + p1 * 2 ^ 40, r0 := r0, r1 := r1, ovf := o0 || o1 }

/-- Mode Q8: four products of bytes (R127). -/
def cmbQ8 (g : CmbCfg) (x : CmbIn) (k : CmbBlk) : CmbOut :=
  let a (i : Nat) : Int := numOf g.sa 8 (nbits x.a.toNat (8 * i) 8)
  let b (i : Nat) : Int := numOf g.sb 8 (nbits x.b.toNat (8 * i) 8)
  let p := a 0 * b 0 + a 1 * b 1 + a 2 * b 2 + a 3 * b 3
  let r (i : Nat) : Nat := residue (a i) * residue (b i)
  let (v, rv, o) := accumulate 64 x.neg (addend x k x.zsel 0 64 k.r0 x.cinR0) p ((r 0 + r 1 + r 2 + r 3) % 255)
  { acc := v, r0 := rv, ovf := o }

/-- The addend of F32 and the residue that comes with it. -/
def fAddend (x : CmbIn) (k : CmbBlk) : Nat × Nat :=
  if x.zsel = 1 then (nbits k.acc.toNat 0 32, k.r0.toNat)
  else if x.zsel = 2 then
    let c := nbits x.c.toNat 0 32
    (c, residue (if fExp c = 0 then 0 else fCarried c))
  else if x.zsel = 3 then (nbits x.cin.toNat 0 32, x.cinR0.toNat)
  else (0, 0)

/-- Mode F32 (R127, R130, R134). The carried residue is that of the rounded significand; an error of the addend's residue is carried
along with the shift that brings the addend to the result's last bit. NEG negates the addend. -/
def cmbF32 (x : CmbIn) (k : CmbBlk) (open_ : Bool) : CmbOut :=
  let (z0, rz) := fAddend x k
  let z := if x.neg then z0 ^^^ 0x80000000 else z0
  let f := fma (nbits x.a.toNat 0 32) (nbits x.b.toNat 0 32) z open_
  let r := residue (fCarried f.val)
  let rc := match f.lsb with
    | none => r
    | some l =>
      let err : Int := (rz : Int) - residue (if fExp z = 0 then 0 else fCarried z)
      let sh : Int := err * 2 ^ ((fExp z + 150 + 8 * 200 - l) % 8)
      residue (if fSign z = fSign f.val then r + sh else r - sh)
  { acc := f.val, r0 := rc, flags := f.flags }

/-- One cycle of the datapath (R126): held with CE = 0; CLR writes 0; otherwise the mode's operation. -/
def cmbCycle (g : CmbCfg) (x : CmbIn) (open_ : Bool) (k : CmbBlk) : CmbBlk :=
  if !x.ce then k
  else
    let o : CmbOut := if x.clr then {} else
      match g.mode.val with
      | 0 => cmbM27 g x k
      | 1 => cmbD18 g x k
      | 2 => cmbQ8 g x k
      | _ => cmbF32 x k open_
    { k with acc := BitVec.ofNat 80 o.acc, r0 := BitVec.ofNat 8 o.r0, r1 := BitVec.ofNat 8 o.r1,
             dup := if g.mode = 3 then BitVec.ofNat 9 (o.acc / 2 ^ 23) else 0, ovf := o.ovf, flags := BitVec.ofNat 4 o.flags }

/-- The registers after an upset. -/
def CmbBlk.upset (k : CmbBlk) (u : CmbUpset) : CmbBlk :=
  { k with acc := k.acc ^^^ u.acc, r0 := k.r0 ^^^ u.r0, r1 := k.r1 ^^^ u.r1, dup := k.dup ^^^ u.dup }

/-- The residue of lane 0, or of lane 1 in D18, of a value under a mode (R136). -/
def valueResidue (mode : Nat) (lane1 : Bool) (v : Nat) : Nat :=
  if mode = 3 then residue (fCarried (nbits v 0 32))
  else if mode = 1 then residue (numOf true 40 (nbits v (if lane1 then 40 else 0) 40))
  else residue (numOf true 64 v)

/-- The check kinds that fail in a cycle (R136): 1 the result, 2 the cascade value, 3 the copies of F32, 4 lane 1. A residue register
holds a value from 0 to 254; one that reads 255 fails like any other. -/
def cmbChecks (g : CmbCfg) (x : CmbIn) (k : CmbBlk) : List Nat :=
  let m := g.mode.val
  let k1 := decide (valueResidue m false k.acc.toNat ≠ k.r0.toNat)
  let k2 := decide (x.zsel = 3) && (decide (valueResidue m false x.cin.toNat ≠ x.cinR0.toNat) ||
    (decide (m = 1) && decide (valueResidue m true x.cin.toNat ≠ x.cinR1.toNat)))
  let k3 := decide (m = 3) && decide (nbits k.acc.toNat 23 9 ≠ k.dup.toNat)
  let k4 := decide (m = 1) && decide (valueResidue m true k.acc.toNat ≠ k.r1.toNat)
  (if k1 then [1] else []) ++ (if k2 then [2] else []) ++ (if k3 then [3] else []) ++ (if k4 then [4] else [])

/-! ### A cycle of a block (R136, R139 to R142) -/

/-- The key of a block. -/
def cmbKey (d col row : Nat) : Nat := (d * 13 + col) * 512 + row

/-- The logical CMB column at a physical one, none where a column is idle (R121). -/
def State.cmbLogical (s : State) (d col : Nat) : Option Nat :=
  let p := s.f d REGIONS_CREMAP_active
  if p = 0xF then (if col < 12 then some col else none)
  else if col < p then some col else if col = p then none else some (col - 1)

/-- The local region of a block: four columns of three logical CMB columns, six rows of fifty (R122). -/
def State.cmbRegion (s : State) (d col row : Nat) : Option Nat := (s.cmbLogical d col).map (fun l => row / 50 * 4 + l / 3)

/-- A mismatch (R140 to R142): the sticky bit is set, and the block's first mismatch of the tick is reported. -/
def cmbMismatch (d col row region : Nat) (kinds : List Nat) (mode : Nat) (s : State) : State :=
  let fld : Fld := ⟨CMBERR_STICKY col (row / 32), row % 32, 1⟩
  let fresh := !s.on d fld
  let s := s.setF d fld 1
  let k := KMap.look s.cmb.blk (cmbKey d col row)
  if k.told = s.time.num + 1 then s
  else
    let r : CmbReport := ⟨col, row, kinds, mode, region, s.tick32, fresh⟩
    { s with cmb := { s.cmb with
        blk := KMap.put s.cmb.blk (cmbKey d col row) { k with told := s.time.num + 1 }
        report := KMap.put s.cmb.report d (KMap.look s.cmb.report d ++ [r]) } }

/-- CMB_RESIDUE_MISMATCH: one cycle of a block, with an upset: the datapath takes its step, the checks compare, the block passes on the
value it computed with SUSPECT beside it. Blocks of a region that is neither RUNNING nor DRAINING are unclocked (R136, R146). -/
def cmbRun (d col row : Nat) (g : CmbCfg) (x : CmbIn) (u : CmbUpset) (s : State) : State :=
  match s.cmbRegion d col row with
  | none => s
  | some i =>
    let st := s.regionState d i
    if !s.live d || (decide (st ≠ 5) && decide (st ≠ 1)) then s
    else
      let k := (cmbCycle g x (s.free.getLsbD 0) (KMap.look s.cmb.blk (cmbKey d col row))).upset u
      let bad := cmbChecks g x k
      let s := { s.freeNext with cmb := { s.cmb with blk := KMap.put s.cmb.blk (cmbKey d col row) k } }
      let s := s.emit (.cmb k.acc k.r0 k.r1 (!bad.isEmpty) k.ovf k.flags)
      if bad.isEmpty then s else cmbMismatch d col row i bad g.mode.val s

/-- CMB_RESIDUE_MISMATCH (R140). -/
def execCmbResidueMismatch (d : FabDie) (col : Fin 13) (row : Fin 300) (g : CmbCfg) (x : CmbIn) (u : CmbUpset) (s : State) : Res :=
  run (cmbRun (d.val + 2) col.val row.val g x u) s

/-! ### Reports and records (R141 to R144, R147, R150) -/

/-- A report put in its place by column and row. -/
def insReport (r : CmbReport) (l : List CmbReport) : List CmbReport :=
  match l with
  | [] => [r]
  | x :: t => if r.col * 512 + r.row < x.col * 512 + x.row then r :: x :: t else x :: insReport r t

/-- Reports that arrive together, in order of column and row (R143). -/
def sortReports (l : List CmbReport) : List CmbReport := l.foldl (fun a r => insReport r a) []

/-- The event bit of a check kind. -/
def cmbEvent (kind : Nat) : Fld := if kind = 2 then CMBERR_EVT_cascade else if kind = 3 then CMBERR_EVT_fp_compare else CMBERR_EVT_mismatch

/-- A report reaches the error block (R141 to R144, R147). -/
def cmbTake (d : Nat) (r : CmbReport) (s : State) : State :=
  let s := s.each r.kinds (fun s k => s.evt d (cmbEvent k))
  let old := s.f d (CMBERR_CNT_value r.col)
  let s := (s.inc d (CMBERR_CNT_value r.col) 1).inc d CMBERR_TOTAL_value 1
  let t := s.f d CMBERR_THR_count
  let s := if t ≠ 0 ∧ old < t ∧ t ≤ s.f d (CMBERR_CNT_value r.col) then
      s.evtLatch d CMBERR_EVT_threshold (fun s => s.setF d CMBERR_THR_column r.col)
    else s
  let s := s.when (s.on d CMBERR_CTRL_automark) (fun s => s.setF d ⟨CMBERR_MARK, r.region, 1⟩ 1)
  let l := KMap.look s.cmb.fifo d
  let s := if !r.fresh then s
    else if 32 ≤ l.length then (s.inc d CMBERR_FIFO_STAT_dropped 1).evt d CMBERR_EVT_dropped
    else { s with cmb := { s.cmb with fifo := KMap.put s.cmb.fifo d (l ++ [r]) } }
  errReport d 0 .contained r.region 0 s

/-- CMB_MISMATCH_REPORT: the n oldest reports on their way arrive in one cycle. -/
def cmbReports (d n : Nat) (s : State) : State :=
  let l := KMap.look s.cmb.report d
  let s := { s with cmb := { s.cmb with report := KMap.put s.cmb.report d (l.drop n) } }
  s.each (sortReports (l.take n)) (fun s r => cmbTake d r s)

/-- CMB_MISMATCH_REPORT (R141). -/
def execCmbMismatchReport (d : FabDie) (n : Nat) (s : State) : Res := run (cmbReports (d.val + 2) n) s

/-- Word 0 of a record: the lowest kind that failed (R141, R150). -/
def CmbReport.word (r : CmbReport) : Word :=
  packBits [(0, r.col), (4, r.row), (13, r.kinds.headD 0), (16, r.mode), (18, 1), (19, r.region)]

/-- A read of `CMBERR_REC_LO` (R150): pops a record and captures its tick; a debug read does neither (R11). -/
def cmbPop (d : Nat) (peek : Bool) (s : State) : State × Word :=
  match KMap.look s.cmb.fifo d with
  | [] => (if peek then s else s.wr d CMBERR_REC_HI 0, 0)
  | r :: t =>
    (if peek then s
     else ({ s with cmb := { s.cmb with fifo := KMap.put s.cmb.fifo d t } }).wr d CMBERR_REC_HI (BitVec.ofNat 32 r.tick), r.word)

/-- CMBERR_REC_POP (R150). -/
def execCmberrRecPop (d : FabDie) (peek : Bool) (s : State) : Res :=
  run (fun s => let (s, w) := cmbPop (d.val + 2) peek s; s.emit (.value w)) s

/-- A load releases a region: its mark bit clears, and its accumulators hold INIT, 0 (R126, R144). -/
def cmbRelease (d i : Nat) (s : State) : State :=
  let l := s.cmb.blk.filter (fun e => decide (e.1 / 512 / 13 ≠ d) || decide (s.cmbRegion d (e.1 / 512 % 13) (e.1 % 512) ≠ some i))
  ({ s with cmb := { s.cmb with blk := l } }).setF d ⟨CMBERR_MARK, i, 1⟩ 0

end Sys2Proof.Machine
end

