-- ==== Sys2Proof/Machine/Tick.lean ====
section
/-! DEFINITION. The tick and the timebase (02): lock, period changes, the Ringlet receivers, slack and overrun. -/

namespace Sys2Proof.Machine

/-- This device acts as the time root (R72, R317). -/
def State.isRoot (s : State) : Bool := s.on 0 TICK_ROLE_root

/-- The countdown of slot 14: boundaries until the pending change, saturating at 255 (R63). -/
def State.countdown (s : State) : Nat :=
  match s.tick.pend with
  | some c => min 255 (c.tick - s.time.num)
  | none => 0

/-- The flags of slot 15: sync, holdover, test period (R63). -/
def State.ringFlags (s : State) : Nat :=
  (if s.tick.sync then 1 else 0) + (if s.tick.holdover then 2 else 0) + (if s.testPeriod then 4 else 0)

/-- One Ringlet frame of the current boundary at die d (R62 to R65, R508, R82). -/
def ringFrame (d : Nat) (bad : Bool) (s : State) : State :=
  let r := KMap.look s.tick.rx d
  let slot := s.time.num % 16
  let cd := s.countdown
  let put (r' : RingRx) (s : State) : State := { s with tick := { s.tick with rx := KMap.put s.tick.rx d r' } }
  if bad then
    let s := (s.evt d TICK_EVT_ring_err).inc d TICK_RING_ERR_value 1
    let b := r.bad + 1
    if r.lock && decide (4 ≤ b) then
      put { r with lock := false, good := 0, bad := b, wait := false, unlocked := 0, num := s.time.num, bnd := s.time.bnd }
        (s.evt d TICK_EVT_lock_lost)
    else if r.lock then put { r with good := 0, bad := b, num := s.time.num, bnd := s.time.bnd } s
    else
      let u := if r.ever then r.unlocked + 1 else 0
      let s := put { r with good := 0, bad := b, unlocked := u } s
      s.when (decide (u = 16)) (errReport d 6 .dieFatal 0x1F 0)
  else if r.lock then
    let c' := if slot = 14 then cd else r.countdown
    let f' := if slot = 15 then s.ringFlags else r.flags
    put { r with bad := 0, num := s.time.num, bnd := s.time.bnd, countdown := c', flags := f' } s
  else
    let wait := if slot = 14 then decide (cd ≠ 0) else r.wait
    let good := if wait then 0 else r.good + 1
    if good = 16 then
      let r' := { r with lock := true, ever := true, good := 16, bad := 0, wait := false, unlocked := 0 }
      put { r' with num := s.time.num, bnd := s.time.bnd, countdown := 0, flags := s.ringFlags } s
    else
      let u := if r.ever then r.unlocked + 1 else 0
      let s := put { r with good := good, bad := 0, wait := wait, unlocked := u } s
      s.when (decide (u = 16)) (errReport d 6 .dieFatal 0x1F 0)

/-- Die d's receiver is locked; on IOS, the generator runs (R65, `TICK_STATUS.lock`). -/
def State.ringLocked (s : State) (d : Nat) : Bool :=
  s.live d && (if d = 0 then s.tbRuns else s.tbRuns && (KMap.look s.tick.rx d).lock)

/-- The frames of the current boundary reach every die out of reset; the dies in `bad` get a bad one (R62, R65). -/
def ringFrames (bad : List Nat) (s : State) : State :=
  s.each otherDies (fun s d => if s.live d then ringFrame d (bad.contains d) s else s)

/-! ### The time after a command of the timebase -/

/-- P and Q that the device may run at (R52, R53). -/
def periodOk (p q : Nat) : Bool :=
  decide (16 ≤ p) && decide (p ≤ 2 ^ 24) && (decide (p < 80) || (decide (64 ≤ q) && decide (q + 16 ≤ p)))

/-- The pending change that the boundary to come brings; every check that arms one asks for a legal period (R52, R53, R69). -/
def State.dueChange (s : State) : Option Change :=
  match s.tick.pend with
  | some c => if decide (c.tick = s.time.num + 1) && periodOk c.p c.q then some c else none
  | none => none

/-- The time at the next boundary: the count is that boundary's, and a change pending for the new tick takes effect (R51, R71). -/
def State.nextTime (s : State) : Time :=
  let b := s.time.bnd + s.time.p
  match s.dueChange with
  | some c => ⟨b, s.time.num + 1, b, c.p, c.q⟩
  | none => ⟨b, s.time.num + 1, b, s.time.p, s.time.q⟩

/-- The time after TICK_BOUNDARY. -/
def State.boundaryTime (s : State) : Time := if s.tbRuns then s.nextTime else s.time

/-- The quiet window of the tick may open: the generator runs, the tick has one, and it has not opened yet (R53, R56). -/
def State.mayOpen (s : State) : Bool := s.tbRuns && !s.testPeriod && !s.tick.quietOpen

/-- The time after QUIET_WINDOW_OPEN: the count is qs, or later where it already is (R4). -/
def State.quietTime (s : State) : Time := if s.mayOpen then { s.time with count := max s.time.count s.qs } else s.time

/-- The records of the tick may commit: its quiet window has opened (R396). -/
def State.mayCommit (s : State) : Bool := s.tbRuns && !s.testPeriod && s.tick.quietOpen

/-- The time after SEGMENT_COMMIT: the count is qs + 16, or later (R396). -/
def State.commitTime (s : State) : Time :=
  if s.mayCommit then { s.time with count := max s.time.count (s.qs + 16) } else s.time

/-- The heartbeat of the tick may be checked: once in a tick of 80 tb or more (R477). -/
def State.mayCheck (s : State) : Bool := s.tbRuns && !s.testPeriod && !s.tick.hbDone

/-- The time after HEARTBEAT_CHECK: 16 tb before the boundary, or later (R477). -/
def State.checkTime (s : State) : Time :=
  if s.mayCheck then { s.time with count := max s.time.count (s.time.bnd + s.time.p - 16) } else s.time

/-! ### Timebase lock (R44, R45, R54, R61, R530) -/

/-- The timebase PLL locks in step S1; a REFSEL code of 7 never locks (R45). -/
def State.mayLock (s : State) : Bool :=
  s.on 0 JOURNAL_STAT_running && decide (s.f 0 JOURNAL_STAT_step = 1) && decide (s.f 0 CLK_REF_refsel ≠ 7) && s.tick.tb == .off

/-- The time after TIMEBASE_LOCK: the count, tick number and last boundary start at 0, P and Q at 2,048 and 256 (R45, R54). -/
def State.lockTime (s : State) : Time := if s.mayLock then {} else s.time

/-- The timebase PLL locks in step S1: the count, tick number and last boundary start at 0, P and Q at 2,048 and 256, and
each receiver takes its trimmed delay. A REFSEL code of 7 never locks. -/
def timebaseLock (delays : List Nat) (s : State) : State :=
  if s.mayLock then
    let s := { s with time := s.lockTime, tick := { s.tick with tb := .running, quietOpen := false, pend := none, late := [] } }
    let s := s.setF 0 CLK_REF_tb_lock 1
    let s := s.each ((List.range 10).zip delays) (fun s e => s.setF e.1 TICK_RING_delay e.2)
    ringFrames [] s
  else s


/-! ### Period changes (R52, R53, R69, R70, R73) -/

/-- The first reason that refuses an arm; 0 when it is accepted (R69). -/
def armReason (both : Bool) (s : State) : Nat :=
  let n := s.time.num
  let at' := s.rd64 0 TICK_AT_LO TICK_AT_HI
  let p := s.f 0 TICK_NEXT_P_value
  let q := s.f 0 TICK_NEXT_Q_value
  if both then 7
  else if !s.isRoot then 5
  else if at' < n + 17 then 1
  else if p < 16 ∨ 2 ^ 24 < p then 2
  else if 80 ≤ p ∧ (q < 64 ∨ p < q + 16) then 3
  else if p < 80 ∧ s.lifeCycle ≠ 0 ∧ s.lifeCycle ≠ 3 then 4
  else match s.tick.pend with
    | some c => if c.tick < n + 17 then 6 else 0
    | none => 0

/-- A refused arm or cancel (R69, R70). -/
def armRefuse (reason : Nat) (s : State) : State :=
  (s.setF 0 TICK_ARMSTAT_reason reason).evt 0 TICK_EVT_arm_refused

/-- A write of 1 to `TICK_ARM.arm`; `both` when cancel is written with it (R69). -/
def tickArm (both : Bool) (s : State) : State :=
  if !s.live 0 then s
  else
    let r := armReason both s
    if r = 0 then
      let c : Change := ⟨s.rd64 0 TICK_AT_LO TICK_AT_HI, s.f 0 TICK_NEXT_P_value, s.f 0 TICK_NEXT_Q_value⟩
      ({ s with tick := { s.tick with pend := some c } }).setF 0 TICK_ARMSTAT_pending 1
    else armRefuse r s

/-- A write of 1 to `TICK_ARM.cancel` alone (R70, R73). -/
def tickCancel (s : State) : State :=
  if !s.live 0 then s
  else if !s.isRoot then armRefuse 5 s
  else match s.tick.pend with
    | none => s
    | some c =>
      if c.tick < s.time.num + 17 then armRefuse 6 s
      else ({ s with tick := { s.tick with pend := none } }).setF 0 TICK_ARMSTAT_pending 0

/-- TICK_ARM (R69). -/
def execTickArm (both : Bool) (s : State) : Res := run (tickArm both) s

/-- TICK_CANCEL (R70). -/
def execTickCancel (s : State) : Res := run tickCancel s

/-! ### Slack and overrun (R79 to R81, R104) -/

/-- The die that owns a monitor. -/
def Monitor.die (m : Monitor) : Nat :=
  match m with
  | .router x y => dieIndex x y
  | .region d _ => d.val
  | .duty d _ => d.val

/-- The kind and place of a monitor in `TICK_OVR_SRC`. -/
def Monitor.code (m : Monitor) : Nat × Nat :=
  match m with
  | .router x y => (0, x % 16 + y % 16 * 16)
  | .region _ i => (1, i)
  | .duty _ c => (2, c)

/-- A completion offset enters the monitor's largest values: the die's, and the region's or the router's own; a
region's monitor counts only while the region runs (R79, R81, R104). -/
def slackOffset (m : Monitor) (off : Nat) (s : State) : State :=
  match m with
  | .router x y =>
    let d := dieIndex x y
    let k := x + 16 * y
    let r := KMap.look s.rtr k
    ({ s with rtr := KMap.put s.rtr k { r with slack := min (max r.slack off) 0xFFFFFFFF } }).largest d TICK_USE_MAX_value off
  | .region d i =>
    if s.regionState d i = 5 then (s.largest d (REGIONS_SLACK_value i) off).largest d TICK_USE_MAX_value off else s
  | .duty d _ => s.largest d TICK_USE_MAX_value off

/-- Scheduled work or a quiet-window duty that belongs to tick `n` completes `amount` tb after the next boundary, at
completion offset `off` (R79, R80). -/
def slackOverrun (m : Monitor) (n off amount : Nat) (s : State) : State :=
  let d := m.die
  let counts := match m with | .region d i => decide (s.regionState d i = 5) | _ => true
  if !(s.live d && counts) then s
  else
    let s := slackOffset m off s
    let s := match m with
      | .router x y =>
        let k := x + 16 * y
        let r := KMap.look s.rtr k
        ({ s with rtr := KMap.put s.rtr k { r with ovr := min (r.ovr + 1) 0xFFFFFFFF } }).evt d NOC_EVT_overrun
      | .region d i => (s.inc d (REGIONS_OVR_value i) 1).evt d REGIONS_EVT_overrun
      | .duty d c => { s with tick := { s.tick with late := s.tick.late.filter (fun e => e != (d.val, c)) } }
    let s := s.inc d TICK_OVR_CNT_value 1
    let s := s.evtLatch d TICK_EVT_overrun (fun s =>
      (s.setFs d [(TICK_OVR_SRC_die, d), (TICK_OVR_SRC_kind, m.code.1), (TICK_OVR_SRC_where, m.code.2),
        (TICK_OVR_SRC_amount, sat 16 amount)]).wr64 d TICK_OVR_TICK_LO TICK_OVR_TICK_HI n)
    errReport d 5 .contained 0x1F 0 s

/-! ### Between commands -/

/-- With no command waiting the timebase counts on by 1 tb while the generator runs, up to the next boundary, which is a command of its own
(R45, R51; assumption 1). -/
def idle (s : State) : State :=
  if s.tbRuns && decide (s.time.count + 1 < s.time.bnd + s.time.p) then
    { s with time := { s.time with count := s.time.count + 1 } }
  else s

end Sys2Proof.Machine
end

