-- ==== Sys2Proof/Machine/Itastea.lean ====
section
/-! DEFINITION. Itastea (10): control blocks, frames and replay, link bring-up and loss, time transfer, joining, routes and events. -/

namespace Sys2Proof.Machine

/-! ### Control blocks (R303) -/

/-- A control block of a type with its payload bits [47:8] and CRC-16 (R303). -/
def mkCtl (ty payload : Nat) : BitVec 64 :=
  let x := ty + payload * 256
  BitVec.ofNat 64 (x % 2 ^ 48 + crc16 (bytesOf 6 (x % 2 ^ 48)) * 2 ^ 48)

/-- The CRC-16 of a control block holds (R303). -/
def ctlOk (b : BitVec 64) : Bool := decide (crc16 (bytesOf 6 (b.toNat % 2 ^ 48)) = nbits b.toNat 48 16)

/-- Take a control block of a type on a port: one whose CRC fails or whose type is another is discarded and counted (R303);
a port that is OFF, TRAINING or DOWN takes none. -/
def takeCtl (p ty : Nat) (b : BitVec 64) (f : State → State) (s : State) : State :=
  if !s.portSends p then s
  else if ctlOk b ∧ nbits b.toNat 0 8 = ty then f s
  else s.incPf p ITA_P_ERR_ctl 1

/-- The NAK block for the seq expected (R303). -/
def mkNak (seq : Nat) : BitVec 64 := mkCtl 0x82 seq

/-- The ACK block of a port: the last sequenced frame accepted and the counts of buffers freed (R303). -/
def mkAck (x : ItaPort) : BitVec 64 :=
  mkCtl 0x81 ((x.rxSeq + 4095) % 4096 + nth x.freed 0 % 64 * 2 ^ 12 + nth x.freed 1 % 64 * 2 ^ 18 +
    nth x.freed 2 % 64 * 2 ^ 24 + nth x.freed 3 % 64 * 2 ^ 30)

/-- A TSYNC block (R303). -/
def mkTsync (tseq : Nat) (fromParent calib : Bool) : BitVec 64 :=
  mkCtl 0x84 (tseq % 65536 + fromParent.toNat * 2 ^ 16 + calib.toNat * 2 ^ 17)

/-- A GOODBYE block (R303). -/
def mkGoodbye (cause : Nat) : BitVec 64 := mkCtl 0x85 cause

/-- The HELLO block of a port (R303). -/
def State.mkHello (s : State) (p : Nat) : BitVec 64 :=
  mkCtl 0x83 (s.devId + s.f 0 ITA_ID_valid * 2 ^ 14 + p * 2 ^ 15 + s.portRole p * 2 ^ 18 + s.pf p ITA_P_CFG_width * 2 ^ 20 +
    s.pf p ITA_P_CFG_rate * 2 ^ 22 + 2 ^ 24 + s.tick.sync.toNat * 2 ^ 32)

/-! ### Roles (R72, R76, R78, R317) -/

/-- The role in which the device acts under R317: 1 root. -/
def State.actsRoot (s : State) : Bool :=
  !s.hasUpPort || (decide (s.portState s.upstream ≠ 4) && s.on 0 TICK_ROLE_cfg)

/-- Bring `TICK_ROLE.root` up to date; `cfgChanged` says that the configured role has just been set. Where the two roles
differ after a change of either, `root_conflict` is set (R317); the root is in sync (`TICK_STATUS.sync`). -/
def roleUpdate (cfgChanged : Bool) (s : State) : State :=
  if s.upstream = 15 then s
  else
    let r := s.actsRoot
    let changed := cfgChanged || decide (s.f 0 TICK_ROLE_root ≠ r.toNat)
    let s := s.setB 0 TICK_ROLE_root r
    let s := if r then { s with tick := { s.tick with sync := true, holdover := false } } else s
    s.when (changed && decide (s.f 0 TICK_ROLE_cfg ≠ r.toNat)) (fun s => s.evt 0 ITA_EVT_root_conflict)

/-- The upstream port has gone DOWN: unless the device now acts as the root, it enters holdover (R76, R317). -/
def upstreamLost (s : State) : State :=
  let s := roleUpdate false s
  if s.isRoot then s
  else ({ s with tick := { s.tick with holdover := true } }).evt 0 TICK_EVT_holdover_enter

/-! ### Routes (R321 to R323) -/

/-- The table entry for an ID: (cluster table?, index); none for an ID that no entry can hold (R322). -/
def State.routeSlot (s : State) (id : Nat) : Option (Bool × Nat) :=
  if clusterOf id = clusterOf s.devId then some (false, id % 64)
  else if id % 64 = 0 then some (true, clusterOf id)
  else none

/-- Set or clear (none) the route for an ID. -/
def setRoute (id : Nat) (p : Option Nat) (s : State) : State :=
  let v := match p with | some q => q + 1 | none => 0
  match s.routeSlot id with
  | some (false, k) => { s with ita := { s.ita with member := KMap.put s.ita.member k v } }
  | some (true, k) => { s with ita := { s.ita with cluster := KMap.put s.ita.cluster k v } }
  | none => s

/-- The learned port for a device ID, none when its entry is empty (R321). -/
def State.routeEntry (s : State) (id : Nat) : Option Nat :=
  let v := if clusterOf id = clusterOf s.devId then KMap.look s.ita.member (id % 64) else KMap.look s.ita.cluster (clusterOf id)
  if v = 0 then none else some (v - 1)

/-- The port by which a frame for another device leaves: the learned route; the far end of a peer port for a memory frame; the
upstream port for an empty entry; none on the top device (R321). -/
def State.routePort (s : State) (id : Nat) (memory : Bool) : Option Nat :=
  let peer := allPorts.find? (fun p => memory && decide (s.portRole p = 2) && decide (s.portState p = 4) &&
    decide (s.pf p ITA_P_STAT_far_id = id))
  match peer with
  | some p => some p
  | none =>
    match s.routeEntry id with
    | some p => some p
    | none => if s.hasUpPort then some s.upstream else none

/-- Pass a management message upstream (R322). -/
def sendUp (m : Mgmt) (s : State) : State := if s.hasUpPort then itaSend s.upstream (.mgmt m) s else s

/-- The IDs whose routes name port p. -/
def State.idsVia (s : State) (p : Nat) : List Nat :=
  ((s.ita.member.filter (fun e => e.2 == p + 1)).map (fun e => clusterOf s.devId * 64 + e.1)) ++
  ((s.ita.cluster.filter (fun e => e.2 == p + 1)).map (fun e => e.1 * 64))

/-- The routes through a port are emptied, and each ID lost is reported upstream (R323). -/
def dropRoutes (p : Nat) (s : State) : State :=
  s.each (s.idsVia p) (fun s id =>
    let s := setRoute id none s
    if s.upstream = p then s else sendUp (.routeDel (BitVec.ofNat 14 id)) s)

/-! ### Link loss (R309) -/

/-- A debug path is lost: 2 the host, 3 Itastea; the master it owned has no owner any more (R570). -/
def dbgPathLost (p : Nat) (s : State) : State := if s.f 0 DBG_OWN_owner = p then s.setF 0 DBG_OWN_owner 0 else s

/-- A port goes DOWN with a reason (R309): replay buffers discarded, outstanding remote requests completed with the fenced
status, queued events dropped and counted, learned routes removed; the upstream port puts the device in holdover. -/
def portDown (p reason : Nat) (s : State) : State :=
  if s.portState p = 0 ∨ s.portState p = 5 then s
  else
    let x := s.port p
    let lost := (x.waiting.filter (fun m => m.kind == 1)).length
    let s := (s.setPf p ITA_P_STAT_state 5).setPf p ITA_P_STAT_reason reason
    let s := s.evt 0 ITA_EVT_port_down
    let s := s.incPf p ITA_P_DROP_events lost
    let mine := s.ita.remote.filter (fun r => r.port == p)
    let s := s.each mine (fun s r => answerError r.hdr 8 s)
    let s := { s with ita := { s.ita with remote := s.ita.remote.filter (fun r => r.port != p) } }
    let s := s.setPort p {}
    let s := dropRoutes p s
    if s.upstream = p then upstreamLost (dbgPathLost 3 s) else s

/-- GOODBYEs before a port of this device goes away: 16 on a port in UP (R309). -/
def sayGoodbye (p cause : Nat) (s : State) : State :=
  if s.portState p = 4 then s.each (List.range 16) (fun s _ => s.emit (.itaCtl p (mkGoodbye cause))) else s

/-- HELLO_TIMEOUT: 4 × 65,536 blocks without a valid HELLO (R309). -/
def execHelloTimeout (p : Fin 8) (s : State) : Res := run (fun s => if s.portSends p.val then portDown p.val 4 s else s) s

/-- GOODBYE (R309). -/
def execGoodbye (p : Fin 8) (b : BitVec 64) (s : State) : Res := run (takeCtl p.val 0x85 b (portDown p.val 6)) s

/-! ### Bring-up (R308) -/

/-- A device asks its parent to join: its fixed ID, or 0xFFFF in assigned mode (R319); in both modes a device that holds an ID
keeps it (R320). -/
def sendJoinReq (s : State) : State :=
  let id := if s.on 0 ITA_ID_valid then s.devId else 0xFFFF
  itaSend s.upstream (.mgmt (.joinReq (BitVec.ofNat 16 id))) s

/-- A port enters UP. -/
def portUp (p : Nat) (s : State) : State :=
  let s := (s.setPf p ITA_P_STAT_state 4).evt 0 ITA_EVT_port_up
  if s.upstream = p then roleUpdate false s else s

/-- The child starts a calibration (R312): a TSYNC with dir 0 leaves; its stamp comes with the TSYNC step of its sending. -/
def startCalibration (p : Nat) (s : State) : State :=
  let x := s.port p
  (s.setPort p { x with tseq := (x.tseq + 1) % 65536 }).emit (.itaCtl p (mkTsync x.tseq false true))

/-- A port whose bundle is up enters LINKUP and says HELLO; the child calibrates once (R308, R312). -/
def portLinkUp (p : Nat) (s : State) : State :=
  if s.portState p = 1 then
    let s := (s.setPort p {}).setPf p ITA_P_STAT_state 2
    let s := s.emit (.itaCtl p (s.mkHello p))
    if s.portRole p = 0 then startCalibration p s else s
  else s

/-- Two roles may pair (R300): upstream with downstream, peer with peer. -/
def rolesPair (a b : Nat) : Bool := (a == 0 && b == 1) || (a == 1 && b == 0) || (a == 2 && b == 2)

/-- A valid HELLO on a port (R303, R308). -/
def helloTake (p : Nat) (b : BitVec 64) (s : State) : State :=
  let x := b.toNat
  if nbits x 28 2 ≠ s.pf p ITA_P_CFG_width ∨ nbits x 30 2 ≠ s.pf p ITA_P_CFG_rate then portDown p 2 s
  else if !rolesPair (s.portRole p) (nbits x 26 2) then portDown p 3 s
  else
    let s := ((s.setPf p ITA_P_STAT_far_id (nbits x 8 14)).setPf p ITA_P_STAT_far_valid (nbits x 22 1)).setPf p
      ITA_P_STAT_sync (nbits x 40 1)
    if s.portState p ≠ 2 then s
    else
      let q := s.port p
      if q.hellos < 3 then s.setPort p { q with hellos := q.hellos + 1 }
      else
        let s := s.setPort p { q with hellos := 0 }
        if s.portRole p = 0 then
          let s := s.setPf p ITA_P_STAT_state 3
          if s.start.mayJoin then sendJoinReq s else s
        else portUp p s

/-- HELLO (R308). -/
def execHello (p : Fin 8) (b : BitVec 64) (s : State) : Res := run (takeCtl p.val 0x83 b (helloTake p.val b)) s

/-! ### Sequenced frames (R304 to R307) -/

/-- The bytes of a frame's CRC: FSTART payload bytes 0 to 5, then the body before the CRC (R304). -/
def frameBodyOk (b : BitVec 64) (body : List Byte) : Bool :=
  let l := body.map (·.toNat)
  let n := l.length
  decide (n = 8 * nbits b.toNat 12 7) && decide (8 ≤ n) &&
  decide (crc32c (bytesOf 6 (b.toNat % 2 ^ 48) ++ l.take (n - 4)) = ofBytes (l.drop (n - 4)))

/-- A frame has arrived whole (R304 to R307): a sequenced frame is accepted only with its CRC right and the next seq, and
otherwise discarded with one NAK until that seq arrives; an unsequenced frame only with its CRC right. -/
def fstartTake (p : Nat) (b : BitVec 64) (body : List Byte) (s : State) : State :=
  let kind := nbits b.toNat 8 3
  let ok := frameBodyOk b body
  let s := if ok then s else s.incPf p ITA_P_ERR_crc 1
  if kind = 0 ∨ kind = 5 then (if ok then s.emit (.itaAccept p kind) else s)
  else if 5 < kind then s
  else
    let x := s.port p
    if ok ∧ nbits b.toNat 19 12 = x.rxSeq then
      let x := { x with rxSeq := (x.rxSeq + 1) % 4096, nakSent := false }
      ((s.setPort p x).emit (.itaAccept p kind)).emit (.itaCtl p (mkAck x))
    else if x.nakSent then s
    else
      ((s.setPort p { x with nakSent := true }).incPf p ITA_P_REPLAY_naks 1).emit (.itaCtl p (mkNak x.rxSeq))

/-- FSTART (R306). -/
def execFstart (p : Fin 8) (b : BitVec 64) (body : List Byte) (s : State) : Res :=
  run (takeCtl p.val 0x80 b (fstartTake p.val b body)) s

/-- The receive buffer of a frame of a kind is freed, and an ACK says so (R303, R305). -/
def freeBuffer (p kind : Nat) (s : State) : State :=
  let x := s.port p
  let x := { x with freed := setNth x.freed (kindSlot kind) ((nth x.freed (kindSlot kind) + 1) % 64) }
  (s.setPort p x).emit (.itaCtl p (mkAck x))

/-- Send what waits for credit, in the order of kinds 4, 1, 3, 2 (R305). -/
def drainWaiting (p : Nat) (s : State) : State :=
  let w := (s.port p).waiting
  let s := s.setPort p { s.port p with waiting := [] }
  let byKind (k : Nat) : List ItaMsg := w.filter (fun m => m.kind == k)
  s.each (byKind 4 ++ byKind 1 ++ byKind 3 ++ byKind 2) (fun s m => itaSend p m s)

/-- The frames after the one of seq a, when it is among those not acknowledged. -/
def ackedUpTo (a : Nat) (l : List (Nat × ItaMsg)) : List (Nat × ItaMsg) :=
  if l.any (fun e => e.1 == a) then (l.dropWhile (fun e => e.1 != a)).drop 1 else l

/-- Credits that the cumulative counts of an ACK return. -/
def creditBack (used seen now : List Nat) : List Nat :=
  match used, seen, now with
  | u :: us, a :: as, b :: bs => (u - (b + 64 - a) % 64) :: creditBack us as bs
  | _, _, _ => []

/-- An ACK (R303, R305, R306). -/
def ackTake (p : Nat) (b : BitVec 64) (s : State) : State :=
  let x := s.port p
  let v := b.toNat
  let now := [nbits v 20 6, nbits v 26 6, nbits v 32 6, nbits v 38 6]
  let left := ackedUpTo (nbits v 8 12) x.unacked
  let n := if left.length < x.unacked.length then 0 else x.replays
  let s := s.setPort p { x with unacked := left, used := creditBack x.used x.seen now, seen := now, replays := n }
  drainWaiting p s

/-- ACK (R305, R306). -/
def execAck (p : Fin 8) (b : BitVec 64) (s : State) : Res := run (takeCtl p.val 0x81 b (ackTake p.val b)) s

/-- Replay the frames of `l`; after 8 consecutive replays without progress the port goes DOWN with reason 5 (R306). -/
def replay (p : Nat) (l : List (Nat × ItaMsg)) (s : State) : State :=
  let x := s.port p
  if 8 ≤ x.replays then portDown p 5 s
  else
    let s := (s.setPort p { x with replays := x.replays + 1 }).incPf p ITA_P_REPLAY_replays 1
    s.each l (fun s e => s.emit (.ita p (some e.1) e.2))

/-- A NAK: the sender replays from the named seq; the frames before it count as acknowledged (R306). -/
def nakTake (p : Nat) (b : BitVec 64) (s : State) : State :=
  let x := s.port p
  let e := nbits b.toNat 8 12
  if x.unacked.any (fun f => f.1 == e) then
    let l := x.unacked.dropWhile (fun f => f.1 != e)
    let n := if l.length < x.unacked.length then 0 else x.replays
    replay p l (s.setPort p { x with unacked := l, replays := n })
  else s

/-- NAK (R306). -/
def execNak (p : Fin 8) (b : BitVec 64) (s : State) : Res := run (takeCtl p.val 0x82 b (nakTake p.val b)) s

/-- REPLAY_TIMEOUT: 2,048 blocks without ACK progress (R306). -/
def execReplayTimeout (p : Fin 8) (s : State) : Res :=
  run (fun s => if s.portSends p.val && !(s.port p.val).unacked.isEmpty then replay p.val (s.port p.val).unacked s else s) s

/-! ### Port operations (R337, R338) -/

/-- The reason that refuses an operation of `ITA_CMD` on a port, 0 when it is taken. -/
def itaOpReason (op : Nat) (i : Init) (p : Nat) (s : State) : Nat :=
  if !isHawkmoth i then 1
  else if s.pf p ITA_P_CFG_en = 0 then 2
  else if (op = 3 ∨ op = 4) ∧ !s.hasUpPort then 4
  else if op = 4 ∧ !(decide (s.portState s.upstream = 5) && decide (s.pf p ITA_P_CFG_alt = 1) &&
      decide (s.portRole p = 2) && decide (s.portState p = 4) && decide (s.pf p ITA_P_STAT_sync = 1) &&
      (s.routeEntry (s.pf p ITA_P_STAT_far_id)).isNone) then 3
  else 0

/-- A write of `ITA_CMD` with an operation: its status, and its effect when nothing refuses it; a write that is not the
Hawkmoth's also sets `refused` (R337). -/
def itaOp (op : Nat) (i : Init) (p : Nat) (f : State → State) (s : State) : State :=
  let r := itaOpReason op i p s
  let s := s.setFs 0 [(ITA_CMDSTAT_op, op), (ITA_CMDSTAT_reason, r)]
  if r = 1 then s.evt 0 ITA_EVT_refused else if r = 0 then f s else s

/-- The port goes down on request (R309). -/
def portDownOp (p : Nat) (s : State) : State := portDown p 7 (sayGoodbye p 3 s)

/-- ITA_PORT_DOWN_OP (R309, R337). -/
def execItaPortDownOp (i : Init) (p : Fin 8) (s : State) : Res := run (itaOp 1 i p.val (portDownOp p.val)) s

/-- The upstream port joins again (R319, R320). -/
def rejoin (s : State) : State :=
  if s.portState s.upstream = 4 then sendJoinReq (roleUpdate false (s.setPf s.upstream ITA_P_STAT_state 3)) else s

/-- ITA_REJOIN (R337). -/
def execItaRejoin (i : Init) (p : Fin 8) (s : State) : Res := run (itaOp 3 i p.val rejoin) s

/-- An alt peer port becomes the upstream (R338). -/
def rehome (p : Nat) (s : State) : State :=
  let s := s.setPf s.upstream ITA_P_CFG_role 2
  let s := ((s.setPf p ITA_P_CFG_role 0).setF 0 ITA_ID_upstream p).setPf p ITA_P_STAT_state 3
  sendJoinReq (roleUpdate false s)

/-- ITA_REHOME (R338). -/
def execItaRehome (i : Init) (p : Fin 8) (s : State) : Res := run (itaOp 4 i p.val (rehome p.val)) s

/-! ### Time transfer (R310 to R314) -/

/-- The time frame that reports a TSYNC (R313). -/
def State.mkTimeFrame (s : State) (tseq : Nat) (calib : Bool) (t2 t3 : Nat) : TimeFrame :=
  let (at', p', q') := match s.tick.pend with
    | some c => (c.tick, c.p, c.q)
    | none => (0, 0, 0)
  { tseq := BitVec.ofNat 16 tseq, calib := calib, root := s.isRoot, holdover := s.tick.holdover,
    pending := s.tick.pend.isSome, test := s.testPeriod, epoch := BitVec.ofNat 8 s.tick.epoch, t2 := BitVec.ofNat 72 t2,
    t3 := BitVec.ofNat 72 t3, num := BitVec.ofNat 64 s.time.num, bnd := BitVec.ofNat 64 s.time.bnd,
    p := BitVec.ofNat 32 s.time.p, q := BitVec.ofNat 32 s.time.q, at_ := BitVec.ofNat 64 at', pNext := BitVec.ofNat 32 p',
    qNext := BitVec.ofNat 32 q', h := BitVec.ofNat 16 (s.f 0 ITA_HORIZON_h),
    rUp := BitVec.ofNat 32 (if s.hasUpPort then s.f 0 ITA_WORST_tb else 0) }

/-- A TSYNC is stamped as it leaves (R311, R312): the parent follows it with a time frame; the child's calibration notes t1. -/
def tsyncSent (p : Nat) (b : BitVec 64) (stamp : Nat) (s : State) : State :=
  let x := s.port p
  let tseq := nbits b.toNat 8 16
  let calib := nbit b.toNat 25
  if nbit b.toNat 24 then
    let t2 := match x.calT2 with
      | some (k, t) => if calib ∧ k = tseq then t else 0
      | none => 0
    itaSend p (.time (s.mkTimeFrame tseq calib t2 stamp)) s
  else if calib then s.setPort p { x with calStart := some (tseq, stamp) }
  else s

/-- A TSYNC is stamped as it arrives (R311, R312): the child notes t4; the parent of a calibration notes t2 and answers. -/
def tsyncArrived (p : Nat) (b : BitVec 64) (stamp : Nat) (s : State) : State :=
  let x := s.port p
  let tseq := nbits b.toNat 8 16
  if nbit b.toNat 24 then s.setPort p { x with arrival := some (tseq, stamp) }
  else if nbit b.toNat 25 then
    (s.setPort p { x with calT2 := some (tseq, stamp) }).emit (.itaCtl p (mkTsync tseq true true))
  else s.setPort p { x with arrival := some (tseq, stamp) }

/-- TSYNC: sent or received on port p with its stamp in fine steps (R310). -/
def execTsync (p : Fin 8) (sent : Bool) (b : BitVec 64) (stamp : BitVec 72) (s : State) : Res :=
  run (fun s => if sent then (if s.portSends p.val then tsyncSent p.val b stamp.toNat s else s)
    else takeCtl p.val 0x84 b (tsyncArrived p.val b stamp.toNat) s) s

/-- CALIBRATION_TIMEOUT: no answer in 10 µs; the old delay stays (R312). -/
def execCalibrationTimeout (p : Fin 8) (s : State) : Res :=
  run (fun s => s.setPort p.val { s.port p.val with calStart := none }) s

/-- A signed 16-bit field as an integer. -/
def signed16 (x : Nat) : Int := if x < 32768 then (x : Int) else (x : Int) - 65536

/-- An integer as a 32-bit two's complement word. -/
def toWord (x : Int) : Word := BitVec.ofInt 32 x

/-- The lane rate of a rate code, in units of 1/32 Gb/s (R299). -/
def rate32 (code : Nat) : Nat :=
  match code with
  | 0 => 330
  | 1 => 825
  | 2 => 1048
  | _ => 1700

/-- The hop bound of a port, rounded up (R328): 160 + 84 × 105.6 / (w × r) + d / 256. -/
def hopBound (width rate d : Nat) : Nat :=
  let wr := 2 ^ width * rate32 rate
  (160 * 2560 * wr + 2838528 * 256 + d * 10 * wr + 2560 * wr - 1) / (2560 * wr)

/-- The follower is out of step and will reload at the next agreed boundary (R75, R77). -/
def outOfStep (s : State) : State := ({ s with tick := { s.tick with reload := true } }).evt 0 TICK_EVT_out_of_step

/-- A change that the upstream announces, or withdraws (R77, R314). -/
def followChange (f : TimeFrame) (s : State) : State :=
  let c : Change := ⟨f.at_.toNat, f.pNext.toNat, f.qNext.toNat⟩
  if f.pending then
    if s.tick.pend = some c then s
    else if s.time.num + 17 ≤ c.tick ∧ periodOk c.p c.q then
      ({ s with tick := { s.tick with pend := some c }, ita := { s.ita with announce := true } }).setF 0 TICK_ARMSTAT_pending 1
    else outOfStep (s.evt 0 TICK_EVT_late_announce)
  else
    match s.tick.pend with
    | some c =>
      if f.num.toNat < c.tick ∧ s.time.num + 17 ≤ c.tick then
        ({ s with tick := { s.tick with pend := none }, ita := { s.ita with announce := true } }).setF 0 TICK_ARMSTAT_pending 0
      else s
    | none => s

/-- TIME_FRAME: a time frame on a port (R311 to R314): the delay of a calibration, the offset θ, and from the upstream port the
slew or reload, R, and a period change. -/
def timeFrame (p : Nat) (f : TimeFrame) (s : State) : State :=
  if !s.portSends p then s
  else
    let x := s.port p
    match x.arrival with
    | none => s
    | some (k, t4) =>
      if k ≠ f.tseq.toNat then s
      else
        let s :=
          match x.calStart with
          | some (k', t1) =>
            if f.calib ∧ k' = k then
              let d := (((t4 : Int) - t1) - ((f.t3.toNat : Int) - f.t2.toNat)) / 2
              let s := s.wr (portDie p) (ITA_P_DELAY (p % 4)) (toWord d)
              let s := s.setPf p ITA_P_HOPB_hopb
                (hopBound (s.pf p ITA_P_CFG_width) (s.pf p ITA_P_CFG_rate) (toWord d).toNat)
              s.setPort p { s.port p with calStart := none }
            else s
          | none => s
        let da := (s.pf p ITA_P_DELAY_d : Int) + signed16 (s.pf p ITA_P_ASYM_a)
        let θ := ((t4 : Int) - f.t3.toNat) - da
        let s := s.wr (portDie p) (ITA_P_OFFSET (p % 4)) (toWord θ)
        if s.upstream ≠ p ∨ s.isRoot then s
        else
          let s := s.wr 0 ITA_WORST (BitVec.ofNat 32 (f.rUp.toNat + s.pf p ITA_P_HOPB_hopb))
          let s := if periodOk f.p.toNat f.q.toNat then
              { s with ita := { s.ita with lastUp := some (f.num.toNat, f.bnd.toNat, f.p.toNat, f.q.toNat) } }
            else s
          let s := s.when (s.tick.sync && decide (256 < θ.natAbs)) outOfStep
          followChange f s

/-- TIME_FRAME (R311 to R314). -/
def execTimeFrame (p : Fin 8) (f : TimeFrame) (s : State) : Res := run (timeFrame p.val f) s

/-! ### Joining (R319, R320, R74) -/

/-- The reason that refuses a JOIN_REQ on a downstream port, 0 when it is granted (R319). -/
def joinReason (p id : Nat) (s : State) : Nat :=
  let offer := s.pf p ITA_P_CHILD_id
  if !s.tick.sync then 1
  else if s.pf p ITA_P_CHILD_valid = 0 then 2
  else if id ≠ 0xFFFF ∧ id ≠ offer then 3
  else if offer = s.devId ∨ allPorts.any (fun q => q != p && (s.port q).child == some offer) then 4
  else if (clusterOf offer = clusterOf s.devId) = (offer % 64 = 0) then 5
  else 0

/-- JOIN_REQ at the parent (R319, R322). -/
def joinReq (p : Nat) (id : Nat) (s : State) : State :=
  if !s.portSends p ∨ s.portRole p ≠ 1 then s
  else
    let r := joinReason p id s
    if r ≠ 0 then (itaSend p (.mgmt (.joinRefuse r)) s).evt 0 ITA_EVT_join_refused
    else
      let offer := s.pf p ITA_P_CHILD_id
      let j := s.time.num + 64
      let s := itaSend p (.mgmt (.joinGrant (BitVec.ofNat 14 offer) (BitVec.ofNat 64 j)
        (BitVec.ofNat 64 (s.boundaryCount j)) (BitVec.ofNat 16 (s.f 0 ITA_HORIZON_h)))) s
      let s := s.setPort p { s.port p with child := some offer }
      sendUp (.routeAdd (BitVec.ofNat 14 offer)) (setRoute offer (some p) s)

/-- JOIN_REQ (R319). -/
def execJoinReq (p : Fin 8) (id : BitVec 16) (s : State) : Res := run (joinReq p.val id.toNat) s

/-- JOIN_GRANT at the child: it takes the ID and H, calibrates, and will load at boundary J (R319). -/
def joinGrant (p id j count h : Nat) (s : State) : State :=
  if s.portState p ≠ 3 ∨ s.upstream ≠ p then s
  else
    let s := s.setFs 0 [(ITA_ID_id, id), (ITA_ID_valid, 1), (ITA_ID_head, if id % 64 = 0 then 1 else 0), (ITA_HORIZON_h, h)]
    startCalibration p (s.setPort p { s.port p with grant := some (j, count) })

/-- JOIN_GRANT (R319). -/
def execJoinGrant (p : Fin 8) (id : BitVec 14) (j count : BitVec 64) (h : BitVec 16) (s : State) : Res :=
  run (joinGrant p.val id.toNat j.toNat count.toNat h.toNat) s

/-- JOIN_REFUSE at the child: it asks again, 1 ms later (R319). -/
def execJoinRefuse (p : Fin 8) (reason : Nat) (s : State) : Res :=
  run (fun s => if s.portState p.val = 3 ∧ s.upstream = p.val ∧ 1 ≤ reason then
    sendJoinReq (s.evt 0 ITA_EVT_join_refused) else s) s

/-- Load the count and the tick number at a boundary, the only step in a device's time (R74). -/
def timeLoad (t : Time) (s : State) : State :=
  let s := { s with time := t }
  let pend := match s.tick.pend with
    | some c => if c.tick ≤ t.num then none else some c
    | none => none
  let s := { s with tick := { s.tick with sync := true, holdover := false, reload := false, quietOpen := false,
                                          pend := pend, epoch := (s.tick.epoch + 1) % 256 } }
  s.setB 0 TICK_ARMSTAT_pending pend.isSome

/-- P and Q that the upstream last reported, which the device checked then (R52, R53); its own where it has reported none. -/
def State.upPeriod (s : State) : Nat × Nat :=
  match s.ita.lastUp with
  | some (_, _, a, b) => if periodOk a b then (a, b) else (s.time.p, s.time.q)
  | none => (s.time.p, s.time.q)

/-- The follower has an upstream port that waits for its time, or follows one (R74, R75). -/
def State.mayLoad (s : State) : Bool := s.hasUpPort && s.tick.tb == .running

/-- A device that already follows keeps its time at a grant when its offset is within 1 tb (R76). -/
def State.slews (s : State) : Bool :=
  let θ := (s.rd (portDie s.upstream) (ITA_P_OFFSET (s.upstream % 4))).toInt
  s.tick.sync && !s.tick.reload && decide (θ.natAbs ≤ 256)

/-- The time that a JOIN_LOAD loads, if it loads one: at boundary J of a grant, or, out of step, `k` boundaries after the last one the upstream
reported (R74, R75, R77). -/
def State.loadsTime (s : State) (k : Nat) : Option Time :=
  if !s.mayLoad then none
  else match s.portState s.upstream, (s.port s.upstream).grant with
    | 3, some (j, c) => if s.slews then none else some ⟨c, j, c, s.upPeriod.1, s.upPeriod.2⟩
    | 4, _ =>
      (match s.tick.reload, s.ita.lastUp with
        | true, some (n, c, _, _) => some ⟨c + k * s.upPeriod.1, n + k, c + k * s.upPeriod.1, s.upPeriod.1, s.upPeriod.2⟩
        | _, _ => none)
    | _, _ => none

/-- The time after JOIN_LOAD. -/
def State.joinTime (k : Nat) (s : State) : Time := (s.loadsTime k).getD s.time

/-- JOIN_LOAD: boundary J of a grant, at which the follower loads its time and the port enters UP; a device that already follows
slews when its offset is within 1 tb (R74, R76, R320). Or, out of step, the next agreed boundary: `k` boundaries after the
last one the upstream reported (R75, R77). -/
def joinLoad (k : Nat) (s : State) : State :=
  let p := s.upstream
  let new := s.loadsTime k
  if !s.mayLoad then s
  else
    match s.portState p, (s.port p).grant with
    | 3, some _ =>
      let s := s.setPort p { s.port p with grant := none }
      let s := match new with
        | none => { s with tick := { s.tick with holdover := false } }
        | some t => timeLoad t s
      portUp p s
    | _, _ =>
      match new with
      | some t => timeLoad t s
      | none => s

/-- JOIN_LOAD (R74). -/
def execJoinLoad (k : Nat) (s : State) : Res := runTime (State.joinTime k) (joinLoad k) s

/-! ### Route and latency messages (R322, R323, R328, R329) -/

/-- ROUTE_ADD (R322). -/
def execRouteAdd (p : Fin 8) (id : BitVec 14) (s : State) : Res :=
  run (fun s => if s.portSends p.val ∧ s.portRole p.val = 1 then
    sendUp (.routeAdd id) (setRoute id.toNat (some p.val) s) else s) s

/-- ROUTE_DEL (R323). -/
def execRouteDel (p : Fin 8) (id : BitVec 14) (s : State) : Res :=
  run (fun s => if s.portSends p.val ∧ s.portRole p.val = 1 then
    sendUp (.routeDel id) (if s.routeEntry id.toNat = some p.val then setRoute id.toNat none s else s) else s) s

/-- The largest route latency in the device's subtree: its own, and what its children report (R328). -/
def State.subtreeR (s : State) : Nat :=
  allPorts.foldl (fun m p => if s.portRole p = 1 ∧ s.portState p = 4 then max m (s.port p).repR else m)
    (if s.hasUpPort then s.f 0 ITA_WORST_tb else 0)

/-- On the top device: W = 2M + 224, and `horizon_short` while W is at least H × P (R328, R329). -/
def worstUpdate (s : State) : State :=
  if s.hasUpPort then s
  else
    let w := 2 * s.subtreeR + 224
    let s := s.wr 0 ITA_WORST (BitVec.ofNat 32 w)
    s.when (decide (s.f 0 ITA_HORIZON_h * s.time.p ≤ w)) (fun s => s.evt 0 ITA_EVT_horizon_short)

/-- REPORT: a child's largest route latency (R328). -/
def execReport (p : Fin 8) (r : Word) (s : State) : Res :=
  run (fun s => if s.portSends p.val ∧ s.portRole p.val = 1 then
    worstUpdate (s.setPort p.val { s.port p.val with repR := r.toNat }) else s) s

/-- REPORT_SEND: every 1,024 ticks (R328). -/
def execReportSend (s : State) : Res := run (fun s => sendUp (.report (BitVec.ofNat 32 s.subtreeR)) s) s

/-! ### Events (R325 to R332) -/

/-- EVENT_FRAME: an event frame on the upstream or a downstream port is forwarded and looked up (R327, R330, R331). -/
def execEventFrame (p : Fin 8) (m : EvMsg) (s : State) : Res :=
  run (fun s => if s.portState p.val = 4 ∧ s.portRole p.val ≤ 1 then
    eventLookup m (eventForward p.val m (freeBuffer p.val 1 s)) else s) s

/-- ITA_EVSEND: a write of `ITA_EVSEND` (R326). -/
def evSend (v : Word) (drained : Nat) (s : State) : State :=
  localEvent (BitVec.ofNat 14 (bitsOf v 0 14)) (s.rd 0 ITA_EVARG) (v.getLsbD 14) (v.getLsbD 15) (bitsOf v 16 16) drained s

/-- ITA_EVSEND (R326). -/
def execItaEvsend (v : Word) (drained : Nat) (s : State) : Res := run (evSend v drained) s

/-- EVT_SEND: the event port of a region (R326); its logic runs only while the region is RUNNING. -/
def execEvtSend (r : Fin 192) (num : BitVec 14) (arg : Word) (be cluster : Bool) (drained : Nat) (s : State) : Res :=
  run (fun s => if s.regionState (regionDie r.val) (regionLocal r.val) = 5 then localEvent num arg be cluster 0 drained s else s) s

/-- A read of `ITA_HEV`: the oldest event of the Hawkmoth FIFO popped, its argument and tick captured; a debug read does neither
(R11, R337). -/
def hevPop (peek : Bool) (s : State) : State × Word :=
  match s.ita.hev with
  | [] => (if peek then s else (s.wr 0 ITA_HEV_ARG 0).wr 0 ITA_HEV_TICK 0, 0)
  | m :: t =>
    let w := packBits [(0, m.src.toNat), (14, m.num.toNat), (28, 1)]
    (if peek then s
     else (({ s with ita := { s.ita with hev := t } }).wr 0 ITA_HEV_ARG m.arg).wr 0 ITA_HEV_TICK
       (BitVec.ofNat 32 m.act.toNat), w)

/-- ITA_HEV_POP (R337). -/
def execItaHevPop (peek : Bool) (s : State) : Res :=
  run (fun s => let (s, w) := hevPop peek s; s.emit (.value w)) s

/-- A Hawkmoth event enters the FIFO of 64 (R332). -/
def hevPush (m : EvMsg) (s : State) : State :=
  if 64 ≤ s.ita.hev.length then eventOverflow s
  else ({ s with ita := { s.ita with hev := s.ita.hev ++ [m] } }).evt 0 ITA_EVT_hev

/-- A fabric event reaches a region's event port at boundary act-at, the `n`-th of the region in this tick (R332). -/
def fabricEvent (r n : Nat) (m : EvMsg) (s : State) : State :=
  if 192 ≤ r ∨ 16 ≤ n ∨ s.regionState (regionDie r) (regionLocal r) ≠ 5 then eventOverflow s
  else s.emit (.evtRx r m)

/-- A drive request or a claim on a trigger line that its owner does not allow (R565). -/
def trigConflict (l : Nat) (s : State) : State := (s.setF 0 ⟨GPIO_TRIG_CONF, l, 1⟩ 1).evt 0 GPIO_EVT_trig_conflict

/-- One pending event acts (R332); `acted` counts the fabric events of each region in this tick. -/
def eventAct (e : PendEv) (acted : KMap Nat) (s : State) : State × KMap Nat :=
  let r := nbits e.param.toNat 16 8
  let n := KMap.look acted r
  if e.action = 1 then
    let line := nbits e.param.toNat 16 3
    if s.f 0 (GPIO_TRIG_OWN_owner line) = 1 then
      let x := (line, s.time.bnd + nbits e.param.toNat 0 16, (nbits e.param.toNat 24 8 + 1) * 16)
      ({ s with gpio := { s.gpio with pulse := s.gpio.pulse ++ [x] } }, acted)
    else (trigConflict line s, acted)
  else if e.action = 2 then (fabricEvent r n e.msg s, KMap.put acted r (n + 1))
  else if e.action = 3 then (hevPush e.msg s, acted)
  else if e.action = 4 then (hevPush e.msg (fabricEvent r n e.msg s), KMap.put acted r (n + 1))
  else (s, acted)

/-- The events in a list act, in order. -/
def eventsAct (l : List PendEv) (acted : KMap Nat) (s : State) : State :=
  match l with
  | [] => s
  | e :: t =>
    let (s, a) := eventAct e acted s
    eventsAct t a s

/-- EVENT_ACT: at a boundary, every pending event of this tick acts in the order accepted (R331, R332). -/
def eventBoundary (s : State) : State :=
  let due := s.ita.pend.filter (fun e => decide (e.act ≤ s.time.num))
  let s := { s with ita := { s.ita with pend := s.ita.pend.filter (fun e => decide (s.time.num < e.act)), localEv := 0 } }
  eventsAct due [] s

/-- TSYNC_SEND and CALIBRATION_START: at a boundary with n mod 16 = 0, or the first after a change was armed or cancelled, each
parent sends a TSYNC; at n mod 1,024 = 0 each child calibrates (R311, R312). -/
def tsyncBoundary (s : State) : State :=
  let n := s.time.num
  let send := decide (n % 16 = 0) || s.ita.announce
  let s := { s with ita := { s.ita with announce := false } }
  s.each allPorts (fun s p =>
    if s.portState p ≠ 4 then s
    else if s.portRole p = 0 then (if n % 1024 = 0 then startCalibration p s else s)
    else if send then
      let x := s.port p
      (s.setPort p { x with tseq := (x.tseq + 1) % 65536 }).emit (.itaCtl p (mkTsync x.tseq true false))
    else s)

end Sys2Proof.Machine
end

