-- ==== Sys2Proof/Machine/Gpio.lean ====
section
/-! DEFINITION. GPIO pins, timers, the monitor ADC and trigger lines (20). -/

namespace Sys2Proof.Machine

/-- The initiator of the core that owns a die's private port (R483, R557): the Hawkmoth on IOS, the memory agent on ION. -/
def portOwner (d : Nat) (i : Init) : Bool := (d == 0 && isHawkmoth i) || (d == 1 && i == 0x103#12)

/-- The number of pins of an I/O die (R555). -/
def pinCount (d : Nat) : Nat := if d = 0 then 64 else 32

/-- A write to the GPIO page by another source is ignored (R557). -/
def gpioRefuse (d : Nat) (s : State) : State := s.evt d GPIO_EVT_refused

/-- A refused claim on pin j (R559). -/
def pinConflict (d j : Nat) (s : State) : State :=
  (s.setF d ⟨if j < 32 then GPIO_CONF_LO else GPIO_CONF_HI, j % 32, 1⟩ 1).evt d GPIO_EVT_conflict

/-- What a write of `GPIO_Pj_CFG` meets (R556, R559, R562). -/
inductive PinWrite where
  | badFunc
  | conflict
  | accept
deriving DecidableEq, Repr

/-- The check of a write of `GPIO_Pj_CFG` (R556, R559, R562). -/
def pinCheck (d j : Nat) (v : Word) (s : State) : PinWrite :=
  let f := bitsOf v 0 4
  let old := s.f d (GPIO_P_CFG_func j)
  let t := j % 8
  if 3 < f then .badFunc
  else if v.getLsbD 6 ∧ (f ≠ 0 ∨ old ≠ 0) then .badFunc
  else if f ≠ 0 ∧ old ≠ 0 ∧ f ≠ old then .conflict
  else if f = 3 ∧ old ≠ 3 ∧ (s.on d (GPIO_TMR_CFG_owned t) ∨ s.on d (GPIO_TMR_CFG_by_trig t)) then .conflict
  else .accept

/-- Store an accepted write of `GPIO_Pj_CFG`: claims and releases, and the break-before-make hold of a change (R558, R559). -/
def pinStore (d j : Nat) (v : Word) (s : State) : State :=
  let f := bitsOf v 0 4
  let old := s.f d (GPIO_P_CFG_func j)
  let t := j % 8
  let sw := if f = old then s.f d (GPIO_P_CFG_switching j) else 1
  let s := (s.wr d (GPIO_P_CFG j) (v &&& 0x7FF)).setF d (GPIO_P_CFG_switching j) sw
  if f = 3 ∧ old ≠ 3 then s.setFs d [(GPIO_TMR_CFG_owned t, 1), (GPIO_TMR_CFG_pin t, j)]
  else if old = 3 ∧ f ≠ 3 then s.setFs d [(GPIO_TMR_CFG_owned t, 0), (GPIO_TMR_CFG_pin t, 0)]
  else s

/-- A write of `GPIO_Pj_CFG` (R556 to R559, R562). -/
def gpioFuncWrite (i : Init) (d j : Nat) (v : Word) (s : State) : State :=
  if !s.live d ∨ pinCount d ≤ j then s
  else if !portOwner d i then gpioRefuse d s
  else
    match pinCheck d j v s with
    | .badFunc => s.evt d GPIO_EVT_bad_func
    | .conflict => pinConflict d j s
    | .accept => pinStore d j v s

/-- GPIO_FUNC_WRITE (R557 to R559). -/
def execGpioFuncWrite (i : Init) (d : IoDie) (j : Fin 64) (v : Word) (s : State) : Res :=
  run (gpioFuncWrite i d.val j.val v) s

/-- GPIO_SWITCH_END: the 2-cycle hold ends (R558). -/
def execGpioSwitchEnd (d : IoDie) (j : Fin 64) (s : State) : Res :=
  run (fun s => if j.val < pinCount d.val then s.setF d.val (GPIO_P_CFG_switching j.val) 0 else s) s

/-- ADC_CONVERSION: the monitor ADC converts pin j; `steps` is the input in steps of 0.5 mV (R562). -/
def adcConversion (d j steps : Nat) (s : State) : State :=
  if s.f d GPIO_ADC_CTRL_en = 0 ∨ s.f d (GPIO_P_CFG_analog j) = 0 ∨ pinCount d ≤ j then s
  else
    let s := s.setFs d [(GPIO_P_ADC_code j, min steps 4095), (GPIO_P_ADC_valid j, 1),
      (GPIO_P_ADC_sat j, if 4096 < steps then 1 else 0), (GPIO_P_ADC_tick j, s.tick16)]
    let last := (List.range (pinCount d)).all (fun k => decide (k ≤ j) || decide (s.f d (GPIO_P_CFG_analog k) = 0))
    s.when last (fun s => s.evt d GPIO_EVT_adc_done)

/-- ADC_CONVERSION (R562). -/
def execAdcConversion (d : IoDie) (j : Fin 64) (steps : Nat) (s : State) : Res := run (adcConversion d.val j.val steps) s

/-! ### Timers (R563) -/

/-- A pin or a trigger line owns timer unit t. -/
def State.timerOwned (s : State) (d t : Nat) : Bool := s.on d (GPIO_TMR_CFG_owned t) || s.on d (GPIO_TMR_CFG_by_trig t)

/-- The filter cycles of a pin (R561). -/
def filtCycles (code : Nat) : Nat :=
  match code with
  | 0 => 0
  | 1 => 2
  | 2 => 4
  | _ => 8

/-- TIMER_CAPTURE: an edge of a capture unit, whose new level was first sampled at timebase count `count` (R563). -/
def timerCapture (d t : Nat) (rising : Bool) (count : Nat) (s : State) : State :=
  let m := s.f d (GPIO_TMR_CFG_mode t)
  if !s.timerOwned d t ∨ m = 3 ∨ (m = 0 ∧ !rising) ∨ (m = 1 ∧ rising) then s
  else
    let filt := if s.on d (GPIO_TMR_CFG_owned t) then filtCycles (s.f d (GPIO_P_CFG_filt (s.f d (GPIO_TMR_CFG_pin t)))) else 0
    (s.wr64 d (GPIO_TMR_CAP_LO t) (GPIO_TMR_CAP_HI t) (count - 16 * (2 + filt))).evt d GPIO_EVT_tmr_capture

/-- TIMER_CAPTURE (R563). -/
def execTimerCapture (d : IoDie) (t : Fin 8) (rising : Bool) (count : Nat) (s : State) : Res :=
  run (timerCapture d.val t.val rising count) s

/-- The output of timer unit t. -/
def setTimer (d t : Nat) (on : Bool) (s : State) : State :=
  ({ s with gpio := { s.gpio with timerOn := KMap.put s.gpio.timerOn (d * 8 + t) on } }).emit (.timerOut d t on)

/-- TIMER_PULSE: at a boundary each owned pulse unit whose turn it is asserts its output (R563). -/
def timerBoundary (s : State) : State :=
  s.each [0, 1] (fun s d => s.each [0, 1, 2, 3, 4, 5, 6, 7] (fun s t =>
    if s.live d ∧ s.timerOwned d t ∧ s.f d (GPIO_TMR_CFG_mode t) = 3 ∧
        s.time.num % (s.f d (GPIO_TMR_CFG_every t) + 1) = 0 then setTimer d t true s
    else s))

/-- TIMER_PULSE_END: width + 1 GPIO-clock cycles have passed (R563). -/
def execTimerPulseEnd (d : IoDie) (t : Fin 8) (s : State) : Res :=
  run (fun s => if KMap.look s.gpio.timerOn (d.val * 8 + t.val) then setTimer d.val t.val false s else s) s

/-! ### Trigger lines (R564 to R567) -/

/-- This device pulls line l low: some request of its owner holds it (R565, R566). -/
def State.pulls (s : State) (l : Nat) : Bool :=
  match s.f 0 (GPIO_TRIG_OWN_owner l) with
  | 1 => s.gpio.active.contains l
  | 2 => s.on 0 (GPIO_TRIG_CTRL_drive l)
  | 4 => KMap.look s.gpio.timerOn (s.f 0 (GPIO_TRIG_OWN_unit l))
  | _ => false

/-- `GPIO_TRIG_STAT` as it reads (R568). -/
def State.trigStat (s : State) : Word :=
  let pull := (List.range 8).foldl (fun a l => if s.pulls l then a + 2 ^ l else a) 0
  BitVec.ofNat 32 ((pull ||| s.gpio.ext.toNat) + pull * 256)

/-- Note the lines that other cards hold low. -/
def setExt (ext : Byte) (s : State) : State := { s with gpio := { s.gpio with ext := ext } }

/-- Put out what the device does on line l. -/
def trigOut (l : Nat) (s : State) : State := s.emit (.trigger l (s.pulls l))

/-- A claim of line l that is refused: another owner holds it, or a pin holds the unit (R565). -/
def State.trigClaimBad (s : State) (l : Nat) (v : Word) : Bool :=
  let owner := bitsOf v 0 3
  let old := s.f 0 (GPIO_TRIG_OWN_owner l)
  decide (owner ≠ 0 ∧ owner ≠ old) && (decide (old ≠ 0 ∨ 4 < owner) || (decide (owner = 4) && s.timerOwned 0 (bitsOf v 4 3)))

/-- An accepted write of `GPIO_TRIGl_OWN` (R565). -/
def trigOwnStore (l : Nat) (v : Word) (s : State) : State :=
  let owner := bitsOf v 0 3
  let unit := bitsOf v 4 3
  let old := s.f 0 (GPIO_TRIG_OWN_owner l)
  if owner = 0 then
    let s := if old = 4 then s.setF 0 (GPIO_TMR_CFG_by_trig (s.f 0 (GPIO_TRIG_OWN_unit l))) 0 else s
    trigOut l (s.setFs 0 [(GPIO_TRIG_OWN_owner l, 0), (GPIO_TRIG_OWN_unit l, 0)])
  else if owner = old then s
  else
    let s := s.setFs 0 [(GPIO_TRIG_OWN_owner l, owner), (GPIO_TRIG_OWN_unit l, unit)]
    trigOut l (if owner = 4 then s.setF 0 (GPIO_TMR_CFG_by_trig unit) 1 else s)

/-- A write of `GPIO_TRIGl_OWN` (R557, R565). -/
def trigOwnWrite (i : Init) (l : Nat) (v : Word) (s : State) : State :=
  if !s.live 0 then s
  else if !isHawkmoth i then gpioRefuse 0 s
  else if s.trigClaimBad l v then trigConflict l s
  else trigOwnStore l v s

/-- TRIGGER_OWN_WRITE (R565). -/
def execTriggerOwnWrite (i : Init) (l : Fin 8) (v : Word) (s : State) : Res := run (trigOwnWrite i l.val v) s

/-- A write of `GPIO_TRIGl_CTRL` (R565, R566): the line follows `drive` while the Hawkmoth owns it. -/
def trigDriveWrite (i : Init) (l : Nat) (v : Word) (s : State) : State :=
  if !s.live 0 then s
  else if !isHawkmoth i then gpioRefuse 0 s
  else
    let s := s.wr 0 (GPIO_TRIG_CTRL l) (v &&& 0x3FFFF)
    if s.f 0 (GPIO_TRIG_OWN_owner l) = 2 then trigOut l s
    else if v.getLsbD 0 then trigConflict l s else s

/-- TRIGGER_DRIVE_WRITE (R565). -/
def execTriggerDriveWrite (i : Init) (l : Fin 8) (v : Word) (s : State) : Res := run (trigDriveWrite i l.val v) s

/-- TRIGGER_EDGE: line l falls at a stamp in fine steps; `ext` are the lines other cards hold low from now on, and `drained` the
places of the local event FIFO freed since the last entry (R567, R326). -/
def triggerEdge (l stamp : Nat) (ext : Byte) (drained : Nat) (s : State) : State :=
  if !s.live 0 then setExt ext s
  else
  let s := setExt ext s
  let s := s.wr64 0 (GPIO_TRIG_TS_LO l) (GPIO_TRIG_TS_HI l) (stamp / 256)
  let s := s.setFs 0 [(GPIO_TRIG_TS_FINE_fine l, stamp % 256), (GPIO_TRIG_TS_FINE_edges l, s.f 0 (GPIO_TRIG_TS_FINE_edges l) + 1)]
  let s := s.evt 0 GPIO_EVT_trig_edge
  if s.on 0 (GPIO_TRIG_CTRL_ev_en l) then
    localEvent (BitVec.ofNat 14 (s.f 0 (GPIO_TRIG_CTRL_event l))) 0 (s.on 0 (GPIO_TRIG_CTRL_be l))
      (s.on 0 (GPIO_TRIG_CTRL_scope l)) 0 drained s
  else s

/-- TRIGGER_EDGE (R567). -/
def execTriggerEdge (l : Fin 8) (stamp : BitVec 72) (ext : Byte) (drained : Nat) (s : State) : Res :=
  run (triggerEdge l.val stamp.toNat ext drained) s

/-- TRIGGER_PULSE_START: a waiting ERT pulse of line l begins (R332); the line obeys it while Itastea owns it (R565). -/
def triggerPulseStart (l : Nat) (s : State) : State :=
  match s.gpio.pulse.find? (fun e => e.1 == l) with
  | none => s
  | some e =>
    let s := { s with gpio := { s.gpio with pulse := s.gpio.pulse.erase e } }
    if s.f 0 (GPIO_TRIG_OWN_owner l) = 1 then
      trigOut l { s with gpio := { s.gpio with active := s.gpio.active ++ [l] } }
    else trigConflict l s

/-- TRIGGER_PULSE_START (R332). -/
def execTriggerPulseStart (l : Fin 8) (s : State) : Res := run (triggerPulseStart l.val) s

/-- TRIGGER_PULSE_END: the width of a pulse under way ends; the line is released unless another request holds it (R566). -/
def execTriggerPulseEnd (l : Fin 8) (s : State) : Res :=
  run (fun s => if s.gpio.active.contains l.val then
    trigOut l.val { s with gpio := { s.gpio with active := s.gpio.active.erase l.val } } else s) s

end Sys2Proof.Machine
end

