-- ==== Sys2Proof/Machine/CoreBus.lean ====
section
/-! DEFINITION. What the results of requests do at a management core and at the debug bus master (R469, R573, R575, R577, R587). -/

namespace Sys2Proof.Machine

/-- A field of core c's own registers, the field given by slot (R466, R485, R597). -/
def State.kf (s : State) (c : Nat) (x : Nat → Fld) : Nat := s.f (coreDie c) (x (coreSlot c))

/-- Whether it holds something other than 0. -/
def State.kOn (s : State) (c : Nat) (x : Nat → Fld) : Bool := s.kf c x != 0

/-- Store it. -/
def State.setKf (s : State) (c : Nat) (x : Nat → Fld) (v : Nat) : State := s.setF (coreDie c) (x (coreSlot c)) v

/-- The cores. -/
def allCores : List Nat := List.range 13

/-- The core that is an initiator. -/
def initCore (i : Nat) : Option Nat := allCores.find? (fun c => decide (coreInit c = i))

/-- Core c is HALTED (R575). -/
def State.coreHalted (s : State) (c : Nat) : Bool := s.live (coreDie c) && decide (s.kf c CORE_STAT_state = 2)

/-- The hold grant acts: it is in effect and a core is HALTED. When that ends, the monitor counts a full period again (R587). -/
def holdUpdate (s : State) : State :=
  let h := s.on 0 DBG_RIGHTS_hold && allCores.any (fun c => s.coreHalted c)
  let was := s.on 0 CORE_HB_CFG_hold
  (s.setB 0 CORE_HB_CFG_hold h).when (was && !h) (fun s => s.setF 0 CORE_HB_STAT_misses 0)

/-- Core c enters HALTED with a cause: its watchdog stops, and the count of boundaries in the halt starts (R575, R576, R588). -/
def enterHalted (c cause : Nat) (s : State) : State :=
  let s := (s.setKf c CORE_STAT_state 2).setKf c DBG_C_STAT_state 2
  let s := ((s.setKf c DBG_C_STAT_cause cause).setKf c DBG_C_STAT_ticked 0).setKf c DBG_C_STAT_halted_ticks 0
  let (left, t) := KMap.look s.core.wdog c
  let used := (s.time.count - t) * (if c = 0 then 5 else 4) / 16
  let s := { s with core := { s.core with wdog := KMap.put s.core.wdog c (left - used, s.time.count) } }
  holdUpdate (s.evt 0 DBG_EVT_halted)

/-- Core c leaves HALTED and runs at its DPC: its watchdog resumes from the count it held, or from 1,024 (R578, R586). -/
def resumeCore (c : Nat) (s : State) : State :=
  let (left, _) := KMap.look s.core.wdog c
  let s := if s.kOn c CORE_STAT_wdog then { s with core := { s.core with wdog := KMap.put s.core.wdog c (max left 1024, s.time.count) } } else s
  holdUpdate ((s.setKf c CORE_STAT_state 1).setKf c DBG_C_STAT_state 0)

/-- A fed instruction of core c ends with the exception code `code` (R577). -/
def feedFails (c code : Nat) (s : State) : State :=
  (((s.setKf c DBG_C_STAT_fed_busy 0).setKf c DBG_C_STAT_ferr 1).setKf c DBG_C_STAT_fcause code).evt 0 DBG_EVT_feed_err

/-- A request of core c has failed: the first one since `bus_err` was cleared is latched (R469). -/
def busError (c status : Nat) (store : Bool) (s : State) : State :=
  s.evtLatch (coreDie c) (CORE_EVT_bus_err (coreSlot c)) (fun s =>
    ((s.setKf c CORE_BUSERR_status status).setKf c CORE_BUSERR_store store.toNat).setKf c CORE_BUSERR_tick s.tick16)

/-- The value that a READ of n bytes, at most four, at address a delivers. -/
def valueAt (a n : Nat) (l : List Line) : Word :=
  match l with
  | x :: _ => BitVec.ofNat 32 (nbits x.data.toNat (8 * (a % 64)) (8 * n))
  | [] => 0

/-- The step of core c is over: it halts with cause 2, and no count of its watchdog has changed (R578, R586). -/
def stepEnds (c : Nat) (s : State) : State :=
  let s := (s.setKf c DBG_C_STAT_state 2).setKf c DBG_C_STAT_cause 2
  ((s.setKf c DBG_C_STAT_ticked 0).setKf c DBG_C_STAT_halted_ticks 0).evt 0 DBG_EVT_halted

/-- The result of a request of core c reaches it (R469, R575, R577): a load ends, a fed one with its error; a core that waits to halt halts. -/
def coreResult (c : Nat) (r : NocReq) (status : Nat) (l : List Line) (s : State) : State :=
  let s := s.when (decide (status ≠ 0)) (busError c status r.write)
  if r.write then s
  else
    let s := s.emit (if status ≠ 0 then .coreTrap c 5 else .coreValue c (valueAt r.addr.toNat (r.count.val + 1) l))
    if r.dbg then (if status ≠ 0 then feedFails c 5 s else s.setKf c DBG_C_STAT_fed_busy 0)
    else if s.kf c DBG_C_STAT_state = 1 then (if s.coreHalted c then stepEnds c s else enterHalted c 0 s)
    else s

/-- The result of the debug bus master's request is there (R573). -/
def masterResult (r : NocReq) (status : Nat) (l : List Line) (s : State) : State :=
  if s.dbg.bm.isNone then s
  else { s with dbg := { s.dbg with bmDone := some (status, if r.write then 0 else valueAt r.addr.toNat 4 l) } }

end Sys2Proof.Machine
end

