-- ==== Sys2Proof/Machine/Noc.lean ====
section
/-! DEFINITION. Network interfaces (06) and admission (07): address decode, queues, fences, admission against the reservation bank, responses,
RETRY and timeouts. -/

namespace Sys2Proof.Machine

/-! ### Address decode (R15, R187, R333, R346, R349) -/

/-- A destination of a request: die, endpoint, first byte address, number of bytes. -/
structure Dest where
  die : Nat
  ep : Nat
  addr : Nat
  bytes : Nat
deriving DecidableEq, Repr, Inhabited

/-- The channel and the channel-local address of a DRAM address (R346). -/
def dramDecode (l : List (Option DdrSet)) (a : Nat) : Option (Nat × Nat) :=
  match l with
  | [] => none
  | none :: t => dramDecode t a
  | some x :: t =>
    let b := x.base * 2 ^ 30
    if b ≤ a ∧ a < b + x.size * 2 ^ 30 then
      let o := a - b
      let c := x.chan.getD (o / 2 ^ x.grain % x.ways) 0
      some (c, x.cbase * 2 ^ 27 + o / (2 ^ x.grain * x.ways) * 2 ^ x.grain + o % 2 ^ x.grain)
    else dramDecode t a

/-- Where the n bytes of a DRAM request go: one channel, or two when they cross a 256-byte boundary between two channels (R349). -/
def dramDests (l : List (Option DdrSet)) (a n : Nat) : Option (List Dest) :=
  let dest (c a n : Nat) : Dest := ⟨c / 4, 8 + c % 4, a, n⟩
  let m := (a / 256 + 1) * 256
  match dramDecode l a with
  | none => none
  | some (c, _) =>
    if a + n ≤ m then some [dest c a n]
    else match dramDecode l m with
      | none => none
      | some (c', _) => if c = c' then some [dest c a n] else some [dest c a (m - a), dest c' m (a + n - m)]

/-- The first byte of control space (R15). -/
def ctlBase : Nat := 0xF00000000000

/-- The first byte of the on-chip memory window (R15). -/
def winBase : Nat := 0xC00000000000

/-- The first byte of the mapped regions (R15). -/
def mapBase : Nat := 0x800000000000

/-- The remote target of an address: device ID and target-local address (R333); none for an address of no remote range. -/
def State.remoteTarget (s : State) (a : Nat) : Option (Nat × Nat) :=
  if 0xFF0000000000 ≤ a ∧ a < 0x1000000000000 then
    some (s.f 0 ITA_RDRAM_id, s.f 0 ITA_RDRAM_half * 2 ^ 40 + (a - 0xFF0000000000))
  else if 0xFE0000000000 ≤ a ∧ a < 0xFE4000000000 then
    some ((a - 0xFE0000000000) / 2 ^ 24, ctlBase + s.f 0 ITA_RDIE_die * 2 ^ 24 + a % 2 ^ 24)
  else none

/-- The address as this device sees it: a remote address of the device itself is the local one (R333). -/
def State.ownAddr (s : State) (a : Nat) : Nat :=
  match s.remoteTarget a with
  | some (id, a') => if s.on 0 ITA_ID_valid ∧ id = s.devId then a' else a
  | none => a

/-- The destinations of the n bytes from a; none where the address decodes to nothing (R187). -/
def State.decodeAddr (s : State) (a0 n : Nat) : Option (List Dest) :=
  let a := s.ownAddr a0
  if a < 2 ^ 41 then dramDests s.ddr.sets a n
  else if mapBase ≤ a ∧ a < mapBase + 192 * 2 ^ 30 then
    let r := (a - mapBase) / 2 ^ 30
    some [⟨regionDie r, 0x40 + regionLocal r, a, n⟩]
  else if winBase ≤ a ∧ a < winBase + 8 * 0x4000000 then
    let o := a - winBase
    let k := o / 0x4000000
    match windowBlk (Fin.ofNat 8 k) (o % 0x4000000) with
    | some _ => some [⟨k + 2, 0x70, a, n⟩]
    | none => none
  else if ctlBase ≤ a ∧ a < ctlBase + 10 * 2 ^ 24 then some [⟨(a - ctlBase) / 2 ^ 24, 0, a, n⟩]
  else if ctlBase + 10 * 2 ^ 24 ≤ a ∧ a < ctlBase + 11 * 2 ^ 24 then
    (if s.acc.opened then some [⟨0, 0x68, a, n⟩] else none)
  else match s.remoteTarget a with
    | some (id, _) =>
      match s.routePort id true with
      | some p => some [⟨portDie p, 0x60 + p % 4, a, n⟩]
      | none => none
    | none => none

/-! ### Admission (R210 to R216, R222 to R224) -/

/-- The scheduler state codes. -/
def schEmpty : Nat := 0

/-- `ACTIVE`. -/
def schActive : Nat := 1

/-- `SUSPENDED`. -/
def schSuspended : Nat := 2

/-- `DISABLED`. -/
def schDisabled : Nat := 3

/-- The active bank of a die. -/
def State.activeBank (s : State) (d : Nat) : Nat := KMap.look s.sch.active d

/-- The entries of a bank with their indices. -/
def State.bankEntries (s : State) (d bank : Nat) : List (Nat × BitVec 128) :=
  let base := (d * 2 + bank) * 4096
  (s.sch.entry.filter (fun e => decide (base ≤ e.1) && decide (e.1 < base + 4096))).map (fun e => (e.1 - base, e.2))

/-- Fields of an entry (R212). -/
def entValid (e : BitVec 128) : Bool := nbit e.toNat 31

/-- The demote bit. -/
def entDemote (e : BitVec 128) : Bool := nbit e.toNat 30

/-- The keys of an entry: destination x, y, endpoint, initiator endpoint, queue. -/
def entKeys (e : BitVec 128) : Nat × Nat × Nat × Nat × Nat :=
  (nbits e.toNat 0 4, nbits e.toNat 4 4, nbits e.toNat 8 8, nbits e.toNat 16 8, nbits e.toNat 24 5)

/-- The first offset at which an entry admits. -/
def entStart (e : BitVec 128) : Nat := nbits e.toNat 32 24

/-- The first offset at which it no longer admits. -/
def entEnd (e : BitVec 128) : Nat := nbits e.toNat 64 24

/-- The flits an entry lets in per tick. -/
def entBudget (e : BitVec 128) : Nat := nbits e.toNat 96 16

/-- What admission decides for a request; the entry where there is one (R213 to R215, R222). -/
inductive Adm where
  | best
  | pass (k : Nat)
  | hold (k : Nat)
  | demote (k : Nat)
deriving DecidableEq, Repr, Inhabited

/-- The flits charged for a request and its answer (R214). -/
def Hdr.charge (h : Hdr) : Nat := (if h.opcode = 1 then h.flits else h.readLines) + 2

/-- The offset in the tick (R213). -/
def State.offset (s : State) : Nat := s.time.count - s.time.bnd

/-- The admission of a request by its interface at the current offset. -/
def State.admission (s : State) (h : Hdr) : Adm :=
  let d := h.srcId / 256
  let st := s.f d PROBES_SCH_STATE_state
  if st = schEmpty ∨ st = schDisabled then .best
  else
    let keys := (h.dstX, h.dstY, h.dstEp, h.srcId % 256, h.queue)
    let l := (s.bankEntries d (s.activeBank d)).filter (fun e => entValid e.2 && decide (entKeys e.2 = keys))
    match l with
    | [] => .best
    | e0 :: _ =>
      if st = schSuspended then .demote e0.1
      else
        let o := s.offset
        let inWin (e : Nat × BitVec 128) : Bool := decide (entStart e.2 ≤ o) && decide (o < entEnd e.2)
        let fits (e : Nat × BitVec 128) : Bool :=
          decide (KMap.look s.sch.spent (d * 4096 + e.1) + h.charge ≤ entBudget e.2)
        match l.find? (fun e => inWin e && fits e) with
        | some e => .pass e.1
        | none =>
          let e := (l.find? inWin).getD e0
          if entDemote e.2 then .demote e.1 else .hold e.1

/-- `PROBES_SCH_LAST` latches while held_over and demoted are both clear (R238). -/
def schLast (d k ep kind : Nat) (s : State) : State :=
  if s.on d PROBES_SCH_EVT_held_over || s.on d PROBES_SCH_EVT_demoted then s
  else s.setFs d [(PROBES_SCH_LAST_entry, k), (PROBES_SCH_LAST_init_ep, ep), (PROBES_SCH_LAST_kind, kind)]

/-! ### Packets of an interface -/

/-- The key of a packet: initiator, queue, seq. -/
def NiPart.is (p : NiPart) (src q seq : Nat) : Bool :=
  decide (p.hdr.srcId = src) && decide (p.hdr.queue = q) && decide (p.hdr.seq = seq)

/-- All packets, in issue order. -/
def State.niParts (s : State) : List NiPart := s.net.ents.flatMap (·.parts)

/-- The packet of a key that is not done. -/
def State.niPart (s : State) (src q seq : Nat) : Option NiPart :=
  s.niParts.find? (fun p => p.is src q seq && decide (p.phase ≠ .done))

/-- Change the packet of a key that is not done. -/
def modPart (src q seq : Nat) (f : NiPart → NiPart) (s : State) : State :=
  let g (p : NiPart) : NiPart := if p.is src q seq ∧ p.phase ≠ .done then f p else p
  let es := s.net.ents.map (fun e => { e with parts := e.parts.map g })
  { s with net := { s.net with ents := es } }

/-- Two packets of one stream: same initiator, queue and target. -/
def sameStream (a b : Hdr) : Bool :=
  decide (a.srcId = b.srcId) && decide (a.queue = b.queue) && decide (a.dstX = b.dstX) && decide (a.dstY = b.dstY) &&
    decide (a.dstEp = b.dstEp)

/-- The packets of a stream that are not done, in seq order. -/
def State.stream (s : State) (h : Hdr) : List NiPart :=
  s.niParts.filter (fun p => sameStream p.hdr h && decide (p.phase ≠ .done))

/-- The key of a stream. -/
def streamKey (h : Hdr) : Nat := (((h.srcId * 32 + h.queue) * 16 + h.dstX) * 16 + h.dstY) * 256 + h.dstEp

/-- First issues of a stream have stopped (R205): a packet waits to be reissued, or its reissue is unanswered. -/
def State.streamStopped (s : State) (h : Hdr) : Bool :=
  (s.stream h).any (fun p => decide (p.phase = .retry) || (decide (p.phase = .flight) && decide (p.retries ≠ 0)) ||
    (decide (p.phase = .held) && decide (p.retries ≠ 0)))

/-- Put a packet into the mesh, in its class (R210), with reissue set on a repeat or after a retry limit (R205). -/
def sendPart (p : NiPart) (slot : Option Nat) (s : State) : State :=
  let k := streamKey p.hdr
  let re := decide (p.retries ≠ 0) || KMap.look s.net.force k
  let h := { p.hdr with cls := slot.isSome, slot := slot.getD 0, reissue := re }
  let s := { s with net := { s.net with force := KMap.put s.net.force k false } }
  (modPart h.srcId h.queue h.seq (fun p => { p with hdr := h, phase := .flight }) s).emit
    (.packet h (if h.opcode = 1 then mkFlits p.lines else []))

/-- Judge a packet at admission and send it, hold it or demote it (R213 to R216, R222). -/
def launch (p : NiPart) (s : State) : State :=
  let h := p.hdr
  let d := h.srcId / 256
  match s.admission h with
  | .best => sendPart p none s
  | .pass k =>
    let key := d * 4096 + k
    let spent := KMap.put s.sch.spent key (KMap.look s.sch.spent key + h.charge)
    let s := { s with sch := { s.sch with spent := spent } }
    sendPart p (some k) (s.inc d ⟨PROBES_SCH_ADMIT, 0, 32⟩ 1)
  | .hold _ =>
    let s := s.when (decide (p.phase ≠ .held)) (fun s => s.inc d ⟨PROBES_SCH_HELD, 0, 32⟩ 1)
    modPart h.srcId h.queue h.seq (fun p => { p with phase := .held }) s
  | .demote k =>
    let s := schLast d k (h.srcId % 256) 1 s
    sendPart p none ((s.inc d ⟨PROBES_SCH_DEMOTE, 0, 32⟩ 1).evt d PROBES_SCH_EVT_demoted)

/-- Launch a waiting packet of a stream whose first issues have not stopped; behind a held packet it is held too (R205, R215). -/
def pumpPart (p : NiPart) (s : State) : State :=
  let h := p.hdr
  match s.niPart h.srcId h.queue h.seq with
  | none => s
  | some p =>
    if p.phase ≠ .wait ∨ s.streamStopped h then s
    else if (s.stream h).any (fun x => decide (x.phase = .held)) then
      modPart h.srcId h.queue h.seq (fun p => { p with phase := .held })
        (s.inc (h.srcId / 256) ⟨PROBES_SCH_HELD, 0, 32⟩ 1)
    else launch p s

/-- Launch what a stream can. -/
def pumpStream (h : Hdr) (s : State) : State := s.each (s.stream h) (fun s p => pumpPart p s)

/-- The next packet of a stream that was answered with RETRY is reissued, when no packet of the stream is unanswered (R205). -/
def reissueNext (h : Hdr) (s : State) : State :=
  let l := s.stream h
  if l.any (fun p => decide (p.phase = .flight) || (decide (p.phase = .held) && decide (p.retries ≠ 0))) then s
  else match l.find? (fun p => decide (p.phase = .retry)) with
    | some p => launch p s
    | none => s

/-! ### Starting and completing requests (R187, R188, R193, R198, R200, R202, R203) -/

/-- A request has completed: it has started and every packet is done. -/
def NiEnt.done (e : NiEnt) : Bool := e.started && e.parts.all (fun p => decide (p.phase = .done))

/-- The number of bytes a request spans. -/
def NocReq.bytes (r : NocReq) : Nat := if r.write then r.addr.toNat / 64 * 64 + 64 * r.lines.length - r.addr.toNat else r.count.val + 1

/-- The packet of a request for one destination (R191, R193). -/
def mkPart (r : NocReq) (seq : Nat) (t : Dest) : NiPart :=
  let a := r.addr.toNat / 64 * 64
  let (sx, sy) := (epRouter (initDie r.src) (initEp r.src)).getD (0, 0)
  let (dx, dy) := (epRouter t.die t.ep).getD (0, 0)
  let ls := if r.write then (r.lines.drop ((t.addr / 64 * 64 - a) / 64)).take ((t.addr + t.bytes + 63) / 64 - t.addr / 64) else []
  { hdr := { dstX := dx, dstY := dy, dstEp := t.ep, srcX := sx, srcY := sy, srcId := r.src.toNat,
             opcode := if r.write then 1 else 0, key := r.key.val, dbg := r.dbg, queue := r.queue.val, seq := seq,
             flits := ls.length, addr := t.addr, count := if r.write then 0 else t.bytes - 1 },
    lines := ls }

/-- The packets of a request over its destinations, numbered from the queue's next seq. -/
def mkParts (r : NocReq) (seq : Nat) (l : List Dest) : List NiPart :=
  match l with
  | [] => []
  | t :: u => mkPart r (seq % 1024) t :: mkParts r (seq + 1) u

/-- The packets that an initiator has outstanding. -/
def State.outstanding (s : State) (src : Nat) : Nat :=
  (s.niParts.filter (fun p => decide (p.hdr.srcId = src) && decide (p.phase ≠ .done))).length

/-- Start request number i of the list: decode it, number its packets and launch them; an address that decodes to nothing completes
with the decode-error status and nothing enters the mesh (R187). -/
def startEnt (i : Nat) (e : NiEnt) (s : State) : State :=
  let put (e : NiEnt) (s : State) : State := { s with net := { s.net with ents := s.net.ents.set i e } }
  let r := e.req
  match s.decodeAddr r.addr.toNat r.bytes with
  | none => put { e with started := true, status := 1 } s
  | some l =>
    let l := match r.via with | some ep => l.map (fun t => { t with ep := ep.toNat }) | none => l
    let k := r.src.toNat * 32 + r.queue.val
    let seq := KMap.look s.net.seq k
    let ps := mkParts r seq l
    let s := put { e with started := true, parts := ps } s
    let s := { s with net := { s.net with seq := KMap.put s.net.seq k ((seq + l.length) % 1024) } }
    s.each ps (fun s p => pumpPart p s)

/-- Start what an initiator can, from request number i on, n requests; `wait` lists the queues behind an open fence (R203). -/
def startEnts (n i src : Nat) (wait : List Nat) (s : State) : State :=
  match n with
  | 0 => s
  | n + 1 =>
    match s.net.ents[i]? with
    | none => s
    | some e =>
      let q := e.req.queue.val
      let behind := e.req.afterWrites && (s.net.ents.take i).any (fun x => decide (x.req.src = e.req.src) && x.req.write && !x.done)
      if e.req.src.toNat ≠ src ∨ e.started ∨ wait.contains q ∨ behind then startEnts n (i + 1) src wait s
      else if e.fence then
        let before := (s.net.ents.take i).filter (fun x => decide (x.req.src = e.req.src) && decide (x.req.queue = e.req.queue))
        if before.all NiEnt.done then
          startEnts n (i + 1) src wait { s with net := { s.net with ents := s.net.ents.set i { e with started := true } } }
        else startEnts n (i + 1) src (q :: wait) s
      else if 64 ≤ s.outstanding src then s
      else startEnts n (i + 1) src wait (startEnt i e s)

/-- The status of a completed request (R349): that of the first-sent packet that did not end OK. -/
def NiEnt.result (e : NiEnt) : Nat :=
  match e.parts.find? (fun p => decide (p.status ≠ 0)) with
  | some p => p.status
  | none => e.status

/-- The lines that a completion delivers: a READ that did not end OK delivers 0 in every requested byte (R198). -/
def NiEnt.lines (e : NiEnt) : List Line :=
  if e.req.write || e.fence then []
  else if e.result = 0 then e.parts.flatMap (·.data)
  else
    let a := e.req.addr.toNat
    (List.range ((a + e.req.count.val) / 64 - a / 64 + 1)).map (fun i => ⟨lineBe a (e.req.count.val + 1) i, 0⟩)

/-- Deliver the completions of each queue in issue order (R202): those that stay, and those that leave. -/
def deliverEnts (l : List NiEnt) (wait : List (Nat × Nat)) : List NiEnt × List NiEnt :=
  match l with
  | [] => ([], [])
  | e :: t =>
    let k := (e.req.src.toNat, e.req.queue.val)
    if e.done && !wait.contains k then
      let (a, b) := deliverEnts t wait
      (a, e :: b)
    else
      let (a, b) := deliverEnts t (k :: wait)
      (e :: a, b)

/-- The result of a host request goes to the host (R293): data or a status for a read; for a failed write `host_wr_err` with its
location. -/
def hostResult (e : NiEnt) (s : State) : State :=
  let st := e.result
  if e.req.write then
    if st = 0 then s
    else s.evtLatch 0 PCIE_EVT_host_wr_err (fun s => s.setFs 0 [(PCIE_HWERR_status, st), (PCIE_HWERR_bar, e.req.bar.val),
      (PCIE_HWERR_tick, s.tick16)])
  else s.emit (.hostCpl (if st = 0 then 0 else if st = 1 ∨ st = 3 then 1 else 2) (if st = 0 then e.lines else []))

/-- A memory frame goes to its target device by its route (R321); on the top device with no route it is discarded and counted. -/
def sendFrame (m : MemFrame) (rsp : Bool) (s : State) : State :=
  match s.routePort m.target.toNat true with
  | some p => itaSend p (if rsp then .memRsp m else .memReq m) s
  | none => s.inc 0 ITA_DROP_value 1

/-- The target bridge returns a response frame with the request's status (R334, R335). -/
def serveResult (v : Serve) (e : NiEnt) (s : State) : State :=
  let st := e.result
  let op := if st ≠ 0 then 4 else if e.req.write then 3 else 2
  sendFrame { target := BitVec.ofNat 14 v.device, source := BitVec.ofNat 14 s.devId, src := BitVec.ofNat 12 v.src, dbg := e.req.dbg,
              opcode := BitVec.ofNat 4 op, queue := e.req.queue, addr := e.req.addr, count := 0, tag := Fin.ofNat 64 v.tag,
              status := BitVec.ofNat 8 st, lines := if st = 0 then e.lines else [] } true s

/-- One completion reaches its initiator, unless its result is discarded (R291). -/
def deliverOne (e : NiEnt) (s : State) : State :=
  if e.dead then s
  else if let some v := e.req.serve then serveResult v e s
  else if isHost e.req.src then hostResult e s
  else if isDebugMaster e.req.src then masterResult e.req e.result e.lines s
  else
    let s := match initCore e.req.src.toNat with
      | some c => if e.fence then s else coreResult c e.req e.result e.lines s
      | none => s
    s.emit (.completion e.req.src.toNat e.req.queue.val e.result e.lines)

/-- Deliver what can be delivered. -/
def deliver (s : State) : State :=
  let (keep, out) := deliverEnts s.net.ents []
  let s := { s with net := { s.net with ents := keep } }
  s.each out (fun s e => deliverOne e s)

/-- Start and complete what an initiator can. -/
def pumpInit (src : Nat) (s : State) : State := deliver (startEnts s.net.ents.length 0 src [] s)

/-- A request, or a fence, enters its initiator's interface. -/
def niIssue (r : NocReq) (fence : Bool) (s : State) : State :=
  if !s.live (initDie r.src) then s
  else pumpInit r.src.toNat { s with net := { s.net with ents := s.net.ents ++ [{ req := r, fence := fence }] } }

/-- NOC_REQUEST_ISSUE (R187). -/
def execNocRequestIssue (r : NocReq) (s : State) : Res := run (niIssue r false) s

/-- NOC_FENCE (R203). -/
def execNocFence (i : Init) (q : Fin 32) (s : State) : Res :=
  run (niIssue { src := i, write := false, addr := 0, queue := q } true) s

/-- HELD_REQUEST_ADMIT: a held packet is judged again; one behind an earlier held packet of its stream stays (R215, R216). -/
def heldAdmit (src q seq : Nat) (s : State) : State :=
  match s.niPart src q seq with
  | none => s
  | some p =>
    match (s.stream p.hdr).find? (fun x => decide (x.phase = .held)) with
    | some f => if f.hdr.seq = seq then (match s.admission p.hdr with
        | .hold _ => s
        | _ => pumpStream p.hdr (launch p s)) else s
    | none => s

/-- HELD_REQUEST_ADMIT (R215). -/
def execHeldRequestAdmit (i : Init) (q : Fin 32) (seq : Fin 1024) (s : State) : Res :=
  run (heldAdmit i.toNat q.val seq.val) s

/-! ### Header drops and corrections (R196) -/

/-- A header that passes with a usable opcode and destination. -/
def Hdr.legal (h : Hdr) : Bool := decide (h.dstY ≤ 9) && decide (h.opcode ≤ 6)

/-- A header is dropped at router (x, y), input port `port`, by the router or the destination interface (R196, R209). -/
def hdrDrop (x y port : Nat) (atNi : Bool) (s : State) : State :=
  let d := dieIndex x y
  let s := s.inc d ⟨NOC_HDR_UE, 0, 32⟩ 1
  let s := s.evtLatch d NOC_EVT_hdr_drop (fun s => s.setFs d [(NOC_DROP_LOC_x, x), (NOC_DROP_LOC_y, y), (NOC_DROP_LOC_port, port),
    (NOC_DROP_LOC_at_ni, atNi.toNat), (NOC_DROP_LOC_tick, s.tick16)])
  errReport d 2 .contained 0x1F 0 s

/-- The header check at a router's input or at a destination interface: the header to go on with, or none when dropped. -/
def takeHeader (x y port : Nat) (atNi : Bool) (raw : BitVec 256) (s : State) : State × Option Hdr :=
  let d := dieIndex x y
  match hamCheck raw.toNat with
  | .bad => (hdrDrop x y port atNi s, none)
  | .clean h => if h.legal then (s, some h) else (hdrDrop x y port atNi s, none)
  | .fixed h =>
    let s := (s.inc d ⟨NOC_HDR_CE, 0, 32⟩ 1).evt d NOC_EVT_hdr_ce
    if h.legal then (s, some { h with corrected := true }) else (hdrDrop x y port atNi s, none)

/-- The header check of a destination interface, at the router that the header names. -/
def takeAtNi (port : Nat) (raw : BitVec 256) (s : State) : State × Option Hdr :=
  let h := Hdr.unpack (nbits raw.toNat 0 247)
  let (x, y) := match hamCheck raw.toNat with
    | .fixed h => (h.dstX, h.dstY)
    | .clean h => (h.dstX, h.dstY)
    | .bad => (h.dstX, h.dstY)
  takeHeader x (min y 9) (4 + port) true raw s

/-- The index of the first data flit whose crc fails (R195). -/
def firstBadFlit (l : List Flit) (i : Nat := 0) : Option Nat :=
  match l with
  | [] => none
  | f :: t => if f.crc = lineCrc f.line i then firstBadFlit t (i + 1) else some i

/-- A payload CRC failure is recorded on die d (R197, R209). -/
def crcFail (d src ep flit : Nat) (read notified : Bool) (s : State) : State :=
  let s := s.inc d ⟨NOC_CRC_CNT, 0, 32⟩ 1
  let s := s.evtLatch d NOC_EVT_crc_fail (fun s => s.setFs d [(NOC_CRC_LOC_src_id, src), (NOC_CRC_LOC_endpoint, ep),
    (NOC_CRC_LOC_flit, flit), (NOC_CRC_LOC_dir, read.toNat), (NOC_CRC_LOC_notified, notified.toNat)])
  errReport d 2 .contained 0x1F 0 s

/-! ### Responses (R197, R198, R202, R205, R206) -/

/-- A packet completes with a status and data; the streams and the initiator go on. -/
def finishPart (p : NiPart) (status : Nat) (data : List Line) (s : State) : State :=
  let h := p.hdr
  let s := modPart h.srcId h.queue h.seq (fun p => { p with phase := .done, status := status, data := data }) s
  let s := s.when (decide (p.retries ≠ 0)) (reissueNext h)
  pumpInit h.srcId (pumpStream h s)

/-- A packet is answered with RETRY (R205): at the limit it and every later packet of its stream still held complete with the
retry-limit status. -/
def retryPart (p : NiPart) (s : State) : State :=
  let h := p.hdr
  let d := h.srcId / 256
  let s := s.inc d ⟨NOC_RETRY_CNT, 0, 32⟩ 1
  let n := p.retries + 1
  let m := s.f d NOC_CTRL_retry_max
  if m ≠ 0 ∧ m ≤ n then
    let later := ((s.stream h).dropWhile (fun x => !x.is h.srcId h.queue h.seq)).filter
      (fun x => x.is h.srcId h.queue h.seq || decide (x.phase ≠ .flight))
    let s := s.each later (fun s x => modPart x.hdr.srcId x.hdr.queue x.hdr.seq
      (fun x => { x with phase := .done, status := 0x0A }) s)
    let s := (s.evt d NOC_EVT_retry_limit)
    let s := { s with net := { s.net with force := KMap.put s.net.force (streamKey h) true } }
    pumpInit h.srcId (pumpStream h s)
  else modPart h.srcId h.queue h.seq (fun p => { p with phase := .retry, retries := n }) s

/-- NI_RESPONSE: a response arrives at the interface of its destination endpoint. One that answers no request held there is
discarded (R206), but at router (15, 0) it goes on to an admitted partner (R263, R264). -/
def niResponse (raw : BitVec 256) (flits : List Flit) (port : Nat) (s : State) : State :=
  let (s, o) := takeAtNi port raw s
  match o with
  | none => s
  | some h =>
    let d := dieIndex h.dstX h.dstY
    if !s.live d then s
    else match s.niPart (d * 256 + h.dstEp) h.queue h.seq with
    | none =>
      if h.dstX = 15 ∧ h.dstY = 0 ∧ s.f 0 UCIE_STAT_state = 3 then s.emit (.ucieAnswer h flits) else s
    | some p =>
      if p.phase ≠ .flight then s
      else if h.opcode = 5 then retryPart p s
      else if h.opcode = 4 then finishPart p h.status [] s
      else if h.opcode = 3 then finishPart p 0 [] s
      else if h.opcode ≠ 2 then s
      else if flits.any (·.truncated) then finishPart p 8 [] s
      else match firstBadFlit flits with
        | none => finishPart p 0 (flits.map (·.line)) s
        | some i =>
          let s := crcFail d h.srcId h.dstEp i true false s
          let n : Hdr := { h with dstX := h.srcX, dstY := h.srcY, dstEp := h.srcId % 256, srcX := h.dstX, srcY := h.dstY,
                                  srcId := d * 256 + h.dstEp, opcode := 6, flits := 0, status := 7, hops := 0 }
          finishPart p 7 [] (s.emit (.packet n []))

/-- NI_RESPONSE (R202). -/
def execNiResponse (raw : BitVec 256) (flits : List Flit) (port : Fin 4) (s : State) : Res :=
  run (niResponse raw flits port.val) s

/-- NOTIFY: a responder's interface receives NOTIFY; the message carries no flit index, so that one is free (assumption 2). -/
def notify (raw : BitVec 256) (port : Nat) (s : State) : State :=
  let (s, o) := takeAtNi port raw s
  match o with
  | none => s
  | some h =>
    let d := dieIndex h.dstX h.dstY
    if h.opcode ≠ 6 ∨ !s.live d then s
    else crcFail d h.srcId h.dstEp (s.free.toNat % 8) true true s.freeNext

/-- NOTIFY (R197). -/
def execNotify (raw : BitVec 256) (port : Fin 4) (s : State) : Res := run (notify raw port.val) s

/-- RETRY_REISSUE: the gap of a stream has passed (R205). -/
def retryReissue (src q die ep : Nat) (s : State) : State :=
  match epRouter die ep with
  | none => s
  | some (x, y) => reissueNext { dstX := x, dstY := y, dstEp := ep, srcId := src, queue := q } s

/-- RETRY_REISSUE (R205). -/
def execRetryReissue (i : Init) (q : Fin 32) (die : Die) (ep : Byte) (s : State) : Res :=
  run (retryReissue i.toNat q.val die.val ep.toNat) s

/-- NOC_RESPONSE_TIMEOUT: no answer came in time (R206, R209). -/
def noResponse (src q seq : Nat) (s : State) : State :=
  match s.niPart src q seq with
  | none => s
  | some p =>
    if p.phase ≠ .flight then s
    else
      let d := src / 256
      let h := p.hdr
      let s := s.inc d ⟨NOC_LOST_CNT, 0, 32⟩ 1
      let s := s.evtLatch d NOC_EVT_lost (fun s => s.setFs d [(NOC_LOST_LOC_endpoint, src % 256), (NOC_LOST_LOC_queue, q),
        (NOC_LOST_LOC_dst_x, h.dstX), (NOC_LOST_LOC_dst_y, h.dstY), (NOC_LOST_LOC_dst_ep, h.dstEp)])
      finishPart p 9 [] s

/-- NOC_RESPONSE_TIMEOUT (R206). -/
def execNocResponseTimeout (i : Init) (q : Fin 32) (seq : Fin 1024) (s : State) : Res :=
  run (noResponse i.toNat q.val seq.val) s

end Sys2Proof.Machine
end

