-- ==== Sys2Proof/Machine/Dram.lean ====
section
/-! DEFINITION. DRAM lines (11): what the DIMMs hold, where a line lies, reads and writes of a line with their reports, and the requests
that a channel serves plain. -/

namespace Sys2Proof.Machine

/-! ### Channels and places (R339, R346) -/

/-- The die of a channel. -/
def chanDie (c : Nat) : Nat := c / 4

/-- A field of a channel's page, the field given by page. -/
def State.cf (s : State) (c : Nat) (x : Nat → Fld) : Nat := s.f (chanDie c) (x (c % 4))

/-- Store a field of a channel's page. -/
def State.setCf (s : State) (c : Nat) (x : Nat → Fld) (v : Nat) : State := s.setF (chanDie c) (x (c % 4)) v

/-- Set an event of a channel's page. -/
def State.cevt (s : State) (c : Nat) (x : Nat → Fld) : State := s.evt (chanDie c) (x (c % 4))

/-- The state code of a channel: 0 OFF, 1 TRAINING, 2 READY, 3 REPAIR, 4 FAILED. -/
def State.ddrState (s : State) (c : Nat) : Nat := s.cf c DDR_STAT_state

/-- What a channel holds. -/
def State.ddrChan (s : State) (c : Nat) : DdrChan := KMap.look s.ddr.chan c

/-- Store what a channel holds. -/
def State.setDdrChan (s : State) (c : Nat) (x : DdrChan) : State := { s with ddr := { s.ddr with chan := KMap.put s.ddr.chan c x } }

/-- All channels. -/
def allChans : List Nat := [0, 1, 2, 3, 4, 5, 6, 7]

/-- Lines of 64 bytes in a row of one subchannel: 128 with x4 devices, 64 with x8 (PRESUMED, the DDR5 page of 1 KiB per device;
assumption 14). -/
def rowLines (x8 : Bool) : Nat := if x8 then 64 else 128

/-- The rank, bank group, bank and row of a line of a channel, and the line within the row: subchannel, bank group, bank, column, rank, row
from the lowest bits up (R346). -/
def linePlace (ranks lines l : Nat) : PprRow × Nat :=
  (⟨l / 64 / lines % max ranks 1, l / 2 % 8, l / 16 % 4, l / 64 / lines / max ranks 1⟩, l / 64 % lines)

/-- One number for a row. -/
def PprRow.key (p : PprRow) : Nat := ((p.row * 4 + p.bank) * 8 + p.bg) * 4 + p.rank

/-! ### Lines (R342, R352) -/

/-- A fill covers line l of channel c: the line it gives. -/
def Fill.at (f : Fill) (c l : Nat) : Option DramLine :=
  match f with
  | .zero c' lo hi => if c = c' ∧ lo ≤ l ∧ l < hi then some { known := true } else none
  | .lost c' lo hi => if c = c' ∧ lo ≤ l ∧ l < hi then some {} else none
  | .lostRow c' ranks lines key => if c = c' ∧ (linePlace ranks lines l).1.key = key then some {} else none

/-- What a line that is not listed holds: what the newest fill that covers it says; else it has not been written. -/
def fillDefault (l : List Fill) (c i : Nat) : DramLine :=
  match l with
  | [] => {}
  | f :: t => match f.at c i with | some x => x | none => fillDefault t c i

/-- The key of a line. -/
def lineKey (c l : Nat) : Nat := c * 2 ^ 33 + l

/-- Line l of channel c. -/
def State.dramLine (s : State) (c l : Nat) : DramLine := KMap.lookD s.ddr.line (lineKey c l) (fillDefault s.ddr.fill c l)

/-- Store a line. -/
def State.setLine (s : State) (c l : Nat) (x : DramLine) : State :=
  { s with ddr := { s.ddr with line := KMap.putD s.ddr.line (lineKey c l) x (fillDefault s.ddr.fill c l) } }

/-- Many lines change at once. -/
def State.addFill (s : State) (f : Fill) : State :=
  let keep (e : Nat × DramLine) : Bool := (f.at (e.1 / 2 ^ 33) (e.1 % 2 ^ 33)).isNone
  { s with ddr := { s.ddr with line := s.ddr.line.filter keep, fill := f :: s.ddr.fill } }

/-! ### Records (R353) -/

/-- An event of a channel is counted, recorded and reported (R353). -/
def dramReport (c kind l device pin : Nat) (s : State) : State :=
  let d := chanDie c
  let k := c % 4
  let s := if kind = 0 then s.inc d (DDR_CE_CNT_value k) 1 else s.inc d (DDR_UE_CNT_value k) 1
  let s := s.setF d ⟨DDR_EVT k, kind, 1⟩ 1
  let q := KMap.look s.ddr.fifo c
  let s := if 32 ≤ q.length then (s.inc d (DDR_FIFO_STAT_dropped k) 1).evt d (DDR_EVT_dropped k)
    else { s with ddr := { s.ddr with fifo := KMap.put s.ddr.fifo c (q ++ [⟨kind, l, device, pin, s.tick32⟩]) } }
  errReport d 8 (if kind = 0 then .corrected else .contained) 0x1F 0 s

/-- The words of a record: `DDR_REC_LO`, `DDR_REC_ROW`, `DDR_REC_TICK`. -/
def DdrRec.words (r : DdrRec) (spd : Option Spd) : Word × Word × Word :=
  let (ranks, x8) := match spd with | some x => (x.ranks.val, x.x8) | none => (1, false)
  let dimms := match spd with | some x => x.dimms.val | none => 1
  let (p, col) := linePlace (dimms * ranks) (rowLines x8) r.line
  (packBits [(0, r.kind), (2, p.rank / max ranks 1), (3, p.rank % max ranks 1), (4, r.line % 2), (5, p.bg), (8, p.bank),
     (10, r.device), (15, 1), (16, r.pin)],
   packBits [(0, p.row), (18, col)], BitVec.ofNat 32 r.tick)

/-- A read of `DDR_REC_LO`: the oldest record popped, its other words captured; a debug read does neither (R11, R362). -/
def ddrPop (c : Nat) (peek : Bool) (s : State) : State × Word :=
  let d := chanDie c
  let k := c % 4
  match KMap.look s.ddr.fifo c with
  | [] => (if peek then s else (s.wr d (DDR_REC_ROW k) 0).wr d (DDR_REC_TICK k) 0, 0)
  | r :: t =>
    let (w, row, tick) := r.words (s.ddrChan c).spd
    (if peek then s
     else (({ s with ddr := { s.ddr with fifo := KMap.put s.ddr.fifo c t } }).wr d (DDR_REC_ROW k) row).wr d (DDR_REC_TICK k) tick, w)

/-- DDR_REC_POP (R362). -/
def execDdrRecPop (c : Fin 8) (peek : Bool) (s : State) : Res :=
  run (fun s => let (s, w) := ddrPop c.val peek s; s.emit (.value w)) s

/-! ### Reads and writes of a line (R342, R351, R352) -/

/-- 512 free bits (assumption 2). -/
def State.freeLine (s : State) : BitVec 512 := (Config.freeFrame s.freeCtr).setWidth 512

/-- Read line l of channel c with the error the DIMM shows; `kind` is what an uncorrectable line is reported as. A line that has never been
written has one of the three outcomes of R342, which one is free. Answers the status and the data. -/
def readLine (c l kind : Nat) (err : DimmErr) (s : State) : State × Nat × BitVec 512 :=
  let x := s.dramLine c l
  if !x.known ∧ !x.bad then
    let f := s.free.toNat
    let v := s.freeLine
    let s := s.freeNext
    if f % 3 = 0 then (s, 0, v)
    else if f % 3 = 1 then (dramReport c 0 l (f / 4 % 10) (f / 64 % 40) s, 0, v)
    else (dramReport c kind l 0xF 0x3F s, 6, 0)
  else if x.bad then (dramReport c kind l 0xF 0x3F s, 6, 0)
  else match err with
    | .none => (s, 0, x.data)
    | .correctable dev pin => (dramReport c 0 l dev.val pin.val s, 0, x.data)
    | .uncorrectable => (dramReport c kind l 0xF 0x3F (s.setLine c l { x with bad := true }), 6, 0)
    | .undetected => (s.freeNext, 0, s.freeLine)

/-- Write a whole line: it is valid from now on. -/
def writeLine (c l : Nat) (v : BitVec 512) (s : State) : State := s.setLine c l { data := v, known := true }

/-- A line covers all 64 bytes. -/
def Line.full (x : Line) : Bool := x.be == BitVec.allOnes 64

/-- The line merged over an old one. -/
def Line.merge (x : Line) (old : BitVec 512) : BitVec 512 :=
  let m := BitVec.ofNat 512 (beMask 64 x.be.toNat)
  (x.data &&& m) ||| (old &&& ~~~m)

/-- Write a line of a request: a partial one merges with the corrected old line, and is refused over an uncorrectable one (R352). Answers the
status. -/
def putLine (c l : Nat) (x : Line) (err : DimmErr) (s : State) : State × Nat :=
  if x.full then (writeLine c l x.data s, 0)
  else if x.be = 0 then (s, 0)
  else
    let (s, st, old) := readLine c l 2 err s
    if st = 0 then (writeLine c l (x.merge old) s, 0) else (s, st)

/-! ### Requests over their lines (R193, R352) -/

/-- What the DIMM gives for line i of a request. -/
def DramIn.line (x : DramIn) (i : Nat) : DimmLine := x.lines.getD i {}

/-- Read n lines, from line i of the request on, by `f`: the first status that is not OK, and the data, first line lowest. -/
def readEach (n i : Nat) (f : Nat → State → State × Nat × BitVec 512) (s : State) : State × Nat × Nat :=
  match n with
  | 0 => (s, 0, 0)
  | n + 1 =>
    let (s, st, v) := f i s
    let (s, st', vs) := readEach n (i + 1) f s
    (s, if st ≠ 0 then st else st', v.toNat + 2 ^ 512 * vs)

/-- Write lines, from line i of the request on, by `f`: the first status that is not OK. -/
def writeEach (l : List Line) (i : Nat) (f : Nat → Line → State → State × Nat) (s : State) : State × Nat :=
  match l with
  | [] => (s, 0)
  | x :: t =>
    let (s, st) := f i x s
    let (s, st') := writeEach t (i + 1) f s
    (s, if st ≠ 0 then st else st')

/-- Serve a request with the given ways to read and to write a line, and answer it (R198, R199). -/
def serveLines (h : Hdr) (lines : List Line) (rd : Nat → State → State × Nat × BitVec 512)
    (wr : Nat → Line → State → State × Nat) (s : State) : State :=
  if h.opcode = 1 then
    let (s, st) := writeEach lines 0 wr s
    if st = 0 then answerAck h s else answerError h st s
  else
    let (s, st, v) := readEach h.readLines 0 rd s
    if st = 0 then answerData h (h.dataLines v) s else answerError h st s

/-- A channel serves a request plain: `l0` is its first line (R352). -/
def servePlain (c l0 : Nat) (h : Hdr) (lines : List Line) (x : DramIn) (s : State) : State :=
  serveLines h lines (fun i s => readLine c (l0 + i) 1 (x.line i).err s) (fun i w s => putLine c (l0 + i) w (x.line i).err s) s

end Sys2Proof.Machine
end

