-- ==== Sys2Proof/Machine/Miu.lean ====
section
/-! DEFINITION. Memory integrity (12): the keyed mix, tags, counters and the counter tree; protected ranges; requests in front of a channel;
metadata fetches; records. -/

namespace Sys2Proof.Machine

/-! ### The keyed mix (R370) -/

/-- Rotate a 64-bit number left. -/
def rotl64 (x n : Nat) : Nat := (BitVec.ofNat 64 x).rotateLeft (n % 64) |>.toNat

/-- The rotations of round j. -/
def mixRot (j m : Nat) : Nat :=
  ([13, 41, 27, 52, 19, 7, 45, 33, 38, 23, 9, 58, 29, 50, 16, 11] : List Nat).getD (4 * j + m) 0

/-- The key word that lane i takes in round j. -/
def mixKey (k : BitVec 256) (t j i : Nat) : Nat := nbits k.toNat (64 * j) 64 ^^^ rotl64 t ((7 * i + 11 * j) % 64)

/-- Round j of the mix over eight lanes. -/
def mixRound (k : BitVec 256) (t j : Nat) (x : List Nat) : List Nat :=
  let a := (List.range 8).map (fun i => (x.getD i 0 + mixKey k t j i) % 2 ^ 64)
  let b := (List.range 8).map (fun i =>
    let e := (a.getD (i / 2 * 2) 0 + a.getD (i / 2 * 2 + 1) 0) % 2 ^ 64
    if i % 2 = 0 then e else rotl64 (a.getD i 0) (mixRot j (i / 2)) ^^^ e)
  (List.range 8).map (fun i => b.getD ((3 * i + 1) % 8) 0)

/-- The inverse of round j. -/
def unmixRound (k : BitVec 256) (t j : Nat) (y : List Nat) : List Nat :=
  let b := (List.range 8).map (fun i => y.getD ((3 * i + 5) % 8) 0)
  let a := (List.range 8).map (fun i =>
    let e := b.getD (i / 2 * 2) 0
    let o := rotl64 (b.getD (i / 2 * 2 + 1) 0 ^^^ e) (64 - mixRot j (i / 2))
    if i % 2 = 0 then (e + 2 ^ 64 - o) % 2 ^ 64 else o)
  (List.range 8).map (fun i => (a.getD i 0 + 2 ^ 64 - mixKey k t j i % 2 ^ 64) % 2 ^ 64)

/-- The eight lanes of a line. -/
def lanesOf (v : BitVec 512) : List Nat := (List.range 8).map (fun i => nbits v.toNat (64 * i) 64)

/-- A line of eight lanes. -/
def ofLanes (x : List Nat) : BitVec 512 := BitVec.ofNat 512 (x.foldr (fun a b => a + 2 ^ 64 * b) 0)

/-- The stored form of a line at a DRAM address (R370). -/
def mixLine (k : BitVec 256) (addr : Nat) (v : BitVec 512) : BitVec 512 :=
  ofLanes ([0, 1, 2, 3].foldl (fun x j => mixRound k (addr / 64) j x) (lanesOf v))

/-- The line of a stored form. -/
def unmixLine (k : BitVec 256) (addr : Nat) (v : BitVec 512) : BitVec 512 :=
  ofLanes ([3, 2, 1, 0].foldl (fun x j => unmixRound k (addr / 64) j x) (lanesOf v))

/-! ### Tags (R373) -/

/-- Multiply in GF(2^32) over n bits of b, lowest first. -/
def gfMul (n a b : Nat) : Nat :=
  match n with
  | 0 => 0
  | n + 1 =>
    let a2 := a * 2 % 2 ^ 32 ^^^ (if 2 ^ 31 ≤ a then 0x8D else 0)
    (if b % 2 = 1 then a else 0) ^^^ gfMul n a2 (b / 2)

/-- The tag of a stored line under a slot: address, major, minor. -/
def lineTag (k : KeySlot) (stored : BitVec 512) (addr major minor : Nat) : Word :=
  let h := (List.range 16).foldl (fun h i => gfMul 32 (h ^^^ nbits stored.toNat (32 * i) 32) k.h.toNat) 0
  let blk := addr % 2 ^ 48 + major * 2 ^ 48 + minor * 2 ^ 112 + 0xFF * 2 ^ 120
  BitVec.ofNat 32 (h ^^^ aes k.pad blk % 2 ^ 32)

/-! ### Ranges (R366 to R368) -/

/-- The 16 ranges. -/
def allRanges : List Nat := [0, 1, 2, 3, 4, 5, 6, 7, 8, 9, 10, 11, 12, 13, 14, 15]

/-- The state code of range r: 0 OFF, 1 SWEEP, 2 ON, 3 FAULT. -/
def State.rangeState (s : State) (r : Nat) : Nat := s.f 0 (MIU_R_STAT_state r)

/-- The first byte of a range. -/
def State.rangeBase (s : State) (r : Nat) : Nat := s.f 0 (MIU_R_BASE_base r) * 4096

/-- Its bytes. -/
def State.rangeSize (s : State) (r : Nat) : Nat := s.f 0 (MIU_R_SIZE_size r) * 4096

/-- The range of an address that is enabled, in any state but OFF. -/
def State.rangeAt (s : State) (a : Nat) : Option Nat :=
  allRanges.find? (fun r => decide (s.rangeState r ≠ 0) && decide (s.rangeBase r ≤ a) && decide (a < s.rangeBase r + s.rangeSize r))

/-- The interleave set in effect that holds [b, b + n). -/
def setOver (l : List (Option DdrSet)) (b n : Nat) : Option DdrSet :=
  match l with
  | [] => none
  | none :: t => setOver t b n
  | some x :: t => if x.base * 2 ^ 30 ≤ b ∧ b + n ≤ (x.base + x.size) * 2 ^ 30 then some x else setOver t b n

/-- The set of a range. -/
def State.rangeSet (s : State) (r : Nat) : Option DdrSet := setOver s.ddr.sets (s.rangeBase r) (s.rangeSize r)

/-- The channels of a set. -/
def DdrSet.chans (x : DdrSet) : List Nat := x.chan.take x.ways

/-- The first line and the number of lines of a range on each channel of its set (R374). -/
def State.rangeLines (s : State) (r : Nat) (x : DdrSet) : Nat × Nat :=
  ((x.cbase * 2 ^ 27 + (s.rangeBase r - x.base * 2 ^ 30) / x.ways) / 64, s.rangeSize r / x.ways / 64)

/-- The nodes of the tree of n children under `roots` roots, and its stored levels (R375): levels go on while more than eight times the
roots are left. -/
def treeSize (fuel n roots : Nat) : Nat × Nat :=
  match fuel with
  | 0 => (0, 0)
  | fuel + 1 =>
    if n ≤ 8 * roots then (0, 0)
    else
      let m := (n + 7) / 8
      let (k, l) := treeSize fuel m roots
      (m + k, l + 1)

/-- The root count of a range, 1 to 8. -/
def State.rangeRoots (s : State) (r : Nat) : Nat := s.f 0 (MIU_R_CFG_roots r)

/-- L of a range (R375). -/
def State.rangeLevels (s : State) (r : Nat) (x : DdrSet) : Nat := (treeSize 16 (s.rangeSize r / x.ways / 4096) (s.rangeRoots r)).2

/-- M_c of a range in units of 128 MiB (R374). -/
def State.rangeMeta (s : State) (r : Nat) (x : DdrSet) : Nat :=
  let d := s.rangeSize r / x.ways
  let (nodes, _) := treeSize 16 (d / 4096) (s.rangeRoots r)
  (d / 16 + d / 64 + 64 * nodes + 2 ^ 27 - 1) / 2 ^ 27

/-- The metadata of a range on the channels of its set: [MB, MB + M_c) in units of 128 MiB; empty without integrity. -/
def State.rangeMetaSpan (s : State) (r : Nat) (x : DdrSet) : Nat × Nat :=
  let b := s.f 0 (MIU_R_CFG_mbase r)
  if s.on 0 (MIU_R_CFG_integ r) then (b, b + s.rangeMeta r x) else (b, b)

/-- Two half-open spans overlap. -/
def spansMeet (a b : Nat × Nat) : Bool := decide (a.1 < b.2) && decide (b.1 < a.2)

/-- The channel-local area of a set in units of 128 MiB. -/
def DdrSet.area (x : DdrSet) : Nat × Nat := (x.cbase, x.cbase + x.size * 8 / x.ways)

/-- Why an enable of range r is refused (R367): the first check that fails; 0 none. -/
def State.enableReason (s : State) (r : Nat) : Nat :=
  let b := s.rangeBase r
  let n := s.rangeSize r
  match setOver s.ddr.sets b n with
  | none => 2
  | some x =>
    let unit := x.ways * 2 ^ x.grain
    let others := allRanges.filter (fun q => decide (q ≠ r) && decide (s.rangeState q ≠ 0))
    let span := s.rangeMetaSpan r x
    let integ := s.on 0 (MIU_R_CFG_integ r)
    if n = 0 ∨ b % unit ≠ 0 ∨ n % unit ≠ 0 then 2
    else if x.grain < 12 then 3
    else if others.any (fun q => decide (b < s.rangeBase q + s.rangeSize q) && decide (s.rangeBase q < b + n)) then 4
    else if integ && x.chans.any (fun c =>
        decide (s.cf c DDR_STAT_capacity * 8 < span.2) ||
        s.ddr.sets.any (fun o => match o with | some y => y.chans.contains c && spansMeet span y.area | none => false) ||
        others.any (fun q => match s.rangeSet q with
          | some y => y.chans.contains c && spansMeet span (s.rangeMetaSpan q y)
          | none => false)) then 5
    else if integ && (decide (s.rangeRoots r = 0) || x.chans.any (fun c =>
        decide (8 < s.rangeRoots r + (others.filter (fun q => s.on 0 (MIU_R_CFG_integ q) &&
          (match s.rangeSet q with | some y => y.chans.contains c | none => false))).foldl (fun a q => a + s.rangeRoots q) 0))) then 6
    else if s.f 0 (MIU_R_CFG_slot r) = 0 ∨ (KMap.look s.keys.slot (s.f 0 (MIU_R_CFG_slot r))).h = 0 then 7
    else if s.miu.sweep.isSome then 8
    else 0

/-- The slot locks of `MIU_SLOT_LO` and `MIU_SLOT_HI` (R365): slots that an enabled range names. -/
def State.slotLocks (s : State) : Nat :=
  allRanges.foldl (fun a r => if s.rangeState r = 0 then a else a ||| 2 ^ s.f 0 (MIU_R_CFG_slot r)) 0

/-- Bring `MIU_SLOT_LO` and `MIU_SLOT_HI` up to date. -/
def markSlots (s : State) : State := s.wr64 0 MIU_SLOT_LO MIU_SLOT_HI s.slotLocks

/-- Forget the counters, tags and cached metadata of a range. -/
def dropMeta (r : Nat) (s : State) : State :=
  let m := s.miu
  let gone (k : Nat) : Bool := decide (k / 2 ^ 32 % 16 = r)
  { s with miu := { m with
      ctr := KMap.dropRange m.ctr (r * 8 * 2 ^ 28) ((r + 1) * 8 * 2 ^ 28)
      cache := m.cache.filter (fun e => !gone e.1)
      tries := m.tries.filter (fun e => !gone e.1)
      noTag := m.noTag.filter (fun e => !gone e.1) } }

/-- The dies with a channel of a set. -/
def DdrSet.dies (x : DdrSet) : List Nat := [0, 1].filter (fun d => x.chans.any (fun c => chanDie c == d))

/-- A write of `MIU_CMD` is refused by its initiator (R367, R385). -/
def miuNotHawkmoth (r op : Nat) (s : State) : State :=
  ((s.evt 0 MIU_EVT_refused).setFs 0 [(MIU_CMDSTAT_op, op), (MIU_CMDSTAT_reason, 1)]).setF 0 (MIU_R_STAT_reason r) 1

/-- MIU_RANGE_ENABLE (R367): an accepted enable locks the slot and starts the sweep. An enable of a range that is enabled already changes
nothing (DESIGN CHOICE, assumption 15). -/
def miuEnable (i : Init) (r : Nat) (s : State) : State :=
  if !s.live 0 then s
  else if !isHawkmoth i then miuNotHawkmoth r 1 s
  else if s.rangeState r ≠ 0 then s
  else
    let k := s.enableReason r
    let s := s.setFs 0 [(MIU_CMDSTAT_op, 1), (MIU_CMDSTAT_reason, k), (MIU_R_STAT_reason r, k)]
    match k, s.rangeSet r with
    | 0, some x =>
      let s := s.setFs 0 [(MIU_CMDSTAT_busy, 1), (MIU_R_STAT_state r, 1), (MIU_R_STAT_fault_ch r, 0),
        (MIU_R_STAT_levels r, if s.on 0 (MIU_R_CFG_integ r) then s.rangeLevels r x else 0)]
      let s := dropMeta r s
      let s := s.each x.dies (fun s d => s.setF d MIU_STAT_sweep 1)
      markSlots { s with miu := { s.miu with sweep := some (r, true) } }
    | _, _ => s

/-- MIU_RANGE_ENABLE (R367). -/
def execMiuRangeEnable (i : Init) (r : Fin 16) (s : State) : Res := run (miuEnable i r.val) s

/-- MIU_RANGE_DISABLE (R368): the range answers RETRY from now on; once its accepted requests have completed, a sweep brings every data line
to plain zero. A range that is OFF stays so; while a sweep runs the command is refused with reason 8. -/
def miuDisable (i : Init) (r : Nat) (s : State) : State :=
  if !s.live 0 then s
  else if !isHawkmoth i then miuNotHawkmoth r 2 s
  else if s.rangeState r = 0 then s
  else if s.miu.sweep.isSome then s.setFs 0 [(MIU_CMDSTAT_op, 2), (MIU_CMDSTAT_reason, 8), (MIU_R_STAT_reason r, 8)]
  else
    let s := s.setFs 0 [(MIU_CMDSTAT_op, 2), (MIU_CMDSTAT_reason, 0), (MIU_CMDSTAT_busy, 1), (MIU_R_STAT_state r, 1)]
    let ds := match s.rangeSet r with | some x => x.dies | none => []
    let s := s.each ds (fun s d => s.setF d MIU_STAT_sweep 1)
    { s with miu := { s.miu with sweep := some (r, false) } }

/-- MIU_RANGE_DISABLE (R368). -/
def execMiuRangeDisable (i : Init) (r : Fin 16) (s : State) : Res := run (miuDisable i r.val) s

/-- The sweep ends on every die. -/
def sweepEnds (s : State) : State :=
  ({ s with miu := { s.miu with sweep := none } }).setF 0 MIU_CMDSTAT_busy 0
    |>.setF 0 MIU_STAT_sweep 0 |>.setF 1 MIU_STAT_sweep 0

/-- MIU_SWEEP_DONE: the sweep has ended on every channel: every data line of the range holds zero data, and the range is ON, or OFF with its
slot unlocked (R367, R368). A disable's sweep cannot end while a request accepted before it waits. -/
def miuSweepDone (s : State) : State :=
  match s.miu.sweep with
  | none => s
  | some (r, enable) =>
    if !enable && s.miu.wait.any (fun w => s.rangeAt w.hdr.addr == some r) then s
    else
      let s := match s.rangeSet r with
        | none => s
        | some x =>
          let (lo, n) := s.rangeLines r x
          let (mlo, mhi) := s.rangeMetaSpan r x
          let s := s.each x.chans (fun s c => s.addFill (.zero c lo (lo + n)))
          let s := s.when enable (fun s => s.each x.chans (fun s c => s.addFill (.lost c (mlo * 2 ^ 21) (mhi * 2 ^ 21))))
          s.each x.dies (fun s d => s.evt d MIU_EVT_sweep_done)
      let s := sweepEnds (dropMeta r s)
      markSlots (s.setFs 0 [(MIU_R_STAT_state r, if enable then 2 else 0), (MIU_R_STAT_fault_ch r, 0)])

/-- MIU_SWEEP_DONE (R367). -/
def execMiuSweepDone (s : State) : Res := run miuSweepDone s

/-! ### Records (R384) -/

/-- The event bit of a kind. -/
def miuEvent (kind : Nat) : Fld :=
  if kind = 0 then MIU_EVT_blocked else if kind = 3 then MIU_EVT_poisoned else if kind = 4 then MIU_EVT_tree_fault else MIU_EVT_tag_fail

/-- An event of a MIU is counted, recorded and reported (R384). -/
def miuReport (c r kind : Nat) (h : Hdr) (s : State) : State :=
  let d := chanDie c
  let s := if kind = 0 then s.inc d MIU_BLOCK_CNT_value 1 else s.inc d MIU_TAGFAIL_CNT_value 1
  let s := s.evt d (miuEvent kind)
  let q := KMap.look s.miu.fifo d
  let s := if 32 ≤ q.length then (s.inc d MIU_FIFO_STAT_dropped 1).evt d MIU_EVT_dropped
    else { s with miu := { s.miu with fifo := KMap.put s.miu.fifo d (q ++ [⟨kind, r, c, h, s.tick16⟩]) } }
  errReport d 9 .contained 0x1F 0 s

/-- A read of `MIU_REC_LO`: the oldest record popped, the rest of it captured; a debug read does neither (R11, R385). -/
def miuPop (d : Nat) (peek : Bool) (s : State) : State × Word :=
  let put (lo hi src : Nat) (s : State) : State :=
    ((s.wr d MIU_REC_ADDR_LO (BitVec.ofNat 32 lo)).wr d MIU_REC_ADDR_HI (BitVec.ofNat 32 hi)).wr d MIU_REC_SRC (BitVec.ofNat 32 src)
  match KMap.look s.miu.fifo d with
  | [] => (if peek then s else put 0 0 0 s, 0)
  | r :: t =>
    let w := packBits [(0, r.kind), (3, 1), (4, r.range), (8, r.chan), (11, r.hdr.dbg.toNat), (12, r.hdr.key)]
    (if peek then s
     else put r.hdr.addr (r.hdr.addr / 2 ^ 32 % 2 ^ 16) (r.hdr.srcId % 4096 + r.tick * 2 ^ 16)
       { s with miu := { s.miu with fifo := KMap.put s.miu.fifo d t } }, w)

/-- MIU_REC_POP (R385). -/
def execMiuRecPop (d : IoDie) (peek : Bool) (s : State) : Res :=
  run (fun s => let (s, w) := miuPop d.val peek s; s.emit (.value w)) s

/-! ### Counters (R372, R381) -/

/-- The key of the counter line of page p of range r on channel c. -/
def ctrKey (r c p : Nat) : Nat := (r * 8 + c) * 2 ^ 28 + p

/-- A counter line. -/
def State.ctrLine (s : State) (r c p : Nat) : BitVec 512 := KMap.look s.miu.ctr (ctrKey r c p)

/-- The minor of line m. -/
def ctrMinor (x : BitVec 512) (m : Nat) : Nat := nbits x.toNat (64 + 7 * m) 7

/-- The major. -/
def ctrMajor (x : BitVec 512) : Nat := nbits x.toNat 0 64

/-- A counter line of a major and 64 minors. -/
def mkCtr (major : Nat) (minor : Nat → Nat) : BitVec 512 :=
  BitVec.ofNat 512 (major % 2 ^ 64 + ((List.range 64).map (fun m => (minor m % 128) * 2 ^ (64 + 7 * m))).foldl (· + ·) 0)

/-- The counter line with another minor for line m. -/
def ctrSet (x : BitVec 512) (m v : Nat) : BitVec 512 := mkCtr (ctrMajor x) (fun k => if k = m then v else ctrMinor x k)

/-- The overflow procedure on a counter line (R381): the major advances, live minors go to 0, a poisoned line stays so, and each other line
in `stale` fails verification and is poisoned. -/
def ctrOverflow (x : BitVec 512) (m : Nat) (stale : List (Fin 64)) : BitVec 512 :=
  mkCtr (ctrMajor x + 1) (fun k =>
    if ctrMinor x k = 127 then 127 else if k ≠ m ∧ stale.any (fun j => j.val == k) then 127 else 0)

/-! ### The cache (R377) -/

/-- The key of a metadata line: level 0 a counter line, 1 to L a tree node, 15 a tag line. -/
def metaKey (c r level idx : Nat) : Nat := ((c * 16 + r) * 16 + level) * 2 ^ 28 + idx

/-- The line is in the cache. -/
def State.cached (s : State) (k : Nat) : Bool := decide (KMap.look s.miu.cache k ≠ 0)

/-- Put a line into the cache, or mark it. -/
def setCache (k v : Nat) (s : State) : State := { s with miu := { s.miu with cache := KMap.put s.miu.cache k v } }

/-- The counter line and the nodes above it that are not cached, lowest first, up to the first cached one or the roots. -/
def State.missing (s : State) (c r : Nat) (n level idx : Nat) : List (Nat × Nat) :=
  match n with
  | 0 => []
  | n + 1 =>
    if s.cached (metaKey c r level idx) then []
    else (level, idx) :: s.missing c r n (level + 1) (idx / 8)

/-- The die's cache holds modified lines (`MIU_STAT.dirty`). -/
def State.miuDirty (s : State) (d : Nat) : Bool :=
  s.miu.cache.any (fun e => decide (e.2 = 2) && decide (chanDie (e.1 / 2 ^ 36) = d))

/-! ### Lines of a protected range (R379 to R381) -/

/-- A line of an enabled range: range, channel, line number, DRAM address, slot; page, line in the page, tag line. -/
structure MiuLine where
  r : Nat
  c : Nat
  l : Nat
  addr : Nat
  page : Nat
  m : Nat
  key : KeySlot
  mix : Bool
  integ : Bool
  hdr : Hdr

/-- The stored form of a value of the line. -/
def MiuLine.store (x : MiuLine) (v : BitVec 512) : BitVec 512 := if x.mix then mixLine x.key.mix x.addr v else v

/-- The value of a stored form. -/
def MiuLine.load (x : MiuLine) (v : BitVec 512) : BitVec 512 := if x.mix then unmixLine x.key.mix x.addr v else v

/-- The key of the line's tag line. -/
def MiuLine.tagKey (x : MiuLine) : Nat := metaKey x.c x.r 15 (x.page * 4 + x.m / 16)

/-- The line's tag was lost with its tag line (R378). -/
def State.tagLost (s : State) (x : MiuLine) : Bool := (KMap.look s.miu.noTag x.tagKey).getLsbD (x.m % 16)

/-- The line has a new tag, or needs none. -/
def tagFresh (x : MiuLine) (s : State) : State :=
  let v := KMap.look s.miu.noTag x.tagKey
  setCache x.tagKey 2 { s with miu := { s.miu with noTag := KMap.put s.miu.noTag x.tagKey (v &&& ~~~(BitVec.ofNat 16 (2 ^ (x.m % 16)))) } }

/-- Replace the counter line of the line's page. -/
def setCtr (x : MiuLine) (v : BitVec 512) (s : State) : State :=
  setCache (metaKey x.c x.r 0 x.page) 2 { s with miu := { s.miu with ctr := KMap.put s.miu.ctr (ctrKey x.r x.c x.page) v } }

/-- Poison the line (R379). -/
def poison (x : MiuLine) (s : State) : State := tagFresh x (setCtr x (ctrSet (s.ctrLine x.r x.c x.page) x.m 127) s)

/-- Read and verify a line with integrity: status and value. A line that fails is poisoned and reported as `kind` (R379). -/
def verifyLine (x : MiuLine) (kind : Nat) (dimm : DimmLine) (s : State) : State × Nat × BitVec 512 :=
  let ct := s.ctrLine x.r x.c x.page
  if ctrMinor ct x.m = 127 then (miuReport x.c x.r 3 x.hdr s, 0xD, 0)
  else
    let old := s.dramLine x.c x.l
    let (s, st, v) := readLine x.c x.l (if kind = 2 then 2 else 1) dimm.err s
    if st ≠ 0 then (s, st, 0)
    else
      let tag (w : BitVec 512) : Word := lineTag x.key w x.addr (ctrMajor ct) (ctrMinor ct x.m)
      let (ok, v) := match dimm.got with
        | some (w, t) => (decide (tag w = t), x.load w)
        | none =>
          if old.known ∧ dimm.err ≠ .undetected then (true, v)
          else (decide (tag (x.store v) = (if old.known then tag (x.store old.data) else s.free.setWidth 32)), v)
      let s := if old.known then s else s.freeNext
      if ok && !s.tagLost x then (s, 0, v)
      else (poison x (miuReport x.c x.r kind x.hdr s), 0xD, 0)

/-- Read a line of a range that admits the request. -/
def miuReadLine (x : MiuLine) (dimm : DimmLine) (s : State) : State × Nat × BitVec 512 :=
  if x.integ then verifyLine x 1 dimm s
  else
    let (s, st, v) := readLine x.c x.l 1 dimm.err s
    match st, dimm.got with
    | 0, some (w, _) => (s, 0, x.load w)
    | _, _ => (s, st, v)

/-- Store a value under the line's next counter (R379, R381): a minor that would pass 126, or a poisoned line, runs the overflow procedure
first; a poisoned line is written with minor 0. -/
def miuStore (x : MiuLine) (v : BitVec 512) (stale : List (Fin 64)) (s : State) : State :=
  let ct := s.ctrLine x.r x.c x.page
  let n := ctrMinor ct x.m
  let s := if n = 127 then setCtr x (ctrSet (ctrOverflow ct x.m stale) x.m 0) (s.inc (chanDie x.c) MIU_OVF_CNT_value 1)
    else if n = 126 then setCtr x (ctrSet (ctrOverflow ct x.m stale) x.m 1) (s.inc (chanDie x.c) MIU_OVF_CNT_value 1)
    else setCtr x (ctrSet ct x.m (n + 1)) s
  tagFresh x (writeLine x.c x.l v s)

/-- Write a line of a range that admits the request. -/
def miuWriteLine (x : MiuLine) (w : Line) (dimm : DimmLine) (s : State) : State × Nat :=
  if !x.integ then
    match dimm.got with
    | some (g, _) => if w.full then (writeLine x.c x.l w.data s, 0) else (writeLine x.c x.l (w.merge (x.load g)) s, 0)
    | none => putLine x.c x.l w dimm.err s
  else if w.full then (miuStore x w.data dimm.stale s, 0)
  else if w.be = 0 then (s, 0)
  else
    let (s, st, old) := verifyLine x 2 dimm s
    if st = 0 then (miuStore x (w.merge old) dimm.stale s, 0) else (s, st)

/-! ### Requests (R363, R369, R379, R382) -/

/-- The line number i of a request to range r on channel c, whose first line is l0. -/
def State.miuLine (s : State) (r c l0 : Nat) (h : Hdr) (i : Nat) : MiuLine :=
  let first := match s.rangeSet r with | some x => (s.rangeLines r x).1 | none => 0
  let u := l0 + i - first
  { r := r, c := c, l := l0 + i, addr := h.addr / 64 * 64 + 64 * i, page := u / 64, m := u % 64,
    key := KMap.look s.keys.slot (s.f 0 (MIU_R_CFG_slot r)), mix := s.on 0 (MIU_R_CFG_mix r), integ := s.on 0 (MIU_R_CFG_integ r),
    hdr := h }

/-- Serve an admitted request of range r, its metadata being in the cache. -/
def miuServe (r c l0 : Nat) (h : Hdr) (lines : List Line) (x : DramIn) (s : State) : State :=
  let lost (i : Nat) (s : State) : State :=
    s.when (x.line i).tagLost (fun s =>
      { s with miu := { s.miu with noTag := KMap.put s.miu.noTag (s.miuLine r c l0 h i).tagKey (BitVec.allOnes 16) } })
  serveLines h lines (fun i s => let s := lost i s; miuReadLine (s.miuLine r c l0 h i) (x.line i) s)
    (fun i w s => let s := lost i s; miuWriteLine (s.miuLine r c l0 h i) w (x.line i) s) s

/-- The lines of metadata that a request looks up are counted (R377): the counter line and the path above it up to a hit, and the tag line, which
is fetched beside it. -/
def countLookups (r c : Nat) (x : MiuLine) (miss : List (Nat × Nat)) (s : State) : State :=
  let d := chanDie c
  let levels := s.f 0 (MIU_R_STAT_levels r)
  let hit := if miss.length ≤ levels then 1 else 0
  let tagHit := s.cached x.tagKey
  let s := (s.inc d MIU_HIT_CNT_value (hit + tagHit.toNat)).inc d MIU_MISS_CNT_value (miss.length + (!tagHit).toNat)
  s.when (!tagHit) (setCache x.tagKey 1)

/-- The channel-local line of a DRAM address on channel c. -/
def State.localLine (s : State) (c a : Nat) : Option Nat :=
  match dramDecode s.ddr.sets a with
  | some (c', x) => if c = c' then some (x / 64) else none
  | none => none

/-- A request in front of channel c (R363, R369): outside every enabled range it is served plain; in one it waits for the sweep, is refused or
blocked, or is served under the range's mode, after the metadata it needs has come. -/
def miuTake (c : Nat) (h : Hdr) (lines : List Line) (x : DramIn) (s : State) : State :=
  match s.localLine c h.addr with
  | none => answerError h 1 s
  | some l0 =>
    match s.rangeAt h.addr with
    | none => servePlain c l0 h lines x s
    | some r =>
      let st := s.rangeState r
      if st = 1 then answerRetry h s
      else if st = 3 ∨ nbit (s.f 0 (MIU_R_STAT_fault_ch r)) c then answerError h 0xD (s.inc (chanDie c) MIU_TAGFAIL_CNT_value 1)
      else if h.dbg ∨ h.key ≠ s.f 0 (MIU_R_CFG_slot r) then answerError h 0xC (miuReport c r 0 h s)
      else if !s.on 0 (MIU_R_CFG_integ r) then miuServe r c l0 h lines x s
      else
        let ml := s.miuLine r c l0 h 0
        let miss := s.missing c r (s.f 0 (MIU_R_STAT_levels r) + 1) 0 ml.page
        let s := countLookups r c ml miss s
        if miss.isEmpty then miuServe r c l0 h lines x s
        else { s with miu := { s.miu with wait := s.miu.wait ++ [⟨c, h, lines, x⟩] } }

/-- A request reaches the endpoint of channel c (R344, R360): RETRY while it trains or repairs, no target while it is OFF or FAILED. -/
def dramServe (c : Nat) (h : Hdr) (lines : List Line) (x : DramIn) (s : State) : State :=
  let st := s.ddrState c
  if !s.live (chanDie c) then s
  else if st = 1 ∨ st = 3 then answerRetry h s
  else if st ≠ 2 then answerError h 3 s
  else miuTake c h lines x (s.largest (chanDie c) (DDR_SVC_MAX_value (c % 4)) x.svc)

/-- DDR_REQUEST: a request at a channel (R350 to R353). -/
def execDdrRequest (c : Fin 8) (h : Hdr) (lines : List Line) (x : DramIn) (s : State) : Res := run (dramServe c.val h lines x) s

/-- MIU_REQUEST: a request at the MIU of a channel, which has passed the endpoint (R363, R369, R379). -/
def execMiuRequest (c : Fin 8) (h : Hdr) (lines : List Line) (x : DramIn) (s : State) : Res :=
  run (fun s => if s.live (chanDie c.val) && decide (s.ddrState c.val = 2) then miuTake c.val h lines x s else s) s

/-! ### Metadata fetches (R376 to R378) -/

/-- The bytes that a digest covers. -/
def digestBytes (content : BitVec 512) (addr level c r : Nat) : List Nat :=
  bytesOf 64 content.toNat ++ bytesOf 6 addr ++ [level, c, r] ++ List.replicate 7 0

/-- The digest of a metadata line (R376). -/
def metaDigest (k : KeySlot) (content : BitVec 512) (addr level c r : Nat) : Nat := cmac k.pad (digestBytes content addr level c r) % 2 ^ 64

/-- The number of lines of level j of a tree of n counter lines. -/
def levelSize (j n : Nat) : Nat :=
  match j with
  | 0 => n
  | j + 1 => (levelSize j n + 7) / 8

/-- The channel-local address of line i of level j (R374), `b` being the first byte of the metadata and `d` the range's bytes on the channel. -/
def metaAddr (b d j i : Nat) : Nat :=
  if j = 0 then b + d / 16 + i * 64
  else b + d / 16 + d / 64 + 64 * ((List.range (j - 1)).foldl (fun a k => a + levelSize (k + 1) (d / 4096)) 0) + 64 * i

/-- The content of a metadata line: a counter line, or the digests of its children (R375). -/
def metaContent (s : State) (k : KeySlot) (r c b d j i : Nat) : BitVec 512 :=
  match j with
  | 0 => s.ctrLine r c i
  | j + 1 => BitVec.ofNat 512 (((List.range 8).map (fun e =>
      let ch := 8 * i + e
      if ch < levelSize j (d / 4096) then metaDigest k (metaContent s k r c b d j ch) (metaAddr b d j ch) j c r * 2 ^ (64 * e)
      else 0)).foldl (· + ·) 0)

/-- Bytes fetched in place of a metadata line verify when their digest is that of the line. -/
def State.fetchVerifies (s : State) (c r j i : Nat) (w : BitVec 512) : Bool :=
  match s.rangeSet r with
  | none => false
  | some x =>
    let k := KMap.look s.keys.slot (s.f 0 (MIU_R_CFG_slot r))
    let b := s.f 0 (MIU_R_CFG_mbase r) * 2 ^ 27
    let d := s.rangeSize r / x.ways
    let a := metaAddr b d j i
    metaDigest k w a j c r == metaDigest k (metaContent s k r c b d j i) a j c r

/-- Evict a line (R377): only one whose children are not cached; a modified one is written back, and its parent becomes modified. -/
def evict (k : Nat) (s : State) : State :=
  let level := k / 2 ^ 28 % 16
  let i := k % 2 ^ 28
  let base := k / 2 ^ 32 * 16
  let v := KMap.look s.miu.cache k
  let child (e : Nat) : Bool := decide (level ≠ 0) && decide (level ≠ 15) && s.cached ((base + level - 1) * 2 ^ 28 + 8 * i + e)
  if v = 0 ∨ [0, 1, 2, 3, 4, 5, 6, 7].any child then s
  else
    let s := setCache k 0 s
    let p := (base + level + 1) * 2 ^ 28 + i / 8
    if v = 2 ∧ level ≠ 15 ∧ s.cached p then setCache p 2 s else s

/-- The requests that wait on channel c are taken again in order (R382): those whose metadata has come are served, the others go on waiting. -/
def retake (l : List MiuWait) (c : Nat) (s : State) : State :=
  match l with
  | [] => s
  | w :: t =>
    let keep (s : State) : State := { s with miu := { s.miu with wait := s.miu.wait ++ [w] } }
    let s := if w.chan ≠ c then keep s
      else match s.localLine c w.hdr.addr, s.rangeAt w.hdr.addr with
        | some l0, some r =>
          let ml := s.miuLine r c l0 w.hdr 0
          if nbit (s.f 0 (MIU_R_STAT_fault_ch r)) c ∨ s.rangeState r = 3 then
            answerError w.hdr 0xD (s.inc (chanDie c) MIU_TAGFAIL_CNT_value 1)
          else if (s.missing c r (s.f 0 (MIU_R_STAT_levels r) + 1) 0 ml.page).isEmpty then miuServe r c l0 w.hdr w.lines w.dimm s
          else keep s
        | _, _ => answerError w.hdr 1 s
    retake t c s

/-- Take the waiting requests of channel c again. -/
def retakeAll (c : Nat) (s : State) : State := retake s.miu.wait c { s with miu := { s.miu with wait := [] } }

/-- A tree fault (R378, R384): the range is in FAULT on the channel, recorded once. -/
def treeFault (c r : Nat) (s : State) : State :=
  let fld : Fld := ⟨MIU_R_STAT r, 12 + c, 1⟩
  if s.on 0 fld then s
  else
    let h := match s.miu.wait.find? (fun w => decide (w.chan = c) && (s.rangeAt w.hdr.addr == some r)) with
      | some w => w.hdr
      | none => { addr := s.rangeBase r }
    retakeAll c (miuReport c r 4 h (s.setF 0 fld 1))

/-- MIU_METADATA_FETCH_DONE: a fetch of line `idx` of a level of range r's tree on channel c ends: with an uncorrectable DRAM error, with the line as it
was written (`some none`), or with other bytes. `victims` (channel * 16 + level... as keys below) leave the cache for it. A line is
fetched only under a cached parent, and only when a request waits for it (R377, R378). -/
def fetchDone (c r level idx : Nat) (got : Option (Option (BitVec 512))) (victims : List Nat) (s : State) : State :=
  let levels := s.f 0 (MIU_R_STAT_levels r)
  let k := metaKey c r level idx
  let parent := decide (level = levels) || s.cached (metaKey c r (level + 1) (idx / 8))
  let wanted := s.miu.wait.any (fun w => decide (w.chan = c) && (s.rangeAt w.hdr.addr == some r) &&
    (match s.localLine c w.hdr.addr with
     | some l0 => decide ((s.miuLine r c l0 w.hdr 0).page / 8 ^ level = idx)
     | none => false))
  if !s.live (chanDie c) || decide (levels < level) || !parent || s.cached k || !wanted then s
  else
    let ok := match got with
      | none => false
      | some none => true
      | some (some w) => s.fetchVerifies c r level idx w
    if got = none then treeFault c r s
    else if !ok then
      if KMap.look s.miu.tries k then treeFault c r { s with miu := { s.miu with tries := KMap.put s.miu.tries k false } }
      else { s with miu := { s.miu with tries := KMap.put s.miu.tries k true } }
    else
      let s := s.each victims (fun s v => evict v s)
      let s := { s with miu := { s.miu with tries := KMap.put s.miu.tries k false } }
      retakeAll c (setCache k 1 s)

/-- MIU_METADATA_FETCH_DONE (R378): a victim is a range with level and index of a line of the same channel, level * 2^28 + index. -/
def execMiuMetadataFetchDone (c : Fin 8) (r : Fin 16) (level : Fin 15) (idx : Nat) (got : Option (Option (BitVec 512)))
    (evict : List (Fin 16 × Nat)) (s : State) : Res :=
  run (fetchDone c.val r.val level.val idx got (evict.map (fun e => (c.val * 16 + e.1.val) * 2 ^ 32 + e.2))) s

/-! ### Faults of a range (R368) -/

/-- An enabled range enters FAULT on both dies; its contents are lost, and a sweep of it ends. -/
def rangeFault (r : Nat) (s : State) : State :=
  if s.rangeState r = 0 then s
  else
    let s := match s.rangeSet r with
      | some x =>
        let (lo, n) := s.rangeLines r x
        let s := s.each x.chans (fun s c => s.addFill (.lost c lo (lo + n)))
        s.setF 0 (MIU_R_STAT_fault_ch r) (x.chans.foldl (fun a c => a ||| 2 ^ c) 0)
      | none => s
    let s := dropMeta r (s.setF 0 (MIU_R_STAT_state r) 3)
    let s := match s.miu.sweep with
      | some (q, _) => if q = r then sweepEnds s else s
      | none => s
    s.each allChans (fun s c => retakeAll c s)

/-- An I/O die is reset or fenced: every enabled range whose set lists a channel of it enters FAULT (R368). -/
def miuDieLost (d : Nat) (s : State) : State :=
  s.each allRanges (fun s r =>
    match s.rangeSet r with
    | some x => if x.dies.contains d then rangeFault r s else s
    | none => s)

end Sys2Proof.Machine
end

