-- ==== Sys2Proof/Machine/Sched.lean ====
section
/-! DEFINITION. Reservation tables (07): bank checks, swaps, the scheduler states, and what a boundary does to admission. -/

namespace Sys2Proof.Machine

/-! ### Bank checks (R219) -/

/-- Whether endpoint ep of die d is an initiator (R185). -/
def isInitiator (d ep : Nat) : Bool :=
  (epRouter d ep).isSome && !decide (ep = 0) && !(decide (8 ≤ ep) && decide (ep < 12)) && !decide (ep = 0x10) &&
    !decide (ep = 0x70)

/-- The header of a bank: P, Q and CRC. -/
def State.bankHdr (s : State) (d bank : Nat) : Nat × Nat × Nat := KMap.look s.sch.hdr (d * 2 + bank)

/-- The CRC over the entries of a bank in index order (R212). -/
def State.bankCrc (s : State) (d bank : Nat) : Nat :=
  crc32c ((List.range 4096).flatMap (fun i => bytesOf 16 (KMap.look s.sch.entry ((d * 2 + bank) * 4096 + i)).toNat))

/-- The rules of one valid entry of a bank built for p and q (R219). -/
def entryOk (d p q : Nat) (e : BitVec 128) : Bool :=
  let (_, y, _, ep, _) := entKeys e
  decide (entStart e < entEnd e) && decide (entEnd e ≤ p - q) && decide (3 ≤ entBudget e) && isInitiator d ep && decide (y ≤ 9)

/-- Two entries of the same keys whose windows overlap. -/
def entryClash (a b : BitVec 128) : Bool :=
  decide (entKeys a = entKeys b) && decide (entStart a < entEnd b) && decide (entStart b < entEnd a)

/-- No two entries of a list clash. -/
def entriesApart (l : List (BitVec 128)) : Bool :=
  match l with
  | [] => true
  | e :: t => t.all (fun x => !entryClash e x) && entriesApart t

/-- The reason for which a bank fails its check: 3 CRC mismatch, 4 an entry rule broken; 0 when it passes (R219, R220). -/
def State.bankReason (s : State) (d bank : Nat) : Nat :=
  let (p, q, crc) := s.bankHdr d bank
  let l := ((s.bankEntries d bank).map (·.2)).filter entValid
  if s.bankCrc d bank ≠ crc then 3
  else if periodOk p q && l.all (entryOk d p q) && entriesApart l then 0
  else 4

/-- The header of a bank matches the P and Q in effect. -/
def State.bankMatches (s : State) (d bank : Nat) : Bool :=
  let (p, q, _) := s.bankHdr d bank
  decide (p = s.time.p) && decide (q = s.time.q)

/-! ### Swaps (R220, R221) -/

/-- The dies that take part in a swap: those not fenced. -/
def State.swapDies (s : State) : List Nat := allDies.filter (fun d => !s.dieFenced d)

/-- Unlock, or lock, the shadow banks of some dies. -/
def lockBanks (l : List Nat) (b : Bool) (s : State) : State := s.each l (fun s d => s.setB d PROBES_SCH_STATE_locked b)

/-- An arm is refused (R220). -/
def swapRefuse (reason : Nat) (s : State) : State :=
  (lockBanks allDies false (s.setF 0 PROBES_SCH_SWSTAT_reason reason)).evt 0 PROBES_SCH_EVT_swap_refused

/-- The arm under check ends. -/
def swapCheckEnd (s : State) : State :=
  ({ s with sch := { s.sch with arm := none, checking := [] } }).setF 0 PROBES_SCH_SWSTAT_checking 0

/-- `PROBES_SCH_SWAP.arm`; `both` when cancel is written with it (R220). -/
def swapArm (both : Bool) (s : State) : State :=
  let at' := s.rd64 0 PROBES_SCH_AT_LO PROBES_SCH_AT_HI
  if !s.live 0 then s
  else if both then swapRefuse 7 s
  else if at' < s.time.num + 2 then swapRefuse 1 s
  else if s.testPeriod then swapRefuse 6 s
  else
    let l := s.swapDies
    let s := { s with sch := { s.sch with arm := some at', checking := l } }
    lockBanks l true (s.setFs 0 [(PROBES_SCH_SWSTAT_checking, 1), (PROBES_SCH_SWSTAT_reason, 0), (PROBES_SCH_SWSTAT_die, 0)])

/-- SCHEDULE_SWAP_ARM (R220). -/
def execScheduleSwapArm (both : Bool) (s : State) : Res := run (swapArm both) s

/-- `PROBES_SCH_SWAP.cancel`: a pending swap is withdrawn and the shadow banks unlock (R220). -/
def swapCancel (s : State) : State :=
  if !s.live 0 then s
  else
    let s := swapCheckEnd { s with sch := { s.sch with pend := none } }
    lockBanks allDies false (s.setF 0 PROBES_SCH_SWSTAT_pending 0)

/-- SCHEDULE_SWAP_CANCEL (R220). -/
def execScheduleSwapCancel (s : State) : Res := run swapCancel s

/-- SCHEDULE_BANK_CHECK_DONE: die d ends the check of its shadow bank (R219, R220). -/
def bankCheckDone (d : Nat) (s : State) : State :=
  if s.sch.arm.isNone ∨ !s.sch.checking.contains d then s
  else
    let r := s.bankReason d (1 - s.activeBank d)
    if r ≠ 0 then swapRefuse r (swapCheckEnd (s.setF 0 PROBES_SCH_SWSTAT_die d))
    else
      let l := s.sch.checking.erase d
      if l.isEmpty then
        let p := s.sch.arm
        (swapCheckEnd { s with sch := { s.sch with pend := p } }).setF 0 PROBES_SCH_SWSTAT_pending 1
      else { s with sch := { s.sch with checking := l } }

/-- SCHEDULE_BANK_CHECK_DONE (R219). -/
def execScheduleBankCheckDone (d : Die) (s : State) : Res := run (bankCheckDone d.val) s

/-- Die d swaps its banks (R221). -/
def swapDie (d : Nat) (s : State) : State :=
  let b := 1 - s.activeBank d
  let s := { s with sch := { s.sch with active := KMap.put s.sch.active d b } }
  (s.setFs d [(PROBES_SCH_STATE_bank, b), (PROBES_SCH_STATE_state, schActive)]).evt d PROBES_SCH_EVT_swap_done

/-- The pending swap at its boundary (R221). -/
def swapBoundary (s : State) : State :=
  if s.sch.pend ≠ some s.time.num then s
  else
    let s := ({ s with sch := { s.sch with pend := none } }).setF 0 PROBES_SCH_SWSTAT_pending 0
    let l := s.swapDies
    if s.testPeriod then swapRefuse 6 s
    else if l.all (fun d => s.bankMatches d (1 - s.activeBank d)) then
      lockBanks allDies false (s.each l (fun s d => swapDie d s))
    else swapRefuse 5 s

/-! ### Scheduler states (R222 to R224) -/

/-- The scheduler of die d is ACTIVE when its active header matches, and otherwise SUSPENDED. -/
def schedSettle (d : Nat) (s : State) : State :=
  if s.bankMatches d (s.activeBank d) then s.setF d PROBES_SCH_STATE_state schActive
  else if s.f d PROBES_SCH_STATE_state = schSuspended then s
  else (s.setF d PROBES_SCH_STATE_state schSuspended).evt d PROBES_SCH_EVT_suspended

/-- A period takes effect (R222, R223). -/
def schedPeriod (s : State) : State :=
  if s.testPeriod then
    let s := s.each allDies (fun s d => if s.live d then s.setF d PROBES_SCH_STATE_state schDisabled else s)
    if s.sch.pend.isSome ∨ s.sch.arm.isSome then
      swapRefuse 6 ((swapCheckEnd { s with sch := { s.sch with pend := none } }).setF 0 PROBES_SCH_SWSTAT_pending 0)
    else s
  else s.each allDies (fun s d =>
    if !s.live d || decide (s.f d PROBES_SCH_STATE_state = schEmpty) then s else schedSettle d s)

/-- The scheduler of die d at the release of the start: ACTIVE when bank 0 passes its check and its header matches (R224). -/
def schedRelease (d : Nat) (s : State) : State :=
  if !s.live d then s
  else if s.testPeriod then s.setF d PROBES_SCH_STATE_state schDisabled
  else if s.bankReason d 0 = 0 ∧ s.bankMatches d 0 then s.setF d PROBES_SCH_STATE_state schActive
  else (s.setF d PROBES_SCH_STATE_state schSuspended).evt d PROBES_SCH_EVT_suspended

/-! ### Boundaries (R214, R216, R220) -/

/-- The entry that a held request matches. -/
def State.heldEntry (s : State) (h : Hdr) : Nat :=
  match s.admission h with
  | .best => 0
  | .pass k => k
  | .hold k => k
  | .demote k => k

/-- The held packets of all interfaces. -/
def State.heldParts (s : State) : List NiPart := s.niParts.filter (fun p => decide (p.phase = .held))

/-- Held requests that still wait at a boundary (R216). -/
def heldOver (s : State) : State :=
  s.each s.heldParts (fun s p =>
    let d := p.hdr.srcId / 256
    (schLast d (s.heldEntry p.hdr) (p.hdr.srcId % 256) 0 s).evt d PROBES_SCH_EVT_held_over)

/-- What a boundary does: held requests are marked, a pending swap and a period change take effect, budgets refill, held
requests are judged again, and an arm whose checks are late is refused (R214, R216, R220 to R223). -/
def schedBoundary (changed : Bool) (s : State) : State :=
  let s := swapBoundary (heldOver s)
  let s := s.when changed schedPeriod
  let s := { s with sch := { s.sch with spent := [] } }
  let s := s.each s.heldParts (fun s p => heldAdmit p.hdr.srcId p.hdr.queue p.hdr.seq s)
  match s.sch.arm with
  | some a => if a ≤ s.time.num + 1 then swapRefuse 2 (swapCheckEnd s) else s
  | none => s

end Sys2Proof.Machine
end

