-- ==== Sys2Proof/Machine/Probes.lean ====
section
/-! DEFINITION. Probes and per-initiator statistics (07), and what a router does with a header (06). -/

namespace Sys2Proof.Machine

/-! ### Probes (R226 to R234) -/

/-- The probes of a die (R226). -/
def probeCount (d : Nat) : Nat := if d < 2 then 16 else 4

/-- Probe state codes: `IDLE`, `PRE`, `POST`, `STOPPED`, `ERROR`. -/
def prIdle : Nat := 0

/-- `PRE`. -/
def prPre : Nat := 1

/-- `POST`. -/
def prPost : Nat := 2

/-- `STOPPED`. -/
def prStopped : Nat := 3

/-- `ERROR`. -/
def prError : Nat := 4

/-- What probe p of die d holds. -/
def State.probeSt (s : State) (d p : Nat) : ProbeSt := KMap.look s.probe (d * 16 + p)

/-- Store it. -/
def State.setProbe (s : State) (d p : Nat) (x : ProbeSt) : State := { s with probe := KMap.put s.probe (d * 16 + p) x }

/-- The probe's state code. -/
def State.probeState (s : State) (d p : Nat) : Nat := s.f d (PROBES_P_STAT_state p)

/-- The base of a probe's trace buffer. -/
def State.probeBase (s : State) (d p : Nat) : Nat :=
  s.f d (PROBES_P_BUF_LO_value p) + 2 ^ 32 * s.f d (PROBES_P_BUF_HI_addr p)

/-- The probe stops with state ERROR and an error code. -/
def probeError (d p code : Nat) (s : State) : State :=
  s.setFs d [(PROBES_P_STAT_state p, prError), (PROBES_P_STAT_error p, code)]

/-- The entries at the front of a FIFO that lie in one 512-byte block (R231). -/
def blockRun (l : List (Nat × BitVec 256)) : List (Nat × BitVec 256) :=
  match l with
  | [] => []
  | e :: _ => l.takeWhile (fun x => decide (x.1 / 16 = e.1 / 16))

/-- The line of index k (in 64-byte units) of a run of entries, two entries a line. -/
def runLine (l : List (Nat × BitVec 256)) (k : Nat) : Line :=
  let m := l.filter (fun e => decide (e.1 / 2 = k))
  ⟨BitVec.ofNat 64 (m.foldl (fun a e => a + (2 ^ 32 - 1) * 2 ^ (32 * (e.1 % 2))) 0),
   BitVec.ofNat 512 (m.foldl (fun a e => a + e.2.toNat * 2 ^ (256 * (e.1 % 2))) 0)⟩

/-- The probe writes the entries at the front of its FIFO that share a block (R231). -/
def probeWrite (d p : Nat) (s : State) : State :=
  let x := s.probeSt d p
  let run := blockRun x.fifo
  match run with
  | [] => s
  | e :: _ =>
    let n := run.length
    let k0 := e.1 / 2
    let k1 := (e.1 + n - 1) / 2
    let r : NocReq :=
      { src := BitVec.ofNat 12 (d * 256 + 0x80 + p), write := true, addr := BitVec.ofNat 48 (s.probeBase d p + 32 * e.1),
        lines := (List.range (k1 - k0 + 1)).map (fun i => runLine run (k0 + i)),
        key := Fin.ofNat 64 (s.f d (PROBES_P_CTRL_key p)) }
    niIssue r false (s.setProbe d p { x with fifo := x.fifo.drop n })

/-- Write n blocks. -/
def probeWrites (n d p : Nat) (s : State) : State :=
  match n with
  | 0 => s
  | n + 1 => probeWrites n d p (probeWrite d p s)

/-- The probe runs: it is enabled and neither stopped nor in error. -/
def State.probeRuns (s : State) (d p : Nat) : Bool :=
  decide (s.probeState d p = prPre) || decide (s.probeState d p = prPost)

/-- The probe stops: its FIFO is written first (R232). -/
def probeStop (d p : Nat) (s : State) : State :=
  if s.probeRuns d p then (probeWrites 32 d p s).setF d (PROBES_P_STAT_state p) prStopped else s

/-- The probe triggers; only the first trigger after enable counts (R232). -/
def probeTrigger (d p : Nat) (s : State) : State :=
  if s.probeState d p ≠ prPre then s
  else
    let s := s.setFs d [(PROBES_P_STAT_state p, prPost), (PROBES_P_STAT_triggered p, 1)]
    s.setProbe d p { s.probeSt d p with trig := true, left := s.f d (PROBES_P_POST_count p) }

/-- The buffer of a probe is aligned to its size and lies wholly in DRAM or in the on-chip window (R232). -/
def State.probeBufOk (s : State) (d p : Nat) : Bool :=
  let n := s.f d (PROBES_P_BUFSZ_s p)
  let b := s.probeBase d p
  decide (12 ≤ n) && decide (n ≤ 30) && decide (b % 2 ^ n = 0) &&
    (decide (b + 2 ^ n ≤ 2 ^ 41) || (decide (winBase ≤ b) && decide (b + 2 ^ n ≤ winBase + 8 * 0x4000000)))

/-- A write that sets enable: counters and indices clear and the probe starts, or enters ERROR (R229, R233, R234); `declared` says whether the
image declares PROBE_TRIG for the probe. -/
def probeEnable (d p : Nat) (v : Word) (declared : Bool) (s : State) : State :=
  if probeCount d ≤ p || !s.live d || s.on d (PROBES_P_CTRL_enable p) then s
  else
    let s := s.wr d (PROBES_P_CTRL p) ((v ||| 1) &&& 0x07FFFFFF)
    let s := ((s.wr64 d (PROBES_P_HCNT_LO p) (PROBES_P_HCNT_HI p) 0).wr64 d (PROBES_P_FCNT_LO p) (PROBES_P_FCNT_HI p) 0)
    let s := (((s.wr d (PROBES_P_LOST p) 0).wr d (PROBES_P_WPTR p) 0).wr d (PROBES_P_TRIGPOS p) 0).wr d (PROBES_P_STAT p) 0
    let s := s.setProbe d p {}
    let src := s.f d (PROBES_P_CTRL_trig_src p)
    if 9 < s.f d (PROBES_P_CTRL_y p) ∨ dieIndex (s.f d (PROBES_P_CTRL_x p)) (s.f d (PROBES_P_CTRL_y p)) ≠ d then probeError d p 1 s
    else if !s.probeBufOk d p then probeError d p 2 s
    else if s.f d (PROBES_P_CTRL_mode p) = 3 then probeError d p 3 s
    else if src = 1 ∧ (d < 2 ∨ !declared) then probeError d p 4 s
    else
      let s := s.setF d (PROBES_P_STAT_state p) prPre
      s.when (decide (src = 0)) (probeTrigger d p)

/-- PROBE_ENABLE (R234). -/
def execProbeEnable (d : Die) (p : Fin 16) (v : Word) (declared : Bool) (s : State) : Res :=
  run (probeEnable d.val p.val v declared) s

/-- A write that clears enable stops the probe, which returns to IDLE (R234). -/
def probeDisable (d p : Nat) (s : State) : State :=
  if s.on d (PROBES_P_CTRL_enable p) then
    ((probeStop d p s).setF d (PROBES_P_CTRL_enable p) 0).setF d (PROBES_P_STAT_state p) prIdle
  else s

/-- PROBE_DISABLE (R234). -/
def execProbeDisable (d : Die) (p : Fin 16) (s : State) : Res := run (probeDisable d.val p.val) s

/-- PROBE_FORCE_TRIGGER (R232). -/
def execProbeForceTrigger (d : Die) (p : Fin 16) (s : State) : Res := run (probeTrigger d.val p.val) s

/-- PROBE_FORCE_STOP (R232). -/
def execProbeForceStop (d : Die) (p : Fin 16) (s : State) : Res := run (probeStop d.val p.val) s

/-- PROBE_TRIG_EDGE: a rising edge of PROBE_TRIG triggers a probe whose source is 1 (R232, R233). -/
def execProbeTrigEdge (d : FabDie) (p : Fin 4) (s : State) : Res :=
  run (fun s => if s.f (d.val + 2) (PROBES_P_CTRL_trig_src p.val) = 1 then probeTrigger (d.val + 2) p.val s else s) s

/-- PROBE_TRACE_WRITE: a block has filled, or an entry has waited 256 tb (R231). -/
def execProbeTraceWrite (d : Die) (p : Fin 16) (s : State) : Res := run (probeWrite d.val p.val) s

/-- PROBE_TRACE_WRITE_DONE: a status other than OK stops the probe with error 5 (R231). -/
def execProbeTraceWriteDone (d : Die) (p : Fin 16) (status : Byte) (s : State) : Res :=
  run (fun s =>
    if status = 0 ∨ !s.on d.val (PROBES_P_CTRL_enable p.val) then s
    else (probeError d.val p.val 5 s).setF d.val (PROBES_P_STAT_status p.val) status.toNat) s

/-- A masked comparison. -/
def maskEq (v x m : Nat) : Bool := (v ^^^ x) &&& m == 0

/-- A header matches a probe (R227, R228). -/
def State.probeMatch (s : State) (d p : Nat) (h : Hdr) : Bool :=
  let f (x : Fld) : Nat := s.f d x
  let dst := h.dstX + 16 * h.dstY + 256 * h.dstEp
  let cls := f (PROBES_P_MATCH_class p)
  let lo := f (PROBES_P_ALO_LO_value p) + 2 ^ 32 * f (PROBES_P_ALO_HI_addr p)
  let hi := f (PROBES_P_AHI_LO_value p) + 2 ^ 32 * f (PROBES_P_AHI_HI_addr p)
  !(decide (0x80 ≤ h.srcId % 256) && decide (h.srcId % 256 < 0x90)) &&
  maskEq h.srcId (f (PROBES_P_SRC_value p)) (f (PROBES_P_SRC_mask p)) &&
  maskEq dst (f (PROBES_P_DST_value p)) (f (PROBES_P_DST_mask p)) &&
  (decide (cls = 0) || (decide (cls = 1) && !h.cls) || (decide (cls = 2) && h.cls)) &&
  maskEq h.key (f (PROBES_P_MATCH_key p)) (f (PROBES_P_MATCH_key_mask p)) &&
  nbit (f (PROBES_P_MATCH_opcodes p)) h.opcode &&
  (decide (f (PROBES_P_MATCH_range p) = 0) || (decide (lo ≤ h.addr) && decide (h.addr < hi)))

/-- A trace entry (R230). -/
def traceEntry (ts port : Nat) (resp : Bool) (h : Hdr) (trig gap : Bool) (mark : Word) : BitVec 256 :=
  BitVec.ofNat 256 (ts % 2 ^ 72 + port % 8 * 2 ^ 72 + h.cls.toNat * 2 ^ 75 + resp.toNat * 2 ^ 76 + h.dbg.toNat * 2 ^ 77 +
    h.corrected.toNat * 2 ^ 78 + h.reissue.toNat * 2 ^ 79 + h.srcId % 4096 * 2 ^ 80 + h.opcode % 16 * 2 ^ 92 +
    h.dstX % 16 * 2 ^ 96 + h.dstY % 16 * 2 ^ 100 + h.dstEp % 256 * 2 ^ 104 + h.key % 64 * 2 ^ 112 + h.queue % 32 * 2 ^ 118 +
    h.seq % 1024 * 2 ^ 123 + h.slot % 4096 * 2 ^ 133 + h.flits % 16 * 2 ^ 145 + h.count % 512 * 2 ^ 149 +
    h.status % 256 * 2 ^ 158 + h.hops % 256 * 2 ^ 166 + h.addr % 2 ^ 48 * 2 ^ 174 + trig.toNat * 2 ^ 222 +
    gap.toNat * 2 ^ 223 + mark.toNat * 2 ^ 224)

/-- A probe takes a trace entry, or loses it to a full FIFO (R231, R232). -/
def probeTrace (d p port : Nat) (resp : Bool) (h : Hdr) (mark : Word) (s : State) : State :=
  let x := s.probeSt d p
  if 32 ≤ x.fifo.length then (s.inc d (PROBES_P_LOST_value p) 1).setProbe d p { x with gap := true }
  else
    let i := s.f d (PROBES_P_WPTR_index p)
    let size := 2 ^ (s.f d (PROBES_P_BUFSZ_s p) - 5)
    let e := traceEntry (s.time.count * 256) port resp h x.trig x.gap mark
    let s := s.when x.trig (fun s => s.setF d (PROBES_P_TRIGPOS_index p) i)
    let post := decide (s.probeState d p = prPost)
    let ring := decide (s.f d (PROBES_P_CTRL_mode p) = 1)
    let last := ring && post && decide (x.left = 1)
    let s := s.setProbe d p { x with fifo := x.fifo ++ [(i, e)], gap := false, trig := false,
                                     left := if ring && post then x.left - 1 else x.left }
    let s :=
      if i + 1 < size then s.setF d (PROBES_P_WPTR_index p) (i + 1)
      else if ring then s.setFs d [(PROBES_P_WPTR_index p, 0), (PROBES_P_WPTR_wrapped p, 1)]
      else probeStop d p (s.setF d (PROBES_P_WPTR_index p) (i + 1))
    if last then probeStop d p s else s

/-- A probe sees a header that passed the input check of its router (R226, R229, R232). -/
def probeSee (d p x y port : Nat) (resp : Bool) (h : Hdr) (flits : Nat) (mark : Word) (s : State) : State :=
  if s.probeRuns d p && decide (s.f d (PROBES_P_CTRL_x p) = x) && decide (s.f d (PROBES_P_CTRL_y p) = y) &&
      nbit (s.f d (PROBES_P_CTRL_ports p)) port && s.probeMatch d p h then
    let s := s.inc64 d (PROBES_P_HCNT_LO p) (PROBES_P_HCNT_HI p) 1
    let s := s.inc64 d (PROBES_P_FCNT_LO p) (PROBES_P_FCNT_HI p) flits
    let mode := s.f d (PROBES_P_CTRL_mode p)
    if mode = 1 ∨ (mode = 2 ∧ s.probeState d p = prPost) then probeTrace d p port resp h mark s else s
  else s

/-- A boundary triggers the probes whose trigger tick it is (R232). -/
def probeBoundary (s : State) : State :=
  s.each allDies (fun s d => s.each (List.range (probeCount d)) (fun s p =>
    if s.f d (PROBES_P_CTRL_trig_src p) = 2 ∧ s.rd64 d (PROBES_P_TTICK_LO p) (PROBES_P_TTICK_HI p) = s.time.num then
      probeTrigger d p s else s))

/-! ### Routers (R22, R196, R207) -/

/-- The output port for a header at router (x, y): X first, then Y, then local (R22). -/
def outPort (x y : Nat) (h : Hdr) : Nat :=
  if h.dstX < x then 0 else if x < h.dstX then 1 else if h.dstY < y then 2 else if y < h.dstY then 3 else 4

/-- The ports of router (x, y) that are fenced. -/
def State.portFenced (s : State) (x y port : Nat) : Bool := nbit (KMap.look s.rtr (x + 16 * y)).fenced port

/-- A packet that would leave through a fenced port: a request is answered with the fenced status from this router, whose own
source ID is not stated and is free (assumption 2); a response is discarded; both are counted (R207). -/
def fencedPacket (x y : Nat) (resp : Bool) (h : Hdr) (s : State) : State :=
  let d := dieIndex x y
  let s := (s.inc d ⟨NOC_FENCE_CNT, 0, 32⟩ 1).evt d NOC_EVT_fenced
  if resp then s
  else
    let a : Hdr := { h.answer 4 8 0 with srcX := x, srcY := y, srcId := s.free.toNat % 4096 }
    s.freeNext.emit (.packet a [])

/-- ROUTER_HEADER: a packet reaches input port `port` of router (x, y). -/
def routerHeader (x y port : Nat) (resp : Bool) (raw : BitVec 256) (flits : List Flit) (marks : List (Fin 16 × Word)) (s : State) : State :=
  let d := dieIndex x y
  if !s.live d then s
  else
    let (s, o) := takeHeader x y port false raw s
    match o with
    | none => s
    | some h =>
      let h := { h with hops := (h.hops + 1) % 256 }
      let mark (p : Nat) : Word := match marks.find? (fun e => decide (e.1.val = p)) with
        | some e => if d < 2 then 0 else e.2
        | none => 0
      let s := s.each (List.range (probeCount d)) (fun s p => probeSee d p x y port resp h flits.length (mark p) s)
      let out := outPort x y h
      if s.portFenced x y out then fencedPacket x y resp h s else s.emit (.route x y out resp h flits)

/-- ROUTER_HEADER (R196). -/
def execRouterHeader (x : Fin 16) (y : Fin 10) (port : Fin 8) (resp : Bool) (raw : BitVec 256) (flits : List Flit)
    (marks : List (Fin 16 × Word)) (s : State) : Res :=
  run (routerHeader x.val y.val port.val resp raw flits marks) s

/-! ### Per-initiator statistics (R235 to R237) -/

/-- The counters of an entry at 0, with its since-tick. -/
def StatEnt.cleared (x : StatEnt) (now : Nat) : StatEnt := { used := x.used, pinned := x.pinned, id := x.id, since := now }

/-- Capture: the selected entry goes to the holding registers (R237). -/
def statCapture (d : Nat) (s : State) : State :=
  let ep := s.f d PROBES_ST_SEL_endpoint
  let k := s.f d PROBES_ST_SEL_entry
  let here := isTarget d ep
  let x := if here then s.stat d ep k else {}
  let refused := s.f d PROBES_ST_ID_pin_refused
  let s := s.wr d PROBES_ST_ID (packBits [(0, x.id), (12, x.used.toNat), (13, x.pinned.toNat),
    (14, (here && decide (k = 16)).toNat), (15, here.toNat), (16, refused)])
  let s := (s.wr d PROBES_ST_REQ (BitVec.ofNat 32 x.req)).wr64 d PROBES_ST_RDB_LO PROBES_ST_RDB_HI x.rdb
  let s := (s.wr64 d PROBES_ST_WRB_LO PROBES_ST_WRB_HI x.wrb).wr64 d PROBES_ST_LATSUM_LO PROBES_ST_LATSUM_HI x.latsum
  let s := (s.wr d PROBES_ST_LATMAX (BitVec.ofNat 32 x.latmax)).wr d PROBES_ST_ANS (packBits [(0, x.retry), (16, x.error)])
  s.wr64 d PROBES_ST_SINCE_LO PROBES_ST_SINCE_HI x.since

/-- Clear: the counters go to 0 and the entry is freed unless it is pinned (R237). -/
def statClear (d : Nat) (s : State) : State :=
  let ep := s.f d PROBES_ST_SEL_endpoint
  let k := s.f d PROBES_ST_SEL_entry
  let x := s.stat d ep k
  if !isTarget d ep || decide (16 < k) then s
  else s.setStat d ep k (if x.pinned then x.cleared s.time.num else { since := s.time.num })

/-- Unpin: the binding is released (R237). -/
def statUnpin (d : Nat) (s : State) : State :=
  let ep := s.f d PROBES_ST_SEL_endpoint
  let k := s.f d PROBES_ST_SEL_entry
  if !isTarget d ep || decide (16 < k) then s else s.setStat d ep k { s.stat d ep k with pinned := false }

/-- Pin: the entry is bound to pin_id and cleared, or the pin is refused (R237). -/
def statPin (d : Nat) (s : State) : State :=
  let ep := s.f d PROBES_ST_SEL_endpoint
  let k := s.f d PROBES_ST_SEL_entry
  let id := s.f d PROBES_ST_SEL_pin_id
  if !isTarget d ep then s
  else if 16 ≤ k then s.setF d PROBES_ST_ID_pin_refused 1
  else
    let bind (s : State) : State := s.setStat d ep k { used := true, pinned := true, id := id, since := s.time.num }
    match s.statOf d ep id with
    | none => bind s
    | some j =>
      if j = k then bind s
      else if (s.stat d ep j).pinned then s.setF d PROBES_ST_ID_pin_refused 1
      else bind (s.setStat d ep j {})

/-- A write of `PROBES_ST_CMD`: the set bits act in the order capture, clear, unpin, pin (R237). -/
def statCmd (d : Nat) (capture clear unpin pin : Bool) (s : State) : State :=
  if !s.live d then s
  else
    let s := s.setF d PROBES_ST_ID_pin_refused 0
    ((s.when capture (statCapture d)).when clear (statClear d)).when unpin (statUnpin d) |>.when pin (statPin d)

/-- STATS_CAPTURE (R237). -/
def execStatsCapture (d : Die) (s : State) : Res := run (statCmd d.val true false false false) s

/-- STATS_CLEAR (R237). -/
def execStatsClear (d : Die) (s : State) : Res := run (statCmd d.val false true false false) s

/-- STATS_UNPIN (R237). -/
def execStatsUnpin (d : Die) (s : State) : Res := run (statCmd d.val false false true false) s

/-- STATS_PIN (R237). -/
def execStatsPin (d : Die) (s : State) : Res := run (statCmd d.val false false false true) s

end Sys2Proof.Machine
end

