-- ==== Sys2Proof/Machine/Scrub.lean ====
section
/-! DEFINITION. Error logs, the fail operation, the configuration scrubber, the aging monitors and the wear map's writes (18). -/

namespace Sys2Proof.Machine

/-! ### The error log (R509, R517, R527) -/

/-- ERROR_REPORT (R509). -/
def execErrorReport (d : Die) (src : Fin 16) (c : ErrClass) (region : Fin 32) (detail : BitVec 16) (s : State) : Res :=
  run (errReport d.val src.val c region.val detail.toNat) s

/-- A read of `ERR_LOG_LO`: the oldest entry popped and its tick captured; a debug read does neither (R11, R527). -/
def errLogPop (d : Nat) (peek : Bool) (s : State) : State × Word :=
  match KMap.look s.err.log d with
  | [] => (if peek then s else s.wr d ERR_LOG_TICK 0, 0)
  | e :: t =>
    (if peek then s
     else ({ s with err := { s.err with log := KMap.put s.err.log d t } }).wr d ERR_LOG_TICK (BitVec.ofNat 32 e.2),
     BitVec.ofNat 32 e.1)

/-- ERR_LOG_POP (R527). -/
def execErrLogPop (d : Die) (peek : Bool) (s : State) : Res :=
  run (fun s => let (s, w) := errLogPop d.val peek s; s.emit (.value w)) s

/-- Op 1 of `ERR_CMD` on fabric die d: a RUNNING region goes to FAILED at once, or the operation is refused (R517, R527). -/
def errFail (i : Init) (d r : Nat) (s : State) : State :=
  if !isHawkmoth i && !isSkipperOf i d then s.setF d ERR_CMDSTAT_reason 1
  else if 24 ≤ r then s.setF d ERR_CMDSTAT_reason 3
  else if s.regionState d r ≠ 5 then s.setF d ERR_CMDSTAT_reason 2
  else dropWaiting d r (failRegion d r (s.setF d ERR_CMDSTAT_reason 0))

/-- ERR_FAIL_REGION (R517). -/
def execErrFailRegion (i : Init) (d : FabDie) (r : Fin 32) (s : State) : Res := run (errFail i (d.val + 2) r.val) s

/-! ### The scrubber (R512 to R518) -/

/-- The frames of a fabric die, and of a region (R512). -/
def dieFrames : Nat := 57600

/-- The frames of a region. -/
def regionFrames : Nat := 2400

/-- The scrubber of die d. -/
def State.scrub (s : State) (d : Nat) : ScrubSt := KMap.look s.err.scrub d

/-- Store the scrubber of die d. -/
def State.setScrub (s : State) (d : Nat) (x : ScrubSt) : State :=
  { s with err := { s.err with scrub := KMap.put s.err.scrub d x } }

/-- The bitwise majority of three words (R518). -/
def majority (a b c : Word) : Word := (a &&& b) ||| (a &&& c) ||| (b &&& c)

/-- The control that the scrubber acts on. -/
def ScrubSt.ctl (x : ScrubSt) : Word := majority x.c0 x.c1 x.c2

/-- A control value within the range that acts (R514). -/
def clampTo (lo hi v : Nat) : Nat := min hi (max lo v)

/-- Frames per quiet step (R513, R514). -/
def State.scrubStep (s : State) (d : Nat) : Nat :=
  min (clampTo 1 8 (bitsOf (s.scrub d).ctl SCRUB_CTL_step.lo SCRUB_CTL_step.len)) (s.time.q / 48)

/-- The interval of background reads in tb (R513, R514). -/
def State.scrubGap (s : State) (d : Nat) : Nat :=
  64 * clampTo 1 20 (bitsOf (s.scrub d).ctl SCRUB_CTL_gap.lo SCRUB_CTL_gap.len)

/-- The walk moves to frame n; past the last frame the walk ends and the next starts (R513, R514): walks completed, the length of the walk
in units of 2^16 tb, and `walk_late` beyond 50 ms. -/
def scrubMove (d n : Nat) (s : State) : State :=
  if n < dieFrames then s.setF d SCRUB_POS_frame n
  else
    let len := s.time.count - (s.scrub d).walkAt
    let s := s.setFs d [(SCRUB_POS_frame, 0), (SCRUB_POS_walks, s.f d SCRUB_POS_walks + 1),
      (SCRUB_WALK_length, sat 16 (len / 65536))]
    let s := s.when (decide (80000000 < len)) (fun s => s.evt d SCRUB_EVT_walk_late)
    s.setScrub d { s.scrub d with walkAt := s.time.count }

/-- The walk passes over the regions that are LOADING, at most n of them (R104, R513). -/
def scrubSkip (n d : Nat) (s : State) : State :=
  match n with
  | 0 => s
  | n + 1 =>
    let i := s.f d SCRUB_POS_frame / regionFrames
    if s.regionState d i = 2 then scrubSkip n d (scrubMove d ((i + 1) * regionFrames) s) else s

/-- A scrub error in a logical column is counted in its column count; a count that comes to `col_thr` sets the event and
latches the column (R515, R516, R528). -/
def scrubColumn (d c : Nat) (s : State) : State :=
  if 200 ≤ c then s
  else
    let n := s.f d ⟨SPARE_COLCNT c, 0, 32⟩
    let thr := s.f d SPARE_CFG_col_thr
    let s := s.inc d ⟨SPARE_COLCNT c, 0, 32⟩ 1
    if thr ≠ 0 ∧ n < thr ∧ thr ≤ n + 1 then
      s.evtLatch d SPARE_EVT_col_thr (fun s => s.setFs d [(SPARE_HIT_column, c), (SPARE_HIT_col_valid, 1)])
    else s

/-- A correctable frame: rewritten in place, counted and reported (R515). -/
def scrubFixed (d : Nat) (e : FrameErr) (s : State) : State :=
  let s := (s.inc d ⟨SCRUB_CE_CNT, 0, 32⟩ 1).evt d SCRUB_EVT_ce
  errReport d 4 .corrected 0x1F 0 (scrubColumn d e.col.toNat s)

/-- An uncorrectable frame of local region i: left as it is; the first of a region is reported (R516). -/
def scrubBad (d i : Nat) (e : FrameErr) (s : State) : State :=
  let s := (s.inc d ⟨SCRUB_UE_CNT, 0, 32⟩ 1).evt d SCRUB_EVT_ue
  let s := scrubColumn d e.col.toNat s
  if s.on d ⟨SCRUB_UE_MAP, i, 1⟩ then s
  else errReport d 4 .regionFatal i (e.col.toNat + 256 * e.idx.toNat) (s.setF d ⟨SCRUB_UE_MAP, i, 1⟩ 1)

/-- The check of one frame of local region i with a given error (R512): 1 or 2 wrong bits are corrected, 3 are detected, and with 4 or more a
free value says whether the error is missed, miscorrected or detected (assumption 2). -/
def scrubCheck (d i : Nat) (e : FrameErr) (s : State) : State :=
  if e.bits = 0 then s
  else if e.bits ≤ 2 then scrubFixed d e s
  else if e.bits = 3 then scrubBad d i e s
  else
    let pick := s.free.toNat % 3
    let key := frameKey d i (s.physColumn d e.col.toNat) e.idx.toNat
    let wrong := Config.freeFrame s.freeCtr
    let s := s.freeNext
    if pick = 0 then s
    else if pick = 1 then
      let t := KMap.put s.fab.frame key wrong
      scrubFixed d e { s with fab := { s.fab with frame := t } }
    else scrubBad d i e s

/-- The scrubber of die d checks the next frame of its walk, finding `e` for its number. -/
def scrubOne (d : Nat) (e : Nat → FrameErr) (s : State) : State :=
  let s := scrubSkip 24 d s
  let n := s.f d SCRUB_POS_frame
  if s.regionState d (n / regionFrames) = 2 then s
  else scrubMove d (n + 1) (scrubCheck d (n / regionFrames) (e n) s)

/-- n frames in turn. -/
def scrubMany (n d : Nat) (e : Nat → FrameErr) (s : State) : State :=
  match n with
  | 0 => s
  | n + 1 => scrubMany n d e (scrubOne d e s)

/-- SCRUB_BACKGROUND_READ: the scrubber of a die checks one frame, finding `e` (R513). -/
def execScrubBackgroundRead (d : FabDie) (e : FrameErr) (s : State) : Res :=
  run (fun s => if s.live (d.val + 2) then scrubOne (d.val + 2) (fun _ => e) s else s) s

/-- The error listed for frame n of die d. -/
def QuietIn.frameErr (q : QuietIn) (d n : Nat) : FrameErr :=
  match q.frameErrors.find? (fun e => decide (e.1.val + 2 = d) && decide (e.2.1 = n)) with
  | some e => e.2.2
  | none => ⟨0, 0, 0⟩

/-- The quiet step of die d (R513). -/
def scrubQuietDie (q : QuietIn) (d : Nat) (s : State) : State :=
  if s.live d then scrubMany (s.scrubStep d) d (q.frameErr d) s else s

/-- The quiet step of every running fabric die, but for one whose last step still runs (R59, R513). -/
def scrubQuiet (q : QuietIn) (s : State) : State :=
  s.each fabDies (fun s d => if s.lateDuty d 3 then s else scrubQuietDie q d s)

/-- The three copies of a die's control, with upsets since the last boundary. -/
def ScrubSt.upset (x : ScrubSt) (l : List (FabDie × Nat × Word)) (d : Nat) : ScrubSt :=
  l.foldl (fun x e =>
    if e.1.val + 2 ≠ d then x
    else if e.2.1 = 0 then { x with c0 := e.2.2 }
    else if e.2.1 = 1 then { x with c1 := e.2.2 }
    else { x with c2 := e.2.2 }) x

/-- The copies of `SCRUB_CTL` of die d are compared and overwritten with `SCRUB_MASTER` (R518). -/
def scrubVote (d : Nat) (ups : List (FabDie × Nat × Word)) (s : State) : State :=
  let x := (s.scrub d).upset ups d
  let v := s.rd 0 SCRUB_MASTER
  let differ (s : State) (c : ErrClass) : State :=
    errReport d 14 c 0x1F 0 ((s.inc d ⟨SCRUB_VOTE_CNT, 0, 32⟩ 1).evt d SCRUB_EVT_vote)
  let s :=
    if x.c0 = x.c1 ∧ x.c1 = x.c2 then s
    else if x.c0 = x.c1 ∨ x.c1 = x.c2 ∨ x.c0 = x.c2 then differ s .corrected
    else differ s .contained
  s.setScrub d { s.scrub d with c0 := v, c1 := v, c2 := v }

/-- The vote of a boundary on every running fabric die that is not fenced (R518). -/
def scrubBoundary (ups : List (FabDie × Nat × Word)) (s : State) : State :=
  s.each fabDies (fun s d => if s.dieFenced d then s else scrubVote d ups s)

/-! ### Aging monitors (R519) -/

/-- The slowdown of a count against a baseline, in units of 0.01 %. -/
def slowdown (base count : Nat) : Nat := if base ≤ count then 0 else (base - count) * 10000 / base

/-- One measurement of monitor i of die d. -/
def agingOne (d i count : Nat) (s : State) : State :=
  if !s.live d || decide (24 ≤ i) || (decide (d < 2) && decide (21 ≤ i)) then s
  else
    let v := sat 12 (slowdown (s.f d (SPARE_AGEB_baseline i)) count)
    let old := s.f d (SPARE_AGE_slowdown i)
    let thr := 10 * s.f d SPARE_CFG_age_thr
    let s := s.setFs d [(SPARE_AGE_slowdown i, v), (SPARE_AGE_count i, count)]
    if thr ≠ 0 ∧ old < thr ∧ thr ≤ v then
      s.evtLatch d SPARE_EVT_age_thr (fun s => s.setFs d [(SPARE_HIT_monitor, i), (SPARE_HIT_age_valid, 1)])
    else s

/-- AGING_MEASURE: the monitors' corrected counts (R519). -/
def execAgingMeasure (l : List (Die × Fin 24 × BitVec 16)) (s : State) : Res :=
  run (fun s => s.each l (fun s e => agingOne e.1.val e.2.1.val e.2.2.toNat s)) s

/-! ### The wear map (R523, R524) -/

/-- The copy in use: the valid one with the higher sequence (R525). -/
def NvSt.wearBest (x : NvSt) : Option WearCopy :=
  match x.wear0, x.wear1 with
  | some a, some b => if a.seq < b.seq then some b else some a
  | some a, none => some a
  | none, y => y

/-- The entries of the map. -/
def NvSt.wearEntries (x : NvSt) : List (BitVec 128) := match x.wearBest with | some c => c.entries | none => []

/-- The sequence of the last write. -/
def NvSt.wearSeq (x : NvSt) : Nat := match x.wearBest with | some c => c.seq | none => 0

/-- The entry being written and those that wait, in `SPARE_STAT` (R524, R528). -/
def wearShow (s : State) : State :=
  s.setFs 0 [(SPARE_STAT_wm_busy, if s.err.queue.isEmpty then 0 else 1), (SPARE_STAT_queued, s.err.queue.length - 1),
    (SPARE_STAT_entries, s.nv.wearEntries.length)]

/-- The copy with the lower sequence is copy 0; of two with no valid copy or equal sequences, copy 0 is first. -/
def NvSt.wearFirst0 (x : NvSt) : Bool :=
  match x.wear0, x.wear1 with
  | some a, some b => decide (a.seq ≤ b.seq)
  | some _, none => false
  | none, _ => true

/-- WEAR_MAP_WRITE_DONE: the entry at the front has been written to the copy with the lower sequence and then to the other;
`first` and `second` say which writes held (R524). -/
def wearDone (first second : Bool) (s : State) : State :=
  match s.err.queue with
  | [] => s
  | e :: t =>
    let n := s.nv
    let es := n.wearEntries ++ [e]
    let q := n.wearSeq
    let ca := if first then some (WearCopy.mk (q + 1) es) else none
    let cb := if second then some (WearCopy.mk (if first then q + 2 else q + 1) es) else none
    let (a, b) := if n.wearFirst0 then (ca, cb) else (cb, ca)
    let nv' := { n with wear0 := a.or n.wear0, wear1 := b.or n.wear1 }
    let s := { s with nv := nv', err := { s.err with queue := t } }
    let s := if first && second then s.evt 0 SPARE_EVT_wm_done else s.evt 0 SPARE_EVT_wm_fail
    wearShow s

/-- WEAR_MAP_WRITE_DONE (R524). -/
def execWearMapWriteDone (first second : Bool) (s : State) : Res := run (wearDone first second) s

end Sys2Proof.Machine
end

