-- ==== Sys2Proof/Machine/Corug.lean ====
section
/-! DEFINITION. Corug edges (08): geometry, fencing, training, spare wires, tunnel frames, stream channels and status links. -/

namespace Sys2Proof.Machine

/-! ### Geometry (R17, R20, R240) -/

/-- The die across edge e of die d; none where the die has no such edge (R240). -/
def edgeFar (d e : Nat) : Option Nat :=
  if d < 2 then (if e < 4 then some (2 + 4 * d + e) else none)
  else
    let c := (d - 2) % 4
    match e with
    | 0 => if 0 < c then some (d - 1) else none
    | 1 => if c < 3 then some (d + 1) else none
    | 2 => if d < 6 then some (d + 4) else some (d - 4)
    | 3 => if d < 6 then some 0 else some 1
    | _ => none

/-- The edge of the far die that faces edge e of die d. -/
def edgeBack (d e : Nat) : Nat :=
  if d < 2 then 3
  else match e with
    | 0 => 1
    | 1 => 0
    | 2 => 2
    | _ => (d - 2) % 4

/-- The router and port whose link tunnel module k of edge e carries (R20, R240). -/
def tunnelPort (d e k : Nat) : Nat × Nat × Nat :=
  let x := dieX d
  let y := dieY d
  if d = 0 then (4 * e + k, 0, 3)
  else if d = 1 then (4 * e + k, 9, 2)
  else match e with
    | 0 => (x, y + k, 0)
    | 1 => (x + 3, y + k, 1)
    | 2 => if d < 6 then (x + k, 4, 3) else (x + k, 5, 2)
    | _ => if d < 6 then (x + k, 1, 2) else (x + k, 8, 3)

/-- Module m of die d exists (R240). -/
def moduleExists (d m : Nat) : Bool :=
  (edgeFar d (m / 8)).isSome && (if d < 2 ∨ m / 8 = 3 then decide (m % 8 < 6) else decide (m % 8 < 8))

/-- The kind of a module: 0 tunnel, 1 fabric stream, 2 lane-stream. -/
def moduleKind (d m : Nat) : Nat := if m % 8 < 4 then 0 else if d < 2 ∨ m / 8 = 3 then 2 else 1

/-- The far end of module m of die d. -/
def moduleFar (d m : Nat) : Option (Nat × Nat) :=
  (edgeFar d (m / 8)).map (fun f => (f, 8 * edgeBack d (m / 8) + m % 8))

/-- The edges of a die. -/
def edges : List Nat := [0, 1, 2, 3]

/-- The stream module positions of an edge. -/
def streamKs : List Nat := [4, 5, 6, 7]

/-! ### Channel ends -/

/-- The key of a channel end. -/
def chanKey (d m ch rx : Nat) : Nat := ((d * 32 + m) * 2 + ch) * 2 + rx

/-- What a channel end holds. -/
def State.chan (s : State) (d m ch rx : Nat) : ChanSt := KMap.look s.corug.chan (chanKey d m ch rx)

/-- Store it. -/
def State.setChan (s : State) (d m ch rx : Nat) (x : ChanSt) : State :=
  { s with corug := { s.corug with chan := KMap.put s.corug.chan (chanKey d m ch rx) x } }

/-- Channel states: unbound, open, closed, fenced. -/
def chUnbound : Nat := 0

/-- Open. -/
def chOpen : Nat := 1

/-- Closed. -/
def chClosed : Nat := 2

/-- Fenced. -/
def chFenced : Nat := 3

/-- The state code of a channel end. -/
def State.chanState (s : State) (d m ch rx : Nat) : Nat := s.f d (CORUG_M_CHAN_st m (ch + 2 * rx))

/-- Set it. -/
def setChanState (d m ch rx st : Nat) (s : State) : State := s.setF d (CORUG_M_CHAN_st m (ch + 2 * rx)) st

/-- The end-of-stream marker: VALID, LAST, DATA 0, SB 0x0002 (R248). -/
def eosMarker : BitVec 273 := BitVec.ofNat 273 (2 * 2 ^ 256 + 2 ^ 272)

/-- A receive end presents the end-of-stream marker. -/
def presentEos (d m ch : Nat) (s : State) : State :=
  (s.setChan d m ch 1 { s.chan d m ch 1 with fifo := [], atLast := true }).emit (.stream d m ch eosMarker)

/-! ### Fencing (R253 to R255, R257, R615) -/

/-- The ports of an edge's tunnels are fenced or not. -/
def setPorts (d e : Nat) (on : Bool) (s : State) : State :=
  s.each [0, 1, 2, 3] (fun s k =>
    let (x, y, port) := tunnelPort d e k
    let key := x + 16 * y
    let r := KMap.look s.rtr key
    let b := 2 ^ port
    let f := if on then r.fenced ||| b else r.fenced &&& (15 - b)
    { s with rtr := KMap.put s.rtr key { r with fenced := f } })

/-- Each stream channel of a fenced edge reads fenced; one from the fenced die ends with the marker when its last delivered word had LAST = 0
(R254). -/
def fenceChannels (d e : Nat) (s : State) : State :=
  s.each streamKs (fun s k =>
    let m := 8 * e + k
    if !moduleExists d m then s
    else s.each [0, 1] (fun s ch =>
      let open' := decide (s.chanState d m ch 1 = chOpen)
      let s := s.when (open' && !(s.chan d m ch 1).atLast) (presentEos d m ch)
      setChanState d m ch 0 chFenced (setChanState d m ch 1 chFenced s)))

/-- A fence ends the training or a spare swap of the edge (R257). -/
def fenceEnds (d e : Nat) (s : State) : State :=
  let s :=
    if KMap.look s.corug.train d = e + 1 then
      ({ s with corug := { s.corug with train := KMap.put s.corug.train d 0 } }).setFs d
        [(CORUG_CMDSTAT_busy, 0), (CORUG_CMDSTAT_reason, 9)]
    else s
  s.each [0, 1, 2, 3, 4, 5, 6, 7] (fun s k =>
    if KMap.look s.corug.swap (d * 32 + 8 * e + k) then
      ({ s with corug := { s.corug with swap := KMap.put s.corug.swap (d * 32 + 8 * e + k) false } }).setF d CORUG_CMDSTAT_reason 9
    else s)

/-- A running die fences edge e with a cause (R253, R254). An edge that is fenced already is fenced again: its training ends, and its
`reset_seen` counts from this fence (R256, R257, R265). -/
def fenceEdge (d e cause : Nat) (s : State) : State :=
  if !s.live d || (edgeFar d e).isNone then s
  else
    let s := fenceEnds d e s
    let s := s.setFs d [(CORUG_EDGE_fenced e, 1), (CORUG_EDGE_trained e, 0), (CORUG_EDGE_reset_seen e, 0)]
    let s := s.evtLatch d CORUG_EVT_fence (fun s =>
      s.setFs d [(CORUG_FENCE_LOG_edge, e), (CORUG_FENCE_LOG_cause, cause), (CORUG_FENCE_LOG_tick, s.tick16)])
    errReport d 3 .contained 0x1F 0 (fenceChannels d e (setPorts d e true s))

/-- FENCE_NOTICE: die d receives a fence notice on edge e, before a reset or, `test`, the stand-alone test mode (R253). -/
def execFenceNotice (d : Die) (e : Fin 4) (test : Bool) (s : State) : Res :=
  run (fenceEdge d.val e.val (if test then 3 else 1)) s

/-- EDGE_NO_VALID_FRAMES (R253). -/
def execEdgeNoValidFrames (d : Die) (e : Fin 4) (s : State) : Res := run (fenceEdge d.val e.val 2) s

/-- IOS fences the status link of die d (R511, R615). -/
def linkFence (d : Nat) (s : State) : State :=
  if d = 0 ∨ KMap.look s.statusFenced d ∨ !s.live 0 then s
  else
    let c := { s.corug with linkReset := KMap.put s.corug.linkReset d false }
    let s := errReport 0 3 .contained 0x1F 0 (meterLost d { s with statusFenced := KMap.put s.statusFenced d true, corug := c })
    s.when (decide (d = 1)) (fun s => (miuDieLost 1 s).setF 0 RECORD_STAT_mirror_ok 0)

/-- A valid status frame of die d: the link is unfenced at the first one after the die has left a reset (R615). -/
def linkFrame (d : Nat) (s : State) : State :=
  if s.live d ∧ KMap.look s.statusFenced d ∧ KMap.look s.corug.linkReset d then
    { s with statusFenced := KMap.put s.statusFenced d false }
  else s

/-- STATUS_LINK_FRAME (R615). -/
def execStatusLinkFrame (d : Die) (s : State) : Res := run (linkFrame d.val) s

/-- Every neighbour of die d fences its edge toward d, and IOS the status link (R253, R615). -/
def fenceDie (d cause : Nat) (s : State) : State :=
  linkFence d (s.each edges (fun s e =>
    match edgeFar d e with
    | some f => fenceEdge f (edgeBack d e) cause s
    | none => s))

/-- Die d has left a reset outside a start: its neighbours see it, its own edges read fenced (R256, R615, R616). -/
def edgesAfterReset (d : Nat) (s : State) : State :=
  let c := { s.corug with linkReset := KMap.put s.corug.linkReset d true }
  ({ s with corug := c }).each edges (fun s e =>
    match edgeFar d e with
    | none => s
    | some f =>
      let b := edgeBack d e
      let s := s.when (s.live f && s.on f (CORUG_EDGE_fenced b)) (fun s => s.setF f (CORUG_EDGE_reset_seen b) 1)
      let s := s.setFs d [(CORUG_EDGE_fenced e, 1), (CORUG_EDGE_trained e, 0), (CORUG_EDGE_reset_seen e, 0)]
      let s := { s with corug := { s.corug with born := KMap.put s.corug.born (d * 4 + e) true } }
      fenceChannels d e (setPorts d e true s))

/-- An edge leaves the fenced state (R256, R616): its ports carry traffic again; a bound channel waits for resync. -/
def unfenceEdge (d e : Nat) (s : State) : State :=
  let s := s.setFs d [(CORUG_EDGE_fenced e, 0), (CORUG_EDGE_reset_seen e, 0)]
  let s := { s with corug := { s.corug with born := KMap.put s.corug.born (d * 4 + e) false } }
  let s := (setPorts d e false s).evt d CORUG_EVT_unfence
  s.each streamKs (fun s k =>
    let m := 8 * e + k
    if !moduleExists d m then s
    else s.each [(0, 0), (0, 1), (1, 0), (1, 1)] (fun s c =>
      setChanState d m c.1 c.2 (if (s.chan d m c.1 c.2).link.isSome then chClosed else chUnbound) s))

/-! ### Operations (R256, R265) -/

/-- The first reason that refuses operation op of `CORUG_CMD` on edge e (R265); 0 when it starts. -/
def corugReason (op : Nat) (i : Init) (d e m ch : Nat) (s : State) : Nat :=
  if !isHawkmoth i then 1
  else if s.on d CORUG_CMDSTAT_busy then 8
  else if (edgeFar d e).isNone then 2
  else if op = 3 then
    (if moduleExists d m && decide (moduleKind d m ≠ 0) &&
        (decide (s.chanState d m ch 0 = chClosed) || decide (s.chanState d m ch 1 = chClosed)) then 0 else 7)
  else if !s.on d (CORUG_EDGE_fenced e) then 3
  else if !s.on d (CORUG_EDGE_reset_seen e) then 4
  else if op = 2 ∧ !s.on d (CORUG_EDGE_trained e) then 5
  else 0

/-- A write of `CORUG_CMD`: an operation starts, or is refused with its reason. -/
def corugOp (op : Nat) (i : Init) (d e m ch : Nat) (f : State → State) (s : State) : State :=
  if !s.live d then s
  else
    let r := corugReason op i d e m ch s
    if r = 1 ∨ r = 8 then (s.setF d CORUG_CMDSTAT_reason r).evt d CORUG_EVT_cmd_refused
    else if r ≠ 0 then (s.setFs d [(CORUG_CMDSTAT_op, op), (CORUG_CMDSTAT_reason, r)]).evt d CORUG_EVT_cmd_refused
    else f (s.setFs d [(CORUG_CMDSTAT_op, op), (CORUG_CMDSTAT_reason, 0)])

/-- Training of an edge starts. -/
def trainStart (d e : Nat) (s : State) : State :=
  ({ s with corug := { s.corug with train := KMap.put s.corug.train d (e + 1) } }).setF d CORUG_CMDSTAT_busy 1

/-- CORUG_TRAIN (R256). -/
def execCorugTrain (i : Init) (d : Die) (e : Fin 4) (s : State) : Res :=
  run (corugOp 1 i d.val e.val 0 0 (trainStart d.val e.val)) s

/-- CORUG_UNFENCE (R256). -/
def execCorugUnfence (i : Init) (d : Die) (e : Fin 4) (s : State) : Res :=
  run (corugOp 2 i d.val e.val 0 0 (unfenceEdge d.val e.val)) s

/-! ### Channels (R244, R248) -/

/-- The two ends of a channel, when both are bound and hold the same link ID, open; otherwise bound ends stay closed, and ends that
disagree set `stream_closed` (R244). -/
def matchChannel (d m ch rx : Nat) (s : State) : State :=
  match moduleFar d m with
  | none => s
  | some (f, n) =>
    let a := (s.chan d m ch rx).link
    let b := (s.chan f n ch (1 - rx)).link
    let s := s.setChan d m ch rx { s.chan d m ch rx with fifo := [], taken := 0, acked := 0, atLast := true }
    let s := s.setChan f n ch (1 - rx) { s.chan f n ch (1 - rx) with fifo := [], taken := 0, acked := 0, atLast := true }
    let fenced := s.on d (CORUG_EDGE_fenced (m / 8)) || s.on f (CORUG_EDGE_fenced (n / 8))
    if fenced then s
    else match a, b with
      | none, none => setChanState d m ch rx chUnbound (setChanState f n ch (1 - rx) chUnbound s)
      | some _, none => setChanState d m ch rx chClosed s
      | none, some _ => setChanState f n ch (1 - rx) chClosed s
      | some x, some y =>
        if x = y then setChanState d m ch rx chOpen (setChanState f n ch (1 - rx) chOpen s)
        else
          let s := setChanState d m ch rx chClosed (setChanState f n ch (1 - rx) chClosed s)
          (s.evt d CORUG_EVT_stream_closed).evt f CORUG_EVT_stream_closed

/-- An image binds a channel end (R244). -/
def bindChannel (b : ChanBind) (s : State) : State :=
  let d := b.die.val
  let ch := b.ch.toNat
  let rx := b.rx.toNat
  if moduleExists d b.m.val && decide (moduleKind d b.m.val ≠ 0) then
    matchChannel d b.m.val ch rx (s.setChan d b.m.val ch rx { link := some b.link, region := b.region.map (·.val) })
  else s

/-- CORUG_RESYNC: both FIFOs empty, both credit counts 0, and the link IDs are compared again (R248). -/
def execCorugResync (i : Init) (d : Die) (e : Fin 4) (k : Fin 8) (ch : Bool) (s : State) : Res :=
  run (corugOp 3 i d.val e.val (8 * e.val + k.val) ch.toNat
    (fun s => matchChannel d.val (8 * e.val + k.val) ch.toNat 0 (matchChannel d.val (8 * e.val + k.val) ch.toNat 1 s))) s

/-- A slot whose crc fails closes its channel in both directions, at both ends (R248). -/
def closeChannel (d m ch : Nat) (s : State) : State :=
  let s := (s.inc d (CORUG_M_ERR_crc m) 1).evt d CORUG_EVT_stream_closed
  let s := s.when (decide (s.chanState d m ch 1 = chOpen)) (presentEos d m ch)
  let shut (d m rx : Nat) (s : State) : State := if s.chanState d m ch rx = chOpen then setChanState d m ch rx chClosed s else s
  let s := shut d m 0 (shut d m 1 s)
  match moduleFar d m with
  | some (f, n) =>
    let s := s.when (decide (s.chanState f n ch 1 = chOpen)) (presentEos f n ch)
    shut f n 0 (shut f n 1 s)
  | none => s

/-- The words that the region takes leave the FIFO of a receive end (R246). -/
def takeWords (n d m ch : Nat) (s : State) : State :=
  match n with
  | 0 => s
  | n + 1 =>
    let x := s.chan d m ch 1
    match x.fifo with
    | [] => s
    | w :: t => takeWords n d m ch ((s.setChan d m ch 1 { x with fifo := t, taken := (x.taken + 1) % 64, atLast := w.getLsbD 272 }).emit
        (.stream d m ch w))

/-- STREAM_SLOT: die d receives a slot of channel `ch` of module m; the receiving end has taken `took` words since the last
slot (R245, R246, R248). -/
def streamSlot (d m ch : Nat) (raw : Nat) (took : Nat) (s : State) : State :=
  if !s.live d || !moduleExists d m || decide (moduleKind d m = 0) || decide (s.chanState d m ch 1 ≠ chOpen) then s
  else if crc8 (bytesOf 35 (raw % 2 ^ 280)) ≠ nbits raw 280 8 then closeChannel d m ch s
  else
    let runs := match (s.chan d m ch 1).region with
      | some i => decide (s.regionState d i = 5)
      | none => true
    let s := if runs then takeWords took d m ch s else s
    let s := s.setChan d m ch 0 { s.chan d m ch 0 with acked := nbits raw 274 6 }
    let x := s.chan d m ch 1
    if !nbit raw 273 then s
    else if 48 ≤ x.fifo.length then (s.inc d (CORUG_M_SDROP_value m) 1).evt d CORUG_EVT_stream_drop
    else
      let w := BitVec.ofNat 273 (raw % 2 ^ 273)
      s.setChan d m ch 1 { x with fifo := x.fifo ++ [w], taken := if runs then x.taken else (x.taken + 1) % 64 }

/-- STREAM_SLOT (R245). -/
def execStreamSlot (d : Die) (m : Fin 32) (ch : Bool) (raw : BitVec 288) (took : Nat) (s : State) : Res :=
  run (streamSlot d.val m.val ch.toNat raw.toNat took) s

/-! ### Tunnel frames (R242, R243, R616) -/

/-- TUNNEL_FRAME: die d receives a frame on tunnel module m. -/
def tunnelFrame (d m : Nat) (raw : Nat) (s : State) : State :=
  if !s.live d || !moduleExists d m || decide (moduleKind d m ≠ 0) then s
  else
    let e := m / 8
    let good := decide (crc16 (bytesOf 6 (nbits raw 1848 48)) = nbits raw 1896 16)
    let ty := nbits raw 1888 8
    let s := if good then s else (s.inc d (CORUG_M_ERR_crc m) 1).evt d CORUG_EVT_ctl_crc
    let s := s.when (good && decide (ty = 0) && KMap.look s.corug.born (d * 4 + e) && s.on d (CORUG_EDGE_trained e)) (unfenceEdge d e)
    if s.on d (CORUG_EDGE_fenced e) then s
    else
      let s := s.each [0, 1, 2] (fun s i =>
        let f := nbits raw (616 * i) 616
        if nbits f 512 2 = 0 then s else s.emit (.tunnel d m i (BitVec.ofNat 616 f)))
      if !good then s
      else
        let s := { s with corug := { s.corug with credit := KMap.put s.corug.credit (d * 32 + m) (BitVec.ofNat 32 (nbits raw 1848 32)) } }
        if ty = 1 then fenceEdge d e 1 s else s

/-- TUNNEL_FRAME (R242). -/
def execTunnelFrame (d : Die) (m : Fin 32) (raw : BitVec 2048) (s : State) : Res := run (tunnelFrame d.val m.val raw.toNat) s

/-! ### Spare wires and training (R249 to R251) -/

/-- The skipped wires of a map register: b1 in [6:0], b2 in [14:8], 0x7F none (R250). -/
def mapWires (w : Word) : List Nat := [bitsOf w 0 7, bitsOf w 8 7].filter (fun b => decide (b ≠ 0x7F))

/-- The map register of skipped wires, in rising order. -/
def wiresMap (l : List Nat) : Word :=
  match l with
  | [] => 0x7F7F
  | [a] => BitVec.ofNat 32 (a + 0x7F * 256)
  | a :: b :: _ => BitVec.ofNat 32 (min a b + max a b * 256)

/-- The map register of a direction of module m. -/
def mapReg (m : Nat) (rx : Bool) : Nat := if rx then CORUG_M_RXMAP m else CORUG_M_TXMAP m

/-- The skipped wires of a direction. -/
def State.wires (s : State) (d m : Nat) (rx : Bool) : List Nat := mapWires (s.rd d (mapReg m rx))

/-- Count the modules of a die with no spare left in some direction in `SPARE_POOL.corug_out`. -/
def corugOut (d : Nat) (s : State) : State :=
  let full (m : Nat) : Bool := moduleExists d m && (decide ((s.wires d m true).length = 2) || decide ((s.wires d m false).length = 2))
  s.setF d SPARE_POOL_corug_out ((List.range 32).filter full).length

/-- A physical wire of one direction of a module of die d is skipped: the map and the spares used (R250, R521). -/
def skipEnd (wire : Nat) (d m : Nat) (rx : Bool) (s : State) : State :=
  let l := s.wires d m rx
  if l.contains wire ∨ 2 ≤ l.length then s
  else
    let s := s.wr d (mapReg m rx) (wiresMap (l ++ [wire]))
    corugOut d (s.setF d (if rx then CORUG_M_STAT_rx_spares m else CORUG_M_STAT_tx_spares m) (l.length + 1))

/-- A physical wire of one direction of a module is skipped, with the matching map at the far end (R250, R521). -/
def skipWire (d m : Nat) (rx : Bool) (wire : Nat) (s : State) : State :=
  match moduleFar d m with
  | some (f, n) => skipEnd wire f n (!rx) (skipEnd wire d m rx s)
  | none => s

/-- The body of a wear-map entry for a Corug wire (R521). -/
def corugBody (d m : Nat) (rx : Bool) (wire : Nat) : BitVec 128 :=
  BitVec.ofNat 128 (4 + d * 2 ^ 8 + m * 2 ^ 16 + rx.toNat * 2 ^ 24 + wire * 2 ^ 32)

/-- An entry joins the wear map's write queue: one being written and 16 that wait (R524). -/
def wearPush (b : BitVec 128) (s : State) : State :=
  if 17 ≤ s.err.queue.length then s
  else wearShow { s with err := { s.err with queue := s.err.queue ++ [b] } }

/-- Training's result for the receive direction of a module: new failing wires are skipped while spares remain and recorded in the wear map
(R249, R250). -/
def sweepModule (d e : Nat) (w : WireSweep) (s : State) : State :=
  let m := 8 * e + w.k.val
  if !moduleExists d m then s
  else
    let s := s.each (w.bad.map (·.val)) (fun s b =>
      let l := s.wires d m true
      if l.contains b ∨ 2 ≤ l.length then s
      else
        let s := skipWire d m true b s
        if l = s.wires d m true then s else wearPush (corugBody d m true b) s)
    s.setFs d [(CORUG_M_MARGIN_margin m, w.margin.val), (CORUG_M_MARGIN_wire m, w.wire.val)]

/-- Every failing wire of the sweeps of a die's edge is skipped: the direction had spares for them (R249). -/
def State.sweepOk (s : State) (d e : Nat) (l : List WireSweep) : Bool :=
  l.all (fun w => w.bad.all (fun b => (s.wires d (8 * e + w.k.val) true).contains b.val))

/-- The sweeps of both dies of an edge are applied; the edge passes or fails (R249). -/
def trainApply (d e : Nat) (near far : List WireSweep) (s : State) : State :=
  match edgeFar d e with
  | none => s
  | some f =>
    let b := edgeBack d e
    let s := s.each near (fun s w => sweepModule d e w s)
    let s := s.each far (fun s w => sweepModule f b w s)
    let ok := s.sweepOk d e near && s.sweepOk f b far
    let s := (s.setB d (CORUG_EDGE_trained e) ok).setB f (CORUG_EDGE_trained b) ok
    let s := s.each (List.range 8) (fun s k =>
      let s := s.when (moduleExists d (8 * e + k)) (fun s => s.setB d (CORUG_M_STAT_trained (8 * e + k)) ok)
      s.when (moduleExists f (8 * b + k)) (fun s => s.setB f (CORUG_M_STAT_trained (8 * b + k)) ok))
    if ok then s else (s.evt d CORUG_EVT_train_fail).evt f CORUG_EVT_train_fail

/-- CORUG_TRAIN_DONE: a training that an operation started, or the training of step S8, ends on edge e of die d. -/
def trainDone (d e : Nat) (near far : List WireSweep) (s : State) : State :=
  if KMap.look s.corug.train d = e + 1 then
    let s := { s with corug := { s.corug with train := KMap.put s.corug.train d 0 } }
    let s := (trainApply d e near far s).setF d CORUG_CMDSTAT_busy 0
    s.setF d CORUG_CMDSTAT_reason (if s.on d (CORUG_EDGE_trained e) then 0 else 6)
  else if s.on 0 JOURNAL_STAT_running && decide (s.f 0 JOURNAL_STAT_step = 8) && s.live d then trainApply d e near far s
  else s

/-- CORUG_TRAIN_DONE (R249). -/
def execCorugTrainDone (d : Die) (e : Fin 4) (near far : List WireSweep) (s : State) : Res := run (trainDone d.val e.val near far) s

/-- CORUG_MARGIN_LOW (R251). -/
def marginLow (d m wire margin : Nat) (s : State) : State :=
  if !s.live d || !moduleExists d m then s
  else (s.setFs d [(CORUG_M_MARGIN_margin m, margin), (CORUG_M_MARGIN_wire m, wire)]).evt d CORUG_EVT_margin_low

/-- CORUG_MARGIN_LOW (R251). -/
def execCorugMarginLow (d : Die) (m : Fin 32) (wire : Fin 66) (margin : Fin 64) (s : State) : Res :=
  run (marginLow d.val m.val wire.val margin.val) s

/-- A spare-wire swap starts on both ends of a module (R251). -/
def swapStart (d m : Nat) (s : State) : State :=
  let mark (d m : Nat) (s : State) : State :=
    { s with corug := { s.corug with swap := KMap.put s.corug.swap (d * 32 + m) true } }
  match moduleFar d m with
  | some (f, n) => mark f n (mark d m s)
  | none => s

/-- CORUG_SWAP_DONE: the swap of module m ends at both ends (R251). -/
def swapDone (d m : Nat) (s : State) : State :=
  let one (d m : Nat) (s : State) : State :=
    if KMap.look s.corug.swap (d * 32 + m) then
      ({ s with corug := { s.corug with swap := KMap.put s.corug.swap (d * 32 + m) false } }).evt d CORUG_EVT_swap_done
    else s
  match moduleFar d m with
  | some (f, n) => one f n (one d m s)
  | none => s

/-- CORUG_SWAP_DONE (R251). -/
def execCorugSwapDone (d : Die) (m : Fin 32) (s : State) : Res := run (swapDone d.val m.val) s

end Sys2Proof.Machine
end

