-- ==== Sys2Proof/Machine/Flash.lean ====
section
/-! DEFINITION. The bytes of the flashes (R421, R422): the journal (R453, R454) and the wear map (R523) are held as what they say, and
read as the bytes of their layouts. -/

namespace Sys2Proof.Machine

/-- The bytes 0 to 27 of a record (R454). -/
def JRec.body (x : JRec) : List Nat :=
  let mid :=
    if x.kind = 1 then bytesOf 6 x.value ++ List.replicate 14 0
    else bytesOf 9 x.ts ++ bytesOf 3 x.detail ++ bytesOf 4 (min x.delay 0xFFFFFFFF) ++ List.replicate 4 0
  bytesOf 4 x.start ++ [x.step % 16 + 16 * (x.kind % 4), min x.attempt 255, x.outcome, x.variant] ++ mid

/-- The 32 bytes of a record, with its CRC (R454). -/
def JRec.bytes (x : JRec) : List Nat := x.body ++ bytesOf 4 (crc32c x.body)

/-- Word n of a record (`JOURNAL_RWn`). -/
def JRec.word (x : JRec) (n : Nat) : Word := BitVec.ofNat 32 (ofBytes ((x.bytes.drop (4 * n)).take 4))

/-- The 32 bytes of a sector header (R453). -/
def sectorHeader (erases seq : Nat) : List Nat :=
  let b := [0x4F, 0x56, 0x4A, 0x53] ++ bytesOf 4 erases ++ bytesOf 4 seq ++ List.replicate 16 0
  b ++ bytesOf 4 (crc32c b)

/-- Sector k of the journal. -/
def State.sector (s : State) (k : Nat) : Sector := KMap.look s.nv.jour k

/-- Byte o of journal sector k: erased flash reads 0xFF; a record whose CRC fails takes a free byte (assumption 2). -/
def State.journalByte (s : State) (k o : Nat) : Byte :=
  let x := s.sector k
  if o < 32 then
    match x.hdr with
    | some (e, q) => BitVec.ofNat 8 ((sectorHeader e q).getD o 0)
    | none => 0xFF
  else
    match x.recs[o / 32 - 1]? with
    | some (some r) => BitVec.ofNat 8 (r.bytes.getD (o % 32) 0)
    | some none => (Config.free (0x100000000 + k * 0x10000 + o)).setWidth 8
    | none => 0xFF

/-- The bytes of a wear-map copy up to its last entry (R523). -/
def WearCopy.head (x : WearCopy) : List Nat :=
  let es := x.entries.flatMap (fun e => bytesOf 16 e.toNat)
  let b := [0x4F, 0x56, 0x57, 0x4D] ++ bytesOf 4 x.seq ++ bytesOf 4 x.entries.length ++ bytesOf 4 (crc32c es) ++ List.replicate 12 0
  b ++ bytesOf 4 (crc32c b)

/-- Byte o of a wear-map copy. -/
def wearByte (x : Option WearCopy) (o : Nat) : Byte :=
  match x with
  | none => 0xFF
  | some c =>
    if o < 32 then BitVec.ofNat 8 (c.head.getD o 0)
    else match c.entries[o / 16 - 2]? with
      | some e => BitVec.ofNat 8 (nbits e.toNat (8 * (o % 16)) 8)
      | none => 0xFF

/-- A byte of a flash: 0xFF where erased or never programmed. -/
def State.flashByte (s : State) (flash : Bool) (a : Nat) : Byte :=
  if !flash ∧ 0x100000 ≤ a ∧ a < 0x500000 then s.journalByte (a / 0x10000 - 16) (a % 0x10000)
  else if 0x500000 ≤ a ∧ a < 0x520000 then wearByte (if flash then s.nv.wear1 else s.nv.wear0) (a - 0x500000)
  else KMap.lookD s.nv.flash (flash.toNat * 2 ^ 30 + a) 0xFF#8

end Sys2Proof.Machine
end

