-- ==== Sys2Proof/Machine/Loading.lean ====
section
/-! DEFINITION. Containers and loads (14): the header's checks, frames, segments, fills, aborts, staging, and the flash
transfers of the NVM page. -/

namespace Sys2Proof.Machine

/-! ### The header as bytes (R411 to R414) -/

/-- n zero bytes. -/
def zeros (n : Nat) : List Nat := List.replicate n 0

/-- The bytes of a segment table entry (R414). -/
def Seg.bytes (x : Seg) : List Nat :=
  [x.ty.toNat, x.die.toNat, x.region.toNat, x.flags.toNat] ++ bytesOf 4 x.off.toNat ++ bytesOf 4 x.len.toNat ++
  bytesOf 12 x.nonce.toNat ++ bytesOf 4 x.design.toNat ++ zeros 4 ++ bytesOf 48 x.digest.toNat ++ zeros 16

/-- The bytes 64 to 4,095 of a header (R413, R473). -/
def HdrArea.bytes (a : HdrArea) : List Nat :=
  let l := match a with
    | .none => []
    | .device x =>
      (x.compat.flatMap fun e => [e.1.toNat, e.2.toNat]) ++ [x.role.toNat, x.idMode.toNat] ++ bytesOf 2 x.fixedId.toNat ++
      bytesOf 2 x.h.toNat ++ [x.persSrc.toNat, x.nvmMhz.toNat] ++ bytesOf 8 x.pcieIds.toNat ++ bytesOf 4 x.classRev.toNat ++
      bytesOf 4 x.deadline.toNat ++ (x.allow.flatMap fun e => bytesOf 16 e.toNat) ++
      [x.ddrGrade.toNat, x.ddrReq.toNat, x.upstream.toNat, 0] ++
      (x.sets.flatMap fun e => bytesOf 4 e.1.toNat ++ bytesOf 4 e.2.1.toNat ++ bytesOf 4 e.2.2.toNat ++ zeros 4) ++
      (x.parts.flatMap fun e => [e.ctype.toNat, e.copyB.toNat, 0, 0] ++ bytesOf 4 e.addr.toNat ++ bytesOf 4 e.size.toNat ++ zeros 4)
    | .shell h => [h.toNat]
    | .hawkmoth v e n => bytesOf 4 v.toNat ++ bytesOf 4 e.toNat ++ bytesOf 2 n.toNat
    | .skipper v c => bytesOf 4 v.toNat ++ (c.flatMap fun e => [e.1.toNat, 0] ++ bytesOf 2 e.2.toNat)
  l ++ zeros (4032 - l.length)

/-- Bytes 0 to 28,799 of a header, which its digest covers (R411, R412). -/
def Header.bytes (h : Header) : List Nat :=
  bytesOf 4 h.magic.toNat ++ bytesOf 2 h.version.toNat ++ [h.ctype.toNat, h.flags.toNat] ++ bytesOf 2 h.part.toNat ++
  bytesOf 2 h.dieMap.toNat ++ [h.minFab.toNat, h.minIo.toNat] ++ bytesOf 2 h.count.toNat ++ bytesOf 8 h.uid.toNat ++
  bytesOf 4 h.design.toNat ++ bytesOf 4 h.length.toNat ++ zeros 32 ++ h.area.bytes ++
  (h.segs.flatMap Seg.bytes ++ zeros (24576 - 96 * h.segs.length)) ++ bytesOf 97 h.key.toNat ++ zeros 31

/-- Bytes as they go into the published functions. -/
def toBytes (l : List Nat) : List Byte := l.map (BitVec.ofNat 8)

/-- The header digest (R412; SHA-384 uninterpreted, assumption 8). -/
def Header.digest (h : Header) : BitVec 384 := Config.sha384 (toBytes h.bytes)

/-- The device header area of a header. -/
def Header.dev (h : Header) : Option DevHdr := match h.area with | .device x => some x | _ => none

/-! ### The checks of R419 -/

/-- The segment table check of reason 8 (R414, R417, R419, R423, R426, R473, R617); `room` is the partition or the limit that
the container must fit in. -/
def segsOk (h : Header) (room : Nat) (imageKey : Bool) : Bool :=
  let t := h.ctype.toNat
  let ok1 (x : Seg) : Bool :=
    let ty := x.ty.toNat
    h.dieMap.getLsbD x.die.toNat && decide (x.die.toNat < 10) && decide (x.off.toNat % 64 = 0) &&
    decide (x.off.toNat + x.len.toNat ≤ h.length.toNat) &&
    (if ty = 1 then decide (2 ≤ x.die.toNat) && decide (x.region.toNat < 24) else x.region == 0xFF#8) &&
    (!x.flags.getLsbD 0 || imageKey) &&
    (match t with
      | 2 | 3 => decide (ty = 4) && decide (x.die = 0)
      | 4 => decide (ty = 1 ∨ ty = 3)
      | 5 => decide (ty = 1 ∨ ty = 2 ∨ ty = 3)
      | 6 => decide (ty = 1 ∨ ty = 2)
      | _ => false)
  let offs := h.segs.map (fun x => (x.off.toNat, x.len.toNat))
  let rec order (p : Nat) (l : List (Nat × Nat)) : Bool :=
    match l with
    | [] => true
    | (o, n) :: r => decide (p ≤ o) && order (o + n) r
  let frames := (h.segs.filter (fun x => x.ty == 1#8)).map (fun x => (x.die, x.region))
  let tables := (h.segs.filter (fun x => x.ty == 2#8)).map (fun x => x.die)
  decide (h.segs.length = h.count.toNat) && decide (h.length.toNat ≤ room) &&
  (if t = 1 then decide (h.count = 0) else decide (1 ≤ h.count.toNat) && decide (h.count.toNat ≤ 256)) &&
  (if t = 2 then decide (h.count = 1) && h.segs.all (fun x => decide (x.len.toNat ≤ 262144)) else true) &&
  (if t = 3 then h.segs.all (fun x => decide (x.len.toNat ≤ 65536)) else true) &&
  (match h.area with | .hawkmoth _ _ n => decide (n ≠ 0) | _ => true) &&
  h.segs.all ok1 && order 32768 offs && decide frames.Nodup && decide tables.Nodup

/-- The permitted regions of a container (R420, R95). -/
def regionsOk (h : Header) (s : State) : Bool :=
  let frames := h.segs.filter (fun x => x.ty == 1#8)
  let st (x : Seg) : Nat := s.regionState x.die.toNat x.region.toNat
  match h.ctype.toNat with
  | 4 => frames.all (fun x => decide (x.die.toNat ≤ 5) && decide (x.region.toNat < 4)) &&
    (match h.area with
      | .shell r => frames.any (fun x => decide (devRegion x.die.toNat x.region.toNat = r.toNat) && x.flags.getLsbD 1)
      | _ => false)
  | 5 => frames.all (fun x => s.f x.die.toNat (REGIONS_STATE_shell x.region.toNat) == 0)
  | 6 => frames.all (fun x => s.f x.die.toNat (REGIONS_STATE_shell x.region.toNat) == 0 &&
      !(decide (1 ≤ st x) && decide (st x ≤ 4)))
  | _ => true

/-- The device header's own fields (reason 11, R419). -/
def devHdrOk (x : DevHdr) : Bool :=
  decide (x.role.toNat ≤ 1) && decide (x.idMode.toNat ≤ 1) && decide (x.persSrc.toNat ≤ 1) &&
  decide (x.fixedId.toNat < 16384) && decide (x.h ≠ 0) && decide (x.upstream.toNat ≤ 8) &&
  !(decide (x.upstream = 8) && decide (x.idMode = 1))

/-- The partition of the accepted device header for a container type and copy (R423). -/
def State.partition (s : State) (ctype copy : Nat) : Option Part :=
  match s.start.hdr with
  | some x => x.parts.find? (fun p => decide (p.ctype.toNat = ctype) && decide (p.copyB.toNat = copy))
  | none => none

/-- How long a container of a load may be, and whether its source has it at all: a partition for the flash copies, 8 MiB for
the shell (R423, R426), the 1 MiB of a device header (R422). -/
def State.loadRoom (s : State) (l : Load) : Option Nat :=
  if l.kind = 1 then some 0x100000
  else if l.src < 2 then
    match s.partition l.kind l.src with
    | some p => some (if l.kind = 4 then min p.size.toNat 0x800000 else p.size.toNat)
    | none => none
  else some (2 ^ 32 - 1)

/-- The reason that rejects a container, 0 when it is accepted (R419). -/
def hdrReason (l : Load) (h : Header) (s : State) : Nat :=
  match s.loadRoom l with
  | none => 1
  | some room =>
    if h.magic ≠ 0x4D49564F ∨ h.version ≠ 1 then 1
    else if h.ctype.toNat ≠ l.kind then 2
    else if h.part ≠ 0x7160 then 3
    else if s.fuses.rootHash ≠ some (Config.sha384 (toBytes (bytesOf 97 h.key.toNat))) then 4
    else if !Config.ecdsaHolds h.key h.digest h.sig then 5
    else if s.f 0 SYS_S4RES_fab < h.minFab.toNat ∨ s.f 0 SYS_S4RES_io < h.minIo.toNat then 6
    else if h.flags.getLsbD 0 ∧ h.uid ≠ s.fuses.uid 0 then 7
    else if !segsOk h room s.fuses.imageKey.isSome then 8
    else if !regionsOk h s then 9
    else if (match l.digest with | some x => decide (x ≠ h.digest) | none => false) then 10
    else if (match h.dev with | some x => !devHdrOk x | none => decide (l.kind = 1)) then 11
    else if h.segs.any (fun x => s.dieFenced x.die.toNat) then 12
    else 0

/-! ### The load in progress -/

/-- The regions that a load's frame segments name (R433): die and local index. -/
def Load.regions (l : Load) : List (Nat × Nat) :=
  match l.hdr with
  | some h => (h.segs.filter (fun x => x.ty == 1#8)).map (fun x => (x.die.toNat, x.region.toNat))
  | none => []

/-- The local regions of a load on one die. -/
def Load.regionsOn (l : Load) (d : Nat) : List Nat := (l.regions.filter (fun x => x.1 == d)).map (·.2)

/-- The dies that a load's segments name. -/
def Load.dies (l : Load) : List Nat :=
  match l.hdr with
  | some h => (h.segs.map (fun x => x.die.toNat)).eraseDups
  | none => []

/-- Segment k of the load's container. -/
def Load.seg (l : Load) (k : Nat) : Option Seg :=
  match l.hdr with
  | some h => h.segs[k]?
  | none => none

/-- Replace the load in progress. -/
def State.setLoad (s : State) (l : Option Load) : State := { s with fab := { s.fab with load := l } }

/-- Open staging (R431). -/
def openStaging (s : State) : State :=
  let s := { s with fab := { s.fab with staged := 0 } }
  s.setFs 0 [(CFG_STG_STAT_open, 1), (CFG_STG_STAT_free0, 1), (CFG_STG_STAT_free1, 1)]

/-- Close staging (R431). -/
def closeStaging (s : State) : State :=
  s.setFs 0 [(CFG_STG_STAT_open, 0), (CFG_STG_STAT_free0, 1), (CFG_STG_STAT_free1, 1)]

/-- The load in progress ends. -/
def endLoad (s : State) : State := closeStaging ((s.setLoad none).setF 0 CFG_STAT_busy 0)

/-- A container is rejected before anything is written (R419); the start step that runs keeps the reason for its record. -/
def rejectLoad (reason : Nat) (s : State) : State :=
  endLoad (({ s with start := { s.start with reject := reason } }.setF 0 CFG_STAT_reject reason).evt 0 CFG_EVT_rejected)

/-- A load starts (R425, R433, R435): its source is read from now on; host staging opens once S12 has begun (R431). A container that the
accepted device header has no partition for is rejected with reason 1, nothing read (R423). -/
def beginLoad (l : Load) (s : State) : State :=
  let s := { s with start := { s.start with reject := 0, abort := 0 } }
  let s := (s.setLoad (some l)).setFs 0 [(CFG_STAT_busy, 1), (CFG_STAT_src, l.src)]
  let s := s.wr 0 CFG_PROGRESS 0
  if (s.loadRoom l).isNone then rejectLoad 1 s else s.when (decide (l.src = 2) && s.start.s12) openStaging

/-- A load aborts (R103, R434): a region still draining ends its drain, every region of the load enters FAILED unless its die
is fenced or in reset, and a region that was only being cleared enters UNLOADED. -/
def abortLoad (reason : Nat) (s : State) : State :=
  match s.fab.load with
  | none => s
  | some l =>
    let s := s.each l.regions (fun s x =>
      if s.dieFenced x.1 then s
      else
        let s := if s.regionState x.1 x.2 = 1 then cutDrain x.1 x.2 s else s
        ((failRegion x.1 x.2 s).setF x.1 (REGIONS_ABORT_reason x.2) reason).evt x.1 REGIONS_EVT_load_abort)
    let s := s.each l.clear (fun s r =>
      let d := regionDie r
      let i := regionLocal r
      if s.dieFenced d || decide (s.regionState d i ≠ 1) then s else unloadRegion d i (cutDrain d i s))
    endLoad (({ s with start := { s.start with abort := reason } }.setF 0 CFG_STAT_abort reason).evt 0 CFG_EVT_aborted)

/-- A die that the load's header names is fenced after the header has verified (R434, reason 5). -/
def loadDieLost (d : Nat) (s : State) : State :=
  match s.fab.load with
  | some l => if l.dies.contains d then abortLoad 5 s else s
  | none => s

/-- A region leaves DRAINING at step 3 of R100: into LOADING with its new image, or into UNLOADED when it is only cleared;
once no region of the load drains on the die, pending shifts apply (step 4). -/
def leaveDrain (d i : Nat) (s : State) : State :=
  match s.fab.load with
  | none => s
  | some l =>
    let s :=
      match l.hdr with
      | none => s
      | some h =>
        match h.segs.find? (fun x => x.ty == 1#8 && decide (x.die.toNat = d) && decide (x.region.toNat = i)) with
        | some x => enterLoading d i (x.flags.getLsbD 1) (decide (l.kind = 4)) x.design s
        | none => unloadRegion d i s
    let rs := l.regionsOn d
    if rs.all (fun j => decide (s.regionState d j ≠ 1)) then applyShifts d rs s else s

/-- Steps 1 to 3 of R100 for the regions of a load whose header has been accepted, with the regions that a LOAD_PERSONALITY
clears (R433). -/
def takeRegions (s : State) : State :=
  match s.fab.load with
  | none => s
  | some l =>
    let go (s : State) (d i : Nat) : State :=
      if s.regionState d i = 5 then setRegion d i 1 s else leaveDrain d i s
    let s := s.each l.regions (fun s x => go s x.1 x.2)
    s.each l.clear (fun s r => go s (regionDie r) (regionLocal r))

/-- The device regions that a personality load after start clears: every non-shell region it does not name (R433). -/
def State.clearList (s : State) (h : Header) : List Nat :=
  (List.range 192).filter (fun r =>
    let d := regionDie r
    let i := regionLocal r
    decide (s.f d (REGIONS_STATE_shell i) = 0) && !s.dieFenced d && decide (s.regionState d i ≠ 0) &&
    !h.segs.any (fun x => x.ty == 1#8 && decide (x.die.toNat = d) && decide (x.region.toNat = i)))

/-- The words of `CFG_LOADSET_0` to `_5` for a set of device regions. -/
def setLoadset (rs : List Nat) (s : State) : State :=
  s.each [0, 1, 2, 3, 4, 5] (fun s k =>
    s.wr 0 (CFG_LOADSET k) (BitVec.ofNat 32 (rs.foldl (fun a r => if r / 32 = k then a ||| 2 ^ (r % 32) else a) 0)))

/-- A copy of the device header fails at S5, with its reject reason, or 0xF where its flash does not answer: copy 1 is read after copy 0
(R424, R438, R455). -/
def headerCopyFails (reason : Nat) (s : State) : State :=
  match s.fab.load with
  | none => s
  | some l =>
    let s := if reason = 0xF then endLoad s else rejectLoad reason s
    if l.src = 0 then
      beginLoad { kind := 1, src := 1, addr := 0, digest := none } { s with start := { s.start with rej0 := reason } }
    else { s with start := { s.start with rej1 := reason } }

/-- CONTAINER_HEADER_CHECK: the loader has read the header whole and checks it (R419, R423); accepted, the regions of the load
take steps 1 to 3 of R100. -/
def headerCheck (h : Header) (s : State) : State :=
  match s.fab.load with
  | none => s
  | some l =>
    if l.hdr.isSome then s
    else
      let r := hdrReason l h s
      if r ≠ 0 ∧ l.kind = 1 then headerCopyFails r s
      else if r ≠ 0 then rejectLoad r s
      else if l.kind = 1 then
        endLoad { s with start := { s.start with hdr := h.dev, hdrHeader := some h, hdrCopy := l.src + 1 } }
      else
        let clear := if l.kind = 5 ∧ s.start.released then s.clearList h else []
        let s := s.setLoad (some { l with hdr := some h, phase := 1, clear := clear })
        let s := s.wr 0 CFG_TOTAL h.length
        let rs := h.segs.filter (fun x => x.ty == 1#8)
        let s := setLoadset (rs.map (fun x => devRegion x.die.toNat x.region.toNat)) s
        takeRegions (s.wr 0 CFG_PROGRESS 32768)

/-- CONTAINER_HEADER_CHECK (R419). -/
def execContainerHeaderCheck (h : Header) (s : State) : Res := run (headerCheck h) s

/-! ### Drain (R100, R101) -/

/-- The logic of a region answers a request it had accepted: a status, or the lines of a read. -/
def answerLogic (h : Hdr) (a : Byte × List Line) (s : State) : State :=
  if a.1 ≠ 0 then answerError h a.1.toNat s else if h.opcode = 1 then answerAck h s else answerData h a.2 s

/-- REGION_DRAIN_IDLE: the endpoint of a draining region has completed its outstanding requests with `answers`, in order;
the region goes on to step 3 (R100). -/
def drainIdle (r : Fin 192) (answers : List (Byte × List Line)) (s : State) : State :=
  let d := regionDie r.val
  let i := regionLocal r.val
  let l := s.regionWaiting d i
  if s.regionState d i ≠ 1 ∨ l.length ≠ answers.length then s
  else
    let s := s.each (l.zip answers) (fun s x => answerLogic x.1 x.2 s)
    leaveDrain d i (dropWaiting d i s)

/-- REGION_DRAIN_IDLE (R100). -/
def execRegionDrainIdle (r : Fin 192) (answers : List (Byte × List Line)) (s : State) : Res := run (drainIdle r answers) s

/-- REGION_DRAIN_TIMEOUT: 4,096 endpoint cycles have passed (R101). -/
def drainTimeout (r : Fin 192) (s : State) : State :=
  let d := regionDie r.val
  let i := regionLocal r.val
  if s.regionState d i ≠ 1 then s else leaveDrain d i (cutDrain d i s)

/-- REGION_DRAIN_TIMEOUT (R101). -/
def execRegionDrainTimeout (r : Fin 192) (s : State) : Res := run (drainTimeout r) s

/-! ### Frames and segments (R415 to R418) -/

/-- The check of a frame record: CRC-32C over its address and its 512 data bytes (R416). -/
def frameCrc (addr : Word) (data : BitVec 4096) : Word :=
  BitVec.ofNat 32 (crc32c (bytesOf 4 addr.toNat ++ bytesOf 512 data.toNat))

/-- FRAME_RECORD: the engine of the segment's die takes a frame record of segment k (R112, R416). -/
def frameRecord (k : Nat) (addr : Word) (data : BitVec 4096) (crc : Word) (s : State) : State :=
  match s.fab.load with
  | none => s
  | some l =>
    match l.seg k with
    | none => s
    | some x =>
      let d := x.die.toNat
      let i := x.region.toNat
      if x.ty ≠ 1 ∨ l.done.contains k ∨ s.regionState d i ≠ 2 ∨ !KMap.look s.fab.engReady d ∨ s.dieFenced d then s
      else if crc ≠ frameCrc addr data ∨ nbits addr.toNat 16 5 ≠ i then
        abortLoad 1 (s.inc d CFG_ENG_FERR_count 1)
      else
        let col := s.physColumn d (nbits addr.toNat 0 8)
        let t := KMap.put s.fab.frame (frameKey d i col (nbits addr.toNat 8 8)) data
        let s := { s with fab := { s.fab with frame := t } }
        let s := (s.inc d CFG_ENG_FRAMES_count 1).setFs d [(CFG_ENG_STAT_busy, 1), (CFG_ENG_STAT_region, i)]
        s.inc 0 CFG_PROGRESS_value 520

/-- FRAME_RECORD (R416). -/
def execFrameRecord (k : Nat) (addr : Word) (data : BitVec 4096) (crc : Word) (s : State) : Res :=
  run (frameRecord k addr data crc) s

/-- The 4-byte words of a byte string. -/
def wordsOf (l : List Nat) : List Nat :=
  match l with
  | a :: b :: c :: d :: t => (a + 256 * b + 65536 * c + 16777216 * d) :: wordsOf t
  | _ => []

/-- The entries of a settings segment: pairs of words (R418). -/
def pairsOf (l : List Nat) : List (Nat × Nat) :=
  match l with
  | a :: b :: t => (a, b) :: pairsOf t
  | _ => []

/-- The four-word entries of a reservation table (R212), least significant word first. -/
def quadsOf (l : List Nat) : List Nat :=
  match l with
  | a :: b :: c :: d :: t => (a + 2 ^ 32 * b + 2 ^ 64 * c + 2 ^ 96 * d) :: quadsOf t
  | _ => []

/-- Write a reservation table into a bank of a die: header words P, Q and CRC, then the entries (R417). -/
def writeBank (d bank : Nat) (words : List Nat) (s : State) : State :=
  match words with
  | p :: q :: crc :: rest =>
    let es := (quadsOf rest).zipIdx
    let base := (d * 2 + bank) * 4096
    let tbl := es.foldl (fun m e => KMap.put m (base + e.2) (BitVec.ofNat 128 e.1)) (KMap.dropRange s.sch.entry base (base + 4096))
    { s with sch := { s.sch with entry := tbl, hdr := KMap.put s.sch.hdr (d * 2 + bank) (p, q, crc) } }
  | _ => s

/-- The shadow bank of a die (R211). -/
def State.shadowBank (s : State) (d : Nat) : Nat := 1 - KMap.look s.sch.active d

/-- The plaintext of a segment's stored bytes, none when its digest or its tag fails (R415). -/
def segPlain (x : Seg) (stored : List Byte) (s : State) : Option (List Nat) :=
  if Config.sha384 stored ≠ x.digest then none
  else if x.flags.getLsbD 0 then
    match s.fuses.imageKey with
    | some k => (Config.gcmOpen k x.nonce (toBytes (x.bytes.take 32)) stored).map (fun l => l.map (·.toNat))
    | none => none
  else some (stored.map (·.toNat))

/-- Store code words in a core's instruction SRAM from offset 0 (R472, R474). -/
def storeCode (c : Nat) (words : List Nat) (s : State) : State :=
  let put (m : KMap Word) (e : Nat × Nat) : KMap Word := KMap.put m (c * 0x10000 + e.2) (BitVec.ofNat 32 e.1)
  let t := words.zipIdx.foldl put (KMap.dropRange s.core.isram (c * 0x10000) ((c + 1) * 0x10000))
  { s with core := { s.core with isram := t } }

/-- Every segment of the load has verified: its regions enter FILLING; the Skipper firmware follows the Hawkmoth's at S6, and ends the
load of firmware (R472). -/
def segmentsDone (l : Load) (s : State) : State :=
  if l.kind = 2 then
    let s := { s with start := { s.start with hawk := l.hdr, fwCopy := l.src } }
    beginLoad { kind := 3, src := l.src, addr := 0, digest := none } (endLoad s)
  else if l.kind = 3 then endLoad { s with start := { s.start with skip := l.hdr } }
  else
    let s := s.each l.regions (fun s x => setRegion x.1 x.2 3 s)
    let s := s.each l.dies (fun s d => s.setFs d [(CFG_ENG_STAT_busy, 0), (CFG_ENG_STAT_region, 0x1F)])
    s.setLoad (some { l with phase := 2 })

/-- The source of the load in progress ends before the container does: the load ends with abort reason 3, and
before the header has verified no region changes (R423, R434). -/
def sourceEnds (s : State) : State := abortLoad 3 s

/-- SEGMENT_VERIFY: the last byte of segment k has arrived, or the source has run out or failed before it (R415, R417, R418, R434). With no byte
while no header has arrived, the source has failed before the header. -/
def segmentVerify (k : Nat) (stored : List Byte) (s : State) : State :=
  match s.fab.load with
  | none => s
  | some l =>
    if l.hdr.isNone then (if stored.isEmpty && decide (l.kind ≠ 1) then sourceEnds s else s) else
    match l.seg k with
    | none => s
    | some x =>
      if l.done.contains k ∨ l.phase ≠ 1 then s
      else if stored.length < x.len.toNat then abortLoad 3 s
      else
        match segPlain x stored s with
        | none => abortLoad 2 s
        | some p =>
          let d := x.die.toNat
          let w := wordsOf p
          let s := if x.ty = 2 then writeBank d (if l.atS12 then 0 else s.shadowBank d) w s
            else if x.ty = 4 ∧ l.kind = 2 then storeCode 0 w s
            else s
          let settings := if x.ty = 3 then (pairsOf w).map (fun e => (d, e.1, BitVec.ofNat 32 e.2)) else []
          let l := { l with done := k :: l.done, settings := l.settings ++ settings }
          let s := (s.setLoad (some l)).wr 0 CFG_PROGRESS (x.off + x.len)
          let n := match l.hdr with | some h => h.segs.length | none => 0
          if l.done.length = n then segmentsDone l s else s

/-- SEGMENT_VERIFY (R415). -/
def execSegmentVerify (k : Nat) (stored : List Byte) (s : State) : Res := run (segmentVerify k stored) s

/-- A settings entry that names a register of the GPIO page of an I/O die: it takes the fields that software may write, as a claim where it
names a pin, a timer unit or a trigger line, and is skipped where that claim would be refused (R557, R560). -/
def gpioSetting (d r : Nat) (v : Word) (s : State) : State :=
  let j := (r - GPIO_P_CFG 0) / 8
  let l := (r - GPIO_TRIG_OWN 0) / 0x20
  let bad := s.evt 0 CFG_EVT_bad_setting
  if GPIO_P_CFG 0 ≤ r ∧ r = GPIO_P_CFG j ∧ j < pinCount d then
    (match pinCheck d j v s with
      | .accept => pinStore d j v s
      | _ => bad)
  else if d = 0 ∧ GPIO_TRIG_OWN 0 ≤ r ∧ l < 8 ∧ r = GPIO_TRIG_OWN l then
    if s.trigClaimBad l v then bad else trigOwnStore l v s
  else match regRow d r with
    | some x =>
      let m := BitVec.ofNat 32 x.rw
      if x.rw = 0 then bad else s.wr d r ((v &&& m) ||| (s.rd d r &&& ~~~m))
    | none => bad

/-- A PLL whose configuration a settings entry has written relocks before the load's release (R532). -/
def pllRelock (d r : Nat) (s : State) : State :=
  let k := (r - CLK_PLL_CFG 0) / 4 % 8
  if 2 ≤ d ∧ CLK_PLL_CFG 0 ≤ r ∧ r < CLK_PLL_CFG 16 then s.setF d ⟨CLK_PLL_LOCK, k, 1⟩ (s.f d (CLK_PLL_CFG_en k)) else s

/-- One settings entry: the image fields of the register it names take the value's bits; an entry that names a register without
one is skipped, and so is one of a fabric PLL that a region outside the load uses (`busy`: die and PLL; R418, R532). -/
def applySetting (busy : List (FabDie × Fin 8)) (e : Nat × Nat × Word) (s : State) : State :=
  if e.1 < 2 ∧ e.2.1 / 0x10000 = 4 then gpioSetting e.1 e.2.1 e.2.2 s
  else if busy.any (fun x => decide (x.1.val + 2 = e.1) && (decide (e.2.1 = CLK_PLL_CFG x.2.val) || decide (e.2.1 = CLK_PLL_DIV x.2.val))) then
    s.evt 0 CFG_EVT_bad_setting
  else match regRow e.1 e.2.1 with
    | some x =>
      if x.image = 0 then s.evt 0 CFG_EVT_bad_setting
      else
        let m := BitVec.ofNat 32 x.image
        let s := if e.1 = 0 ∧ e.2.1 / 0x10000 = 0x50 then
            { s with pcie := { s.pcie with image := KMap.put s.pcie.image e.2.1 (e.2.2 &&& m) } }
          else s
        pllRelock e.1 e.2.1 (s.wr e.1 e.2.1 ((e.2.2 &&& m) ||| (s.rd e.1 e.2.1 &&& ~~~m)))
    | none => s.evt 0 CFG_EVT_bad_setting

/-- REGION_FILL_DONE: the fill of the load's regions ends; they take the memory contents that the frames of initialized blocks
carried (`init`), the stream channel ends they bind (`binds`, R244) and settings, but for those of the fabric PLLs that running regions
outside the load use (`busy`), and wait for release; or a block failed at a word (R100, R165 to R167, R418, R532). -/
def regionFillDone (init : List (Blk × Nat × BitVec 64)) (binds : List ChanBind) (busy : List (FabDie × Fin 8)) (bad : Option (Blk × Nat)) (s : State) : State :=
  match s.fab.load with
  | none => s
  | some l =>
    if l.phase ≠ 2 then s
    else
      match bad with
      | some (b, w) => abortLoad 4 (memReport b 3 3 w 0x7F s)
      | none =>
        let s := s.each l.dies (fun s d => memFill d (l.regionsOn d) s)
        let s := s.each init (fun s e =>
          if (l.regionsOn e.1.di).contains e.1.region then s.setMemWord e.1 e.2.1 ⟨e.2.2, 0⟩ else s)
        let s := s.each binds (fun s b => bindChannel b s)
        let s := s.each l.regions (fun s x => setRegion x.1 x.2 4 s)
        let s := s.each l.settings (fun s e => applySetting busy e s)
        s.setLoad (some { l with phase := 3, settings := [] })

/-- REGION_FILL_DONE (R166). -/
def execRegionFillDone (init : List (Blk × Nat × BitVec 64)) (binds : List ChanBind) (busy : List (FabDie × Fin 8))
    (bad : Option (Blk × Nat)) (s : State) : Res :=
  run (regionFillDone init binds busy bad) s

/-! ### Load commands (R433, R435) -/

/-- The sources of the body of LOAD_PERSONALITY and LOAD_REGION: code, address, digest. A load that finds one running is
refused with detail 1 and sets `CFG_EVT.busy` (R435; the detail is DEDUCED, assumption 13). Answers the detail of a
refusal, 0 when the load starts. -/
def loadCommand (kind src : Nat) (addr : Nat) (digest : BitVec 384) (s : State) : State × Nat :=
  if s.fab.load.isSome then (s.evt 0 CFG_EVT_busy, 1)
  else (beginLoad { kind := kind, src := src, addr := addr, digest := some digest,
                    atS12 := kind = 5 ∧ !s.start.released } s, 0)

/-! ### Staging (R431) -/

/-- The initiators that may write the staging halves and `CFG_STG_CTRL` (R431). -/
def mayStage (i : Init) : Bool := isHost i || isHawkmoth i

/-- A staging write that is ignored (R431). -/
def stageRefuse (s : State) : State := s.evt 0 CFG_EVT_stg_refused

/-- The half's free flag. -/
def stgFree (half : Bool) : Fld := if half then CFG_STG_STAT_free1 else CFG_STG_STAT_free0

/-- A write of word k of a staging half (R431). -/
def stageWrite (i : Init) (half : Bool) (k : Nat) (v : Word) (s : State) : State :=
  if !mayStage i || !s.on 0 CFG_STG_STAT_open || !s.on 0 (stgFree half) then stageRefuse s
  else { s with fab := { s.fab with stage := KMap.put s.fab.stage (half.toNat * 4096 + k) v } }

/-- The loader has consumed the halves named: each is free again while staging is open (R431). -/
def freeHalves (freed0 freed1 : Bool) (s : State) : State :=
  if !s.on 0 CFG_STG_STAT_open then s
  else (s.when freed0 (fun s => s.setF 0 CFG_STG_STAT_free0 1)).when freed1 (fun s => s.setF 0 CFG_STG_STAT_free1 1)

/-- STAGING_PUSH: the half goes to the loader as the next `len` bytes of the container; the halves in `freed` have been
consumed since the last push (R431). -/
def stagingPush (i : Init) (half : Bool) (len : Nat) (freed0 freed1 : Bool) (s : State) : State :=
  let s := freeHalves freed0 freed1 s
  if !mayStage i || !s.on 0 CFG_STG_STAT_open || !s.on 0 (stgFree half) || len = 0 || decide (16384 < len) then stageRefuse s
  else
    let n := s.fab.staged + len
    let s := ({ s with fab := { s.fab with staged := n } }).setF 0 (stgFree half) 0
    match s.fab.load with
    | some l => if l.hdr.isSome && decide (s.f 0 CFG_TOTAL_value ≤ n) then closeStaging s else s
    | none => s

/-- STAGING_PUSH (R431). -/
def execStagingPush (i : Init) (half : Bool) (len : Nat) (freed0 freed1 : Bool) (s : State) : Res :=
  run (stagingPush i half len freed0 freed1) s

/-- The load in progress takes its container from the host. -/
def State.hostLoad (s : State) : Bool :=
  match s.fab.load with | some l => decide (l.src = 2) | none => false

/-- STAGING_ABORT: `CFG_STG_CTRL.abort` (R431, R434). -/
def stagingAbort (i : Init) (s : State) : State :=
  if !mayStage i || !s.on 0 CFG_STG_STAT_open then stageRefuse s else sourceEnds s

/-- STAGING_ABORT (R434). -/
def execStagingAbort (i : Init) (s : State) : Res := run (stagingAbort i) s

/-- STAGING_TIMEOUT: no push for `CFG_STG_TIMEOUT` while staging is open (R434). -/
def stagingTimeout (s : State) : State := if s.on 0 CFG_STG_STAT_open then sourceEnds s else s

/-- STAGING_TIMEOUT (R434). -/
def execStagingTimeout (s : State) : Res := run stagingTimeout s

/-! ### NVM transfers (R437) -/

/-- The address ranges that only the hardware writes: the journal and the wear map (R422, R437). -/
def nvmProtected (flash : Bool) (lo hi : Nat) : Bool :=
  (!flash && decide (lo < 0x500000) && decide (0x100000 < hi)) || (decide (lo < 0x520000) && decide (0x500000 < hi))

/-- The reason that refuses a transfer, 0 when it starts (R437). -/
def nvmReason (op : Nat) (flash : Bool) (i : Init) (s : State) : Nat :=
  let addr := s.f 0 NVM_ADDR_addr
  let len := s.f 0 NVM_LEN_len
  let size := (if flash then s.f 0 NVM_SIZE_nvm1 else s.f 0 NVM_SIZE_nvm0) * 0x100000
  let lo := if op = 3 then addr / 0x10000 * 0x10000 else addr
  let hi := if op = 3 then lo + 0x10000 else addr + len
  if !isHawkmoth i then 1
  else if s.on 0 NVM_CMDSTAT_busy then 6
  else if size < hi ∨ (op ≠ 3 ∧ (len = 0 ∨ 65536 < len ∨ 0x40000 < s.f 0 NVM_BUF_offset + len)) ∨
      (op = 3 ∧ addr % 0x10000 ≠ 0) then 2
  else if op ≠ 1 ∧ nvmProtected flash lo hi then 3
  else 0

/-- `NVM_CMD`: a transfer starts, or is refused with its reason; a write that is not the Hawkmoth's sets `refused` (R437). -/
def nvmStart (op : Nat) (flash : Bool) (i : Init) (s : State) : State :=
  let r := nvmReason op flash i s
  if r = 1 then (s.setF 0 NVM_CMDSTAT_reason 1).evt 0 NVM_EVT_refused
  else if r = 6 then s.setF 0 NVM_CMDSTAT_reason 6
  else if r ≠ 0 then (s.setFs 0 [(NVM_CMDSTAT_op, op), (NVM_CMDSTAT_reason, r)]).evt 0 NVM_EVT_error
  else
    let s := s.setFs 0 [(NVM_CMDSTAT_busy, 1), (NVM_CMDSTAT_op, op), (NVM_CMDSTAT_reason, 0)]
    { s with nv := { s.nv with transfer := some (flash, s.f 0 NVM_ADDR_addr, s.f 0 NVM_LEN_len, s.f 0 NVM_BUF_offset) } }

/-- NVM_READ (R437). -/
def execNvmRead (i : Init) (flash : Bool) (s : State) : Res := run (nvmStart 1 flash i) s

/-- NVM_PROGRAM (R437). -/
def execNvmProgram (i : Init) (flash : Bool) (s : State) : Res := run (nvmStart 2 flash i) s

/-- NVM_ERASE (R437). -/
def execNvmErase (i : Init) (flash : Bool) (s : State) : Res := run (nvmStart 3 flash i) s

/-- Store a byte of a flash. -/
def State.setFlash (s : State) (flash : Bool) (a : Nat) (v : Byte) : State :=
  { s with nv := { s.nv with flash := KMap.putD s.nv.flash (flash.toNat * 2 ^ 30 + a) v 0xFF#8 } }

/-- A byte of the data SRAM of core c at an offset (R470, R471). -/
def State.dsramByte (s : State) (c o : Nat) : Nat := (KMap.look s.core.dsram (c * 0x10000 + o / 4)).toNat / 2 ^ (8 * (o % 4)) % 256

/-- Store a byte of the data SRAM of core c. -/
def State.setDsramByte (s : State) (c o v : Nat) : State :=
  let k := c * 0x10000 + o / 4
  let w := KMap.look s.core.dsram k
  { s with core := { s.core with dsram := KMap.put s.core.dsram k (putBits w (8 * (o % 4)) 8 v) } }

/-- Move n bytes from the flash to the Hawkmoth data SRAM. -/
def flashToSram (flash : Bool) (n a o : Nat) (s : State) : State :=
  match n with
  | 0 => s
  | n + 1 => flashToSram flash n (a + 1) (o + 1) (s.setDsramByte 0 o (s.flashByte flash a).toNat)

/-- Program n bytes of the flash from the Hawkmoth data SRAM: programming clears bits of erased flash. -/
def sramToFlash (flash : Bool) (n a o : Nat) (s : State) : State :=
  match n with
  | 0 => s
  | n + 1 => sramToFlash flash n (a + 1) (o + 1)
      (s.setFlash flash a (s.flashByte flash a &&& BitVec.ofNat 8 (s.dsramByte 0 o)))

/-- n bytes of a flash hold free values (assumption 72). -/
def freeFlash (flash : Bool) (n a : Nat) (s : State) : State :=
  match n with
  | 0 => s
  | n + 1 => freeFlash flash n (a + 1) (s.setFlash flash a (s.free.setWidth 8)).freeNext

/-- n bytes of the Hawkmoth data SRAM hold free values (assumption 72). -/
def freeDsram (n o : Nat) (s : State) : State :=
  match n with
  | 0 => s
  | n + 1 => freeDsram n (o + 1) (s.setDsramByte 0 o (s.free.toNat % 256)).freeNext

/-- NVM_TRANSFER_DONE: the running transfer ends with reason 0, or with another (4 flash timeout, 5 program or erase failed); what a failed
one leaves in the bytes it was to write is not stated and free (R437; assumption 72). -/
def nvmDone (reason : Nat) (s : State) : State :=
  match s.nv.transfer with
  | none => s
  | some (flash, a, n, o) =>
    let s := { s with nv := { s.nv with transfer := none } }
    let s := s.setFs 0 [(NVM_CMDSTAT_busy, 0), (NVM_CMDSTAT_reason, reason)]
    let op := s.f 0 NVM_CMDSTAT_op
    if reason ≠ 0 then
      (if op = 1 then freeDsram n o s else freeFlash flash (if op = 2 then n else 0x10000) a s).evt 0 NVM_EVT_error
    else
      let s :=
        if op = 1 then flashToSram flash n a o s
        else if op = 2 then sramToFlash flash n a o s
        else
          let t := KMap.dropRange s.nv.flash (flash.toNat * 2 ^ 30 + a) (flash.toNat * 2 ^ 30 + a + 0x10000)
          { s with nv := { s.nv with flash := t } }
      s.evt 0 NVM_EVT_done

/-- NVM_TRANSFER_DONE (R437). -/
def execNvmTransferDone (reason : Fin 6) (s : State) : Res := run (nvmDone reason.val) s

end Sys2Proof.Machine
end

