-- ==== Sys2Proof/Machine/Pcie.lean ====
section
/-! DEFINITION. The PCI Express endpoint and its DMA queues (R289 to R298, R427). -/

namespace Sys2Proof.Machine

/-! ### Resets of the endpoint (R291, R427) -/

/-- The host's own initiators: the endpoint and the DMA queues (R185). -/
def hostSide (i : Init) : Bool := isHost i || (decide (0x020 ≤ i.toNat) && decide (i.toNat < 0x040))

/-- The PCIE page goes back to its reset values, fields of the image to the image's (R13, R291). -/
def resetPciePage (s : State) : State :=
  let s := { s with regs := KMap.dropRange s.regs (regKey 0 0x500000) (regKey 0 0x510000) }
  s.each s.pcie.image (fun s e =>
    match regRow 0 e.1 with
    | some x => s.wr 0 e.1 (e.2 ||| (resetVal 0 e.1 &&& ~~~(BitVec.ofNat 32 x.image)))
    | none => s)

/-- The endpoint, the DMA queues and the PCIE page reset (R291): results of requests already issued are discarded. `PCIE_STAT`
keeps the state of the PERST# pin, and of the link where the link stays up. -/
def resetEndpoint (keepLink : Bool) (s : State) : State :=
  let stat := s.rd 0 PCIE_STAT
  let es := s.net.ents.map (fun e => if hostSide e.req.src then { e with dead := true } else e)
  let s := resetPciePage { s with net := { s.net with ents := es } }
  let s := if keepLink then s.wr 0 PCIE_STAT (stat &&& 0x1FF#32) else s
  s.setB 0 PCIE_STAT_perst s.pwr.perst

/-- The container source "host" ends with the link (R434). -/
def hostSourceLost (s : State) : State := if s.hostLoad && s.on 0 CFG_STG_STAT_open then sourceEnds s else s

/-- PERST_ASSERT: PERST# goes low (R291, R434, R570). -/
def perstAssert (s : State) : State :=
  let s := { s with pwr := { s.pwr with perst := true } }
  if !s.live 0 then s
  else
    let s := resetEndpoint false s
    let s := { s with pcie := { s.pcie with barFrom := none } }
    dbgPathLost 2 (hostSourceLost (s.evt 0 PCIE_EVT_perst))

/-- PERST_ASSERT (R291). -/
def execPerstAssert (s : State) : Res := run perstAssert s

/-- PCIE_HOT_RESET: a hot reset arrives on the link (R291). -/
def pcieHotReset (s : State) : State :=
  if !s.on 0 PCIE_STAT_up then s else (resetEndpoint false s).evt 0 PCIE_EVT_hot_reset

/-- PCIE_HOT_RESET (R291). -/
def execPcieHotReset (s : State) : Res := run pcieHotReset s

/-- PCIE_FLR: a function-level reset; the link stays up (R291). -/
def pcieFlr (s : State) : State :=
  if !s.on 0 PCIE_STAT_up then s else (resetEndpoint true s).evt 0 PCIE_EVT_flr

/-- PCIE_FLR (R291). -/
def execPcieFlr (s : State) : Res := run pcieFlr s

/-- PCIE_LINK_DOWN: the link goes down (R291, R434). -/
def pcieLinkDown (s : State) : State :=
  if !s.on 0 PCIE_STAT_up then s else hostSourceLost ((resetEndpoint false s).evt 0 PCIE_EVT_link_down)

/-- PCIE_LINK_DOWN (R291). -/
def execPcieLinkDown (s : State) : Res := run pcieLinkDown s

/-- PCIE_LINK_UP: the link comes up at a speed and width (R289); it stays down in the safe state (R439) and under PERST#. -/
def pcieLinkUp (speed width : Nat) (s : State) : State :=
  if !s.live 0 || s.pwr.safe || s.pwr.perst then s
  else (s.setFs 0 [(PCIE_STAT_up, 1), (PCIE_STAT_speed, speed), (PCIE_STAT_width, width)]).evt 0 PCIE_EVT_link_up

/-- PCIE_LINK_UP (R289). -/
def execPcieLinkUp (speed : Fin 8) (width : Fin 32) (s : State) : Res := run (pcieLinkUp speed.val width.val) s

/-- The later of PERST# release and the end of S9 has come: the BARs decode `barAfter` later, and from then the personality
deadline counts, unless it counts already (R427). A device whose PERST# was never asserted takes a free delay of at most
100 ms (assumption 2). -/
def barPoint (s : State) : State :=
  let (a, s) := match s.pcie.barAfter with
    | some a => (a, s)
    | none => (s.free.toNat % 160000001, s.freeNext)
  let t := s.time.count + a
  let s := { s with pcie := { s.pcie with barFrom := some t } }
  match s.start.deadline with
  | some u => if u ≤ s.time.count then s else { s with start := { s.start with deadline := some t } }
  | none => { s with start := { s.start with deadline := some t } }

/-- PERST_RELEASE: PERST# goes high; `after` says how long after the point of R427 the endpoint stops answering with retry status,
at most 100 ms. -/
def perstRelease (after : Nat) (s : State) : State :=
  let s := { s with pwr := { s.pwr with perst := false }, pcie := { s.pcie with barAfter := some after } }
  if !s.live 0 then s
  else
    let s := s.setF 0 PCIE_STAT_perst 0
    if s.start.s9 then barPoint s else s

/-- PERST_RELEASE (R427). -/
def execPerstRelease (after : Fin 160000001) (s : State) : Res := run (perstRelease after.val) s

/-! ### Host requests (R292, R293, R409) -/

/-- Where a byte of a BAR leads: address, endpoint named, key index; none answers with Unsupported Request (R292, R293, R409). -/
def State.barTarget (s : State) (bar off : Nat) : Option (Nat × Option Byte × Nat) :=
  if bar = 0 then
    if off < 0x0B000000 then some (ctlBase + off, none, 0)
    else if off < 0x0C000000 then
      if s.pcie.host = 0 then none
      else some (mapBase + (s.pcie.host - 1) * 2 ^ 30 + (off - 0x0B000000), none, s.f 0 PCIE_KEYS_shell)
    else if off < 0x10000000 then
      let w := (off - 0x0C000000) / 2 ^ 24
      if s.on 0 (PCIE_CLWIN_en w) then some (0xFE0000000000 + s.f 0 (PCIE_CLWIN_id w) * 2 ^ 24 + off % 2 ^ 24, none, 0)
      else none
    else none
  else if bar = 2 then
    let b := s.f 0 PCIE_BAR2_base * 2 ^ 30
    let n := 2 ^ s.f 0 PCIE_BAR2_size
    if off < n ∧ b + n ≤ 2 ^ 41 then some (b + off, none, s.f 0 PCIE_KEYS_bar2) else none
  else if bar = 4 then
    let o := off % 0x800000
    if off < 0x1000000 ∧ o < 0x10000 then some (ctlBase + off / 0x800000 * 2 ^ 24 + 0x200000 + o, some 0x10#8, 0) else none
  else none

/-- The code of a BAR in `PCIE_HWERR.bar`. -/
def barCode (bar : Nat) : Fin 4 := Fin.ofNat 4 (bar / 2)

/-- One piece [lo, hi) of a host request (R293). -/
def hostPiece (bar : Nat) (write : Bool) (base lo hi : Nat) (lines : List Line) (relaxed : Bool) (s : State) : State :=
  match s.barTarget bar lo with
  | none => s.emit (.hostCpl 1 [])
  | some (a, via, key) =>
    let ls := (lines.drop ((lo / 64 * 64 - base) / 64)).take ((hi + 63) / 64 - lo / 64)
    let r : NocReq := { src := 0x018#12, write := write, addr := BitVec.ofNat 48 a, count := Fin.ofNat 512 (hi - lo - 1),
                        lines := if write then ls else [], key := Fin.ofNat 64 key, via := via,
                        afterWrites := !write && !relaxed, bar := barCode bar }
    niIssue r false s

/-- PCIE_HOST_REQUEST: a request of the host at byte `off` of a BAR; a read of count + 1 bytes, or a write of lines from the line of
`off` on. It is split at every 512-byte boundary (R293). Before the BARs decode it is answered with Unsupported Request (R427). -/
def hostRequest (bar : Nat) (write : Bool) (off count : Nat) (lines : List Line) (relaxed : Bool) (s : State) : State :=
  if !s.on 0 PCIE_STAT_up then s
  else
    let open_ := match s.pcie.barFrom with | some t => decide (t ≤ s.time.count) | none => false
    if !open_ then s.emit (.hostCpl 1 [])
    else
      let base := off / 64 * 64
      let fin := if write then base + 64 * lines.length else off + count + 1
      s.each (List.range ((fin - 1) / 512 - off / 512 + 1)) (fun s i =>
        let b := (off / 512 + i) * 512
        hostPiece bar write base (max off b) (min fin (b + 512)) lines relaxed s)

/-- PCIE_HOST_REQUEST (R293). -/
def execPcieHostRequest (bar : Fin 5) (write : Bool) (off count : Nat) (lines : List Line) (relaxed : Bool) (s : State) : Res :=
  run (hostRequest bar.val write off count lines relaxed) s

/-! ### DMA queues (R294 to R296) -/

/-- The range of R15 that holds an address; none outside the map. -/
def rangeOf (a : Nat) : Option Nat :=
  if a < 2 ^ 41 then some 0
  else if mapBase ≤ a ∧ a < mapBase + 192 * 2 ^ 30 then some (0x1000 + (a - mapBase) / 2 ^ 30)
  else if winBase ≤ a ∧ a < winBase + 8 * 0x4000000 then some 1
  else if ctlBase ≤ a ∧ a < ctlBase + 11 * 2 ^ 24 then some (0x2000 + (a - ctlBase) / 2 ^ 24)
  else if 0xFE0000000000 ≤ a ∧ a < 0xFE4000000000 then some (0x10000 + (a - 0xFE0000000000) / 2 ^ 24)
  else if 0xFF0000000000 ≤ a ∧ a < 2 ^ 48 then some 2
  else none

/-- A descriptor is valid: 1 to 16 MiB inside one range of the address map (R295). -/
def descValid (desc : BitVec 224) : Bool :=
  let a := nbits desc.toNat 64 64
  let n := nbits desc.toNat 128 32
  decide (1 ≤ n) && decide (n ≤ 0x1000000) && (rangeOf a).isSome && (rangeOf a == rangeOf (a + n - 1))

/-- The descriptors of queue q's ring. -/
def State.ring (s : State) (q : Nat) : Nat := 2 ^ s.f 0 (PCIE_Q_CTRL_ring q)

/-- DMA_TAIL_WRITE: the tail is stored; descriptors up to it are available to an enabled queue (R294, R295). -/
def dmaTail (q : Nat) (v : BitVec 16) (s : State) : State :=
  if !s.live 0 then s else s.setF 0 (PCIE_Q_TAIL_index q) v.toNat

/-- DMA_TAIL_WRITE (R295). -/
def execDmaTailWrite (q : Fin 32) (v : BitVec 16) (s : State) : Res := run (dmaTail q.val v) s

/-- A write of `PCIE_Qq_CTRL` with enable = 1: the queue runs from head (R295). -/
def dmaEnable (q : Nat) (v : Word) (s : State) : State :=
  if !s.live 0 then s else (s.wr 0 (PCIE_Q_CTRL q) ((v ||| 1) &&& 0xFFF)).setF 0 (PCIE_Q_STAT_state q) 1

/-- DMA_QUEUE_ENABLE (R295). -/
def execDmaQueueEnable (q : Fin 32) (v : Word) (s : State) : Res := run (dmaEnable q.val v) s

/-- A write with enable = 0: the `started` descriptors complete, then the queue is IDLE (R295). -/
def dmaDisable (q started : Nat) (s : State) : State :=
  if !s.live 0 then s
  else (s.setF 0 ⟨PCIE_Q_CTRL q, 0, 1⟩ 0).setF 0 (PCIE_Q_STAT_state q)
    (if started = 0 ∨ s.f 0 (PCIE_Q_STAT_state q) ≠ 1 then 0 else 2)

/-- DMA_QUEUE_DISABLE (R295). -/
def execDmaQueueDisable (q : Fin 32) (started : Nat) (s : State) : Res := run (dmaDisable q.val started) s

/-- The status word of a descriptor (R294). -/
def dmaWord (host noc : Nat) : Word := packBits [(31, 1), (16, host), (8, noc)]

/-- The descriptors started after a failed one complete with host status 6 (R295). -/
def dmaAborted (q i : Nat) (later : List Bool) (s : State) : State :=
  match later with
  | [] => s
  | flag :: t =>
    let s := s.emit (.dmaStatus q (i % s.ring q) (dmaWord 6 0))
    dmaAborted q (i + 1) t (s.when flag (raiseMsix (s.f 0 (PCIE_Q_CTRL_vector q))))

/-- DMA_DESCRIPTOR_DONE: the descriptor at head completes with a host and a NoC status; `later` lists the interrupt flags of the
descriptors that have started behind it (R294 to R296). -/
def dmaDone (q : Nat) (desc : BitVec 224) (host noc : Nat) (later : List Bool) (s : State) : State :=
  let st := s.f 0 (PCIE_Q_STAT_state q)
  let head := s.f 0 (PCIE_Q_HEAD_index q)
  if !s.live 0 || (decide (st ≠ 1) && decide (st ≠ 2)) || (decide (st = 1) && decide (head = s.f 0 (PCIE_Q_TAIL_index q))) then s
  else
    let v := s.f 0 (PCIE_Q_CTRL_vector q)
    let host := if descValid desc then host else 5
    let noc := if descValid desc then noc else 0
    let s := s.emit (.dmaStatus q head (dmaWord host noc))
    let s := s.when (nbit desc.toNat 161) (raiseMsix v)
    if host = 0 ∧ noc = 0 then
      let s := s.setF 0 (PCIE_Q_HEAD_index q) ((head + 1) % s.ring q)
      if st = 2 ∧ later = [] then s.setF 0 (PCIE_Q_STAT_state q) 0 else s
    else
      let s := dmaAborted q (head + 1) later s
      let s := s.setFs 0 [(PCIE_Q_STAT_state q, 3), (PCIE_Q_STAT_noc q, noc), (PCIE_Q_STAT_host q, host)]
      raiseMsix v (s.evt 0 PCIE_EVT_dma_err)

/-- DMA_DESCRIPTOR_DONE (R295). -/
def execDmaDescriptorDone (q : Fin 32) (desc : BitVec 224) (host : Fin 7) (noc : Byte) (later : List Bool) (s : State) : Res :=
  run (dmaDone q.val desc host.val noc.toNat later) s

end Sys2Proof.Machine
end

