-- ==== Sys2Proof/Machine/Ddr.lean ====
section
/-! DEFINITION. DDR5 channels (11): training, interleave set commits, refresh, temperatures, ALERT#, and row repair. -/

namespace Sys2Proof.Machine

/-! ### Training (R340 to R344) -/

/-- Capacity of one rank in GiB: 16 x4 or 8 x8 data devices (R340). -/
def Spd.rankGib (x : Spd) : Nat := (if x.x8 then 8 else 16) * (x.density.val + 2)

/-- Capacity of the channel in GiB, the sum of its DIMMs (R341). -/
def Spd.capacity (x : Spd) : Nat := x.dimms.val * x.ranks.val * x.rankGib

/-- The grade a channel trains at: grade 4 when the target is for one DIMM only and the channel holds two (R341, R342). -/
def spdGrade (target : Nat) (x : Spd) : Nat := if x.dimms = 2 ∧ target < 4 then 4 else target

/-- A channel begins to train at a target grade; its SPD is read first (R342). -/
def beginTraining (c target : Nat) (s11 : Bool) (s : State) : State :=
  (s.setDdrChan c { s.ddrChan c with grade := target, s11 := s11 }).setCf c DDR_STAT_state 1

/-- A running command of `DDR_CMD` ends with a reason (R361). -/
def ddrCmdEnds (c reason : Nat) (s : State) : State := (s.setCf c DDR_CMDSTAT_busy 0).setCf c DDR_CMDSTAT_reason reason

/-- A channel fails to train (R343): after a failed repair the row under repair is lost (R360). -/
def trainFails (c reason : Nat) (s : State) : State :=
  let x := s.ddrChan c
  let s := match x.ppr, x.spd with
    | some p, some y => s.addFill (.lostRow c (y.dimms.val * y.ranks.val) (rowLines y.x8) p.key)
    | _, _ => s
  let s := s.setDdrChan c { s.ddrChan c with ppr := none, s11 := false }
  let s := (ddrCmdEnds c reason s).cevt c DDR_EVT_train_fail
  (s.setCf c DDR_STAT_state 4).setCf c DDR_STAT_grade 0

/-- DDR_TRAINING_DONE: the training of a channel ends; at S11 `spd` is what its sideband gives, none where no DIMM is fitted (R342, R343). -/
def trainingDone (c : Nat) (spd : Option Spd) (ok : Bool) (s : State) : State :=
  if s.ddrState c ≠ 1 then s
  else
    let x := s.ddrChan c
    let spd := if x.spd.isSome then x.spd else spd
    match spd with
    | none => (s.setDdrChan c {}).setCf c DDR_STAT_state 0
    | some y =>
      if y.dimms = 0 then (s.setDdrChan c {}).setCf c DDR_STAT_state 0
      else
        let g := spdGrade x.grade y
        let s := s.setDdrChan c { x with spd := some y, grade := g }
        let s := s.setFs (chanDie c) [(DDR_STAT_dimms (c % 4), y.dimms.val), (DDR_STAT_ranks (c % 4), y.dimms.val * y.ranks.val),
          (DDR_STAT_width (c % 4), y.x8.toNat), (DDR_STAT_density (c % 4), y.density.val), (DDR_STAT_capacity (c % 4), y.capacity)]
        if !y.supported then trainFails c 2 s
        else if !ok then trainFails c 4 s
        else
            let s := if x.s11 ∧ x.spd.isNone then s.setCf c DDR_PPR_AVAIL_avail y.avail.toNat else s
            let s := s.setDdrChan c { s.ddrChan c with ppr := none, s11 := false }
            let s := s.when (!x.s11) (fun s => s.cevt c DDR_EVT_retrain_done)
            ((ddrCmdEnds c 0 s).setCf c DDR_STAT_state 2).setCf c DDR_STAT_grade g

/-- DDR_TRAINING_DONE (R343). -/
def execDdrTrainingDone (c : Fin 8) (spd : Option Spd) (ok : Bool) (s : State) : Res := run (trainingDone c.val spd ok) s

/-- The grade of a retrain (R344): the grade of the start, or what S11 attempted when no channel reached READY. -/
def State.retrainGrade (s : State) (c : Nat) : Nat := if s.ddr.grade ≠ 0 then s.ddr.grade else (s.ddrChan c).grade

/-- DDR_RETRAIN: a write of the retrain operation to `DDR_CMD` (R344). -/
def ddrRetrain (i : Init) (c : Nat) (s : State) : State :=
  if !s.live (chanDie c) then s
  else
    let s := s.setCf c DDR_CMDSTAT_op 1
    let st := s.ddrState c
    if !isHawkmoth i && !isMemAgentOf i (chanDie c) then (s.cevt c DDR_EVT_refused).setCf c DDR_CMDSTAT_reason 1
    else if st = 0 then s.setCf c DDR_CMDSTAT_reason 5
    else if st = 1 ∨ st = 3 then s.setCf c DDR_CMDSTAT_reason 3
    else beginTraining c (s.retrainGrade c) false ((s.setCf c DDR_CMDSTAT_busy 1).setCf c DDR_CMDSTAT_reason 0)

/-- DDR_RETRAIN (R344). -/
def execDdrRetrain (i : Init) (c : Fin 8) (s : State) : Res := run (ddrRetrain i c.val) s

/-- DDR_ALERT: a parity error; the channel recovers and reissues; on a second one within 1 ms (1,600,000 tb) it retrains (R345). -/
def ddrAlert (c : Nat) (s : State) : State :=
  if s.ddrState c ≠ 2 then s
  else
    let x := s.ddrChan c
    let again := match x.alert with | some t => decide (s.time.count ≤ t + 1600000) | none => false
    if again then beginTraining c (s.retrainGrade c) false (s.setDdrChan c { x with alert := none })
    else s.setDdrChan c { x with alert := some s.time.count }

/-- DDR_ALERT (R345). -/
def execDdrAlert (c : Fin 8) (s : State) : Res := run (ddrAlert c.val) s

/-! ### Interleave sets (R346 to R348) -/

/-- A set as three words give it: enabled, and its values (R362). -/
def setOfWords (a b c : Word) : Option DdrSet :=
  if bitsOf a 31 1 = 0 then none
  else some { base := bitsOf a 0 11, size := bitsOf a 16 12, ways := 2 ^ bitsOf b 0 2, grain := bitsOf b 4 5, cbase := bitsOf b 16 11,
              chan := (List.range 8).map (fun i => bitsOf c (3 * i) 3) }

/-- The staged table. -/
def State.stagedSets (s : State) : List (Option DdrSet) :=
  (List.range 8).map (fun n => setOfWords (s.rd 0 (DDR_SET_A n)) (s.rd 0 (DDR_SET_B n)) (s.rd 0 (DDR_SET_C n)))

/-- The channels named are distinct. -/
def distinct (l : List Nat) : Bool :=
  match l with
  | [] => true
  | x :: t => !t.contains x && distinct t

/-- Why a set fails among the others of a table (R347), the first check in the order of the table; 0 none. -/
def State.setReason (s : State) (x : DdrSet) (others : List DdrSet) (before : Option DdrSet) : Nat :=
  let lim := x.base + x.size
  if x.size = 0 ∨ 2048 < x.size ∨ 2048 < lim ∨ x.grain < 8 ∨ 30 < x.grain then 8
  else if x.size * 2 ^ 30 % (x.ways * 2 ^ x.grain) ≠ 0 then 2
  else if others.any (fun y => decide (x.base < y.base + y.size) && decide (y.base < lim)) then 3
  else if x.chans.any (fun c =>
      let hi := x.cbase * 2 ^ 27 + x.size * 2 ^ 30 / x.ways
      decide (s.cf c DDR_STAT_capacity * 2 ^ 30 < hi) ||
      others.any (fun y => y.chans.contains c && decide (x.cbase * 2 ^ 27 < y.cbase * 2 ^ 27 + y.size * 2 ^ 30 / y.ways) &&
        decide (y.cbase * 2 ^ 27 < hi))) then 4
  else if x.chans.any (fun c => decide (s.ddrState c ≠ 2)) then 5
  else if (match before with | some y => decide (x ≠ y) | none => false) then 6
  else if !distinct x.chans then 7
  else 0

/-- The sets of a table but number n. -/
def setsBut (l : List (Option DdrSet)) (n : Nat) : List DdrSet := (l.take n ++ l.drop (n + 1)).filterMap id

/-- The lowest failing set of a table, with its reason (R347). -/
def State.firstBadSet (s : State) (l : List (Option DdrSet)) (k n : Nat) : Option (Nat × Nat) :=
  match k with
  | 0 => none
  | k + 1 =>
    match l.getD n none with
    | none => s.firstBadSet l k (n + 1)
    | some x =>
      let r := s.setReason x (setsBut l n) (s.ddr.sets.getD n none)
      if r = 0 then s.firstBadSet l k (n + 1) else some (n, r)

/-- A table is committed: it takes effect at the next boundary; a range whose set it disables enters FAULT (R348, R368). -/
def commitSets (l : List (Option DdrSet)) (s : State) : State :=
  let s := s.each allRanges (fun s r =>
    match s.rangeSet r with
    | some x => if s.rangeState r ≠ 0 ∧ !(l.any (fun y => y == some x)) then rangeFault r s else s
    | none => s)
  { s with ddr := { s.ddr with next := some l } }.setFs 0 [(DDR_SET_STAT_pending, 1), (DDR_SET_STAT_set, 0), (DDR_SET_STAT_reason, 0)]

/-- DDR_SET_COMMIT: a write of `DDR_SET_COMMIT` by the Hawkmoth validates the staged table and pends it (R347, R348, R362). -/
def setCommit (i : Init) (s : State) : State :=
  if !s.live 0 then s
  else if !isHawkmoth i then (s.evt 0 (DDR_EVT_refused 0)).setF 0 DDR_SET_STAT_reason 1
  else
    let l := s.stagedSets
    match s.firstBadSet l 8 0 with
    | some (n, r) => s.setFs 0 [(DDR_SET_STAT_set, n), (DDR_SET_STAT_reason, r)]
    | none => commitSets l s

/-- DDR_SET_COMMIT (R347). -/
def execDdrSetCommit (i : Init) (s : State) : Res := run (setCommit i) s

/-- The tick boundary at which a committed table takes effect (R348). -/
def setsBoundary (s : State) : State :=
  match s.ddr.next with
  | none => s
  | some l => ({ s with ddr := { s.ddr with sets := l, next := none } }).setF 0 DDR_SET_STAT_pending 0

/-- The plan's sets at the end of S11 (R343, DEDUCED): each enabled set that passes against those accepted before it enters the table; the
others stay disabled. Answers the table and the mask of the sets left out. -/
def State.planSets (s : State) (l : List (Option DdrSet)) : List (Option DdrSet) × Nat :=
  (List.range 8).foldl (fun (a : List (Option DdrSet) × Nat) n =>
    match l.getD n none with
    | none => (a.1 ++ [none], a.2)
    | some x => if s.setReason x (a.1.filterMap id) none = 0 then (a.1 ++ [some x], a.2) else (a.1 ++ [none], a.2 + 2 ^ n)) ([], 0)

/-! ### Refresh (R354 to R356, R358) -/

/-- The hot state is in effect. -/
def State.hot (s : State) : Bool := s.on 0 DDR_REF_STAT_hot

/-- T in tb (R354). -/
def State.refreshT (s : State) : Nat := if s.hot then 3120 else 6240

/-- The stall S of the READY channels: the largest tRFC + 16 tb (R354); 0 when none is READY. -/
def State.refreshS (s : State) : Nat :=
  allChans.foldl (fun a c =>
    if s.ddrState c = 2 then (match (s.ddrChan c).spd with | some x => max a (x.trfc + 16) | none => a) else a) 0

/-- Some channel is refreshed: READY, TRAINING or in REPAIR (R354, R358). -/
def State.refreshes (s : State) : Bool :=
  allChans.any (fun c => decide (s.ddrState c = 1) || decide (s.ddrState c = 2) || decide (s.ddrState c = 3))

/-- Refresh belongs in the quiet window (R355). -/
def State.quietRefresh (s : State) : Bool :=
  let p := s.time.p
  let t := s.refreshT
  decide (80 ≤ p) && decide (t ≤ p) && decide (p ≤ 4 * t) && decide ((p + t - 1) / t * s.refreshS ≤ s.time.q) &&
    !s.on 0 DDR_REF_CTRL_force_fixed

/-- n refreshes are issued. -/
def issueRefresh (n : Nat) (s : State) : State := s.inc 0 DDR_REF_CNT_value n

/-- REFRESH_POINT: the count reaches a multiple of T: a fixed refresh is issued, or a quiet one is owed (R354, R355). -/
def refreshPoint (s : State) : State :=
  if !s.refreshes then s
  else if s.on 0 DDR_REF_STAT_quiet then { s with ddr := { s.ddr with owed := s.ddr.owed + 1 } }
  else issueRefresh 1 s

/-- REFRESH_POINT (R355). -/
def execRefreshPoint (s : State) : Res := run refreshPoint s

/-- At qs under quiet placement the channels issue every refresh owed (R355). -/
def refreshOwed (s : State) : State :=
  if s.on 0 DDR_REF_STAT_quiet then issueRefresh s.ddr.owed { s with ddr := { s.ddr with owed := 0 } } else s

/-- At qs, but for a refresh of an earlier window that still runs (R59). -/
def refreshQuiet (s : State) : State := if s.lateDuty 0 4 || s.lateDuty 1 4 then s else refreshOwed s

/-- Placement at a tick boundary (R355, R356): when it stops being quiet, what is owed is issued at once. -/
def refreshPlace (s : State) : State :=
  let was := s.on 0 DDR_REF_STAT_quiet
  let q := s.quietRefresh
  let t := s.refreshT
  let s := s.setFs 0 [(DDR_REF_STAT_quiet, q.toNat), (DDR_REF_STAT_kmax, if q then (s.time.p + t - 1) / t else 0),
    (DDR_REF_STAT_s, s.refreshS)]
  if was && !q then issueRefresh s.ddr.owed { s with ddr := { s.ddr with owed := 0 } } else s

/-! ### Temperatures (R357) -/

/-- Some channel of ION has a DIMM whose reading cannot reach IOS. -/
def State.tempStale (s : State) : Bool :=
  [4, 5, 6, 7].any (fun c => (s.ddrChan c).spd.isSome) && s.dieFenced 1

/-- The hot state that IOS decides on the readings that stand (R357). -/
def State.hotDecision (s : State) (now : Bool) : Bool :=
  let l := allChans.flatMap (fun c => (s.ddrChan c).temp)
  if s.tempStale || l.any (fun t => decide (85 < t)) then true
  else if l.all (fun t => decide (t ≤ 83)) then false
  else now

/-- A DIMM's reading: stored and counted; three failed reads in a row count as above 85 °C. -/
def dimmReading (c k : Nat) (t : Option Byte) (s : State) : State :=
  let x := s.ddrChan c
  let n := match x.spd with | some y => y.dimms.val | none => 0
  if n ≤ k then s
  else match t with
    | some v =>
      let s := s.setDdrChan c { x with temp := x.temp.set k v.toNat, fails := x.fails.set k 0 }
      let s := s.setCf c (fun j => if k = 0 then DDR_TEMP_t0 j else DDR_TEMP_t1 j) v.toNat
      let s := s.when (decide (85 < v.toNat)) (fun s => s.cevt c DDR_EVT_hot)
      s.when (decide (95 < v.toNat)) (fun s => s.cevt c DDR_EVT_overheat)
    | none =>
      let f := x.fails.getD k 0 + 1
      s.setDdrChan c { x with fails := x.fails.set k f, temp := if 3 ≤ f then x.temp.set k 86 else x.temp }

/-- DIMM_TEMP_READ: a channel reads its DIMMs (none: the read failed), and IOS decides the hot state, which applies at the second tick boundary from
now (R357). -/
def dimmTemp (c : Nat) (t0 t1 : Option Byte) (s : State) : State :=
  if !s.live (chanDie c) then s
  else
    let s := dimmReading c 1 t1 (dimmReading c 0 t0 s)
    let s := s.setB 0 DDR_REF_STAT_stale s.tempStale
    let last := match s.ddr.hotAt.getLast? with | some (_, b) => b | none => s.hot
    let d := s.hotDecision last
    if d = last then s else { s with ddr := { s.ddr with hotAt := s.ddr.hotAt ++ [(s.time.num + 2, d)] } }

/-- DIMM_TEMP_READ (R357). -/
def execDimmTempRead (c : Fin 8) (t0 t1 : Option Byte) (s : State) : Res := run (dimmTemp c.val t0 t1) s

/-- The tick boundary at which a decided hot state applies (R357). -/
def hotBoundary (s : State) : State :=
  match s.ddr.hotAt with
  | [] => s
  | (n, b) :: t =>
    if s.time.num < n then s
    else
      let s := ({ s with ddr := { s.ddr with hotAt := t } }).setB 0 DDR_REF_STAT_hot b
      s.each allChans (fun s c => if s.live (chanDie c) then s.setCf c DDR_TEMP_hot b.toNat else s)

/-! ### Row repair (R359, R360) -/

/-- Rows of a bank of a channel's DIMMs (R340; PRESUMED, assumption 14). -/
def Spd.rows (x : Spd) : Nat := x.rankGib * 2 ^ 30 / (64 * rowLines x.x8 * 64)

/-- Why PPR_COMMIT is refused at commit (R359): 1 not READY, 2 no such place, 3 no resource; 0 not refused. -/
def State.pprDetail (s : State) (c : Nat) (p : PprRow) : Nat :=
  if s.ddrState c ≠ 2 then 1
  else match (s.ddrChan c).spd with
    | none => 2
    | some x =>
      if x.dimms.val ≤ p.rank / 2 ∨ x.ranks.val ≤ p.rank % 2 ∨ 8 ≤ p.bg ∨ 4 ≤ p.bank ∨ x.rows ≤ p.row then 2
      else if nbit (s.cf c DDR_PPR_AVAIL_avail) (8 * p.rank + p.bg) then 0 else 3

/-- A PPR_COMMIT commits: the repair starts after this quiet window (R360). -/
def pprStart (c : Nat) (p : PprRow) (s : State) : State := s.setDdrChan c { s.ddrChan c with ppr := some p }

/-- The tick boundary after a commit: channels with a row to repair enter REPAIR (R360). -/
def pprBoundary (s : State) : State :=
  s.each allChans (fun s c => if (s.ddrChan c).ppr.isSome ∧ s.ddrState c = 2 then s.setCf c DDR_STAT_state 3 else s)

/-- The rank of a place as the channel counts its ranks. -/
def PprRow.chanRank (p : PprRow) (ranks : Nat) : Nat := p.rank / 2 * ranks + p.rank % 2

/-- PPR_REPAIR_DONE: a repair ends; `left` says whether the bank group still has a resource. On failure the channel retrains (R360). -/
def pprDone (c : Nat) (ok left : Bool) (s : State) : State :=
  let x := s.ddrChan c
  match x.ppr with
  | none => s
  | some p =>
    if s.ddrState c ≠ 3 then s
    else
      let s := s.setF (chanDie c) ⟨DDR_PPR_AVAIL (c % 4), 8 * p.rank + p.bg, 1⟩ left.toNat
      if ok then (((s.setDdrChan c { x with ppr := none }).setCf c DDR_STAT_state 2).cevt c DDR_EVT_ppr_done)
      else
        let n := match x.spd with | some y => y.ranks.val | none => 1
        let s := s.setDdrChan c { x with ppr := some { p with rank := p.chanRank n } }
        beginTraining c (s.retrainGrade c) false (s.cevt c DDR_EVT_ppr_fail)

/-- PPR_REPAIR_DONE (R360). -/
def execPprRepairDone (c : Fin 8) (ok left : Bool) (s : State) : Res := run (pprDone c.val ok left) s

/-- The DIMMs of an I/O die lose power: every line of its channels is lost. -/
def dramLost (c : Nat) (s : State) : State :=
  let l := KMap.dropRange s.ddr.line (lineKey c 0) (lineKey (c + 1) 0)
  let keep (f : Fill) : Bool := match f with
    | .zero c' _ _ => c' != c
    | .lost c' _ _ => c' != c
    | .lostRow c' _ _ _ => c' != c
  { s with ddr := { s.ddr with line := l, fill := s.ddr.fill.filter keep } }

end Sys2Proof.Machine
end

