-- ==== Sys2Proof/Machine/Record.lean ====
section
/-! DEFINITION. The record service (13): record ports, the segment directory, commit, and the flush at power fail. -/

namespace Sys2Proof.Machine

/-! ### Ports and entries -/

/-- A record port. -/
def State.recPort (s : State) (e p : Nat) : RecPort := KMap.look s.rec_.port (e * 16 + p)

/-- Store a record port. -/
def State.setRecPort (s : State) (e p : Nat) (x : RecPort) : State :=
  { s with rec_ := { s.rec_ with port := KMap.put s.rec_.port (e * 16 + p) x } }

/-- The ports of an engine. -/
def recPorts : List Nat := [0, 1, 2, 3, 4, 5, 6, 7, 8, 9, 10, 11, 12, 13, 14, 15]

/-- A directory entry, the primary copy (R393). -/
def State.dirEnt (s : State) (k : Nat) : DirEnt := KMap.look s.rec_.dir k

/-- The mirror on ION can be written. -/
def State.mirrorReach (s : State) : Bool := !s.dieFenced 1

/-- Write all eight words of an entry to the primary and then to the mirror; while ION is fenced or reset the mirror misses the update and
`mirror_ok` reads 0 (R393). -/
def putDir (k : Nat) (x : DirEnt) (s : State) : State :=
  let s := { s with rec_ := { s.rec_ with dir := KMap.put s.rec_.dir k x } }
  if s.mirrorReach then { s with rec_ := { s.rec_ with mirror := KMap.put s.rec_.mirror k x } }
  else s.setF 0 RECORD_STAT_mirror_ok 0

/-- Word i of an entry (R392). -/
def DirEnt.word (x : DirEnt) (i : Nat) : Word :=
  match i with
  | 0 => packBits [(0, x.base), (28, x.size)]
  | 1 => packBits [(0, x.state), (3, x.fill.toNat), (4, x.engine.toNat), (5, x.port), (9, x.key), (16, x.next)]
  | 2 => BitVec.ofNat 32 x.oldest
  | 3 => BitVec.ofNat 32 x.commit
  | 4 => BitVec.ofNat 32 (sat 32 x.records)
  | 5 => BitVec.ofNat 32 x.tOld
  | 6 => BitVec.ofNat 32 x.tNew
  | 7 => packBits [(0, x.oldest / 2 ^ 32 % 2 ^ 16), (16, x.commit / 2 ^ 32 % 2 ^ 16)]
  | _ => 0

/-- The lines of a segment. -/
def DirEnt.cap (x : DirEnt) : Nat := 2 ^ (14 + x.size)

/-- The DRAM address of the line at count c (R392). -/
def DirEnt.addr (x : DirEnt) (c : Nat) : Nat := x.base * 2 ^ 20 + c % x.cap * 64

/-- The oldest committed record leaves the entry. -/
def DirEnt.dropOldest (x : DirEnt) : DirEnt :=
  match x.held with
  | [] => x
  | (n, _) :: t => { x with oldest := x.oldest + n, records := x.records - 1, held := t,
                            tOld := (match t with | (_, k) :: _ => k | [] => 0), tNew := if t = [] then 0 else x.tNew }

/-- A record is committed into the entry (R396). -/
def DirEnt.take (x : DirEnt) (r : RecRef) : DirEnt :=
  let k := r.tick % 2 ^ 32
  { x with commit := r.start + r.lines, records := x.records + 1, held := x.held ++ [(r.lines, k)],
           tOld := if x.held = [] then k else x.tOld, tNew := k }

/-- An entry that no port has bound any more, and whose last records have committed or failed, is IDLE again (R394). -/
def settleEntry (k : Nat) (s : State) : State :=
  let x := s.dirEnt k
  let used := [0, 1].any (fun e => recPorts.any (fun p =>
    let y := s.recPort e p
    decide (y.entry = some k) || y.recs.any (fun r => decide (r.entry = k))))
  if x.state = 2 ∧ !used then putDir k { x with state := 1 } s else s

/-- A port's state and reason as its page shows them. -/
def portShow (e p st reason : Nat) (s : State) : State :=
  s.setFs e [(RECORD_P_STAT_state p, st), (RECORD_P_STAT_reason p, reason)]

/-- A port drops from now on (R389). -/
def portDrops (e p reason : Nat) (s : State) : State :=
  let x := s.recPort e p
  let s := portShow e p 2 reason (s.setRecPort e p { x with entry := none })
  match x.entry with | some k => settleEntry k s | none => s

/-- A port may bind an entry (R394): it is IDLE, of the port's engine, and its key is the port's. -/
def State.mayBind (s : State) (e p k : Nat) : Bool :=
  let x := s.dirEnt k
  decide (x.state = 1) && decide (x.engine.toNat = e) && decide (x.key = s.f e (RECORD_P_CFG_key p))

/-- A port binds an entry, or drops with reason `refused` where it may not (R394). New lines go behind the committed ones. -/
def portBinds (e p k refused : Nat) (s : State) : State :=
  if s.mayBind e p k then
    let x := s.dirEnt k
    let s := putDir k { x with state := 2, port := p } s
    portShow e p 1 0 (s.setRecPort e p { s.recPort e p with entry := some k, at_ := x.commit })
  else portDrops e p refused s

/-- What a port waits to do is done at a record boundary (R389, R394, R398). -/
def portBoundary (e p : Nat) (s : State) : State :=
  let x := s.recPort e p
  if x.open_.isSome then s
  else
    let s := s.setRecPort e p { x with want := none }
    match x.want with
    | none => s
    | some .unbind => portDrops e p 1 s
    | some (.drop r) => portDrops e p r s
    | some (.bind k) => portBinds e p k 1 (portDrops e p 1 s)

/-! ### Writing records (R387 to R390, R395) -/

/-- The state code of a port: 0 OFF, 1 RUNNING, 2 DROPPING, 3 ERROR. -/
def State.portSt (s : State) (e p : Nat) : Nat := s.f e (RECORD_P_STAT_state p)

/-- The number of lines of a record of n payload words. -/
def recLines (n : Nat) : Nat := n / 2 + 1

/-- Line j of a record, header first (R388). -/
def recLine (hdr : BitVec 256) (payload : List (BitVec 256)) (j : Nat) : BitVec 512 :=
  let w (i : Nat) : Nat := if i = 0 then hdr.toNat else (payload.getD (i - 1) 0).toNat
  BitVec.ofNat 512 (w (2 * j) + w (2 * j + 1) * 2 ^ 256)

/-- The engine writes lines a to b - 1 of an open record, all within one aligned 512-byte block of the segment (R388). -/
def recIssue (e p : Nat) (o : RecOpen) (hdr : BitVec 256) (a b : Nat) (s : State) : State :=
  let x := s.recPort e p
  match x.entry with
  | none => s
  | some k =>
    let ent := s.dirEnt k
    let ls := (List.range (b - a)).map (fun i => (⟨BitVec.allOnes 64, recLine hdr o.payload (a + i)⟩ : Line))
    let r : NocReq := { src := BitVec.ofNat 12 (e * 256 + 0x11), write := true, addr := BitVec.ofNat 48 (ent.addr (o.start + a)),
                        lines := ls, queue := Fin.ofNat 32 p, key := Fin.ofNat 64 (s.f e (RECORD_P_CFG_key p)) }
    let recs := x.recs.map (fun y => if y.id = o.id then { y with left := y.left + 1 } else y)
    niIssue r false (s.setRecPort e p { x with sent := x.sent ++ [(o.id, b - a)], recs := recs })

/-- Write the blocks that hold lines a to b - 1 of a record, a block at a time; n bounds the blocks. -/
def recBlocks (n e p : Nat) (o : RecOpen) (hdr : BitVec 256) (a b : Nat) (s : State) : State :=
  match n with
  | 0 => s
  | n + 1 =>
    if b ≤ a then s
    else
      let m := min b (((o.start + a) / 8 + 1) * 8 - o.start)
      recBlocks n e p o hdr m b (recIssue e p o hdr a m s)

/-- The header of a record (R390); bytes 0 to 27 without the CRC. -/
def recHeadLow (e p : Nat) (o : RecOpen) (trunc : Bool) (seq : Nat) : Nat :=
  o.count + (p + e * 16 + o.suspect.toNat * 32 + trunc.toNat * 64 + o.cont.toNat * 128) * 2 ^ 72 + o.sb * 2 ^ 80 +
    o.payload.length * 2 ^ 96 + o.tick % 2 ^ 64 * 2 ^ 128 + seq * 2 ^ 192

/-- The bytes of payload words. -/
def wordsBytes (l : List (BitVec 256)) : List Nat := l.flatMap (fun w => bytesOf 32 w.toNat)

/-- The header with its CRC over bytes 0 to 27 and the payload. -/
def recHead (low : Nat) (payload : List (BitVec 256)) : BitVec 256 :=
  BitVec.ofNat 256 (low + crc32c (bytesOf 28 low ++ wordsBytes payload) * 2 ^ 224)

/-- A record closes: it takes its sequence number; one that is stored has its last lines written, and its first line after them (R387, R388). -/
def closeRecord (e p : Nat) (trunc cont : Bool) (s : State) : State :=
  let x := s.recPort e p
  match x.open_ with
  | none => s
  | some o =>
    let seq := s.f e (RECORD_P_SEQ_value p)
    let s := if o.drop then s
      else
        let n := recLines o.payload.length
        let hdr := recHead (recHeadLow e p o trunc seq) o.payload
        let s := recIssue e p o hdr 0 1 (recBlocks n e p o hdr o.issued n s)
        let y := s.recPort e p
        let recs := y.recs.map (fun r => if r.id = o.id then { r with closed := true, lines := n } else r)
        s.setRecPort e p { y with recs := recs, at_ := o.start + n }
    let s := s.setRecPort e p { s.recPort e p with open_ := none, cont := cont }
    let s := (s.inc e (RECORD_P_RECS_value p) 1).setF e (RECORD_P_SEQ_value p) (seq + 1)
    portBoundary e p (s.setFs e [(RECORD_P_STAT_open p, 0), (RECORD_P_STAT_words p, 0)])

/-- Store the open record, showing its words. -/
def setOpen (e p : Nat) (o : RecOpen) (s : State) : State :=
  let n := if o.drop then o.n else o.payload.length
  (s.setRecPort e p { s.recPort e p with open_ := some o }).setFs e [(RECORD_P_STAT_open p, 1), (RECORD_P_STAT_words p, n)]

/-- A word is discarded: counted, and part of a record that takes a sequence number (R389). -/
def dropWord (e p : Nat) (last : Bool) (s : State) : State :=
  let x := s.recPort e p
  let o := x.open_.getD { id := x.next, drop := true, cont := x.cont }
  let o := { o with drop := true, n := o.n + 1 }
  let s := (s.inc e (RECORD_P_DROP_value p) 1).evt e RECORD_EVT_drop
  let s := setOpen e p o (s.setRecPort e p { x with next := max x.next (o.id + 1) })
  if last ∨ o.n = 4096 then closeRecord e p false (!last) s else s

/-- The space of line count c of the bound entry: in ring mode the oldest committed records make room (R395); n bounds them. Answers whether
the line may be written. -/
def makeRoom (n k c : Nat) (s : State) : State × Bool :=
  let x := s.dirEnt k
  if c < x.oldest + x.cap then (s, true)
  else match n with
    | 0 => (s, false)
    | n + 1 => if x.fill ∨ x.held = [] then (s, false) else makeRoom n k c (putDir k x.dropOldest s)

/-- A word is stored in the open record, or opens one (R387, R388). -/
def storeWordRec (e p : Nat) (data : BitVec 256) (sb : Nat) (last : Bool) (s : State) : State :=
  let x := s.recPort e p
  match x.entry with
  | none => s
  | some k =>
    let o := x.open_.getD { id := x.next, start := x.at_, sb := sb / 4 % 2 ^ 14, count := s.time.count, tick := s.time.num, cont := x.cont }
    let recs := if x.open_.isSome then x.recs else x.recs ++ [{ id := o.id, entry := k, start := o.start, tick := o.tick }]
    let o := { o with payload := o.payload ++ [data], suspect := o.suspect || sb % 2 = 1 }
    let s := setOpen e p o (s.setRecPort e p { x with next := max x.next (o.id + 1), recs := recs })
    let n := o.payload.length
    if last ∨ n = 4096 then closeRecord e p false (!last) s
    else
      let done := o.start + (n + 1) / 2
      if (n + 1) % 2 = 0 ∧ done % 8 = 0 ∧ o.issued < (n + 1) / 2 then
        setOpen e p { o with issued := (n + 1) / 2 } (recBlocks n e p o 0 o.issued ((n + 1) / 2) s)
      else s

/-- A word meets a running port: when it begins a line for which there is no room, a ring's port drops from then on, and a fill's entry is FULL
and the port goes on with the next one (R395); n bounds the entries. -/
def runWord (n e p : Nat) (data : BitVec 256) (sb : Nat) (last : Bool) (s : State) : State :=
  let x := s.recPort e p
  match n, x.entry with
  | n + 1, some k =>
    let len := match x.open_ with | some o => o.payload.length | none => 0
    let start := match x.open_ with | some o => o.start | none => x.at_
    let fresh := decide (len = 0) || decide (len % 2 = 1)
    let (s, ok) := if fresh then makeRoom (s.dirEnt k).held.length k (start + (len + 1) / 2) s else (s, true)
    if ok then storeWordRec e p data sb last s
    else if (s.dirEnt k).fill then
      let ent := s.dirEnt k
      let s := (closeRecord e p true false s).setRecPort e p { (closeRecord e p true false s).recPort e p with entry := none }
      let s := (putDir k { ent with state := 3 } s).evt e RECORD_EVT_seg_full
      let s := if ent.next = 0xFFFF then portShow e p 2 2 s else portBinds e p ent.next 2 s
      if s.portSt e p = 1 then runWord n e p data sb last s else dropWord e p last s
    else dropWord e p last (portDrops e p 4 (closeRecord e p true false s))
  | _, _ => dropWord e p last s

/-- The lines a port stages: those of its open record that are not issued, and those whose writes are unanswered (R389). -/
def RecPort.staged (x : RecPort) : Nat :=
  x.sent.foldl (fun a r => a + r.2) 0 + (match x.open_ with
    | some o => if o.drop then 0 else recLines o.payload.length - (o.issued - 1)
    | none => 0)

/-- RECORD_PORT_WORD: a port takes a word that its channel delivers (R387, R389). A running port with 64 lines staged takes none; an
end-of-stream marker closes the open record. -/
def portWord (e p : Nat) (data : BitVec 256) (sb : Nat) (last : Bool) (s : State) : State :=
  if !s.live e || !s.on e (RECORD_P_CFG_en p) then s
  else
    let s := portBoundary e p s
    let s := s.when (decide (s.portSt e p = 0)) (portShow e p 2 1)
    let x := s.recPort e p
    let dropping := match x.open_ with | some o => o.drop | none => decide (s.portSt e p ≠ 1)
    if sb / 2 % 2 = 1 then closeRecord e p true false s
    else if dropping then dropWord e p last s
    else if 64 ≤ x.staged then s
    else runWord 65536 e p data sb last s

/-- RECORD_PORT_WORD (R387). -/
def execRecordPortWord (e : IoDie) (p : Fin 16) (data : BitVec 256) (sb : BitVec 16) (last : Bool) (s : State) : Res :=
  run (portWord e.val p.val data sb.toNat last) s

/-- The write of a record fails (R397): the record and those opened after it are never committed; the port is in ERROR. -/
def recFails (e p id status : Nat) (s : State) : State :=
  let x := s.recPort e p
  match x.recs.find? (fun r => decide (r.id = id)) with
  | none => s
  | some r =>
    let o := x.open_.map (fun o => { o with drop := true, n := o.payload.length })
    let s := s.setRecPort e p { x with recs := x.recs.filter (fun y => decide (y.id < id)), open_ := o, at_ := r.start, entry := none }
    let s := (portShow e p 3 5 s).setF e (RECORD_P_ERR_status p) status
    let s := errReport e 10 .contained 0x1F 0 (s.evt e RECORD_EVT_port_err)
    settleEntry r.entry s

/-- RECORD_WRITE_ANSWER: the oldest unanswered write of a port is answered (R388, R397). -/
def recAnswer (e p status : Nat) (s : State) : State :=
  let x := s.recPort e p
  match x.sent with
  | [] => s
  | (id, _) :: t =>
    let s := s.setRecPort e p { x with sent := t }
    if status ≠ 0 then recFails e p id status s
    else
      let recs := x.recs.map (fun y => if y.id = id then { y with left := y.left - 1 } else y)
      s.setRecPort e p { s.recPort e p with recs := recs }

/-- RECORD_WRITE_ANSWER (R397). -/
def execRecordWriteAnswer (e : IoDie) (p : Fin 16) (status : Byte) (s : State) : Res :=
  run (recAnswer e.val p.val status.toNat) s

/-- The initiators that may write `RECORD_Pp_SEG` and `RECORD_QTRUST` of a die (R394). -/
def recOwner (i : Init) (e : Nat) : Bool := isHawkmoth i || isMemAgentOf i e

/-- A write of `RECORD_Pp_SEG` (R394): the port binds or unbinds at its next record boundary, which is now when no record is open. -/
def recSeg (i : Init) (e p : Nat) (seg : Nat) (bind : Bool) (s : State) : State :=
  if !s.live e then s
  else if !recOwner i e then s.evt e RECORD_EVT_refused
  else
    let s := s.setFs e [(RECORD_P_SEG_seg p, seg), (RECORD_P_SEG_bind p, bind.toNat)]
    if !s.on e (RECORD_P_CFG_en p) then s
    else portBoundary e p (s.setRecPort e p { s.recPort e p with want := some (if bind then .bind seg else .unbind) })

/-- RECORD_SEG_BIND (R394). -/
def execRecordSegBind (i : Init) (e : IoDie) (p : Fin 16) (seg : BitVec 16) (s : State) : Res :=
  run (recSeg i e.val p.val seg.toNat true) s

/-- RECORD_SEG_UNBIND (R394). -/
def execRecordSegUnbind (i : Init) (e : IoDie) (p : Fin 16) (seg : BitVec 16) (s : State) : Res :=
  run (recSeg i e.val p.val seg.toNat false) s

/-! ### The directory (R391, R392, R410) -/

/-- The initiators that may write `RECORD_DIR_CMD` (R410). -/
def dirOwner (i : Init) : Bool := isHawkmoth i || isMemAgentOf i 0

/-- A directory operation by an initiator on the selected entry; `f` gives the reason of a refusal (0 done) and does the rest. -/
def dirOp (i : Init) (f : Nat → State → State × Nat) (s : State) : State :=
  if !s.live 0 then s
  else if !dirOwner i then (s.evt 0 RECORD_EVT_refused).setF 0 RECORD_DIR_STAT_reason 1
  else
    let (s, r) := f (s.f 0 RECORD_DIR_IDX_index) s
    s.setF 0 RECORD_DIR_STAT_reason r

/-- Define entry k from the staged words (R391, R392). The engine of the entry is staged in word 1 as well (DEDUCED, assumption 16). -/
def dirDefine (k : Nat) (s : State) : State × Nat :=
  let w0 := s.rec_.stage0
  let w1 := s.rec_.stage1
  let size := bitsOf w0 28 4
  let base := bitsOf w0 0 28
  if (s.dirEnt k).state ≠ 0 then (s, 2)
  else if 10 < size then (s, 3)
  else if base % 2 ^ size ≠ 0 then (s, 4)
  else if (setOver s.ddr.sets (base * 2 ^ 20) (2 ^ (20 + size))).isNone then (s, 5)
  else
    let x : DirEnt := { base := base, size := size, state := 1, fill := bitsOf w1 3 1 = 1, engine := bitsOf w1 4 1 = 1,
                        key := bitsOf w1 9 6, next := bitsOf w1 16 16 }
    (putDir k x s, 0)

/-- DIR_DEFINE (R391). -/
def execDirDefine (i : Init) (s : State) : Res := run (dirOp i dirDefine) s

/-- Release entry k to FREE; a BOUND one is refused (R410). -/
def dirRelease (k : Nat) (s : State) : State × Nat := if (s.dirEnt k).state = 2 then (s, 6) else (putDir k {} s, 0)

/-- DIR_RELEASE (R410). -/
def execDirRelease (i : Init) (s : State) : Res := run (dirOp i dirRelease) s

/-- Empty entry k: oldest := commit (R410). -/
def dirEmpty (k : Nat) (s : State) : State × Nat :=
  let x := s.dirEnt k
  (putDir k { x with oldest := x.commit, records := 0, tOld := 0, tNew := 0, held := [] } s, 0)

/-- DIR_EMPTY (R410). -/
def execDirEmpty (i : Init) (s : State) : Res := run (dirOp i dirEmpty) s

/-- DIR_MIRROR_REBUILD_DONE: IOS has rewritten the mirror (R393). -/
def mirrorDone (s : State) : State :=
  if s.mirrorReach then ({ s with rec_ := { s.rec_ with mirror := s.rec_.dir } }).setF 0 RECORD_STAT_mirror_ok 1 else s

/-- DIR_MIRROR_REBUILD_DONE (R393). -/
def execDirMirrorRebuildDone (s : State) : Res := run mirrorDone s

/-- An entry is found uncorrectable in the primary (R393): read from the mirror and rewritten, or, where the mirror is bad too, LOST. -/
def dirBad (k : Nat) (both : Bool) (s : State) : State :=
  let x := KMap.look s.rec_.mirror k
  if both ∨ !s.on 0 RECORD_STAT_mirror_ok then
    errReport 0 10 .contained 0x1F 0 ((putDir k { s.dirEnt k with state := 4 } s).evt 0 RECORD_EVT_dir_fault |>.evt 0 RECORD_EVT_seg_lost)
  else { s with rec_ := { s.rec_ with dir := KMap.put s.rec_.dir k x } }

/-! ### Commit (R396) -/

/-- Commit the records of a port in order: of each entry those before the first that is not complete. `held` lists the entries behind one. -/
def commitRecs (l : List RecRef) (held : List Nat) (s : State) : State × List RecRef :=
  match l with
  | [] => (s, [])
  | r :: t =>
    let x := s.dirEnt r.entry
    if held.contains r.entry ∨ !r.closed ∨ r.left ≠ 0 then
      let (s, u) := commitRecs t (r.entry :: held) s
      (s, r :: u)
    else commitRecs t held (if x.state = 0 ∨ x.state = 4 then s else putDir r.entry (x.take r) s)

/-- Commit of one port; entries it has left are IDLE again. -/
def commitPort (e p : Nat) (s : State) : State :=
  let x := s.recPort e p
  let (s, l) := commitRecs x.recs [] s
  let s := s.setRecPort e p { s.recPort e p with recs := l }
  s.each (x.recs.map (·.entry)) (fun s k => settleEntry k s)

/-- Commit of an engine. -/
def commitEngine (e : Nat) (s : State) : State := s.each recPorts (fun s p => commitPort e p s)

/-- Commit of both engines; ION's writes reach the primary when `passes` (R396). An engine whose last commit still runs waits (R59). -/
def commitAll (passes : Bool) (s : State) : State :=
  let s := if s.lateDuty 0 2 then s else commitEngine 0 s
  if passes && s.mirrorReach && !s.lateDuty 1 2 then commitEngine 1 s else s

/-- SEGMENT_COMMIT: qs + 16 of a tick whose quiet window has opened; `bad` names directory entries found uncorrectable in the primary, and
whether in the mirror too (R393, R396). -/
def segmentCommit (passes : Bool) (bad : List (BitVec 16 × Bool)) (s : State) : State :=
  if !s.mayCommit then s
  else
    let s := { s with time := s.commitTime }
    commitAll passes (s.each bad (fun s k => dirBad k.1.toNat k.2 s))

/-- SEGMENT_COMMIT (R396). -/
def execSegmentCommit (passes : Bool) (bad : List (BitVec 16 × Bool)) (s : State) : Res := runTime State.commitTime (segmentCommit passes bad) s

/-! ### Loss and power fail (R398, R399) -/

/-- The segment of an entry lies in a set that lists a channel of ION. -/
def State.entryOnIon (s : State) (x : DirEnt) : Bool :=
  match setOver s.ddr.sets (x.base * 2 ^ 20) (2 ^ (20 + x.size)) with
  | some y => y.dies.contains 1
  | none => false

/-- ION is reset (R398): its open records end without commit; entries on its channels are LOST, and ports bound to them drop. -/
def recIonReset (s : State) : State :=
  let s := s.each recPorts (fun s p =>
    let x := s.recPort 1 p
    let s := s.setRecPort 1 p {}
    let s := s.each (x.recs.map (·.entry)) (fun s k => settleEntry k s)
    match x.entry with | some k => settleEntry k s | none => s)
  let s := s.setF 0 RECORD_STAT_mirror_ok 0
  let lost := (s.rec_.dir.filter (fun e => decide (e.2.state ≠ 0) && s.entryOnIon e.2)).map (·.1)
  let s := s.each lost (fun s k => (putDir k { s.dirEnt k with state := 4 } s).evt 0 RECORD_EVT_seg_lost)
  s.each recPorts (fun s p =>
    let x := s.recPort 0 p
    match x.entry with
    | some k => if lost.contains k then portBoundary 0 p (s.setRecPort 0 p { x with want := some (.drop 3) }) else s
    | none => s)

/-- PWRFAIL: PWRFAIL# has been low for 1 µs: with `pf_flush` both engines flush: open records close truncated and every port drops (R399). -/
def pwrFail (s : State) : State :=
  let s := { s with pwr := { s.pwr with pwrfailLow := true } }
  if !s.live 0 || !s.on 0 RECORD_CTRL_pf_flush then s
  else
    let s := s.setFs 0 [(RECORD_PF_flushed, 0), (RECORD_PF_incomplete, 0), (RECORD_PF_tick, s.tick16)]
    let s := s.each [0, 1] (fun s e => s.each recPorts (fun s p =>
      if s.live e && s.on e (RECORD_P_CFG_en p) then
        let s := closeRecord e p true false s
        portDrops e p 6 (s.setRecPort e p { s.recPort e p with want := none })
      else s))
    { s with rec_ := { s.rec_ with flush := true } }

/-- PWRFAIL (R399). -/
def execPwrfail (s : State) : Res := run pwrFail s

/-- POWER_FAIL_FLUSH_DONE: the flush ends, `inTime` within 100 µs of the fall: once no write is outstanding one commit runs, but in a test period
(R399). -/
def flushDone (inTime : Bool) (s : State) : State :=
  if !s.rec_.flush then s
  else
    let idle := [0, 1].all (fun e => recPorts.all (fun p => (s.recPort e p).sent.isEmpty))
    let s := { s with rec_ := { s.rec_ with flush := false } }
    let s := if idle && !s.testPeriod then commitAll true s else s
    let s := if inTime && idle then s.setF 0 RECORD_PF_flushed 1 else s.setF 0 RECORD_PF_incomplete 1
    (s.evt 0 RECORD_EVT_flush_done).when (s.live 1) (fun s => s.evt 1 RECORD_EVT_flush_done)

/-- POWER_FAIL_FLUSH_DONE (R399). -/
def execPowerFailFlushDone (inTime : Bool) (s : State) : Res := run (flushDone inTime) s

end Sys2Proof.Machine
end

