-- ==== Sys2Proof/Machine/Query.lean ====
section
/-! DEFINITION. Queries of the record service (13): descriptors, slots, and the four operations over committed records. -/

namespace Sys2Proof.Machine

/-! ### Descriptors (R402) -/

/-- A query descriptor. -/
structure QueryDesc where
  op : Nat
  kind : Nat
  seg : Nat
  peer : Nat
  byCount : Bool
  falling : Bool
  msix : Bool
  rsv : Nat
  vector : Nat
  lo : Nat
  hi : Nat
  dest : Nat
  limit : Nat
  n : Nat
  thr : Nat
  fmt : Nat
  k : Nat
  l : Nat
  period : Nat
  skip : Nat
  tag : Nat
deriving DecidableEq, Repr

/-- The 512 bits of slot k's descriptor, word 0 lowest. -/
def State.queryBits (s : State) (e k : Nat) : Nat :=
  [0, 1, 2, 3, 4, 5, 6, 7, 8, 9, 10, 11, 12, 13, 14, 15].foldr (fun w a => (s.rd e (RECORD_QS_D k w)).toNat + 2 ^ 32 * a) 0

/-- The descriptor of its bits; `rsv` collects the bits that are to be zero. -/
def QueryDesc.ofBits (x : Nat) : QueryDesc :=
  { op := nbits x 0 8, kind := nbits x 8 8, seg := nbits x 16 16, peer := nbits x 32 16, byCount := nbit x 48, falling := nbit x 49,
    msix := nbit x 50, rsv := nbits x 51 5 + nbits x 376 8 + nbits x 432 16 + nbits x 480 32, vector := nbits x 56 8,
    lo := nbits x 64 64, hi := nbits x 128 64, dest := nbits x 192 64, limit := nbits x 256 32, n := nbits x 288 32,
    thr := nbits x 320 32, fmt := nbits x 352 8, k := nbits x 360 8, l := nbits x 368 8, period := nbits x 384 32,
    skip := nbits x 416 16, tag := nbits x 448 32 }

/-- Bits of an element. -/
def QueryDesc.bits (q : QueryDesc) : Nat := match q.fmt with | 0 => 8 | 1 => 16 | 4 => 12 | _ => 32

/-- Bytes of an output element (R404). -/
def QueryDesc.outBytes (q : QueryDesc) : Nat := match q.fmt with | 0 => 1 | 1 => 2 | 4 => 2 | _ => 4

/-- A descriptor within its limits (R402). -/
def QueryDesc.legal (q : QueryDesc) : Bool :=
  decide (1 ≤ q.op ∧ q.op ≤ 4) && decide (q.kind ≤ 2) && (decide (q.kind = 2) || decide (q.peer = 0)) && decide (q.rsv = 0) &&
    decide (q.vector < 64) && (decide (q.kind = 1) || decide (q.dest < 2 ^ 48)) && decide (64 ≤ q.limit) &&
    (decide (q.op ≠ 2 ∧ q.op ≠ 3) || decide (1 ≤ q.n ∧ q.n ≤ 2 ^ 24)) && decide (q.fmt ≤ 4) &&
    decide (1 ≤ q.k ∧ q.k ≤ 16) && decide (q.l < q.k) &&
    decide (q.skip % (if q.fmt = 4 then 3 else q.outBytes) = 0)

/-- Slot k's descriptor. -/
def State.query (s : State) (e k : Nat) : QueryDesc := QueryDesc.ofBits (s.queryBits e k)

/-! ### Elements (R402 to R404) -/

/-- Output bits of an element: packed int12 is sign-extended to 16 bits. -/
def QueryDesc.outElem (q : QueryDesc) (v : Nat) : Nat := if q.fmt = 4 ∧ 2 ^ 11 ≤ v then v + 0xF000 else v

/-- A two's-complement number of n bits. -/
def signedOf (n v : Nat) : Int := if 2 ^ (n - 1) ≤ v then (v : Int) - (2 ^ n : Nat) else v

/-- A NaN in binary32. -/
def f32NaN (v : Nat) : Bool := decide (0x7F800000 < v % 2 ^ 31)

/-- A number that orders as the element does; none for a NaN. Both zeros of binary32 are 0. -/
def elemOrder (fmt bits v : Nat) : Option Int :=
  if fmt = 3 then
    if f32NaN v then none else some (if 2 ^ 31 ≤ v then -((v % 2 ^ 31 : Nat) : Int) else v)
  else some (signedOf bits v)

/-- The selected elements of a payload: those after the prefix whose index there is l mod k. -/
def QueryDesc.elems (q : QueryDesc) (payload bytes : Nat) : List Nat :=
  let x := payload / 2 ^ (8 * q.skip)
  let n := (8 * bytes - 8 * q.skip) / q.bits
  ((List.range n).filter (fun i => decide (i % q.k = q.l))).map (fun i => nbits x (q.bits * i) q.bits)

/-- The smallest (or largest) element of a bin by its order: all elements that reach it, without repeats. -/
def extremes (q : QueryDesc) (top : Bool) (bin : List Nat) : List Nat :=
  let key (v : Nat) : Int := match elemOrder q.fmt q.bits v with | some x => if top then -x else x | none => 0
  match bin with
  | [] => []
  | h :: t =>
    let m := t.foldl (fun a v => min a (key v)) (key h)
    (bin.filter (fun v => decide (key v = m))).eraseDups

/-- An end of a bin: the element itself; a free value where the bin holds a NaN, or zeros of both signs reach it (assumption 2). -/
def binEnd (q : QueryDesc) (top : Bool) (bin : List Nat) (s : State) : State × Nat :=
  let nan := decide (q.fmt = 3) && bin.any f32NaN
  match nan, extremes q top bin with
  | false, [v] => (s, v)
  | _, _ => (s.freeNext, s.free.toNat % 2 ^ 32)

/-! ### The walk over the records (R403, R404) -/

/-- What a query has produced: output bytes, whether it stopped and whether at the limit, output units left before a cancel, records
selected, overwritten and bad, the first and last sequence number, the running index, the previous element, the open bin, and the status
of a failed read. -/
structure QueryAcc where
  bytes : List Nat := []
  stop : Bool := false
  cut : Bool := false
  left : Option Nat := none
  selected : Nat := 0
  overwritten : Nat := 0
  badCrc : Nat := 0
  first : Nat := 0
  last : Nat := 0
  index : Nat := 0
  prev : Option Nat := none
  bin : List Nat := []
  fail : Nat := 0
deriving DecidableEq, Repr, Inhabited

/-- Put out one whole output unit: it must fit under the limit behind the header, and the query stops once a cancel has its units (R406, R407). -/
def QueryAcc.unit (a : QueryAcc) (limit : Nat) (b : List Nat) : QueryAcc :=
  if a.stop then a
  else if a.left = some 0 then { a with stop := true }
  else if limit < 32 + a.bytes.length + b.length then { a with stop := true, cut := true }
  else { a with bytes := a.bytes ++ b, left := a.left.map (· - 1) }

/-- The open bin goes out: its minimum, then its maximum (R404). -/
def closeBin (q : QueryDesc) (a : QueryAcc) (s : State) : State × QueryAcc :=
  if a.bin = [] then (s, a)
  else
    let (s, lo) := binEnd q false a.bin s
    let (s, hi) := binEnd q true a.bin s
    let b := bytesOf q.outBytes (q.outElem lo) ++ bytesOf q.outBytes (q.outElem hi)
    (s, { a.unit q.limit b with bin := [] })

/-- Whether v crosses the threshold after p (R404). -/
def QueryDesc.crosses (q : QueryDesc) (p v : Nat) : Bool :=
  let t := elemOrder q.fmt 32 q.thr
  match elemOrder q.fmt q.bits p, elemOrder q.fmt q.bits v, t with
  | some p, some v, some t => if q.falling then decide (t ≤ p) && decide (v < t) else decide (p < t) && decide (t ≤ v)
  | _, _, _ => false

/-- The bytes of a hit: selected element i of a record with that stamp (fine steps) and sequence number. -/
def QueryDesc.hit (q : QueryDesc) (stamp seq i : Nat) : List Nat :=
  let t := (stamp + i * q.period / 2 ^ 16) % 2 ^ 72
  bytesOf 8 (t / 256) ++ [t % 256, 0, 0, 0] ++ bytesOf 4 seq

/-- The selected elements of a record, from element i on, enter the query. -/
def queryElems (q : QueryDesc) (stamp seq : Nat) (l : List Nat) (i : Nat) (a : QueryAcc) (s : State) : State × QueryAcc :=
  match l with
  | [] => (s, a)
  | v :: t =>
    if a.stop then (s, a)
    else
      let a' := { a with index := a.index + 1, prev := some v }
      let (s, a') :=
        if q.op = 2 then (s, if a.index % q.n = 0 then a'.unit q.limit (bytesOf q.outBytes (q.outElem v)) else a')
        else if q.op = 3 then
          let a' := { a' with bin := a.bin ++ [v] }
          if a'.bin.length = q.n then closeBin q a' s else (s, a')
        else match a.prev with
          | some p => (s, if q.crosses p v then a'.unit q.limit (q.hit stamp seq i) else a')
          | none => (s, a')
      queryElems q stamp seq t (i + 1) a' s

/-- The n lines from count c of an entry, read from DRAM: the first status that is not OK and the data (R351, R352). -/
def queryLines (x : DirEnt) (c n : Nat) (s : State) : State × Nat × Nat :=
  readEach n 0 (fun i s => match dramDecode s.ddr.sets (x.addr (c + i)) with
    | some (ch, a) => readLine ch (a / 64) 1 .none s
    | none => (s, 1, 0)) s

/-- A record that has been read, as a number, header lowest, in n lines: selected or not, and what it adds (R403, R404). -/
def queryRecord (q : QueryDesc) (n data : Nat) (a : QueryAcc) (s : State) : State × QueryAcc :=
  let words := nbits data 96 32
  let ok := decide (1 ≤ words ∧ words ≤ 4096) && decide (recLines words ≤ n) &&
    decide (crc32c (bytesOf 28 data ++ bytesOf (32 * words) (data / 2 ^ 256)) = nbits data 224 32)
  if !ok then (s, { a with badCrc := a.badCrc + 1 })
  else
    let key := if q.byCount then nbits data 0 64 else nbits data 128 64
    if key < q.lo ∨ q.hi ≤ key then (s, a)
    else
      let seq := nbits data 192 32
      let a := { a with selected := a.selected + 1, first := if a.selected = 0 then seq else a.first, last := seq }
      if q.op = 1 then (s, a.unit q.limit (bytesOf (64 * n) data))
      else queryElems q (nbits data 0 64 * 256 + nbits data 64 8) seq (q.elems (data / 2 ^ 256) (32 * words)) 0 a s

/-- The records from count c on: each is read, dropped when `oldest` has passed its first line, and taken; `j` numbers them, and the read of
record `rdFail` is answered with a status of its own (R403). -/
def queryWalk (q : QueryDesc) (l : List (Nat × Nat)) (c j : Nat) (rdFail : Option (Nat × Nat)) (a : QueryAcc) (s : State) :
    State × QueryAcc :=
  match l with
  | [] => (s, a)
  | (n, _) :: t =>
    if a.stop ∨ a.left = some 0 then (s, { a with stop := true })
    else
      let x := s.dirEnt q.seg
      let st0 := match rdFail with | some (k, st) => if k = j then st else 0 | none => 0
      let (s, st, data) := if st0 ≠ 0 then (s, st0, 0) else queryLines x c n s
      if st ≠ 0 then (s, { a with stop := true, fail := st })
      else if c < x.oldest then queryWalk q t (c + n) (j + 1) rdFail { a with overwritten := a.overwritten + 1 } s
      else
        let (s, a) := queryRecord q n data a s
        queryWalk q t (c + n) (j + 1) rdFail a s

/-- The last bin of an envelope may be shorter (R404). -/
def queryTail (q : QueryDesc) (a : QueryAcc) (s : State) : State × QueryAcc :=
  if q.op = 3 ∧ !a.stop then closeBin q a s else (s, a)

/-! ### Results (R405, R406) -/

/-- The lines that write bytes from address a on, enables set on those bytes. -/
def bytesLines (a : Nat) (b : List Nat) : List Line :=
  let x := ofBytes b * 2 ^ (8 * (a % 64))
  (List.range ((a % 64 + b.length + 63) / 64)).map (fun i =>
    (⟨lineBe a b.length i, BitVec.ofNat 512 (x / 2 ^ (512 * i))⟩ : Line))

/-- An initiator writes lines from address a on, at most an aligned 512-byte block at a time; n bounds the blocks. -/
def niWriteLines (n src queue key a : Nat) (l : List Line) (s : State) : State :=
  match n with
  | 0 => s
  | n + 1 =>
    let k := 8 - a / 64 % 8
    match l with
    | [] => s
    | _ => niWriteLines n src queue key ((a / 64 + k) * 64) (l.drop k)
        (niIssue { src := BitVec.ofNat 12 src, write := true, addr := BitVec.ofNat 48 a, lines := l.take k,
                   queue := Fin.ofNat 32 queue, key := Fin.ofNat 64 key } false s)

/-- The engine writes bytes to a query's destination at an offset; queue 16 to 19 by slot; nothing reaches a host whose link is down (R405, R407). -/
def queryWrite (e k : Nat) (q : QueryDesc) (off : Nat) (b : List Nat) (s : State) : State :=
  let a := q.dest + off
  if b = [] then s
  else match q.kind with
    | 0 => let l := bytesLines a b
           niWriteLines l.length (e * 256 + 0x11) (16 + k % 4) (s.dirEnt q.seg).key a l s
    | 1 => if s.on 0 PCIE_STAT_up then s.emit (.hostData a (b.map (BitVec.ofNat 8))) else s
    | 2 => s.emit (.peerData q.peer a (b.map (BitVec.ofNat 8)))
    | _ => s

/-- The result header (R406). -/
def queryHeader (q : QueryDesc) (a : QueryAcc) (status : Nat) : List Nat :=
  bytesOf 4 q.tag ++ [q.op, status] ++ bytesOf 2 a.cut.toNat ++ bytesOf 4 a.selected ++ bytesOf 2 (sat 16 a.overwritten) ++
    bytesOf 2 (sat 16 a.badCrc) ++ bytesOf 8 a.bytes.length ++ bytesOf 4 a.first ++ bytesOf 4 a.last

/-! ### Slots (R401, R407) -/

/-- The slots of an engine. -/
def querySlots : List Nat := List.range 64

/-- State code of a slot: 0 IDLE, 1 QUEUED, 2 RUNNING, 3 DONE, 4 ERROR. -/
def State.querySt (s : State) (e k : Nat) : Nat := s.f e (RECORD_QS_STAT_state k)

/-- The queries that wait in an engine. -/
def State.queryQueue (s : State) (e : Nat) : List Nat := KMap.look s.rec_.queue e

/-- The queries that run in an engine. -/
def State.queryRuns (s : State) (e : Nat) : Nat := (querySlots.filter (fun k => decide (s.querySt e k = 2))).length

/-- `RECORD_STAT` shows the queries. -/
def showQueries (e : Nat) (s : State) : State :=
  s.setFs e [(RECORD_STAT_running, s.queryRuns e), (RECORD_STAT_queued, (s.queryQueue e).length)]

/-- A query ends (R407): state and status, event, and the vector of flag 2. -/
def queryEnds (e k status noc n : Nat) (s : State) : State :=
  let q := s.query e k
  let s := s.setFs e [(RECORD_QS_STAT_state k, if status = 0 then 3 else 4), (RECORD_QS_STAT_status k, status),
    (RECORD_QS_STAT_noc k, noc), (RECORD_QS_RBYTES_value k, n)]
  let s := if status = 0 then s.evt e RECORD_EVT_query_done else s.evt e RECORD_EVT_query_err
  let s := { s with rec_ := { s.rec_ with span := KMap.put s.rec_.span (e * 64 + k) default } }
  s.when q.msix (raiseMsix (q.vector % 64))

/-- Status of a query that cannot start: 1 bad descriptor, 2 segment not defined or LOST (R406); 0 none. -/
def State.queryBad (s : State) (e k : Nat) : Nat :=
  let q := s.query e k
  let x := s.dirEnt q.seg
  if !q.legal then 1 else if x.state = 0 ∨ x.state = 4 then 2 else 0

/-- Queries start while fewer than 4 run, in the order of their go writes; one starts with `oldest` and `commit` read once (R403, R407). A query
whose segment has gone by then ends. -/
def startQueries (n e : Nat) (s : State) : State :=
  match n, s.queryQueue e with
  | n + 1, k :: t =>
    if 4 ≤ s.queryRuns e then s
    else
      let s := { s with rec_ := { s.rec_ with queue := KMap.put s.rec_.queue e t } }
      let q := s.query e k
      let st := s.queryBad e k
      if st ≠ 0 then startQueries n e (queryEnds e k st 0 0 (queryWrite e k q 0 (queryHeader q {} st) s))
      else
        let x := s.dirEnt q.seg
        let span := KMap.put s.rec_.span (e * 64 + k) (x.oldest, x.held)
        startQueries n e (({ s with rec_ := { s.rec_ with span := span } }).setF e (RECORD_QS_STAT_state k) 2)
  | _, _ => s

/-- Start what can start and show it. -/
def pumpQueries (e : Nat) (s : State) : State := showQueries e (startQueries 64 e s)

/-- QUERY_GO: a go write with a key index (R401, R407). -/
def queryGo (e k key : Nat) (s : State) : State :=
  if !s.live e ∨ s.querySt e k ≠ 0 then s
  else
    let q := s.query e k
    let st := s.queryBad e k
    let x := s.dirEnt q.seg
    let trusted := if k < 32 then s.f e ⟨RECORD_QTRUST_LO, k, 1⟩ = 1 else s.f e ⟨RECORD_QTRUST_HI, k - 32, 1⟩ = 1
    if st ≠ 0 then queryEnds e k st 0 0 (queryWrite e k q 0 (queryHeader q {} st) s)
    else if x.key ≠ 0 ∧ x.key ≠ key ∧ !trusted then queryEnds e k 3 0 0 s
    else
      let s := { s with rec_ := { s.rec_ with queue := KMap.put s.rec_.queue e (s.queryQueue e ++ [k]) } }
      pumpQueries e (s.setFs e [(RECORD_QS_STAT_state k, 1), (RECORD_QS_STAT_status k, 0), (RECORD_QS_STAT_noc k, 0), (RECORD_QS_RBYTES_value k, 0)])

/-- QUERY_GO (R401). -/
def execQueryGo (e : IoDie) (slot : Fin 64) (key : Fin 64) (s : State) : Res := run (queryGo e.val slot.val key.val) s

/-- A running query's work is put out and it ends: `left` output units before a cancel, `wr` the first status of its data writes that is not
OK (R403 to R407). -/
def queryFinish (e k : Nat) (left : Option Nat) (wr : Nat) (rdFail : Option (Nat × Nat)) (s : State) : State :=
  let q := s.query e k
  let (c, l) := KMap.look s.rec_.span (e * 64 + k)
  let (s, a) := queryWalk q l c 0 rdFail { left := left } s
  let (s, a) := queryTail q a s
  if q.kind = 1 ∧ !s.on 0 PCIE_STAT_up then queryEnds e k 6 0 0 s
  else
    let s := queryWrite e k q 32 a.bytes s
    let status := if wr ≠ 0 then 4 else if a.fail ≠ 0 then 8 else if left.isSome then 7 else 0
    let s := if status = 4 then s else queryWrite e k q 0 (queryHeader q a status) s
    queryEnds e k status (if status = 4 then wr else if status = 8 then a.fail else 0) a.bytes.length s

/-- QUERY_DONE: a running query's data writes are answered, its header is written and it ends (R406). -/
def queryDone (e k wr : Nat) (rdFail : Option (Nat × Nat)) (s : State) : State :=
  if !s.live e ∨ s.querySt e k ≠ 2 then s else pumpQueries e (queryFinish e k none wr rdFail s)

/-- QUERY_DONE (R406). -/
def execQueryDone (e : IoDie) (slot : Fin 64) (wrStatus : Byte) (rdFail : Option (Nat × Byte)) (s : State) : Res :=
  run (queryDone e.val slot.val wrStatus.toNat (rdFail.map (fun x => (x.1, x.2.toNat)))) s

/-- QUERY_CANCEL: a running query stops after `units` output units and writes its header; a queued one writes none (R407). -/
def queryCancel (e k units : Nat) (s : State) : State :=
  if !s.live e then s
  else if s.querySt e k = 2 then pumpQueries e (queryFinish e k (some units) 0 none s)
  else if s.querySt e k = 1 then
    let q := (s.queryQueue e).filter (fun i => decide (i ≠ k))
    pumpQueries e (queryEnds e k 7 0 0 { s with rec_ := { s.rec_ with queue := KMap.put s.rec_.queue e q } })
  else s

/-- QUERY_CANCEL (R407). -/
def execQueryCancel (e : IoDie) (slot : Fin 64) (units : Nat) (s : State) : Res := run (queryCancel e.val slot.val units) s

/-- QUERY_CLEAR: a DONE or ERROR slot returns to IDLE (R410). -/
def queryClear (e k : Nat) (s : State) : State :=
  if s.live e ∧ 3 ≤ s.querySt e k then s.setF e (RECORD_QS_STAT_state k) 0 else s

/-- QUERY_CLEAR (R410). -/
def execQueryClear (e : IoDie) (slot : Fin 64) (s : State) : Res := run (queryClear e.val slot.val) s

end Sys2Proof.Machine
end

