-- ==== Sys2Proof/Machine/Lanes.lean ====
section
/-! DEFINITION. Serial lanes (09): PLLs, starts, back-channel training, block lock, bundles and stamps. -/

namespace Sys2Proof.Machine

/-! ### Lanes and their registers (R267, R286) -/

/-- What logical lane l of die d holds. -/
def State.lane (s : State) (d l : Nat) : LaneSt := KMap.look s.lq.lane (d * 80 + l)

/-- Store it. -/
def State.setLane (s : State) (d l : Nat) (x : LaneSt) : State :=
  { s with lq := { s.lq with lane := KMap.put s.lq.lane (d * 80 + l) x } }

/-- A field of logical lane l. -/
def lf (l : Nat) (x : Nat → Nat → Fld) : Fld := x (l / 4) (l % 4)

/-- Lane states: `OFF`, `TRAINING`, `HUNTING`, `LOCKED`, `RAW`, `FAILED`. -/
def lOff : Nat := 0

/-- `TRAINING`. -/
def lTraining : Nat := 1

/-- `HUNTING`. -/
def lHunting : Nat := 2

/-- `LOCKED`. -/
def lLocked : Nat := 3

/-- `RAW`. -/
def lRaw : Nat := 4

/-- `FAILED`. -/
def lFailed : Nat := 5

/-- The state code of a lane. -/
def State.laneState (s : State) (d l : Nat) : Nat := s.f d (lf l LQ_L_STAT_state)

/-- The lane belongs to the PCI Express endpoint (R271, R286). -/
def isPcieLane (d l : Nat) : Bool := decide (d = 0) && decide (l < 16)

/-- The lane agent of the die or the Hawkmoth (R272). -/
def mayLane (i : Init) (d : Nat) : Bool := isHawkmoth i || isLaneAgentOf i d

/-- A write of the lane registers by another initiator is ignored (R272). -/
def laneRefuse (d q : Nat) (s : State) : State := s.evt d (LQ_EVT_refused q)

/-- The spare that a lane runs on, if any (R286). -/
def State.laneSpare (s : State) (d l : Nat) : Option Nat :=
  if KMap.look s.lq.spare (d * 4 + l / 20) = l + 1 then some (l / 20) else none

/-- The physical lane of a logical lane. -/
def State.lanePhys (s : State) (d l : Nat) : Nat := match s.laneSpare d l with | some k => 80 + k | none => l

/-- Set a lane's state, also in the registers of the spare that serves it (R297). -/
def setLaneState (d l st : Nat) (s : State) : State :=
  let s := s.setF d (lf l LQ_L_STAT_state) st
  match s.laneSpare d l with
  | some k => s.setFs d [(LQ_L_STAT_state 20 k, st), (LQ_L_STAT_phys 20 k, l)]
  | none => s

/-- An event of a lane's quad. -/
def laneEvt (d l : Nat) (x : Nat → Fld) (s : State) : State := s.evt d (x (l / 4))

/-- A contained error of a lane (R284). -/
def laneError (d : Nat) (s : State) : State := errReport d 7 .contained 0x1F 0 s

/-! ### Bundles (R282 to R284) -/

/-- The lanes of a bundle: 1, 2, 4 or 8 consecutive lanes from a multiple of its width. -/
def State.bundle (s : State) (d l : Nat) : List Nat :=
  let w := 2 ^ bitsOf (s.lane d l).cfg 13 2
  (List.range w).map (fun i => l / w * w + i)

/-- The bundle of a lane is up. -/
def State.bundleUp (s : State) (d l : Nat) : Bool := s.on d (lf l LQ_L_STAT_bundle_up)

/-- The enabled Itastea port that runs over lane l of die d (R299). -/
def State.portOfLane (s : State) (d l : Nat) : Option Nat :=
  allPorts.find? (fun p => decide (portDie p = d) && decide (s.pf p ITA_P_CFG_en = 1) && decide (s.pf p ITA_P_CFG_lane0 ≤ l) &&
    decide (l < s.pf p ITA_P_CFG_lane0 + 2 ^ s.pf p ITA_P_CFG_width))

/-- The port over a lane that has lost its bundle goes DOWN with reason 1 (R309). -/
def portLost (d l : Nat) (s : State) : State :=
  match s.portOfLane d l with
  | some p => if s.portSends p then portDown p 1 s else s
  | none => s

/-- Bundle-up falls: the end marker once, the event and a contained error (R284). -/
def bundleStop (d l : Nat) (s : State) : State :=
  let b := s.bundle d l
  let s' := s.each b (fun s k => (s.setF d (lf k LQ_L_STAT_bundle_up) 0).setLane d k { s.lane d k with align := none })
  if s.bundleUp d l then portLost d l (laneError d ((laneEvt d l LQ_EVT_bundle_stop s').emit (.laneEos d (b.headD l)))) else s'

/-- Bundle-up rises; an Itastea port over it enters LINKUP (R308). -/
def bundleStart (d l : Nat) (s : State) : State :=
  if s.bundleUp d l then s
  else
    let s := s.each (s.bundle d l) (fun s k =>
      (s.setF d (lf k LQ_L_STAT_bundle_up) 1).setLane d k { s.lane d k with fresh := true })
    match s.portOfLane d l with
    | some p => portLinkUp p s
    | none => s

/-- The bundle of a lane rises without align blocks: a bundle of one lane, a raw bundle, or one with noalign, once every lane is
locked or raw (R282). -/
def bundleCheck (d l : Nat) (s : State) : State :=
  let b := s.bundle d l
  let cfg := (s.lane d l).cfg
  let ready := b.all (fun k => decide (s.laneState d k = lLocked) || decide (s.laneState d k = lRaw))
  if ready && (decide (b.length = 1) || bitsOf cfg 15 1 == 1 || bitsOf cfg 0 3 == 1) then bundleStart d l s else s

/-- A lane fails with a reason (R268, R276). -/
def laneFail (d l reason : Nat) (s : State) : State :=
  let s := (setLaneState d l lFailed (bundleStop d l s)).setF d (lf l LQ_L_STAT_reason) reason
  laneError d (laneEvt d l LQ_EVT_train_fail s)

/-! ### Rates and PLLs (R268) -/

/-- The rate of a lane's configuration in kb/s. -/
def State.laneRate (s : State) (d l : Nat) (cfg : Word) : Nat :=
  let r := if bitsOf cfg 3 1 = 0 then s.f d (LQ_PLLA_rate_kbps (l / 4)) else s.f d (LQ_PLLB_rate_kbps (l / 4))
  r / 2 ^ bitsOf cfg 4 2

/-- A PLL rate in range. -/
def pllRange (r : Nat) : Bool := decide (8000000 ≤ r) && decide (r ≤ 53125000)

/-- The PLL that a lane takes its rate from gives it a clock; a spare runs from its own PLL, set to the same rate (R286). -/
def State.laneClock (s : State) (d l : Nat) (cfg : Word) : Bool :=
  let a := decide (bitsOf cfg 3 1 = 0)
  let r := if a then s.f d (LQ_PLLA_rate_kbps (l / 4)) else s.f d (LQ_PLLB_rate_kbps (l / 4))
  let lock := if a then s.on d (LQ_STAT_a_lock (l / 4)) else s.on d (LQ_STAT_b_lock (l / 4))
  ((s.laneSpare d l).isSome || lock) && pllRange r && decide (1000000 ≤ s.laneRate d l cfg)

/-! ### The board table (R277, R278) -/

/-- n bytes of a flash. -/
def State.flashBytes (s : State) (flash : Bool) (a n : Nat) : List Nat :=
  (List.range n).map (fun i => (s.flashByte flash (a + i)).toNat)

/-- Cut a byte list into entries of n bytes, at most `fuel` of them. -/
def cutBytes (fuel n : Nat) (l : List Nat) : List (List Nat) :=
  match fuel with
  | 0 => []
  | fuel + 1 => if l.length < n then [] else l.take n :: cutBytes fuel n (l.drop n)

/-- The entries of a flash's board table; none when its magic, version, size or CRC is wrong. -/
def State.boardCopy (s : State) (flash : Bool) : Option (List (List Nat)) :=
  let h := s.flashBytes flash 0x600000 16
  let v := h.getD 4 0
  let size := h.getD 5 0
  let n := ofBytes ((h.drop 6).take 2)
  if ofBytes (h.take 4) ≠ 0x5442564F ∨ !((v == 5 && size == 8) || (v == 6 && size == 12)) ∨ n = 0 ∨ 1024 < n then none
  else
    let body := s.flashBytes flash 0x600010 (n * size)
    if crc32c body = ofBytes ((h.drop 8).take 4) then some (cutBytes n size body) else none

/-- The taps of R273: pre, post, main. -/
def tapsOk (pre post main : Nat) : Bool :=
  decide (pre + main + post = 63) && decide (pre ≤ 15) && decide (post ≤ 24) && decide (15 + pre + post ≤ main)

/-- The usable entries of the board table: NVM0's, or NVM1's when that copy fails (R278; 14, "NVM layout"). -/
def State.boardTable (s : State) : List (List Nat) :=
  let l := (s.boardCopy false).getD ((s.boardCopy true).getD [])
  l.filter (fun e => decide (e.getD 1 0 < 80) && tapsOk (e.getD 2 0) (e.getD 3 0) (e.getD 4 0))

/-- The rate of an entry; 0 for any rate. -/
def boardRate (e : List Nat) : Nat := ofBytes (e.drop 8)

/-- The entry that a lane uses (R278). -/
def State.boardEntry (s : State) (d l rate : Nat) : Option (List Nat) :=
  let m := s.boardTable.filter (fun e => decide (e.getD 0 0 = d) && decide (e.getD 1 0 = l))
  (m.find? (fun e => decide (boardRate e = rate) && decide (rate ≠ 0))).or (m.find? (fun e => decide (boardRate e = 0)))

/-! ### Starting and stopping (R268, R272, R274, R276, R278, R279, R297) -/

/-- The taps and CTLE codes of a lane at its start (R274, R278). -/
def laneEq (d l : Nat) (cfg : Word) (s : State) : State :=
  let rate := s.laneRate d l cfg
  let codes := (Config.ctleCodes rate).toNat
  let s := s.setFs d [(lf l LQ_L_RXEQ_ctle, codes % 32), (lf l LQ_L_RXEQ_gain, codes / 32), (lf l LQ_L_TXEQ_from_table, 0),
    (lf l LQ_L_TXEQ_negotiated, 0)]
  if bitsOf cfg 6 1 = 1 ∨ s.lq.board then
    match s.boardEntry d l rate with
    | some e =>
      s.setFs d [(lf l LQ_L_TXEQ_pre, e.getD 2 0), (lf l LQ_L_TXEQ_post, e.getD 3 0), (lf l LQ_L_TXEQ_main, e.getD 4 0),
        (lf l LQ_L_TXEQ_from_table, 1), (lf l LQ_L_RXEQ_ctle, e.getD 5 0), (lf l LQ_L_RXEQ_gain, e.getD 6 0),
        (lf l LQ_L_CFG_tx_inv, e.getD 7 0 % 2), (lf l LQ_L_CFG_rx_inv, e.getD 7 0 / 2 % 2)]
    | none => laneEvt d l LQ_EVT_no_entry s
  else s

/-- The receiver has its equalization: a raw lane runs, another hunts (R276, R280). -/
def laneHunt (d l : Nat) (s : State) : State :=
  let x := s.lane d l
  let s := s.setLane d l { x with count := 0, window := [], align := none }
  if bitsOf x.cfg 0 3 = 1 then bundleCheck d l (setLaneState d l lRaw s) else setLaneState d l lHunting s

/-- A lane starts from its configuration. -/
def laneStart (d l : Nat) (s : State) : State :=
  let s := bundleStop d l s
  let cfg := s.rd d (LQ_L_CFG (l / 4) (l % 4))
  let s := s.setLane d l { cfg := cfg }
  let s := s.setFs d [(lf l LQ_L_STAT_reason, 0), (lf l LQ_L_STAT_phys, s.lanePhys d l)]
  if bitsOf cfg 0 3 = 0 then (setLaneState d l lOff s).setF d (lf l LQ_L_STAT_phys) 0x7F
  else if !s.laneClock d l cfg then laneFail d l 3 s
  else
    let s := laneEq d l cfg s
    let board := decide (bitsOf cfg 6 1 = 1) || s.lq.board
    if bitsOf cfg 7 1 = 1 ∧ !board then
      let pre := s.f d (lf l LQ_L_TXEQ_pre)
      let post := s.f d (lf l LQ_L_TXEQ_post)
      setLaneState d l lTraining (s.setLane d l { cfg := cfg, startPre := pre, startPost := post })
    else laneHunt d l s

/-- A lane stops: `OFF`, its transmitter in electrical idle. -/
def laneStop (d l : Nat) (s : State) : State :=
  (setLaneState d l lOff (bundleStop d l s)).setFs d [(lf l LQ_L_STAT_reason, 0), (lf l LQ_L_STAT_phys, 0x7F)]

/-- An operation of `LQ_CMD`: by the lane agent or the Hawkmoth, on a lane that is neither a spare nor the endpoint's. -/
def laneOp (i : Init) (d q n : Nat) (f : Nat → State → State) (s : State) : State :=
  if !s.live d then s
  else if !mayLane i d then laneRefuse d q s
  else if 20 ≤ q ∨ isPcieLane d (4 * q + n) then s
  else f (4 * q + n) s

/-- LANE_RETRAIN (R297). -/
def execLaneRetrain (i : Init) (d : IoDie) (q : Fin 21) (n : Fin 4) (s : State) : Res :=
  run (laneOp i d.val q.val n.val (laneStart d.val)) s

/-- LANE_STOP (R297). -/
def execLaneStop (i : Init) (d : IoDie) (q : Fin 21) (n : Fin 4) (s : State) : Res :=
  run (laneOp i d.val q.val n.val (laneStop d.val)) s

/-- LANE_START (R297). -/
def execLaneStart (i : Init) (d : IoDie) (q : Fin 21) (n : Fin 4) (s : State) : Res :=
  run (laneOp i d.val q.val n.val (laneStart d.val)) s

/-- The lanes of a quad that take their rate from PLL A, or B, and run. -/
def State.pllLanes (s : State) (d q : Nat) (b : Bool) : List Nat :=
  ([0, 1, 2, 3].map (fun n => 4 * q + n)).filter (fun l =>
    let st := s.laneState d l
    decide (q < 20) && !isPcieLane d l && (s.laneSpare d l).isNone && decide (bitsOf (s.lane d l).cfg 3 1 = b.toNat) &&
      decide (1 ≤ st) && decide (st ≤ 4))

/-- A PLL stops or loses lock: its lanes are without a clock (R268, R297). -/
def pllGone (d q : Nat) (b : Bool) (s : State) : State :=
  let s := s.setF d (if b then LQ_STAT_b_lock q else LQ_STAT_a_lock q) 0
  s.each (s.pllLanes d q b) (fun s l => laneFail d l 3 s)

/-- A write of `LQ_PLLA` or `LQ_PLLB`: the PLL starts, or stays stopped with pll_range (R268, R297). -/
def lanePllWrite (i : Init) (d q : Nat) (b : Bool) (v : Word) (s : State) : State :=
  if !s.live d then s
  else if !mayLane i d then laneRefuse d q s
  else if 20 ≤ q then s
  else
    let r := if b then LQ_PLLB q else LQ_PLLA q
    let same := decide (s.rd d r = v &&& 0x83FFFFFF)
    let s := s.wr d r (v &&& 0x83FFFFFF)
    if same then s
    else
      let s := pllGone d q b s
      s.when (bitsOf v 31 1 == 1 && !pllRange (bitsOf v 0 26)) (fun s => s.evt d (LQ_EVT_pll_range q))

/-- LANE_PLL_WRITE (R268). -/
def execLanePllWrite (i : Init) (d : IoDie) (q : Fin 21) (b : Bool) (v : Word) (s : State) : Res :=
  run (lanePllWrite i d.val q.val b v) s

/-- LANE_PLL_LOCKED: an enabled PLL in range reaches lock (R268). -/
def pllLocked (d q : Nat) (b : Bool) (s : State) : State :=
  let en := if b then s.on d (LQ_PLLB_en q) else s.on d (LQ_PLLA_en q)
  let r := if b then s.f d (LQ_PLLB_rate_kbps q) else s.f d (LQ_PLLA_rate_kbps q)
  if en && pllRange r then s.setF d (if b then LQ_STAT_b_lock q else LQ_STAT_a_lock q) 1 else s

/-- LANE_PLL_LOCKED (R268). -/
def execLanePllLocked (d : IoDie) (q : Fin 21) (b : Bool) (s : State) : Res := run (pllLocked d.val q.val b) s

/-- LANE_PLL_LOCK_LOST: a running PLL loses lock (R297). -/
def pllLost (d q : Nat) (b : Bool) (s : State) : State :=
  if s.on d (if b then LQ_STAT_b_lock q else LQ_STAT_a_lock q) then (pllGone d q b s).evt d (LQ_EVT_pll_unlock q) else s

/-- LANE_PLL_LOCK_LOST (R297). -/
def execLanePllLockLost (d : IoDie) (q : Fin 21) (b : Bool) (s : State) : Res := run (pllLost d.val q.val b) s

/-! ### Back-channel training (R274 to R276) -/

/-- A tap after a request (0 hold, 1 increment, 2 decrement, 3 return to start), and the outcome: 0 none, 1 updated, 2 at limit, 3 refused
under R273; `other` is the other side tap and `top` the tap's own limit (R275). -/
def tapRequest (req cur start other top : Nat) : Nat × Nat :=
  let try' (v : Nat) : Nat × Nat := if 15 + 2 * (v + other) ≤ 63 then (v, 1) else (cur, 3)
  match req with
  | 1 => if top ≤ cur then (cur, 2) else try' (cur + 1)
  | 2 => if cur = 0 then (cur, 2) else (cur - 1, 1)
  | 3 => try' start
  | _ => (cur, 0)

/-- The training block that a lane sends (R275). -/
def trainBlk (d l reqPre reqPost rx : Nat) (s : State) : BitVec 64 :=
  let x := s.lane d l
  let v := 0xE1 + reqPre % 4 * 2 ^ 8 + reqPost % 4 * 2 ^ 10 + rx * 2 ^ 14 + x.stPre * 2 ^ 16 + x.stPost * 2 ^ 18 +
    s.f d (lf l LQ_L_TXEQ_pre) * 2 ^ 20 + s.f d (lf l LQ_L_TXEQ_post) * 2 ^ 24 + l * 2 ^ 32 + d * 2 ^ 39 + x.seq * 2 ^ 40
  BitVec.ofNat 64 (v + crc16 (bytesOf 6 v) * 2 ^ 48)

/-- Training ends when 16 blocks with ready have come and the receiver is ready: 16 blocks with done go out, and the lane hunts (R276). -/
def trainEnd (d l : Nat) (s : State) : State :=
  let x := s.lane d l
  if s.laneState d l = lTraining ∧ 16 ≤ x.ready ∧ x.own then
    let s := s.emit (.laneTrain d l 16 (trainBlk d l 0 0 2 s))
    laneHunt d l (s.setF d (lf l LQ_L_TXEQ_negotiated) 1)
  else s

/-- TRAINING_BLOCK: a training block's requests change the taps, and its far-end state counts (R275, R276). -/
def trainingBlock (d l : Nat) (b : Nat) (s : State) : State :=
  if s.laneState d l ≠ lTraining ∨ nbits b 0 8 ≠ 0xE1 ∨ crc16 (bytesOf 6 (b % 2 ^ 48)) ≠ nbits b 48 16 then s
  else
    let x := s.lane d l
    let pre := s.f d (lf l LQ_L_TXEQ_pre)
    let post := s.f d (lf l LQ_L_TXEQ_post)
    let (pre', a) := tapRequest (nbits b 8 2) pre x.startPre post 15
    let (post', c) := tapRequest (nbits b 10 2) post x.startPost pre' 24
    let s := s.setFs d [(lf l LQ_L_TXEQ_pre, pre'), (lf l LQ_L_TXEQ_post, post'), (lf l LQ_L_TXEQ_main, 63 - pre' - post')]
    let rx := nbits b 14 2
    trainEnd d l (s.setLane d l { x with
      stPre := if a = 0 then x.stPre else a, stPost := if c = 0 then x.stPost else c, valid := true,
      ready := if rx = 1 then x.ready + 1 else x.ready })

/-- TRAINING_BLOCK (R275). -/
def execTrainingBlock (d : IoDie) (l : Fin 80) (b : BitVec 64) (s : State) : Res := run (trainingBlock d.val l.val b.toNat) s

/-- TRAINING_ROUND_END: a round ends with a margin; the request goes out, with ready after 8 rounds without a better margin (R276). -/
def trainingRound (d l pre post : Nat) (better : Bool) (margin : Nat) (s : State) : State :=
  if s.laneState d l ≠ lTraining then s
  else
    let x := s.lane d l
    let n := if better then 0 else x.rounds + 1
    let own := x.own || decide (8 ≤ n)
    let s := (s.setF d (lf l LQ_L_STAT_margin) margin).setLane d l { x with rounds := n, own := own }
    let s := s.emit (.laneTrain d l 1 (trainBlk d l pre post own.toNat s))
    trainEnd d l (s.setLane d l { s.lane d l with seq := (x.seq + 1) % 256 })

/-- TRAINING_ROUND_END (R276). -/
def execTrainingRoundEnd (d : IoDie) (l : Fin 80) (pre post : Fin 4) (better : Bool) (margin : Fin 64) (s : State) : Res :=
  run (trainingRound d.val l.val pre.val post.val better margin.val) s

/-- TRAINING_TIMEOUT: 2 ms without a valid block, or (`long`) 20 ms without an end (R276). -/
def trainingTimeout (d l : Nat) (long : Bool) (s : State) : State :=
  if s.laneState d l ≠ lTraining then s
  else if long then laneFail d l 2 s
  else if (s.lane d l).valid then s
  else laneFail d l 1 s

/-- TRAINING_TIMEOUT (R276). -/
def execTrainingTimeout (d : IoDie) (l : Fin 80) (long : Bool) (s : State) : Res := run (trainingTimeout d.val l.val long) s

/-! ### Block lock and delivery (R280 to R285) -/

/-- A valid header: 01 or 10 (R280). -/
def hdrValid (h : Nat) : Bool := h == 1 || h == 2

/-- The engine consumes idle, align and training blocks (R280). -/
def consumed (ctl : Bool) (payload : Nat) : Bool :=
  ctl && (nbits payload 0 8 == 0x1E || nbits payload 0 8 == 0x4B || nbits payload 0 8 == 0xE1)

/-- A locked lane's block goes to its bundle's words (R281, R283, R284); `full` says that the engine's FIFO has no room. -/
def laneDeliver (d l h : Nat) (payload : BitVec 64) (full : Bool) (s : State) : State :=
  let err := !hdrValid h
  let p := if err then 0 else payload
  let ctl := decide (h = 1)
  if !s.bundleUp d l ∨ (!err && consumed ctl p.toNat) then s
  else if full then
    let k := (s.bundle d l).headD l
    if k = l then laneError d ((s.inc d (lf l LQ_L_DROP_value) 1).evt d (LQ_EVT_drop (l / 4))) else s
  else
    let x := s.lane d l
    (s.setLane d l { x with fresh := false }).emit (.laneBlock d l ctl err x.fresh p)

/-- LANE_BLOCK: a block with its sync header arrives on a hunting or locked lane (R281); the header's bit 0 is sent first, so header 10 of
the manual is the number 1. -/
def laneBlock (d l h : Nat) (payload : BitVec 64) (full : Bool) (s : State) : State :=
  let x := s.lane d l
  let ok := hdrValid h
  if s.laneState d l = lHunting then
    if !ok then s.setLane d l { x with count := 0, slip := (x.slip + 1) % 66 }
    else if x.count + 1 < 64 then s.setLane d l { x with count := x.count + 1 }
    else bundleCheck d l (laneEvt d l LQ_EVT_lock (setLaneState d l lLocked (s.setLane d l { x with count := 64, window := [] })))
  else if s.laneState d l = lLocked then
    let w := (ok :: x.window).take 64
    let s := s.when (!ok) (fun s => s.inc d (lf l LQ_L_HDRERR_value) 1)
    if 16 ≤ (w.filter (fun v => !v)).length then
      let s := laneError d (laneEvt d l LQ_EVT_lock_lost (s.inc d (lf l LQ_L_LOCKLOSS_value) 1))
      let s := setLaneState d l lHunting (bundleStop d l s)
      s.setLane d l { s.lane d l with count := 0, window := [], slip := (x.slip + 1) % 66 }
    else laneDeliver d l h payload full (s.setLane d l { x with window := w })
  else s

/-- LANE_BLOCK (R281). -/
def execLaneBlock (d : IoDie) (l : Fin 80) (hdr : BitVec 2) (payload : BitVec 64) (full : Bool) (s : State) : Res :=
  run (laneBlock d.val l.val hdr.toNat payload full) s

/-- ALIGN_BLOCK: an align block arrives on a locked lane of a bundle; equal counts on every lane raise bundle-up; lane 0 is stamped (R282,
R285). -/
def alignBlock (d l : Nat) (b : Nat) (stamp : Nat) (s : State) : State :=
  let bl := s.bundle d l
  if s.laneState d l ≠ lLocked ∨ nbits b 0 8 ≠ 0x4B then s
  else
    let n := nbits b 24 40
    let s := s.setLane d l { s.lane d l with align := some n }
    let s :=
      if bl.headD l = l then
        (s.wr64 d (LQ_L_ALTS_LO (l / 4) (l % 4)) (LQ_L_ALTS_HI (l / 4) (l % 4)) (stamp / 256)).wr d
          (LQ_L_ALTS_FINE (l / 4) (l % 4)) (BitVec.ofNat 32 (stamp % 256 + n % 2 ^ 24 * 256))
      else s
    if bl.all (fun k => decide ((s.lane d k).align = some n) && decide (s.laneState d k = lLocked)) &&
        decide (nbits b 16 8 = bl.length) then bundleStart d l s else s

/-- ALIGN_BLOCK (R282). -/
def execAlignBlock (d : IoDie) (l : Fin 80) (b : BitVec 64) (stamp : BitVec 72) (s : State) : Res :=
  run (alignBlock d.val l.val b.toNat stamp.toNat) s

/-! ### Spare lanes (R286, R287) -/

/-- Logical lane l of I/O die d is served by the spare of its group (R286). -/
def laneSpare (d l : Nat) (s : State) : State :=
  let s := { s with lq := { s.lq with spare := KMap.put s.lq.spare (d * 4 + l / 20) (l + 1) } }
  s.setFs d [(⟨SPARE_POOL, 16 + l / 20, 1⟩, 0), (LQ_L_STAT_phys 20 (l / 20), l)]

/-- A lane moves to its group's spare, which trains and hunts (R287). -/
def laneMove (d l : Nat) (s : State) : State :=
  let run' := decide (s.laneState d l ≠ lOff)
  let s := laneSpare d l (bundleStop d l s)
  if run' then laneStart d l s else s

/-- The lanes of a die that an image configures: all but the endpoint's. -/
def imageLanes (d : Nat) : List Nat := (List.range 80).filter (fun l => !isPcieLane d l)

/-- The lanes of a die that carry its enabled Itastea ports. -/
def State.itaLanes (s : State) (d : Nat) : List Nat := (imageLanes d).filter (fun l => (s.portOfLane d l).isSome)

/-- The lanes that step S13 runs on a die: all of the image, or in a degraded start those of the enabled Itastea ports (R449). -/
def State.s13Lanes (s : State) (d : Nat) : List Nat := if s.on 0 JOURNAL_STAT_degraded then s.itaLanes d else imageLanes d

/-- An enabled port begins to train; one with the upstream role that the device header does not name stays OFF with reason 8 (R300,
R308). -/
def portStart (p : Nat) (s : State) : State :=
  if s.pf p ITA_P_CFG_en = 0 ∨ !s.live (portDie p) then s
  else if s.upstream = p then (s.setPf p ITA_P_CFG_role 0).setPf p ITA_P_STAT_state 1
  else if s.portRole p = 0 then s.setPf p ITA_P_STAT_reason 8
  else s.setPf p ITA_P_STAT_state 1

/-- Step S13 configures the lanes of both I/O dies; `board` is the board-table variant (R272, R279). -/
def lanesStart (board : Bool) (s : State) : State :=
  let s := { s with lq := { s.lq with board := board } }
  let s := s.each allPorts (fun s p => portStart p s)
  s.each [0, 1] (fun s d => if s.live d then s.each (s.s13Lanes d) (fun s l => laneStart d l s) else s)

/-- The required lanes that S13 runs and that have not reached LOCKED or RAW (R279). -/
def State.lanesShort (s : State) : Nat :=
  let short (d : Nat) : Nat := ((s.s13Lanes d).filter (fun l =>
    s.on d (lf l LQ_L_CFG_req) && decide (s.laneState d l ≠ lLocked) && decide (s.laneState d l ≠ lRaw))).length
  short 0 + short 1

/-! ### Ports that train again (R308, R337) -/

/-- A port in DOWN retrains: it enters TRAINING, and its lanes train again (R308). -/
def portRetrain (p : Nat) (s : State) : State :=
  if s.portState p = 5 then
    let d := portDie p
    let l := s.pf p ITA_P_CFG_lane0
    (s.each (List.range (2 ^ s.pf p ITA_P_CFG_width)) (fun s k => laneStart d (l + k) s)).setPf p ITA_P_STAT_state 1
  else s

/-- PORT_RETRY_TIMEOUT: 100 ms have passed in DOWN (R308). -/
def execPortRetryTimeout (p : Fin 8) (s : State) : Res := run (portRetrain p.val) s

/-- ITA_PORT_UP_OP (R308, R337). -/
def execItaPortUpOp (i : Init) (p : Fin 8) (s : State) : Res := run (itaOp 2 i p.val (portRetrain p.val)) s

end Sys2Proof.Machine
end

