-- ==== Sys2Proof/Machine/Spares.lean ====
section
/-! DEFINITION. Spare commits and the wear map's entries (18, R520 to R525). -/

namespace Sys2Proof.Machine

/-! ### Bodies (R521) -/

/-- Byte i of a SPARE_COMMIT body. -/
def spareByte (b : BitVec 128) (i : Nat) : Nat := nbits b.toNat (8 * i) 8

/-- The memory block of a pool 3 body. -/
def spareBlk (b : BitVec 128) : Blk :=
  ⟨Fin.ofNat 8 (spareByte b 1 - 2), spareByte b 2 == 1, spareByte b 3, nbits b.toNat 32 16⟩

/-- The physical row of a pool 3 body. -/
def spareRow (b : BitVec 128) : Nat := nbits b.toNat 48 16

/-- The die index carries the pool (R520, R521). -/
def spareCarried (b : BitVec 128) : Bool :=
  let d := spareByte b 1
  match spareByte b 0 with
  | 1 | 2 | 3 => decide (2 ≤ d) && decide (d ≤ 9)
  | 4 => decide (d ≤ 9)
  | 5 => decide (d ≤ 1)
  | _ => false

/-- Every field is in range and every byte that the pool does not name is 0 (R521). -/
def spareInRange (b : BitVec 128) : Bool :=
  let y := spareByte b
  let zeroFrom (i : Nat) : Bool := decide (b.toNat / 2 ^ (8 * i) = 0)
  match y 0 with
  | 1 => decide (y 2 ≤ 4) && decide (y 3 ≤ 39) && zeroFrom 4
  | 2 => decide (y 2 = 0) && decide (y 3 ≤ 11) && zeroFrom 4
  | 3 => decide (y 2 ≤ 1) && (spareBlk b).exists && decide (spareRow b < if y 2 = 0 then 64 else 512) && zeroFrom 8
  | 4 => decide (y 2 ≤ 31) && moduleExists (y 1) (y 2) && decide (y 3 ≤ 1) && decide (y 4 ≤ 65) && zeroFrom 5
  | 5 => decide (y 2 ≤ 79) && zeroFrom 3
  | _ => false

/-- No spare is left for a body (detail 3 of R522). -/
def State.spareUsed (s : State) (b : BitVec 128) : Bool :=
  let y := spareByte b
  let d := y 1
  match y 0 with
  | 1 => decide (s.f d (REGIONS_REMAP_active (y 2)) ≠ noShift)
  | 2 => decide (s.f d REGIONS_CREMAP_active ≠ 0xF)
  | 3 => let x := s.blk (spareBlk b)
         decide (2 ≤ x.used.length + x.pend.length)
  | 4 => decide (2 ≤ (s.wires d (y 2) (y 3 == 1)).length)
  | 5 => decide (KMap.look s.lq.spare (d * 4 + y 2 / 20) ≠ 0)
  | _ => true

/-- The same group, CMB column or block row has an assignment already (detail 5 of R522). -/
def State.spareTaken (s : State) (b : BitVec 128) : Bool :=
  let y := spareByte b
  let d := y 1
  match y 0 with
  | 1 => decide (s.f d (REGIONS_REMAP_pending (y 2)) ≠ noShift)
  | 2 => decide (s.f d REGIONS_CREMAP_pending ≠ 0xF)
  | 3 => let x := s.blk (spareBlk b)
         x.used.contains (spareRow b) || x.pend.contains (spareRow b)
  | _ => false

/-- The detail that refuses a SPARE_COMMIT; 0 when it commits (R522). -/
def spareDetail (b : BitVec 128) (s : State) : Nat :=
  let y := spareByte b
  let d := y 1
  if !spareCarried b then 1
  else if !spareInRange b then 2
  else if s.spareUsed b then 3
  else if s.dieFenced d ∨ (y 0 = 4 ∧ s.on d (CORUG_EDGE_fenced (y 2 / 8))) then 4
  else if s.spareTaken b then 5
  else if y 0 = 5 ∧ isPcieLane d (y 2) then 6
  else if 8190 ≤ s.nv.wearEntries.length + s.err.queue.length ∨ 17 ≤ s.err.queue.length then 7
  else 0

/-! ### Assignments -/

/-- The spare column of a group is no longer free. -/
def poolTaken (d bit : Nat) (s : State) : State := s.setF d ⟨SPARE_POOL, bit, 1⟩ 0

/-- A spare is assigned (R520): a shift or a row waits for a load (`now` = false) or applies at once, as at S12 (R115); a wire is skipped; a
lane moves. -/
def spareAssign (b : BitVec 128) (now : Bool) (s : State) : State :=
  let y := spareByte b
  let d := y 1
  match y 0 with
  | 1 =>
    let s := poolTaken d (y 2) (s.setF d (REGIONS_REMAP_pending (y 2)) (y 3))
    if now then activateLogic d (y 2) s else markShiftWait d s
  | 2 =>
    let s := poolTaken d 5 (s.setF d REGIONS_CREMAP_pending (y 3))
    if now then activateCmb d s else markShiftWait d s
  | 3 =>
    let k := spareBlk b
    let x := s.blk k
    if now then s.setBlk k { x with used := x.used ++ [spareRow b] } else s.setBlk k { x with pend := x.pend ++ [spareRow b] }
  | 4 => skipWire d (y 2) (y 3 == 1) (y 4) s
  | 5 => laneMove d (y 2) s
  | _ => s

/-- An assignment fused at manufacture takes effect (R115, R520): a shift is active from the fuses. -/
def fusedAssign (b : BitVec 128) (s : State) : State :=
  let y := spareByte b
  let d := y 1
  match y 0 with
  | 1 => poolTaken d (y 2) (s.setFs d [(REGIONS_REMAP_active (y 2), y 3), (REGIONS_REMAP_from_fuse (y 2), 1)])
  | 2 => poolTaken d 5 (s.setFs d [(REGIONS_CREMAP_active, y 3), (REGIONS_CREMAP_from_fuse, 1)])
  | 3 => let x := s.blk (spareBlk b)
         s.setBlk (spareBlk b) { x with used := x.used ++ [spareRow b] }
  | 4 => skipWire d (y 2) (y 3 == 1) (y 4) s
  | 5 => laneSpare d (y 2) s
  | _ => s

/-- What the fuses of die d hold stands in its registers and tables after its reset (R115). -/
def fusedDie (d : Nat) (s : State) : State :=
  let s := s.each (s.fuses.regs.filter (fun e => decide (e.1 / 0x1000000 = d) && (fuseReset d (e.1 % 0x1000000)).isSome)) (fun s e => s.wr d (e.1 % 0x1000000) e.2)
  s.each s.fuses.spares (fun s b =>
    let far := match moduleFar (spareByte b 1) (spareByte b 2) with | some (f, _) => f | none => 10
    if spareCarried b && spareInRange b && (decide (spareByte b 1 = d) || (decide (spareByte b 0 = 4) && decide (far = d))) then fusedAssign b s
    else s)

/-- The fuses of every die. -/
def fusedAll (s : State) : State := s.each allDies (fun s d => fusedDie d s)

/-- A SPARE_COMMIT commits (R520, R524): the spare is assigned, a wire's swap starts (R251), the entry goes to the wear map, and the event of a
pool's last spare is set. -/
def spareCommit (b : BitVec 128) (s : State) : State × Nat :=
  let r := spareDetail b s
  if r ≠ 0 then (s, r)
  else
    let y := spareByte b
    let s := spareAssign b false s
    let s := s.when (decide (y 0 = 4)) (swapStart (y 1) (y 2))
    let s := s.when (s.spareUsed b || decide (y 0 ≤ 2)) (fun s => s.evt (y 1) SPARE_EVT_pool_empty)
    (wearPush b s, 0)

/-! ### Entries of the wear map (R115, R525) -/

/-- An entry of a fused shift at its own point is in effect already. -/
def State.spareSame (s : State) (b : BitVec 128) : Bool :=
  let y := spareByte b
  match y 0 with
  | 1 => decide (s.f (y 1) (REGIONS_REMAP_active (y 2)) = y 3) && s.on (y 1) (REGIONS_REMAP_from_fuse (y 2))
  | 2 => decide (s.f (y 1) REGIONS_CREMAP_active = y 3) && s.on (y 1) REGIONS_CREMAP_from_fuse
  | _ => false

/-- An entry may apply: it is well-formed, a spare is left and nothing earlier holds its place. -/
def State.spareFits (s : State) (b : BitVec 128) : Bool :=
  spareCarried b && spareInRange b && !s.spareUsed b && !s.spareTaken b &&
    !(decide (spareByte b 0 = 4) && (s.wires (spareByte b 1) (spareByte b 2) (spareByte b 3 == 1)).contains (spareByte b 4)) &&
    !(decide (spareByte b 0 = 5) && isPcieLane (spareByte b 1) (spareByte b 2))

/-- Apply the entries of some pools in order at a start (R525): those that do not fit are skipped and counted. Answers the skipped ones. -/
def wearApply (pools : List Nat) (l : List (BitVec 128)) (s : State) : State × List (BitVec 128) :=
  match l with
  | [] => (s, [])
  | b :: t =>
    if !pools.contains (spareByte b 0) ∨ s.spareSame b then wearApply pools t s
    else if s.spareFits b then wearApply pools t (spareAssign b true s)
    else
      let (s, u) := wearApply pools t ((s.inc 0 SPARE_STAT_skipped 1).evt 0 SPARE_EVT_skipped)
      (s, b :: u)

/-- The part of the detail of S12 that skipped logic entries give: the groups whose entry conflicts with a fused shift, and the lowest die that
has one (R115, R455). -/
def skipDetail (l : List (BitVec 128)) (s : State) : Nat :=
  let g := l.filter (fun b => decide (spareByte b 0 = 1) && s.on (spareByte b 1) (REGIONS_REMAP_from_fuse (spareByte b 2)))
  match g with
  | [] => 0
  | h :: t =>
    let d := t.foldl (fun a b => min a (spareByte b 1)) (spareByte h 1)
    let m := g.foldl (fun a b => if spareByte b 1 = d then a ||| 2 ^ (spareByte b 2 % 5) else a) 0
    m * 2 ^ 8 + d * 2 ^ 13

/-- Every entry that touches die d is applied after its reset outside a start, those that wait in the queue included (R115, R257). -/
def wearReapply (d : Nat) (s : State) : State :=
  s.each (s.nv.wearEntries ++ s.err.queue) (fun s b =>
    let y := spareByte b
    let far := match moduleFar (y 1) (y 2) with | some (f, _) => f | none => 10
    if !(spareCarried b && spareInRange b) then s
    else if y 0 ≤ 3 then
      if y 1 = d ∧ !s.spareSame b ∧ s.spareFits b then spareAssign b true s else s
    else if y 0 = 4 then
      if y 1 = d ∨ far = d then skipWire (y 1) (y 2) (y 3 == 1) (y 4) s else s
    else if y 1 = d ∧ KMap.look s.lq.spare (d * 4 + y 2 / 20) = y 2 + 1 then laneSpare d (y 2) s
    else s)

/-- SPARE_COMMIT: the command commits; what it answers in the log is the command block's (R491). -/
def execSpareCommit (b : BitVec 128) (s : State) : Res := run (fun s => (spareCommit b s).1) s

end Sys2Proof.Machine
end

