-- ==== Sys2Proof/Machine/Ucie.lean ====
section
/-! DEFINITION. The UCIe bridge to the accessory site (08): admission, units, partner requests and loss of the link. -/

namespace Sys2Proof.Machine

/-- UCIe states: `OFF`, `TRAINING`, `DISCOVERY`, `ADMITTED`, `REFUSED`, `DOWN`. -/
def uOff : Nat := 0

/-- `TRAINING`. -/
def uTraining : Nat := 1

/-- `DISCOVERY`. -/
def uDiscovery : Nat := 2

/-- `ADMITTED`. -/
def uAdmitted : Nat := 3

/-- `REFUSED`. -/
def uRefused : Nat := 4

/-- `DOWN`. -/
def uDown : Nat := 5

/-- The state code. -/
def State.ucie (s : State) : Nat := s.f 0 UCIE_STAT_state

/-- Admission is refused with a reason (R262). -/
def ucieRefuse (reason : Nat) (s : State) : State :=
  (s.setFs 0 [(UCIE_STAT_state, uRefused), (UCIE_STAT_reason, reason)]).evt 0 UCIE_EVT_refused

/-- UCIE_LINK_TRAINED: training ends at a rate, and the bridge sends its discovery request, or it failed (R260, R262). -/
def ucieTrained (ok : Bool) (rate : Nat) (s : State) : State :=
  if s.ucie ≠ uTraining then s
  else if ok then (s.setFs 0 [(UCIE_STAT_state, uDiscovery), (UCIE_STAT_rate, rate)]).emit .ucieDiscover
  else (s.setFs 0 [(UCIE_STAT_state, uDown), (UCIE_STAT_reason, 4)]).evt 0 UCIE_EVT_down

/-- UCIE_LINK_TRAINED (R260). -/
def execUcieLinkTrained (ok : Bool) (rate : Fin 8) (s : State) : Res := run (ucieTrained ok rate.val) s

/-- Fields of an allow-entry (R261): vendor and device, revisions, rate, key, flags. -/
def allowField (e : BitVec 128) (lo len : Nat) : Nat := nbits e.toNat lo len

/-- Vendor and device of an entry and of a reply agree. -/
def allowIds (b : Nat) (e : BitVec 128) : Bool := decide (nbits e.toNat 0 32 = nbits b 0 32)

/-- The revision of a reply lies in an entry's range. -/
def allowRev (b : Nat) (e : BitVec 128) : Bool :=
  decide (nbits e.toNat 32 8 ≤ nbits b 32 8) && decide (nbits b 32 8 ≤ nbits e.toNat 40 8)

/-- The allow-entries of the device header. -/
def State.allowList (s : State) : List (BitVec 128) := match s.start.hdr with | some h => h.allow | none => []

/-- UCIE_DISCOVERY_REPLY: the reply is matched against the entries in order; the first that matches admits the partner (R262). -/
def ucieReply (b : Nat) (s : State) : State :=
  if s.ucie ≠ uDiscovery then s
  else
    let s := s.each [0, 1, 2, 3] (fun s i => s.wr 0 (UCIE_DISC i) (BitVec.ofNat 32 (nbits b (32 * i) 32)))
    match s.allowList.zipIdx.find? (fun e => allowIds b e.1 && allowRev b e.1) with
    | none => ucieRefuse (if s.allowList.any (allowIds b) then 3 else 2) s
    | some (e, i) =>
      let cap := s.f 0 UCIE_CTRL_rate_cap
      let cap := if cap = 0 ∨ 4 < cap then 4 else cap
      let rate := min (nbits b 40 8) (min (nbits e.toNat 48 8) cap)
      let rate := min rate (s.f 0 UCIE_STAT_rate)
      let fl := nbits e.toNat 64 8
      let s := { s with acc := { opened := nbit fl 1, initiates := nbit fl 0, key := nbits e.toNat 56 6 } }
      (s.setFs 0 [(UCIE_STAT_state, uAdmitted), (UCIE_STAT_rate, rate), (UCIE_STAT_reason, 0), (UCIE_STAT_entry, i)]).evt 0
        UCIE_EVT_admitted

/-- UCIE_DISCOVERY_REPLY (R262). -/
def execUcieDiscoveryReply (b : BitVec 128) (s : State) : Res := run (ucieReply b.toNat) s

/-- UCIE_DISCOVERY_TIMEOUT (R262). -/
def execUcieDiscoveryTimeout (s : State) : Res := run (fun s => if s.ucie = uDiscovery then ucieRefuse 1 s else s) s

/-- The virtual channel of a flit's sideband: class and resp (R181, R190). -/
def flitVc (f : Nat) : Nat := nbits f 515 1 * 2 + nbits f 516 1

/-- UCIE_UNIT: a unit whose crc fails is discarded and closes every open packet; another delivers its flits (R259). -/
def ucieUnit (raw : Nat) (s : State) : State :=
  if s.ucie ≠ uAdmitted then s
  else if crc32c (bytesOf 252 raw) ≠ nbits raw 2016 32 then
    let s := (s.inc 0 UCIE_CRC_CNT_value 1).evt 0 UCIE_EVT_crc
    let vcs := [0, 1, 2, 3].filter (fun v => s.acc.openVc.getD v false)
    let s := { s with acc := { s.acc with openVc := [false, false, false, false] } }
    s.each vcs (fun s v => s.emit (.ucieClose v))
  else
    s.each [0, 1, 2] (fun s i =>
      let f := nbits raw (640 * i) 616
      if nbits f 512 2 = 0 then s
      else
        let s := { s with acc := { s.acc with openVc := s.acc.openVc.set (flitVc f) (!nbit f 514) } }
        s.emit (.ucieFlit i (BitVec.ofNat 616 f)))

/-- UCIE_UNIT (R259). -/
def execUcieUnit (raw : BitVec 2048) (s : State) : Res := run (ucieUnit raw.toNat) s

/-- A window of `UCIE_WINw`: base and limit. -/
def State.ucieWin (s : State) (w : Nat) : Nat × Nat :=
  (s.f 0 (UCIE_WIN_BASE_LO_addr w) * 4096 + s.f 0 (UCIE_WIN_BASE_HI_addr w) * 2 ^ 32,
   s.f 0 (UCIE_WIN_LIM_LO_addr w) * 4096 + s.f 0 (UCIE_WIN_LIM_HI_addr w) * 2 ^ 32)

/-- UCIE_PARTNER_REQUEST: a request of the partner enters the mesh when its entry lets it initiate and the request lies in a window;
otherwise the bridge answers access blocked (R263). -/
def partnerRequest (r : PartnerReq) (s : State) : State :=
  if s.ucie ≠ uAdmitted then s
  else
    let a := r.addr.toNat
    let n := if r.write then a / 64 * 64 + 64 * r.lines.length - a else r.count.val + 1
    let h : Hdr :=
      { srcX := 15, srcY := 0, srcId := 0xA00 + r.ep.toNat, opcode := if r.write then 1 else 0, key := s.acc.key,
        queue := r.queue.val, seq := r.seq.val, flits := r.lines.length, addr := a, count := if r.write then 0 else r.count.val }
    let inside := [0, 1, 2, 3].any (fun w => decide ((s.ucieWin w).1 ≤ a) && decide (a + n ≤ (s.ucieWin w).2))
    if !s.acc.initiates || !inside then
      ((s.inc 0 UCIE_BLOCK_CNT_value 1).evt 0 UCIE_EVT_blocked).emit (.ucieAnswer (h.answer 4 0x0C 0) [])
    else match s.decodeAddr a n with
      | none => s.emit (.ucieAnswer (h.answer 4 1 0) [])
      | some l => s.each l (fun s t =>
          let (x, y) := (epRouter t.die t.ep).getD (0, 0)
          let h := { h with dstX := x, dstY := y, dstEp := t.ep, addr := t.addr, count := if r.write then 0 else t.bytes - 1 }
          let base := a / 64 * 64
          let ls := (r.lines.drop ((t.addr / 64 * 64 - base) / 64)).take ((t.addr + t.bytes + 63) / 64 - t.addr / 64)
          s.emit (.packet { h with flits := ls.length } (mkFlits ls)))

/-- UCIE_PARTNER_REQUEST (R263). -/
def execUciePartnerRequest (r : PartnerReq) (s : State) : Res := run (partnerRequest r) s

/-- The link goes down (R264). -/
def ucieLost (s : State) : State :=
  if s.ucie = uTraining ∨ s.ucie = uDiscovery ∨ s.ucie = uAdmitted then (s.setF 0 UCIE_STAT_state uDown).evt 0 UCIE_EVT_down else s

/-- UCIE_LINK_DOWN (R264). -/
def execUcieLinkDown (s : State) : Res := run ucieLost s

/-- `UCIE_CMD.admit`: from REFUSED or DOWN, retrain, discover and admit again; an OV-7160 has an empty site (R258, R266). -/
def ucieAdmit (i : Init) (s : State) : State :=
  if !isHawkmoth i || !s.live 0 then s
  else if s.fuses.variant = 0 then s.setF 0 UCIE_STAT_reason 5
  else if s.ucie = uRefused ∨ s.ucie = uDown then
    ({ s with acc := {} }).setFs 0 [(UCIE_STAT_state, uTraining), (UCIE_STAT_rate, 0), (UCIE_STAT_reason, 0), (UCIE_STAT_entry, 0)]
  else s

/-- UCIE_ADMIT (R264). -/
def execUcieAdmit (i : Init) (s : State) : Res := run (ucieAdmit i) s

/-- UCIE_DOWN: `UCIE_CMD.down` (R264). -/
def execUcieDown (i : Init) (s : State) : Res := run (fun s => if isHawkmoth i then ucieLost s else s) s

end Sys2Proof.Machine
end

