-- ==== Sys2Proof/Machine/Reset.lean ====
section
/-! DEFINITION. Resets (R13, R440, R497, R541) and the safe state (R548): the one operation of each that every command uses. -/

namespace Sys2Proof.Machine

/-! ### One die (R497, R541, R592) -/

/-- Die d is lost to the others: its edges and its status link fence, and a load that names it aborts (R253, R434, R615). -/
def dieLost (d cause : Nat) (s : State) : State := loadDieLost d (fenceDie d cause s)

/-- STATUS_LINK_FENCE (R434, R615). -/
def execStatusLinkFence (d : Die) (s : State) : Res := run (fun s => loadDieLost d.val (linkFence d.val s)) s

/-- Drop the keys of a table from d * n up to (d + 1) * n. -/
def dropDie {α : Type} (m : KMap α) (d n : Nat) : KMap α := KMap.dropRange m (d * n) ((d + 1) * n)

/-- The cores of die d (R466). -/
def dieCores (d : Nat) : List Nat := if d = 0 then [0, 1, 2] else if d = 1 then [3, 4] else [d + 3]

/-- The fabric of die d resets: every region UNLOADED, memories and CMBs at their reset state (R99, R146, R166). -/
def resetFabric (d : Nat) (s : State) : State :=
  let k := d - 2
  let fab := { s.fab with
    waiting := dropDie s.fab.waiting k 24, engReady := KMap.put s.fab.engReady d false,
    frame := dropDie s.fab.frame d (24 * 0x10000) }
  let cmb := { s.cmb with
    blk := dropDie s.cmb.blk d 6656, report := KMap.put s.cmb.report d [], fifo := KMap.put s.cmb.fifo d [] }
  let mem := { s.mem with
    word := dropDie s.mem.word k (2 * 32 * 256 * 4096), blk := dropDie s.mem.blk k (2 * 32 * 256),
    report := KMap.put s.mem.report d [], fifo := KMap.put s.mem.fifo d [], window := KMap.put s.mem.window d [] }
  { s with fab := fab, cmb := cmb, mem := mem }

/-- The mesh of die d resets: routers, interfaces of its initiators, retry flags, schedules, probes, statistics (R208, R224). -/
def resetMesh (d : Nat) (s : State) : State :=
  let net := { s.net with
    ents := s.net.ents.filter (fun e => decide (e.req.src.toNat / 256 ≠ d)), seq := dropDie s.net.seq d (256 * 32),
    force := dropDie s.net.force d (256 * 32 * 65536), flag := dropDie s.net.flag d (256 * 4096 * 32),
    taken := dropDie s.net.taken d (256 * 4096 * 32 * 1024) }
  let sch := { s.sch with
    entry := dropDie s.sch.entry d 8192, hdr := dropDie s.sch.hdr d 2, active := KMap.put s.sch.active d 0,
    spent := dropDie s.sch.spent d 4096 }
  { s with
    net := net, sch := sch, rtr := s.rtr.filter (fun e => decide (dieIndex (e.1 % 16) (e.1 / 16) ≠ d)),
    probe := dropDie s.probe d 16, stats := dropDie s.stats d (256 * 32) }

/-- A swap under check no longer waits for a die that has been reset (R220). -/
def resetSwap (d : Nat) (s : State) : State :=
  if s.sch.arm.isSome ∧ s.sch.checking.contains d then
    let l := s.sch.checking.erase d
    if l.isEmpty then
      let p := s.sch.arm
      (swapCheckEnd { s with sch := { s.sch with pend := p } }).setF 0 PROBES_SCH_SWSTAT_pending 1
    else { s with sch := { s.sch with checking := l } }
  else s

/-- The Corug ports of die d reset. -/
def resetPorts (d : Nat) (s : State) : State :=
  let c := { s.corug with
    train := KMap.put s.corug.train d 0, born := dropDie s.corug.born d 4, chan := dropDie s.corug.chan d 128,
    credit := dropDie s.corug.credit d 32, swap := dropDie s.corug.swap d 32 }
  { s with corug := c }

/-- The I/O part of ION resets: lanes, DRAM channels, record engine, Itastea ports, GPIO (R272, R342, R398). -/
def resetIo (s : State) : State :=
  let s := recIonReset (s.each [4, 5, 6, 7] (fun s p => if s.portSends p then portDown p 1 s else s))
  let s := s.each [4, 5, 6, 7] (fun s c => (dramLost c s).setDdrChan c {})
  let out (k : Nat) : Bool := decide (k / 2 ^ 28 / 256 < 4)
  let miu := { s.miu with
    cache := s.miu.cache.filter (fun e => out e.1), tries := s.miu.tries.filter (fun e => out e.1),
    wait := s.miu.wait.filter (fun w => decide (w.chan < 4)), fifo := KMap.put s.miu.fifo 1 [] }
  let rec_ := { s.rec_ with queue := KMap.put s.rec_.queue 1 [], span := dropDie s.rec_.span 1 64 }
  let ddr := { s.ddr with fifo := KMap.dropRange s.ddr.fifo 4 8 }
  let gpio := { s.gpio with
    timerOn := dropDie s.gpio.timerOn 1 8, portOut := KMap.put s.gpio.portOut 1 0, portOe := KMap.put s.gpio.portOe 1 0 }
  let s := s.each [4, 5, 6, 7] (fun s p => s.setPort p {})
  { s with miu := miu, rec_ := rec_, ddr := ddr, gpio := gpio, lq := { s.lq with lane := dropDie s.lq.lane 1 80 } }

/-- The cores of die d reset with it: SRAMs filled, mailboxes empty, watchdogs stopped (R471, R476); a load of one of them ends. -/
def resetCores (d : Nat) (s : State) : State :=
  let s := match s.core.loading with
    | some c => if coreDie c = d then
        ({ s with core := { s.core with loading := none } }).setFs 0 [(CORE_LOADSTAT_busy, 0), (CORE_LOADSTAT_reason, 4)]
      else s
    | none => s
  s.each (dieCores d) (fun s c =>
    let x := { s.core with
      isram := dropDie s.core.isram c 0x10000, dsram := dropDie s.core.dsram c 0x10000, iue := dropDie s.core.iue c 0x10000,
      due := dropDie s.core.due c 0x10000, mail := KMap.put s.core.mail c [], wdog := KMap.put s.core.wdog c (0, 0),
      mtip := KMap.put s.core.mtip c false }
    { s with core := x })

/-- A register of die d whose image fields a reset of the die keeps: the CLK and PWR pages (R551). -/
def keepsImage (k : Nat) : Bool := k % 0x1000000 / 0x10000 == 2 || k % 0x1000000 / 0x10000 == 3

/-- Die d, one other than IOS, enters reset: what it holds goes to its reset state, and it holds still (R13, R497). -/
def dieReset (d : Nat) (s : State) : State :=
  if d = 0 then s
  else
    let s := meterLost d (if d = 1 then resetIo s else resetFabric d s)
    let s := resetCores d (resetPorts d (resetMesh d (resetSwap d s)))
    let err := { s.err with log := KMap.put s.err.log d [], scrub := KMap.put s.err.scrub d {} }
    let tick := { s.tick with rx := KMap.put s.tick.rx d {}, late := s.tick.late.filter (fun e => decide (e.1 ≠ d)) }
    let pwr := { s.pwr with
      live := KMap.put s.pwr.live d false, avg := KMap.put s.pwr.avg d [], lvlPower := KMap.put s.pwr.lvlPower d 0,
      lvlThermal := KMap.put s.pwr.lvlThermal d 0, lvlPkg := KMap.put s.pwr.lvlPkg d 0 }
    let hold := s.hold.filter (fun e => decide (e.1 / 0x1000000 % 16 ≠ d) && decide (e.1 / 2 ^ 28 / 256 ≠ d))
    let regs := resetRegs (fun k => k / 0x1000000 == d) keepsImage s.regs
    { s with err := err, tick := tick, pwr := pwr, hold := hold, regs := regs }

/-- The notices before a reset by command: fence notices on every edge, and for an I/O die 16 GOODBYEs on each of its ports (R253, R309). -/
def dieNotices (d cause goodbye : Nat) (s : State) : State :=
  let s := if d = 1 then s.each [4, 5, 6, 7] (fun s p => sayGoodbye p goodbye s) else s
  dieLost d cause s

/-- DIE_RESET at commit: the die sends its notices and enters reset (R497). -/
def dieResetCommit (d : Nat) (s : State) : State :=
  if d = 0 ∨ !s.live d then s
  else
    dieReset d (dieNotices d 1 1 s)

/-- DIE_RESET (R497). -/
def execDieReset (d : Die) (s : State) : Res := run (dieResetCommit d.val) s

/-- A die leaves a reset outside a start (R115, R616): its edges read fenced, its fused points return, and its wear entries apply. A die whose core rail is low
stays in reset (R541). -/
def dieRelease (d : Nat) (s : State) : State :=
  if d = 0 ∨ s.live d ∨ !s.live 0 ∨ KMap.look s.pwr.held d then s
  else
    let s := { s with pwr := { s.pwr with live := KMap.put s.pwr.live d true } }
    wearReapply d (fusedDie d (edgesAfterReset d s))

/-- DIE_RESET_RELEASE (R115). -/
def execDieResetRelease (d : Die) (s : State) : Res := run (dieRelease d.val) s

/-! ### The whole device (R440, R541, R549) -/

/-- The state after every die has been reset, its registers given: what stands in fuses and NVM stays, and so do the pins and the supply and
clock conditions (R439, R440, R549). -/
def coldState (regs : KMap Word) (s : State) : State :=
  let pwr : PwrSt := {
    railsGood := s.pwr.railsGood, oscReady := s.pwr.oscReady, refselPin := s.pwr.refselPin, perst := s.pwr.perst,
    pwrfailLow := s.pwr.pwrfailLow, held := s.pwr.held, railBad := s.pwr.railBad, tripped := s.pwr.tripped, hot := s.pwr.hot,
    clkHeld := s.pwr.clkHeld }
  { ({} : State) with
    regs := regs, time := s.time, pwr := pwr, fuses := s.fuses, nv := { s.nv with transfer := none },
    gpio := { ({} : GpioSt) with ext := s.gpio.ext }, freeCtr := s.freeCtr, out := s.out, pending := s.pending }

/-- A power-on reset of the whole device (R13, R115, R549): sticky fields alone stay, and what fuses hold. -/
def powerOnReset (s : State) : State := fusedAll (coldState (resetRegs (fun _ => true) (fun _ => false) s.regs) s)

/-- Loss of VAUX: the sticky fields clear too, and nothing is powered (R541). -/
def vauxLoss (s : State) : State :=
  let s := powerOnReset s
  let pwr : PwrSt := { refselPin := s.pwr.refselPin, perst := s.pwr.perst, pwrfailLow := s.pwr.pwrfailLow }
  { s with regs := clearSticky s.regs, pwr := pwr }

/-- VAUX_LOSS (R541). -/
def execVauxLoss (s : State) : Res := run vauxLoss s

/-- A register that the safe-state logic keeps: IOS pages 0x00, 0x02, 0x03, 0x07 and 0x70 (R548). -/
def safeKeeps (k : Nat) : Bool :=
  let page := k / 0x10000
  page == 0 || page == 2 || page == 3 || page == 7 || page == 0x70

/-- The device enters the safe state with a cause; once in it, nothing changes (R548, R549). -/
def enterSafe (cause : Nat) (s : State) : State :=
  if s.pwr.safe then s
  else
    let n := if s.tick.tb = .off then 0 else s.tick16
    let log := KMap.look s.err.log 0
    let t := fusedAll (coldState (resetRegs (fun k => !safeKeeps k) (fun _ => false) s.regs) s)
    let tb : TbState := if s.tick.tb = .off then .off else .stopped
    let t := { t with tick := { t.tick with tb := tb }, jour := { s.jour with buf := [], erase := 0 } }
    let t := { t with start := { ({} : StartSt) with hdr := s.start.hdr, hdrHeader := s.start.hdrHeader, hdrCopy := s.start.hdrCopy } }
    let t := { t with
      err := { t.err with log := KMap.put [] 0 log }, keys := { t.keys with lc := s.keys.lc },
      pwr := { t.pwr with safe := true, faultLow := true } }
    t.setFs 0 [(PWR_SAFE_entered, 1), (PWR_SAFE_cause, cause), (PWR_SAFE_tick, n), (JOURNAL_STAT_running, 0), (CLK_REF_tb_lock, 0)]

end Sys2Proof.Machine
end

