-- ==== Sys2Proof/Machine/Journal.lean ====
section
/-! DEFINITION. The journal (R443 to R447, R453 to R459): records, the buffer, sectors, the scan, the plan, checkpoints, the erase. -/

namespace Sys2Proof.Machine

/-! ### Sectors (R453, R456 to R458) -/

/-- A sector is retired (R457). -/
def Sector.retired (x : Sector) : Bool := x.failed || (match x.hdr with | some (e, _) => decide (100000 ≤ e) | none => false)

/-- The sequence of a sector, 0 without a valid header. -/
def Sector.seq (x : Sector) : Nat := match x.hdr with | some (_, q) => q | none => 0

/-- The erase count of a sector, 0 without a valid header (R453). -/
def Sector.erases (x : Sector) : Nat := match x.hdr with | some (e, _) => e | none => 0

/-- Every slot of a sector holds a record. -/
def Sector.full (x : Sector) : Bool := decide (2047 ≤ x.recs.length)

/-- Replace a sector. -/
def State.setSector (s : State) (k : Nat) (x : Sector) : State := { s with nv := { s.nv with jour := KMap.put s.nv.jour k x } }

/-- The sector with the valid header of highest sequence (R453). -/
def State.scanSector (s : State) : Option Nat :=
  (s.nv.jour.foldl (fun (a : Option (Nat × Nat)) e =>
    match e.2.hdr with
    | some (_, q) => (match a with | some (_, p) => if p < q then some (e.1, q) else a | none => some (e.1, q))
    | none => a) none).map (·.1)

/-- The highest sequence of any sector. -/
def State.topSeq (s : State) : Nat := s.nv.jour.foldl (fun a e => max a e.2.seq) 0

/-- The sectors in index order after sector k, wrapping (R456). -/
def sectorsAfter (k : Nat) : List Nat := (List.range 64).map (fun i => (k + 1 + i) % 64)

/-- The sectors retired. -/
def State.retiredCount (s : State) : Nat := (s.nv.jour.filter (fun e => e.2.retired)).length

/-- The journal is frozen: the current sector is full, or there is none that can take a record, and every other sector is retired (R458). -/
def State.jourFull (s : State) : Bool :=
  let rest (k : Nat) : Bool := (List.range 64).all (fun i => decide (i = k) || (s.sector i).retired)
  match s.jour.cur with
  | some k => (s.sector k).full && rest k
  | none => rest 64

/-- The journal is frozen. -/
def State.frozen (s : State) : Bool := s.on 0 JOURNAL_STAT_frozen

/-- The journal freezes when it must; no record waits then (R458). -/
def freezeCheck (s : State) : State :=
  if s.jourFull then ({ s with jour := { s.jour with buf := [], erase := 0 } }).setFs 0 [(JOURNAL_STAT_frozen, 1), (JOURNAL_STAT_erasing, 0)]
  else s

/-- A sector whose erase or program failed is retired at once (R457). -/
def failSector (k : Nat) (s : State) : State := (s.setSector k { s.sector k with failed := true }).evt 0 JOURNAL_EVT_sector_retired

/-- Erase a sector and write its header; one that reaches 100,000 erases is retired (R456, R457). -/
def eraseSector (k seq : Nat) (s : State) : State :=
  let x := s.sector k
  let y : Sector := { hdr := some (x.erases + 1, seq), recs := [], failed := x.failed }
  (s.setSector k y).when y.retired (fun s => s.evt 0 JOURNAL_EVT_sector_retired)

/-- Take the first sector of `l` that is not retired as the current one; the erase of those in `bad` fails. -/
def takeSector (bad : List Nat) (l : List Nat) (s : State) : State :=
  match l with
  | [] => { s with jour := { s.jour with cur := none } }
  | k :: t =>
    if (s.sector k).retired then takeSector bad t s
    else if bad.contains k then takeSector bad t (failSector k s)
    else
      let s := eraseSector k (s.topSeq + 1) s
      { s with jour := { s.jour with cur := some k } }

/-- The current sector has room: the block takes the next one where it has none (R453, R456). -/
def roomSector (bad : List Nat) (s : State) : State :=
  match s.jour.cur with
  | some k => if (s.sector k).full || (s.sector k).failed then takeSector bad (sectorsAfter k) s else s
  | none => takeSector bad (List.range 64) s

/-- Put a record, or what is left of it, in the next slot of the current sector. -/
def putRecord (r : Option JRec) (s : State) : State :=
  match s.jour.cur with
  | some k => s.setSector k { s.sector k with recs := (s.sector k).recs ++ [r] }
  | none => s

/-- Write one record: programming it ends as `p` says; after a failed program the sector is retired and the record goes to the next one
(R456, R457). -/
def writeRecord (p : Prog) (bad : List Nat) (r : JRec) (s : State) : State :=
  let s := roomSector bad s
  match s.jour.cur with
  | none => s
  | some k =>
    match p with
    | .done => putRecord (some r) s
    | .torn => putRecord none s
    | .failed => putRecord (some r) (roomSector bad (failSector k s))

/-- JOURNAL_RECORD_WRITE: the oldest record of the buffer is written; none while the erase runs (R456, R458, R459). -/
def recordWrite (p : Prog) (bad : List Nat) (s : State) : State :=
  match s.jour.buf with
  | [] => s
  | r :: t =>
    if s.frozen || !s.jour.scanned || decide (s.jour.erase = 2) then s
    else freezeCheck (writeRecord p bad r { s with jour := { s.jour with buf := t } })

/-- JOURNAL_RECORD_WRITE (R456). -/
def execJournalRecordWrite (p : Prog) (bad : List (Fin 64)) (s : State) : Res := run (recordWrite p (bad.map (·.val))) s

/-- Write the n oldest records of the buffer. -/
def writeRecords (n : Nat) (s : State) : State :=
  match n with
  | 0 => s
  | n + 1 => writeRecords n (recordWrite .done [] s)

/-- Write every record of the buffer (R439, R440: a stop and a restart write the step's record first). -/
def flushRecords (s : State) : State :=
  let s := if s.jour.erase = 2 then { s with jour := { s.jour with buf := [] } } else s
  writeRecords s.jour.buf.length s

/-! ### Records (R444, R454) -/

/-- The buffer has no free slot (R456). -/
def State.bufFull (s : State) : Bool := decide (16 ≤ s.jour.buf.length)

/-- A record enters the buffer, unless the journal is frozen (R456, R458). -/
def pushRecord (r : JRec) (s : State) : State :=
  if s.frozen then s else { s with jour := { s.jour with buf := s.jour.buf ++ [r] } }

/-- The TS72 of a record: the timebase count with fine phase 0; 0 before S1 (R47, R49, R454). -/
def State.ts72 (s : State) : Nat := if s.tick.tb = .off then 0 else s.time.count * 256

/-- The consecutive failures of step k before this run (R444). -/
def State.failsOf (s : State) (k : Nat) : Nat := s.start.fails.getD k 0

/-- The record of step k of this start (R454); before S2 its start number and attempt come with the scan. -/
def State.stepRec (s : State) (k outcome variant detail : Nat) : JRec :=
  { start := (s.rd 0 JOURNAL_STARTS).toNat, step := k, attempt := min 255 (s.failsOf k + 1), outcome := outcome, variant := variant,
    ts := s.ts72, detail := detail, delay := s.start.delay / 1600 }

/-- The record of step k is made; outcome 1 sets `step_fail`. -/
def record (k outcome variant detail : Nat) (s : State) : State :=
  let s := pushRecord (s.stepRec k outcome variant detail) s
  s.when (decide (outcome = 1)) (fun s => s.evt 0 JOURNAL_EVT_step_fail)

/-! ### The scan and the plan (R443 to R447) -/

/-- The sectors with a valid header, highest sequence first. -/
def insertSeq (x : Sector) (l : List Sector) : List Sector :=
  match l with
  | [] => [x]
  | y :: t => if y.seq < x.seq then x :: y :: t else y :: insertSeq x t

/-- The records of the journal, newest first; a record whose CRC fails is ignored (R453). -/
def State.jourRecords (s : State) : List JRec :=
  let l := s.nv.jour.foldl (fun a e => if e.2.hdr.isSome then insertSeq e.2 a else a) []
  l.flatMap (fun x => (x.recs.filterMap id).reverse)

/-- The history of a step: its records, newest first, but those with outcome 2 or 4 (R443). -/
def histOf (l : List JRec) (k : Nat) : List JRec :=
  l.filter (fun r => decide (r.kind = 0) && decide (r.step = k) && decide (r.outcome ≠ 2) && decide (r.outcome ≠ 4))

/-- The consecutive failure count of a history (R444). -/
def failCount (l : List JRec) : Nat :=
  match l with
  | [] => 0
  | r :: t => if r.outcome = 1 then failCount t + 1 else 0

/-- The steps that have an alternate variant: S6, S8, S9, S12, S13 (R438). -/
def altSteps : List Nat := [6, 8, 9, 12, 13]

/-- A step uses its alternate (R445). -/
def useAlt (l : List JRec) : Bool := match l with | r :: _ => decide (r.outcome = 1) || decide (r.variant ≠ 0) | [] => false

/-- The grade offset of S11 (R445), capped at 5 here and at the plan's grade by S11. -/
def useOffset (l : List JRec) : Nat :=
  match l with
  | r :: _ => min 5 (r.variant + (if r.outcome = 1 then 1 else 0))
  | [] => 0

/-- The journal is scanned and the plan of this start is fixed (R443 to R447, R453, R458); records of S0 and S1 take the start number. -/
def scanPlan (s : State) : State :=
  let s := { s with jour := { s.jour with cur := s.scanSector } }
  let frozen := s.jourFull
  let l := s.jourRecords
  let n := (l.foldl (fun a r => max a r.start) 0) + 1
  let hist (k : Nat) : List JRec := if frozen then [] else histOf l k
  let fails := (List.range 16).map (fun k => failCount (hist k))
  let retry := s.f 0 JOURNAL_RETRY_steps
  let prim (k : Nat) : Bool := nbit retry k
  let alt := altSteps.foldl (fun a k => if useAlt (hist k) && !prim k then a + 2 ^ k else a) 0
  let o := if prim 11 then 0 else useOffset (hist 11)
  let skip7 := match hist 7 with | r :: _ => decide (r.outcome = 1) | [] => false
  let buf := if frozen then [] else s.jour.buf.map (fun r => { r with start := n, attempt := fails.getD r.step 0 + 1 })
  let s := { s with jour := { s.jour with scanned := true, buf := buf }, start := { s.start with fails := fails } }
  let s := s.setFs 0 [(JOURNAL_PLAN_alt, alt + (if o = 0 then 0 else 2 ^ 11)), (JOURNAL_PLAN_ddr_down, o),
    (JOURNAL_PLAN_skip7, skip7.toNat), (JOURNAL_PLAN_retry, if retry = 0 then 0 else 1), (JOURNAL_RETRY_steps, 0),
    (JOURNAL_STAT_frozen, frozen.toNat)]
  let s := s.wr 0 JOURNAL_STARTS (BitVec.ofNat 32 n)
  s.each (fails.zipIdx) (fun s e => s.setF 0 ⟨JOURNAL_FAILS, 2 * e.2, 2⟩ (min 3 e.1))

/-- A step runs its alternate variant in this start. -/
def State.planAlt (s : State) (k : Nat) : Bool := nbit (s.f 0 JOURNAL_PLAN_alt) k

/-! ### Checkpoints (R492, R495) -/

/-- A checkpoint of value v starts: a record of kind 1, and a copy in `KEYS_CKPT`. -/
def ckptStart (v : Nat) (s : State) : State :=
  let s := pushRecord { start := (s.rd 0 JOURNAL_STARTS).toNat, kind := 1, value := v } s
  ({ s with cmd := { s.cmd with ckpt := some v } }).setF 0 CMD_STAT_ckpt 1

/-- The copy of a checkpoint in `KEYS_CKPT`. -/
def keysCkpt (v : Nat) (s : State) : State :=
  (s.wr 0 KEYS_CKPT_LO (BitVec.ofNat 32 v)).setFs 0 [(KEYS_CKPT_HI_value, v / 2 ^ 32), (KEYS_CKPT_HI_valid, 1)]

/-- A checkpoint is durable: K advances to it (R492). -/
def ckptDurable (v : Nat) (s : State) : State :=
  let s := ({ s with cmd := { s.cmd with ckpt := none } }).setF 0 CMD_STAT_ckpt 0
  let s := (s.wr 0 CMD_CKPT_LO (BitVec.ofNat 32 v)).setF 0 CMD_CKPT_HI_value (v / 2 ^ 32)
  (keysCkpt v s).evt 0 CMD_EVT_ckpt_done

/-! ### The erase (R458, R459) -/

/-- ERASE_JOURNAL at commit: refused with detail 1 while the journal is frozen; otherwise it writes a checkpoint of the last accepted counter
and the erase follows. -/
def eraseCommit (s : State) : State × Nat :=
  if s.frozen then (s, 1)
  else
    let v := s.rd64 0 CMD_LAST_LO CMD_LAST_HI
    let s := { s with jour := { s.jour with erase := 1 } }
    (ckptStart v (s.setF 0 JOURNAL_STAT_erasing 1), 0)

/-- ERASE_JOURNAL (R459). -/
def execEraseJournal (s : State) : Res := run (fun s => if s.live 0 then (eraseCommit s).1 else s) s

/-- Erase the sectors of `l` that are not retired, the first of them ending with the highest sequence. -/
def eraseAll (bad : List Nat) (l : List Nat) (s : State) : State :=
  match l with
  | [] => s
  | k :: t =>
    let s := eraseAll bad t s
    if (s.sector k).retired then s
    else if bad.contains k then failSector k s
    else eraseSector k (s.topSeq + 1) s

/-- JOURNAL_ERASE_DONE: every sector that is not retired has been erased, those in `bad` without success, and the checkpoint stands in the new
current sector (R459). -/
def eraseDone (bad : List Nat) (s : State) : State :=
  if s.jour.erase ≠ 2 then s
  else
    let v := s.rd64 0 CMD_CKPT_LO CMD_CKPT_HI
    let s := eraseAll bad (sectorsAfter (s.jour.cur.getD 63)) s
    let s := { s with jour := { s.jour with cur := s.scanSector, erase := 0 } }
    let s := writeRecord .done [] { start := (s.rd 0 JOURNAL_STARTS).toNat, kind := 1, value := v } s
    freezeCheck ((s.setF 0 JOURNAL_STAT_erasing 0).evt 0 JOURNAL_EVT_erase_done)

/-- JOURNAL_ERASE_DONE (R459). -/
def execJournalEraseDone (bad : List (Fin 64)) (s : State) : Res := run (eraseDone (bad.map (·.val))) s

end Sys2Proof.Machine
end

