-- ==== Sys2Proof/Machine/Start.lean ====
section
/-! DEFINITION. The start sequence (R29 to R34, R438 to R452, R460, R535 to R541): steps, restarts, stops, degraded starts. -/

namespace Sys2Proof.Machine

/-! ### Power good, SafeOsc and step S0 (R438, R460, R529, R535, R540) -/

/-- The pages of IOS can be reached: IOS is out of reset, or the device is in the factory hold (R574). -/
def State.iosUp (s : State) : Bool := s.live 0 || s.pwr.factory

/-- The start that runs is at step k. -/
def State.atStep (s : State) (k : Nat) : Bool := s.on 0 JOURNAL_STAT_running && decide (s.f 0 JOURNAL_STAT_step = k)

/-- A step begins. -/
def beginStep (k : Nat) (s : State) : State :=
  ({ s with start := { s.start with delay := 0, reject := 0, abort := 0 } }).setF 0 JOURNAL_STAT_step k

/-- A start begins at S0 (R438). -/
def beginStart (s : State) : State :=
  s.setFs 0 [(JOURNAL_STAT_running, 1), (JOURNAL_STAT_released, 0), (JOURNAL_STAT_degraded, 0), (JOURNAL_STAT_cause, 0),
    (JOURNAL_STAT_stopped, 0), (JOURNAL_STAT_step, 0)]

/-- After a thermal trip a start waits in S0 until every valid sensor reads below its throttle threshold (R547). -/
def State.coolEnough (s : State) : Bool := decide (s.rd 0 THERM_TRIPLOG = 0) || s.pwr.hot.isEmpty

/-- S0 ends once power is good, SafeOsc is ready and no die is hot; the dies leave the asynchronous reset with it (R438, R460). -/
def endS0 (s : State) : State :=
  if s.atStep 0 && s.pwr.railsGood && s.pwr.oscReady && !s.pwr.clkHeld then
    let live := allDies.foldl (fun (m : KMap Bool) d => if KMap.look s.pwr.held d then m else KMap.put m d true) []
    let s := { s with pwr := { s.pwr with live := live, safe := false, factory := false, faultLow := false } }
    let s := s.setFs 0 [(CLK_REF_safeosc_ready, 1), (CLK_REF_refsel, s.pwr.refselPin)]
    if s.coolEnough then beginStep 1 (record 0 0 0 0 s) else s
  else s

/-- POWER_GOOD: every rail has been in its window for 1 ms: whatever ran before power was lost is over, the REFSEL pins are sampled, and a start
begins (R529, R540, R549). -/
def powerGood (refsel : Nat) (s : State) : State :=
  let s := powerOnReset s
  let pwr := { s.pwr with railsGood := true, oscReady := false, refselPin := refsel, clkHeld := false, held := [], railBad := [], tripped := [] }
  beginStart { s with pwr := pwr }

/-- POWER_GOOD (R540). -/
def execPowerGood (refsel : Fin 8) (s : State) : Res := run (powerGood refsel.val) s

/-- SAFEOSC_READY (R535). -/
def safeoscReady (s : State) : State :=
  if s.pwr.railsGood then endS0 { s with pwr := { s.pwr with oscReady := true } } else s

/-- SAFEOSC_READY (R535). -/
def execSafeoscReady (s : State) : Res := run safeoscReady s

/-- SYSRST_ASSERT: a power-on reset; while the rails stay good the start begins as SYSRST# rises (R549). -/
def execSysrstAssert (s : State) : Res :=
  run (fun s => if s.pwr.railsGood then endS0 (beginStart (powerOnReset s)) else powerOnReset s) s

/-- CLOCK_MONITOR_FAULT: before SafeOsc is ready the dies stay in reset and `dclk` is set; before the end of S1 the start goes on
waiting; afterwards the tick stops and the device enters the safe state (R46, R460, R536). -/
def clockFault (s : State) : State :=
  if s.pwr.railsGood && !s.pwr.oscReady then
    { s with pwr := { s.pwr with clkHeld := true } }.setF 0 JOURNAL_STICKY_dclk 1
  else if !s.tbRuns || s.atStep 0 || s.atStep 1 then s
  else enterSafe 1 (setFatal ERR_FATAL_refclk (s.setF 0 CLK_REF_ref_lost 1))

/-- CLOCK_MONITOR_FAULT (R536). -/
def execClockMonitorFault (s : State) : Res := run clockFault s

/-- S1_LOCK_WAIT_RECORD: S1 has waited 100 ms for lock; it makes one failure record (R438). -/
def s1Record (s : State) : State :=
  if s.atStep 1 && !s.start.s1rec then record 1 1 0 0 { s with start := { s.start with s1rec := true } } else s

/-- S1_LOCK_WAIT_RECORD (R438). -/
def execS1LockWaitRecord (s : State) : Res := run s1Record s

/-- TIMEBASE_LOCK: the timebase starts, and S1 ends (R45, R530). -/
def lockEndsS1 (delays : List Nat) (s : State) : State :=
  let t := timebaseLock delays s
  if s.atStep 1 && !s.tbRuns && t.tbRuns then beginStep 2 (record 1 0 0 0 t) else t

/-- TIMEBASE_LOCK (R45). -/
def execTimebaseLock (delays : List (Fin 4096)) (s : State) : Res := runTime State.lockTime (lockEndsS1 (delays.map (·.val))) s

/-! ### Restart, stop (R439, R440, R452) -/

/-- A restart: what the journal's buffer holds is written, every die is reset, and a new start begins; S0 passes at once (R440, R452).
`JOURNAL_RETRY` stays for the next S2 (R447). -/
def restart (s : State) : State :=
  let s := flushRecords s
  let n := min 4 (s.f 0 JOURNAL_STICKY_restarts + 1)
  let retry := s.f 0 JOURNAL_RETRY_steps
  let s := (powerOnReset s).setFs 0 [(JOURNAL_STICKY_restarts, n), (JOURNAL_RETRY_steps, retry)]
  endS0 (beginStart s)

/-- The rights in effect in a life-cycle state (R573), before any grant. -/
def showRights (s : State) : State :=
  let lc := s.keys.lc
  let full := decide (lc ≠ 2)
  s.setFs 0 [(DBG_RIGHTS_bm_write, full.toNat), (DBG_RIGHTS_skipper, full.toNat), (DBG_RIGHTS_hawkmoth, full.toNat),
    (DBG_RIGHTS_test, if lc = 0 ∨ lc = 3 then 1 else 0)]

/-- A stop: the step's record is written and the device holds the safe state; in `BLANK` a stop at S5 is the factory hold (R439, R574). -/
def stopStart (k outcome variant detail cause : Nat) (s : State) : State :=
  let s := flushRecords (record k outcome variant detail s)
  let s := s.setFs 0 [(JOURNAL_STAT_stopped, 1), (JOURNAL_STAT_cause, k), (JOURNAL_STAT_step, k), (JOURNAL_STICKY_stop_step, k),
    (JOURNAL_STICKY_stop_valid, 1)]
  let s := showRights (enterSafe cause s)
  if k = 5 ∧ s.keys.lc = 0 then { s with pwr := { s.pwr with factory := true } }.setF 0 DBG_RIGHTS_factory 1 else s

/-- The variant byte of step k's record: the plan's (R454). -/
def State.variantOf (s : State) (k : Nat) : Nat := if k = 11 then s.f 0 JOURNAL_PLAN_ddr_down else (s.planAlt k).toNat

/-! ### S2: scan, plan, keys, counter (R443, R460, R492, R495, R499 to R501) -/

/-- The key check value of a key (R488). -/
def kcv (k : BitVec 128) : Nat := aes k 0 % 2 ^ 32

/-- The block takes the keys and the life-cycle state that the fuses hold (R500, R501). -/
def readFuses (s : State) : State :=
  let f := s.fuses
  let row := f.rows.getLast?
  let keys := { s.keys with lc := f.lc, cmd := match row with | some r => r.1 | none => 0, bc := match row with | some r => r.2 | none => 0 }
  let s := { s with keys := keys }
  let s := s.setFs 0 [(KEYS_STAT_root, f.rootHash.isSome.toNat), (KEYS_STAT_image, f.imageKey.isSome.toNat)]
  match row with
  | some r => showRights ((s.wr 0 KEYS_KCV_CMD (BitVec.ofNat 32 (kcv r.1))).wr 0 KEYS_KCV_BC (BitVec.ofNat 32 (kcv r.2)))
  | none => showRights s

/-- The newest checkpoint of the journal. -/
def State.jourCkpt (s : State) : Option Nat := (s.jourRecords.find? (fun r => decide (r.kind = 1))).map (·.value)

/-- Store the last accepted counter, and show exhaustion (R493). -/
def setLast (v : Nat) (s : State) : State :=
  let was := s.on 0 CMD_STAT_exhausted
  let ex := decide (v = 2 ^ 48 - 2)
  let s := (s.wr 0 CMD_LAST_LO (BitVec.ofNat 32 v)).setFs 0 [(CMD_LAST_HI_value, v / 2 ^ 32), (CMD_STAT_exhausted, ex.toNat)]
  s.when (ex && !was) (fun s => s.evt 0 CMD_EVT_exhausted)

/-- The counter at S2: K is the larger of the newest checkpoints; the last accepted counter is the window top, and a checkpoint of it is
written (R492, R495). -/
def counterStart (s : State) : State :=
  let kk := if s.on 0 KEYS_CKPT_HI_valid then s.rd64 0 KEYS_CKPT_LO KEYS_CKPT_HI % 2 ^ 48 else 0
  let k := max (match s.jourCkpt with | some v => v | none => 0) kk
  let v := min (k + 4096) (2 ^ 48 - 2)
  let guard := s.frozen && !s.on 0 KEYS_CKPT_HI_valid
  let s := (s.wr 0 CMD_CKPT_LO (BitVec.ofNat 32 k)).setFs 0 [(CMD_CKPT_HI_value, k / 2 ^ 32), (CMD_STAT_guard, guard.toNat)]
  ckptStart v (setLast v s)

/-- A double clock fault of an earlier power-on is recorded and cleared (R460). -/
def clockRecord (s : State) : State :=
  if s.on 0 JOURNAL_STICKY_dclk then
    let d := (s.rd 0 JOURNAL_STICKY).toNat % 512
    let r : JRec := { start := (s.rd 0 JOURNAL_STARTS).toNat, kind := 2, attempt := 1, ts := s.ts72, detail := d }
    (pushRecord r s).setF 0 JOURNAL_STICKY_dclk 0
  else s

/-! ### The S4 check (R29 to R34, R424) -/

/-- The stepping of a die (R27). -/
def State.stepping (s : State) (d : Nat) : Nat := s.fuses.stepping.getD d 0

/-- The S4 check over the dies that `out` does not leave out: none when it passes, or cause, die, found, expected (R30, R34). -/
def State.s4Check (s : State) (hdr : Option Header) (silent out : List Nat) : Option (Nat × Nat × Nat × Nat) :=
  let l := allDies.filter (fun d => !out.contains d)
  let fabs := l.filter (fun d => decide (2 ≤ d))
  let fab := match fabs with | d :: _ => s.stepping d | [] => 0
  let io := s.stepping 0
  match l.find? (fun d => silent.contains d) with
  | some d => some (5, d, 0, 0)
  | none =>
    match fabs.find? (fun d => decide (s.stepping d ≠ fab)) with
    | some d => some (1, d, s.stepping d, fab)
    | none =>
      if l.contains 1 ∧ s.stepping 1 ≠ io then some (2, 1, s.stepping 1, io)
      else match hdr with
        | none => none
        | some h =>
          let pairs := match h.dev with | some x => x.compat | none => []
          if io < h.minIo.toNat then some (4, 0, io, h.minIo.toNat)
          else if fab < h.minFab.toNat then some (4, 2, fab, h.minFab.toNat)
          else if pairs.any (fun e => decide (e.1.toNat = io) && decide (e.2.toNat = fab) && decide (e ≠ (0, 0))) then none
          else some (3, 0, io, fab)

/-- The result of an S4 check in `SYS_S4RES` and `SYS_S4FAULT` (R31, R32, R40, R41); a check that leaves silent dies out has not passed. -/
def s4Show (r : Option (Nat × Nat × Nat × Nat)) (silent out : List Nat) (s : State) : State :=
  let fab := match fabDies.find? (fun d => !out.contains d) with | some d => s.stepping d | none => 0
  let present := allDies.foldl (fun a d => if silent.contains d then a else a + 2 ^ d) 0
  let s := s.setFs 0 [(SYS_S4RES_fab, fab), (SYS_S4RES_io, s.stepping 0), (SYS_S4RES_present, present)]
  match r with
  | none => if out.isEmpty then (s.setF 0 SYS_S4RES_pass 1).wr 0 SYS_S4FAULT 0 else s
  | some (c, d, f, e) => (s.setF 0 SYS_S4RES_pass 0).wr 0 SYS_S4FAULT (BitVec.ofNat 32 (c + 16 * d + 256 * f + 65536 * e))

/-- The header that S4 reads: copy 0, or copy 1 where copy 0 does not answer or its magic or version is wrong (R34): its copy and fields. -/
def s4Header (i : StepIn) : Nat × Option Header :=
  let good (h : Option Header) : Option Header := match h with
    | some x => if x.magic = 0x4D49564F ∧ x.version = 1 then some x else none
    | none => none
  match good i.copy0 with
  | some h => (1, some h)
  | none => match good i.copy1 with | some h => (2, some h) | none => (0, none)

/-- The dies that did not answer are fenced and stay out (R449). -/
def fenceSilent (l : List Nat) (s : State) : State :=
  s.each l (fun s d => if d = 0 ∨ !s.live d then s else
    let s := dieLost d 2 s
    { s with pwr := { s.pwr with live := KMap.put s.pwr.live d false } })

/-! ### What each step begins with -/

/-- The grade offset of this start is capped at the offset that reaches grade 6 from the plan's target (R445). -/
def capOffset (target : Nat) (s : State) : State :=
  let o := min (s.f 0 JOURNAL_PLAN_ddr_down) (6 - max 1 (min 6 target))
  let s := s.setF 0 JOURNAL_PLAN_ddr_down o
  if o = 0 then s.setF 0 ⟨JOURNAL_PLAN, 11, 1⟩ 0 else s

/-- The accepted device header takes effect at S5 (R72, R261, R318, R329, R427, R437, R445, R525). -/
def applyHeader (s : State) : State :=
  match s.start.hdr with
  | none => s
  | some x =>
    let top := decide (x.upstream = 8)
    let id := x.fixedId.toNat
    let fixed := decide (x.idMode = 0)
    let n := s.nv
    let state := match n.wear0, n.wear1 with | some _, some _ => 1 | none, none => 3 | _, _ => 2
    let s := s.setFs 0 [(CFG_STAT_hdr, s.start.hdrCopy), (CFG_PDEADLINE_value, if x.deadline = 0 then 10000 else x.deadline.toNat),
      (NVM_CFG_mhz, if x.nvmMhz = 0 then 50 else x.nvmMhz.toNat), (ITA_ID_upstream, x.upstream.toNat),
      (ITA_ID_assigned, x.idMode.toNat), (ITA_ID_top, top.toNat), (TICK_ROLE_cfg, x.role.toNat), (TICK_ROLE_source, 1),
      (SPARE_STAT_wm_state, state), (SPARE_STAT_entries, n.wearEntries.length)]
    let s := s.when fixed (fun s => s.setFs 0 [(ITA_ID_id, id), (ITA_ID_valid, 1), (ITA_ID_head, if id % 64 = 0 then 1 else 0)])
    let s := capOffset x.ddrGrade.toNat (s.when top (fun s => s.setF 0 ITA_HORIZON_h x.h.toNat))
    roleUpdate true (s.when (decide (state = 3)) (fun s => s.evt 0 SPARE_EVT_wm_bad))

/-- The grade that S11 trains at: the plan's target, 1 to 6, plus the offset, at most 6 (R342, R445). -/
def State.s11Grade (s : State) : Nat :=
  let t := match s.start.hdr with | some x => max 1 (min 6 x.ddrGrade.toNat) | none => 1
  min 6 (t + s.f 0 JOURNAL_PLAN_ddr_down)

/-- The wear entries of a step apply to a list of pools (R525); the logic entries skipped are kept for the record of S12. -/
def startWear (pools : List Nat) (s : State) : State :=
  let (s, l) := wearApply pools s.nv.wearEntries s
  if pools.contains 1 then { s with start := { s.start with s12skip := skipDetail l s } } else s

/-- The wait of a host personality begins, or the NVM load: S12 has begun (R428 to R431). -/
def beginS12 (s : State) : State :=
  let s := startWear [1, 2, 3] { s with start := { s.start with s12 := true } }
  let s := s.when (s.hostLoad && !s.on 0 CFG_STG_STAT_open) openStaging
  match s.start.hdr with
  | some x =>
    if x.persSrc = 0 then beginLoad { kind := 5, src := (s.planAlt 12).toNat, addr := 0, digest := none, atS12 := true } s
    else if s.start.deferred then { s with start := { s.start with deadline := some s.time.count } }
    else s
  | none => s

/-- The personality comes from the host over an Itastea upstream port: S12 waits until after S14 (R430). -/
def State.defers (s : State) : Bool :=
  match s.start.hdr with
  | some x => decide (x.persSrc = 1) && decide (x.upstream ≠ 8)
  | none => false

/-- An edge of S8 joins IOS to a die that holds shell regions (R449). -/
def State.shellEdge (s : State) (d e : Nat) : Bool :=
  match edgeFar d e with
  | some f => (decide (d = 0) || decide (f = 0)) && s.start.shellDies.contains (max d f)
  | none => false

end Sys2Proof.Machine
end

