-- ==== Sys2Proof/Machine/Steps.lean ====
section
/-! DEFINITION. The steps S2 to S14 (R438, R439, R441, R448 to R451, R455), the personality deadline (R429, R430) and the wake governor
(R462 to R464). -/

namespace Sys2Proof.Machine

/-! ### How steps begin -/

/-- This start is degraded (R449). -/
def State.degraded (s : State) : Bool := s.on 0 JOURNAL_STAT_degraded

/-- The dies that answer in this start. -/
def State.present (s : State) : List Nat := allDies.filter (fun d => s.live d)

/-- Every edge of the device runs at the conservative rate (R241). -/
def conservative (s : State) : State :=
  s.each s.present (fun s d => s.each edges (fun s e =>
    let s := s.setF d CORUG_CFG_conservative 1
    if (edgeFar d e).isSome then s.setF d (CORUG_EDGE_conservative e) 1 else s))

/-- The channels of the I/O dies that answer. -/
def State.channels (s : State) : List Nat :=
  (List.range 8).filter (fun c => s.live (chanDie c) && !s.dieFenced (chanDie c))

/-- Step k begins with its action (R438). -/
def beginAt (k : Nat) (s : State) : State :=
  let s := beginStep k s
  match k with
  | 5 => beginLoad { kind := 1, src := 0, addr := 0, digest := none } s
  | 6 => beginLoad { kind := 2, src := (s.planAlt 6).toNat, addr := 0, digest := none } s
  | 7 => s.when (s.on 0 JOURNAL_PLAN_skip7) (fun s => s.setF 0 BIST_S7_skipped 1)
  | 8 =>
    let s := startWear [4] s
    s.when (s.planAlt 8) conservative
  | 9 => beginLoad { kind := 4, src := (s.planAlt 9).toNat, addr := 0, digest := none } s
  | 11 => if s.degraded then s else s.each s.channels (fun s c => beginTraining c s.s11Grade true s)
  | 12 => if s.degraded then s else beginS12 s
  | 13 => lanesStart (s.planAlt 13) (startWear [5] s)
  | 14 =>
    let s := { s with start := { s.start with mayJoin := true } }
    s.when (s.hasUpPort && decide (s.portState s.upstream = 3)) sendJoinReq
  | _ => s

/-- The step after step k begins; a deferred S12 stands between S14 and S15 (R430). -/
def goNext (k : Nat) (s : State) : State :=
  match k with
  | 11 =>
    if !s.degraded && s.defers then beginAt 13 { s with start := { s.start with deferred := true } } else beginAt 12 s
  | 12 => beginAt (if s.start.deferred then 15 else 13) s
  | 14 => beginAt (if s.start.deferred then 12 else 15) s
  | _ => beginAt (k + 1) s

/-! ### How steps end -/

/-- Step k ends with an outcome that lets the start go on. -/
def endStep (k outcome detail : Nat) (s : State) : State := goNext k (record k outcome (s.variantOf k) detail s)

/-- Step k passes; a stop there is over (R454). -/
def passStep (k detail : Nat) (s : State) : State :=
  let s := s.when (decide (s.f 0 JOURNAL_STICKY_stop_step = k)) (fun s => s.setF 0 JOURNAL_STICKY_stop_valid 0)
  endStep k 0 detail s

/-- The edges between dies that answer and are not fenced, and that have not trained: die and edge, the first one first. -/
def State.untrained (s : State) : List (Nat × Nat) :=
  s.present.flatMap (fun d => (edges.filter (fun e =>
    match edgeFar d e with
    | some f => s.live f && !s.on d (CORUG_EDGE_fenced e) && !s.on d (CORUG_EDGE_trained e)
    | none => false)).map (fun e => (d, e)))

/-- The detail of S8: the first failing edge (R455). -/
def State.s8Detail (s : State) : Nat := match s.untrained with | (d, e) :: _ => d + 16 * e | [] => 0

/-- The shell edges that have not trained. -/
def State.shellUntrained (s : State) : List (Nat × Nat) := s.untrained.filter (fun x => s.shellEdge x.1 x.2)

/-- Fence an edge on one die with cause 4: no error report goes with it, and the edge can be trained at once (R449). -/
def fenceShut (d e : Nat) (s : State) : State :=
  if s.on d (CORUG_EDGE_fenced e) then s
  else
    let s := s.setFs d [(CORUG_EDGE_fenced e, 1), (CORUG_EDGE_trained e, 0), (CORUG_EDGE_reset_seen e, 1)]
    let s := s.evtLatch d CORUG_EVT_fence (fun s =>
      s.setFs d [(CORUG_FENCE_LOG_edge, e), (CORUG_FENCE_LOG_cause, 4), (CORUG_FENCE_LOG_tick, s.tick16)])
    fenceChannels d e (setPorts d e true s)

/-- S8 of a degraded start: every edge that is no shell edge is fenced on both of its dies (R449). -/
def shutEdges (s : State) : State :=
  s.each s.present (fun s d => s.each edges (fun s e =>
    if (edgeFar d e).isSome && !s.shellEdge d e then fenceShut d e s else s))

/-- The start becomes degraded at step k (R448 to R450). -/
def degrade (k : Nat) (s : State) : State :=
  let s := s.setFs 0 [(JOURNAL_STAT_degraded, 1), (JOURNAL_STAT_cause, k), (CFG_STAT_shell_only, 1)]
  let s := raiseMsix (s.f 0 PCIE_CTRL_evt_vector) (s.evt 0 JOURNAL_EVT_degraded)
  match k with
  | 4 =>
    let out := s.start.silent
    let s := fenceSilent out s
    let r := s.s4Check (if s.start.s4Copy = 0 then none else s.start.hdrHeader) [] out
    let s := s4Show r out out s
    (match r with
      | none => goNext 4 s
      | some (c, d, f, e) => stopStart 4 6 0 ((c + 16 * d + 256 * f + 65536 * e) % 2 ^ 24) 7 s)
  | 8 =>
    conservative (shutEdges ({ s with start := { s.start with shellS8 := true } }.setF 0 JOURNAL_PLAN_alt (s.f 0 JOURNAL_PLAN_alt ||| 2 ^ 8)))
  | 12 => goNext 12 (abortLoad 3 s)
  | _ => goNext k s

/-- A failure that would restart does so no more: it is the third in a row, or four restarts have been made (R448). -/
def State.lastChance (s : State) (k : Nat) : Bool :=
  decide (3 ≤ s.failsOf k + 1) || decide (4 ≤ s.f 0 JOURNAL_STICKY_restarts)

/-- Step k fails (R438, R441, R448, R449). -/
def stepFails (k detail : Nat) (s : State) : State :=
  let v := s.variantOf k
  if k = 7 ∨ k = 14 then endStep k 1 detail s
  else if k = 2 ∨ k = 3 ∨ k = 5 then stopStart k 3 v detail 5 s
  else if s.degraded then
    if k = 6 ∨ k = 9 ∨ (k = 8 ∧ !s.shellUntrained.isEmpty) then stopStart k 3 v detail 5 s
    else endStep k 1 detail (if k = 8 then s.each s.untrained (fun s x => fenceShut x.1 x.2 s) else s)
  else if s.lastChance k then
    if k = 6 ∨ k = 9 then stopStart k 3 v detail 5 s else degrade k (record k 1 v detail s)
  else restart (record k 1 v detail s)

/-! ### S2 to S8 -/

/-- S2 ends: the flashes have answered, and the journal is scanned; once the ROM check has passed the keys and the counter are read (R443,
R460, R495, R501). -/
def endS2 (i : StepIn) (s : State) : State :=
  let size (x : Option (BitVec 16)) : Nat := match x with | some n => n.toNat | none => 0
  let s := s.setFs 0 [(NVM_STAT_nvm0, i.nvm0.isSome.toNat), (NVM_STAT_nvm1, i.nvm1.isSome.toNat), (NVM_SIZE_nvm0, size i.nvm0),
    (NVM_SIZE_nvm1, size i.nvm1)]
  let s := scanPlan s
  if i.ok then passStep 2 0 (clockRecord (counterStart (readFuses s))) else stepFails 2 0 s

/-- S4 ends: the check of R30 over the dies that answered and the header that could be read (R30 to R34). -/
def endS4 (i : StepIn) (s : State) : State :=
  let silent := i.silent.map (·.val)
  let (copy, h) := s4Header i
  let s := { s with start := { s.start with s4Copy := copy, silent := silent, hdrHeader := h } }
  let r := s.s4Check h silent []
  let s := s4Show r silent [] s
  match r with
  | none => passStep 4 0 s
  | some (c, d, f, e) =>
    let detail := (c + 16 * d + 256 * f + 65536 * e) % 2 ^ 24
    if c = 5 then stepFails 4 detail s else stopStart 4 6 0 detail 7 s

/-- The detail of S5 (R455). -/
def State.s5Detail (s : State) : Nat := s.start.rej0 + 16 * s.start.rej1

/-- S5 ends once a copy is accepted or both have failed; a copy other than the one that S4 read repeats the S4 check (R424). -/
def endS5 (s : State) : State :=
  if s.fab.load.isSome then s
  else if s.start.hdr.isNone then stepFails 5 s.s5Detail s
  else
    let out := s.start.silent
    let r := if s.start.hdrCopy = s.start.s4Copy then none else s.s4Check s.start.hdrHeader [] out
    let s := if s.start.hdrCopy = s.start.s4Copy then s else s4Show r out out s
    match r with
    | none => passStep 5 s.s5Detail (applyHeader s)
    | some (c, d, f, e) => stopStart 4 6 0 ((c + 16 * d + 256 * f + 65536 * e) % 2 ^ 24) 7 s

/-- The reasons of a load in a step's detail (R455). -/
def State.loadDetail (s : State) : Nat := s.start.reject + 16 * s.start.abort

/-- The Hawkmoth leaves reset: its code is locked and the heartbeat monitor starts (R472, R477). -/
def hawkmothStarts (s : State) : State :=
  let n := match s.start.hawk with
    | some h => (match h.area with | .hawkmoth _ _ n => n.toNat | _ => 0)
    | none => 0
  let s := s.setFs 0 [(CORE_STAT_state 0, 1), (CORE_STAT_loaded 0, 1), (CORE_STAT_locked 0, 1)]
  s.setFs 0 [(CORE_HB_CFG_period, n), (CORE_HB_CFG_active, 1)]

/-- S6 ends once both containers of firmware have loaded, or one has been rejected or has aborted (R472). -/
def endS6 (s : State) : State :=
  if s.fab.load.isSome then s
  else if s.start.hawk.isSome && s.start.skip.isSome && decide (s.loadDetail = 0) then passStep 6 0 (hawkmothStarts s)
  else stepFails 6 s.loadDetail s

/-- S7 ends: skipped under R446, or its checks with their result (R596). -/
def endS7 (i : StepIn) (s : State) : State :=
  if s.on 0 JOURNAL_PLAN_skip7 then endStep 7 2 0 s
  else
    let f := i.failed.toNat
    let s := s.setFs 0 [(BIST_S7_ran, 1), (BIST_S7_pass, if f = 0 then 1 else 0), (BIST_S7_failed, f), (BIST_S7_die, if f = 0 then 0 else i.die.val)]
    if f = 0 then passStep 7 0 s else stepFails 7 f (s.evt 0 BIST_EVT_s7_fail)

/-- S8 passes; on a device with the accessory site the UCIe link begins to train (R249, R259). -/
def passS8 (s : State) : State := passStep 8 0 (s.when (decide (s.fuses.variant = 1)) (fun s => s.setF 0 UCIE_STAT_state uTraining))

/-- The dies that the shell container in the flash names, as a start that degrades at S8 finds them (R449). -/
def shellDies (i : StepIn) (s : State) : State := { s with start := { s.start with shellDies := i.shell.map (·.val) } }

/-- S8 ends: every edge has trained, or in the S8 of a degraded start the shell edges have (R249, R449). -/
def endS8 (s : State) : State :=
  if s.start.shellS8 then
    if s.shellUntrained.isEmpty then goNext 8 s else stopStart 8 3 (s.variantOf 8) s.s8Detail 5 s
  else if s.untrained.isEmpty then passS8 s
  else stepFails 8 s.s8Detail s

/-! ### S9 to S14 -/

/-- S9 has ended: the point of R427 may have come. -/
def passS9 (s : State) : State :=
  let s := { s with start := { s.start with s9 := true } }
  passStep 9 0 (if s.pwr.perst then s else barPoint s)

/-- S9 ends once the shell has been released, or its load was rejected or aborted (R426). -/
def endS9 (s : State) : State :=
  if s.fab.load.isSome then s
  else if s.on 0 CFG_STAT_shell_up && decide (s.loadDetail = 0) then passS9 s
  else stepFails 9 s.loadDetail s

/-- The channels that are not READY, as a mask. -/
def State.notReady (s : State) : Nat := (List.range 8).foldl (fun a c => if s.ddrState c = 2 then a else a + 2 ^ c) 0

/-- The highest grade code of a channel that is READY, 0 with none (R343). -/
def State.topGrade (s : State) : Nat :=
  (List.range 8).foldl (fun a c => if s.ddrState c = 2 then max a (s.cf c DDR_STAT_grade) else a) 0

/-- The grade of the start is fixed, and the plan's interleave sets are committed (R343, R347). Answers the mask of the sets left disabled. -/
def fixS11 (s : State) : State × Nat :=
  let plan := match s.start.hdr with | some x => x.sets | none => []
  let (l, bad) := s.planSets ((List.range 8).map (fun n => match plan[n]? with | some (a, b, c) => setOfWords a b c | none => none))
  let s := { s with ddr := { s.ddr with grade := s.topGrade, next := some l } }
  let s := s.each plan.zipIdx (fun s e =>
    ((s.wr 0 (DDR_SET_A e.2) e.1.1).wr 0 (DDR_SET_B e.2) e.1.2.1).wr 0 (DDR_SET_C e.2) e.1.2.2)
  (s.setF 0 DDR_SET_STAT_pending 1, bad)

/-- S11 ends: it passes when every required channel is READY (R343). -/
def finishS11 (s : State) : State :=
  let req := match s.start.hdr with | some x => x.ddrReq.toNat | none => 0
  let short := s.notReady
  let (s, bad) := fixS11 s
  if short &&& req = 0 then passStep 11 (short + 256 * bad) s else stepFails 11 (short + 256 * bad) s

/-- S11 goes on until every channel has trained; READY channels at a lower code then retrain at the grade of the start (R343). -/
def endS11 (s : State) : State :=
  if s.degraded then endStep 11 4 0 s
  else if (List.range 8).any (fun c => decide (s.ddrState c = 1)) then s
  else
    let top := s.topGrade
    let slow := (List.range 8).filter (fun c => decide (s.ddrState c = 2) && decide (s.cf c DDR_STAT_grade < top))
    if slow.isEmpty then finishS11 s else s.each slow (fun s c => beginTraining c top true s)

/-- The detail of S12 (R455). -/
def State.s12Detail (s : State) : Nat :=
  let susp := allDies.any (fun d => s.live d && decide (s.f d PROBES_SCH_STATE_state = schSuspended))
  s.loadDetail + s.start.s12skip + (if susp then 2 ^ 17 else 0)

/-- The personality comes from the host (R429, R430). -/
def State.hostPers (s : State) : Bool := match s.start.hdr with | some x => decide (x.persSrc = 1) | none => false

/-- S12 ends once the personality has been released, or its load from the flash was rejected or aborted (R428 to R430). -/
def endS12 (s : State) : State :=
  if s.degraded then endStep 12 4 0 s
  else if s.fab.load.isSome then s
  else if s.on 0 CFG_STAT_pers_up then passStep 12 s.s12Detail s
  else if s.hostPers then s
  else stepFails 12 s.s12Detail s

/-- S13 ends once no required lane trains or hunts any more (R279). -/
def endS13 (s : State) : State :=
  let busy (d : Nat) : Bool := (s.s13Lanes d).any (fun l =>
    s.on d (lf l LQ_L_CFG_req) && (decide (s.laneState d l = lTraining) || decide (s.laneState d l = lHunting)))
  if s.lanesShort = 0 then passStep 13 0 s
  else if busy 0 || busy 1 then s
  else stepFails 13 s.lanesShort s

/-- S14 passes once the upstream port is UP, or at once on a top device (R438). -/
def endS14 (s : State) : State :=
  if !s.hasUpPort || decide (s.portState s.upstream = 4) then passStep 14 0 s else s

/-! ### The commands of the steps -/

/-- START_STEP_END: the step that runs ends, if what it does is over; while the buffer of records is full it waits (R438, R456). -/
def startStepEnd (i : StepIn) (s : State) : State :=
  if !s.on 0 JOURNAL_STAT_running || s.bufFull then s
  else
    match s.f 0 JOURNAL_STAT_step with
    | 2 => endS2 i s
    | 3 => if i.ok then passStep 3 0 s else stepFails 3 0 s
    | 4 => endS4 i s
    | 5 => endS5 s
    | 6 => endS6 s
    | 7 => endS7 i s
    | 8 => endS8 (shellDies i s)
    | 9 => endS9 s
    | 10 => if i.ok then passStep 10 0 s else stepFails 10 0 s
    | 11 => endS11 s
    | 12 => endS12 s
    | 13 => endS13 s
    | 14 => endS14 s
    | _ => s

/-- START_STEP_END (R438). -/
def execStartStepEnd (i : StepIn) (s : State) : Res := run (startStepEnd i) s

/-- START_STEP_TIMEOUT: the step that runs reaches its limit and fails; at S5 the copy being read has not answered, and a channel that still
trains at S11 fails (R438, R455). Steps without a limit, and the wait for a host personality, go on. -/
def startStepTimeout (i : StepIn) (s : State) : State :=
  if !s.on 0 JOURNAL_STAT_running || s.bufFull then s
  else
    match s.f 0 JOURNAL_STAT_step with
    | 2 => stepFails 2 0 (scanPlan s)
    | 3 => stepFails 3 0 s
    | 4 => stepFails 4 5 s
    | 5 =>
      let s := headerCopyFails 0xF s
      if s.fab.load.isSome then s else endS5 s
    | 6 => stepFails 6 s.loadDetail s
    | 7 => if s.on 0 JOURNAL_PLAN_skip7 then endStep 7 2 0 s else stepFails 7 0 ((s.setF 0 BIST_S7_ran 1).evt 0 BIST_EVT_s7_fail)
    | 8 =>
      let s := shellDies i s
      if s.start.shellS8 then endS8 s else stepFails 8 s.s8Detail s
    | 9 => stepFails 9 s.loadDetail s
    | 10 => stepFails 10 0 s
    | 11 =>
      if s.degraded then endStep 11 4 0 s
      else
        let late := (List.range 8).filter (fun c => decide (s.ddrState c = 1))
        let s := s.each late (fun s c => trainFails c 4 s)
        let (t, bad) := fixS11 s
        stepFails 11 (s.notReady + 256 * bad) t
    | 12 => if s.degraded then endStep 12 4 0 s else if s.hostPers then s else stepFails 12 s.s12Detail s
    | 13 => stepFails 13 s.lanesShort s
    | 14 => stepFails 14 0 s
    | _ => s

/-- START_STEP_TIMEOUT (R438). -/
def execStartStepTimeout (i : StepIn) (s : State) : Res := run (startStepTimeout i) s

/-- The count at which the personality deadline reaches 0 (R427, R429, R430). -/
def State.deadlineEnd (s : State) : Option Nat :=
  match s.start.deadline with
  | some t => some (t + s.f 0 CFG_PDEADLINE_value * 1600000)
  | none => none

/-- PERSONALITY_DEADLINE: the wait for a host personality ends without it, and the start goes on with the shell alone (R429, R442). -/
def personalityDeadline (s : State) : State :=
  if !s.atStep 12 || s.degraded || !s.hostPers || s.on 0 CFG_STAT_pers_up || s.bufFull then s
  else
    match s.deadlineEnd with
    | none => s
    | some t =>
      if s.time.count < t then s
      else endStep 12 5 s.s12Detail ((s.setF 0 CFG_STAT_shell_only 1).evt 0 CFG_EVT_deadline)

/-- PERSONALITY_DEADLINE (R429). -/
def execPersonalityDeadline (s : State) : Res := run personalityDeadline s

/-! ### The wake governor (R462 to R464) -/

/-- L in A per microsecond, within 10 to 40 (R462, R465). -/
def State.wakeLimit (s : State) : Nat := max 10 (min 40 (s.f 0 JOURNAL_WG_LIMIT_l))

/-- The rail of an event: 0 VCCIOS, 1 VCCION, 2 to 9 VCCF0 to VCCF7, 10 and 11 VCCA_S and VCCA_N, 12 and 13 VDDQ_S and VDDQ_N (R462). -/
def WakeEv.rail (e : WakeEv) : Nat :=
  match e with
  | .release d => d.val
  | .fill d _ => d.val + 2
  | .wakeBm d => d.val + 2
  | .wakeDm d => d.val + 2
  | .quad d _ => 10 + d.val
  | .dram c => 12 + c.val / 4

/-- The step of an event, in units of 0.05 A (R462). -/
def WakeEv.step (e : WakeEv) : Nat :=
  match e with
  | .release d => if d.val < 2 then 80 else 120
  | .fill _ _ => 40
  | .wakeBm _ => 1
  | .wakeDm _ => 8
  | .quad _ _ => 20
  | .dram _ => 40

/-- The place of an event in the table of R462. -/
def WakeEv.place (e : WakeEv) : Nat :=
  match e with
  | .release d => if d.val < 2 then 0 else 1
  | .fill _ _ => 2
  | .wakeBm _ => 3
  | .wakeDm _ => 3
  | .quad _ _ => 4
  | .dram _ => 5

/-- The order of two events requested at once: by die, then by the table. -/
def WakeEv.before (a b : WakeEv) : Bool :=
  let die (e : WakeEv) : Nat := match e with | .release d => d.val | .fill d _ => d.val + 2 | .wakeBm d => d.val + 2
                                             | .wakeDm d => d.val + 2 | .quad d _ => d.val | .dram c => c.val / 4
  decide (die a < die b) || (decide (die a = die b) && decide (a.place < b.place))

/-- Insert an event among those requested at once. -/
def insertWake (e : WakeEv) (l : List WakeEv) : List WakeEv :=
  match l with
  | [] => [e]
  | x :: t => if e.before x then e :: x :: t else x :: insertWake e t

/-- The steps admitted on a rail in the microsecond that ends now, in units of 0.05 A. -/
def State.railSteps (s : State) (rail : Nat) : Nat :=
  s.wake.done.foldl (fun a e => if e.1 = rail ∧ s.time.count < e.2.1 + 1600 then a + e.2.2 else a) 0

/-- Admit the first event that waits on a rail, if its step fits the budget and no ramp runs there (R462 to R464). -/
def wakeAdmit (rail : Nat) (s : State) : State :=
  match s.wake.queue.find? (fun e => decide (e.1.rail = rail)) with
  | none => s
  | some (e, t) =>
    let (step, _, _) := KMap.look s.wake.ramp rail
    if step ≠ 0 ∨ 20 * s.wakeLimit < s.railSteps rail + e.step then s
    else
      let now := s.time.count
      let done := (rail, now, e.step) :: s.wake.done.filter (fun x => decide (now < x.2.1 + 1600))
      let s := { s with wake := { s.wake with queue := s.wake.queue.erase (e, t), done := done } }
      let w := now - t
      if w = 0 then s
      else
        let s := { s with start := { s.start with delay := s.start.delay + w } }
        ((s.largest 0 JOURNAL_WG_DELAY_tb (min w (2 ^ 32 - 1))).inc 0 JOURNAL_WG_CNT_count 1).evt 0 JOURNAL_EVT_wg_delay

/-- WAKE_GOVERNOR_ADMIT: the events of `new` are requested, and the first event that waits on `rail` is admitted once its budget allows. -/
def wakeGovernor (new : List WakeEv) (rail : Nat) (s : State) : State :=
  if !s.live 0 then s
  else
    let l := (new.foldl (fun a e => insertWake e a) []).map (fun e => (e, s.time.count))
    let s := wakeAdmit rail { s with wake := { s.wake with queue := s.wake.queue ++ l } }
    s.setF 0 JOURNAL_WG_QUEUED_events (min 65535 s.wake.queue.length)

/-- WAKE_GOVERNOR_ADMIT (R462). -/
def execWakeGovernorAdmit (new : List WakeEv) (rail : Fin 14) (s : State) : Res := run (wakeGovernor new rail.val) s

/-- The ramp of a release begins on fabric die d with quarter-ampere steps q in all: d = q * 50 / L tb rounded up; under 16 tb it is
omitted (R463). -/
def rampStart (d : Nat) (q : Nat) (s : State) : State :=
  let n := (q * 50 + s.wakeLimit - 1) / s.wakeLimit
  if n < 16 then s else { s with wake := { s.wake with ramp := KMap.put s.wake.ramp d (1, n, s.time.count) } }

/-- RELEASE_RAMP_STEP: the next ramp step of a die begins once its count has come; after step 7 the clock lines deliver every edge (R463). -/
def rampStep (d : Nat) (s : State) : State :=
  let (j, n, t) := KMap.look s.wake.ramp d
  if j = 0 ∨ s.time.count < t + j * n then s
  else { s with wake := { s.wake with ramp := KMap.put s.wake.ramp d (if 7 ≤ j then (0, 0, 0) else (j + 1, n, t)) } }

/-- RELEASE_RAMP_STEP (R463). -/
def execReleaseRampStep (d : FabDie) (s : State) : Res := run (rampStep (d.val + 2)) s

/-! ### Release (R452, R461, R463, R478) -/

/-- The slot of this device: 4 times its member number (R461). -/
def State.slot (s : State) : Nat := if s.on 0 ITA_ID_valid then 4 * (s.f 0 ITA_ID_id % 64) else 0

/-- The release currents of the released regions of die d, in units of 0.25 A (R463, R465). -/
def State.releaseSteps (s : State) (d : Nat) (l : List Nat) : Nat :=
  l.foldl (fun a i => let r := devRegion d i; a + s.f 0 (JOURNAL_WG_RSTEP_step (r / 4) (r % 4))) 0

/-- S15 releases at this tick boundary, if it is in the device's slot (R452, R458, R461, R478). -/
def startRelease (s : State) : State :=
  if !s.atStep 15 || s.bufFull || decide (s.time.num % 256 ≠ s.slot) then s
  else
    let s := record 15 0 0 0 s
    let s := s.when (decide (s.f 0 JOURNAL_STICKY_stop_step = 15)) (fun s => s.setF 0 JOURNAL_STICKY_stop_valid 0)
    let s := s.setFs 0 [(JOURNAL_STAT_running, 0), (JOURNAL_STAT_released, 1), (JOURNAL_STICKY_restarts, 0), (CORE_HB_STAT_faults, 0)]
    let s := (s.wr64 0 JOURNAL_REL_LO JOURNAL_REL_HI s.time.num).when s.frozen (fun s => s.evt 0 JOURNAL_EVT_frozen)
    { s with start := { s.start with released := true } }

end Sys2Proof.Machine
end

