-- ==== Sys2Proof/Machine/Cores.lean ====
section
/-! DEFINITION. The management cores (16): resets, loads, watchdogs, the heartbeat, lockstep, mailboxes, the memory map and the private port. -/

namespace Sys2Proof.Machine

/-! ### Reset and entry (R472, R475, R476, R579) -/

/-- Core c is RUNNING (`CORE_STAT.state`). -/
def State.coreRuns (s : State) (c : Nat) : Bool := s.live (coreDie c) && decide (s.kf c CORE_STAT_state = 1)

/-- Where core c starts: 0 for the Hawkmoth, the entry of its container in the instruction SRAM for a Skipper (R472 to R474). -/
def State.coreEntry (s : State) (c : Nat) : Nat :=
  if c = 0 then 0
  else match s.start.skip with
    | some h => (match h.area with
      | .skipper _ l => 0x10000000 + (match l[c - 1]? with | some e => e.2.toNat | none => 0)
      | _ => 0x10000000)
    | none => 0x10000000

/-- Core c leaves reset: it runs at its entry, or halts before its first instruction (R476, R579). -/
def coreStarts (c : Nat) (s : State) : State :=
  let s := (s.setKf c CORE_STAT_state 1).setKf c DBG_C_STAT_state 0
  if s.kOn c DBG_C_CTRL_halt_on_reset then enterHalted c 3 (s.setKf c DBG_C_DPC_pc (s.coreEntry c)) else s

/-- The watchdog of core c stops. -/
def wdogStop (c : Nat) (s : State) : State :=
  let s := { s with core := { s.core with wdog := KMap.put s.core.wdog c (0, 0) } }
  (s.setKf c CORE_WDOG_CFG_en 0).setKf c CORE_STAT_wdog 0

/-- Core c is reset with a cause: its data SRAM is filled, its mailbox emptied, its watchdog stops, a halt ends, and the results of its
requests are discarded; it stays in reset (R475, R476, R579). -/
def coreReset (c cause : Nat) (s : State) : State :=
  let ents := s.net.ents.map (fun e => if e.req.src.toNat = coreInit c then { e with dead := true } else e)
  let core := { s.core with
    dsram := dropDie s.core.dsram c 0x10000, due := dropDie s.core.due c 0x10000, mail := KMap.put s.core.mail c [] }
  let s := wdogStop c { s with net := { s.net with ents := ents }, core := core }
  let s := ((s.setKf c CORE_CAUSE_cause cause).setKf c CORE_STAT_state 0).setKf c DBG_C_STAT_state 0
  holdUpdate (s.setKf c DBG_C_STAT_fed_busy 0)

/-- A write to a core slot by a source that may not make it is ignored (R485). -/
def coreRefuse (c : Nat) (s : State) : State := s.evt (coreDie c) (CORE_EVT_refused (coreSlot c))

/-- CORE_CTRL_RESET: a write of `CORE_CTRL.reset` by the Hawkmoth holds a Skipper in reset or releases it at its entry if it is loaded; it
has no effect in slot 0 of IOS (R476, R485). -/
def coreCtrl (i : Init) (c : Nat) (v : Bool) (s : State) : State :=
  if !s.live (coreDie c) then s
  else if !isHawkmoth i then coreRefuse c s
  else
    let was := s.kOn c CORE_CTRL_reset
    let s := s.setKf c CORE_CTRL_reset v.toNat
    let st := s.kf c CORE_STAT_state
    if c = 0 ∨ st = 3 then s
    else if v then (if was then s else coreReset c 2 s)
    else if was ∧ st = 0 ∧ s.kOn c CORE_STAT_loaded then coreStarts c s
    else s

/-- CORE_CTRL_RESET (R476). -/
def execCoreCtrlReset (i : Init) (c : Core) (v : Bool) (s : State) : Res := run (coreCtrl i c.val v) s

/-! ### Loading a Skipper (R474, R485) -/

/-- The segment that the Skipper container names for core c (R473). -/
def State.coreSeg (s : State) (c : Nat) : Option Seg :=
  match s.start.skip with
  | some h => (match h.area with
    | .skipper _ l => (match l[c - 1]? with | some e => if e.1 = 0xFF then none else h.segs[e.1.toNat]? | none => none)
    | _ => none)
  | none => none

/-- The instruction SRAM of core c is filled (R471). -/
def fillIsram (c : Nat) (s : State) : State :=
  let core := { s.core with isram := dropDie s.core.isram c 0x10000, iue := dropDie s.core.iue c 0x10000 }
  { s with core := core }

/-- The reason that refuses a write of `CORE_LOAD`, 0 when the load starts (R474, R485). -/
def State.coreLoadReason (s : State) (i : Init) (c : Nat) : Nat :=
  if !isHawkmoth i then 1
  else if s.core.loading.isSome then 7
  else if c = 0 ∨ 12 < c then 2
  else if (s.coreSeg c).isNone then 3
  else if s.dieFenced (coreDie c) then 4
  else 0

/-- CORE_LOAD: a write of `CORE_LOAD` (R474). -/
def coreLoad (i : Init) (c : Nat) (s : State) : State :=
  if !s.live 0 then s
  else
    let r := s.coreLoadReason i c
    if r = 1 then (coreRefuse 0 s).setF 0 CORE_LOADSTAT_reason 1
    else if r = 7 then s.setF 0 CORE_LOADSTAT_reason 7
    else if r ≠ 0 then s.setFs 0 [(CORE_LOADSTAT_core, c), (CORE_LOADSTAT_reason, r)]
    else
      let s := fillIsram c (coreReset c 4 s)
      let s := (s.setKf c CORE_STAT_state 3).setKf c CORE_STAT_loaded 0
      let s := { s with core := { s.core with loading := some c } }
      s.setFs 0 [(CORE_LOADSTAT_busy, 1), (CORE_LOADSTAT_core, c), (CORE_LOADSTAT_reason, 0)]

/-- CORE_LOAD (R474). -/
def execCoreLoad (i : Init) (core : Fin 16) (s : State) : Res := run (coreLoad i core.val) s

/-- CORE_LOAD_DONE: the segment has been read again, `stored`, or the flash did not give it; verified, it stands in the instruction SRAM and
the core is released at its entry (R474). -/
def coreLoadDone (stored : Option (List Byte)) (s : State) : State :=
  match s.core.loading with
  | none => s
  | some c =>
    let s := ({ s with core := { s.core with loading := none } }).setF 0 CORE_LOADSTAT_busy 0
    let fail (r : Nat) : State := fillIsram c ((s.setKf c CORE_STAT_state 0).setF 0 CORE_LOADSTAT_reason r)
    if s.dieFenced (coreDie c) then s.setF 0 CORE_LOADSTAT_reason 4
    else match s.coreSeg c, stored with
      | some x, some l =>
        if l.length ≠ x.len.toNat then fail 6
        else (match segPlain x l s with
          | none => fail 5
          | some p =>
            let s := (storeCode c (wordsOf p) s).setKf c CORE_STAT_loaded 1
            if s.kOn c CORE_CTRL_reset then s.setKf c CORE_STAT_state 0 else coreStarts c s)
      | _, _ => fail 6

/-- CORE_LOAD_DONE (R474). -/
def execCoreLoadDone (stored : Option (List Byte)) (s : State) : Res := run (coreLoadDone stored) s

/-! ### Watchdogs and the heartbeat (R475 to R478, R586, R587) -/

/-- The cycles that a watchdog loads (`CORE_WDOG_CFG.timeout`). -/
def State.wdogTimeout (s : State) (c : Nat) : Nat := max 1 (s.kf c CORE_WDOG_CFG_timeout) * 1024

/-- Core cycles left in the watchdog of core c: 5 cycles of the Hawkmoth and 4 of a Skipper in 16 tb; a halted core's stands still (R466,
R475, R576). -/
def State.wdogLeft (s : State) (c : Nat) : Nat :=
  let (left, t) := KMap.look s.core.wdog c
  if s.kf c CORE_STAT_state = 2 then left else left - (s.time.count - t) * (if c = 0 then 5 else 4) / 16

/-- Load the watchdog of core c. -/
def wdogLoad (c left : Nat) (s : State) : State :=
  { s with core := { s.core with wdog := KMap.put s.core.wdog c (left, s.time.count) } }

/-- WATCHDOG_START: a write of `CORE_WDOG_CFG`; the timeout is fixed while the watchdog runs (R475). -/
def wdogWrite (c : Nat) (v : Word) (s : State) : State :=
  if !s.live (coreDie c) ∨ s.kOn c CORE_WDOG_CFG_en then s
  else
    let s := s.setKf c CORE_WDOG_CFG_timeout (bitsOf v 0 24)
    if bitsOf v 31 1 = 1 then
      let s := (s.setKf c CORE_WDOG_CFG_en 1).setKf c CORE_STAT_wdog 1
      wdogLoad c (s.wdogTimeout c) s
    else s

/-- WATCHDOG_START (R475). -/
def execWatchdogStart (c : Core) (v : Word) (s : State) : Res := run (wdogWrite c.val v) s

/-- WATCHDOG_KICK: a write of `CORE_WDOG_KICK` (R475). -/
def wdogKick (c : Nat) (v : Word) (s : State) : State :=
  if s.live (coreDie c) ∧ v = 0x0000A5A5 ∧ s.kOn c CORE_WDOG_CFG_en then wdogLoad c (s.wdogTimeout c) s else s

/-- WATCHDOG_KICK (R475). -/
def execWatchdogKick (c : Core) (v : Word) (s : State) : Res := run (wdogKick c.val v) s

/-- A heartbeat fault: the Hawkmoth is reset with a cause, and the fourth one since the last release ends in the safe state (R477, R478,
R508). -/
def heartbeatFault (cause : Nat) (s : State) : State :=
  let n := s.f 0 CORE_HB_STAT_faults + 1
  let s := s.setFs 0 [(CORE_HB_STAT_misses, 0), (CORE_HB_STAT_faults, n)]
  let s := raiseMsix (s.f 0 PCIE_CTRL_evt_vector) (coreStarts 0 (coreReset 0 cause s))
  if n < 4 then s
  else enterSafe 3 (setFatal ERR_FATAL_heartbeat (s.setFs 0 [(CORE_SAFE_heartbeat, 1), (CORE_SAFE_tick, s.tick16)]))

/-- WATCHDOG_EXPIRY: the watchdog of core c has counted down to 0 (R476, R477). -/
def wdogExpire (c : Nat) (s : State) : State :=
  if !s.live (coreDie c) ∨ !s.kOn c CORE_STAT_wdog ∨ s.kf c CORE_STAT_state = 2 ∨ s.wdogLeft c ≠ 0 then s
  else if c = 0 then heartbeatFault 1 (s.evt 0 (CORE_EVT_wdog_reset 0))
  else
    let s := (coreReset c 1 s).evt (coreDie c) (CORE_EVT_wdog_reset (coreSlot c))
    if s.kOn c CORE_STAT_loaded && !s.kOn c CORE_CTRL_reset then coreStarts c s else s

/-- WATCHDOG_EXPIRY (R476). -/
def execWatchdogExpiry (c : Core) (s : State) : Res := run (wdogExpire c.val) s

/-- HEARTBEAT_KICK: a write of `CORE_HB_KICK` (R477, R485). -/
def heartbeatKick (i : Init) (s : State) : State :=
  if !s.live 0 then s
  else if isHawkmoth i then { s with core := { s.core with kicked := true } }
  else coreRefuse 0 s

/-- HEARTBEAT_KICK (R477). -/
def execHeartbeatKick (i : Init) (s : State) : Res := run (heartbeatKick i) s

/-- The monitor acts at a heartbeat check (R477, R587). -/
def heartbeatCheck (s : State) : State :=
  if !s.live 0 ∨ !s.on 0 CORE_HB_CFG_active then s
  else if s.core.kicked then ({ s with core := { s.core with kicked := false } }).setF 0 CORE_HB_STAT_misses 0
  else if s.on 0 CORE_HB_CFG_hold then s
  else
    let n := s.f 0 CORE_HB_STAT_misses + 1
    if s.f 0 CORE_HB_CFG_period ≤ n then heartbeatFault 3 s else s.setF 0 CORE_HB_STAT_misses n

/-- HEARTBEAT_CHECK: the check 16 tb before the boundary, once in each tick of 80 tb or more (R56, R477). -/
def heartbeatTick (s : State) : State :=
  if !s.mayCheck then s
  else heartbeatCheck { s with time := s.checkTime, tick := { s.tick with hbDone := true } }

/-- HEARTBEAT_CHECK (R477). -/
def execHeartbeatCheck (s : State) : Res := runTime State.checkTime heartbeatTick s

/-- LOCKSTEP_MISMATCH: the Hawkmoth pair disagrees (R479, R508). -/
def lockstep (s : State) : State :=
  if !s.live 0 ∨ s.kf 0 CORE_STAT_state = 0 then s
  else enterSafe 2 (setFatal ERR_FATAL_lockstep (s.setFs 0 [(CORE_SAFE_lockstep, 1), (CORE_SAFE_tick, s.tick16)]))

/-- LOCKSTEP_MISMATCH (R479). -/
def execLockstepMismatch (s : State) : Res := run lockstep s

/-! ### Mailboxes and the timer (R480 to R482) -/

/-- The mailbox of core c. -/
def State.mailbox (s : State) (c : Nat) : List (Word × Nat × Bool) := KMap.look s.core.mail c

/-- A write of `CORE_MB_IN`: none where the FIFO of 32 words is full and the write gets RETRY (R480). -/
def mailPush (c : Nat) (w : Word) (src : Nat) (dbg : Bool) (s : State) : Option State :=
  if 32 ≤ (s.mailbox c).length then none
  else some { s with core := { s.core with mail := KMap.put s.core.mail c (s.mailbox c ++ [(w, src, dbg)]) } }

/-- MAILBOX_PUSH (R480). -/
def mailWrite (c : Nat) (w : Word) (i : Init) (dbg : Bool) (s : State) : State :=
  if !s.live (coreDie c) then s
  else match mailPush c w i.toNat dbg s with
    | some t => t
    | none => s.emit .retry

/-- MAILBOX_PUSH (R480). -/
def execMailboxPush (c : Core) (w : Word) (i : Init) (dbg : Bool) (s : State) : Res := run (mailWrite c.val w i dbg) s

/-- A read of `CORE_MB_POP`; `peek` leaves the word and `CORE_MB_SRC` as they are (R11, R480). -/
def mailPop (c : Nat) (peek : Bool) (s : State) : State × Word :=
  match s.mailbox c with
  | [] => (if peek then s else s.setKf c CORE_MB_SRC_valid 0, 0)
  | (w, src, dbg) :: t =>
    if peek then (s, w)
    else
      let s := { s with core := { s.core with mail := KMap.put s.core.mail c t } }
      (((s.setKf c CORE_MB_SRC_src_id src).setKf c CORE_MB_SRC_valid 1).setKf c CORE_MB_SRC_dbg dbg.toNat, w)

/-- MAILBOX_POP (R480). -/
def execMailboxPop (c : Core) (peek : Bool) (s : State) : Res :=
  run (fun s => if s.live (coreDie c.val) then let (t, w) := mailPop c.val peek s; t.emit (.value w) else s) s

/-- HOST_DOORBELL: a write of `CORE_HOSTDB` (R481, R485). -/
def hostDoorbell (i : Init) (v : Word) (s : State) : State :=
  if !s.live 0 then s
  else if isHawkmoth i then raiseMsix (bitsOf v 0 6) s
  else coreRefuse 0 s

/-- HOST_DOORBELL (R481). -/
def execHostDoorbell (i : Init) (v : Word) (s : State) : Res := run (hostDoorbell i v) s

/-- MACHINE_TIMER_INTERRUPT: mtime has reached `CORE_MTIMECMP` (R467, R482). -/
def timerInterrupt (c : Nat) (s : State) : State :=
  if s.live (coreDie c) ∧ s.tick.tb ≠ .off ∧
      s.rd64 (coreDie c) (CORE_MTIMECMP_LO (coreSlot c)) (CORE_MTIMECMP_HI (coreSlot c)) ≤ s.time.count then
    { s with core := { s.core with mtip := KMap.put s.core.mtip c true } }
  else s

/-- MACHINE_TIMER_INTERRUPT (R482). -/
def execMachineTimerInterrupt (c : Core) (s : State) : Res := run (timerInterrupt c.val) s

/-! ### The private GPIO port (R483) -/

/-- The pins of a die in analogue mode, as a mask (R562). -/
def State.analogPins (s : State) (d : Nat) : Nat :=
  (List.range (pinCount d)).foldl (fun a j => if s.on d (GPIO_P_CFG_analog j) then a + 2 ^ j else a) 0

/-- Half h (0 low, 1 high) of a 64-bit port value. -/
def halfOf (x : BitVec 64) (h : Nat) : Word := BitVec.ofNat 32 (nbits x.toNat (32 * h) 32)

/-- Replace half h of a 64-bit port value. -/
def setHalf (x : BitVec 64) (h : Nat) (w : Word) : BitVec 64 :=
  if h = 0 then BitVec.ofNat 64 (x.toNat / 2 ^ 32 * 2 ^ 32 + w.toNat) else BitVec.ofNat 64 (x.toNat % 2 ^ 32 + w.toNat * 2 ^ 32)

/-- Register k of the port of die d as it reads. -/
def State.portRead (s : State) (d k : Nat) (pins : BitVec 64) : Word :=
  let h := k % 2
  if d = 1 ∧ h = 1 then 0
  else match k / 2 with
    | 0 => halfOf (pins &&& ~~~BitVec.ofNat 64 (s.analogPins d)) h
    | 1 => halfOf (KMap.look s.gpio.portOut d) h
    | 2 => halfOf (KMap.look s.gpio.portOe d) h
    | 3 => halfOf (KMap.look s.gpio.portOut d) h
    | 4 => halfOf (KMap.look s.gpio.portOut d) h
    | _ => 0

/-- A store to register k of the port of die d. -/
def portWrite (d k : Nat) (w : Word) (s : State) : State :=
  let h := k % 2
  let out := KMap.look s.gpio.portOut d
  let oe := KMap.look s.gpio.portOe d
  let putOut (x : Word) : State := { s with gpio := { s.gpio with portOut := KMap.put s.gpio.portOut d (setHalf out h x) } }
  if d = 1 ∧ h = 1 then s
  else match k / 2 with
    | 1 => putOut w
    | 2 => { s with gpio := { s.gpio with portOe := KMap.put s.gpio.portOe d (setHalf oe h w) } }
    | 3 => putOut (halfOf out h ||| w)
    | 4 => putOut (halfOf out h &&& ~~~w)
    | _ => s

/-- The core has a private port: the Hawkmoth and the ION memory agent (R483). -/
def hasPort (c : Nat) : Bool := decide (c = 0 ∨ c = 4)

/-- PORT_ACCESS: a load or a store of a word of the port; `pins` are the synchronized inputs (R483). -/
def portAccess (c k : Nat) (write : Option Word) (pins : BitVec 64) (s : State) : State :=
  if !hasPort c || !s.coreRuns c then s
  else match write with
    | some w => portWrite (coreDie c) k w s
    | none => s.emit (.coreValue c (s.portRead (coreDie c) k pins))

/-- PORT_ACCESS (R483). -/
def execPortAccess (c : Core) (reg : Fin 16) (write : Option Word) (pins : BitVec 64) (s : State) : Res :=
  run (portAccess c.val reg.val write pins) s

/-! ### The memory map (R468, R469, R471, R581) -/

/-- What an access does to an SRAM word with what it finds there (R471): counted and reported; answers whether the word is
uncorrectable. -/
def sramTouch (c : Nat) (isram : Bool) (k : Nat) (err : SramErr) (s : State) : State × Bool :=
  let d := coreDie c
  let key := c * 0x10000 + k
  let known := KMap.look (if isram then s.core.iue else s.core.due) key
  if known ∨ err = .ue then
    let core := if isram then { s.core with iue := KMap.put s.core.iue key true } else { s.core with due := KMap.put s.core.due key true }
    let s := ({ s with core := core }).inc d (CORE_SRAM_ERR_ue (coreSlot c)) 1
    (errReport d 11 .contained 0x1F 0 (s.evt d (CORE_EVT_sram_ue (coreSlot c))), true)
  else if err = .ce then
    let s := (s.inc d (CORE_SRAM_ERR_ce (coreSlot c)) 1).evt d (CORE_EVT_sram_ce (coreSlot c))
    (errReport d 11 .corrected 0x1F 0 s, false)
  else (s, false)

/-- Word k of the data or instruction SRAM of core c. -/
def State.sramWord (s : State) (c : Nat) (isram : Bool) (k : Nat) : Word :=
  KMap.look (if isram then s.core.isram else s.core.dsram) (c * 0x10000 + k)

/-- Store a word; a full word clears an uncorrectable error. -/
def setSramWord (c : Nat) (isram : Bool) (k : Nat) (w : Word) (whole : Bool) (s : State) : State :=
  let key := c * 0x10000 + k
  let core := if isram then { s.core with isram := KMap.put s.core.isram key w } else { s.core with dsram := KMap.put s.core.dsram key w }
  let core := if !whole then core
    else if isram then { core with iue := KMap.put core.iue key false } else { core with due := KMap.put core.due key false }
  { s with core := core }

/-- The bytes of each SRAM of core c (R466). -/
def sramSize (c : Nat) : Nat := if c = 0 then 0x40000 else 0x10000

/-- A fetch of the Hawkmoth's word k: the lowest enabled patch unit that names it gives the word instead (R581). -/
def State.patched (s : State) (k : Nat) (w : Word) : Word :=
  match (List.range 16).find? (fun u => s.on 0 (DBG_PATCH_ADDR_en u) && decide (s.f 0 (DBG_PATCH_ADDR_word u) = k)) with
  | some u => s.rd 0 (DBG_PATCH_DATA u)
  | none => w

/-- The exception of an access that its address does not permit (R468). -/
def CoreOp.fault (op : CoreOp) : Nat := match op with | .fetch => 1 | .load _ => 5 | .store _ _ => 7 | .fence => 0

/-- The bytes of an access. -/
def CoreOp.size (op : CoreOp) : Nat := match op with | .fetch => 4 | .load n => 2 ^ n.val | .store n _ => 2 ^ n.val | .fence => 0

/-- Core c has a load outstanding. -/
def State.coreWaits (s : State) (c : Nat) : Bool :=
  s.net.ents.any (fun e => decide (e.req.src.toNat = coreInit c) && !e.dead && !e.fence && !e.req.write)

/-- The posted stores of core c that have not completed (R469). -/
def State.coreStores (s : State) (c : Nat) : Nat :=
  (s.net.ents.filter (fun e => decide (e.req.src.toNat = coreInit c) && !e.dead && e.req.write)).length

/-- Where a core address outside the local memories leads, none with an access fault (R468, R469). -/
def State.coreFar (s : State) (c a : Nat) : Option Nat :=
  let win (r : Nat) (o : Nat) : Option Nat :=
    let w := s.rd (coreDie c) r
    if bitsOf w 31 1 = 1 then some (bitsOf w 0 18 * 2 ^ 30 + o) else none
  if 0x40000000 ≤ a ∧ a < 0x50000000 then some (0xF00000000000 + (a - 0x40000000))
  else if 0x80000000 ≤ a ∧ a < 0xC0000000 then win (CORE_WIN0 (coreSlot c)) (a - 0x80000000)
  else if 0xC0000000 ≤ a then win (CORE_WIN1 (coreSlot c)) (a - 0xC0000000)
  else none

/-- What an access ends with: a value, an exception, or nothing yet. -/
inductive CoreEnd where
  | value (w : Word)
  | trap (code : Nat)
  | wait
  | stall
deriving DecidableEq, Repr

/-- An access to a word of an SRAM at byte offset o. -/
def sramAccess (c : Nat) (isram : Bool) (op : CoreOp) (o : Nat) (err : SramErr) (s : State) : State × CoreEnd :=
  let k := o / 4
  match op with
  | .store n w =>
    let (s, _) := if n.val = 2 then (s, false) else sramTouch c isram k err s
    let v := putBits (s.sramWord c isram k) (8 * (o % 4)) (8 * 2 ^ n.val) w.toNat
    (setSramWord c isram k v (n.val = 2) s, .value 0)
  | _ =>
    let (s, bad) := sramTouch c isram k err s
    if bad then (s, .trap op.fault)
    else
      let w := s.sramWord c isram k
      match op with
      | .load n => (s, .value (BitVec.ofNat 32 (bitsOf w (8 * (o % 4)) (8 * 2 ^ n.val))))
      | _ => (s, .value (if c = 0 then s.patched k w else w))

/-- An access of core c on its memory map; `dbg` marks that of a fed instruction (R468, R469, R471, R577). -/
def coreAccess (c : Nat) (op : CoreOp) (addr : Word) (err : SramErr) (pins : BitVec 64) (dbg : Bool) (s : State) : State × CoreEnd :=
  let a := addr.toNat
  let n := op.size
  if op = .fence then (s, if s.coreStores c = 0 then .value 0 else .stall)
  else if op ≠ .fetch ∧ a % n ≠ 0 then (s, .trap (op.fault - 1))
  else if c = 0 ∧ a < 0x10000 then
    (match op with
      | .store _ _ => (s, .trap 7)
      | _ => (s.freeNext, .value (BitVec.ofNat 32 (s.free.toNat % 2 ^ (8 * n)))))
  else if 0x10000000 ≤ a ∧ a < 0x10000000 + sramSize c then
    (match op with
      | .store _ _ => (s, .trap 7)
      | _ => sramAccess c true op (a - 0x10000000) err s)
  else if op = .fetch then (s, .trap 1)
  else if 0x20000000 ≤ a ∧ a < 0x20000000 + sramSize c then sramAccess c false op (a - 0x20000000) err s
  else if hasPort c ∧ 0x30000000 ≤ a ∧ a < 0x30000040 then
    let k := (a - 0x30000000) / 4
    let o := 8 * (a % 4)
    (match op with
      | .store m w => (portWrite (coreDie c) k (putBits 0 o (8 * 2 ^ m.val) w.toNat) s, .value 0)
      | _ => (s, .value (BitVec.ofNat 32 (bitsOf (s.portRead (coreDie c) k pins) o (8 * n)))))
  else match s.coreFar c a with
    | none => (s, .trap op.fault)
    | some x =>
      let r : NocReq := { src := BitVec.ofNat 12 (coreInit c), write := false, addr := BitVec.ofNat 48 x, count := Fin.ofNat 512 (n - 1),
                          key := Fin.ofNat 64 (s.kf c CORE_KEY_key), dbg := dbg }
      match op with
      | .store _ w =>
        if 8 ≤ s.coreStores c then (s, .stall)
        else (niIssue { r with write := true, lines := bytesLines x ((bytesOf n w.toNat)) } false s, .value 0)
      | _ => (niIssue r false s, .wait)

/-- CORE_BUS_ACCESS: a running core fetches, loads, stores or fences; while a load is outstanding it waits (R468, R469). -/
def coreBus (c : Nat) (op : CoreOp) (addr : Word) (err : SramErr) (pins : BitVec 64) (s : State) : State :=
  if !s.coreRuns c then s
  else if s.coreWaits c then s.emit (.coreStall c)
  else match coreAccess c op addr err pins false s with
    | (s, .value w) => s.emit (.coreValue c w)
    | (s, .trap e) => s.emit (.coreTrap c e)
    | (s, .wait) => s
    | (s, .stall) => s.emit (.coreStall c)

/-- CORE_BUS_ACCESS (R469). -/
def execCoreBusAccess (c : Core) (op : CoreOp) (addr : Word) (err : SramErr) (pins : BitVec 64) (s : State) : Res :=
  run (coreBus c.val op addr err pins) s

end Sys2Proof.Machine
end

