-- ==== Sys2Proof/Machine/Bist.lean ====
section
/-! DEFINITION. The BIST controller (R590 to R594). -/

namespace Sys2Proof.Machine

/-- The sets that a set code runs, as a mask: bit 0 logic, 1 memory, 2 analogue, 3 loop-back (R590). -/
def setMask (code : Nat) : Nat :=
  match code with
  | 1 => 1
  | 2 => 2
  | 3 => 3
  | 4 => 4
  | 5 => 8
  | 6 => 15
  | _ => 0

/-- The estimate of a set on a die, in W (R594). -/
def setWatts (d k : Nat) : Nat :=
  match k with
  | 0 => if d < 2 then 35 else 60
  | 1 => if d < 2 then 15 else 40
  | 2 => if d < 2 then 25 else 5
  | _ => 8

/-- The duration of a set in ms (R594). -/
def setMs (k : Nat) : Nat :=
  match k with
  | 0 => 200
  | 1 => 150
  | 2 => 40
  | _ => 140

/-- The sets requested. -/
def State.bistSets (s : State) : Nat := setMask (s.f 0 BIST_REQ_set)

/-- The estimate of a die: the largest among its requested sets (R594). -/
def State.bistWatts (s : State) (d : Nat) : Nat :=
  [0, 1, 2, 3].foldl (fun a k => if nbit s.bistSets k then max a (setWatts d k) else a) 0

/-- The run time of the requested sets in ms (R594). -/
def State.bistMs (s : State) : Nat := [0, 1, 2, 3].foldl (fun a k => if nbit s.bistSets k then a + setMs k else a) 0

/-- The dies of a field of `BIST_STAT`. -/
def State.bistDies (s : State) (x : Fld) : List Nat := allDies.filter (fun d => nbit (s.f 0 x) d)

/-- The detail that refuses a BIST, 0 when it starts (R591). A start in the factory hold finds every other die held in reset, and takes it as
it is (R574). -/
def State.bistDetail (s : State) (mask set last : Nat) : Nat :=
  if mask % 1024 = 0 ∨ 1024 ≤ mask ∨ set = 0 ∨ 6 < set ∨ last ≠ 0 then 1
  else if nbit mask 0 ∧ set ≠ 4 then 2
  else if s.f 0 BIST_STAT_state = 1 then 3
  else if !s.pwr.factory ∧ allDies.any (fun d => nbit mask d && s.dieFenced d) then 4
  else 0

/-- A BIST starts: its dies are queued (R592, R593, R598). -/
def bistBegin (mask set : Nat) (s : State) : State :=
  let s := s.setFs 0 [(BIST_REQ_mask, mask), (BIST_REQ_set, set), (BIST_STAT_state, 1), (BIST_STAT_running, 0), (BIST_STAT_queued, mask)]
  s.each allDies (fun s d =>
    let s := (((s.wr 0 (BIST_D_STAT d) 0).wr 0 (BIST_D_MEM d) 0).wr 0 (BIST_D_ANA d) 0).wr 0 (BIST_D_TIME d) 0
    if nbit mask d then
      { s with dbg := { s.dbg with bistAt := KMap.put s.dbg.bistAt d s.time.count } }.setF 0 (BIST_D_STAT_state d) 1
    else s)

/-- BIST_ENTER at commit (R590, R591). Answers the detail of a refusal. -/
def bistEnter (mask set last : Nat) (s : State) : State × Nat :=
  let r := s.bistDetail mask set last
  if r = 0 then (bistBegin mask set s, 0) else (s, r)

/-- BIST_ENTER (R591). -/
def execBistEnter (mask : BitVec 16) (set last : Byte) (s : State) : Res :=
  run (fun s => if s.iosUp then (bistEnter mask.toNat set.toNat last.toNat s).1 else s) s

/-- BIST_START: a write of `BIST_CTRL.start`, which starts a BIST only in `BLANK` and from the debug bus master (R590). -/
def bistStart (i : Init) (s : State) : State :=
  if !s.iosUp then s
  else
    let mask := s.f 0 BIST_REQ_mask
    let set := s.f 0 BIST_REQ_set
    if s.lifeCycle = 0 ∧ isDebugMaster i ∧ s.bistDetail mask set 0 = 0 then bistBegin mask set s else s.evt 0 BIST_EVT_refused

/-- BIST_START (R590). -/
def execBistStart (i : Init) (s : State) : Res := run (bistStart i) s

/-- Take a die out of a field of `BIST_STAT`. -/
def bistDrop (x : Fld) (d : Nat) (s : State) : State := s.setF 0 x (s.f 0 x - if nbit (s.f 0 x) d then 2 ^ d else 0)

/-- The next die that the scheduler may start (R593). -/
def State.bistNext (s : State) : Option Nat :=
  let run := s.bistDies BIST_STAT_running
  let cap := max 20 (min 240 (s.f 0 BIST_CFG_pcap))
  match s.bistDies BIST_STAT_queued with
  | [] => none
  | d :: _ =>
    let w := s.bistWatts d
    let sum := run.foldl (fun a e => a + s.bistWatts e) 0
    if (run.length < 2 ∧ sum + w ≤ cap) ∨ (run = [] ∧ cap < w) then some d else none

/-- BIST_DIE_START: the queued die that the scheduler may start sends its notices and starts its sets (R592, R593). -/
def bistDieStart (d : Nat) (s : State) : State :=
  if !s.iosUp ∨ s.bistNext ≠ some d then s
  else
    let wait := (s.time.count - KMap.look s.dbg.bistAt d) / 1600000
    let s := bistDrop BIST_STAT_queued d s
    let s := s.setF 0 BIST_STAT_running (s.f 0 BIST_STAT_running ||| 2 ^ d)
    let s := s.setFs 0 [(BIST_D_STAT_state d, 2), (BIST_D_TIME_wait d, min 65535 wait)]
    if d = 0 ∨ !s.live d then s else dieNotices d 3 4 s

/-- BIST_DIE_START (R593). -/
def execBistDieStart (d : Die) (s : State) : Res := run (bistDieStart d.val) s

/-- The lanes of IOS that an analogue test takes: all but the endpoint's, where they are OFF or their bundle has stopped (R592). -/
def State.testLanes (s : State) : List Nat :=
  (imageLanes 0).filter (fun l => decide (s.laneState 0 l = lOff) || decide (s.laneState 0 l = lFailed))

/-- A tested die ends: IOS takes its tested lanes to OFF, another die is reset as by DIE_RESET (R592). -/
def bistLeave (d : Nat) (s : State) : State :=
  if d = 0 then s.each s.testLanes (fun s l => setLaneState 0 l lOff s) else dieResetCommit d s

/-- The controller is done once no die runs or waits. -/
def bistOver (s : State) : State :=
  if s.f 0 BIST_STAT_state = 1 ∧ s.f 0 BIST_STAT_running = 0 ∧ s.f 0 BIST_STAT_queued = 0 then
    (s.setF 0 BIST_STAT_state 2).evt 0 BIST_EVT_done
  else s

/-- BIST_DIE_DONE: a running die has finished its sets with results `r` (R592, R598). -/
def bistDieDone (d : Nat) (r : BistOut) (s : State) : State :=
  if !(s.bistDies BIST_STAT_running).contains d then s
  else
    let sets := s.bistSets
    let bad := r.fails.toNat &&& sets
    let mem := if nbit bad 1 then r.memFails else 0
    let ana := nbit sets 2 || nbit sets 3
    let s := bistDrop BIST_STAT_running d s
    let s := s.setFs 0 [(BIST_D_STAT_state d, if bad = 0 then 3 else 4), (BIST_D_STAT_fails d, bad), (BIST_D_STAT_mem_fails d, min 65535 mem),
      (BIST_D_TIME_run d, s.bistMs)]
    let s := s.when (decide (mem ≠ 0)) (fun s => s.setFs 0 [(BIST_D_MEM_column d, r.memCol.toNat), (BIST_D_MEM_row d, r.memRow.toNat),
      (BIST_D_MEM_kind d, r.memKind.toNat), (BIST_D_MEM_valid d, 1)])
    let s := s.when ana (fun s => s.setFs 0 [(BIST_D_ANA_failed d, r.anaFailed.toNat), (BIST_D_ANA_ran d, r.anaRan.toNat),
      (BIST_D_ANA_lane d, if r.anaFailed = 0 then 0 else r.lane.toNat)])
    bistOver (bistLeave d (s.when (decide (bad ≠ 0)) (fun s => s.evt 0 BIST_EVT_fail)))

/-- BIST_DIE_DONE (R592). -/
def execBistDieDone (d : Die) (r : BistOut) (s : State) : Res := run (bistDieDone d.val r) s

/-- BIST_ABORT: a write of `BIST_CTRL.abort` stops every running set and takes the running and queued dies to state 5 (R592). -/
def bistAbort (s : State) : State :=
  if !s.iosUp ∨ s.f 0 BIST_STAT_state ≠ 1 then s
  else
    let l := s.bistDies BIST_STAT_running ++ s.bistDies BIST_STAT_queued
    let s := s.setFs 0 [(BIST_STAT_running, 0), (BIST_STAT_queued, 0)]
    bistOver (s.each l (fun s d => bistLeave d (s.setF 0 (BIST_D_STAT_state d) 5)))

/-- BIST_ABORT (R592). -/
def execBistAbort (s : State) : Res := run bistAbort s

end Sys2Proof.Machine
end

