-- ==== Sys2Proof/Machine/Commands.lean ====
section
/-! DEFINITION. The command block and the key block (17): frames, checks, the counter, commits, key slots, life cycle, grants, provisioning. -/

namespace Sys2Proof.Machine

/-! ### Frames (R486 to R488, R496) -/

/-- Bytes lo to lo + n - 1 of a frame, as a number. -/
def frameField (f : CmdFrame) (lo n : Nat) : Nat := nbits f.toNat (8 * lo) (8 * n)

/-- Byte k of a frame's body. -/
def bodyByte (f : CmdFrame) (k : Nat) : Nat := frameField f (12 + k) 1

/-- Bytes lo to lo + n - 1 of a frame's body. -/
def bodyField (f : CmdFrame) (lo n : Nat) : Nat := frameField f (12 + lo) n

/-- The body length and broadcast rule of a command, none for an unknown one (R496). -/
def cmdShape (id : Nat) : Option (Nat × Bool) :=
  match id with
  | 1 => some (60, true)
  | 2 => some (60, true)
  | 3 => some (4, false)
  | 4 => some (40, false)
  | 5 => some (56, true)
  | 6 => some (4, false)
  | 7 => some (4, false)
  | 8 => some (16, false)
  | 9 => some (12, false)
  | 10 => some (0, false)
  | 11 => some (12, false)
  | 12 => some (4, false)
  | _ => none

/-- A frame is a broadcast. -/
def isBroadcast (f : CmdFrame) : Bool := nbit (frameField f 1 1) 0

/-- The target field of a frame: a device ID, or a cluster number. -/
def frameTarget (f : CmdFrame) : Nat := frameField f 2 2

/-- The counter of a frame. -/
def frameCounter (f : CmdFrame) : Nat := frameField f 4 6

/-- Block i of the keystream of a frame under a key (R488). -/
def keyBlock (key : BitVec 128) (f : CmdFrame) (i : Nat) : Nat := aes key (frameField f 0 10 + i * 2 ^ 80)

/-- Decrypt n bytes of a secret that starts at body byte lo (R488). -/
def secret (key : BitVec 128) (f : CmdFrame) (lo n : Nat) : Nat :=
  let stream := (List.range ((n + 15) / 16)).foldl (fun a i => a + keyBlock key f i * 2 ^ (128 * i)) 0
  bodyField f lo n ^^^ (stream % 2 ^ (8 * n))

/-- The tag of a frame verifies under a key (R486). -/
def tagHolds (key : BitVec 128) (f : CmdFrame) : Bool :=
  let n := 12 + frameField f 10 2
  decide (cmac key (bytesOf n (f.toNat % 2 ^ (8 * n))) = frameField f n 16)

/-! ### The checks (R489) -/

/-- The frame is for this device (check 2). -/
def State.forMe (s : State) (f : CmdFrame) : Bool :=
  s.on 0 ITA_ID_valid && decide (frameTarget f = (if isBroadcast f then s.devId / 64 else s.devId))

/-- Check 1: the command is known, its length right, the reserved bits of its head zero. -/
def headOk (w : CmdWait) : Bool :=
  let f := w.frame
  match cmdShape (frameField f 0 1) with
  | none => false
  | some (n, _) => decide (frameField f 10 2 = n) && decide (28 + n ≤ w.len) && decide (frameField f 1 1 < 2) &&
    decide (frameTarget f < (if isBroadcast f then 256 else 16384))

/-- A life-cycle state permits a command (R503). -/
def lcPermits (lc id : Nat) : Bool :=
  match lc with
  | 1 => decide (id ≠ 7) && decide (id ≠ 11)
  | 2 => decide (id ≠ 7)
  | 3 => decide (id ≠ 11)
  | _ => false

/-- The targets of SET_LIFECYCLE from a state (R501, R502). -/
def lcMove (cur target moves : Nat) : Bool :=
  match target with
  | 2 => decide (cur = 1) || (decide (cur = 3) && decide (moves < 32))
  | 3 => decide (cur = 2) && decide (moves < 32)
  | 4 => decide (1 ≤ cur) && decide (cur ≤ 3)
  | _ => false

/-- The key that tags a frame (R486). -/
def State.frameKey (s : State) (f : CmdFrame) : BitVec 128 := if isBroadcast f then s.keys.bc else s.keys.cmd

/-- Check 10: the body is valid (R496, R497, R500, R502). -/
def State.bodyOk (s : State) (f : CmdFrame) : Bool :=
  let y (k : Nat) : Nat := bodyByte f k
  let z (lo n : Nat) : Bool := decide (bodyField f lo n = 0)
  match frameField f 0 1 with
  | 1 => decide (y 0 ≤ 3) && z 1 3 && z 10 2 && (decide (y 0 = 3) || z 4 6)
  | 2 => decide (2 ≤ y 0) && decide (y 0 ≤ 3) && z 1 3 && z 10 2 && (decide (y 0 = 3) || z 4 6)
  | 3 => lcMove s.keys.lc (y 0) s.fuses.moves && z 1 3
  | 4 =>
    let k := secret (s.frameKey f) f 0 32
    decide (s.fuses.rows.length < 8) && decide (kcv (BitVec.ofNat 128 k) = bodyField f 32 4) &&
      decide (kcv (BitVec.ofNat 128 (k / 2 ^ 128)) = bodyField f 36 4)
  | 5 => decide (1 ≤ y 0) && decide (y 0 ≤ 63) && decide (y 1 ≤ 1) && z 2 2
  | 6 => decide (1 ≤ y 0) && decide (y 0 ≤ 9) && z 1 3
  | 9 => decide (y 0 ≤ 7) && decide (y 1 ≤ 1) && decide (y 2 ≤ 1) && decide (y 3 ≤ 7) && decide (y 4 ≤ 3) && z 5 3 &&
      decide (bodyField f 8 4 < 2 ^ 18)
  | 11 => decide (y 0 ≤ 3) && z 1 3
  | 12 => decide (y 0 ≤ 1) && z 1 3
  | _ => true

/-- The last accepted counter and K (R492). -/
def State.lastCounter (s : State) : Nat := s.rd64 0 CMD_LAST_LO CMD_LAST_HI

/-- The newest durable checkpoint (R492). -/
def State.ckptK (s : State) : Nat := s.rd64 0 CMD_CKPT_LO CMD_CKPT_HI

/-- The first failing check of a frame that is for this device, 0 when it is accepted (R489). -/
def State.frameReason (s : State) (w : CmdWait) : Nat :=
  let f := w.frame
  let id := frameField f 0 1
  let ctr := frameCounter f
  if isBroadcast f ∧ !(match cmdShape id with | some (_, b) => b | none => false) then 3
  else if !tagHolds (s.frameKey f) f then 4
  else if ctr ≤ s.lastCounter then 5
  else if id ≠ 4 ∧ s.ckptK + 4096 < ctr then 6
  else if s.lastCounter = 2 ^ 48 - 2 ∧ !(id = 4 ∧ ctr = 2 ^ 48 - 1) then 7
  else if s.on 0 CMD_STAT_guard ∧ id ≠ 4 then 8
  else if !lcPermits s.keys.lc id then 9
  else if !s.bodyOk f then 10
  else 0

/-- An entry of the result log: the newest 16 stay (R505). -/
def logResult (w : CmdWait) (reason : Nat) (consumed : Bool) (detail : Nat) (s : State) : State :=
  let f := w.frame
  let e : CmdRes := { cmd := frameField f 0 1, reason := reason, bcast := isBroadcast f, up := w.up, consumed := consumed, tick := s.tick16,
                      counter := frameCounter f, detail := detail, target := frameTarget f % 16384 }
  ({ s with cmd := { s.cmd with log := (e :: s.cmd.log).take 16 } }).when (decide (reason ≠ 0)) (fun s => s.evt 0 CMD_EVT_refused)

/-- A checkpoint of the last accepted counter starts once that counter reaches K + 2,048, unless one runs (R492). -/
def ckptCheck (s : State) : State :=
  if s.cmd.ckpt.isNone ∧ s.ckptK + 2048 ≤ s.lastCounter then ckptStart s.lastCounter s else s

/-! ### Intake (R336, R487, R489, R490) -/

/-- Frames move up: the host's held frame and those the upstream port holds enter the FIFO as places free. -/
def pumpFifo (s : State) : State :=
  if 4 ≤ s.cmd.fifo.length then s
  else match s.cmd.held with
    | some w => ({ s with cmd := { s.cmd with held := none, fifo := s.cmd.fifo ++ [w] } }).setF 0 CMD_HSTAT_full 0
    | none =>
      match s.cmd.port with
      | [] => s
      | w :: t =>
        let s := { s with cmd := { s.cmd with port := t, fifo := s.cmd.fifo ++ [w] } }
        if s.hasUpPort then freeBuffer s.upstream 4 s else s

/-- COMMAND_FRAME: a kind 4 frame arrives on a port; only the upstream port's are checked, in the order of arrival, and while the FIFO is full
the port holds the frame's credit (R336, R489, R490). -/
def commandFrame (p : Nat) (f : CmdFrame) (s : State) : State :=
  if s.portState p ≠ 4 then s
  else if !s.hasUpPort || s.upstream ≠ p then freeBuffer p 4 ((s.incPf p ITA_P_ERR_cmd 1).evt 0 ITA_EVT_cmd_wrongpath)
  else pumpFifo { s with cmd := { s.cmd with port := s.cmd.port ++ [{ frame := f, up := true }] } }

/-- COMMAND_FRAME (R336). -/
def execCommandFrame (p : Fin 8) (f : CmdFrame) (s : State) : Res := run (commandFrame p.val f) s

/-- The host path is the device's command path (R487). -/
def State.hostPath (s : State) (i : Init) : Bool := isHost i && decide (s.f 0 ITA_ID_upstream = 8)

/-- A write of word k of the host buffer (R487, R490). -/
def hbufWrite (i : Init) (k : Nat) (v : Word) (s : State) : State :=
  if !s.hostPath i || s.cmd.held.isSome then s.evt 0 CMD_EVT_host_refused
  else { s with cmd := { s.cmd with hbuf := KMap.put s.cmd.hbuf k v } }

/-- The frame in the host buffer. -/
def State.hostFrame (s : State) : CmdFrame :=
  BitVec.ofNat 768 ((List.range 24).foldl (fun a k => a + (KMap.look s.cmd.hbuf k).toNat * 2 ^ (32 * k)) 0)

/-- CMD_HSUBMIT: the host buffer is submitted (R487, R490, R505). -/
def hsubmit (i : Init) (v : Word) (s : State) : State :=
  let n := bitsOf v 0 7
  let no (r : Nat) : State := (s.setF 0 CMD_HSTAT_reason r).evt 0 CMD_EVT_host_refused
  if !s.live 0 then s
  else if !s.hostPath i then no 1
  else if s.cmd.held.isSome then s.evt 0 CMD_EVT_host_refused
  else if n < 28 ∨ 92 < n then no 3
  else
    let w : CmdWait := { frame := BitVec.ofNat 768 (s.hostFrame.toNat % 2 ^ (8 * n)), up := false, len := n }
    if 4 ≤ s.cmd.fifo.length then ({ s with cmd := { s.cmd with held := some w } }).setFs 0 [(CMD_HSTAT_full, 1), (CMD_HSTAT_reason, 2)]
    else ({ s with cmd := { s.cmd with fifo := s.cmd.fifo ++ [w] } }).setF 0 CMD_HSTAT_reason 0

/-- CMD_HSUBMIT (R487). -/
def execCmdHsubmit (i : Init) (v : Word) (s : State) : Res := run (hsubmit i v) s

/-- The downstream ports whose far end lies in a cluster (R336). -/
def State.clusterPorts (s : State) (c : Nat) : List Nat :=
  allPorts.filter (fun p => decide (s.portRole p = 1) && decide (s.portState p = 4) &&
    (match (s.port p).child with | some id => decide (id / 64 = c) | none => false))

/-- The port by which a frame for another device or cluster leaves, never the upstream one (R336). -/
def State.frameRoute (s : State) (f : CmdFrame) : Option Nat :=
  let id := if isBroadcast f then frameTarget f * 64 else frameTarget f
  match s.routePort id false with
  | some p => if s.hasUpPort && decide (p = s.upstream) then none else some p
  | none => none

/-- COMMAND_CHECK: the block verifies the frame at the front of its FIFO; it takes none while a REKEY is not finished, and no more once 16 have
been accepted in the tick (R489, R490, R494). -/
def commandCheck (s : State) : State :=
  match s.cmd.fifo with
  | [] => s
  | w :: t =>
    if !s.live 0 || !s.tbRuns || s.cmd.rekey || decide (16 ≤ s.f 0 CMD_STAT_ticked) then s
    else
      let s := pumpFifo { s with cmd := { s.cmd with fifo := t } }
      let f := w.frame
      if !headOk w then logResult w 1 false 0 s
      else if !s.forMe f then
        match s.frameRoute f with
        | some p => itaSend p (.command f) s
        | none => logResult w 2 false 0 s
      else
        let s := if isBroadcast f then s.each (s.clusterPorts (frameTarget f)) (fun s p => itaSend p (.command f) s) else s
        let r := s.frameReason w
        let used := decide (r = 0 ∨ r = 9 ∨ r = 10)
        let key := s.frameKey f
        let s := logResult w r used 0 s
        let s := s.when used (setLast (frameCounter f))
        let s := s.when (decide (r = 4)) (fun s => (s.inc 0 CMD_TAGFAIL_value 1).evt 0 CMD_EVT_tag_fail)
        let s := s.when (decide (r = 0)) (fun s =>
          let s := { s with cmd := { s.cmd with acc := s.cmd.acc ++ [(w, key)] } }
          ((s.inc 0 CMD_ACCEPT_value 1).inc 0 CMD_STAT_ticked 1).evt 0 CMD_EVT_accepted)
        ckptCheck s

/-- COMMAND_CHECK (R489). -/
def execCommandCheck (s : State) : Res := run commandCheck s

/-- COUNTER_CHECKPOINT_DONE: the journal record of the checkpoint that runs has been written and its copy stands in `KEYS_CKPT`: K advances; it
ends a REKEY, and an ERASE_JOURNAL goes on to its erase (R459, R492, R494, R495). -/
def checkpointDone (s : State) : State :=
  match s.cmd.ckpt with
  | none => s
  | some v =>
    if s.jour.buf.any (fun r => decide (r.kind = 1)) then s
    else
      let s := ckptDurable v s
      let s := { s with jour := { s.jour with erase := if s.jour.erase = 1 then 2 else s.jour.erase } }
      let s := if s.cmd.rekey ∧ s.cmd.burn.isNone then ({ s with cmd := { s.cmd with rekey := false } }).setF 0 CMD_STAT_busy 0 else s
      ckptCheck s

/-- COUNTER_CHECKPOINT_DONE (R492). -/
def execCounterCheckpointDone (s : State) : Res := run (fun s => if s.live 0 then checkpointDone s else s) s

/-! ### Effects at commit (R497) -/

/-- LOAD_PERSONALITY (R433). -/
def execLoadPersonality (src : Fin 4) (addr : BitVec 48) (digest : BitVec 384) (s : State) : Res :=
  run (fun s => if s.live 0 then (loadCommand 5 src.val addr.toNat digest s).1 else s) s

/-- LOAD_REGION: sources 0 and 1 are none of its own (R433, R496). -/
def execLoadRegion (src : Fin 4) (addr : BitVec 48) (digest : BitVec 384) (s : State) : Res :=
  run (fun s => if s.live 0 ∧ 2 ≤ src.val then (loadCommand 6 src.val addr.toNat digest s).1 else s) s

/-- SET_LIFECYCLE at commit: the burn of the new state begins (R502). -/
def setLifecycle (target : Nat) (s : State) : State :=
  if lcMove s.keys.lc target s.fuses.moves then
    ({ s with cmd := { s.cmd with burn := some (.lifeCycle target), ended := some s.time.num } }).setF 0 CMD_STAT_busy 1
  else s

/-- SET_LIFECYCLE (R502). -/
def execSetLifecycle (target : Fin 5) (s : State) : Res :=
  run (fun s => if s.live 0 && s.cmd.ended.isNone then setLifecycle target.val s else s) s

/-- REKEY at commit: the new keys are in use, and the burn of the next row begins (R494, R495). -/
def rekey (cmd bc : BitVec 128) (s : State) : State :=
  let s := { s with keys := { s.keys with cmd := cmd, bc := bc }, cmd := { s.cmd with burn := some (.row cmd bc), rekey := true } }
  let s := (s.wr 0 KEYS_KCV_CMD (BitVec.ofNat 32 (kcv cmd))).wr 0 KEYS_KCV_BC (BitVec.ofNat 32 (kcv bc))
  (s.setFs 0 [(CMD_STAT_busy, 1), (CMD_STAT_guard, 0)]).evt 0 KEYS_EVT_rekeyed

/-- REKEY (R494). -/
def execRekey (cmd bc : BitVec 128) (s : State) : Res :=
  run (fun s => if s.live 0 && s.cmd.burn.isNone && decide (s.fuses.rows.length < 8) then rekey cmd bc s else s) s

/-- Show which slots are filled (R506). -/
def showSlots (s : State) : State :=
  let m := (List.range 64).foldl (fun a k => if (KMap.look s.keys.slot k).h = 0 then a else a + 2 ^ k) 0
  (s.wr 0 KEYS_FILLED_LO (BitVec.ofNat 32 m)).wr 0 KEYS_FILLED_HI (BitVec.ofNat 32 (m / 2 ^ 32))

/-- KEY_LOAD at commit: the slot is filled, or left empty; a slot that an enabled range names is locked (R365, R497). Answers the detail of a
refusal. -/
def keyLoad (slot : Nat) (clear : Bool) (key : KeySlot) (s : State) : State × Nat :=
  if nbit (s.rd64 0 MIU_SLOT_LO MIU_SLOT_HI) slot then (s, 1)
  else
    let none' := clear || decide (key.h = 0)
    let s := { s with keys := { s.keys with slot := KMap.put s.keys.slot slot (if none' then {} else key) } }
    (showSlots (s.evt 0 (if none' then KEYS_EVT_slot_cleared else KEYS_EVT_slot_loaded)), 0)

/-- KEY_LOAD (R497). -/
def execKeyLoad (slot : Fin 64) (clear : Bool) (key : KeySlot) (s : State) : Res :=
  run (fun s => if s.live 0 ∧ slot.val ≠ 0 then (keyLoad slot.val clear key s).1 else s) s

/-- PPR_COMMIT at commit (R359, R360). Answers the detail of a refusal. -/
def pprCommit (c : Nat) (p : PprRow) (s : State) : State × Nat :=
  let r := s.pprDetail c p
  if r = 0 then (pprStart c p s, 0) else (s, r)

/-- PPR_COMMIT (R359). -/
def execPprCommit (c : Fin 8) (row : PprRow) (s : State) : Res := run (fun s => if s.live 0 then (pprCommit c.val row s).1 else s) s

/-- A Skipper grant has ended: every Skipper loses its halt options, and halted ones resume at their DPC (R589). -/
def skipperGrantEnds (s : State) : State :=
  let s := s.each (allCores.filter (fun c => decide (c ≠ 0))) (fun s c =>
    if !s.live (coreDie c) then s
    else
      let s := (s.setKf c DBG_C_CTRL_ebreak_halt 0).setKf c DBG_C_CTRL_halt_on_reset 0
      if s.coreHalted c then resumeCore c s else s)
  s.evt 0 DBG_EVT_grant_end

/-- The grants in effect become these (R573, R589). -/
def setGrants (skipper hold : Bool) (expiry : Nat) (s : State) : State :=
  let was := s.on 0 KEYS_STAT_skipper_dbg
  let s := s.setFs 0 [(KEYS_STAT_skipper_dbg, skipper.toNat), (KEYS_STAT_hold, hold.toNat), (DBG_RIGHTS_hold, hold.toNat)]
  let s := if s.keys.lc = 2 then s.setF 0 DBG_RIGHTS_skipper skipper.toNat else s
  let s := s.wr64 0 DBG_GEXP_LO DBG_GEXP_HI (if skipper || hold then expiry else 0)
  holdUpdate (s.when (was && !skipper) skipperGrantEnds)

/-- DEBUG_UNLOCK (R589, R497). -/
def execDebugUnlock (skipper hold : Bool) (expiry : BitVec 64) (s : State) : Res :=
  run (fun s => if s.live 0 then setGrants skipper hold expiry.toNat s else s) s

/-- The grants end at the boundary of their expiry tick (R589). -/
def grantBoundary (s : State) : State :=
  let t := s.rd64 0 DBG_GEXP_LO DBG_GEXP_HI
  if t ≠ 0 ∧ t ≤ s.time.num then setGrants false false 0 s else s

/-- SET_TIME_ROOT at commit: the configured role (R497, R317). -/
def setTimeRoot (root : Bool) (s : State) : State :=
  roleUpdate true (s.setFs 0 [(TICK_ROLE_cfg, root.toNat), (TICK_ROLE_source, 2)])

/-- SET_TIME_ROOT (R497). -/
def execSetTimeRoot (root : Bool) (s : State) : Res := run (fun s => if s.live 0 then setTimeRoot root s else s) s

/-- The effect of an accepted command at its commit, with the detail of a refusal (R491, R497). -/
def commitEffect (f : CmdFrame) (key : BitVec 128) (s : State) : State × Nat :=
  let y (k : Nat) : Nat := bodyByte f k
  match frameField f 0 1 with
  | 1 => loadCommand 5 (y 0) (bodyField f 4 6) (BitVec.ofNat 384 (bodyField f 12 48)) s
  | 2 => loadCommand 6 (y 0) (bodyField f 4 6) (BitVec.ofNat 384 (bodyField f 12 48)) s
  | 3 => (setLifecycle (y 0) s, 0)
  | 4 =>
    let k := secret key f 0 32
    (rekey (BitVec.ofNat 128 k) (BitVec.ofNat 128 (k / 2 ^ 128)) s, 0)
  | 5 =>
    let k := secret key f 4 52
    keyLoad (y 0) (nbit (y 1) 0) { mix := BitVec.ofNat 256 k, pad := BitVec.ofNat 128 (k / 2 ^ 256), h := BitVec.ofNat 32 (k / 2 ^ 384) } s
  | 6 => (dieResetCommit (y 0) s, 0)
  | 7 => bistEnter (bodyField f 0 2) (y 2) (y 3) s
  | 8 => spareCommit (BitVec.ofNat 128 (bodyField f 0 16)) s
  | 9 => pprCommit (y 0) ⟨y 1 * 2 + y 2, y 3, y 4, bodyField f 8 4⟩ s
  | 10 => eraseCommit s
  | 11 => (setGrants (nbit (y 0) 0) (nbit (y 0) 1) (bodyField f 4 8) s, 0)
  | 12 => (setTimeRoot (decide (y 0 = 1)) s, 0)
  | _ => (s, 0)

/-- One accepted command commits; after a SET_LIFECYCLE none does (R491). -/
def commitOne (e : CmdWait × BitVec 128) (s : State) : State :=
  let (s, r) := if s.cmd.ended.isSome then (s, 0xFFFF) else commitEffect e.1.frame e.2 s
  if r = 0 then s else logResult e.1 11 true r s

/-- Every accepted command commits, in the order in which their tags verified (R57, R58). -/
def commitCommands (s : State) : State :=
  let l := s.cmd.acc
  s.each l (fun s e => commitOne e { s with cmd := { s.cmd with acc := s.cmd.acc.drop 1 } })

/-! ### Fuse burns (R494, R500, R502, R504) -/

/-- A row, an item, a key that is burnt to all ones. -/
def burntOut (x : Fuses) : Fuses :=
  { x with
    rows := List.replicate 8 (BitVec.allOnes 128, BitVec.allOnes 128), rootHash := some (BitVec.allOnes 384), imageKey := some (BitVec.allOnes 256) }

/-- The life-cycle fuses after a move (R502). -/
def burnLifeCycle (target : Nat) (x : Fuses) : Fuses :=
  let move := decide (x.lc = 2 ∧ target = 3) || decide (x.lc = 3 ∧ target = 2)
  let x := { x with lc := target, moves := if move then x.moves + 1 else x.moves }
  if target = 4 then burntOut x else x

/-- The words of a provisioning item (R506). -/
def provWords (item : Nat) : Nat :=
  match item with
  | 0 => 12
  | 1 => 8
  | _ => 4

/-- The key of a staged provisioning word. -/
def provKey (item word : Nat) : Nat := item * 16 + word

/-- The value of a provisioning item as it has been written. -/
def State.provItem (s : State) (item : Nat) : Nat :=
  (List.range (provWords item)).foldl (fun a k => a + (KMap.look s.keys.prov (provKey item k)).toNat * 2 ^ (32 * k)) 0

/-- The four provisioned items, with the command keys in row 0 (R504). -/
def burnItems (s : State) (x : Fuses) : Fuses :=
  { x with
    lc := 1, rootHash := some (BitVec.ofNat 384 (s.provItem 0)), imageKey := some (BitVec.ofNat 256 (s.provItem 1)),
    rows := [(BitVec.ofNat 128 (s.provItem 2), BitVec.ofNat 128 (s.provItem 3))] }

/-- The burn of a life-cycle move has completed: the device restarts at once, or at the end of the quiet window in which the move committed. -/
def lifeCycleBurnt (s : State) : State :=
  if !s.testPeriod && s.tick.quietOpen && decide (s.cmd.ended = some s.time.num) then s else restart s

/-- The fuses after FUSE_BURN_DONE (R494, R502, R504). -/
def State.burnt (ok : Bool) (s : State) : Fuses :=
  match s.cmd.burn with
  | none => s.fuses
  | some (.row cmd bc) => { s.fuses with rows := s.fuses.rows ++ [(cmd, bc)] }
  | some (.lifeCycle t) => burnLifeCycle t s.fuses
  | some .provision => if ok then burnItems s s.fuses else s.fuses

/-- FUSE_BURN_DONE: the burn that runs has completed; `ok` says whether a provisioning burn succeeded (R494, R502, R504). -/
def burnDone (ok : Bool) (s : State) : State :=
  match s.cmd.burn with
  | none => s
  | some b =>
    let s := { s with fuses := s.burnt ok, cmd := { s.cmd with burn := none } }
    match b with
    | .row _ _ => ckptStart 0 (setLast 0 s)
    | .lifeCycle _ => lifeCycleBurnt (s.setF 0 CMD_STAT_busy 0)
    | .provision =>
      if ok then restart (s.setFs 0 [(KEYS_PROV_STAT_busy, 0), (KEYS_PROV_STAT_reason, 0)])
      else s.setFs 0 [(KEYS_PROV_STAT_busy, 0), (KEYS_PROV_STAT_reason, 4)]

/-- FUSE_BURN_DONE (R502). -/
def execFuseBurnDone (ok : Bool) (s : State) : Res := runFuse (State.burnt ok) (burnDone ok) s

/-! ### Provisioning (R504, R506) -/

/-- The provisioning registers take a write of this source (R506). -/
def State.mayProvision (s : State) (i : Init) : Bool := isDebugMaster i && decide (s.lifeCycle = 0)

/-- A write of `KEYS_PROV_SEL` (R506). -/
def provSel (i : Init) (v : Word) (s : State) : State :=
  if s.mayProvision i then s.setFs 0 [(KEYS_PROV_SEL_item, bitsOf v 0 2), (KEYS_PROV_SEL_word, bitsOf v 8 4)]
  else s.evt 0 KEYS_EVT_refused

/-- PROVISION_DATA_WRITE: a write of `KEYS_PROV_DATA` stores the selected word of the selected item (R504, R506). -/
def provData (i : Init) (v : Word) (s : State) : State :=
  if !s.iosUp then s
  else if !s.mayProvision i then s.evt 0 KEYS_EVT_refused
  else
    let item := s.f 0 KEYS_PROV_SEL_item
    let k := s.f 0 KEYS_PROV_SEL_word
    if provWords item ≤ k then s
    else
      let seen := KMap.put s.keys.provSeen item (KMap.look s.keys.provSeen item ||| 2 ^ k)
      let s := { s with keys := { s.keys with prov := KMap.put s.keys.prov (provKey item k) v, provSeen := seen } }
      if KMap.look seen item = 2 ^ provWords item - 1 then
        s.setF 0 KEYS_PROV_STAT_written (s.f 0 KEYS_PROV_STAT_written ||| 2 ^ item)
      else s

/-- PROVISION_DATA_WRITE (R504). -/
def execProvisionDataWrite (i : Init) (v : Word) (s : State) : Res := run (provData i v) s

/-- PROVISION_BURN: a write of `KEYS_PROV_CMD.burn` (R504, R506). -/
def provBurn (i : Init) (s : State) : State :=
  let no (r : Nat) (s : State) : State := (s.setF 0 KEYS_PROV_STAT_reason r).evt 0 KEYS_EVT_prov_refused
  if !s.iosUp then s
  else if s.lifeCycle ≠ 0 then no 1 (s.evt 0 KEYS_EVT_refused)
  else if !isDebugMaster i then no 2 (s.evt 0 KEYS_EVT_refused)
  else if s.cmd.burn.isSome then s
  else if s.f 0 KEYS_PROV_STAT_written ≠ 15 then no 3 s
  else ({ s with cmd := { s.cmd with burn := some .provision } }).setF 0 KEYS_PROV_STAT_busy 1

/-- PROVISION_BURN (R504). -/
def execProvisionBurn (i : Init) (s : State) : Res := run (provBurn i) s

end Sys2Proof.Machine
end

