-- ==== Sys2Proof/Machine/Halt.lean ====
section
/-! DEFINITION. Debugging a core (21): halt, resume, step and feed (R575 to R580), the terminal (R582) and the SRAM access (R584). -/

namespace Sys2Proof.Machine

/-- A write or a command that the DEBUG page ignores (R571, R578). -/
def dbgRefuse (s : State) : State := s.evt 0 DBG_EVT_refused

/-- The right over core c is in effect (R573): Hawkmoth debug, or Skipper debug. -/
def State.coreRight (s : State) (c : Nat) : Bool := if c = 0 then s.on 0 DBG_RIGHTS_hawkmoth else s.on 0 DBG_RIGHTS_skipper

/-- A write to a core slot or patch unit: only the debug bus master's counts (R571). -/
def dbgOnly (i : Init) (f : State → State) (s : State) : State := if isDebugMaster i then f s else dbgRefuse s

/-- A write that needs the right over core c as well (R573, R578). -/
def dbgRight (i : Init) (c : Nat) (f : State → State) (s : State) : State :=
  dbgOnly i (fun s => if s.coreRight c then f s else dbgRefuse s) s

/-- `DBG_Cs_DPC` of core c. -/
def setDpc (c : Nat) (w : Word) (s : State) : State := s.wr (coreDie c) (DBG_C_DPC (coreSlot c)) w

/-- The core runs and no halt is on its way. -/
def State.coreFree (s : State) (c : Nat) : Bool := s.coreRuns c && decide (s.kf c DBG_C_STAT_state = 0)

/-- Core c halts; with a load outstanding it does so when that has completed (R575). `dpc` is the address of its next instruction. -/
def haltCore (c : Nat) (dpc : Word) (s : State) : State :=
  if !s.coreFree c then s
  else
    let s := setDpc c dpc s
    if s.coreWaits c then s.setKf c DBG_C_STAT_state 1 else enterHalted c 0 s

/-- CORE_HALT (R575). -/
def execCoreHalt (i : Init) (c : Core) (dpc : Word) (s : State) : Res :=
  run (fun s => if s.live (coreDie c.val) then dbgRight i c.val (haltCore c.val dpc) s else s) s

/-- CORE_RESUME: a halted core goes on at its DPC (R578). -/
def execCoreResume (i : Init) (c : Core) (s : State) : Res :=
  run (fun s => if s.live (coreDie c.val) then
    dbgRight i c.val (fun s => if s.coreHalted c.val then resumeCore c.val s else s) s else s) s

/-- A halted core runs the instruction at its DPC, whose outcome is `out`, and halts again at `dpc` (R578). -/
def stepCore (c : Nat) (out : FeedOut) (dpc : Word) (s : State) : State :=
  if !s.coreHalted c then s
  else
    let s := setDpc c dpc s
    match out with
    | .done none => stepEnds c s
    | .done (some w) => stepEnds c (s.wr (coreDie c) (DBG_C_DATA (coreSlot c)) w)
    | .exc _ => stepEnds c s
    | .access op addr err pins =>
      match coreAccess c op addr err pins false s with
      | (s, .wait) => s.setKf c DBG_C_STAT_state 1
      | (s, .value w) => stepEnds c (s.emit (.coreValue c w))
      | (s, .trap e) => stepEnds c (s.emit (.coreTrap c e))
      | (s, .stall) => s.emit (.coreStall c)

/-- CORE_STEP (R578). -/
def execCoreStep (i : Init) (c : Core) (out : FeedOut) (dpc : Word) (s : State) : Res :=
  run (fun s => if s.live (coreDie c.val) then dbgRight i c.val (stepCore c.val out dpc) s else s) s

/-- A word that may not be fed: a compressed encoding, a branch or jump, WFI, MRET, ECALL or EBREAK (R577). -/
def unfeedable (w : Word) : Bool :=
  let op := bitsOf w 0 7
  decide (bitsOf w 0 2 ≠ 3) || op == 0x63 || op == 0x67 || op == 0x6F ||
    w == 0x10500073 || w == 0x30200073 || w == 0x00000073 || w == 0x00100073

/-- A halted core runs a fed instruction, whose outcome is `out` (R577). -/
def feedCore (c : Nat) (w : Word) (out : FeedOut) (s : State) : State :=
  if !s.coreHalted c || s.kOn c DBG_C_STAT_fed_busy then s
  else
    let s := (s.setKf c DBG_C_STAT_ferr 0).setKf c DBG_C_STAT_fcause 0
    if unfeedable w then feedFails c 2 s
    else match out with
      | .done none => s
      | .done (some v) => s.wr (coreDie c) (DBG_C_DATA (coreSlot c)) v
      | .exc e => feedFails c e.val s
      | .access op addr err pins =>
        match coreAccess c op addr err pins true s with
        | (s, .wait) => s.setKf c DBG_C_STAT_fed_busy 1
        | (s, .value v) => s.emit (.coreValue c v)
        | (s, .trap e) => feedFails c e s
        | (s, .stall) => s.emit (.coreStall c)

/-- CORE_IFEED (R577). -/
def execCoreIfeed (i : Init) (c : Core) (w : Word) (out : FeedOut) (s : State) : Res :=
  run (fun s => if s.live (coreDie c.val) then dbgRight i c.val (feedCore c.val w out) s else s) s

/-- A write of `DBG_Cs_CMD`: the first of halt, resume and step that fits the core's state acts (R578). -/
def coreCommand (c : Nat) (v : Word) (out : FeedOut) (dpc : Word) (s : State) : State :=
  if v.getLsbD 0 && s.coreFree c then haltCore c dpc s
  else if v.getLsbD 1 && s.coreHalted c then resumeCore c s
  else if v.getLsbD 2 && s.coreHalted c then stepCore c out dpc s
  else s

/-- CORE_EBREAK_HALT: a Skipper with `ebreak_halt` reaches an EBREAK at `dpc` (R580). -/
def ebreakHalt (c : Nat) (dpc : Word) (s : State) : State :=
  if c = 0 ∨ !s.coreFree c ∨ !s.kOn c DBG_C_CTRL_ebreak_halt then s else enterHalted c 1 (setDpc c dpc s)

/-- CORE_EBREAK_HALT (R580). -/
def execCoreEbreakHalt (c : Core) (dpc : Word) (s : State) : Res := run (ebreakHalt c.val dpc) s

/-! ### The terminal (R582) -/

/-- Core c executes instructions: it runs, or it is halted and may be fed one. -/
def State.coreUp (s : State) (c : Nat) : Bool := s.coreRuns c || s.coreHalted c

/-- A core writes dtx. -/
def dtxWrite (c : Nat) (w : Word) (s : State) : State :=
  if !s.coreUp c then s
  else if s.kOn c DBG_C_TSTAT_dtx_full then s.setKf c DBG_C_TSTAT_dtx_lost 1
  else (s.wr (coreDie c) (DBG_C_DTX (coreSlot c)) w).setKf c DBG_C_TSTAT_dtx_full 1

/-- DTX_WRITE (R582). -/
def execDtxWrite (c : Core) (w : Word) (s : State) : Res := run (dtxWrite c.val w) s

/-- A core reads drx. -/
def drxRead (c : Nat) (s : State) : State :=
  if !s.coreUp c then s
  else if s.kOn c DBG_C_TSTAT_drx_full then
    (s.setKf c DBG_C_TSTAT_drx_full 0).emit (.coreValue c (s.rd (coreDie c) (DBG_C_DRX (coreSlot c))))
  else s.emit (.coreValue c 0)

/-- DRX_READ (R582). -/
def execDrxRead (c : Core) (s : State) : Res := run (drxRead c.val) s

/-- The debugger writes `DBG_Cs_DRX`. -/
def drxWrite (c : Nat) (w : Word) (s : State) : State :=
  if s.kOn c DBG_C_TSTAT_drx_full then s.setKf c DBG_C_TSTAT_drx_lost 1
  else (s.wr (coreDie c) (DBG_C_DRX (coreSlot c)) w).setKf c DBG_C_TSTAT_drx_full 1

/-- DRX_DEBUGGER_WRITE (R582, R571). -/
def execDrxDebuggerWrite (i : Init) (c : Core) (w : Word) (s : State) : Res :=
  run (fun s => if s.live (coreDie c.val) then dbgOnly i (drxWrite c.val w) s else s) s

/-- A write of `DBG_Cs_TSTAT`: a 1 clears dtx_full, dtx_lost and drx_lost (R582); `hw` are bits that set in the same cycle (R12). -/
def termAck (c : Nat) (v hw : Word) (s : State) : State :=
  let r := DBG_C_TSTAT (coreSlot c)
  let d := coreDie c
  s.wr d r ((s.rd d r &&& ~~~(v &&& 0xD)) ||| (hw &&& 0xD))

/-- DTX_ACK (R582). -/
def execDtxAck (i : Init) (c : Core) (v : Word) (s : State) : Res :=
  run (fun s => if s.live (coreDie c.val) then dbgOnly i (termAck c.val v 0) s else s) s

/-! ### The SRAM access (R584) -/

/-- `MADDR` moves on by 4 where `inc` is 1. -/
def maddrNext (c : Nat) (s : State) : State :=
  if s.kOn c DBG_C_MADDR_inc then s.setKf c DBG_C_MADDR_word (s.kf c DBG_C_MADDR_word + 1) else s

/-- A read of `DBG_Cs_MDATA`; what an uncorrectable word gives is free (assumption 2), and a word beyond the SRAM reads 0. -/
def mdataRead (c : Nat) (err : SramErr) (s : State) : State × Word :=
  let k := s.kf c DBG_C_MADDR_word
  let isram := s.kOn c DBG_C_MADDR_isram
  if c ≠ 0 ∧ !s.coreRight c then (dbgRefuse s, 0)
  else if sramSize c ≤ 4 * k then (maddrNext c s, 0)
  else
    let w := s.sramWord c isram k
    let (s, ue) := sramTouch c isram k err s
    let s := s.setKf c DBG_C_MADDR_ue ue.toNat
    if ue then (maddrNext c s.freeNext, BitVec.ofNat 32 s.free.toNat) else (maddrNext c s, w)

/-- A write of `DBG_Cs_MDATA`: the Hawkmoth's instruction SRAM takes none (R472), and a Skipper's is no longer loaded (R580). -/
def mdataWrite (c : Nat) (w : Word) (s : State) : State :=
  let k := s.kf c DBG_C_MADDR_word
  let isram := s.kOn c DBG_C_MADDR_isram
  if c ≠ 0 ∧ !s.coreRight c then dbgRefuse s
  else if sramSize c ≤ 4 * k ∨ (c = 0 ∧ isram) then maddrNext c s
  else maddrNext c ((setSramWord c isram k w true s).when isram (fun s => s.setKf c CORE_STAT_loaded 0))

/-- MDATA_ACCESS (R584). -/
def execMdataAccess (i : Init) (c : Core) (write : Option Word) (err : SramErr) (s : State) : Res :=
  run (fun s =>
    if !s.live (coreDie c.val) then s
    else match write with
      | some w => dbgOnly i (mdataWrite c.val w) s
      | none => let (s, w) := mdataRead c.val err s; s.emit (.value w)) s

end Sys2Proof.Machine
end

