-- ==== Sys2Proof/Machine/Power.lean ====
section
/-! DEFINITION. Clocks, rails, throttling and temperature (19, R529 to R551). -/

namespace Sys2Proof.Machine

/-! ### Fabric PLLs (R533) -/

/-- PLL k of fabric die d loses lock: its outputs stop (R533). -/
def pllUnlock (d k : Nat) (s : State) : State :=
  if !s.live d ∨ !nbit (s.f d CLK_PLL_LOCK_lock) k then s
  else errReport d 13 .contained 0x1F 0 ((s.setF d ⟨CLK_PLL_LOCK, k, 1⟩ 0).evt d CLK_EVT_pll_unlock)

/-- FABRIC_PLL_UNLOCK (R533). -/
def execFabricPllUnlock (d : FabDie) (k : Fin 8) (s : State) : Res := run (pllUnlock (d.val + 2) k.val) s

/-- PLL k relocks, and its outputs resume; a PLL that no image has enabled stays unlocked (R532, R533). -/
def pllRelocks (d k : Nat) (s : State) : State :=
  if s.live d ∧ s.on d (CLK_PLL_CFG_en k) then s.setF d ⟨CLK_PLL_LOCK, k, 1⟩ 1 else s

/-- FABRIC_PLL_RELOCK (R533). -/
def execFabricPllRelock (d : FabDie) (k : Fin 8) (s : State) : Res := run (pllRelocks (d.val + 2) k.val) s

/-! ### Frequency meters (R537) -/

/-- A 12-bit clock code names a clock of the device (R550). -/
def clockExists (code : Nat) : Bool :=
  let d := code / 256
  let c := code % 256
  let io := decide (d < 2)
  decide (d ≤ 9) && ((decide (d = 0) && (c == 0 || c == 2)) || c == 1 || c == 3 || c == 4 || c == 0x78 ||
    (!io && decide (0x10 ≤ c) && decide (c < 0x30)) || (io && decide (0x40 ≤ c) && decide (c < 0x6A)) ||
    (io && decide (0x70 ≤ c) && decide (c < 0x74)))

/-- A write of `CLK_FMm_N`: N is stored, and `start` starts the meter unless it is busy (R537). -/
def meterStart (m : Nat) (v : Word) (s : State) : State :=
  if !s.iosUp then s
  else
    let s := s.setF 0 (CLK_FM_N_n m) (bitsOf v 0 24)
    if bitsOf v 31 1 = 0 ∨ s.on 0 (CLK_FM_STAT_busy m) then s
    else
      let meas := s.f 0 (CLK_FM_SEL_meas m)
      if clockExists meas ∧ s.f 0 (CLK_FM_SEL_gate m) ≤ 2 then
        let s := s.wr 0 (CLK_FM_STAT m) 1
        { s with pwr := { s.pwr with fmLost := KMap.put s.pwr.fmLost m (s.dieFenced (meas / 256)) } }
      else s.setF 0 (CLK_FM_STAT_bad_sel m) 1

/-- FREQ_METER_START (R537). -/
def execFreqMeterStart (m : Fin 16) (v : Word) (s : State) : Res := run (meterStart m.val v) s

/-- A meter's gate ends after `count` edges of the divided clock (R537). -/
def meterDone (m count : Nat) (s : State) : State :=
  if !s.on 0 (CLK_FM_STAT_busy m) then s
  else
    let lost := KMap.look s.pwr.fmLost m
    let n := if lost then 0 else count
    let s := s.setFs 0 [(CLK_FM_STAT_busy m, 0), (CLK_FM_STAT_done m, 1), (CLK_FM_STAT_sat m, if 2 ^ 32 ≤ n then 1 else 0),
      (CLK_FM_STAT_absent m, if lost then 1 else 0), (CLK_FM_RES_count m, sat 32 n)]
    ({ s with pwr := { s.pwr with fmLost := KMap.put s.pwr.fmLost m false } }).evt 0 CLK_EVT_fm_done

/-- FREQ_METER_DONE (R537). -/
def execFreqMeterDone (m : Fin 16) (count : Nat) (s : State) : Res := run (meterDone m.val count) s

/-! ### Clock gating (R538, R550) -/

/-- Block b of `CLK_GATE` exists on die d (R550). -/
def gateExists (d b : Nat) : Bool := if d < 2 then decide (b < 30) else decide (b < 5)

/-- Only the Hawkmoth and the die's own cores write `CLK_GATE` (R550). -/
def mayGate (i : Init) (d : Nat) : Bool := isHawkmoth i || isCoreOf i d

/-- The die takes writes of its control space: it is out of reset, or it is IOS in the factory hold (R548, R574). -/
def State.dieUp (s : State) (d : Nat) : Bool := if d = 0 then s.iosUp else s.live d

/-- A 1 is written to a block's bit: the controller requests idle (R538). -/
def gateRequest (i : Init) (d b : Nat) (s : State) : State :=
  if !s.dieUp d ∨ !gateExists d b then s
  else if !mayGate i d then s.evt d CLK_EVT_refused
  else s.setF d ⟨CLK_GATE, b, 1⟩ 1

/-- CLOCK_GATE_REQUEST (R538). -/
def execClockGateRequest (i : Init) (d : Die) (b : Fin 30) (s : State) : Res := run (gateRequest i d.val b.val) s

/-- A 0 is written to a block's bit: the gate opens, and a request is withdrawn (R538). -/
def gateOpen (i : Init) (d b : Nat) (s : State) : State :=
  if !s.dieUp d ∨ !gateExists d b then s
  else if !mayGate i d then s.evt d CLK_EVT_refused
  else s.setFs d [(⟨CLK_GATE, b, 1⟩, 0), (⟨CLK_GATE_STAT, b, 1⟩, 0)]

/-- CLOCK_GATE_OPEN (R538). -/
def execClockGateOpen (i : Init) (d : Die) (b : Fin 30) (s : State) : Res := run (gateOpen i d.val b.val) s

/-- A write of the whole register `CLK_GATE` (R538, R550). -/
def gateWrite (i : Init) (d : Nat) (v : Word) (s : State) : State :=
  if !mayGate i d then s.evt d CLK_EVT_refused
  else s.each (List.range 30) (fun s b => if nbit v.toNat b then gateRequest i d b s else gateOpen i d b s)

/-- Idle is requested of block b and not yet acknowledged. -/
def State.gatePending (s : State) (d b : Nat) : Bool :=
  nbit (s.rd d CLK_GATE).toNat b && !nbit (s.rd d CLK_GATE_STAT).toNat b

/-- The requests to block b are answered RETRY: idle is requested of it, or its gate is closed (R538). -/
def State.gated (s : State) (d b : Nat) : Bool := nbit (s.rd d CLK_GATE).toNat b || nbit (s.rd d CLK_GATE_STAT).toNat b

/-- The block acknowledges idle, and its gate closes (R538). -/
def gateAck (d b : Nat) (s : State) : State := if s.gatePending d b then s.setF d ⟨CLK_GATE_STAT, b, 1⟩ 1 else s

/-- CLOCK_GATE_IDLE_ACK (R538). -/
def execClockGateIdleAck (d : Die) (b : Fin 30) (s : State) : Res := run (gateAck d.val b.val) s

/-- 4,096 block-clock cycles pass without an acknowledgement: the request is withdrawn (R538). -/
def gateTimeout (d b : Nat) (s : State) : State :=
  if s.gatePending d b then
    (s.setF d ⟨CLK_GATE, b, 1⟩ 0).evtLatch d CLK_EVT_gate_timeout (fun s =>
      s.setFs d [(CLK_GATE_FAIL_bit, b), (CLK_GATE_FAIL_valid, 1)])
  else s

/-- CLOCK_GATE_TIMEOUT (R538). -/
def execClockGateTimeout (d : Die) (b : Fin 30) (s : State) : Res := run (gateTimeout d.val b.val) s

/-! ### Rails (R541) -/

/-- The rail of bit b of `PWR_VMON` is monitored on die d (R539, R551, R555). -/
def railExists (d b : Nat) : Bool :=
  if d = 0 then decide (b < 7) else if d = 1 then b == 0 || b == 1 || b == 2 || b == 5 else b == 0 || (decide (5 ≤ b) && decide (b < 8))

/-- A sample of rail b of die d: two out-of-window samples in a row make a fault (R508, R541). -/
def railBit (d : Nat) (bad : Nat) (s : State) (b : Nat) : State :=
  if !railExists d b then s
  else
    let k := d * 8 + b
    let n := KMap.look s.pwr.railBad k
    let out := nbit bad b
    let s := { s with pwr := { s.pwr with railBad := KMap.put s.pwr.railBad k (if out then min 2 (n + 1) else 0) } }
    if !s.live d then s
    else
      let s := s.setF d ⟨PWR_VMON, b, 1⟩ (if out then 0 else 1)
      if out ∧ n = 1 then
        errReport d 13 (if b = 0 then .dieFatal else .contained) 0x1F 0 ((s.setF d ⟨PWR_VMON, 8 + b, 1⟩ 1).evt d PWR_EVT_rail)
      else s

/-- The core rail of die d has fallen below 90 % of nominal: the die holds itself in reset, and on IOS the device stops (R43, R541). -/
def coreRailLow (d : Nat) (s : State) : State :=
  if d = 0 then if s.iosUp then enterSafe 6 s else s
  else
    let s := { s with pwr := { s.pwr with held := KMap.put s.pwr.held d true } }
    if s.live d then dieReset d (dieLost d 2 s) else s

/-- The sensed levels of the GPIO banks of I/O die d, bank 0 lowest; ION has one bank (R555). A change is an event. -/
def bankLevels (d levels : Nat) (s : State) : State :=
  let v := if d = 0 then levels % 16 else levels % 4
  if 2 ≤ d ∨ !s.live d ∨ s.f d GPIO_BANK_level0 + 4 * s.f d GPIO_BANK_level1 = v then s
  else (s.setFs d [(GPIO_BANK_level0, v % 4), (GPIO_BANK_level1, v / 4)]).evt d GPIO_EVT_bank

/-- A sample of every rail of die d: the rails out of window, and whether the core rail is below 90 % of nominal (R541). -/
def railSample (d bad : Nat) (low : Bool) (levels : Nat) (s : State) : State :=
  let s := bankLevels d levels (s.each (List.range 8) (railBit d bad))
  if low then coreRailLow d s else s

/-- RAIL_SAMPLE (R541). -/
def execRailSample (d : Die) (bad : Byte) (low : Bool) (levels : BitVec 4) (s : State) : Res :=
  run (railSample d.val bad.toNat low levels.toNat) s

/-- The core rail of die d has been back in its window for 1 ms: the die leaves reset (R541). -/
def railRecover (d : Nat) (s : State) : State :=
  if KMap.look s.pwr.held d then dieRelease d { s with pwr := { s.pwr with held := KMap.put s.pwr.held d false } } else s

/-- CORE_RAIL_RECOVER (R541). -/
def execCoreRailRecover (d : Die) (s : State) : Res := run (railRecover d.val) s

/-! ### Throttling (R542 to R544) -/

/-- `CLK_THROTTLE` shows the lowest of the three levels and the sources below 8; levels are held as steps below 8 (R542, R543). -/
def showThrottle (d : Nat) (s : State) : State :=
  let a := KMap.look s.pwr.lvlPower d
  let b := KMap.look s.pwr.lvlThermal d
  let c := KMap.look s.pwr.lvlPkg d
  s.setFs d [(CLK_THROTTLE_level, 8 - max a (max b c)), (CLK_THROTTLE_power, min 1 a), (CLK_THROTTLE_thermal, min 1 b),
    (CLK_THROTTLE_package, min 1 c)]

/-- A throttle level of die d has changed (R543). -/
def levelChanged (d : Nat) (s : State) : State := errReport d 13 .contained 0x1F 0 (showThrottle d (s.evt d PWR_EVT_throttle))

/-- The next steps below 8 of a source at a window end: `high`, its condition holds; `room`, its release test passes at a level (R543). -/
def nextSteps (steps : Nat) (high : Bool) (room : Nat → Bool) : Nat :=
  if high then min 7 (steps + 1) else if 0 < steps ∧ room (8 - steps) then steps - 1 else steps

/-- The power source of fabric die d at a window end with an average of `a` sixteenths of an ampere (R543, R544). -/
def powerWindow (d a : Nat) (s : State) : State :=
  let cap := max 10 (min 70 (s.f d PWR_CAP_limit)) * 16
  let avg := (KMap.look s.pwr.avg d ++ [a]).drop ((KMap.look s.pwr.avg d).length - 3)
  let old := KMap.look s.pwr.lvlPower d
  let room (j : Nat) : Bool := decide (avg.foldl (· + ·) 0 * (j + 1) * 100 ≤ 95 * cap * avg.length * j)
  let new := nextSteps old (decide (cap < a)) room
  let s := { s with pwr := { s.pwr with avg := KMap.put s.pwr.avg d avg, lvlPower := KMap.put s.pwr.lvlPower d new } }
  let s := (s.setF d PWR_CUR_current a).largest d PWR_CUR_MAX_current a
  let s := s.when (decide (cap < a) && decide (old = 7)) (fun s => s.evt d PWR_EVT_floor)
  s.when (decide (new ≠ old)) (levelChanged d)

/-- The package source of fabric die d at a window end with a package sum in mW; a die that IOS does not reach keeps its level (R543). -/
def packageWindow (d mw : Nat) (s : State) : State :=
  if KMap.look s.statusFenced d then s
  else
    let cap := max 100 (min 480 (s.f 0 PWR_PKG_CAP_watts)) * 1000
    let old := KMap.look s.pwr.lvlPkg d
    let new := nextSteps old (decide (cap < mw)) (fun j => decide (mw * (j + 1) * 100 ≤ 95 * cap * j))
    let s := { s with pwr := { s.pwr with lvlPkg := KMap.put s.pwr.lvlPkg d new } }
    let s := s.when (decide (cap < mw) && decide (old = 7)) (fun s => s.evt d PWR_EVT_floor)
    s.when (decide (new ≠ old)) (levelChanged d)

/-- The package sum on IOS: a die whose status is stale counts at its last value (R544). -/
def packageSum (mw : List Nat) (s : State) : State × Nat :=
  let stale := allDies.filter (fun d => s.dieFenced d)
  let watts := allDies.foldl (fun m d => if stale.contains d then m else KMap.put m d (mw.getD d 0)) s.pwr.watts
  let sum := allDies.foldl (fun a d => a + KMap.look watts d) 0
  let s := { s with pwr := { s.pwr with watts := watts } }
  (s.setFs 0 [(PWR_PKG_NOW_watts, sat 10 (sum / 1000)), (PWR_PKG_NOW_stale, stale.foldl (fun a d => a + 2 ^ d) 0)], sum)

/-- A 16 µs window ends: the averages of the fabric dies in sixteenths of an ampere, and the power of each die in mW (R542 to R544). -/
def throttleWindow (amps : List Nat) (mw : List Nat) (s : State) : State :=
  if !s.live 0 then s
  else
    let (s, sum) := packageSum mw s
    s.each (fabDies.filter (fun d => s.live d)) (fun s d => packageWindow d sum (powerWindow d (amps.getD (d - 2) 0) s))

/-- THROTTLE_WINDOW_END (R543). -/
def execThrottleWindowEnd (amps : List (BitVec 12)) (mw : List Nat) (s : State) : Res :=
  run (throttleWindow (amps.map (·.toNat)) mw) s

/-! ### Temperature (R545 to R547) -/

/-- Put a reading into a rising list. -/
def insertTemp (t : Int) (l : List Int) : List Int :=
  match l with
  | [] => [t]
  | u :: r => if t ≤ u then t :: u :: r else u :: insertTemp t r

/-- Twice the median of the four readings: the sum of the two middle ones (R545). -/
def twiceMedian (l : List Int) : Int :=
  let x := l.foldl (fun a t => insertTemp t a) []
  x.getD 1 0 + x.getD 2 0

/-- The sensors of a sample that are valid, with their readings: those within 8 °C of the median (R545). -/
def validTemps (l : List Int) : List (Nat × Int) :=
  let m := twiceMedian l
  (List.zip [0, 1, 2, 3] l).filter (fun e => decide (2 * e.2 - m ≤ 64) && decide (m - 2 * e.2 ≤ 64))

/-- The throttle threshold of die d in quarter degrees (R546). -/
def State.throttleAt (s : State) (d : Nat) : Int := 4 * ((max 80 (min 110 (s.f d THERM_CFG_throttle)) : Nat) : Int)

/-- The thermal source of fabric die d takes a level (R543). -/
def setThermal (d steps : Nat) (s : State) : State :=
  if KMap.look s.pwr.lvlThermal d = steps then s
  else levelChanged d { s with pwr := { s.pwr with lvlThermal := KMap.put s.pwr.lvlThermal d steps } }

/-- The registers and events of a sample (R543, R545, R546). -/
def thermalShow (d : Nat) (l : List Int) (ok : List (Nat × Int)) (s : State) : State :=
  let s := s.each (List.zip [0, 1, 2, 3] l) (fun s e =>
    s.setFs d [(THERM_S_temp e.1, (BitVec.ofInt 12 e.2).toNat), (THERM_S_valid e.1, if ok.any (fun x => x.1 == e.1) then 1 else 0)])
  let s := s.each ok (fun s e =>
    let top := (BitVec.ofNat 12 (s.f d THERM_MAX_temp)).toInt
    if s.on d THERM_MAX_valid ∧ e.2 ≤ top then s
    else s.setFs d [(THERM_MAX_temp, (BitVec.ofInt 12 e.2).toNat), (THERM_MAX_valid, 1)])
  let s := s.when (decide (ok.length < 4)) (fun s => s.evt d PWR_EVT_sensor_bad)
  let s := s.when (decide (ok.length < 2)) (errReport d 13 .contained 0x1F 0)
  let warn : Int := 4 * (s.f d THERM_CFG_warn : Int)
  let s := s.when (ok.any (fun e => decide (warn ≤ e.2))) (fun s => s.evt d PWR_EVT_warn)
  if d < 2 then s
  else if ok.length < 2 ∨ ok.any (fun e => decide (s.throttleAt d ≤ e.2)) then setThermal d 4 s
  else if ok.all (fun e => decide (e.2 ≤ s.throttleAt d - 12)) then setThermal d 0 s
  else s

/-- Die d trips: IOS records it, and the device enters the safe state (R547). -/
def thermalTrip (d sensor : Nat) (none : Bool) (temp : Int) (s : State) : State :=
  if s.pwr.safe then s
  else
    let s := s.setFs 0 [(THERM_TRIPLOG_die, d), (THERM_TRIPLOG_sensor, sensor), (THERM_TRIPLOG_no_valid, if none then 1 else 0),
      (THERM_TRIPLOG_temp, (BitVec.ofInt 12 temp).toNat)]
    enterSafe 4 (setFatal ERR_FATAL_thermal s)

/-- Die d reads its four sensors, in quarter degrees (R545 to R547). -/
def thermalSample (d : Nat) (l : List Int) (s : State) : State :=
  let ok := validTemps l
  let tripping := ok.filter (fun e => decide (460 ≤ e.2))
  let n := KMap.look s.pwr.tripped d
  let pwr := { s.pwr with
    hot := KMap.put s.pwr.hot d (ok.any (fun e => decide (s.throttleAt d ≤ e.2))),
    tripped := KMap.put s.pwr.tripped d (if tripping.isEmpty then 0 else min 2 (n + 1)) }
  let s := { s with pwr := pwr }
  let s := if s.live d then thermalShow d l ok s else s
  let s : State := if (!s.iosUp || s.atStep 0) = true then s
    else match ok, tripping with
      | [], _ => thermalTrip d 0 true (l.getD 0 0) s
      | _, e :: _ => if 1 ≤ n then thermalTrip d e.1 false e.2 s else s
      | _, [] => s
  endS0 s

/-- THERMAL_SAMPLE (R545). -/
def execThermalSample (d : Die) (t0 : BitVec 12) (t1 : BitVec 12) (t2 : BitVec 12) (t3 : BitVec 12) (s : State) : Res :=
  run (thermalSample d.val [t0.toInt, t1.toInt, t2.toInt, t3.toInt]) s

end Sys2Proof.Machine
end

