-- ==== Sys2Proof/Machine/Remote.lean ====
section
/-! DEFINITION. Remote memory over Itastea (10): the source and target bridges, and frames in transit (R321, R333 to R335, R571). -/

namespace Sys2Proof.Machine

/-- The initiator of the bridge of port p: endpoint 0x60 + q of its die (R185, R335). -/
def bridgeInit (p : Nat) : Nat := portDie p * 256 + 0x60 + p % 4

/-- The response frame that turns a request frame away with a status. -/
def MemFrame.refuse (m : MemFrame) (st : Nat) (s : State) : MemFrame :=
  { m with target := m.source, source := BitVec.ofNat 14 s.devId, opcode := 4, count := 0, status := BitVec.ofNat 8 st, lines := [] }

/-- The request that the target bridge of port p issues for a frame (R335). -/
def MemFrame.request (m : MemFrame) (p : Nat) (s : State) : NocReq :=
  { src := BitVec.ofNat 12 (bridgeInit p), write := m.opcode == 1, addr := m.addr, count := m.count, lines := m.lines, queue := m.queue,
    key := Fin.ofNat 64 (s.f 0 ITA_KEY_remote), dbg := m.dbg, serve := some ⟨p, m.source.toNat, m.src.toNat, m.tag.val⟩ }

/-- A memory request frame on a port: in transit it goes on, or on the top device with no route it completes with the decode-error
status (R321); for this device a debug write is blocked (R571), and any other request is issued (R335). -/
def remoteRequest (p : Nat) (m : MemFrame) (s : State) : State :=
  if s.portState p ≠ 4 then s
  else
    let s := freeBuffer p 2 s
    if m.target.toNat ≠ s.devId then
      match s.routePort m.target.toNat true with
      | some q => itaSend q (.memReq m) s
      | none => sendFrame (m.refuse 1 s) true s
    else if 1 < m.opcode.toNat then sendFrame (m.refuse 0x0B s) true s
    else if m.dbg ∧ m.opcode = 1 then sendFrame (m.refuse 0x0C s) true s
    else niIssue (m.request p s) false s

/-- REMOTE_MEMORY_REQUEST (R335). -/
def execRemoteMemoryRequest (p : Fin 8) (m : MemFrame) (s : State) : Res := run (remoteRequest p.val m) s

/-- The source bridge answers the NoC request with what the frame brings (R335). -/
def remoteAnswer (h : Hdr) (m : MemFrame) (s : State) : State :=
  if m.status ≠ 0 then answerError h m.status.toNat s
  else if h.opcode = 1 then answerAck h s
  else answerData h m.lines s

/-- A response frame on a port: in transit it goes on (R321); for this device it completes the request that its port and tag name, and
one that names none is discarded. -/
def remoteResponse (p : Nat) (m : MemFrame) (s : State) : State :=
  if s.portState p ≠ 4 then s
  else
    let s := freeBuffer p 3 s
    if m.target.toNat ≠ s.devId then sendFrame m true s
    else
      let mine (r : Remote) : Bool := r.port == p && r.tag == m.tag.val
      match s.ita.remote.find? mine with
      | some r =>
        remoteAnswer r.hdr m { s with ita := { s.ita with remote := s.ita.remote.filter (fun r => !mine r) } }
      | none => s

/-- REMOTE_MEMORY_RESPONSE (R335). -/
def execRemoteMemoryResponse (p : Fin 8) (m : MemFrame) (s : State) : Res := run (remoteResponse p.val m) s

/-- The first tag that no request of the list uses. -/
def freeTag (l : List Remote) (p n : Nat) : Nat :=
  match n with
  | 0 => 0
  | n + 1 => if l.any (fun r => r.port == p && r.tag == 63 - n) then freeTag l p n else 63 - n

/-- The bridge endpoint of port p takes a request: with the port not UP it is fenced; the bridge that holds 64 waits, answering RETRY
(R204, R309, R335). Whether it answers RETRY. -/
def bridgeTake (p : Nat) (h : Hdr) (lines : List Line) (s : State) : State × Bool :=
  if s.portState p ≠ 4 then (answerError h 8 s, false)
  else if 64 ≤ (s.ita.remote.filter (fun r => r.port == p)).length then (s, true)
  else match s.remoteTarget h.addr with
    | none => (answerError h 1 s, false)
    | some (id, a) =>
      let tag := freeTag s.ita.remote p 64
      let m : MemFrame := { target := BitVec.ofNat 14 id, source := BitVec.ofNat 14 s.devId, src := BitVec.ofNat 12 h.srcId,
                            dbg := h.dbg, opcode := BitVec.ofNat 4 h.opcode, queue := Fin.ofNat 32 h.queue,
                            addr := BitVec.ofNat 48 a, count := Fin.ofNat 512 h.count, tag := Fin.ofNat 64 tag, status := 0,
                            lines := lines }
      (itaSend p (.memReq m) { s with ita := { s.ita with remote := s.ita.remote ++ [⟨p, tag, h⟩] } }, false)

end Sys2Proof.Machine
end

