-- ==== Sys2Proof/Machine/Views.lean ====
section
/-! DEFINITION. What a register shows (R10, R39, and the register maps of the chapters): the registers whose value is computed from
state that is not in the register file, and the pairs whose low word captures the high one (R7). -/

namespace Sys2Proof.Machine

/-- The index of place r in an array of n registers from `base` in steps of `step`. -/
def arrAt (r base step n : Nat) : Option Nat :=
  if base ≤ r ∧ (r - base) % step = 0 ∧ (r - base) / step < n then some ((r - base) / step) else none

/-! ### Identity and time -/

/-- `SYS_PART`, `SYS_DIE` and the unique ID, from the fuses (R39). -/
def State.viewSys (s : State) (d r : Nat) : Option Word :=
  if r = SYS_PART then some (packBits [(0, 0x7160), (16, s.fuses.variant)])
  else if r = SYS_DIE then some (packBits [(0, d), (4, if d < 2 then 0 else 1), (8, s.fuses.stepping.getD d 0)])
  else if r = SYS_UID_LO then some (BitVec.ofNat 32 (s.fuses.uid d).toNat)
  else if r = SYS_UID_HI then some (BitVec.ofNat 32 ((s.fuses.uid d).toNat / 2 ^ 32))
  else none

/-- The tick number and the count of the last boundary as die d shows them (R82). -/
def State.tickShown (s : State) (d : Nat) : Nat × Nat :=
  if d = 0 then (s.time.num, s.time.bnd)
  else
    let x := KMap.look s.tick.rx d
    if x.ever then (x.num, x.bnd) else (0, 0)

/-- The timebase count as die d shows it (R82). -/
def State.nowShown (s : State) (d : Nat) : Nat := if d = 0 ∨ (KMap.look s.tick.rx d).ever then s.time.count else 0

/-- `TICK_STATUS` of die d (R82). -/
def State.tickStatus (s : State) (d : Nat) : Word :=
  if d = 0 then
    packBits [(0, (s.ringLocked 0).toNat), (1, s.tick.sync.toNat), (2, s.tick.holdover.toNat), (3, s.testPeriod.toNat),
      (8, s.countdown), (16, s.tick.epoch)]
  else
    let x := KMap.look s.tick.rx d
    if x.ever then packBits [(0, (s.ringLocked d).toNat), (1, x.flags % 8), (8, x.countdown)] else 0

/-- The TICK page (R82). -/
def State.viewTick (s : State) (d r : Nat) : Option Word :=
  let w (n : Nat) : Option Word := some (BitVec.ofNat 32 n)
  if r = TICK_P then w s.time.p
  else if r = TICK_Q then w s.time.q
  else if r = TICK_NUM_LO then w (s.tickShown d).1
  else if r = TICK_NUM_HI then w ((s.tickShown d).1 / 2 ^ 32)
  else if r = TICK_BND_LO then w (s.tickShown d).2
  else if r = TICK_BND_HI then w ((s.tickShown d).2 / 2 ^ 32)
  else if r = TICK_NOW_LO then w (s.nowShown d)
  else if r = TICK_NOW_HI then w (s.nowShown d / 2 ^ 32)
  else if r = TICK_STATUS then some (s.tickStatus d)
  else none

/-! ### Configuration, journal, commands and keys -/

/-- Milliseconds left until the personality deadline, rounded up (R429). -/
def State.deadlineLeft (s : State) : Nat :=
  match s.deadlineEnd with
  | some t => (t - s.time.count + 1599999) / 1600000
  | none => 0

/-- `JOURNAL_SECT`: the current sector, the retired sectors, the erase count (R457, R465). -/
def State.journalSect (s : State) : Word :=
  let n := match (match s.jour.cur with | some k => (s.sector k).hdr | none => none) with | some (e, _) => e | none => 0
  packBits [(0, s.jour.cur.getD 0), (6, s.retiredCount), (14, n % 2 ^ 17)]

/-- A word of the record that `JOURNAL_RIDX` selects, 0 the newest written; a record that is not there reads 0. -/
def State.journalWord (s : State) (n : Nat) : Word :=
  match s.jourRecords[s.f 0 JOURNAL_RIDX_back]? with
  | some x => x.word n
  | none => 0

/-- A word of a result-log entry (R505). -/
def CmdRes.word (x : CmdRes) (n : Nat) : Word :=
  match n with
  | 0 => packBits [(0, x.cmd), (8, x.reason), (12, x.bcast.toNat), (13, x.up.toNat), (14, x.consumed.toNat), (16, x.tick)]
  | 1 => BitVec.ofNat 32 x.counter
  | 2 => packBits [(0, x.counter / 2 ^ 32 % 2 ^ 16), (16, x.detail % 2 ^ 16)]
  | _ => BitVec.ofNat 32 (x.target % 2 ^ 14)

/-- `KEYS_LC`: the state, the moves used and the key row in use (R506). -/
def State.keysLc (s : State) : Word :=
  packBits [(0, if s.keys.lc = 0 then s.fuses.lc else s.keys.lc), (4, s.fuses.moves), (10, s.fuses.rows.length - 1)]

/-- The CFG, JOURNAL, CMD and KEYS pages (R435, R465, R505, R506). -/
def State.viewPlan (s : State) (r : Nat) : Option Word :=
  if r = CFG_PREMAIN then some (BitVec.ofNat 32 s.deadlineLeft)
  else if r = JOURNAL_SECT then some s.journalSect
  else if r = CMD_STAT then some (putBits (s.rd 0 CMD_STAT) 4 3 s.cmd.fifo.length)
  else if r = KEYS_LC then some s.keysLc
  else match arrAt r (JOURNAL_RW 0) 4 8 with
    | some n => some (s.journalWord n)
    | none => (arrAt r (CMD_RES_W 0) 4 4).map (fun n => (s.cmd.log.getD (s.f 0 CMD_RES_IDX_back) {}).word n)

/-! ### The network and its neighbours -/

/-- The port of router (x, y) rides a Corug module (R240). -/
def ridesModule (d x y port : Nat) : Bool :=
  [0, 1, 2, 3].any (fun e => (edgeFar d e).isSome && [0, 1, 2, 3].any (fun k => decide (tunnelPort d e k = (x, y, port))))

/-- The router that `NOC_RTR_SEL` names, where it belongs to die d (R209). -/
def State.selRouter (s : State) (d : Nat) : Option (Nat × Nat) :=
  let x := s.f d NOC_RTR_SEL_x
  let y := s.f d NOC_RTR_SEL_y
  if y ≤ 9 ∧ dieIndex x y = d then some (x, y) else none

/-- `NOC_RTR_STAT`, `NOC_RTR_SLACK` and `NOC_RTR_OVR` (R209). -/
def State.viewNoc (s : State) (d r : Nat) : Option Word :=
  if r = NOC_RTR_STAT ∨ r = NOC_RTR_SLACK ∨ r = NOC_RTR_OVR then
    match s.selRouter d with
    | none => some 0
    | some (x, y) =>
      let t := KMap.look s.rtr (x + 16 * y)
      let ride (p : Nat) : Nat × Nat := (5 + p, (ridesModule d x y p).toNat)
      if r = NOC_RTR_STAT then some (packBits ([(0, 1), (1, t.fenced % 16)] ++ [0, 1, 2, 3].map ride))
      else some (BitVec.ofNat 32 (if r = NOC_RTR_SLACK then t.slack else t.ovr))
  else none

/-- The bank that `PROBES_SCH_IDX` selects. -/
def State.selBank (s : State) (d : Nat) : Nat := d * 2 + s.f d PROBES_SCH_IDX_bank

/-- The key of the entry that `PROBES_SCH_IDX` selects. -/
def State.selEntry (s : State) (d : Nat) : Nat := s.selBank d * 4096 + s.f d PROBES_SCH_IDX_index

/-- The reservation banks as they read (R225, R238). -/
def State.viewSched (s : State) (d r : Nat) : Option Word :=
  let (p, q, c) := KMap.look s.sch.hdr (s.selBank d)
  if r = PROBES_SCH_HDR_P then some (BitVec.ofNat 32 p)
  else if r = PROBES_SCH_HDR_Q then some (BitVec.ofNat 32 q)
  else if r = PROBES_SCH_CRC then some (BitVec.ofNat 32 c)
  else (arrAt r (PROBES_SCH_ENT 0) 4 4).map (fun n =>
    BitVec.ofNat 32 (nbits (KMap.look s.sch.entry (s.selEntry d)).toNat (32 * n) 32))

/-- `CORUG_Mm_STAT` shows whether the slot exists and its kind; every register of a slot that does not exist reads 0 (R265). -/
def State.viewCorug (s : State) (d r : Nat) : Option Word :=
  if 0x680100 ≤ r ∧ r < 0x680500 then
    let m := (r - 0x680100) / 0x20
    if !moduleExists d m then some 0
    else if r = CORUG_M_STAT m then some (putBits (putBits (s.rd d r) 0 1 1) 1 2 (moduleKind d m))
    else none
  else none

/-- The ITASTEA page: the selected event entry and the selected route (R330, R321, R337). -/
def State.viewIta (s : State) (r : Nat) : Option Word :=
  let e := (KMap.look s.ita.ert (s.f 0 ITA_ERT_IDX_index)).toNat
  let k := s.f 0 ITA_RT_IDX_index
  let v := if s.on 0 ITA_RT_IDX_table then KMap.look s.ita.cluster k else KMap.look s.ita.member (k % 64)
  if r = ITA_ERT_W0 then some (BitVec.ofNat 32 e)
  else if r = ITA_ERT_W1 then some (BitVec.ofNat 32 (e / 2 ^ 32))
  else if r = ITA_RT_DATA then some (BitVec.ofNat 32 (if v = 0 then 0xF else v - 1))
  else none

/-! ### Memories, records, errors -/

/-- The levels of the record FIFOs, the scrub control and the computed state of the memory blocks (R143, R174, R353, R384, R410, R509, R518). -/
def State.viewData (s : State) (d r : Nat) : Option Word :=
  let level (n w : Nat) : Option Word := some (putBits (s.rd d r) 0 w n)
  if r = CMBERR_MARK_SET then some (s.rd d CMBERR_MARK)
  else if r = CMBERR_FIFO_STAT then level (KMap.look s.cmb.fifo d).length 6
  else if r = MECC_FIFO_STAT then level (KMap.look s.mem.fifo d).length 6
  else if r = MECC_BLK then some (s.meccBlk d)
  else if r = ERR_LOG_STAT then level (KMap.look s.err.log d).length 5
  else if r = SCRUB_CTL then some (s.scrub d).ctl
  else if r = MIU_FIFO_STAT then level (KMap.look s.miu.fifo d).length 6
  else if r = MIU_STAT then some (putBits (s.rd d r) 1 1 (s.miuDirty d).toNat)
  else match arrAt r (DDR_FIFO_STAT 0) 0x10000 4 with
    | some c => level (KMap.look s.ddr.fifo (d * 4 + c)).length 6
    | none => (arrAt r (RECORD_DIR_W 0) 4 8).map (fun n =>
        (KMap.look (if d = 0 then s.rec_.dir else s.rec_.mirror) (s.f d RECORD_DIR_IDX_index)).word n)

/-! ### Cores -/

/-- An event register of die d shows a routed event. -/
def State.routed (s : State) (d evt en : Nat) : Bool := decide (s.rd d evt &&& s.rd d en ≠ 0)

/-- The pages that route to the core interrupt of their die (R482): the Hawkmoth, the ION memory agent, or a Skipper. -/
def State.dieBlocks (s : State) (d : Nat) : Bool :=
  s.routed d TICK_EVT TICK_EVTEN || s.routed d NOC_EVT NOC_EVTEN || s.routed d PROBES_SCH_EVT PROBES_SCH_EVTEN ||
  s.routed d CORUG_EVT CORUG_EVTEN || s.routed d SPARE_EVT SPARE_EVTEN || s.routed d CLK_EVT CLK_EVTEN ||
  s.routed d PWR_EVT PWR_EVTEN || s.routed d ERR_SRC ERR_SRCEN || (decide (d < 2) && s.routed d GPIO_EVT GPIO_EVTEN)

/-- The pages that route to the Hawkmoth (R482), with the events of every core of a die whose status link is not fenced (R485). -/
def State.hawkBlocks (s : State) : Bool :=
  s.routed 0 UCIE_EVT UCIE_EVTEN || s.routed 0 PCIE_EVT PCIE_EVTEN || s.routed 0 ITA_EVT ITA_EVTEN || s.routed 0 CFG_EVT CFG_EVTEN ||
  s.routed 0 NVM_EVT NVM_EVTEN || s.routed 0 JOURNAL_EVT JOURNAL_EVTEN || s.routed 0 CMD_EVT CMD_EVTEN ||
  s.routed 0 KEYS_EVT KEYS_EVTEN || s.routed 0 DBG_EVT DBG_EVTEN || s.routed 0 BIST_EVT BIST_EVTEN || s.routed 0 ERR_DIES ERR_DIESEN ||
  allCores.any (fun c => !s.dieFenced (coreDie c) && s.routed (coreDie c) (CORE_EVT (coreSlot c)) (CORE_EVTEN (coreSlot c)))

/-- The quads that route to the lane agent of I/O die d. -/
def State.laneBlocks (s : State) (d : Nat) : Bool := (List.range 21).any (fun q => s.routed d (LQ_EVT q) (LQ_EVTEN q))

/-- The pages that route to the memory agent of I/O die d. -/
def State.memBlocks (s : State) (d : Nat) : Bool :=
  [0, 1, 2, 3].any (fun c => s.routed d (DDR_EVT c) (DDR_EVTEN c)) || s.routed d MIU_EVT MIU_EVTEN || s.routed d RECORD_EVT RECORD_EVTEN

/-- The pages that route to the Skipper of fabric die d. -/
def State.skipBlocks (s : State) (d : Nat) : Bool :=
  s.routed d REGIONS_EVT REGIONS_EVTEN || s.routed d CMBERR_EVT CMBERR_EVTEN || s.routed d MECC_EVT MECC_EVTEN ||
  s.routed d SCRUB_EVT SCRUB_EVTEN

/-- A routed block event is pending at core c (R482, `CORE_IRQ_PEND.blocks`). -/
def State.coreBlocks (s : State) (c : Nat) : Bool :=
  match c with
  | 0 => s.dieBlocks 0 || s.hawkBlocks
  | 1 => s.laneBlocks 0
  | 2 => s.memBlocks 0
  | 3 => s.laneBlocks 1
  | 4 => s.dieBlocks 1 || s.memBlocks 1
  | _ => s.dieBlocks (coreDie c) || s.skipBlocks (coreDie c)

/-- The core page and the DEBUG page of core c in slot k (R485, R597). -/
def State.viewCore (s : State) (d k r : Nat) : Option Word :=
  let c := coreNum d k
  if r = CORE_IRQ_PEND k then
    some (putBits (s.rd d r) 0 3 (packBits [(0, (!(s.mailbox c).isEmpty).toNat), (1, (s.coreBlocks c).toNat),
      (2, (s.kOn c CORE_EVT_bus_err).toNat)]).toNat)
  else if r = CORE_MB_STAT k then some (BitVec.ofNat 32 (s.mailbox c).length)
  else if r = CORE_WDOG_CNT k then some (BitVec.ofNat 32 (s.wdogLeft c))
  else if r = DBG_C_STAT k then
    some (if s.kf c CORE_STAT_state = 0 ∨ s.kf c CORE_STAT_state = 3 then putBits (s.rd d r) 0 2 3 else s.rd d r)
  else none

/-- The REGIONS page: the running and the failed regions (R117). -/
def State.viewRegions (s : State) (d r : Nat) : Option Word :=
  let mask (st : Nat) : Nat := (List.range 24).foldl (fun a i => if s.regionState d i = st then a + 2 ^ i else a) 0
  if r = REGIONS_RUN then some (BitVec.ofNat 32 (mask 5))
  else if r = REGIONS_FAIL then some (BitVec.ofNat 32 (mask 6))
  else none

/-- The value that a register of die d shows, without its read's effects. -/
def State.view (s : State) (d r : Nat) : Word :=
  let x := match r / 0x10000 with
    | 0x00 => s.viewSys d r
    | 0x01 => s.viewTick d r
    | 0x04 => if r = GPIO_TRIG_STAT then some s.trigStat else none
    | 0x06 => s.viewPlan r
    | 0x07 => s.viewPlan r
    | 0x08 => s.viewPlan r
    | 0x09 => s.viewPlan r
    | 0x0A => s.viewCore d ((r % 0x10000 - 0x100) / 0x40) r
    | 0x28 => s.viewIta r
    | 0x44 => if r = LQ_STAT 20 then some (putBits (s.rd d r) 2 1 1) else none
    | 0x58 => s.viewNoc d r
    | 0x60 => s.viewSched d r
    | 0x68 => s.viewCorug d r
    | 0x80 => s.viewCore d (r % 0x10000 / 0x4000) r
    | 0x90 => s.viewRegions d r
    | _ => s.viewData d r
  match x with
  | some w => w
  | none => s.rd d r

/-! ### Pairs (R7) -/

/-- The low words of the 64-bit pairs: first place, step between them, how many (R7). -/
def lowWords : List (Nat × Nat × Nat) :=
  [(TICK_AT_LO, 4, 1), (TICK_NUM_LO, 4, 1), (TICK_BND_LO, 4, 1), (TICK_NOW_LO, 4, 1), (TICK_OVR_TICK_LO, 4, 1), (SYS_UID_LO, 4, 1),
   (GPIO_TMR_CAP_LO 0, 0x10, 8), (GPIO_TRIG_TS_LO 0, 0x20, 8), (JOURNAL_REL_LO, 4, 1), (CMD_LAST_LO, 4, 1), (CMD_CKPT_LO, 4, 1),
   (KEYS_FILLED_LO, 4, 1), (KEYS_CKPT_LO, 4, 1), (DBG_BM_ADDR_LO, 4, 1), (DBG_GEXP_LO, 4, 1), (MIU_REC_ADDR_LO, 4, 1), (MIU_SLOT_LO, 4, 1),
   (RECORD_QTRUST_LO, 4, 1), (PCIE_Q_BASE_LO 0, 0x20, 32), (PROBES_SCH_AT_LO, 4, 1), (PROBES_P_ALO_LO 0, 0x80, 16),
   (PROBES_P_AHI_LO 0, 0x80, 16), (PROBES_P_BUF_LO 0, 0x80, 16), (PROBES_P_TTICK_LO 0, 0x80, 16), (PROBES_P_HCNT_LO 0, 0x80, 16),
   (PROBES_P_FCNT_LO 0, 0x80, 16), (PROBES_ST_RDB_LO, 4, 1), (PROBES_ST_WRB_LO, 4, 1), (PROBES_ST_LATSUM_LO, 4, 1),
   (PROBES_ST_SINCE_LO, 4, 1), (CORE_MTIMECMP_LO 0, 0x4000, 3), (UCIE_WIN_BASE_LO 0, 0x10, 4), (UCIE_WIN_LIM_LO 0, 0x10, 4)]

/-- Place r is the low word of a pair. -/
def isLow (r : Nat) : Bool :=
  lowWords.any (fun x => (arrAt r x.1 x.2.1 x.2.2).isSome) ||
    (decide (0x30 ≤ r / 0x10000) && decide (r / 0x10000 < 0x45) && (arrAt (r % 0x10000) 0x11C 0x40 4).isSome)

/-- The key of an initiator's holding copy for a place of die d. -/
def holdKey (i : Init) (d r : Nat) : Nat := i.toNat * 2 ^ 28 + d * 2 ^ 24 + r

/-- Hold a copy of what a place shows. -/
def holdCopy (i : Init) (d r : Nat) (s : State) : State :=
  { s with hold := KMap.put s.hold (holdKey i d r) (some (s.view d r)) }

/-- A read of place r by an initiator: a held copy is given once; a low word captures the high word, and the tick number captures the count of
its boundary with it (R7, R82). -/
def pairRead (i : Init) (d r : Nat) (s : State) : State × Word :=
  let k := holdKey i d r
  let w := match KMap.look s.hold k with | some w => w | none => s.view d r
  let s := { s with hold := KMap.put s.hold k none }
  if r = TICK_NUM_LO then (holdCopy i d TICK_BND_HI (holdCopy i d TICK_BND_LO (holdCopy i d TICK_NUM_HI s)), w)
  else if isLow r ∧ !(decide (r = TICK_BND_LO) && (KMap.look s.hold (holdKey i d TICK_BND_HI)).isSome) then (holdCopy i d (r + 4) s, w)
  else (s, w)

end Sys2Proof.Machine
end

