-- ==== Sys2Proof/Machine/Control.lean ====
section
/-! DEFINITION. The control space of a die (R6 to R12, R36): what a write of a register does, page by page, and what a read gives and does. A
register of a page that has a command of its own is written by that command's operation. -/

namespace Sys2Proof.Machine

/-- Who makes an access and with what: initiator, key index, debug attribute, and what the outside supplies. -/
structure Acc where
  i : Init
  key : Nat
  dbg : Bool
  env : CtlEnv

/-- A write that only some initiators may make: the others' are ignored and set an event bit. -/
def guarded (ok : Bool) (d : Nat) (x : Fld) (f : Option (State → State)) (s : State) : Option State :=
  if ok then f.map (fun f => f s) else some (s.evt d x)

/-- A write goes on to the register by its access codes. -/
def plain : Option (State → State) := none

/-! ### Pages 0x01 to 0x0B -/

/-- The TICK page (R69, R70, R82). -/
def writeTick (d r : Nat) (v : Word) (s : State) : Option State :=
  if r = TICK_ARM then
    some (if v.getLsbD 0 then tickArm (v.getLsbD 1) s else if v.getLsbD 1 then tickCancel s else s)
  else if r = TICK_EVTEN ∧ d ≠ 0 then some (s.wr d r (v &&& 0x3F))
  else none

/-- The CLK page (R537, R538, R550). -/
def writeClk (a : Acc) (d r : Nat) (v : Word) (s : State) : Option State :=
  if r = CLK_GATE then some (gateWrite a.i d v s)
  else if r = CLK_EVTEN ∧ d ≠ 0 then some (s.wr d r (v &&& 0xB))
  else (arrAt r (CLK_FM_N 0) 0x10 16).map (fun m => meterStart m v s)

/-- The PWR page (R551). -/
def writePwr (a : Acc) (d r : Nat) (s : State) : Option State :=
  if r = PWR_CAP ∨ r = PWR_PKG_CAP ∨ r = THERM_CFG then guarded (isHawkmoth a.i || isSkipperOf a.i d) d PWR_EVT_refused plain s
  else none

/-- The GPIO page: the core that owns the die's port writes it (R557). -/
def writeGpio (a : Acc) (d r : Nat) (v : Word) (s : State) : Option State :=
  match arrAt r (GPIO_P_CFG 0) 8 64, arrAt r (GPIO_TRIG_OWN 0) 0x20 8, arrAt r (GPIO_TRIG_CTRL 0) 0x20 8 with
  | some j, _, _ => some (gpioFuncWrite a.i d j v s)
  | _, some l, _ => some (trigOwnWrite a.i l v s)
  | _, _, some l => some (trigDriveWrite a.i l v s)
  | none, none, none => guarded (portOwner d a.i) d GPIO_EVT_refused plain s

/-- The NVM page (R437). -/
def writeNvm (a : Acc) (r : Nat) (v : Word) (s : State) : Option State :=
  if r = NVM_CMD then
    guarded (isHawkmoth a.i) 0 NVM_EVT_refused
      (some (fun s => if bitsOf v 0 2 = 0 then s else nvmStart (bitsOf v 0 2) (v.getLsbD 2) a.i s)) s
  else if r = NVM_ADDR ∨ r = NVM_LEN ∨ r = NVM_BUF ∨ r = NVM_CFG then guarded (isHawkmoth a.i) 0 NVM_EVT_refused plain s
  else none

/-- The CFG page: staging (R431, R434). -/
def writeCfg (a : Acc) (r : Nat) (v : Word) (s : State) : Option State :=
  if r = CFG_STG_CTRL then
    some (if v.getLsbD 2 then stagingAbort a.i s
      else if v.getLsbD 0 then stagingPush a.i (v.getLsbD 1) (bitsOf v 16 15) a.env.freed0 a.env.freed1 s
      else if mayStage a.i then s else stageRefuse s)
  else match arrAt r (CFG_STG_H0 0) 4 4096 with
    | some k => some (stageWrite a.i false k v (freeHalves a.env.freed0 a.env.freed1 s))
    | none => (arrAt r (CFG_STG_H1 0) 4 4096).map (fun k => stageWrite a.i true k v (freeHalves a.env.freed0 a.env.freed1 s))

/-- The JOURNAL page (R465). -/
def writeJournal (a : Acc) (r : Nat) (s : State) : Option State :=
  if r = JOURNAL_RETRY ∨ r = JOURNAL_WG_LIMIT ∨ (arrAt r (JOURNAL_WG_RSTEP 0) 4 48).isSome then
    guarded (isHawkmoth a.i) 0 JOURNAL_EVT_refused plain s
  else none

/-- The CMD and KEYS pages (R487, R506). -/
def writeKeys (a : Acc) (r : Nat) (v : Word) (s : State) : Option State :=
  if r = CMD_HSUBMIT then some (hsubmit a.i v s)
  else if r = KEYS_PROV_SEL then some (provSel a.i v s)
  else if r = KEYS_PROV_DATA then some (provData a.i v s)
  else if r = KEYS_PROV_CMD then
    some (if v.getLsbD 0 then provBurn a.i s else if s.mayProvision a.i then s else s.evt 0 KEYS_EVT_refused)
  else (arrAt r (CMD_HBUF 0) 4 24).map (fun k => hbufWrite a.i k v s)

/-- A register of core slot k of a DEBUG page, at offset o of the slot (R571, R575 to R584). -/
def writeSlot (a : Acc) (d k o : Nat) (v hw : Word) (s : State) : State :=
  let c := coreNum d k
  if o = 0x00 then dbgRight a.i c (fun s => s.wr d (DBG_C_CTRL k) (v &&& 7)) s
  else if o = 0x04 then dbgRight a.i c (coreCommand c v a.env.out a.env.dpc) s
  else if o = 0x0C then dbgOnly a.i (fun s => if s.coreHalted c then setDpc c v s else s) s
  else if o = 0x10 then dbgRight a.i c (feedCore c v a.env.out) s
  else if o = 0x14 then dbgOnly a.i (fun s => s.wr d (DBG_C_DATA k) v) s
  else if o = 0x1C then dbgOnly a.i (drxWrite c v) s
  else if o = 0x20 then dbgOnly a.i (termAck c v hw) s
  else if o = 0x24 then dbgOnly a.i (fun s => s.wr d (DBG_C_MADDR k) ((v &&& 0xFFFFC) ||| (s.rd d (DBG_C_MADDR k) &&& 0x100000))) s
  else if o = 0x28 then dbgOnly a.i (mdataWrite c v) s
  else dbgOnly a.i id s

/-- The DEBUG page beyond its access registers, which only the paths reach (R569, R571, R581). -/
def writeDebug (a : Acc) (d r : Nat) (v hw : Word) (s : State) : Option State :=
  let o := r % 0x10000
  if o < 0x100 then some (dbgRefuse s)
  else if o < 0x400 then some (writeSlot a d ((o - 0x100) / 0x40) (o % 0x40) v hw s)
  else if isDebugMaster a.i ∧ s.coreRight 0 then none
  else some (dbgRefuse s)

/-- The BIST page (R590, R598). -/
def writeBist (a : Acc) (r : Nat) (v : Word) (s : State) : Option State :=
  if r = BIST_CTRL then
    let s := s.when (v.getLsbD 0) (bistStart a.i)
    some (s.when (v.getLsbD 1) bistAbort)
  else if r = BIST_CFG ∧ !(isHawkmoth a.i || isDebugMaster a.i) then some s
  else none

/-! ### Pages 0x10 to 0x50 -/

/-- The DDR pages (R344, R347, R362). -/
def writeDdr (a : Acc) (d r : Nat) (v : Word) (s : State) : Option State :=
  let k := (r - 0x100000) / 0x10000
  if r = DDR_CMD k then some (if bitsOf v 0 2 = 1 then ddrRetrain a.i (d * 4 + k) s else s)
  else if r = DDR_SET_COMMIT then
    if v.getLsbD 0 then some (setCommit a.i s) else guarded (isHawkmoth a.i) 0 (DDR_EVT_refused 0) (some id) s
  else if DDR_REF_CTRL ≤ r ∧ r < DDR_SET_COMMIT then guarded (isHawkmoth a.i) 0 (DDR_EVT_refused 0) plain s
  else none

/-- The MIU page (R367, R368, R385). -/
def writeMiu (a : Acc) (r : Nat) (v : Word) (s : State) : Option State :=
  if r = MIU_CMD then
    let n := bitsOf v 0 4
    match bitsOf v 4 2 with
    | 1 => some (miuEnable a.i n s)
    | 2 => some (miuDisable a.i n s)
    | _ => guarded (isHawkmoth a.i) 0 MIU_EVT_refused (some id) s
  else if 0x180100 ≤ r ∧ r < 0x180200 then
    if !isHawkmoth a.i then some (s.evt 0 MIU_EVT_refused)
    else if s.f 0 (MIU_R_STAT_state ((r - 0x180100) / 0x10)) ≠ 0 then some s
    else none
  else none

/-- The RECORD page (R394, R401, R407, R410). -/
def writeRecPage (a : Acc) (d r : Nat) (v : Word) (s : State) : Option State :=
  if r = RECORD_QTRUST_LO ∨ r = RECORD_QTRUST_HI then guarded (recOwner a.i d) d RECORD_EVT_refused plain s
  else if r = RECORD_DIR_W 0 then some (if d = 0 then { s with rec_ := { s.rec_ with stage0 := v } } else s)
  else if r = RECORD_DIR_W 1 then some (if d = 0 then { s with rec_ := { s.rec_ with stage1 := v } } else s)
  else if r = RECORD_DIR_CMD then
    match bitsOf v 0 2 with
    | 1 => some (dirOp a.i dirDefine s)
    | 2 => some (dirOp a.i dirRelease s)
    | 3 => some (dirOp a.i dirEmpty s)
    | _ => guarded (dirOwner a.i) 0 RECORD_EVT_refused (some id) s
  else if 0x208000 ≤ r then
    let k := (r - 0x208000) / 0x100
    if r = RECORD_QS_CTRL k then
      let s := s.when (v.getLsbD 0) (queryGo d k a.key)
      let s := s.when (v.getLsbD 1) (queryCancel d k a.env.units)
      some (s.when (v.getLsbD 2) (queryClear d k))
    else if s.querySt d k = 1 ∨ s.querySt d k = 2 then some s
    else none
  else (arrAt r (RECORD_P_SEG 0) 0x20 16).map (fun p => recSeg a.i d p (bitsOf v 0 16) (v.getLsbD 31) s)

/-- The ITASTEA page (R326, R330, R337). -/
def writeIta (a : Acc) (r : Nat) (v : Word) (s : State) : Option State :=
  let key := s.f 0 ITA_ERT_IDX_index
  let e := (KMap.look s.ita.ert key).toNat
  let put (n : Nat) : Option State := some { s with ita := { s.ita with ert := KMap.put s.ita.ert key (BitVec.ofNat 64 n) } }
  if r = ITA_CMD then
    let p := bitsOf v 3 3
    match bitsOf v 0 3 with
    | 1 => some (itaOp 1 a.i p (portDownOp p) s)
    | 2 => some (itaOp 2 a.i p (portRetrain p) s)
    | 3 => some (itaOp 3 a.i p rejoin s)
    | 4 => some (itaOp 4 a.i p (rehome p) s)
    | _ => guarded (isHawkmoth a.i) 0 ITA_EVT_refused (some id) s
  else if r = ITA_KEY ∨ (arrAt r (ITA_P_CHILD 0) 0x40 4).isSome then guarded (isHawkmoth a.i) 0 ITA_EVT_refused plain s
  else if r = ITA_EVSEND then some (evSend v a.env.drained s)
  else if r = ITA_ERT_W0 then put (e / 2 ^ 32 * 2 ^ 32 + v.toNat)
  else if r = ITA_ERT_W1 then put (v.toNat * 2 ^ 32 + e % 2 ^ 32)
  else none

/-- The page of a lane quad: the lane agent of the die and the Hawkmoth write it (R268, R272, R297). -/
def writeLanes (a : Acc) (d r : Nat) (v : Word) (s : State) : Option State :=
  let q := (r - 0x300000) / 0x10000
  if !mayLane a.i d then some (laneRefuse d q s)
  else if r = LQ_PLLA q then some (lanePllWrite a.i d q false v s)
  else if r = LQ_PLLB q then some (lanePllWrite a.i d q true v s)
  else if r = LQ_CMD q then
    let n := bitsOf v 0 2
    match bitsOf v 2 2 with
    | 0 => some s
    | 2 => some (laneOp a.i d q n (laneStop d) s)
    | _ => some (laneOp a.i d q n (laneStart d) s)
  else none

/-- A word of the MSI-X table; a vector that is unmasked while its pending bit is set is sent (R289, R296). -/
def writeMsix (k : Nat) (v : Word) (s : State) : State :=
  let s := s.wr 0 (PCIE_MSIX_TBL k) v
  let n := k / 4
  let b : Fld := ⟨PCIE_MSIX_PBA (n / 32), n % 32, 1⟩
  if k % 4 = 3 ∧ !v.getLsbD 0 ∧ s.on 0 b ∧ s.on 0 PCIE_STAT_up then raiseMsix n (s.setF 0 b 0) else s

/-- The PCIE page (R295, R296, R298). -/
def writePcie (a : Acc) (r : Nat) (v : Word) (s : State) : Option State :=
  if r = PCIE_BAR2 ∨ r = PCIE_KEYS ∨ (arrAt r (PCIE_Q_KEY 0) 0x20 32).isSome then
    guarded (isHawkmoth a.i) 0 PCIE_EVT_refused plain s
  else match arrAt r (PCIE_Q_CTRL 0) 0x20 32, arrAt r (PCIE_Q_TAIL 0) 0x20 32 with
    | some q, _ =>
      some (if v.getLsbD 0 then dmaEnable q v s
        else dmaDisable q a.env.started ((s.setF 0 (PCIE_Q_CTRL_ring q) (bitsOf v 1 5)).setF 0 (PCIE_Q_CTRL_vector q) (bitsOf v 6 6)))
    | _, some q => some (dmaTail q (BitVec.ofNat 16 v.toNat) s)
    | none, none => (arrAt r (PCIE_MSIX_TBL 0) 4 256).map (fun k => writeMsix k v s)

/-! ### Pages 0x60 to 0x88 -/

/-- A word of a reservation bank: only of the shadow, and only while it is unlocked (R225). -/
def writeShadow (d : Nat) (f : State → State) (s : State) : State :=
  if s.f d PROBES_SCH_IDX_bank = s.activeBank d ∨ s.on d PROBES_SCH_STATE_locked then s.evt d PROBES_SCH_EVT_locked_write else f s

/-- Change the header of the selected bank. -/
def setBankHdr (d : Nat) (f : Nat × Nat × Nat → Nat × Nat × Nat) (s : State) : State :=
  { s with sch := { s.sch with hdr := KMap.put s.sch.hdr (s.selBank d) (f (KMap.look s.sch.hdr (s.selBank d))) } }

/-- Change word n of the selected entry. -/
def setBankWord (d n : Nat) (v : Word) (s : State) : State :=
  let k := s.selEntry d
  let x := (KMap.look s.sch.entry k).toNat
  { s with sch := { s.sch with entry := KMap.put s.sch.entry k (BitVec.ofNat 128
      (x / 2 ^ (32 * n + 32) * 2 ^ (32 * n + 32) + v.toNat * 2 ^ (32 * n) + x % 2 ^ (32 * n))) } }

/-- A register of a probe: while it is enabled only enable and the force register act (R232, R234). -/
def writeProbe (a : Acc) (d p o : Nat) (v : Word) (s : State) : Option State :=
  let on := s.on d (PROBES_P_CTRL_enable p)
  if o = 0x00 then
    if on then some (if v.getLsbD 0 then s else probeDisable d p s)
    else if v.getLsbD 0 then some (probeEnable d p v a.env.declared s)
    else none
  else if o = 0x08 then
    let s := s.when (v.getLsbD 0) (probeTrigger d p)
    some (s.when (v.getLsbD 1) (probeStop d p))
  else if on then some s
  else none

/-- The PROBES page (R220, R225, R232, R234, R237). -/
def writeProbes (a : Acc) (d r : Nat) (v : Word) (s : State) : Option State :=
  if r = PROBES_SCH_EVTEN ∧ d ≠ 0 then some (s.wr d r (v &&& 0x3D))
  else if r = PROBES_SCH_HDR_P then some (writeShadow d (setBankHdr d (fun h => (bitsOf v 0 25, h.2.1, h.2.2))) s)
  else if r = PROBES_SCH_HDR_Q then some (writeShadow d (setBankHdr d (fun h => (h.1, bitsOf v 0 25, h.2.2))) s)
  else if r = PROBES_SCH_CRC then some (writeShadow d (setBankHdr d (fun h => (h.1, h.2.1, v.toNat))) s)
  else if r = PROBES_SCH_SWAP then
    some (if v.getLsbD 0 then swapArm (v.getLsbD 1) s else if v.getLsbD 1 then swapCancel s else s)
  else if r = PROBES_ST_CMD then some (statCmd d (v.getLsbD 0) (v.getLsbD 1) (v.getLsbD 3) (v.getLsbD 2) s)
  else if 0x600100 ≤ r ∧ r < 0x600900 then writeProbe a d ((r - 0x600100) / 0x80) ((r - 0x600100) % 0x80) v s
  else (arrAt r (PROBES_SCH_ENT 0) 4 4).map (fun n => writeShadow d (setBankWord d n v) s)

/-- The CORUG page (R256, R265). -/
def writeCorug (a : Acc) (d r : Nat) (v : Word) (s : State) : Option State :=
  if r = CORUG_CMD then
    let e := bitsOf v 3 2
    let m := 8 * e + bitsOf v 5 3
    let ch := bitsOf v 8 1
    match bitsOf v 0 3 with
    | 1 => some (corugOp 1 a.i d e 0 0 (trainStart d e) s)
    | 2 => some (corugOp 2 a.i d e 0 0 (unfenceEdge d e) s)
    | 3 => some (corugOp 3 a.i d e m ch (fun s => matchChannel d m ch 0 (matchChannel d m ch 1 s)) s)
    | _ => some (if isHawkmoth a.i then s else (s.setF d CORUG_CMDSTAT_reason 1).evt d CORUG_EVT_cmd_refused)
  else if r = CORUG_CFG ∧ !isHawkmoth a.i then some (s.setF d CORUG_CMDSTAT_reason 1)
  else none

/-- The ERR page (R517, R527). -/
def writeErr (a : Acc) (d r : Nat) (v : Word) (s : State) : Option State :=
  if r = ERR_CMD then some (if bitsOf v 0 2 = 1 then errFail a.i d (bitsOf v 2 5) s else s)
  else if (r = ERR_NOTIFY ∨ r = SCRUB_MASTER) ∧ !isHawkmoth a.i then some s
  else none

/-- The CMBERR and MECC pages (R147, R179). -/
def writeMecc (d r : Nat) (v hw : Word) (s : State) : Option State :=
  if r = CMBERR_MARK_SET then some (s.wr d CMBERR_MARK (s.rd d CMBERR_MARK ||| ((v ||| hw) &&& 0xFFFFFF)))
  else if r = MECC_INJ then some (meccInjWrite (Fin.ofNat 8 (d - 2)) v s)
  else if r = MECC_BLK then
    let b := s.selBlk d
    if !b.exists then some s
    else
      let x := s.blk b
      some (s.setBlk b { x with ceSeen := (x.ceSeen && !v.getLsbD 4) || hw.getLsbD 4, ueSeen := (x.ueSeen && !v.getLsbD 5) || hw.getLsbD 5 })
  else none

/-- A write of `CORE_MTIMECMP`: the timer interrupt is pending while mtime is not below it (R482). -/
def timerWrite (c r : Nat) (v : Word) (s : State) : State :=
  let d := coreDie c
  let s := s.wr d r v
  let k := coreSlot c
  let on := KMap.look s.core.mtip c && decide (s.rd64 d (CORE_MTIMECMP_LO k) (CORE_MTIMECMP_HI k) ≤ s.time.count)
  { s with core := { s.core with mtip := KMap.put s.core.mtip c on } }

/-- The core page of core c in slot k (R472 to R481, R485). -/
def writeCore (a : Acc) (k r : Nat) (c : Nat) (v : Word) (s : State) : Option State :=
  let refused := CORE_EVT_refused (coreSlot c)
  let hawk := isHawkmoth a.i
  if r = CORE_CTRL k then some (coreCtrl a.i c (v.getLsbD 0) s)
  else if r = CORE_KEY k then guarded hawk (coreDie c) refused plain s
  else if r = CORE_WIN0 k ∨ r = CORE_WIN1 k then guarded (hawk || decide (a.i.toNat = coreInit c)) (coreDie c) refused plain s
  else if r = CORE_WDOG_CFG k then some (wdogWrite c v s)
  else if r = CORE_WDOG_KICK k then some (wdogKick c v s)
  else if r = CORE_MTIMECMP_LO k ∨ r = CORE_MTIMECMP_HI k then some (timerWrite c r v s)
  else if r = CORE_LOAD then some (coreLoad a.i (bitsOf v 0 4) s)
  else if r = CORE_HB_KICK then some (heartbeatKick a.i s)
  else if r = CORE_HOSTDB then some (hostDoorbell a.i v s)
  else if r = CORE_SAFE then guarded hawk 0 (CORE_EVT_refused 0) plain s
  else none

/-- The UCIE page (R264, R266). -/
def writeUcie (a : Acc) (r : Nat) (v : Word) (s : State) : Option State :=
  if r = UCIE_CMD then
    let s := s.when (v.getLsbD 0) (ucieAdmit a.i)
    some (s.when (v.getLsbD 1 && isHawkmoth a.i) ucieLost)
  else if r = UCIE_CTRL then (if isHawkmoth a.i then none else some s)
  else if UCIE_WIN_BASE_LO 0 ≤ r then (if isHawkmoth a.i ∧ s.ucie ≠ uAdmitted then none else some s)
  else none

/-! ### A write -/

/-- Store a register by its access codes (R10): RW bits take the value, W1C bits written 1 clear, W1S bits written 1 set; what a hardware
event of the same cycle sets ends set (R12). -/
def storeReg (d r : Nat) (v hw : Word) (s : State) : State :=
  match regRow d r with
  | none => s
  | some x =>
    let rw := BitVec.ofNat 32 x.rw
    let c := BitVec.ofNat 32 x.w1c
    let w := BitVec.ofNat 32 x.w1s
    let old := s.rd d r
    s.wr d r (((((old &&& ~~~rw) ||| (v &&& rw)) &&& ~~~(v &&& c)) ||| (v &&& w)) ||| (hw &&& (c ||| w)))

/-- What the page of a register makes of a write: none where the register takes it by its access codes. -/
def writePage (a : Acc) (d r : Nat) (v hw : Word) (s : State) : Option State :=
  match r / 0x10000 with
  | 0x01 => writeTick d r v s
  | 0x02 => writeClk a d r v s
  | 0x03 => writePwr a d r s
  | 0x04 => writeGpio a d r v s
  | 0x05 => writeNvm a r v s
  | 0x06 => writeCfg a r v s
  | 0x07 => writeJournal a r s
  | 0x08 => writeKeys a r v s
  | 0x09 => writeKeys a r v s
  | 0x0A => writeDebug a d r v hw s
  | 0x0B => writeBist a r v s
  | 0x10 => writeDdr a d r v s
  | 0x11 => writeDdr a d r v s
  | 0x12 => writeDdr a d r v s
  | 0x13 => writeDdr a d r v s
  | 0x18 => writeMiu a r v s
  | 0x20 => writeRecPage a d r v s
  | 0x28 => writeIta a r v s
  | 0x50 => writePcie a r v s
  | 0x60 => writeProbes a d r v s
  | 0x68 => writeCorug a d r v s
  | 0x70 => writeErr a d r v s
  | 0x74 => writeMecc d r v hw s
  | 0x76 => writeMecc d r v hw s
  | 0x80 => writeCore a (r % 0x10000 / 0x4000) r (coreNum d (r % 0x10000 / 0x4000)) v s
  | 0x88 => writeUcie a r v s
  | p => if 0x30 ≤ p ∧ p < 0x45 then writeLanes a d r v s else none

/-- The word of a core's shared buffer that a place names: core and word of its data SRAM (R470). -/
def sharedWord (d r : Nat) : Option (Nat × Nat) :=
  let k := r % 0x10000 / 0x4000
  if r / 0x10000 = 0x80 ∧ 0x2000 ≤ r % 0x4000 ∧ r % 0x4000 < 0x3000 ∧ (regRow d (CORE_ID k)).isSome then
    let c := coreNum d k
    some (c, (sramSize c - 0x1000) / 4 + r % 0x1000 / 4)
  else none

/-- Write a word to a place of die d: none where a full mailbox gives RETRY (R480). A place that no register occupies takes no effect (R8). -/
def ctlWrite (a : Acc) (d r : Nat) (v hw : Word) (s : State) : Option State :=
  match sharedWord d r with
  | some (c, k) => some (setSramWord c false k v true s)
  | none =>
    if (regRow d r).isNone then some s
    else
      let k := r % 0x10000 / 0x4000
      if r = CORE_MB_IN k then mailPush (coreNum d k) v a.i.toNat a.dbg s
      else match writePage a d r v hw s with
        | some t => some t
        | none => some (storeReg d r v hw s)

/-! ### A read -/

/-- The registers whose read pops a FIFO: the oldest record, and the FIFO without it unless the read only peeks (R11). -/
def popRead (peek : Bool) (d r : Nat) (s : State) : Option (State × Word) :=
  let fab : FabDie := Fin.ofNat 8 (d - 2)
  if r = ITA_HEV then some (hevPop peek s)
  else if r = MIU_REC_LO then some (miuPop d peek s)
  else if r = ERR_LOG_LO then some (errLogPop d peek s)
  else if r = CMBERR_REC_LO then some (cmbPop d peek s)
  else if r = MECC_REC_LO then some (meccPop fab peek s)
  else match arrAt r (DDR_REC_LO 0) 0x10000 4, arrAt r (CORE_MB_POP 0) 0x4000 3 with
    | some k, _ => some (ddrPop (d * 4 + k) peek s)
    | _, some k => some (mailPop (coreNum d k) peek s)
    | none, none => none

/-- What the read of an RC register leaves of it: the bits that an event of the same cycle puts in (R12). -/
def clearRead (d r : Nat) (hw : Word) (s : State) : State :=
  match regRow d r with
  | none => s
  | some x =>
    let rc := BitVec.ofNat 32 x.rc
    if x.rc = 0 then s
    else if r = NOC_RTR_SLACK ∨ r = NOC_RTR_OVR then
      match s.selRouter d with
      | none => s
      | some (x, y) =>
        let t := KMap.look s.rtr (x + 16 * y)
        let u : RouterSt := if r = NOC_RTR_SLACK then { t with slack := hw.toNat } else { t with ovr := hw.toNat }
        { s with rtr := KMap.put s.rtr (x + 16 * y) u }
    else s.wr d r ((s.rd d r &&& ~~~rc) ||| (hw &&& rc))

/-- Read a word of a place of die d, with its effect unless the read only peeks (R11): the state, the word, and the status. A place that no
register occupies reads 0 (R8). -/
def ctlRead (a : Acc) (peek : Bool) (d r : Nat) (hw : Word) (s : State) : State × Word × Nat :=
  match sharedWord d r with
  | some (c, k) =>
    let w := s.sramWord c false k
    let (s, ue) := sramTouch c false k a.env.err s
    if ue then (s, 0, 6) else (s, w, 0)
  | none =>
    if (regRow d r).isNone then (s, 0, 0)
    else match popRead peek d r s with
      | some (t, w) => (t, w, 0)
      | none =>
        match arrAt r (DBG_C_MDATA 0) 0x40 3 with
        | some k => let (t, w) := mdataRead (coreNum d k) a.env.err s; (t, w, 0)
        | none =>
          let s := s.when (decide (d = 0) && decide (r = CFG_STG_STAT)) (freeHalves a.env.freed0 a.env.freed1)
          let (s, w) := pairRead a.i d r s
          (if peek then s else clearRead d r hw s, w, 0)

/-- The status that an access to control space gets before the register: decode error, or access size (R6, R9). -/
def ctlStatus (d r bytes : Nat) : Nat :=
  if !pageExists d (r / 0x10000) then 1 else if bytes ≠ 4 ∨ r % 4 ≠ 0 then 2 else 0

end Sys2Proof.Machine
end

