-- ==== Sys2Proof/Machine/Access.lean ====
section
/-! DEFINITION. The debug bus master and its paths (21, R569 to R574), and an access to a register of a die's control space (R6 to R12). -/

namespace Sys2Proof.Machine

/-! ### Paths and ownership (R569, R570) -/

/-- The path of an initiator to the access registers: 2 the host, 3 an Itastea request on the upstream port, 0 none; JTAG is path 1. -/
def State.dbgPath (s : State) (i : Init) : Nat :=
  if isHost i then 2 else if s.hasUpPort ∧ i.toNat = bridgeInit s.upstream then 3 else 0

/-- A place is an access register of the IOS DEBUG page. -/
def isAccessReg (d r : Nat) : Bool := decide (d = 0) && decide (r / 0x10000 = 0x0A) && decide (r % 0x10000 < 0x2C)

/-- A write conflicts with the path that owns the master. -/
def dbgConflict (s : State) : State := s.evt 0 DBG_EVT_path_conflict

/-- A path writes the access registers: none may but the owner, while there is one (R570). -/
def dbgOwned (path : Nat) (f : State → State) (s : State) : State :=
  let o := s.f 0 DBG_OWN_owner
  if path = 0 then dbgRefuse s else if o ≠ 0 ∧ o ≠ path then dbgConflict s else f s

/-- A write of `DBG_OWN.claim` by a path. -/
def dbgClaim (path : Nat) (s : State) : State := dbgOwned path (fun s => s.setF 0 DBG_OWN_owner path) s

/-- A write of `DBG_OWN.release` by a path: the owner's ends its ownership. -/
def dbgRelease (path : Nat) (s : State) : State :=
  dbgOwned path (fun s => if s.f 0 DBG_OWN_owner = path then s.setF 0 DBG_OWN_owner 0 else s) s

/-- DBG_CLAIM (R570). -/
def execDbgClaim (path : DbgPath) (s : State) : Res := run (dbgClaim path.code) s

/-- DBG_RELEASE (R570). -/
def execDbgRelease (path : DbgPath) (s : State) : Res := run (dbgRelease path.code) s

/-! ### The master's accesses (R573, R585) -/

/-- `DBG_BM_ADDR`. -/
def State.bmAddr (s : State) : Nat := s.rd64 0 DBG_BM_ADDR_LO DBG_BM_ADDR_HI

/-- The die and place that a control-space address names (R15). -/
def ctlPlace (a : Nat) : Option (Nat × Nat) :=
  if ctlBase ≤ a ∧ a < ctlBase + 10 * 2 ^ 24 then some ((a - ctlBase) / 2 ^ 24, (a - ctlBase) % 2 ^ 24) else none

/-- The rights allow the master to write to an address (R573): the DEBUG pages; everything with the right; else only a block of the on-chip
window that the image opens to writes. -/
def State.mayBmWrite (s : State) (a : Nat) (opened : Bool) : Bool :=
  (match ctlPlace a with | some (_, r) => decide (r / 0x10000 = 0x0A) | none => false) || s.on 0 DBG_RIGHTS_bm_write ||
    (opened && decide (winBase ≤ a) && decide (a < winBase + 8 * 0x4000000))

/-- An access of the master has completed with a status; a read leaves its data (R573). -/
def bmPost (write : Bool) (status : Nat) (w : Word) (s : State) : State :=
  let s := { s with dbg := { s.dbg with bm := none, bmDone := none } }
  let s := s.setFs 0 [(DBG_BM_STAT_busy, 0), (DBG_BM_STAT_status, status)]
  if write then s else s.wr 0 DBG_BM_DATA w

/-- The pages of IOS that the safe state leaves to JTAG reads (R548). -/
def safePages : List Nat := [0x00, 0x02, 0x03, 0x07, 0x70]

/-- In the safe state the master reaches no mesh: it reads those pages of IOS, and in the factory hold reads and writes every page of IOS; any
other access is a decode error (R548, R574). -/
def bmDirect (a : Acc) (write consume : Bool) (s : State) : State :=
  match ctlPlace s.bmAddr with
  | some (0, r) =>
    if !(s.pwr.factory || (!write && safePages.contains (r / 0x10000))) then bmPost write 1 0 s
    else
      let st := ctlStatus 0 r 4
      if st ≠ 0 then bmPost write st 0 s
      else if write then
        match ctlWrite a 0 r (s.rd 0 DBG_BM_DATA) 0 s with
        | some t => bmPost true 0 0 t
        | none => bmPost true 0x0A 0 s
      else
        let (t, w, st) := ctlRead a (!consume) 0 r 0 s
        bmPost false st w t
  | _ => bmPost write 1 0 s

/-- The master's access starts (R573): a forbidden one completes with the access-blocked status and nothing else happens; another goes into the
mesh with queue 0, key index 0 and dbg (R569). -/
def bmStart (write consume : Bool) (env : CtlEnv) (s : State) : State :=
  if s.on 0 DBG_BM_STAT_busy then s
  else
    let a := s.bmAddr
    if write && !s.mayBmWrite a env.opened then s.setF 0 DBG_BM_STAT_status 0x0C
    else if s.pwr.safe then bmDirect ⟨0x004, 0, true, env⟩ write consume s
    else
      let s := { s with dbg := { s.dbg with bm := some (write, consume), bmDone := none } }
      let s := s.setFs 0 [(DBG_BM_STAT_busy, 1)]
      niIssue { src := 0x004, write := write, addr := BitVec.ofNat 48 a, count := 3, dbg := true,
                lines := if write then bytesLines a (bytesOf 4 (s.rd 0 DBG_BM_DATA).toNat) else [] } false s

/-- DBG_BM_READ (R585): `DBG_BM_CMD` written with read = 1. -/
def execDbgBmRead (path : DbgPath) (consume : Bool) (env : CtlEnv) (s : State) : Res :=
  run (dbgOwned path.code (bmStart false consume env)) s

/-- DBG_BM_WRITE (R573): `DBG_BM_CMD` written with write = 1. -/
def execDbgBmWrite (path : DbgPath) (env : CtlEnv) (s : State) : Res := run (dbgOwned path.code (bmStart true false env)) s

/-- DBG_BM_DONE: the answer of the outstanding access is there and is posted (R573). -/
def bmDone (s : State) : State :=
  match s.dbg.bm, s.dbg.bmDone with
  | some (write, _), some (st, w) => bmPost write st w s
  | _, _ => s

/-- DBG_BM_DONE (R573). -/
def execDbgBmDone (s : State) : Res := run bmDone s

/-! ### The access registers (R569, R597) -/

/-- A path writes place r of the access registers. -/
def accessWrite (path : Nat) (env : CtlEnv) (r : Nat) (v hw : Word) (s : State) : State :=
  if r = DBG_OWN then
    dbgOwned path (fun s =>
      let s := s.when (v.getLsbD 0) (dbgClaim path)
      s.when (v.getLsbD 1) (dbgRelease path)) s
  else if r = DBG_BM_CMD then
    dbgOwned path (fun s =>
      if v.getLsbD 0 = v.getLsbD 1 then s else bmStart (v.getLsbD 1) (v.getLsbD 2) env s) s
  else dbgOwned path (storeReg 0 r v hw) s

/-- A path reads place r of the access registers; from elsewhere the read is ignored (R569). -/
def accessRead (path : Nat) (i : Init) (r : Nat) (s : State) : State × Word :=
  if path = 0 then (dbgRefuse s, 0) else pairRead i 0 r s

/-! ### An access to control space -/

/-- A write as an initiator makes it: none for RETRY. -/
def regWrite (a : Acc) (d r : Nat) (v hw : Word) (s : State) : Option State :=
  if isAccessReg d r then some (accessWrite (s.dbgPath a.i) a.env r v hw s) else ctlWrite a d r v hw s

/-- A read as an initiator makes it. -/
def regRead (a : Acc) (peek : Bool) (d r : Nat) (hw : Word) (s : State) : State × Word × Nat :=
  if isAccessReg d r then let (t, w) := accessRead (s.dbgPath a.i) a.i r s; (t, w, 0) else ctlRead a peek d r hw s

/-- The access with its initiator. -/
def CtlAccess.acc (a : CtlAccess) : Acc := ⟨a.src, a.key.val, a.dbg, a.env⟩

/-- REGISTER_WRITE: a write at die d's control space (R6, R8, R9, R10). -/
def registerWrite (d : Nat) (a : CtlAccess) (s : State) : State :=
  let r := a.place.toNat
  if !s.live d then s
  else
    let st := ctlStatus d r a.bytes
    if st ≠ 0 then s.emit (.access st)
    else match regWrite a.acc d r a.data a.hw s with
      | some t => t.emit (.access 0)
      | none => s.emit .retry

/-- REGISTER_WRITE (R10). -/
def execRegisterWrite (d : Die) (a : CtlAccess) (s : State) : Res := run (registerWrite d.val a) s

/-- READ_CLEAR_REGISTER: a read at die d's control space; RC fields and FIFO pops keep their state on a debug read without consume (R6, R8,
R9, R11, R12). -/
def registerRead (d : Nat) (a : CtlAccess) (s : State) : State :=
  let r := a.place.toNat
  if !s.live d then s
  else
    let st := ctlStatus d r a.bytes
    if st ≠ 0 then (s.emit (.access st)).emit (.value 0)
    else
      let (t, w, st) := regRead a.acc (a.dbg && !a.consume) d r a.hw s
      (t.emit (.access st)).emit (.value w)

/-- READ_CLEAR_REGISTER (R12). -/
def execReadClearRegister (d : Die) (a : CtlAccess) (s : State) : Res := run (registerRead d.val a) s

/-! ### JTAG (R572, R574) -/

/-- DBGPATH takes an Update-DR: word 4k of the IOS DEBUG page is written or read by path 1, and the capture shows what came of it. A write
that the page ignores is refused. -/
def jtagUpdate (k : Nat) (write : Bool) (v : Word) (env : CtlEnv) (s : State) : State :=
  let r := 0x0A0000 + 4 * k
  let put (w : Word) (refused : Bool) (s : State) : State := { s with dbg := { s.dbg with jtag := (w, true, refused) } }
  if write then
    let o := s.f 0 DBG_OWN_owner
    let bad := decide (o ≠ 0 ∧ o ≠ 1)
    let w := s.dbg.jtag.1
    if isAccessReg 0 r then put w bad (accessWrite 1 env r v 0 s) else put w false s
  else if isAccessReg 0 r then
    let (t, w) := accessRead 1 0x004 r s
    put w false t
  else put 0 false s

/-- JTAG_DBGPATH_UPDATE (R572): the shifted bits, the word select in [5:0], write in [6], data in [38:7]. -/
def execJtagDbgpathUpdate (dr : BitVec 48) (env : CtlEnv) (s : State) : Res :=
  run (fun s => if s.pwr.railsGood then
    jtagUpdate (nbits dr.toNat 0 6) (dr.getLsbD 6) (BitVec.ofNat 32 (nbits dr.toNat 7 32)) env s else s) s

end Sys2Proof.Machine
end

