-- ==== Sys2Proof/Machine/Boundary.lean ====
section
/-! DEFINITION. The tick boundary and the quiet window (02): what the whole device does at each (R51 to R59, R71, R102, R461). -/

namespace Sys2Proof.Machine

/-! ### The time -/

/-- The time moves on to the next boundary, and a change that takes effect there is pending no longer (R51, R71). -/
def nextTick (s : State) : State :=
  let due := s.dueChange.isSome
  let s := { s with time := s.nextTime }
  if due then { s with tick := { s.tick with pend := none } }.setF 0 TICK_ARMSTAT_pending 0 else s

/-- Every core of a die that runs gets an interrupt bit (R482). -/
def coreIrq (x : Nat → Fld) (s : State) : State :=
  s.each allCores (fun s c => if s.live (coreDie c) then s.setKf c x 1 else s)

/-- The boundaries of a halt are counted for every halted core (R588). -/
def haltedTicks (s : State) : State :=
  s.each allCores (fun s c =>
    if s.coreHalted c then
      (s.setKf c DBG_C_STAT_ticked 1).setKf c DBG_C_STAT_halted_ticks (min 0xFFFF (s.kf c DBG_C_STAT_halted_ticks + 1))
    else s)

/-! ### What the outside found in the tick that ends -/

/-- The quiet-window duties that still run; a late record commit is an event of its engine (R59, `RECORD_EVT.commit_late`). -/
def lateDuties (l : List (Die × Nat)) (s : State) : State :=
  let new : List (Nat × Nat) := (l.map (fun e => (e.1.val, e.2))).filter (fun e => !s.tick.late.contains e)
  let s := { s with tick := { s.tick with late := s.tick.late ++ new } }
  s.each l (fun s e => if e.2 = 2 ∧ e.1.val < 2 then s.evt e.1.val RECORD_EVT_commit_late else s)

/-- The errors of the crossing FIFOs of running regions (R110). -/
def xfifoErrors (l : List (FabDie × Fin 24 × BitVec 16)) (s : State) : State :=
  s.each l (fun s e =>
    let d := e.1.val + 2
    let i := e.2.1.val
    if s.regionState d i = 5 ∧ e.2.2 ≠ 0 then
      (s.wr d (REGIONS_XFIFO i) (s.rd d (REGIONS_XFIFO i) ||| e.2.2.zeroExtend 32)).evt d REGIONS_EVT_xfifo
    else s)

/-- The dies in which a domain saw one strobe for two boundaries (R68). -/
def strobeMerges (l : List Die) (s : State) : State :=
  s.each l (fun s d => if 2 ≤ d.val ∧ s.live d.val then s.evt d.val TICK_EVT_strobe_merge else s)

/-! ### The release of a load (R100, R102, R144, R224, R463, R516) -/

/-- A region of the load enters RUNNING. -/
def releaseRegion (d i : Nat) (s : State) : State :=
  let s := (setRegion d i 5 s).inc d (REGIONS_STATE_loads i) 1
  cmbRelease d i (s.setF d ⟨SCRUB_UE_MAP, i, 1⟩ 0)

/-- The first boundary after the fills: every region of the load is released, the current of each die rises under its ramp, and what the load
was for is up. -/
def regionRelease (s : State) : State :=
  match s.fab.load with
  | none => s
  | some l =>
    if l.phase ≠ 3 then s
    else
      let s := s.each l.regions (fun s x => releaseRegion x.1 x.2 s)
      let s := s.each (fabDies.filter (fun d => !(l.regionsOn d).isEmpty)) (fun s d =>
        rampStart d (s.releaseSteps d (l.regionsOn d)) (s.evt d REGIONS_EVT_load_done))
      let segs := match l.hdr with | some h => h.segs | none => []
      let design := match l.hdr with | some h => h.design | none => 0
      let s :=
        if l.kind = 4 then s.setF 0 CFG_STAT_shell_up 1
        else if l.kind = 5 then
          let s := (s.setFs 0 [(CFG_STAT_pers_up, 1), (CFG_STAT_shell_only, 0)]).wr 0 CFG_DESIGN design
          if l.atS12 then s.each (segs.filter (fun x => x.ty == 2)) (fun s x => schedRelease x.die.toNat s) else s
        else s
      endLoad (s.evt 0 CFG_EVT_load_done)

/-! ### The boundary -/

/-- A SET_LIFECYCLE has committed and its burn is over: the device restarts at the end of the quiet window (R502). -/
def State.endsNow (s : State) : Bool := s.cmd.ended.isSome && s.cmd.burn.isNone

/-- The critical commands that commit at a boundary: those of a test period, before or after it (R53, R57). -/
def boundaryCommits (wasTest : Bool) (s : State) : State :=
  if (wasTest || s.testPeriod) && !s.lateDuty 0 1 then commitCommands s else s

/-- What the boundary n does once the time has moved on to it: the Ringlet frame reaches the dies; work that waits for a boundary begins; period
changes, tables and sets take effect; events act; the duties of a test period run. -/
def boundaryDuties (x : BoundaryIn) (wasTest changed : Bool) (s : State) : State :=
  let s := ringFrames (x.badFrames.map (·.val)) s
  let s := strobeMerges x.merged s
  let s := startRelease (regionRelease s)
  let s := probeBoundary (schedBoundary changed s)
  let s := refreshPlace (hotBoundary (setsBoundary s))
  let s := pprBoundary s
  let s := scrubBoundary x.ctlUpsets s
  let s := eventBoundary (tsyncBoundary s)
  let s := timerBoundary s
  let s := grantBoundary s
  let s := haltedTicks (coreIrq CORE_IRQ_PEND_tick s)
  let s := s.when s.testPeriod heartbeatCheck
  (boundaryCommits wasTest s).setF 0 CMD_STAT_ticked 0

/-- TICK_BOUNDARY: the tick ends with what the outside found in it, and the next one starts. -/
def tickBoundary (x : BoundaryIn) (s : State) : State :=
  if !s.tbRuns then s
  else
    let wasTest := s.testPeriod
    let s := s.each x.offsets (fun s e => slackOffset e.1 e.2 s)
    let s := xfifoErrors x.xfifo (lateDuties x.lateDuties s)
    let t := nextTick s
    let changed := decide (t.time.p ≠ s.time.p ∨ t.time.q ≠ s.time.q)
    let t := { t with tick := { t.tick with quietOpen := false, hbDone := false } }
    if t.endsNow then restart t else boundaryDuties x wasTest changed t

/-- TICK_BOUNDARY (R51). -/
def execTickBoundary (b : BoundaryIn) (s : State) : Res := runTime State.boundaryTime (tickBoundary b) s

/-! ### The quiet window -/

/-- QUIET_WINDOW_OPEN: the duties of qs start: the commits in the order of their tags, a scrub step on each fabric die, the refreshes owed (R56 to
R59). A tick of a test period has no quiet window (R53). -/
def quietWindowOpen (q : QuietIn) (s : State) : State :=
  if !s.mayOpen then s
  else
    let s := { s with time := s.quietTime, tick := { s.tick with quietOpen := true } }
    let s := coreIrq CORE_IRQ_PEND_quiet s
    let s := if s.lateDuty 0 1 then s else commitCommands s
    refreshQuiet (scrubQuiet q s)

/-- QUIET_WINDOW_OPEN (R56). -/
def execQuietWindowOpen (q : QuietIn) (s : State) : Res := runTime State.quietTime (quietWindowOpen q) s

/-! ### A late duty ends (R59, R80) -/

/-- The next instance of a duty, which waited for the late one, starts when its time in this quiet window has come (R59). -/
def waitingDuty (d code : Nat) (q : QuietIn) (s : State) : State :=
  if !s.tick.quietOpen then s
  else match code with
    | 1 => commitCommands s
    | 2 => if s.qs + 16 ≤ s.time.count then commitEngine d s else s
    | 3 => scrubQuietDie q d s
    | 4 => if s.lateDuty (1 - d) 4 then s else refreshOwed s
    | _ => s

/-- SLACK_OVERRUN: late work completes and is reported; a duty that waited for it starts. -/
def overrunEnds (m : Monitor) (n off amount : Nat) (q : QuietIn) (s : State) : State :=
  let t := slackOverrun m n off amount s
  match m with
  | .duty d c => if s.lateDuty d.val c && !t.lateDuty d.val c then waitingDuty d.val c q t else t
  | _ => t

/-- SLACK_OVERRUN (R80). -/
def execSlackOverrun (m : Monitor) (n off amount : Nat) (q : QuietIn) (s : State) : Res := run (overrunEnds m n off amount q) s

end Sys2Proof.Machine
end

