-- ==== Sys2Proof/Machine/Target.lean ====
section
/-! DEFINITION. A request at its target endpoint (06): the checks of its interface, and what each kind of endpoint does with it (R185, R193, R197
to R199, R204). -/

namespace Sys2Proof.Machine

/-! ### The form of a request (R191, R193) -/

/-- The number of bytes that a request asks for (R236): count + 1 of a READ, the enabled bytes of a WRITE. -/
def Hdr.asked (h : Hdr) (flits : List Flit) : Nat :=
  if h.opcode = 1 then flits.foldl (fun a f => a + ((List.range 64).filter (fun j => f.line.be.getLsbD j)).length) 0 else h.count + 1

/-- A request keeps R191 and R193: a READ inside one 512-byte block and without data; a WRITE of 1 to 8 flits, as many as its header says,
inside one block, each with a byte enabled. -/
def Hdr.formed (h : Hdr) (flits : List Flit) : Bool :=
  if h.opcode = 0 then flits.isEmpty && decide (h.flits = 0) && decide (h.addr % 512 + h.count < 512)
  else decide (h.opcode = 1) && decide (1 ≤ h.flits) && decide (flits.length = h.flits) && decide (h.count = 0) &&
    decide (h.addr % 512 / 64 + h.flits ≤ 8) && flits.all (fun f => f.line.be != 0)

/-- The byte offset of the aligned 4-byte word whose bytes are exactly those enabled. -/
def wordAt (be : BitVec 64) : Option Nat :=
  ((List.range 16).find? (fun k => be.toNat == 15 * 2 ^ (4 * k))).map (fun k => 4 * k)

/-- The clock gate of `CLK_GATE` that an endpoint stands behind (R538). -/
def gateOf (d ep : Nat) : Option Nat :=
  if d < 2 then
    if 8 ≤ ep ∧ ep < 12 then some (ep - 8) else if ep = 0x10 then some 4 else if 0x60 ≤ ep ∧ ep < 0x64 then some (ep - 0x60 + 5) else none
  else if ep = 0x70 then some 4 else none

/-- The endpoint's block has requested idle or its gate is closed (R538). -/
def State.epGated (s : State) (d ep : Nat) : Bool := match gateOf d ep with | some b => s.gated d b | none => false

/-! ### Control space (R193, R409) -/

/-- A debug request performs the side effect of a read: the debug bus master with `DBG_BM_CMD.consume`, a core with `DBG_Cs_CTRL.consume`
(R585). -/
def State.consumes (s : State) (h : Hdr) : Bool :=
  let i : Init := BitVec.ofNat 12 h.srcId
  if isDebugMaster i then (match s.dbg.bm with | some (_, c) => c | none => false)
  else match initCore h.srcId with | some c => s.kOn c DBG_C_CTRL_consume | none => false

/-- A request at place r of die d's control space; `o` is the byte of the line that its word starts at. -/
def ctlServe (d r o : Nat) (h : Hdr) (flits : List Flit) (x : TargetIn) (s : State) : State :=
  let a : Acc := ⟨BitVec.ofNat 12 h.srcId, h.key, h.dbg, x.env⟩
  let st := ctlStatus d r 4
  if st ≠ 0 then answerError h st s
  else if h.opcode = 1 then
    let w := match flits with | f :: _ => BitVec.ofNat 32 (nbits f.line.data.toNat (8 * o) 32) | [] => 0
    match regWrite a d r w x.hw s with
    | some t => answerAck h t
    | none => answerRetry h s
  else
    let (t, w, st) := regRead a (h.dbg && !s.consumes h) d r x.hw s
    if st ≠ 0 then answerError h st t else answerWord h w t

/-- The word of a valid control-space request: the address of its first byte (R193). -/
def Hdr.ctlAddr (h : Hdr) (flits : List Flit) : Option Nat :=
  if h.opcode = 0 then (if h.count = 3 ∧ h.addr % 4 = 0 then some h.addr else none)
  else match flits with
    | [f] => (wordAt f.line.be).map (fun o => h.addr / 64 * 64 + o)
    | _ => none

/-- A request at the control agent of die d, or, with page 0x20 alone, at the endpoint of its record engine (R193, R409). -/
def agentServe (d : Nat) (record : Bool) (h : Hdr) (flits : List Flit) (x : TargetIn) (s : State) : State :=
  match h.ctlAddr flits with
  | none => answerError h 2 s
  | some a =>
    if record then ctlServe d (0x200000 + a % 0x10000) (a % 64) h flits x s
    else if (a - ctlBase) / 2 ^ 24 = d ∧ ctlBase ≤ a then ctlServe d (a % 2 ^ 24) (a % 64) h flits x s
    else answerError h 1 s

/-! ### Regions (R102, R106) -/

/-- The logic of a region answers requests that it had accepted, oldest first. -/
def answerEarlier (d i : Nat) (l : List (Byte × List Line)) (s : State) : State :=
  let w := s.regionWaiting d i
  let s := { s with fab := { s.fab with waiting := KMap.put s.fab.waiting (devRegion d i) (w.drop l.length) } }
  s.each (w.zip l) (fun s e => answerLogic e.1 e.2 s)

/-- A request at a running mapped region: its logic takes it, and answers it at once or later (R102, R106). -/
def regionServe (d i : Nat) (h : Hdr) (x : TargetIn) (s : State) : State :=
  let s := answerEarlier d i x.earlier s
  match x.reply with
  | some a => answerLogic h a s
  | none =>
    let l := s.regionWaiting d i ++ [h]
    { s with fab := { s.fab with waiting := KMap.put s.fab.waiting (devRegion d i) l } }

/-- The endpoint of a region answers every request with RETRY: mapped, and not running (R106). -/
def State.regionHolds (s : State) (d ep : Nat) : Bool :=
  decide (2 ≤ d) && decide (0x40 ≤ ep) && decide (ep < 0x58) && s.on d (REGIONS_STATE_class (ep - 0x40)) &&
    decide (s.regionState d (ep - 0x40) ≠ 5)

/-! ### The UCIe bridge (R263, R264) -/

/-- A request toward the partner: forwarded to a partner admitted with the window; after a loss of the link it is answered as at a fenced
edge; otherwise nothing decodes there (R263, R264). -/
def ucieServe (h : Hdr) (flits : List Flit) (s : State) : State :=
  if !s.acc.opened then answerError h 1 s
  else if s.f 0 UCIE_STAT_state = 3 then s.emit (.ucieAnswer h flits)
  else answerError h 8 s

/-! ### A request at a target -/

/-- What endpoint ep of die d does with a whole request (R185). The endpoint of a core covers no address of the map, so that every request
there gets the decode-error status (R9). -/
def endpointServe (d ep : Nat) (h : Hdr) (flits : List Flit) (x : TargetIn) (s : State) : State :=
  let lines := flits.map (·.line)
  if ep = 0 then agentServe d false h flits x s
  else if ep = 0x10 then agentServe d true h flits x s
  else if ep < 4 then answerError h 1 s
  else if ep < 12 then dramServe (d * 4 + (ep - 8)) h lines x.dimm s
  else if 0x40 ≤ ep ∧ ep < 0x58 then
    (if s.on d (REGIONS_STATE_class (ep - 0x40)) then regionServe d (ep - 0x40) h x s else answerError h 3 s)
  else if ep = 0x68 then ucieServe h flits s
  else if ep = 0x70 then
    { s with mem := { s.mem with window := KMap.put s.mem.window d (KMap.look s.mem.window d ++ [(h, lines)]) } }
  else
    let (t, retry) := bridgeTake (4 * d + (ep - 0x60)) h lines s
    if retry then answerRetry h t else t

/-- A request at endpoint ep of die d, whose header has passed: RETRY comes before every other answer (R106, R204, R538), then the check
of the data (R197), then the form (R193). -/
def targetTake (d ep : Nat) (h : Hdr) (flits : List Flit) (x : TargetIn) (s : State) : State :=
  let s := takeRequest h x.lat (h.asked flits) s
  if flits.any (·.truncated) then s
  else
    let bad := if h.opcode = 1 then firstBadFlit flits else none
    let s := match bad with | some i => crcFail d h.srcId ep i false false s | none => s
    if (s.retryFlag h && !h.reissue) || s.epGated d ep || s.regionHolds d ep then answerRetry h s
    else if bad.isSome then answerError h 7 s
    else if !h.formed flits then
      answerError h (if (ep = 0 ∨ ep = 0x10) ∧ h.opcode ≤ 1 ∧ h.ctlAddr flits = none then 2 else 0x0B) s
    else endpointServe d ep h flits x s

/-- TARGET_REQUEST: a whole request reaches the interface of its destination endpoint; where no such target exists at the router, the answer
is decode error (R196, R198, R199). -/
def targetRequest (raw : BitVec 256) (flits : List Flit) (port : Nat) (x : TargetIn) (s : State) : State :=
  let (s, o) := takeAtNi port raw s
  match o with
  | none => s
  | some h =>
    let d := dieIndex h.dstX h.dstY
    if !s.live d then s
    else if epRouter d h.dstEp ≠ some (h.dstX, h.dstY) || !isTarget d h.dstEp then answerError h 1 s
    else targetTake d h.dstEp h flits x s

/-- TARGET_REQUEST (R199). -/
def execTargetRequest (raw : BitVec 256) (flits : List Flit) (port : Fin 4) (x : TargetIn) (s : State) : Res :=
  run (targetRequest raw flits port.val x) s

end Sys2Proof.Machine
end

