-- ==== Sys2Proof/Machine/Dispatch.lean ====
section
/-! DEFINITION. The commands' meanings, one arm per constructor. -/

namespace Sys2Proof.Machine

def exec (i : Instr) (s : State) : Host.Outcome State Fault Refusal :=
  match i with
  | .powerGood refsel => Sys2Proof.Machine.execPowerGood refsel s
  | .safeoscReady => Sys2Proof.Machine.execSafeoscReady s
  | .vauxLoss => Sys2Proof.Machine.execVauxLoss s
  | .sysrstAssert => Sys2Proof.Machine.execSysrstAssert s
  | .timebaseLock delays => Sys2Proof.Machine.execTimebaseLock delays s
  | .s1LockWaitRecord => Sys2Proof.Machine.execS1LockWaitRecord s
  | .clockMonitorFault => Sys2Proof.Machine.execClockMonitorFault s
  | .tickBoundary b => Sys2Proof.Machine.execTickBoundary b s
  | .quietWindowOpen q => Sys2Proof.Machine.execQuietWindowOpen q s
  | .segmentCommit passes bad => Sys2Proof.Machine.execSegmentCommit passes bad s
  | .heartbeatCheck => Sys2Proof.Machine.execHeartbeatCheck s
  | .tickArm both => Sys2Proof.Machine.execTickArm both s
  | .tickCancel => Sys2Proof.Machine.execTickCancel s
  | .slackOverrun m n off amount q => Sys2Proof.Machine.execSlackOverrun m n off amount q s
  | .registerWrite d a => Sys2Proof.Machine.execRegisterWrite d a s
  | .readClearRegister d a => Sys2Proof.Machine.execReadClearRegister d a s
  | .startStepEnd init => Sys2Proof.Machine.execStartStepEnd init s
  | .startStepTimeout init => Sys2Proof.Machine.execStartStepTimeout init s
  | .journalRecordWrite p bad => Sys2Proof.Machine.execJournalRecordWrite p bad s
  | .journalEraseDone bad => Sys2Proof.Machine.execJournalEraseDone bad s
  | .wakeGovernorAdmit new rail => Sys2Proof.Machine.execWakeGovernorAdmit new rail s
  | .releaseRampStep d => Sys2Proof.Machine.execReleaseRampStep d s
  | .regionDrainIdle r answers => Sys2Proof.Machine.execRegionDrainIdle r answers s
  | .regionDrainTimeout r => Sys2Proof.Machine.execRegionDrainTimeout r s
  | .containerHeaderCheck h => Sys2Proof.Machine.execContainerHeaderCheck h s
  | .frameRecord k addr data crc => Sys2Proof.Machine.execFrameRecord k addr data crc s
  | .segmentVerify k stored => Sys2Proof.Machine.execSegmentVerify k stored s
  | .regionFillDone init binds busy bad => Sys2Proof.Machine.execRegionFillDone init binds busy bad s
  | .powerOnFillDone d bad => Sys2Proof.Machine.execPowerOnFillDone d bad s
  | .cmbResidueMismatch d col row g x u => Sys2Proof.Machine.execCmbResidueMismatch d col row g x u s
  | .cmbMismatchReport d n => Sys2Proof.Machine.execCmbMismatchReport d n s
  | .cmberrRecPop d peek => Sys2Proof.Machine.execCmberrRecPop d peek s
  | .memoryPortRead b p a upset superseded => Sys2Proof.Machine.execMemoryPortRead b p a upset superseded s
  | .memoryPortWrite b p a data be collides => Sys2Proof.Machine.execMemoryPortWrite b p a data be collides s
  | .memorySleep b => Sys2Proof.Machine.execMemorySleep b s
  | .memoryWakeDone b took => Sys2Proof.Machine.execMemoryWakeDone b took s
  | .memoryWindowRequest d access => Sys2Proof.Machine.execMemoryWindowRequest d access s
  | .memoryWindowBusy d => Sys2Proof.Machine.execMemoryWindowBusy d s
  | .meccReport d => Sys2Proof.Machine.execMeccReport d s
  | .meccRecPop d peek => Sys2Proof.Machine.execMeccRecPop d peek s
  | .meccInjWrite d v => Sys2Proof.Machine.execMeccInjWrite d v s
  | .nocRequestIssue r => Sys2Proof.Machine.execNocRequestIssue r s
  | .heldRequestAdmit init q seq => Sys2Proof.Machine.execHeldRequestAdmit init q seq s
  | .nocFence init q => Sys2Proof.Machine.execNocFence init q s
  | .routerHeader x y port resp raw flits marks => Sys2Proof.Machine.execRouterHeader x y port resp raw flits marks s
  | .targetRequest raw flits port x => Sys2Proof.Machine.execTargetRequest raw flits port x s
  | .niResponse raw flits port => Sys2Proof.Machine.execNiResponse raw flits port s
  | .notify raw port => Sys2Proof.Machine.execNotify raw port s
  | .retryReissue init q die ep => Sys2Proof.Machine.execRetryReissue init q die ep s
  | .nocResponseTimeout init q seq => Sys2Proof.Machine.execNocResponseTimeout init q seq s
  | .scheduleSwapArm both => Sys2Proof.Machine.execScheduleSwapArm both s
  | .scheduleSwapCancel => Sys2Proof.Machine.execScheduleSwapCancel s
  | .scheduleBankCheckDone d => Sys2Proof.Machine.execScheduleBankCheckDone d s
  | .probeEnable d p v declared => Sys2Proof.Machine.execProbeEnable d p v declared s
  | .probeDisable d p => Sys2Proof.Machine.execProbeDisable d p s
  | .probeForceTrigger d p => Sys2Proof.Machine.execProbeForceTrigger d p s
  | .probeForceStop d p => Sys2Proof.Machine.execProbeForceStop d p s
  | .probeTrigEdge d p => Sys2Proof.Machine.execProbeTrigEdge d p s
  | .probeTraceWrite d p => Sys2Proof.Machine.execProbeTraceWrite d p s
  | .probeTraceWriteDone d p status => Sys2Proof.Machine.execProbeTraceWriteDone d p status s
  | .statsCapture d => Sys2Proof.Machine.execStatsCapture d s
  | .statsClear d => Sys2Proof.Machine.execStatsClear d s
  | .statsPin d => Sys2Proof.Machine.execStatsPin d s
  | .statsUnpin d => Sys2Proof.Machine.execStatsUnpin d s
  | .tunnelFrame d m raw => Sys2Proof.Machine.execTunnelFrame d m raw s
  | .streamSlot d m ch raw took => Sys2Proof.Machine.execStreamSlot d m ch raw took s
  | .corugTrain init d e => Sys2Proof.Machine.execCorugTrain init d e s
  | .corugTrainDone d e near far => Sys2Proof.Machine.execCorugTrainDone d e near far s
  | .corugUnfence init d e => Sys2Proof.Machine.execCorugUnfence init d e s
  | .corugResync init d e k ch => Sys2Proof.Machine.execCorugResync init d e k ch s
  | .fenceNotice d e test => Sys2Proof.Machine.execFenceNotice d e test s
  | .edgeNoValidFrames d e => Sys2Proof.Machine.execEdgeNoValidFrames d e s
  | .statusLinkFence d => Sys2Proof.Machine.execStatusLinkFence d s
  | .statusLinkFrame d => Sys2Proof.Machine.execStatusLinkFrame d s
  | .ucieDiscoveryReply b => Sys2Proof.Machine.execUcieDiscoveryReply b s
  | .ucieDiscoveryTimeout => Sys2Proof.Machine.execUcieDiscoveryTimeout s
  | .ucieUnit raw => Sys2Proof.Machine.execUcieUnit raw s
  | .uciePartnerRequest r => Sys2Proof.Machine.execUciePartnerRequest r s
  | .ucieLinkDown => Sys2Proof.Machine.execUcieLinkDown s
  | .ucieAdmit init => Sys2Proof.Machine.execUcieAdmit init s
  | .ucieDown init => Sys2Proof.Machine.execUcieDown init s
  | .laneRetrain init d q n => Sys2Proof.Machine.execLaneRetrain init d q n s
  | .laneStop init d q n => Sys2Proof.Machine.execLaneStop init d q n s
  | .laneStart init d q n => Sys2Proof.Machine.execLaneStart init d q n s
  | .lanePllWrite init d q b v => Sys2Proof.Machine.execLanePllWrite init d q b v s
  | .trainingBlock d l b => Sys2Proof.Machine.execTrainingBlock d l b s
  | .trainingRoundEnd d l pre post better margin => Sys2Proof.Machine.execTrainingRoundEnd d l pre post better margin s
  | .trainingTimeout d l long => Sys2Proof.Machine.execTrainingTimeout d l long s
  | .laneBlock d l hdr payload full => Sys2Proof.Machine.execLaneBlock d l hdr payload full s
  | .alignBlock d l b stamp => Sys2Proof.Machine.execAlignBlock d l b stamp s
  | .perstAssert => Sys2Proof.Machine.execPerstAssert s
  | .pcieHotReset => Sys2Proof.Machine.execPcieHotReset s
  | .pcieFlr => Sys2Proof.Machine.execPcieFlr s
  | .pcieLinkDown => Sys2Proof.Machine.execPcieLinkDown s
  | .pcieLinkUp speed width => Sys2Proof.Machine.execPcieLinkUp speed width s
  | .pcieHostRequest bar write off count lines relaxed => Sys2Proof.Machine.execPcieHostRequest bar write off count lines relaxed s
  | .dmaTailWrite q v => Sys2Proof.Machine.execDmaTailWrite q v s
  | .dmaQueueEnable q v => Sys2Proof.Machine.execDmaQueueEnable q v s
  | .dmaQueueDisable q started => Sys2Proof.Machine.execDmaQueueDisable q started s
  | .dmaDescriptorDone q desc host noc later => Sys2Proof.Machine.execDmaDescriptorDone q desc host noc later s
  | .hostDoorbell init v => Sys2Proof.Machine.execHostDoorbell init v s
  | .hello p b => Sys2Proof.Machine.execHello p b s
  | .fstart p b body => Sys2Proof.Machine.execFstart p b body s
  | .ack p b => Sys2Proof.Machine.execAck p b s
  | .nak p b => Sys2Proof.Machine.execNak p b s
  | .replayTimeout p => Sys2Proof.Machine.execReplayTimeout p s
  | .goodbye p b => Sys2Proof.Machine.execGoodbye p b s
  | .helloTimeout p => Sys2Proof.Machine.execHelloTimeout p s
  | .portRetryTimeout p => Sys2Proof.Machine.execPortRetryTimeout p s
  | .itaPortDownOp init p => Sys2Proof.Machine.execItaPortDownOp init p s
  | .itaPortUpOp init p => Sys2Proof.Machine.execItaPortUpOp init p s
  | .itaRejoin init p => Sys2Proof.Machine.execItaRejoin init p s
  | .itaRehome init p => Sys2Proof.Machine.execItaRehome init p s
  | .tsync p sent b stamp => Sys2Proof.Machine.execTsync p sent b stamp s
  | .calibrationTimeout p => Sys2Proof.Machine.execCalibrationTimeout p s
  | .timeFrame p f => Sys2Proof.Machine.execTimeFrame p f s
  | .joinReq p id => Sys2Proof.Machine.execJoinReq p id s
  | .joinGrant p id j count h => Sys2Proof.Machine.execJoinGrant p id j count h s
  | .joinRefuse p reason => Sys2Proof.Machine.execJoinRefuse p reason s
  | .joinLoad k => Sys2Proof.Machine.execJoinLoad k s
  | .routeAdd p id => Sys2Proof.Machine.execRouteAdd p id s
  | .routeDel p id => Sys2Proof.Machine.execRouteDel p id s
  | .report p r => Sys2Proof.Machine.execReport p r s
  | .reportSend => Sys2Proof.Machine.execReportSend s
  | .eventFrame p m => Sys2Proof.Machine.execEventFrame p m s
  | .itaEvsend v drained => Sys2Proof.Machine.execItaEvsend v drained s
  | .evtSend r num arg be cluster drained => Sys2Proof.Machine.execEvtSend r num arg be cluster drained s
  | .itaHevPop peek => Sys2Proof.Machine.execItaHevPop peek s
  | .remoteMemoryRequest p m => Sys2Proof.Machine.execRemoteMemoryRequest p m s
  | .remoteMemoryResponse p m => Sys2Proof.Machine.execRemoteMemoryResponse p m s
  | .commandFrame p f => Sys2Proof.Machine.execCommandFrame p f s
  | .cmdHsubmit init v => Sys2Proof.Machine.execCmdHsubmit init v s
  | .commandCheck => Sys2Proof.Machine.execCommandCheck s
  | .counterCheckpointDone => Sys2Proof.Machine.execCounterCheckpointDone s
  | .fuseBurnDone ok => Sys2Proof.Machine.execFuseBurnDone ok s
  | .loadPersonality src addr digest => Sys2Proof.Machine.execLoadPersonality src addr digest s
  | .loadRegion src addr digest => Sys2Proof.Machine.execLoadRegion src addr digest s
  | .setLifecycle target => Sys2Proof.Machine.execSetLifecycle target s
  | .rekey cmd bc => Sys2Proof.Machine.execRekey cmd bc s
  | .keyLoad slot clear key => Sys2Proof.Machine.execKeyLoad slot clear key s
  | .dieReset d => Sys2Proof.Machine.execDieReset d s
  | .dieResetRelease d => Sys2Proof.Machine.execDieResetRelease d s
  | .bistEnter mask set last => Sys2Proof.Machine.execBistEnter mask set last s
  | .spareCommit b => Sys2Proof.Machine.execSpareCommit b s
  | .pprCommit c row => Sys2Proof.Machine.execPprCommit c row s
  | .eraseJournal => Sys2Proof.Machine.execEraseJournal s
  | .debugUnlock skipper hold expiry => Sys2Proof.Machine.execDebugUnlock skipper hold expiry s
  | .setTimeRoot root => Sys2Proof.Machine.execSetTimeRoot root s
  | .provisionDataWrite init v => Sys2Proof.Machine.execProvisionDataWrite init v s
  | .provisionBurn init => Sys2Proof.Machine.execProvisionBurn init s
  | .ddrRetrain init c => Sys2Proof.Machine.execDdrRetrain init c s
  | .ddrTrainingDone c spd ok => Sys2Proof.Machine.execDdrTrainingDone c spd ok s
  | .ddrAlert c => Sys2Proof.Machine.execDdrAlert c s
  | .ddrRequest c h lines x => Sys2Proof.Machine.execDdrRequest c h lines x s
  | .refreshPoint => Sys2Proof.Machine.execRefreshPoint s
  | .dimmTempRead c t0 t1 => Sys2Proof.Machine.execDimmTempRead c t0 t1 s
  | .ddrSetCommit init => Sys2Proof.Machine.execDdrSetCommit init s
  | .ddrRecPop c peek => Sys2Proof.Machine.execDdrRecPop c peek s
  | .pprRepairDone c ok left => Sys2Proof.Machine.execPprRepairDone c ok left s
  | .miuRangeEnable init r => Sys2Proof.Machine.execMiuRangeEnable init r s
  | .miuRangeDisable init r => Sys2Proof.Machine.execMiuRangeDisable init r s
  | .miuSweepDone => Sys2Proof.Machine.execMiuSweepDone s
  | .miuRequest c h lines x => Sys2Proof.Machine.execMiuRequest c h lines x s
  | .miuMetadataFetchDone c r level idx got evict => Sys2Proof.Machine.execMiuMetadataFetchDone c r level idx got evict s
  | .miuRecPop d peek => Sys2Proof.Machine.execMiuRecPop d peek s
  | .recordPortWord e p data sb last => Sys2Proof.Machine.execRecordPortWord e p data sb last s
  | .recordWriteAnswer e p status => Sys2Proof.Machine.execRecordWriteAnswer e p status s
  | .recordSegBind init e p seg => Sys2Proof.Machine.execRecordSegBind init e p seg s
  | .recordSegUnbind init e p seg => Sys2Proof.Machine.execRecordSegUnbind init e p seg s
  | .dirDefine init => Sys2Proof.Machine.execDirDefine init s
  | .dirRelease init => Sys2Proof.Machine.execDirRelease init s
  | .dirEmpty init => Sys2Proof.Machine.execDirEmpty init s
  | .pwrfail => Sys2Proof.Machine.execPwrfail s
  | .powerFailFlushDone inTime => Sys2Proof.Machine.execPowerFailFlushDone inTime s
  | .queryGo e slot key => Sys2Proof.Machine.execQueryGo e slot key s
  | .queryCancel e slot units => Sys2Proof.Machine.execQueryCancel e slot units s
  | .queryClear e slot => Sys2Proof.Machine.execQueryClear e slot s
  | .queryDone e slot wrStatus rdFail => Sys2Proof.Machine.execQueryDone e slot wrStatus rdFail s
  | .stagingPush init half len freed0 freed1 => Sys2Proof.Machine.execStagingPush init half len freed0 freed1 s
  | .stagingAbort init => Sys2Proof.Machine.execStagingAbort init s
  | .stagingTimeout => Sys2Proof.Machine.execStagingTimeout s
  | .personalityDeadline => Sys2Proof.Machine.execPersonalityDeadline s
  | .nvmRead init flash => Sys2Proof.Machine.execNvmRead init flash s
  | .nvmProgram init flash => Sys2Proof.Machine.execNvmProgram init flash s
  | .nvmErase init flash => Sys2Proof.Machine.execNvmErase init flash s
  | .nvmTransferDone reason => Sys2Proof.Machine.execNvmTransferDone reason s
  | .coreLoad init core => Sys2Proof.Machine.execCoreLoad init core s
  | .coreLoadDone stored => Sys2Proof.Machine.execCoreLoadDone stored s
  | .coreCtrlReset init c v => Sys2Proof.Machine.execCoreCtrlReset init c v s
  | .watchdogStart c v => Sys2Proof.Machine.execWatchdogStart c v s
  | .watchdogKick c v => Sys2Proof.Machine.execWatchdogKick c v s
  | .watchdogExpiry c => Sys2Proof.Machine.execWatchdogExpiry c s
  | .heartbeatKick init => Sys2Proof.Machine.execHeartbeatKick init s
  | .lockstepMismatch => Sys2Proof.Machine.execLockstepMismatch s
  | .mailboxPush c w init dbg => Sys2Proof.Machine.execMailboxPush c w init dbg s
  | .mailboxPop c peek => Sys2Proof.Machine.execMailboxPop c peek s
  | .coreBusAccess c op addr err pins => Sys2Proof.Machine.execCoreBusAccess c op addr err pins s
  | .portAccess c reg write pins => Sys2Proof.Machine.execPortAccess c reg write pins s
  | .errorReport d src c region detail => Sys2Proof.Machine.execErrorReport d src c region detail s
  | .errLogPop d peek => Sys2Proof.Machine.execErrLogPop d peek s
  | .errFailRegion init d r => Sys2Proof.Machine.execErrFailRegion init d r s
  | .scrubBackgroundRead d e => Sys2Proof.Machine.execScrubBackgroundRead d e s
  | .agingMeasure l => Sys2Proof.Machine.execAgingMeasure l s
  | .wearMapWriteDone first second => Sys2Proof.Machine.execWearMapWriteDone first second s
  | .fabricPllUnlock d k => Sys2Proof.Machine.execFabricPllUnlock d k s
  | .fabricPllRelock d k => Sys2Proof.Machine.execFabricPllRelock d k s
  | .freqMeterStart m v => Sys2Proof.Machine.execFreqMeterStart m v s
  | .freqMeterDone m count => Sys2Proof.Machine.execFreqMeterDone m count s
  | .clockGateRequest init d b => Sys2Proof.Machine.execClockGateRequest init d b s
  | .clockGateOpen init d b => Sys2Proof.Machine.execClockGateOpen init d b s
  | .clockGateIdleAck d b => Sys2Proof.Machine.execClockGateIdleAck d b s
  | .clockGateTimeout d b => Sys2Proof.Machine.execClockGateTimeout d b s
  | .railSample d bad low levels => Sys2Proof.Machine.execRailSample d bad low levels s
  | .coreRailRecover d => Sys2Proof.Machine.execCoreRailRecover d s
  | .throttleWindowEnd amps mw => Sys2Proof.Machine.execThrottleWindowEnd amps mw s
  | .thermalSample d t0 t1 t2 t3 => Sys2Proof.Machine.execThermalSample d t0 t1 t2 t3 s
  | .gpioFuncWrite init d j v => Sys2Proof.Machine.execGpioFuncWrite init d j v s
  | .gpioSwitchEnd d j => Sys2Proof.Machine.execGpioSwitchEnd d j s
  | .adcConversion d j steps => Sys2Proof.Machine.execAdcConversion d j steps s
  | .timerCapture d t rising count => Sys2Proof.Machine.execTimerCapture d t rising count s
  | .triggerOwnWrite init l v => Sys2Proof.Machine.execTriggerOwnWrite init l v s
  | .triggerDriveWrite init l v => Sys2Proof.Machine.execTriggerDriveWrite init l v s
  | .triggerEdge l stamp ext drained => Sys2Proof.Machine.execTriggerEdge l stamp ext drained s
  | .triggerPulseEnd l => Sys2Proof.Machine.execTriggerPulseEnd l s
  | .dbgClaim path => Sys2Proof.Machine.execDbgClaim path s
  | .dbgRelease path => Sys2Proof.Machine.execDbgRelease path s
  | .dbgBmRead path consume env => Sys2Proof.Machine.execDbgBmRead path consume env s
  | .dbgBmWrite path env => Sys2Proof.Machine.execDbgBmWrite path env s
  | .dbgBmDone => Sys2Proof.Machine.execDbgBmDone s
  | .jtagDbgpathUpdate dr env => Sys2Proof.Machine.execJtagDbgpathUpdate dr env s
  | .coreHalt init c dpc => Sys2Proof.Machine.execCoreHalt init c dpc s
  | .coreResume init c => Sys2Proof.Machine.execCoreResume init c s
  | .coreStep init c out dpc => Sys2Proof.Machine.execCoreStep init c out dpc s
  | .coreIfeed init c w out => Sys2Proof.Machine.execCoreIfeed init c w out s
  | .coreEbreakHalt c dpc => Sys2Proof.Machine.execCoreEbreakHalt c dpc s
  | .dtxWrite c w => Sys2Proof.Machine.execDtxWrite c w s
  | .drxRead c => Sys2Proof.Machine.execDrxRead c s
  | .drxDebuggerWrite init c w => Sys2Proof.Machine.execDrxDebuggerWrite init c w s
  | .dtxAck init c v => Sys2Proof.Machine.execDtxAck init c v s
  | .mdataAccess init c write err => Sys2Proof.Machine.execMdataAccess init c write err s
  | .bistStart init => Sys2Proof.Machine.execBistStart init s
  | .bistAbort => Sys2Proof.Machine.execBistAbort s
  | .bistDieStart d => Sys2Proof.Machine.execBistDieStart d s
  | .bistDieDone d r => Sys2Proof.Machine.execBistDieDone d r s
  | .perstRelease after => Sys2Proof.Machine.execPerstRelease after s
  | .ucieLinkTrained ok rate => Sys2Proof.Machine.execUcieLinkTrained ok rate s
  | .lanePllLocked d q b => Sys2Proof.Machine.execLanePllLocked d q b s
  | .lanePllLockLost d q b => Sys2Proof.Machine.execLanePllLockLost d q b s
  | .corugMarginLow d m wire margin => Sys2Proof.Machine.execCorugMarginLow d m wire margin s
  | .corugSwapDone d m => Sys2Proof.Machine.execCorugSwapDone d m s
  | .dirMirrorRebuildDone => Sys2Proof.Machine.execDirMirrorRebuildDone s
  | .machineTimerInterrupt c => Sys2Proof.Machine.execMachineTimerInterrupt c s
  | .triggerPulseStart l => Sys2Proof.Machine.execTriggerPulseStart l s
  | .timerPulseEnd d t => Sys2Proof.Machine.execTimerPulseEnd d t s

end Sys2Proof.Machine
end

