-- ==== Sys2Proof/Safety.lean ====
section
/-! DEFINITION. What counts as a safe run, in the terms of the statements: the time of a tick that is legal, and the canonical form of the tables
that hold registers and buffers. -/

namespace Sys2Proof.Machine

/-! ### What a command leaves alone -/

/-- Two fields of registers share no bit: other dies, other registers, or bits apart. -/
def apart (a b : Nat × Fld) : Bool :=
  decide (a.1 ≠ b.1) || decide (a.2.reg ≠ b.2.reg) || decide (a.2.lo + a.2.len ≤ b.2.lo) || decide (b.2.lo + b.2.len ≤ a.2.lo)

/-- A field lies in a 32-bit register of a die's 16 MiB of control space (R6). -/
def placed (a : Nat × Fld) : Bool := decide (a.2.reg < 0x1000000) && decide (a.2.lo + a.2.len ≤ 32)

/-- Every field of every register reads in t as it does in s, but for those that share a bit with a field of the list. -/
def State.onlyFields (s t : State) (l : List (Nat × Fld)) : Prop :=
  ∀ a : Nat × Fld, placed a = true → (∀ e ∈ l, apart e a = true) → t.f a.1 a.2 = s.f a.1 a.2

/-- All 32 bits of the register at place r of die d, as a field. -/
def whole (d r : Nat) : Nat × Fld := (d, ⟨r, 0, 32⟩)

/-- Everything in the state that is no register and no output. -/
def State.rest (s : State) : State := { s with regs := [], out := [] }

/-- From s to t nothing changes but the listed fields of registers and what is put out. -/
def State.regsOnly (s t : State) (l : List (Nat × Fld)) : Prop := s.onlyFields t l ∧ t.rest = s.rest

/-- Every register outside the listed pages, each a die and the number of a 64 KiB page of its control space (R6), reads in t as it does in s. -/
def State.onlyPages (s t : State) (l : List (Nat × Nat)) : Prop :=
  ∀ d r : Nat, r < 0x1000000 → (d, r / 0x10000) ∉ l → t.rd d r = s.rd d r

/-! ### Time -/

/-- The count lies in the tick that the time names (R51). -/
def Time.inTick (t : Time) : Bool := decide (t.bnd ≤ t.count) && decide (t.count < t.bnd + t.p)

/-- The timebase is sound: P and Q are legal (R52, R53), and the count lies in the current tick. -/
def State.timeSound (s : State) : Bool := s.time.inTick && periodOk s.time.p s.time.q

end Sys2Proof.Machine
end

