-- ==== Sys2Proof/Certificates/Slice0/Obligations.lean ====
section
/-! DEFINITION. The statements for the provers. -/

open Sys2Proof Sys2Proof.Machine

/-- For every command c and every state whose queue holds c in front of a rest l, a step is exec of c on the state with queue l; on an empty
queue a step answers a next state that differs from the old one at most in the timebase count (the model's choice, assumption 1). -/
def Obligations.StepRunsTheFrontCommand : Prop :=
  (∀ (s : State) (c : Instr) (l : List Instr), s.pending = c :: l → step s = exec c { s with pending := l }) ∧
  (∀ s : State, s.pending = [] → ∃ n, step s = .next { s with time := { s.time with count := n } } ∧
    (n = s.time.count ∨ (s.tick.tb = .running ∧ n = s.time.count + 1 ∧ n < s.time.bnd + s.time.p)))

/-- Whatever the command and the state, if exec answers next t, then t's queue is the old queue. Where the command is none of TIMEBASE_LOCK,
TICK_BOUNDARY, QUIET_WINDOW_OPEN, SEGMENT_COMMIT, HEARTBEAT_CHECK and JOIN_LOAD, the time is as before, and where it is not FUSE_BURN_DONE,
the fuses are. -/
def Obligations.CommandsLeaveQueueTimeAndFuses : Prop :=
  ∀ (c : Instr) (s t : State), exec c s = .next t →
    t.pending = s.pending ∧
    ((∀ l, c ≠ .timebaseLock l) → (∀ b, c ≠ .tickBoundary b) → (∀ q, c ≠ .quietWindowOpen q) →
      (∀ p l, c ≠ .segmentCommit p l) → c ≠ .heartbeatCheck → (∀ k, c ≠ .joinLoad k) → t.time = s.time) ∧
    ((∀ ok, c ≠ .fuseBurnDone ok) → t.fuses = s.fuses)

/-- In every state in which P and Q are legal (P from 16 to 2^24, and for P of 80 or more Q from 64 to P - 16) and the timebase count lies
between the last boundary and the next, a step that answers next t leaves t with a legal P and Q and a count inside t's current tick,
whatever the command: a boundary, a period change that takes effect there, a quiet window, a commit of records, a heartbeat check, a load of
a follower's time, or any other. -/
def Obligations.TimeStaysSound : Prop :=
  ∀ s t : State, s.timeSound = true → step s = .next t → t.timeSound = true

/-- At State.reset the timebase is sound; no command waits, nothing has been put out, the timebase has not started, no die is out of reset,
and every register reads the value that its table or its fuse gives for reset. -/
def Obligations.ResetTimeIsSound : Prop :=
  State.reset.timeSound = true ∧ State.reset.pending = [] ∧ State.reset.out = [] ∧ State.reset.tick.tb = .off ∧
  (∀ d, State.reset.live d = false) ∧ (∀ d r, State.reset.rd d r = resetVal d r)

/-- Whatever state s is in, FUSE_BURN_DONE answers a next state t: with no burn under way the fuses are as they were; a burn of a key row
adds exactly that row behind the others; a burn of a life-cycle move sets the life-cycle state to its target, and counts a move between
FIELD and SERVICE; only the move to state 4 replaces the key rows and the hashes, by all ones. Every step with another command in front
leaves the fuses as they were. -/
def Obligations.FusesOnlyGrow : Prop :=
  (∀ (s : State) (ok : Bool), s.cmd.burn = none → ∃ t, exec (.fuseBurnDone ok) s = .next t ∧ t.fuses = s.fuses) ∧
  (∀ (s : State) (ok : Bool) (k b : BitVec 128), s.cmd.burn = some (.row k b) →
    ∃ t, exec (.fuseBurnDone ok) s = .next t ∧ t.fuses = { s.fuses with rows := s.fuses.rows ++ [(k, b)] }) ∧
  (∀ (s : State) (ok : Bool) (target : Nat), s.cmd.burn = some (.lifeCycle target) →
    ∃ t, exec (.fuseBurnDone ok) s = .next t ∧ t.fuses.lc = target ∧
      t.fuses.moves = s.fuses.moves + (if s.fuses.lc = 2 ∧ target = 3 ∨ s.fuses.lc = 3 ∧ target = 2 then 1 else 0) ∧
      (target ≠ 4 → t.fuses.rows = s.fuses.rows ∧ t.fuses.rootHash = s.fuses.rootHash ∧ t.fuses.imageKey = s.fuses.imageKey) ∧
      (target = 4 → ∀ r ∈ t.fuses.rows, r = (BitVec.allOnes 128, BitVec.allOnes 128))) ∧
  (∀ (s t : State) (c : Instr) (l : List Instr), s.pending = c :: l → (∀ ok, c ≠ .fuseBurnDone ok) → step s = .next t →
    t.fuses = s.fuses)

/-- For every state, die, field inside a 32-bit register of the die's control space and value, storing the field makes it read as the value
cut to its length, changes no field of any register of any die that shares no bit with it, and changes nothing but the register file; a
register file whose keys rise strictly, with no entry equal to its reset value, is such a one after the store too; a saturating counter
field never reads less after an increment and never wraps. -/
def Obligations.RegisterFileReadsBack : Prop :=
  (∀ (s : State) (d : Nat) (x : Fld) (v : Nat), placed (d, x) = true →
    (s.setF d x v).f d x = v % 2 ^ x.len ∧ s.onlyFields (s.setF d x v) [(d, x)] ∧ (s.setF d x v).rest = s.rest ∧
    (s.setF d x v).out = s.out) ∧
  (∀ (s : State) (d r : Nat) (v : Word), r < 0x1000000 →
    KMap.wfD s.regs (fun k => resetVal (k / 0x1000000) (k % 0x1000000)) = true →
    KMap.wfD (s.wr d r v).regs (fun k => resetVal (k / 0x1000000) (k % 0x1000000)) = true) ∧
  (∀ (s : State) (d : Nat) (x : Fld) (n : Nat), placed (d, x) = true →
    s.f d x ≤ (s.inc d x n).f d x ∧ (s.inc d x n).f d x = min (s.f d x + n) (2 ^ x.len - 1))

/-- For every sparse table of the state, key and value: reading a key after a write gives the value written, reading any other key gives
what it gave before, a write of the value that an unlisted key reads as removes the entry, and a table whose keys rise strictly with no
entry equal to that value stays so after a write, after leaving out a range of keys (a die's reset), and is such a table when empty. -/
def Obligations.SparseTablesReadBack : Prop :=
  (∀ {α : Type} [DecidableEq α] [Inhabited α] (m : KMap α) (k j : Nat) (v : α),
    KMap.look (KMap.put m k v) k = v ∧ (j ≠ k → KMap.look (KMap.put m k v) j = KMap.look m j) ∧
    (∀ e ∈ KMap.put m k default, e.1 ≠ k) ∧
    (KMap.wfD m (fun _ => default) = true → KMap.wfD (KMap.put m k v) (fun _ => default) = true)) ∧
  (∀ {α : Type} [DecidableEq α] (m : KMap α) (lo hi : Nat) (d : Nat → α),
    KMap.wfD m d = true → KMap.wfD (KMap.dropRange m lo hi) d = true) ∧
  (∀ {α : Type} [DecidableEq α] (d : Nat → α), KMap.wfD ([] : KMap α) d = true)

/-- POWER_GOOD always answers a next state in which the rails are good, SafeOsc is not ready yet, the REFSEL pins read the code given and a
start runs at S0. With the rails good, S0 running, no double clock fault holding the reset and no thermal trip logged, SAFEOSC_READY answers
a next state in which every die whose core rail is not low is out of reset, CLK_REF shows SafeOsc ready and the REFSEL code, and the start
is at S1 with its record of S0 added. VAUX_LOSS always answers a next state in which the rails are not good and every register that has
sticky bits reads its reset value. SYSRST_ASSERT on a device without good rails answers a next state in which no die is out of reset; with
good rails, SafeOsc ready, and no hold, the start is at S1 and the safe state is left. -/
def Obligations.PowerAndStartBegin : Prop :=
  (∀ (s : State) (refsel : Fin 8), ∃ t, exec (.powerGood refsel) s = .next t ∧ t.pwr.railsGood = true ∧ t.pwr.oscReady = false ∧
    t.pwr.refselPin = refsel.val ∧ t.f 0 JOURNAL_STAT_running = 1 ∧ t.f 0 JOURNAL_STAT_step = 0) ∧
  (∀ s : State, s.pwr.railsGood = true → s.atStep 0 = true → s.pwr.clkHeld = false → s.rd 0 THERM_TRIPLOG = 0 → s.frozen = false →
    ∃ t, exec .safeoscReady s = .next t ∧ (∀ d < 10, KMap.look s.pwr.held d = false → t.live d = true) ∧
      t.f 0 CLK_REF_safeosc_ready = 1 ∧ t.f 0 CLK_REF_refsel = s.pwr.refselPin % 8 ∧ t.f 0 JOURNAL_STAT_step = 1 ∧
      ∃ r : JRec, r.step = 0 ∧ r.kind = 0 ∧ r.outcome = 0 ∧ t.jour.buf = s.jour.buf ++ [r]) ∧
  (∀ s : State, ∃ t, exec .vauxLoss s = .next t ∧ t.pwr.railsGood = false ∧
    (∀ (d r : Nat) (x : RegRow), r < 0x1000000 → regRow d r = some x → x.sticky ≠ 0 → t.rd d r = resetVal d r)) ∧
  (∀ s : State, s.pwr.railsGood = false → ∃ t, exec .sysrstAssert s = .next t ∧ ∀ d, t.live d = false) ∧
  (∀ s : State, s.pwr.railsGood = true → s.pwr.oscReady = true → s.pwr.clkHeld = false → s.pwr.hot = [] →
    ∃ t, exec .sysrstAssert s = .next t ∧ t.pwr.safe = false ∧ t.f 0 JOURNAL_STAT_step = 1)

/-- At S1 with a REFSEL code other than 7 and the timebase not started, TIMEBASE_LOCK answers a next state with count, tick number and last
boundary 0, P = 2,048, Q = 256, the timebase running, CLK_REF.tb_lock 1, and the start at S2. At S1 with no lock-wait record made,
S1_LOCK_WAIT_RECORD adds one failure record of S1 and no other command may add it again in this start. While the timebase runs and the start
is not at S0 or S1, CLOCK_MONITOR_FAULT outside the safe state answers the safe state with cause 1, the tick stopped and FAULT# low. -/
def Obligations.StepOneLocksTheTimebase : Prop :=
  (∀ (s : State) (l : List (Fin 4096)), s.atStep 1 = true → s.f 0 CLK_REF_refsel ≠ 7 → s.tick.tb = .off →
    ∃ t, exec (.timebaseLock l) s = .next t ∧ t.time = ⟨0, 0, 0, 2048, 256⟩ ∧ t.tick.tb = .running ∧ t.f 0 JOURNAL_STAT_step = 2) ∧
  (∀ s : State, s.atStep 1 = true → s.start.s1rec = false → s.frozen = false →
    ∃ t, exec .s1LockWaitRecord s = .next t ∧ t.start.s1rec = true ∧ t.f 0 JOURNAL_EVT_step_fail = 1 ∧
      ∃ r : JRec, r.step = 1 ∧ r.kind = 0 ∧ r.outcome = 1 ∧ t.jour.buf = s.jour.buf ++ [r]) ∧
  (∀ s : State, s.pwr.oscReady = true → s.tick.tb = .running → s.atStep 0 = false → s.atStep 1 = false → s.pwr.safe = false →
    ∃ t, exec .clockMonitorFault s = .next t ∧ t.pwr.safe = true ∧ t.pwr.faultLow = true ∧ t.tick.tb = .stopped ∧
      t.f 0 PWR_SAFE_entered = 1 ∧ t.f 0 PWR_SAFE_cause = 1 ∧ t.f 0 JOURNAL_STAT_running = 0)

/-- DIE_RESET of a die other than IOS that is out of reset answers a next state in which that die is in reset and, on a fabric die, no CMB
record and no memory record of the die is left and its engine accepts no frame. DIE_RESET_RELEASE of such a die held in reset, with IOS out
of reset and its core rail good, answers a next state in which it is out of reset. CORE_RAIL_RECOVER of a die held by its rail does the same
and ends the hold. -/
def Obligations.DieResetsAndReleases : Prop :=
  (∀ (s : State) (d : Die), d ≠ 0 → s.live d.val = true →
    ∃ t, exec (.dieReset d) s = .next t ∧ t.live d.val = false ∧
      (2 ≤ d.val → KMap.look t.cmb.fifo d.val = [] ∧ KMap.look t.mem.fifo d.val = [] ∧ KMap.look t.fab.engReady d.val = false)) ∧
  (∀ (s : State) (d : Die), d ≠ 0 → s.live d.val = false → s.live 0 = true → KMap.look s.pwr.held d.val = false →
    ∃ t, exec (.dieResetRelease d) s = .next t ∧ t.live d.val = true) ∧
  (∀ (s : State) (d : Die), d ≠ 0 → s.live d.val = false → s.live 0 = true → KMap.look s.pwr.held d.val = true →
    ∃ t, exec (.coreRailRecover d) s = .next t ∧ t.live d.val = true ∧ KMap.look t.pwr.held d.val = false)

/-- FABRIC_PLL_UNLOCK of a locked PLL of a live fabric die clears its lock bit, sets pll_unlock and the die's source bit 13, and changes
nothing but registers; FABRIC_PLL_RELOCK of an enabled PLL of a live die sets the lock bit and changes nothing else, and of any other does
nothing. A write of 1 to an existing block's bit by an initiator that may gate sets that bit only; a write of 0 clears the bit and the
closed bit only; by another initiator each sets CLK_EVT.refused only. With idle requested and not acknowledged, the acknowledgement sets the
closed bit only, and the timeout clears the request, sets gate_timeout, and latches the block in CLK_GATE_FAIL where the event was clear;
with no such request both do nothing. -/
def Obligations.PllsAndClockGates : Prop :=
  (∀ (s : State) (d : FabDie) (k : Fin 8), s.live (d.val + 2) = true →
    s.f (d.val + 2) ⟨CLK_PLL_LOCK, k.val, 1⟩ = 1 →
    ∃ t, exec (.fabricPllUnlock d k) s = .next t ∧
    t.f (d.val + 2) ⟨CLK_PLL_LOCK, k.val, 1⟩ = 0 ∧
    t.f (d.val + 2) CLK_EVT_pll_unlock = 1 ∧
    t.f (d.val + 2) ⟨ERR_SRC, 13, 1⟩ = 1 ∧
    t.rest = s.rest) ∧
  (∀ (s : State) (d : FabDie) (k : Fin 8), s.live (d.val + 2) = true →
    s.on (d.val + 2) (CLK_PLL_CFG_en k.val) = true →
    ∃ t, exec (.fabricPllRelock d k) s = .next t ∧
    t.f (d.val + 2) ⟨CLK_PLL_LOCK, k.val, 1⟩ = 1 ∧
    s.regsOnly t [(d.val + 2, ⟨CLK_PLL_LOCK, k.val, 1⟩)]) ∧
  (∀ (s : State) (d : FabDie) (k : Fin 8), s.live (d.val + 2) = false ∨ s.on (d.val + 2) (CLK_PLL_CFG_en k.val) = false →
    ∃ t, exec (.fabricPllRelock d k) s = .next t ∧
    t = s.fresh) ∧
  (∀ (s : State) (i : Init) (d : Die) (b : Fin 30), s.dieUp d.val = true →
    gateExists d.val b.val = true →
    mayGate i d.val = true →
    ∃ t, exec (.clockGateRequest i d b) s = .next t ∧
    t.f d.val ⟨CLK_GATE, b.val, 1⟩ = 1 ∧
    s.regsOnly t [(d.val, ⟨CLK_GATE, b.val, 1⟩)]) ∧
  (∀ (s : State) (i : Init) (d : Die) (b : Fin 30), s.dieUp d.val = true →
    gateExists d.val b.val = true →
    mayGate i d.val = true →
    ∃ t, exec (.clockGateOpen i d b) s = .next t ∧
    t.f d.val ⟨CLK_GATE, b.val, 1⟩ = 0 ∧
    t.f d.val ⟨CLK_GATE_STAT, b.val, 1⟩ = 0 ∧
    s.regsOnly t [(d.val, ⟨CLK_GATE, b.val, 1⟩), (d.val, ⟨CLK_GATE_STAT, b.val, 1⟩)]) ∧
  (∀ (s : State) (i : Init) (d : Die) (b : Fin 30), s.dieUp d.val = true →
    gateExists d.val b.val = true →
    mayGate i d.val = false →
    ∃ t, exec (.clockGateRequest i d b) s = .next t ∧
    t.f d.val CLK_EVT_refused = 1 ∧
    s.regsOnly t [(d.val, CLK_EVT_refused)] ∧
    exec (.clockGateOpen i d b) s = .next t) ∧
  (∀ (s : State) (d : Die) (b : Fin 30), s.gatePending d.val b.val = true →
    ∃ t, exec (.clockGateIdleAck d b) s = .next t ∧
    t.f d.val ⟨CLK_GATE_STAT, b.val, 1⟩ = 1 ∧
    s.regsOnly t [(d.val, ⟨CLK_GATE_STAT, b.val, 1⟩)]) ∧
  (∀ (s : State) (d : Die) (b : Fin 30), s.gatePending d.val b.val = true →
    ∃ t, exec (.clockGateTimeout d b) s = .next t ∧
    t.f d.val ⟨CLK_GATE, b.val, 1⟩ = 0 ∧
    t.f d.val CLK_EVT_gate_timeout = 1 ∧
    (s.f d.val CLK_EVT_gate_timeout = 0 → t.f d.val CLK_GATE_FAIL_bit = b.val ∧ t.f d.val CLK_GATE_FAIL_valid = 1) ∧
    s.regsOnly t [(d.val, ⟨CLK_GATE, b.val, 1⟩), (d.val, CLK_EVT_gate_timeout), (d.val, CLK_GATE_FAIL_bit), (d.val, CLK_GATE_FAIL_valid)]) ∧
  (∀ (s : State) (d : Die) (b : Fin 30), s.gatePending d.val b.val = false →
    ∃ t, exec (.clockGateTimeout d b) s = .next t ∧
    t = s.fresh ∧
    exec (.clockGateIdleAck d b) s = .next t)

/-- With IOS taking commands, a write of CLK_FMm_N with start on a meter that is not busy, with a measured clock that exists and a gate
clock of the three, stores N, makes the meter busy and clears its other status bits; with an illegal selection it stores N and sets bad_sel
only; without start, or on a busy meter, it stores N only. The end of a busy meter's gate makes it not busy and done, counts an event, and
shows the count saturated at 0xFFFF_FFFF with sat where it did not fit, or absent and a count of 0 where the measured die was fenced or
reset. -/
def Obligations.FrequencyMeters : Prop :=
  (∀ (s : State) (m : Fin 16) (v : Word), s.iosUp = true →
    v.toNat < 2 ^ 31 ∨ s.f 0 (CLK_FM_STAT_busy m.val) = 1 →
    ∃ t, exec (.freqMeterStart m v) s = .next t ∧
    t.f 0 (CLK_FM_N_n m.val) = v.toNat % 2 ^ 24 ∧
    s.regsOnly t [(0, CLK_FM_N_n m.val)]) ∧
  (∀ (s : State) (m : Fin 16) (v : Word), s.iosUp = true →
    2 ^ 31 ≤ v.toNat →
    s.f 0 (CLK_FM_STAT_busy m.val) = 0 →
    clockExists (s.f 0 (CLK_FM_SEL_meas m.val)) = true →
    s.f 0 (CLK_FM_SEL_gate m.val) ≤ 2 →
    ∃ t, exec (.freqMeterStart m v) s = .next t ∧
    t.f 0 (CLK_FM_N_n m.val) = v.toNat % 2 ^ 24 ∧
    t.rd 0 (CLK_FM_STAT m.val) = 1 ∧
    s.onlyPages t [(0, 0x02)] ∧ t.rest = { s.rest with pwr := t.pwr }) ∧
  (∀ (s : State) (m : Fin 16) (v : Word), s.iosUp = true →
    2 ^ 31 ≤ v.toNat →
    s.f 0 (CLK_FM_STAT_busy m.val) = 0 →
    clockExists (s.f 0 (CLK_FM_SEL_meas m.val)) = false ∨ 3 ≤ s.f 0 (CLK_FM_SEL_gate m.val) →
    ∃ t, exec (.freqMeterStart m v) s = .next t ∧
    t.f 0 (CLK_FM_N_n m.val) = v.toNat % 2 ^ 24 ∧
    t.f 0 (CLK_FM_STAT_bad_sel m.val) = 1 ∧
    s.regsOnly t [(0, CLK_FM_N_n m.val), (0, CLK_FM_STAT_bad_sel m.val)]) ∧
  (∀ (s : State) (m : Fin 16) (n : Nat), s.f 0 (CLK_FM_STAT_busy m.val) = 1 →
    KMap.look s.pwr.fmLost m.val = false →
    ∃ t, exec (.freqMeterDone m n) s = .next t ∧
    t.f 0 (CLK_FM_STAT_busy m.val) = 0 ∧
    t.f 0 (CLK_FM_STAT_done m.val) = 1 ∧
    t.f 0 (CLK_FM_STAT_absent m.val) = 0 ∧
    t.f 0 (CLK_FM_RES_count m.val) = min n (2 ^ 32 - 1) ∧
    t.f 0 (CLK_FM_STAT_sat m.val) = (if n < 2 ^ 32 then 0 else 1) ∧
    t.f 0 CLK_EVT_fm_done = 1 ∧
    s.onlyFields t [(0, CLK_FM_STAT_busy m.val), (0, CLK_FM_STAT_done m.val), (0, CLK_FM_STAT_absent m.val), (0, CLK_FM_STAT_sat m.val), (0, CLK_FM_RES_count m.val), (0, CLK_EVT_fm_done)] ∧ t.rest = { s.rest with pwr := t.pwr }) ∧
  (∀ (s : State) (m : Fin 16) (n : Nat), s.f 0 (CLK_FM_STAT_busy m.val) = 1 →
    KMap.look s.pwr.fmLost m.val = true →
    ∃ t, exec (.freqMeterDone m n) s = .next t ∧
    t.f 0 (CLK_FM_STAT_busy m.val) = 0 ∧
    t.f 0 (CLK_FM_STAT_done m.val) = 1 ∧
    t.f 0 (CLK_FM_STAT_absent m.val) = 1 ∧
    t.f 0 (CLK_FM_RES_count m.val) = 0 ∧
    s.onlyFields t [(0, CLK_FM_STAT_busy m.val), (0, CLK_FM_STAT_done m.val), (0, CLK_FM_STAT_absent m.val), (0, CLK_FM_STAT_sat m.val), (0, CLK_FM_RES_count m.val), (0, CLK_EVT_fm_done)] ∧ t.rest = { s.rest with pwr := t.pwr })

/-- A rail sample of a live die whose core rail is not low shows each monitored rail of the die in window or not. A throttle window with IOS
out of reset shows the package sum in watts, saturated at its field. A thermal sample records for the die whether a valid reading reaches
the throttle threshold; on a live fabric die with no start at S0, with at least two valid readings, all below 115 °C and one at or above the
threshold, the die's thermal source stands 4 steps down. With IOS taking commands, no start at S0, and the device not in the safe state, a
sample with no valid reading, or a second one running with a valid reading at or above 115 °C, enters the safe state with cause 4. -/
def Obligations.RailsThrottleAndTemperature : Prop :=
  (∀ (s : State) (d : Die) (bad : Byte) (levels : BitVec 4) (b : Fin 8), s.live d.val = true →
    railExists d.val b.val = true →
    ∃ t, exec (.railSample d bad false levels) s = .next t ∧
    t.f d.val ⟨PWR_VMON, b.val, 1⟩ = (if bad.getLsbD b.val then 0 else 1)) ∧
  (∀ (s : State) (amps : List (BitVec 12)) (mw : List Nat), s.live 0 = true →
    ∃ t, exec (.throttleWindowEnd amps mw) s = .next t ∧
    t.f 0 PWR_PKG_NOW_watts = min ((packageSum mw s).2 / 1000) 1023) ∧
  (∀ (s : State) (d : Die) (a b c e : BitVec 12), ∃ t, exec (.thermalSample d a b c e) s = .next t ∧
    KMap.look t.pwr.hot d.val = (validTemps [a.toInt, b.toInt, c.toInt, e.toInt]).any (fun x => decide (s.throttleAt d.val ≤ x.2))) ∧
  (∀ (s : State) (d : Die) (a b c e : BitVec 12), 2 ≤ d.val →
    s.live d.val = true →
    s.atStep 0 = false →
    2 ≤ (validTemps [a.toInt, b.toInt, c.toInt, e.toInt]).length →
    (∀ x ∈ validTemps [a.toInt, b.toInt, c.toInt, e.toInt], x.2 < 460) →
    (∃ x ∈ validTemps [a.toInt, b.toInt, c.toInt, e.toInt], s.throttleAt d.val ≤ x.2) →
    ∃ t, exec (.thermalSample d a b c e) s = .next t ∧
    KMap.look t.pwr.lvlThermal d.val = 4) ∧
  (∀ (s : State) (d : Die) (a b c e : BitVec 12), s.iosUp = true →
    s.atStep 0 = false →
    s.pwr.safe = false →
    validTemps [a.toInt, b.toInt, c.toInt, e.toInt] = [] ∨
    1 ≤ KMap.look s.pwr.tripped d.val ∧ ∃ x ∈ validTemps [a.toInt, b.toInt, c.toInt, e.toInt], 460 ≤ x.2 →
    ∃ t, exec (.thermalSample d a b c e) s = .next t ∧
    t.pwr.safe = true ∧
    t.f 0 PWR_SAFE_cause = 4)

/-- For every state with IOS out of reset, a write of 1 to TICK_ARM.arm alone is accepted exactly when the device is the time root, AT is at
least 17 ticks ahead, P and Q are legal (a test period only in BLANK or SERVICE), and no pending change is nearer than 17 ticks: it answers
a next state in which the change is pending, replacing any earlier one. Otherwise, or with cancel written too, the pending change stays,
arm_refused is set, and the reason is the first that applies in the order 7, 5, 1, 2, 3, 4, 6. A cancel alone on the time root withdraws a
pending change at least 17 ticks ahead, is refused with reason 6 where it is nearer, and does nothing where none is pending; elsewhere it is
refused with reason 5. -/
def Obligations.ArmingAndCancellingAPeriodChange : Prop :=
  (∀ (s : State), s.live 0 = true →
    s.isRoot = true →
    s.time.num + 17 ≤ s.rd64 0 TICK_AT_LO TICK_AT_HI →
    16 ≤ s.f 0 TICK_NEXT_P_value ∧ s.f 0 TICK_NEXT_P_value ≤ 2 ^ 24 →
    80 ≤ s.f 0 TICK_NEXT_P_value ∧ 64 ≤ s.f 0 TICK_NEXT_Q_value ∧ s.f 0 TICK_NEXT_Q_value + 16 ≤ s.f 0 TICK_NEXT_P_value ∨
    s.f 0 TICK_NEXT_P_value < 80 ∧ (s.lifeCycle = 0 ∨ s.lifeCycle = 3) →
    (s.tick.pend.all (fun c => decide (s.time.num + 17 ≤ c.tick))) = true →
    ∃ t, exec (.tickArm false) s = .next t ∧
    t.tick.pend = some ⟨s.rd64 0 TICK_AT_LO TICK_AT_HI, s.f 0 TICK_NEXT_P_value, s.f 0 TICK_NEXT_Q_value⟩ ∧
    t.f 0 TICK_ARMSTAT_pending = 1 ∧
    s.onlyFields t [(0, TICK_ARMSTAT_pending)] ∧
    t.rest = { s.rest with tick := t.tick }) ∧
  (∀ (s : State) (both : Bool) (r : Nat), s.live 0 = true →
    r = (if both then 7 else if s.isRoot = false then 5 else if s.rd64 0 TICK_AT_LO TICK_AT_HI < s.time.num + 17 then 1
    else if s.f 0 TICK_NEXT_P_value < 16 ∨ 2 ^ 24 < s.f 0 TICK_NEXT_P_value then 2
    else if 80 ≤ s.f 0 TICK_NEXT_P_value ∧ (s.f 0 TICK_NEXT_Q_value < 64 ∨ s.f 0 TICK_NEXT_P_value < s.f 0 TICK_NEXT_Q_value + 16) then 3
    else if s.f 0 TICK_NEXT_P_value < 80 ∧ s.lifeCycle ≠ 0 ∧ s.lifeCycle ≠ 3 then 4
    else if s.tick.pend.any (fun c => decide (c.tick < s.time.num + 17)) then 6 else 0) →
    r ≠ 0 →
    ∃ t, exec (.tickArm both) s = .next t ∧
    t.f 0 TICK_ARMSTAT_reason = r ∧
    t.f 0 TICK_EVT_arm_refused = 1 ∧
    s.regsOnly t [(0, TICK_ARMSTAT_reason), (0, TICK_EVT_arm_refused)]) ∧
  (∀ (s : State), s.live 0 = true →
    s.isRoot = true →
    (s.tick.pend.any (fun c => decide (s.time.num + 17 ≤ c.tick))) = true →
    ∃ t, exec .tickCancel s = .next t ∧
    t.tick.pend = none ∧
    t.f 0 TICK_ARMSTAT_pending = 0 ∧
    s.onlyFields t [(0, TICK_ARMSTAT_pending)] ∧
    t.rest = { s.rest with tick := t.tick }) ∧
  (∀ (s : State) (r : Nat), s.live 0 = true →
    s.isRoot = false ∧ r = 5 ∨ s.isRoot = true ∧ s.tick.pend.any (fun c => decide (c.tick < s.time.num + 17)) = true ∧ r = 6 →
    ∃ t, exec .tickCancel s = .next t ∧
    t.f 0 TICK_ARMSTAT_reason = r ∧
    t.f 0 TICK_EVT_arm_refused = 1 ∧
    s.regsOnly t [(0, TICK_ARMSTAT_reason), (0, TICK_EVT_arm_refused)]) ∧
  (∀ (s : State), s.live 0 = true →
    s.isRoot = true →
    s.tick.pend = none →
    ∃ t, exec .tickCancel s = .next t ∧
    t = s.fresh)

/-- While the timebase runs, TICK_BOUNDARY answers a next state whose count and last boundary are the old boundary plus the old P, whose
tick number is one more, and whose P and Q are those of a pending change due at that tick, or else the old ones; where no restart is due
then CMD_STAT.ticked is clear. QUIET_WINDOW_OPEN, in a tick with a quiet window that has not opened, brings the count to its start or leaves
it later, marks it open and interrupts core 0 where IOS is out of reset. SEGMENT_COMMIT of an open quiet window brings the count to 16 tb
after its start, or leaves it later. HEARTBEAT_CHECK, not yet done in a tick of 80 tb or more, brings the count to 16 tb before the
boundary, or leaves it later; with the monitor active and a kick since the last one it clears the misses and the kick; with none, hold clear
and misses below the limit, it counts a miss. Each leaves the tick number and P as they were, but the boundary. -/
def Obligations.TheTickAndItsDuties : Prop :=
  (∀ (s : State) (b : BoundaryIn), s.tick.tb = .running →
    s.dueChange = none →
    ∃ t, exec (.tickBoundary b) s = .next t ∧
    t.time = ⟨s.time.bnd + s.time.p, s.time.num + 1, s.time.bnd + s.time.p, s.time.p, s.time.q⟩ ∧
    (s.cmd.ended = none → t.f 0 CMD_STAT_ticked = 0)) ∧
  (∀ (s : State) (b : BoundaryIn) (c : Change), s.tick.tb = .running →
    s.tick.pend = some c →
    c.tick = s.time.num + 1 →
    periodOk c.p c.q = true →
    ∃ t, exec (.tickBoundary b) s = .next t ∧
    t.time = ⟨s.time.bnd + s.time.p, s.time.num + 1, s.time.bnd + s.time.p, c.p, c.q⟩) ∧
  (∀ (s : State) (q : QuietIn), s.tick.tb = .running →
    80 ≤ s.time.p →
    s.tick.quietOpen = false →
    ∃ t, exec (.quietWindowOpen q) s = .next t ∧
    t.time = { s.time with count := max s.time.count (s.time.bnd + s.time.p - s.time.q) } ∧
    t.tick.quietOpen = true ∧
    (s.live 0 = true → t.f 0 (CORE_IRQ_PEND_quiet 0) = 1)) ∧
  (∀ (s : State) (p : Bool) (l : List (BitVec 16 × Bool)), s.tick.tb = .running →
    80 ≤ s.time.p →
    s.tick.quietOpen = true →
    ∃ t, exec (.segmentCommit p l) s = .next t ∧
    t.time = { s.time with count := max s.time.count (s.time.bnd + s.time.p - s.time.q + 16) } ∧
    t.tick = s.tick ∧
    s.onlyPages t [(0, 0x20), (0, 0x70)] ∧ t.rest = { s.rest with time := t.time, rec_ := t.rec_ }) ∧
  (∀ (s : State), s.tick.tb = .running →
    80 ≤ s.time.p →
    s.tick.hbDone = false →
    s.live 0 = true →
    s.f 0 CORE_HB_CFG_active = 1 →
    s.core.kicked = true →
    ∃ t, exec .heartbeatCheck s = .next t ∧
    t.time = { s.time with count := max s.time.count (s.time.bnd + s.time.p - 16) } ∧
    t.f 0 CORE_HB_STAT_misses = 0 ∧
    t.core.kicked = false ∧
    t.tick.hbDone = true ∧
    s.onlyFields t [(0, CORE_HB_STAT_misses)] ∧ t.rest = { s.rest with time := t.time, core := t.core, tick := t.tick }) ∧
  (∀ (s : State), s.tick.tb = .running →
    80 ≤ s.time.p →
    s.tick.hbDone = false →
    s.live 0 = true →
    s.f 0 CORE_HB_CFG_active = 1 →
    s.core.kicked = false →
    s.f 0 CORE_HB_CFG_hold = 0 →
    s.f 0 CORE_HB_STAT_misses + 1 < s.f 0 CORE_HB_CFG_period →
    ∃ t, exec .heartbeatCheck s = .next t ∧
    t.time = { s.time with count := max s.time.count (s.time.bnd + s.time.p - 16) } ∧
    t.f 0 CORE_HB_STAT_misses = s.f 0 CORE_HB_STAT_misses + 1 ∧
    t.tick.hbDone = true ∧
    s.onlyFields t [(0, CORE_HB_STAT_misses)] ∧ t.rest = { s.rest with time := t.time, tick := t.tick })

/-- SLACK_OVERRUN of a router's monitor on a live die answers a next state in which the die's overrun count is one more, saturating,
TICK_EVT.overrun and NOC_EVT.overrun are set, the router's largest offset is raised to this one and its own overrun count is one more, both
saturating; and where overrun was clear the die, kind, place, amount saturated at 16 bits, and tick are latched. The same of a running
region's monitor on a live fabric die, with the region's count and event. An overrun of a duty ends the duty's lateness on that die. -/
def Obligations.OverrunsAreCountedAndLatched : Prop :=
  (∀ (s : State) (x : Fin 16) (y : Fin 10) (n off amount : Nat) (q : QuietIn), s.live (dieIndex x.val y.val) = true →
    ∃ t, exec (.slackOverrun (.router x.val y.val) n off amount q) s = .next t ∧
    t.f (dieIndex x.val y.val) TICK_OVR_CNT_value = min (s.f (dieIndex x.val y.val) TICK_OVR_CNT_value + 1) (2 ^ 32 - 1) ∧
    t.f (dieIndex x.val y.val) TICK_EVT_overrun = 1 ∧
    t.f (dieIndex x.val y.val) NOC_EVT_overrun = 1 ∧
    (KMap.look t.rtr (x.val + 16 * y.val)).slack = min (max (KMap.look s.rtr (x.val + 16 * y.val)).slack off) 0xFFFFFFFF ∧
    (KMap.look t.rtr (x.val + 16 * y.val)).ovr = min ((KMap.look s.rtr (x.val + 16 * y.val)).ovr + 1) 0xFFFFFFFF ∧
    (s.f (dieIndex x.val y.val) TICK_EVT_overrun = 0 → t.f (dieIndex x.val y.val) TICK_OVR_SRC_where = x.val + 16 * y.val ∧
      t.f (dieIndex x.val y.val) TICK_OVR_SRC_amount = min amount 65535 ∧ t.rd64 (dieIndex x.val y.val) TICK_OVR_TICK_LO TICK_OVR_TICK_HI = n % 2 ^ 64)) ∧
  (∀ (s : State) (d : FabDie) (i : Fin 24) (n off amount : Nat) (q : QuietIn), s.live (d.val + 2) = true →
    s.regionState (d.val + 2) i.val = 5 →
    ∃ t, exec (.slackOverrun (.region (Fin.ofNat 10 (d.val + 2)) i.val) n off amount q) s = .next t ∧
    t.f (d.val + 2) TICK_OVR_CNT_value = min (s.f (d.val + 2) TICK_OVR_CNT_value + 1) (2 ^ 32 - 1) ∧
    t.f (d.val + 2) TICK_EVT_overrun = 1 ∧
    t.f (d.val + 2) (REGIONS_OVR_value i.val) = min (s.f (d.val + 2) (REGIONS_OVR_value i.val) + 1) (2 ^ (REGIONS_OVR_value i.val).len - 1) ∧
    t.f (d.val + 2) REGIONS_EVT_overrun = 1 ∧
    (s.f (d.val + 2) TICK_EVT_overrun = 0 → t.f (d.val + 2) TICK_OVR_SRC_where = i.val ∧ t.f (d.val + 2) TICK_OVR_SRC_kind = 1 ∧
      t.f (d.val + 2) TICK_OVR_SRC_die = d.val + 2 ∧ t.f (d.val + 2) TICK_OVR_SRC_amount = min amount 65535)) ∧
  (∀ (s : State) (d : Die) (c : Fin 5) (n off amount : Nat) (q : QuietIn), s.live d.val = true →
    ∃ t, exec (.slackOverrun (.duty d c.val) n off amount q) s = .next t ∧
    t.lateDuty d.val c.val = false)

/-- On a die out of reset, a write or a read whose page does not exist or whose size or alignment is not that of a word answers its status
(a read with a value of 0) and changes nothing. A word write to TICK_NEXT_P on IOS stores its 25 bits and nothing else, and answers OK; a
read gives the stored word back and changes no register. A word write to TICK_EVT on IOS leaves set, of its eight bits, just those that were
set and are not written 1 and those that an event of the same cycle sets. A read of TICK_USE_MAX gives the value before the event and leaves
what the event of the same cycle puts in; a debug read without consume gives the value and changes nothing. -/
def Obligations.RegisterAccesses : Prop :=
  (∀ (s : State) (d : Die) (a : CtlAccess), s.live d.val = true →
    ctlStatus d.val a.place.toNat a.bytes ≠ 0 →
    ∃ t, exec (.registerWrite d a) s = .next t ∧
    t = s.fresh.emit (.access (ctlStatus d.val a.place.toNat a.bytes)) ∧
    exec (.readClearRegister d a) s = .next (t.emit (.value 0))) ∧
  (∀ (s : State) (a : CtlAccess), s.live 0 = true →
    a.place = 0x010008 →
    a.bytes = 4 →
    ∃ t, exec (.registerWrite 0 a) s = .next t ∧
    t.f 0 TICK_NEXT_P_value = a.data.toNat % 2 ^ 25 ∧
    t.out = [.access 0] ∧
    s.regsOnly t [(0, TICK_NEXT_P_value)]) ∧
  (∀ (s : State) (a : CtlAccess), s.live 0 = true →
    a.place = 0x010008 →
    a.bytes = 4 →
    KMap.look s.hold (holdKey a.src 0 0x010008) = none →
    ∃ t, exec (.readClearRegister 0 a) s = .next t ∧
    t.out = [.access 0, .value (s.rd 0 0x010008)] ∧
    t.regs = s.regs ∧
    t.rest = { s.rest with hold := t.hold }) ∧
  (∀ (s : State) (a : CtlAccess) (k : Fin 8), s.live 0 = true →
    a.place = 0x01005C →
    a.bytes = 4 →
    ∃ t, exec (.registerWrite 0 a) s = .next t ∧
    t.f 0 ⟨TICK_EVT, k.val, 1⟩ = (if a.hw.getLsbD k.val = true ∨ s.f 0 ⟨TICK_EVT, k.val, 1⟩ = 1 ∧ a.data.getLsbD k.val = false then 1 else 0) ∧
    t.out = [.access 0] ∧
    s.regsOnly t [whole 0 TICK_EVT]) ∧
  (∀ (s : State) (a : CtlAccess) (d : Die), s.live d.val = true →
    a.place = 0x010074 →
    a.bytes = 4 →
    KMap.look s.hold (holdKey a.src d.val 0x010074) = none →
    ∃ t, exec (.readClearRegister d a) s = .next t ∧
    t.out = [.access 0, .value (s.rd d.val TICK_USE_MAX)] ∧
    t.rd d.val TICK_USE_MAX = (if a.dbg = true ∧ a.consume = false then s.rd d.val TICK_USE_MAX else a.hw) ∧
    s.onlyFields t [whole d.val TICK_USE_MAX] ∧
    t.rest = { s.rest with hold := t.hold })

/-- On a die out of reset, at an aligned word of a page that the die has, where neither a register nor a word of a core's shared buffer
stands, a write answers OK and changes nothing, and a read answers OK with the value 0 and changes nothing, whatever the initiator, the
data, the debug attribute and the events of the same cycle. -/
def Obligations.UnoccupiedOffsetsReadZero : Prop :=
  (∀ (s : State) (d : Die) (a : CtlAccess), s.live d.val = true →
    ctlStatus d.val a.place.toNat a.bytes = 0 →
    (regRow d.val a.place.toNat).isNone = true →
    sharedWord d.val a.place.toNat = none →
    ∃ t, exec (.registerWrite d a) s = .next t ∧
    t = s.fresh.emit (.access 0) ∧
    exec (.readClearRegister d a) s = .next (t.emit (.value 0)))

/-- While no start runs, or the buffer of records is full, START_STEP_END and START_STEP_TIMEOUT do nothing. With room, S3 that has ended
well, and S10 that has, begin S4 and S11; S14 of a device without an upstream port begins S15; each outside a frozen journal adds its record
with outcome 0 behind the others. S14 with an upstream port that is not UP waits. A timeout at S14 sets step_fail and begins S15 or a
deferred S12. A timeout at S3 outside the safe state stops the start there: the device is in the safe state with cause 5, stopped, and shows
step 3. A timeout at S10 of a start that is not degraded, with fewer than two failures and four restarts before it, counts a restart and,
with power and SafeOsc good and no die hot, stands at S1 again. -/
def Obligations.StartStepsEndFailAndRestart : Prop :=
  (∀ (s : State) (i : StepIn), s.f 0 JOURNAL_STAT_running = 0 ∨ 16 ≤ s.jour.buf.length →
    ∃ t, exec (.startStepEnd i) s = .next t ∧
    t = s.fresh ∧
    exec (.startStepTimeout i) s = .next t) ∧
  (∀ (s : State) (i : StepIn) (k : Nat), k = 3 ∨ k = 10 →
    s.f 0 JOURNAL_STAT_running = 1 →
    s.f 0 JOURNAL_STAT_step = k →
    s.jour.buf.length < 16 →
    s.frozen = false →
    i.ok = true →
    ∃ t, exec (.startStepEnd i) s = .next t ∧
    t.f 0 JOURNAL_STAT_step = k + 1 ∧
    t.jour.buf = s.jour.buf ++ [s.stepRec k 0 (s.variantOf k) 0]) ∧
  (∀ (s : State) (i : StepIn), s.f 0 JOURNAL_STAT_running = 1 →
    s.f 0 JOURNAL_STAT_step = 14 →
    s.jour.buf.length < 16 →
    s.frozen = false →
    8 ≤ s.f 0 ITA_ID_upstream →
    s.start.deferred = false →
    ∃ t, exec (.startStepEnd i) s = .next t ∧
    t.f 0 JOURNAL_STAT_step = 15 ∧
    t.jour.buf = s.jour.buf ++ [s.stepRec 14 0 (s.variantOf 14) 0]) ∧
  (∀ (s : State) (i : StepIn), s.f 0 JOURNAL_STAT_running = 1 →
    s.f 0 JOURNAL_STAT_step = 14 →
    s.f 0 ITA_ID_upstream < 8 →
    s.portState (s.f 0 ITA_ID_upstream) ≠ 4 →
    ∃ t, exec (.startStepEnd i) s = .next t ∧
    t = s.fresh) ∧
  (∀ (s : State) (i : StepIn), s.f 0 JOURNAL_STAT_running = 1 →
    s.f 0 JOURNAL_STAT_step = 14 →
    s.jour.buf.length < 16 →
    ∃ t, exec (.startStepTimeout i) s = .next t ∧
    t.f 0 JOURNAL_STAT_step = (if s.start.deferred then 12 else 15) ∧
    t.f 0 JOURNAL_EVT_step_fail = 1) ∧
  (∀ (s : State) (i : StepIn), s.f 0 JOURNAL_STAT_running = 1 →
    s.f 0 JOURNAL_STAT_step = 3 →
    s.jour.buf.length < 16 →
    s.pwr.safe = false →
    ∃ t, exec (.startStepTimeout i) s = .next t ∧
    t.pwr.safe = true ∧
    t.f 0 PWR_SAFE_cause = 5 ∧
    t.f 0 JOURNAL_STAT_stopped = 1 ∧
    t.f 0 JOURNAL_STAT_running = 0 ∧
    t.f 0 JOURNAL_STAT_step = 3 ∧
    t.f 0 JOURNAL_STAT_cause = 3 ∧
    t.f 0 JOURNAL_STICKY_stop_step = 3) ∧
  (∀ (s : State) (i : StepIn), s.f 0 JOURNAL_STAT_running = 1 →
    s.f 0 JOURNAL_STAT_step = 10 →
    s.jour.buf.length < 16 →
    s.degraded = false →
    s.failsOf 10 < 2 →
    s.f 0 JOURNAL_STICKY_restarts < 4 →
    s.pwr.railsGood = true ∧ s.pwr.oscReady = true ∧ s.pwr.clkHeld = false ∧ s.pwr.hot = [] →
    ∃ t, exec (.startStepTimeout i) s = .next t ∧
    t.f 0 JOURNAL_STICKY_restarts = s.f 0 JOURNAL_STICKY_restarts + 1 ∧
    t.f 0 JOURNAL_STAT_running = 1 ∧
    t.f 0 JOURNAL_STAT_step = 1 ∧
    t.tick.tb = .off)

/-- With a record waiting, the journal scanned and not frozen, no erase under way and a current sector that has not failed and keeps a free
slot after this one, JOURNAL_RECORD_WRITE takes the oldest record off the buffer and puts it in the sector's next slot; where power is cut
there, that slot holds no readable record; where programming fails, the sector is retired. With nothing waiting it does nothing.
ERASE_JOURNAL with IOS out of reset and the journal not frozen starts the erase and a checkpoint of the last accepted counter; with it
frozen it does nothing. JOURNAL_ERASE_DONE ends an erase whose checkpoint has been written, and does nothing otherwise. -/
def Obligations.TheJournalIsWrittenAndErased : Prop :=
  (∀ (s : State) (p : Prog) (bad : List (Fin 64)) (k : Nat) (r : JRec) (l : List JRec), p ≠ .failed →
    s.jour.buf = r :: l →
    s.frozen = false →
    s.jour.scanned = true →
    s.jour.erase ≠ 2 →
    s.jour.cur = some k →
    (s.sector k).failed = false →
    (s.sector k).recs.length + 1 < 2047 →
    ∃ t, exec (.journalRecordWrite p bad) s = .next t ∧
    t.jour.buf = l ∧
    (t.sector k).recs = (s.sector k).recs ++ [if p = .done then some r else none] ∧
    (t.sector k).hdr = (s.sector k).hdr ∧
    t.regs = s.regs ∧
    t.rest = { s.rest with jour := t.jour, nv := t.nv }) ∧
  (∀ (s : State) (bad : List (Fin 64)) (k : Nat) (r : JRec) (l : List JRec), s.jour.buf = r :: l →
    s.frozen = false →
    s.jour.scanned = true →
    s.jour.erase ≠ 2 →
    s.jour.cur = some k →
    (s.sector k).failed = false →
    (s.sector k).recs.length < 2047 →
    ∃ t, exec (.journalRecordWrite .failed bad) s = .next t ∧
    (t.sector k).retired = true ∧
    t.f 0 JOURNAL_EVT_sector_retired = 1 ∧
    s.onlyPages t [(0, 0x07)] ∧ t.rest = { s.rest with jour := t.jour, nv := t.nv }) ∧
  (∀ (s : State) (p : Prog) (bad : List (Fin 64)), s.jour.buf = [] →
    ∃ t, exec (.journalRecordWrite p bad) s = .next t ∧
    t = s.fresh) ∧
  (∀ (s : State), s.live 0 = true →
    s.frozen = false →
    ∃ t, exec .eraseJournal s = .next t ∧
    t.jour.erase = 1 ∧
    t.f 0 JOURNAL_STAT_erasing = 1 ∧
    t.cmd.ckpt = some (s.rd64 0 CMD_LAST_LO CMD_LAST_HI) ∧
    t.f 0 CMD_STAT_ckpt = 1 ∧
    t.jour.buf.length = s.jour.buf.length + 1 ∧
    s.onlyPages t [(0, 0x07), (0, 0x08)] ∧ t.rest = { s.rest with jour := t.jour, cmd := t.cmd }) ∧
  (∀ (s : State), s.frozen = true →
    ∃ t, exec .eraseJournal s = .next t ∧
    t = s.fresh) ∧
  (∀ (s : State) (bad : List (Fin 64)), s.jour.erase = 2 →
    ∃ t, exec (.journalEraseDone bad) s = .next t ∧
    t.jour.erase = 0 ∧
    t.f 0 JOURNAL_STAT_erasing = 0 ∧
    t.f 0 JOURNAL_EVT_erase_done = 1 ∧
    s.onlyPages t [(0, 0x07)] ∧ t.rest = { s.rest with jour := t.jour, nv := t.nv }) ∧
  (∀ (s : State) (bad : List (Fin 64)), s.jour.erase ≠ 2 →
    ∃ t, exec (.journalEraseDone bad) s = .next t ∧
    t = s.fresh)

/-- With IOS out of reset and nothing new requested, WAKE_GOVERNOR_ADMIT of a rail with no ramp whose first waiting event fits the budget of
the last microsecond admits that event: it leaves the queue and its step counts against the budget; an event that waited sets wg_delay. An
event that does not fit stays in the queue. Events waiting are shown up to 65,535. RELEASE_RAMP_STEP of a die whose ramp's next count has
come begins the next step, and after step 7 ends the ramp; before that count, or without a ramp, it does nothing. PERSONALITY_DEADLINE at
S12 of a start that is not degraded and waits for a host personality, once the deadline has come, leaves the start with the shell alone,
sets the deadline event, and goes on to the next step. -/
def Obligations.WakesRampsAndTheDeadline : Prop :=
  (∀ (s : State) (rail : Fin 14) (e : WakeEv) (w : Nat), s.live 0 = true →
    s.wake.queue.find? (fun x => decide (x.1.rail = rail.val)) = some (e, w) →
    (KMap.look s.wake.ramp rail.val).1 = 0 →
    s.railSteps rail.val + e.step ≤ 20 * s.wakeLimit →
    ∃ t, exec (.wakeGovernorAdmit [] rail) s = .next t ∧
    t.wake.queue = s.wake.queue.erase (e, w) ∧
    t.wake.done.head? = some (rail.val, s.time.count, e.step) ∧
    t.f 0 JOURNAL_WG_QUEUED_events = min 65535 (s.wake.queue.erase (e, w)).length ∧
    (w < s.time.count → t.f 0 JOURNAL_EVT_wg_delay = 1) ∧
    s.onlyPages t [(0, 0x07)] ∧ t.rest = { s.rest with wake := t.wake, start := t.start }) ∧
  (∀ (s : State) (rail : Fin 14) (e : WakeEv) (w : Nat), s.live 0 = true →
    s.wake.queue.find? (fun x => decide (x.1.rail = rail.val)) = some (e, w) →
    (KMap.look s.wake.ramp rail.val).1 ≠ 0 ∨ 20 * s.wakeLimit < s.railSteps rail.val + e.step →
    ∃ t, exec (.wakeGovernorAdmit [] rail) s = .next t ∧
    t.wake = s.wake ∧
    s.regsOnly t [(0, JOURNAL_WG_QUEUED_events)]) ∧
  (∀ (s : State) (d : FabDie) (j n c : Nat), KMap.look s.wake.ramp (d.val + 2) = (j, n, c) →
    0 < j →
    c + j * n ≤ s.time.count →
    ∃ t, exec (.releaseRampStep d) s = .next t ∧
    KMap.look t.wake.ramp (d.val + 2) = (if 7 ≤ j then (0, 0, 0) else (j + 1, n, c)) ∧
    t.regs = s.regs ∧
    t.rest = { s.rest with wake := t.wake }) ∧
  (∀ (s : State) (d : FabDie) (j n c : Nat), KMap.look s.wake.ramp (d.val + 2) = (j, n, c) →
    j = 0 ∨ s.time.count < c + j * n →
    ∃ t, exec (.releaseRampStep d) s = .next t ∧
    t = s.fresh) ∧
  (∀ (s : State) (c : Nat), s.atStep 12 = true →
    s.degraded = false →
    s.hostPers = true →
    s.f 0 CFG_STAT_pers_up = 0 →
    s.jour.buf.length < 16 →
    s.start.deadline = some c →
    c + s.f 0 CFG_PDEADLINE_value * 1600000 ≤ s.time.count →
    ∃ t, exec .personalityDeadline s = .next t ∧
    t.f 0 CFG_STAT_shell_only = 1 ∧
    t.f 0 CFG_EVT_deadline = 1 ∧
    t.f 0 JOURNAL_STAT_step = (if s.start.deferred then 15 else 13))

/-- With IOS out of reset, LOAD_PERSONALITY, and LOAD_REGION of a source of its own, with a load running set CFG_EVT.busy and change nothing
else; with none running and a source that needs no partition they start the load: busy, its source shown, no progress. With a load of a type
other than a device header whose header has not been read, CONTAINER_HEADER_CHECK finds the reason of R419 (hdrReason): for none, the load
keeps the header, stands in its next phase, and shows its length and the header's bytes as progress; for another, the load has ended,
CFG_STAT shows the reason and is not busy, and the rejected event is set. With no load, or a header already accepted, the check does
nothing. -/
def Obligations.LoadsBeginCheckedAndRejected : Prop :=
  (∀ (s : State) (src : Fin 4) (addr : BitVec 48) (digest : BitVec 384), s.live 0 = true →
    s.fab.load ≠ none →
    ∃ t, exec (.loadPersonality src addr digest) s = .next t ∧
    t.f 0 CFG_EVT_busy = 1 ∧
    s.regsOnly t [(0, CFG_EVT_busy)] ∧
    (2 ≤ src.val → exec (.loadRegion src addr digest) s = .next t)) ∧
  (∀ (s : State) (src : Fin 4) (addr : BitVec 48) (digest : BitVec 384), s.live 0 = true →
    s.fab.load = none →
    2 ≤ src.val →
    ∃ t, exec (.loadPersonality src addr digest) s = .next t ∧
    t.fab.load = some { kind := 5, src := src.val, addr := addr.toNat, digest := some digest, atS12 := !s.start.released } ∧
    t.f 0 CFG_STAT_busy = 1 ∧
    t.f 0 CFG_STAT_src = src.val ∧
    t.f 0 CFG_PROGRESS_value = 0 ∧
    s.onlyPages t [(0, 0x06)] ∧ t.rest = { s.rest with fab := t.fab, start := t.start }) ∧
  (∀ (s : State) (src : Fin 4) (addr : BitVec 48) (digest : BitVec 384), s.live 0 = true →
    s.fab.load = none →
    2 ≤ src.val →
    ∃ t, exec (.loadRegion src addr digest) s = .next t ∧
    t.fab.load = some { kind := 6, src := src.val, addr := addr.toNat, digest := some digest } ∧
    t.f 0 CFG_STAT_busy = 1 ∧
    t.f 0 CFG_STAT_src = src.val ∧
    t.f 0 CFG_PROGRESS_value = 0 ∧
    s.onlyPages t [(0, 0x06)] ∧ t.rest = { s.rest with fab := t.fab, start := t.start }) ∧
  (∀ (s : State) (h : Header) (l : Load), s.fab.load = some l →
    l.hdr = none →
    l.kind ≠ 1 →
    ∃ t, exec (.containerHeaderCheck h) s = .next t ∧
    (hdrReason l h s = 0 → ∃ m, t.fab.load = some m ∧ m.hdr = some h ∧ m.phase = 1 ∧ m.kind = l.kind ∧ t.rd 0 CFG_TOTAL = h.length ∧
      t.rd 0 CFG_PROGRESS = 32768) ∧
    (hdrReason l h s ≠ 0 → t.fab.load = none ∧ t.f 0 CFG_STAT_reject = hdrReason l h s ∧ t.f 0 CFG_STAT_busy = 0 ∧ t.f 0 CFG_EVT_rejected = 1)) ∧
  (∀ (s : State) (h : Header), s.fab.load = none ∨ s.fab.load.any (fun l => l.hdr.isSome) = true →
    ∃ t, exec (.containerHeaderCheck h) s = .next t ∧
    t = s.fresh)

/-- With a region of a live, unfenced die LOADING and its die's engine ready, a frame record of a frame segment not yet done, whose check is
that of R416 over its address and data and whose address names the segment's region, is stored at its physical place, counts one frame, and
shows the engine busy with that region; with a bad check or another region the load ends with abort reason 1 and every region it names on a
reachable die FAILED. A segment that ends before its length ends the load with reason 3, and so does a source that ends before the header of
a load other than a device header's; a whole segment whose digest or tag does not hold ends it with reason 2, and one that holds, not the
last, is done, its length shown as progress. -/
def Obligations.FramesAndSegmentsAreChecked : Prop :=
  (∀ (s : State) (k : Nat) (addr : Word) (data : BitVec 4096) (l : Load) (x : Seg), s.fab.load = some l →
    l.seg k = some x →
    x.ty = 1 →
    l.done.contains k = false →
    s.regionState x.die.toNat x.region.toNat = 2 →
    KMap.look s.fab.engReady x.die.toNat = true →
    s.dieFenced x.die.toNat = false →
    addr.toNat / 2 ^ 16 % 32 = x.region.toNat →
    x.die.toNat < 10 →
    ∃ t, exec (.frameRecord k addr data (frameCrc addr data)) s = .next t ∧
    KMap.look t.fab.frame (frameKey x.die.toNat x.region.toNat (s.physColumn x.die.toNat (addr.toNat % 256)) (addr.toNat / 256 % 256)) = data ∧
    t.f x.die.toNat CFG_ENG_FRAMES_count = min (s.f x.die.toNat CFG_ENG_FRAMES_count + 1) (2 ^ 32 - 1) ∧
    t.f x.die.toNat CFG_ENG_STAT_busy = 1 ∧
    t.f x.die.toNat CFG_ENG_STAT_region = x.region.toNat ∧
    t.f 0 CFG_PROGRESS_value = min (s.f 0 CFG_PROGRESS_value + 520) (2 ^ 32 - 1) ∧
    s.onlyPages t [(0, 0x06), (x.die.toNat, 0x06)] ∧ t.rest = { s.rest with fab := t.fab }) ∧
  (∀ (s : State) (k : Nat) (addr : Word) (data : BitVec 4096) (crc : Word) (l : Load) (x : Seg), s.fab.load = some l →
    l.seg k = some x →
    x.ty = 1 →
    l.done.contains k = false →
    s.regionState x.die.toNat x.region.toNat = 2 →
    KMap.look s.fab.engReady x.die.toNat = true →
    s.dieFenced x.die.toNat = false →
    addr.toNat / 2 ^ 16 % 32 ≠ x.region.toNat ∨ crc ≠ frameCrc addr data →
    ∃ t, exec (.frameRecord k addr data crc) s = .next t ∧
    t.fab.load = none ∧
    t.f 0 CFG_STAT_abort = 1 ∧
    t.f 0 CFG_STAT_busy = 0 ∧
    t.f 0 CFG_EVT_aborted = 1) ∧
  (∀ (s : State) (k : Nat) (stored : List Byte) (l : Load) (x : Seg), s.fab.load = some l →
    l.phase = 1 →
    l.seg k = some x →
    l.done.contains k = false →
    stored.length < x.len.toNat →
    ∃ t, exec (.segmentVerify k stored) s = .next t ∧
    t.fab.load = none ∧
    t.f 0 CFG_STAT_abort = 3 ∧
    t.f 0 CFG_STAT_busy = 0 ∧
    t.f 0 CFG_EVT_aborted = 1) ∧
  (∀ (s : State) (k : Nat) (l : Load), s.fab.load = some l →
    l.hdr = none →
    l.kind ≠ 1 →
    ∃ t, exec (.segmentVerify k []) s = .next t ∧
    t.fab.load = none ∧
    t.f 0 CFG_STAT_abort = 3 ∧
    t.f 0 CFG_EVT_aborted = 1) ∧
  (∀ (s : State) (k : Nat) (stored : List Byte) (l : Load) (h : Header) (x : Seg), s.fab.load = some l →
    l.phase = 1 →
    l.hdr = some h →
    h.segs[k]? = some x →
    l.done.contains k = false →
    x.len.toNat ≤ stored.length →
    ∃ t, exec (.segmentVerify k stored) s = .next t ∧
    (segPlain x stored s = none → t.fab.load = none ∧ t.f 0 CFG_STAT_abort = 2 ∧ t.f 0 CFG_EVT_aborted = 1) ∧
    (segPlain x stored s ≠ none → l.done.length + 1 < h.segs.length → t.rd 0 CFG_PROGRESS = x.off + x.len ∧
      t.fab.load.map (fun m => (m.done, m.phase, m.hdr)) = some (k :: l.done, 1, some h)) ∧
    (segPlain x stored s ≠ none → l.kind ≠ 2 → l.kind ≠ 3 → l.done.length + 1 = h.segs.length → t.fab.load.map (fun m => m.phase) = some 2))

/-- With a load whose header names it, a DRAINING region whose logic has answered every accepted request enters LOADING, isolated, with
nothing waiting; a region the load only clears enters UNLOADED. A drain that times out goes the same way, each unanswered request answered
"region reload" and counted, and drain_timeout is set. In any other state of the region both do nothing. With a load in its fill phase,
REGION_FILL_DONE without a bad block leaves the load waiting for release with each region it names READY, and with a bad block ends the load
with reason 4; in another phase it does nothing. POWER_ON_FILL_DONE of a live fabric die makes its engine ready. -/
def Obligations.RegionsDrainAndFill : Prop :=
  (∀ (s : State) (r : Fin 192) (l : Load) (answers : List (Byte × List Line)), s.fab.load = some l →
    l.hdr.isSome = true →
    s.regionState (regionDie r.val) (regionLocal r.val) = 1 →
    (s.regionWaiting (regionDie r.val) (regionLocal r.val)).length = answers.length →
    ∃ t, exec (.regionDrainIdle r answers) s = .next t ∧
    t.regionState (regionDie r.val) (regionLocal r.val) = (if l.regions.contains (regionDie r.val, regionLocal r.val) then 2 else 0) ∧
    t.rd (regionDie r.val) (REGIONS_ISO (regionLocal r.val)) = 7 ∧
    t.regionWaiting (regionDie r.val) (regionLocal r.val) = []) ∧
  (∀ (s : State) (r : Fin 192) (l : Load), s.fab.load = some l →
    l.hdr.isSome = true →
    s.regionState (regionDie r.val) (regionLocal r.val) = 1 →
    ∃ t, exec (.regionDrainTimeout r) s = .next t ∧
    t.regionState (regionDie r.val) (regionLocal r.val) = (if l.regions.contains (regionDie r.val, regionLocal r.val) then 2 else 0) ∧
    t.regionWaiting (regionDie r.val) (regionLocal r.val) = [] ∧
    t.f (regionDie r.val) REGIONS_EVT_drain_timeout = 1 ∧
    t.f (regionDie r.val) (REGIONS_ABORT_drained (regionLocal r.val)) = min (s.f (regionDie r.val) (REGIONS_ABORT_drained (regionLocal r.val)) +
      (s.regionWaiting (regionDie r.val) (regionLocal r.val)).length) (2 ^ (REGIONS_ABORT_drained 0).len - 1)) ∧
  (∀ (s : State) (r : Fin 192) (answers : List (Byte × List Line)), s.regionState (regionDie r.val) (regionLocal r.val) ≠ 1 →
    ∃ t, exec (.regionDrainIdle r answers) s = .next t ∧
    t = s.fresh ∧
    exec (.regionDrainTimeout r) s = .next t) ∧
  (∀ (s : State) (init : List (Blk × Nat × BitVec 64)) (binds : List ChanBind) (busy : List (FabDie × Fin 8)) (l : Load) (b : Blk) (w : Nat), s.fab.load = some l →
    l.phase = 2 →
    ∃ t, exec (.regionFillDone init binds busy (some (b, w))) s = .next t ∧
    t.fab.load = none ∧
    t.f 0 CFG_STAT_abort = 4 ∧
    t.f 0 CFG_STAT_busy = 0 ∧
    t.f 0 CFG_EVT_aborted = 1) ∧
  (∀ (s : State) (init : List (Blk × Nat × BitVec 64)) (binds : List ChanBind) (busy : List (FabDie × Fin 8)) (l : Load), s.fab.load = some l →
    l.phase = 2 →
    ∃ t, exec (.regionFillDone init binds busy none) s = .next t ∧
    t.fab.load = some { l with phase := 3, settings := [] }) ∧
  (∀ (s : State) (init : List (Blk × Nat × BitVec 64)) (binds : List ChanBind) (busy : List (FabDie × Fin 8)) (bad : Option (Blk × Nat)), (s.fab.load.any (fun l => decide (l.phase = 2))) = false →
    ∃ t, exec (.regionFillDone init binds busy bad) s = .next t ∧
    t = s.fresh) ∧
  (∀ (s : State) (d : FabDie) (bad : List (Bool × Nat × Nat × Nat)), s.live (d.val + 2) = true →
    ∃ t, exec (.powerOnFillDone d bad) s = .next t ∧
    KMap.look t.fab.engReady (d.val + 2) = true ∧
    (KMap.look t.mem.report (d.val + 2)).length = (KMap.look s.mem.report (d.val + 2)).length + bad.length ∧
    t.regs = s.regs ∧
    t.rest = { s.rest with mem := t.mem, fab := t.fab })

/-- A push by the host or the Hawkmoth of a free half of 1 to 16,384 bytes while staging is open, the load's header not yet read, adds its
bytes and leaves the half not free; by another initiator, or while staging is closed, it sets stg_refused only. An abort by one of the two,
and a timeout, end the open load with reason 3. A transfer that the Hawkmoth starts while none runs, inside the flash, for a read of 1 to
65,536 bytes that fit the buffer, for a program or erase outside the protected ranges too, is busy with its operation and no reason; by
another initiator it sets reason 1 and refused only. A transfer that fails shows its reason and sets the error event, leaves every flash
byte outside the range that it was to program or erase as it was, and, where it is no read, the cores' memories; a read that succeeds puts
the flash's bytes into the buffer, a program leaves the bits that both the flash and the buffer hold, an erase leaves 64 KiB of ones,
outside the protected ranges. -/
def Obligations.StagingAndFlashTransfers : Prop :=
  (∀ (s : State) (i : Init) (half : Bool) (len : Nat), mayStage i = true →
    s.f 0 CFG_STG_STAT_open = 1 →
    s.f 0 (stgFree half) = 1 →
    0 < len ∧ len ≤ 16384 →
    (s.fab.load.all (fun l => l.hdr.isNone)) = true →
    ∃ t, exec (.stagingPush i half len false false) s = .next t ∧
    t.fab.staged = s.fab.staged + len ∧
    t.f 0 (stgFree half) = 0 ∧
    s.onlyFields t [(0, stgFree half)] ∧
    t.rest = { s.rest with fab := t.fab }) ∧
  (∀ (s : State) (i : Init) (half : Bool) (len : Nat), mayStage i = false ∨ s.f 0 CFG_STG_STAT_open = 0 →
    ∃ t, exec (.stagingPush i half len false false) s = .next t ∧
    t.f 0 CFG_EVT_stg_refused = 1 ∧
    s.regsOnly t [(0, CFG_EVT_stg_refused)] ∧
    exec (.stagingAbort i) s = .next t) ∧
  (∀ (s : State) (i : Init), mayStage i = true →
    s.f 0 CFG_STG_STAT_open = 1 →
    s.fab.load.isSome = true →
    ∃ t, exec (.stagingAbort i) s = .next t ∧
    t.fab.load = none ∧
    t.f 0 CFG_STAT_abort = 3 ∧
    t.f 0 CFG_STG_STAT_open = 0 ∧
    exec .stagingTimeout s = .next t) ∧
  (∀ (s : State) (i : Init) (flash : Bool), isHawkmoth i = true →
    s.f 0 NVM_CMDSTAT_busy = 0 →
    0 < s.f 0 NVM_LEN_len ∧ s.f 0 NVM_LEN_len ≤ 65536 ∧ s.f 0 NVM_BUF_offset + s.f 0 NVM_LEN_len ≤ 0x40000 →
    s.f 0 NVM_ADDR_addr + s.f 0 NVM_LEN_len ≤ (if flash then s.f 0 NVM_SIZE_nvm1 else s.f 0 NVM_SIZE_nvm0) * 0x100000 →
    ∃ t, exec (.nvmRead i flash) s = .next t ∧
    t.f 0 NVM_CMDSTAT_busy = 1 ∧
    t.f 0 NVM_CMDSTAT_op = 1 ∧
    t.f 0 NVM_CMDSTAT_reason = 0 ∧
    t.nv.transfer = some (flash, s.f 0 NVM_ADDR_addr, s.f 0 NVM_LEN_len, s.f 0 NVM_BUF_offset) ∧
    s.onlyFields t [(0, NVM_CMDSTAT_busy), (0, NVM_CMDSTAT_op), (0, NVM_CMDSTAT_reason)] ∧ t.rest = { s.rest with nv := t.nv }) ∧
  (∀ (s : State) (i : Init) (flash : Bool), isHawkmoth i = true →
    s.f 0 NVM_CMDSTAT_busy = 0 →
    0 < s.f 0 NVM_LEN_len ∧ s.f 0 NVM_LEN_len ≤ 65536 ∧ s.f 0 NVM_BUF_offset + s.f 0 NVM_LEN_len ≤ 0x40000 →
    s.f 0 NVM_ADDR_addr + s.f 0 NVM_LEN_len ≤ (if flash then s.f 0 NVM_SIZE_nvm1 else s.f 0 NVM_SIZE_nvm0) * 0x100000 →
    nvmProtected flash (s.f 0 NVM_ADDR_addr) (s.f 0 NVM_ADDR_addr + s.f 0 NVM_LEN_len) = false →
    ∃ t, exec (.nvmProgram i flash) s = .next t ∧
    t.f 0 NVM_CMDSTAT_busy = 1 ∧
    t.f 0 NVM_CMDSTAT_op = 2 ∧
    t.f 0 NVM_CMDSTAT_reason = 0 ∧
    s.onlyFields t [(0, NVM_CMDSTAT_busy), (0, NVM_CMDSTAT_op), (0, NVM_CMDSTAT_reason)] ∧ t.rest = { s.rest with nv := t.nv }) ∧
  (∀ (s : State) (i : Init) (flash : Bool), isHawkmoth i = true →
    s.f 0 NVM_CMDSTAT_busy = 0 →
    s.f 0 NVM_ADDR_addr % 0x10000 = 0 →
    s.f 0 NVM_ADDR_addr + 0x10000 ≤ (if flash then s.f 0 NVM_SIZE_nvm1 else s.f 0 NVM_SIZE_nvm0) * 0x100000 →
    nvmProtected flash (s.f 0 NVM_ADDR_addr) (s.f 0 NVM_ADDR_addr + 0x10000) = false →
    ∃ t, exec (.nvmErase i flash) s = .next t ∧
    t.f 0 NVM_CMDSTAT_busy = 1 ∧
    t.f 0 NVM_CMDSTAT_op = 3 ∧
    t.f 0 NVM_CMDSTAT_reason = 0 ∧
    s.onlyFields t [(0, NVM_CMDSTAT_busy), (0, NVM_CMDSTAT_op), (0, NVM_CMDSTAT_reason)] ∧ t.rest = { s.rest with nv := t.nv }) ∧
  (∀ (s : State) (i : Init) (flash : Bool), isHawkmoth i = false →
    ∃ t, exec (.nvmErase i flash) s = .next t ∧
    t.f 0 NVM_CMDSTAT_reason = 1 ∧
    t.f 0 NVM_EVT_refused = 1 ∧
    s.regsOnly t [(0, NVM_CMDSTAT_reason), (0, NVM_EVT_refused)] ∧
    exec (.nvmRead i flash) s = .next t ∧
    exec (.nvmProgram i flash) s = .next t) ∧
  (∀ (s : State) (reason : Fin 6) (flash : Bool) (a n o : Nat) (g : Bool) (b : Nat), s.nv.transfer = some (flash, a, n, o) →
    reason ≠ 0 →
    a + n + 0x10000 ≤ 2 ^ 30 →
    b < 2 ^ 30 →
    g ≠ flash ∨ b < a ∨ a + (if s.f 0 NVM_CMDSTAT_op = 1 then 0 else if s.f 0 NVM_CMDSTAT_op = 2 then n else 0x10000) ≤ b →
    ∃ t, exec (.nvmTransferDone reason) s = .next t ∧
    t.flashByte g b = s.flashByte g b ∧
    (s.f 0 NVM_CMDSTAT_op ≠ 1 → t.core = s.core) ∧
    t.f 0 NVM_CMDSTAT_busy = 0 ∧
    t.f 0 NVM_CMDSTAT_reason = reason.val ∧
    t.f 0 NVM_EVT_error = 1 ∧
    s.onlyFields t [(0, NVM_CMDSTAT_busy), (0, NVM_CMDSTAT_reason), (0, NVM_EVT_error)] ∧ t.rest = { s.rest with nv := t.nv, core := t.core, freeCtr := t.freeCtr }) ∧
  (∀ (s : State) (flash : Bool) (a n o k : Nat), s.nv.transfer = some (flash, a, n, o) →
    s.f 0 NVM_CMDSTAT_op = 1 ∨ s.f 0 NVM_CMDSTAT_op = 2 →
    o + n ≤ 0x40000 →
    nvmProtected flash a (a + n) = false →
    flash = false ∨ a + n ≤ 2 ^ 30 →
    k < n →
    ∃ t, exec (.nvmTransferDone 0) s = .next t ∧
    t.f 0 NVM_CMDSTAT_busy = 0 ∧
    t.f 0 NVM_EVT_done = 1 ∧
    (s.f 0 NVM_CMDSTAT_op = 1 → t.dsramByte 0 (o + k) = (s.flashByte flash (a + k)).toNat) ∧
    (s.f 0 NVM_CMDSTAT_op = 2 → t.flashByte flash (a + k) = s.flashByte flash (a + k) &&& BitVec.ofNat 8 (s.dsramByte 0 (o + k))) ∧
    s.onlyFields t [(0, NVM_CMDSTAT_busy), (0, NVM_CMDSTAT_reason), (0, NVM_EVT_done)] ∧ t.rest = { s.rest with nv := t.nv, core := t.core }) ∧
  (∀ (s : State) (flash : Bool) (a n o k : Nat), s.nv.transfer = some (flash, a, n, o) →
    s.f 0 NVM_CMDSTAT_op = 3 →
    nvmProtected flash a (a + 0x10000) = false →
    k < 0x10000 →
    ∃ t, exec (.nvmTransferDone 0) s = .next t ∧
    t.f 0 NVM_CMDSTAT_busy = 0 ∧
    t.f 0 NVM_EVT_done = 1 ∧
    t.flashByte flash (a + k) = 0xFF ∧
    s.onlyFields t [(0, NVM_CMDSTAT_busy), (0, NVM_CMDSTAT_reason), (0, NVM_EVT_done)] ∧ t.rest = { s.rest with nv := t.nv })

/-- For every fabric die, block of a mapped column in a RUNNING or DRAINING region of a live die, mode, operands and signals: if the checks
pass on what the block holds and on the cascade that arrives with its residues (and, in F32, neither the held value nor the cascade is a
stored subnormal, which no result is), then one cycle of the block without an upset passes on its value with no SUSPECT, makes no report,
and sets no sticky bit; and the checks pass on what it then holds, with any cascade whose own check passes. No operand, no wrap of the
accumulator or of the pre-adder, no clear, no hold and no rounding makes a false alarm. -/
def Obligations.FaultFreeArithmeticNeverReports : Prop :=
  ∀ (s : State) (d : FabDie) (col : Fin 13) (row : Fin 300) (g : CmbCfg) (x : CmbIn) (i : Nat) (k : CmbBlk),
    s.cmbRegion (d.val + 2) col.val row.val = some i →
    s.live (d.val + 2) = true →
    s.regionState (d.val + 2) i = 5 ∨ s.regionState (d.val + 2) i = 1 →
    k = KMap.look s.cmb.blk (cmbKey (d.val + 2) col.val row.val) →
    cmbChecks g x k = [] →
    (g.mode = 3 → x.zsel = 1 → fExp (k.acc.toNat % 2 ^ 32) = 0 → fFrac (k.acc.toNat % 2 ^ 32) = 0) →
    (g.mode = 3 → x.zsel = 3 → fExp (x.cin.toNat % 2 ^ 32) = 0 → fFrac (x.cin.toNat % 2 ^ 32) = 0) →
    ∃ t, exec (.cmbResidueMismatch d col row g x {}) s = .next t ∧ t.cmb.report = s.cmb.report ∧ t.regs = s.regs ∧
      (∃ n : CmbBlk, KMap.look t.cmb.blk (cmbKey (d.val + 2) col.val row.val) = n ∧
        t.out = [.cmb n.acc n.r0 n.r1 false n.ovf n.flags] ∧
        (x.ce = false → n = k) ∧ (x.ce = true → x.clr = true → n.acc = 0 ∧ n.ovf = false) ∧
        (∀ y : CmbIn, (y.zsel = 3 → valueResidue g.mode.val false y.cin.toNat = y.cinR0.toNat ∧
            (g.mode = 1 → valueResidue g.mode.val true y.cin.toNat = y.cinR1.toNat)) → cmbChecks g y n = []))

/-- A cycle of a block in a RUNNING or DRAINING region of a live die whose checks fail after its upset passes on its value with SUSPECT,
sets the block's sticky bit, and, where the block has not reported in this tick, puts a report behind the others of the die. A block of a
region in another state is unclocked. The oldest report, taken alone, counts in its column's count and the total, and where it is the
block's first it enters the record FIFO, or, with 32 records there, counts as dropped. A pop gives the oldest record, removes it and
captures its tick; a debug read gives it and removes nothing; with no record the value is 0. -/
def Obligations.MismatchesAreReportedAndRecorded : Prop :=
  (∀ (s : State) (d : FabDie) (col : Fin 13) (row : Fin 300) (g : CmbCfg) (x : CmbIn) (u : CmbUpset) (i : Nat) (k : CmbBlk), s.cmbRegion (d.val + 2) col.val row.val = some i →
    s.live (d.val + 2) = true →
    s.regionState (d.val + 2) i = 5 ∨ s.regionState (d.val + 2) i = 1 →
    k = (cmbCycle g x (s.free.getLsbD 0) (KMap.look s.cmb.blk (cmbKey (d.val + 2) col.val row.val))).upset u →
    cmbChecks g x k ≠ [] →
    ∃ t, exec (.cmbResidueMismatch d col row g x u) s = .next t ∧
    t.out = [.cmb k.acc k.r0 k.r1 true k.ovf k.flags] ∧
    t.f (d.val + 2) ⟨CMBERR_STICKY col.val (row.val / 32), row.val % 32, 1⟩ = 1 ∧
    s.onlyFields t [(d.val + 2, ⟨CMBERR_STICKY col.val (row.val / 32), row.val % 32, 1⟩)] ∧
    (KMap.look t.cmb.report (d.val + 2)).length = (KMap.look s.cmb.report (d.val + 2)).length + (if k.told = s.time.num + 1 then 0 else 1) ∧
    t.rest = { s.rest with cmb := t.cmb, freeCtr := t.freeCtr }) ∧
  (∀ (s : State) (d : FabDie) (col : Fin 13) (row : Fin 300) (g : CmbCfg) (x : CmbIn) (u : CmbUpset), (match s.cmbRegion (d.val + 2) col.val row.val with
    | some i => s.regionState (d.val + 2) i != 5 && s.regionState (d.val + 2) i != 1
    | none => true) = true →
    ∃ t, exec (.cmbResidueMismatch d col row g x u) s = .next t ∧
    t = s.fresh) ∧
  (∀ (s : State) (d : FabDie) (r : CmbReport) (l : List CmbReport), KMap.look s.cmb.report (d.val + 2) = r :: l →
    r.col < 13 →
    r.region < 24 →
    ∃ t, exec (.cmbMismatchReport d 1) s = .next t ∧
    KMap.look t.cmb.report (d.val + 2) = l ∧
    t.f (d.val + 2) CMBERR_TOTAL_value = min (s.f (d.val + 2) CMBERR_TOTAL_value + 1) (2 ^ 32 - 1) ∧
    t.f (d.val + 2) (CMBERR_CNT_value r.col) = min (s.f (d.val + 2) (CMBERR_CNT_value r.col) + 1) (2 ^ (CMBERR_CNT_value r.col).len - 1) ∧
    KMap.look t.cmb.fifo (d.val + 2) = KMap.look s.cmb.fifo (d.val + 2) ++ (if r.fresh = true ∧ (KMap.look s.cmb.fifo (d.val + 2)).length < 32 then [r] else []) ∧
    (r.fresh = true → 32 ≤ (KMap.look s.cmb.fifo (d.val + 2)).length → t.f (d.val + 2) CMBERR_EVT_dropped = 1) ∧
    s.onlyPages t [(d.val + 2, 0x74), (d.val + 2, 0x70), (0, 0x70)] ∧ t.rest = { s.rest with cmb := t.cmb }) ∧
  (∀ (s : State) (d : FabDie) (r : CmbReport) (l : List CmbReport), KMap.look s.cmb.fifo (d.val + 2) = r :: l →
    ∃ t, exec (.cmberrRecPop d false) s = .next t ∧
    t.out = [.value r.word] ∧
    KMap.look t.cmb.fifo (d.val + 2) = l ∧
    t.rd (d.val + 2) CMBERR_REC_HI = BitVec.ofNat 32 r.tick ∧
    s.onlyFields t [whole (d.val + 2) CMBERR_REC_HI] ∧
    exec (.cmberrRecPop d true) s = .next (s.fresh.emit (.value r.word)) ∧
    t.rest = { s.rest with cmb := t.cmb }) ∧
  (∀ (s : State) (d : FabDie) (peek : Bool), KMap.look s.cmb.fifo (d.val + 2) = [] →
    ∃ t, exec (.cmberrRecPop d peek) s = .next t ∧
    t.out = [.value 0] ∧
    s.regsOnly t [whole (d.val + 2) CMBERR_REC_HI])

/-- For an awake block and a stored word without errors: a read with no upset gives RD_ECC 0 and changes nothing stored; an upset of one of
the 72 bits gives the word's data with RD_ECC 1, one report of kind 0, and the corrected word stored unless a user write supersedes it; of
two bits, RD_ECC 2, one report of kind 1, and the wrong word stays. A full write of a whole stored word with no injection armed stores the
data with good check bits and is not refused. A partial write over a word with two wrong bits is refused, reported as kind 2, and leaves the
word. The write of port B that collides with port A's sets wcollide and stores nothing. A sleeping block reads not ready and refuses writes.
SLEEP takes hold in a RUNNING region only; a wake ends it, records its time, and sets wake_delayed when it took more than 3,200 tb. -/
def Obligations.MemoryPortsCorrectAndDetect : Prop :=
  (∀ (s : State) (b : Blk) (p : MemPort) (a w k : Nat) (upset : BitVec 72) (sup : Bool), (s.blk b).asleep = false →
    p.place b.deep a = (w, k) →
    (s.memWord b w).err = 0 →
    popcount 72 upset.toNat = 1 →
    ∃ t, exec (.memoryPortRead b p a upset sup) s = .next t ∧
    t.out = [.memRead (if b.deep then rotLanes (s.memWord b w).data k
      else BitVec.ofNat 64 ((s.memWord b w).data.toNat / 2 ^ (p.width * k) % 2 ^ p.width)) 1 false] ∧
    t.memWord b w = ⟨(s.memWord b w).data, if sup then upset else 0⟩ ∧
    (KMap.look t.mem.report b.di).length = (KMap.look s.mem.report b.di).length + 1 ∧
    ((KMap.look t.mem.report b.di).getLast?).map (fun r => r.kind) = some 0 ∧
    t.regs = s.regs ∧
    t.rest = { s.rest with mem := t.mem }) ∧
  (∀ (s : State) (b : Blk) (p : MemPort) (a w k : Nat) (upset : BitVec 72) (sup : Bool), (s.blk b).asleep = false →
    p.place b.deep a = (w, k) →
    (s.memWord b w).err = 0 →
    popcount 72 upset.toNat = 2 →
    ∃ t, exec (.memoryPortRead b p a upset sup) s = .next t ∧
    t.out.map (fun o => match o with | .memRead _ e n => (e, n) | _ => (9, true)) = [(2, false)] ∧
    t.memWord b w = ⟨(s.memWord b w).data, upset⟩ ∧
    (KMap.look t.mem.report b.di).length = (KMap.look s.mem.report b.di).length + 1 ∧
    ((KMap.look t.mem.report b.di).getLast?).map (fun r => r.kind) = some 1 ∧
    s.onlyFields t [] ∧ t.rest = { s.rest with mem := t.mem }) ∧
  (∀ (s : State) (b : Blk) (p : MemPort) (a w k : Nat) (sup : Bool), (s.blk b).asleep = false →
    p.place b.deep a = (w, k) →
    (s.memWord b w).err = 0 →
    ∃ t, exec (.memoryPortRead b p a 0 sup) s = .next t ∧
    t.out = [.memRead (if b.deep then rotLanes (s.memWord b w).data k
      else BitVec.ofNat 64 ((s.memWord b w).data.toNat / 2 ^ (p.width * k) % 2 ^ p.width)) 0 false] ∧
    t.memWord b w = s.memWord b w ∧
    t.mem.report = s.mem.report ∧
    t.rest = { s.rest with mem := t.mem }) ∧
  (∀ (s : State) (b : Blk) (p : MemPort) (a : Nat) (data : BitVec 64), (s.blk b).asleep = false →
    b.deep = true ∧ p.rotate = false ∨ b.deep = false ∧ p.width = 64 →
    s.injArmed b = false →
    ∃ t, exec (.memoryPortWrite b p a data 0xFF false) s = .next t ∧
    t.mem.word = KMap.put s.mem.word (b.wordKey a) ⟨data, 0⟩ ∧
    t.memWord b a = ⟨data, 0⟩ ∧
    t.out = [.memWrite false] ∧
    t.regs = s.regs ∧
    t.rest = { s.rest with mem := t.mem }) ∧
  (∀ (s : State) (b : Blk) (p : MemPort) (a w k : Nat) (data : BitVec 64) (be : Byte), (s.blk b).asleep = false →
    p.place b.deep a = (w, k) →
    b.deep = true ∧ be ≠ 0xFF ∧ be ≠ 0 ∧ p.rotate = false ∨ b.deep = false ∧ p.width = 8 →
    popcount 72 (s.memWord b w).err.toNat = 2 →
    ∃ t, exec (.memoryPortWrite b p a data be false) s = .next t ∧
    t.out = [.memWrite true] ∧
    t.mem.word = s.mem.word ∧
    (KMap.look t.mem.report b.di).length = (KMap.look s.mem.report b.di).length + 1 ∧
    ((KMap.look t.mem.report b.di).getLast?).map (fun r => r.kind) = some 2 ∧
    s.onlyFields t [] ∧ t.rest = { s.rest with mem := t.mem }) ∧
  (∀ (s : State) (b : Blk) (p : MemPort) (a : Nat) (data : BitVec 64) (be : Byte), (s.blk b).asleep = false →
    p.portB = true →
    ∃ t, exec (.memoryPortWrite b p a data be true) s = .next t ∧
    t.f b.di MECC_EVT_wcollide = 1 ∧
    t.out = [.memWrite false] ∧
    s.regsOnly t [(b.di, MECC_EVT_wcollide)]) ∧
  (∀ (s : State) (b : Blk) (p : MemPort) (a : Nat) (data : BitVec 64) (be : Byte) (c sup : Bool) (upset : BitVec 72), (s.blk b).asleep = true →
    ∃ t, exec (.memoryPortWrite b p a data be c) s = .next t ∧
    t = s.fresh.emit (.memWrite true) ∧
    exec (.memoryPortRead b p a upset sup) s = .next (s.fresh.emit (.memRead 0 0 true))) ∧
  (∀ (s : State) (b : Blk), s.regionState b.di b.region = 5 →
    ∃ t, exec (.memorySleep b) s = .next t ∧
    (t.blk b).asleep = true ∧
    t.mem.word = s.mem.word ∧
    t.regs = s.regs ∧
    t.rest = { s.rest with mem := t.mem }) ∧
  (∀ (s : State) (b : Blk), s.regionState b.di b.region ≠ 5 →
    ∃ t, exec (.memorySleep b) s = .next t ∧
    t = s.fresh) ∧
  (∀ (s : State) (b : Blk) (took : Nat), (s.blk b).asleep = true →
    ∃ t, exec (.memoryWakeDone b took) s = .next t ∧
    (t.blk b).asleep = false ∧
    t.f b.di MECC_WAKE_MAX_value = min (max (s.f b.di MECC_WAKE_MAX_value) took) (2 ^ MECC_WAKE_MAX_value.len - 1) ∧
    (3200 < took → t.f b.di MECC_EVT_wake_delayed = 1) ∧
    t.mem.word = s.mem.word ∧
    s.onlyFields t [(b.di, MECC_WAKE_MAX_value), (b.di, MECC_EVT_wake_delayed)] ∧ t.rest = { s.rest with mem := t.mem })

/-- The oldest memory report of a die leaves its queue, counts as corrected or not, sets its event, marks its block, and, unless it is a
corrected one whose records are off, enters the record FIFO or counts as dropped at 32. A pop gives the oldest record and removes it; a
debug read gives it and changes nothing. The oldest window request of a die leaves its queue: outside every block it is answered decode
error; at a block without the access, or in a region that is not RUNNING, access-blocked; at a sleeping block, RETRY; a read of a block
whose words hold no error is answered with its lines, and a write there is acknowledged. Without an idle cycle it is answered memory busy,
and window_busy is set. MECC_INJ takes its 16 bits in BLANK and SERVICE and nothing in another state. -/
def Obligations.MemoryReportsWindowsAndInjection : Prop :=
  (∀ (s : State) (d : FabDie) (r : MemReport) (l : List MemReport), KMap.look s.mem.report (d.val + 2) = r :: l →
    r.kind < 4 →
    ∃ t, exec (.meccReport d) s = .next t ∧
    KMap.look t.mem.report (d.val + 2) = l ∧
    t.f (d.val + 2) ⟨MECC_EVT, r.kind, 1⟩ = 1 ∧
    (r.kind = 0 → t.f (d.val + 2) MECC_CE_CNT_value = min (s.f (d.val + 2) MECC_CE_CNT_value + 1) (2 ^ 32 - 1) ∧ (t.blk (r.blk d)).ceSeen = true) ∧
    (r.kind ≠ 0 → t.f (d.val + 2) MECC_UE_CNT_value = min (s.f (d.val + 2) MECC_UE_CNT_value + 1) (2 ^ 32 - 1) ∧ (t.blk (r.blk d)).ueSeen = true) ∧
    KMap.look t.mem.fifo (d.val + 2) = KMap.look s.mem.fifo (d.val + 2) ++
      (if (r.kind = 0 ∧ s.f (d.val + 2) MECC_CTRL_ce_records = 0) ∨ 32 ≤ (KMap.look s.mem.fifo (d.val + 2)).length then [] else [r]) ∧
    s.onlyPages t [(d.val + 2, 0x76), (d.val + 2, 0x70), (0, 0x70)] ∧ t.rest = { s.rest with mem := t.mem, err := t.err }) ∧
  (∀ (s : State) (d : FabDie) (r : MemReport) (l : List MemReport), KMap.look s.mem.fifo (d.val + 2) = r :: l →
    ∃ t, exec (.meccRecPop d false) s = .next t ∧
    t.out = [.value r.words.1] ∧
    KMap.look t.mem.fifo (d.val + 2) = l ∧
    t.rd (d.val + 2) MECC_REC_ADR = r.words.2.1 ∧
    t.rd (d.val + 2) MECC_REC_TICK = r.words.2.2 ∧
    exec (.meccRecPop d true) s = .next (s.fresh.emit (.value r.words.1)) ∧
    s.onlyFields t [whole (d.val + 2) MECC_REC_ADR, whole (d.val + 2) MECC_REC_TICK] ∧ t.rest = { s.rest with mem := t.mem }) ∧
  (∀ (s : State) (d : FabDie) (access : WinAccess) (h : Hdr) (l : List Line) (rest : List (Hdr × List Line)) (b : Blk) (off : Nat), KMap.look s.mem.window (d.val + 2) = (h, l) :: rest →
    windowBlk d (h.addr % 0x4000000) = some (b, off) →
    access = .none ∨ access = .read ∧ h.opcode = 1 ∨ s.regionState b.di b.region ≠ 5 →
    ∃ t, exec (.memoryWindowRequest d access) s = .next t ∧
    t.out = [.packet (h.answer 4 3 0) []] ∧
    KMap.look t.mem.window (d.val + 2) = rest ∧
    t.mem.word = s.mem.word ∧
    s.onlyFields t [] ∧ t.rest = { s.rest with mem := t.mem, net := t.net, stats := t.stats }) ∧
  (∀ (s : State) (d : FabDie) (access : WinAccess) (h : Hdr) (l : List Line) (rest : List (Hdr × List Line)) (b : Blk) (off : Nat), KMap.look s.mem.window (d.val + 2) = (h, l) :: rest →
    windowBlk d (h.addr % 0x4000000) = some (b, off) →
    access = .readWrite ∨ access = .read ∧ h.opcode = 0 →
    s.regionState b.di b.region = 5 →
    (s.blk b).asleep = true →
    ∃ t, exec (.memoryWindowRequest d access) s = .next t ∧
    t.out = [.packet (h.answer 5 0 0) []] ∧
    KMap.look t.mem.window (d.val + 2) = rest ∧
    s.onlyFields t [] ∧ t.rest = { s.rest with mem := t.mem, net := t.net, stats := t.stats }) ∧
  (∀ (s : State) (d : FabDie) (access : WinAccess) (h : Hdr) (l : List Line) (rest : List (Hdr × List Line)) (b : Blk) (off : Nat), KMap.look s.mem.window (d.val + 2) = (h, l) :: rest →
    windowBlk d (h.addr % 0x4000000) = some (b, off) →
    access = .readWrite ∨ access = .read ∧ h.opcode = 0 →
    s.regionState b.di b.region = 5 →
    (s.blk b).asleep = false →
    s.mem.word.all (fun e => e.2.err == 0) = true →
    s.injArmed b = false →
    ∃ t, exec (.memoryWindowRequest d access) s = .next t ∧
    (h.opcode = 1 → t.out = [.packet (h.answer 3 0 0) []]) ∧
    (h.opcode ≠ 1 → t.out.map (fun o => match o with | .packet x f => decide (x = h.answer 2 0 f.length) | _ => false) = [true] ∧ t.mem.word = s.mem.word) ∧
    KMap.look t.mem.window (d.val + 2) = rest ∧
    s.onlyFields t [] ∧ t.rest = { s.rest with mem := t.mem, net := t.net, stats := t.stats }) ∧
  (∀ (s : State) (d : FabDie) (access : WinAccess) (h : Hdr) (l : List Line) (rest : List (Hdr × List Line)), KMap.look s.mem.window (d.val + 2) = (h, l) :: rest →
    ∃ t, exec (.memoryWindowBusy d) s = .next t ∧
    t.out = [.packet (h.answer 4 5 0) []] ∧
    KMap.look t.mem.window (d.val + 2) = rest ∧
    t.f (d.val + 2) MECC_EVT_window_busy = 1 ∧
    (windowBlk d (h.addr % 0x4000000) = none → ∃ u, exec (.memoryWindowRequest d access) s = .next u ∧ u.out = [.packet (h.answer 4 1 0) []]) ∧
    s.onlyFields t [(d.val + 2, MECC_EVT_window_busy)] ∧ t.rest = { s.rest with mem := t.mem, net := t.net, stats := t.stats }) ∧
  (∀ (s : State) (d : FabDie) (v : Word), s.lifeCycle = 0 ∨ s.lifeCycle = 3 →
    ∃ t, exec (.meccInjWrite d v) s = .next t ∧
    t.rd (d.val + 2) MECC_INJ = v &&& 0xFFFF ∧
    s.regsOnly t [whole (d.val + 2) MECC_INJ]) ∧
  (∀ (s : State) (d : FabDie) (v : Word), s.lifeCycle ≠ 0 ∧ s.lifeCycle ≠ 3 →
    ∃ t, exec (.meccInjWrite d v) s = .next t ∧
    t = s.fresh)

/-- For every header whose fields fit their widths, its 256 bits with their check bits read back as that header; with any one of the 256
bits wrong they read back, corrected, as the same header; with any two bits wrong they read as uncorrectable. So a router whose output is
not fenced passes such a header on, the hop count one higher, and with one wrong bit marked as corrected and counted; with two wrong bits
nothing is routed and the drop is counted and recorded with its router and port. -/
def Obligations.HeadersSurviveOneWrongBitAndDropOnTwo : Prop :=
  (∀ x k j : Nat, x < 2 ^ 247 → k < 256 → j < 256 → k ≠ j →
    hamCheck (hamEncode x) = .clean (Hdr.unpack x) ∧ hamCheck (hamEncode x ^^^ 2 ^ k) = .fixed (Hdr.unpack x) ∧
    hamCheck (hamEncode x ^^^ 2 ^ k ^^^ 2 ^ j) = .bad) ∧
  (∀ (h : Hdr) (x : Fin 16) (y : Fin 10) (port : Fin 8) (resp : Bool) (flits : List Flit) (marks : List (Fin 16 × Word)) (k j : Nat) (s : State),
    Hdr.unpack h.pack = h → h.legal = true → k < 256 → j < 256 → k ≠ j → s.live (dieIndex x.val y.val) = true →
    (s.portFenced x.val y.val (outPort x.val y.val h) = false →
      (∃ t, exec (.routerHeader x y port resp (BitVec.ofNat 256 (hamEncode h.pack)) flits marks) s = .next t ∧
        t.out.getLast? = some (.route x.val y.val (outPort x.val y.val h) resp { h with hops := (h.hops + 1) % 256 } flits)) ∧
      (∃ t, exec (.routerHeader x y port resp (BitVec.ofNat 256 (hamEncode h.pack ^^^ 2 ^ k)) flits marks) s = .next t ∧
        t.out.getLast? = some (.route x.val y.val (outPort x.val y.val h) resp { h with hops := (h.hops + 1) % 256, corrected := true } flits))) ∧
    (∃ t, exec (.routerHeader x y port resp (BitVec.ofNat 256 (hamEncode h.pack ^^^ 2 ^ k ^^^ 2 ^ j)) flits marks) s = .next t ∧
      (∀ o ∈ t.out, ∀ a b p r g l, o ≠ .route a b p r g l) ∧
      t.f (dieIndex x.val y.val) ⟨NOC_HDR_UE, 0, 32⟩ = min (s.f (dieIndex x.val y.val) ⟨NOC_HDR_UE, 0, 32⟩ + 1) (2 ^ 32 - 1) ∧
      t.f (dieIndex x.val y.val) NOC_EVT_hdr_drop = 1 ∧
      (s.f (dieIndex x.val y.val) NOC_EVT_hdr_drop = 0 → t.f (dieIndex x.val y.val) NOC_DROP_LOC_x = x.val ∧
        t.f (dieIndex x.val y.val) NOC_DROP_LOC_y = y.val ∧ t.f (dieIndex x.val y.val) NOC_DROP_LOC_port = port.val ∧
        t.f (dieIndex x.val y.val) NOC_DROP_LOC_at_ni = 0)))

/-- For a live initiator's interface that holds nothing, of an initiator that is no host, debug master, core or bridge: a request whose
address decodes to nothing completes with status 1 and zeros, and nothing enters the mesh; one with one destination that admission leaves
best effort enters the mesh as one packet with the queue's next seq, which advances modulo 1024; a fence with nothing before it completes at
once. A held packet, first of its stream, stays held while admission holds it; when an entry admits it, the packet goes out in the reserved
class with the entry as its slot, the entry is charged the flits of the request and of its answer, and the admission is counted. -/
def Obligations.RequestsAreNumberedJudgedAndSent : Prop :=
  (∀ (s : State) (r : NocReq), s.live (initDie r.src) = true →
    s.net.ents = [] →
    isHost r.src = false ∧ isDebugMaster r.src = false ∧ initCore r.src.toNat = none ∧ r.serve = none →
    s.decodeAddr r.addr.toNat r.bytes = none →
    ∃ t, exec (.nocRequestIssue r) s = .next t ∧
    t.out.map (fun o => match o with | .completion a b c l => (a, b, c, l.all (fun x => x.data == 0)) | _ => (0, 0, 0, false)) = [(r.src.toNat, r.queue.val, 1, true)] ∧
    t.net = s.net ∧
    t.regs = s.regs) ∧
  (∀ (s : State) (r : NocReq) (x : Dest) (a b : Nat × Nat) (h : Hdr), s.live (initDie r.src) = true →
    s.net.ents = [] →
    isHost r.src = false ∧ isDebugMaster r.src = false ∧ initCore r.src.toNat = none ∧ r.serve = none ∧ r.via = none →
    s.decodeAddr r.addr.toNat r.bytes = some [x] →
    epRouter (initDie r.src) (initEp r.src) = some a →
    epRouter x.die x.ep = some b →
    h = {
    dstX := b.1, dstY := b.2, dstEp := x.ep, srcX := a.1, srcY := a.2, srcId := r.src.toNat, opcode := if r.write then 1 else 0,
    key := r.key.val, dbg := r.dbg, queue := r.queue.val, seq := KMap.look s.net.seq (r.src.toNat * 32 + r.queue.val) % 1024,
    flits := if r.write then min r.lines.length ((x.addr + x.bytes + 63) / 64 - x.addr / 64) else 0, addr := x.addr,
    count := if r.write then 0 else x.bytes - 1 } →
    x.addr / 64 = r.addr.toNat / 64 →
    s.admission h = .best →
    ∃ t, exec (.nocRequestIssue r) s = .next t ∧
    t.out = [.packet { h with reissue := KMap.look s.net.force (streamKey h) } (if r.write then mkFlits (r.lines.take h.flits) else [])] ∧
    KMap.look t.net.seq (r.src.toNat * 32 + r.queue.val) = (KMap.look s.net.seq (r.src.toNat * 32 + r.queue.val) + 1) % 1024 ∧
    t.niParts.map (fun p => (p.hdr.seq, p.phase)) = [(h.seq, .flight)] ∧
    t.regs = s.regs) ∧
  (∀ (s : State) (i : Init) (q : Fin 32), s.live (initDie i) = true →
    s.net.ents = [] →
    isHost i = false ∧ isDebugMaster i = false →
    ∃ t, exec (.nocFence i q) s = .next t ∧
    t = s.fresh.emit (.completion i.toNat q.val 0 [])) ∧
  (∀ (s : State) (i : Init) (q : Fin 32) (seq : Fin 1024) (e : NiEnt) (p : NiPart) (k : Nat), s.net.ents = [e] →
    e.parts = [p] →
    e.started = true →
    p.phase = .held →
    p.is i.toNat q.val seq.val = true →
    s.admission p.hdr = .hold k →
    ∃ t, exec (.heldRequestAdmit i q seq) s = .next t ∧
    t = s.fresh) ∧
  (∀ (s : State) (i : Init) (q : Fin 32) (seq : Fin 1024) (e : NiEnt) (p : NiPart) (k : Nat), s.net.ents = [e] →
    e.parts = [p] →
    e.started = true →
    p.phase = .held →
    p.is i.toNat q.val seq.val = true →
    s.admission p.hdr = .pass k →
    ∃ t, exec (.heldRequestAdmit i q seq) s = .next t ∧
    t.out = [.packet { p.hdr with cls := true, slot := k, reissue := decide (p.retries ≠ 0) || KMap.look s.net.force (streamKey p.hdr) } (if p.hdr.opcode = 1 then mkFlits p.lines else [])] ∧
    KMap.look t.sch.spent (p.hdr.srcId / 256 * 4096 + k) = KMap.look s.sch.spent (p.hdr.srcId / 256 * 4096 + k) + p.hdr.charge ∧
    t.f (p.hdr.srcId / 256) ⟨PROBES_SCH_ADMIT, 0, 32⟩ = min (s.f (p.hdr.srcId / 256) ⟨PROBES_SCH_ADMIT, 0, 32⟩ + 1) (2 ^ 32 - 1) ∧
    s.onlyFields t [whole (p.hdr.srcId / 256) PROBES_SCH_ADMIT] ∧
    t.niParts.map (fun p => p.phase) = [.flight])

/-- For one request in flight as one packet, of an initiator that is no host, debug master, core or bridge: a WRITE_ACK completes it with
status 0 and an ERROR with the status it carries; a RETRY below the limit counts and leaves the packet waiting, and its reissue after the
gap carries reissue; with no answer in time it completes with status 9, and the loss counts and is recorded. An answer of no held request is
discarded, but at router (15, 0). A NOTIFY counts a CRC failure at the die of its responder, and changes no request. The location of a loss
latches while its event bit is clear. -/
def Obligations.AnswersCompleteRetryOrAreLost : Prop :=
  (∀ (s : State) (raw : BitVec 256) (flits : List Flit) (port : Fin 4) (h : Hdr) (e : NiEnt) (p : NiPart) (r : Nat), hamCheck raw.toNat = .clean h →
    h.legal = true →
    s.live (dieIndex h.dstX h.dstY) = true →
    s.net.ents = [e] →
    e.parts = [p] →
    e.started = true ∧ e.status = 0 ∧ e.dead = false ∧ e.fence = false →
    p.phase = .flight ∧ p.retries = 0 ∧ p.status = 0 →
    p.is (dieIndex h.dstX h.dstY * 256 + h.dstEp) h.queue h.seq = true →
    isHost e.req.src = false ∧ isDebugMaster e.req.src = false ∧ initCore e.req.src.toNat = none ∧ e.req.serve = none →
    h.opcode = 3 ∧ e.req.write = true ∧ r = 0 ∨ h.opcode = 4 ∧ r = h.status →
    ∃ t, exec (.niResponse raw flits port) s = .next t ∧
    t.out.map (fun o => match o with | .completion a b c l => (a, b, c, l.all (fun x => x.data == 0)) | _ => (0, 0, 999, false)) =
      [(e.req.src.toNat, e.req.queue.val, r, if r = 0 then (if e.req.write then true else p.data.all (fun _ => true)) else true)] ∧
    t.net.ents = [] ∧
    t.regs = s.regs) ∧
  (∀ (s : State) (raw : BitVec 256) (flits : List Flit) (port : Fin 4) (h : Hdr) (e : NiEnt) (p : NiPart), hamCheck raw.toNat = .clean h →
    h.legal = true →
    s.live (dieIndex h.dstX h.dstY) = true →
    s.net.ents = [e] →
    e.parts = [p] →
    p.phase = .flight →
    p.is (dieIndex h.dstX h.dstY * 256 + h.dstEp) h.queue h.seq = true →
    h.opcode = 5 →
    s.f (p.hdr.srcId / 256) NOC_CTRL_retry_max = 0 ∨ p.retries + 1 < s.f (p.hdr.srcId / 256) NOC_CTRL_retry_max →
    ∃ t, exec (.niResponse raw flits port) s = .next t ∧
    t.net.ents = [{ e with parts := [{ p with phase := .retry, retries := p.retries + 1 }] }] ∧
    t.out = [] ∧
    t.f (p.hdr.srcId / 256) ⟨NOC_RETRY_CNT, 0, 32⟩ = min (s.f (p.hdr.srcId / 256) ⟨NOC_RETRY_CNT, 0, 32⟩ + 1) (2 ^ 32 - 1) ∧
    s.onlyFields t [whole (p.hdr.srcId / 256) NOC_RETRY_CNT]) ∧
  (∀ (s : State) (raw : BitVec 256) (flits : List Flit) (port : Fin 4) (h : Hdr), hamCheck raw.toNat = .clean h →
    h.legal = true →
    s.niPart (dieIndex h.dstX h.dstY * 256 + h.dstEp) h.queue h.seq = none →
    h.dstX ≠ 15 ∨ h.dstY ≠ 0 →
    ∃ t, exec (.niResponse raw flits port) s = .next t ∧
    t = s.fresh) ∧
  (∀ (s : State) (i : Init) (q : Fin 32) (die : Die) (ep : Byte) (e : NiEnt) (p : NiPart) (b : Nat × Nat), s.net.ents = [e] →
    e.parts = [p] →
    p.phase = .retry →
    epRouter die.val ep.toNat = some b →
    p.hdr.srcId = i.toNat ∧ p.hdr.queue = q.val ∧ p.hdr.dstX = b.1 ∧ p.hdr.dstY = b.2 ∧ p.hdr.dstEp = ep.toNat →
    s.admission p.hdr = .best →
    p.retries ≠ 0 →
    ∃ t, exec (.retryReissue i q die ep) s = .next t ∧
    t.out = [.packet { p.hdr with cls := false, slot := 0, reissue := true } (if p.hdr.opcode = 1 then mkFlits p.lines else [])] ∧
    t.niParts.map (fun p => p.phase) = [.flight] ∧
    t.regs = s.regs) ∧
  (∀ (s : State) (i : Init) (q : Fin 32) (seq : Fin 1024) (e : NiEnt) (p : NiPart), s.net.ents = [e] →
    e.parts = [p] →
    e.started = true ∧ e.status = 0 ∧ e.dead = false ∧ e.fence = false →
    p.phase = .flight ∧ p.retries = 0 ∧ p.status = 0 →
    p.is i.toNat q.val seq.val = true →
    isHost e.req.src = false ∧ isDebugMaster e.req.src = false ∧ initCore e.req.src.toNat = none ∧ e.req.serve = none →
    ∃ t, exec (.nocResponseTimeout i q seq) s = .next t ∧
    t.out.map (fun o => match o with | .completion a b c l => (a, b, c, l.all (fun x => x.data == 0)) | _ => (0, 0, 999, false)) = [(e.req.src.toNat, e.req.queue.val, 9, true)] ∧
    t.net.ents = [] ∧
    t.f (i.toNat / 256) ⟨NOC_LOST_CNT, 0, 32⟩ = min (s.f (i.toNat / 256) ⟨NOC_LOST_CNT, 0, 32⟩ + 1) (2 ^ 32 - 1) ∧
    t.f (i.toNat / 256) NOC_EVT_lost = 1 ∧
    (s.f (i.toNat / 256) NOC_EVT_lost = 0 → t.f (i.toNat / 256) NOC_LOST_LOC_queue = q.val ∧ t.f (i.toNat / 256) NOC_LOST_LOC_endpoint = i.toNat % 256) ∧
    (s.f (i.toNat / 256) NOC_EVT_lost ≠ 0 → t.rd (i.toNat / 256) NOC_LOST_LOC = s.rd (i.toNat / 256) NOC_LOST_LOC) ∧
    s.onlyFields t [whole (i.toNat / 256) NOC_LOST_CNT, (i.toNat / 256, NOC_EVT_lost), whole (i.toNat / 256) NOC_LOST_LOC]) ∧
  (∀ (s : State) (raw : BitVec 256) (port : Fin 4) (h : Hdr), hamCheck raw.toNat = .clean h →
    h.legal = true →
    h.opcode = 6 →
    s.live (dieIndex h.dstX h.dstY) = true →
    ∃ t, exec (.notify raw port) s = .next t ∧
    t.f (dieIndex h.dstX h.dstY) ⟨NOC_CRC_CNT, 0, 32⟩ = min (s.f (dieIndex h.dstX h.dstY) ⟨NOC_CRC_CNT, 0, 32⟩ + 1) (2 ^ 32 - 1) ∧
    t.f (dieIndex h.dstX h.dstY) NOC_EVT_crc_fail = 1 ∧
    (s.f (dieIndex h.dstX h.dstY) NOC_EVT_crc_fail = 0 → t.f (dieIndex h.dstX h.dstY) NOC_CRC_LOC_src_id = h.srcId ∧
      t.f (dieIndex h.dstX h.dstY) NOC_CRC_LOC_endpoint = h.dstEp ∧ t.f (dieIndex h.dstX h.dstY) NOC_CRC_LOC_notified = 1) ∧
    t.net = s.net ∧
    t.freeCtr = s.freeCtr + 1)

/-- For a request with a clean, legal header at a live die: to no target of its router it is answered ERROR with status 1; to a target whose
retry flag of the pair is set, a first issue is answered RETRY; with a data flit whose crc fails, ERROR with status 7, and the failure is
counted; a request that is neither a well-formed READ nor a well-formed WRITE, ERROR with status 0x0B (2 at control space for a word it
cannot take); one whose flits were cut short gets no answer. A well-formed READ of an on-chip memory window waits for the window's word. -/
def Obligations.TargetsCheckBeforeTheyAnswer : Prop :=
  (∀ (s : State) (raw : BitVec 256) (flits : List Flit) (port : Fin 4) (x : TargetIn) (h : Hdr), hamCheck raw.toNat = .clean h →
    h.legal = true →
    s.live (dieIndex h.dstX h.dstY) = true →
    epRouter (dieIndex h.dstX h.dstY) h.dstEp ≠ some (h.dstX, h.dstY) ∨ isTarget (dieIndex h.dstX h.dstY) h.dstEp = false →
    ∃ t, exec (.targetRequest raw flits port x) s = .next t ∧
    t.out = [.packet (h.answer 4 1 0) []] ∧
    t.regs = s.regs ∧
    t.mem = s.mem ∧
    t.rest = { s.rest with net := t.net, stats := t.stats }) ∧
  (∀ (s : State) (raw : BitVec 256) (flits : List Flit) (port : Fin 4) (x : TargetIn) (h : Hdr), hamCheck raw.toNat = .clean h →
    h.legal = true →
    s.live (dieIndex h.dstX h.dstY) = true →
    epRouter (dieIndex h.dstX h.dstY) h.dstEp = some (h.dstX, h.dstY) ∧ isTarget (dieIndex h.dstX h.dstY) h.dstEp = true →
    flits.any (fun f => f.truncated) = false →
    h.opcode = 0 ∨ firstBadFlit flits = none →
    s.retryFlag h = true ∧ h.reissue = false →
    ∃ t, exec (.targetRequest raw flits port x) s = .next t ∧
    t.out = [.packet (h.answer 5 0 0) []] ∧
    t.retryFlag h = true ∧
    t.regs = s.regs ∧
    t.mem = s.mem ∧
    t.rest = { s.rest with net := t.net, stats := t.stats }) ∧
  (∀ (s : State) (raw : BitVec 256) (flits : List Flit) (port : Fin 4) (x : TargetIn) (h : Hdr) (i r : Nat), hamCheck raw.toNat = .clean h →
    h.legal = true →
    s.live (dieIndex h.dstX h.dstY) = true →
    epRouter (dieIndex h.dstX h.dstY) h.dstEp = some (h.dstX, h.dstY) ∧ isTarget (dieIndex h.dstX h.dstY) h.dstEp = true →
    flits.any (fun f => f.truncated) = false →
    s.retryFlag h = false ∨ h.reissue = true →
    s.epGated (dieIndex h.dstX h.dstY) h.dstEp = false ∧ s.regionHolds (dieIndex h.dstX h.dstY) h.dstEp = false →
    h.opcode = 1 ∧ firstBadFlit flits = some i ∧ r = 7 ∨ (h.opcode = 0 ∨ firstBadFlit flits = none) ∧ i = 0 ∧ h.formed flits = false ∧
    r = (if (h.dstEp = 0 ∨ h.dstEp = 0x10) ∧ h.opcode ≤ 1 ∧ h.ctlAddr flits = none then 2 else 0x0B) →
    ∃ t, exec (.targetRequest raw flits port x) s = .next t ∧
    t.out.getLast? = some (.packet (h.answer 4 r 0) []) ∧
    t.mem.window = s.mem.window ∧
    (r = 7 → t.f (dieIndex h.dstX h.dstY) NOC_EVT_crc_fail = 1 ∧
      t.f (dieIndex h.dstX h.dstY) ⟨NOC_CRC_CNT, 0, 32⟩ = min (s.f (dieIndex h.dstX h.dstY) ⟨NOC_CRC_CNT, 0, 32⟩ + 1) (2 ^ 32 - 1)) ∧
    (r = 0x0B → t.f (dieIndex h.dstX h.dstY) NOC_EVT_malformed = 1 ∧ s.onlyFields t [(dieIndex h.dstX h.dstY, NOC_EVT_malformed)]) ∧
    (r = 2 → t.regs = s.regs) ∧
    t.rest = { s.rest with net := t.net, stats := t.stats }) ∧
  (∀ (s : State) (raw : BitVec 256) (flits : List Flit) (port : Fin 4) (x : TargetIn) (h : Hdr), hamCheck raw.toNat = .clean h →
    h.legal = true →
    epRouter (dieIndex h.dstX h.dstY) h.dstEp = some (h.dstX, h.dstY) ∧ isTarget (dieIndex h.dstX h.dstY) h.dstEp = true →
    flits.any (fun f => f.truncated) = true →
    ∃ t, exec (.targetRequest raw flits port x) s = .next t ∧
    t.out = [] ∧
    t.regs = s.regs ∧
    t.mem = s.mem ∧
    t.rest = { s.rest with net := t.net, stats := t.stats }) ∧
  (∀ (s : State) (raw : BitVec 256) (port : Fin 4) (x : TargetIn) (h : Hdr), hamCheck raw.toNat = .clean h →
    h.legal = true →
    s.live (dieIndex h.dstX h.dstY) = true →
    epRouter (dieIndex h.dstX h.dstY) h.dstEp = some (h.dstX, h.dstY) ∧ isTarget (dieIndex h.dstX h.dstY) h.dstEp = true →
    s.retryFlag h = false ∨ h.reissue = true →
    s.epGated (dieIndex h.dstX h.dstY) h.dstEp = false →
    h.opcode = 0 ∧ h.formed [] = true ∧ h.dstEp = 0x70 →
    ∃ t, exec (.targetRequest raw [] port x) s = .next t ∧
    KMap.look t.mem.window (dieIndex h.dstX h.dstY) = KMap.look s.mem.window (dieIndex h.dstX h.dstY) ++ [(h, [])] ∧
    t.out = [] ∧
    t.regs = s.regs ∧
    t.rest = { s.rest with net := t.net, stats := t.stats, mem := t.mem })

/-- On a live IOS die an arm written with cancel is refused with reason 7, one for a tick closer than two ahead with 1, and one under a test
period with 6; a refused arm unlocks the shadow banks and sets swap_refused. Any other arm is accepted: its tick is kept, checking is set,
the reason cleared, and the shadow banks of the dies not fenced are locked. A cancel withdraws a pending or checking swap and unlocks. When
a checking die ends its check: a bank that fails refuses the arm with the die and the reason of the failure (3 for the CRC, 4 for a rule);
the last one that passes makes the swap pending; while others still check, only that die is taken off. -/
def Obligations.ScheduleSwapsAreArmedCheckedAndRefused : Prop :=
  (∀ (s : State) (both : Bool) (r : Nat), s.live 0 = true →
    both = true ∧ r = 7 ∨ both = false ∧ s.rd64 0 PROBES_SCH_AT_LO PROBES_SCH_AT_HI < s.time.num + 2 ∧ r = 1 ∨
    both = false ∧ s.time.num + 2 ≤ s.rd64 0 PROBES_SCH_AT_LO PROBES_SCH_AT_HI ∧ s.testPeriod = true ∧ r = 6 →
    ∃ t, exec (.scheduleSwapArm both) s = .next t ∧
    t.f 0 PROBES_SCH_SWSTAT_reason = r ∧
    t.f 0 PROBES_SCH_EVT_swap_refused = 1 ∧
    (∀ d ∈ allDies, t.f d PROBES_SCH_STATE_locked = 0) ∧
    t.sch = s.sch ∧
    s.regsOnly t ([(0, PROBES_SCH_SWSTAT_reason), (0, PROBES_SCH_EVT_swap_refused)] ++ allDies.map (fun d => (d, PROBES_SCH_STATE_locked)))) ∧
  (∀ (s : State), s.live 0 = true →
    s.time.num + 2 ≤ s.rd64 0 PROBES_SCH_AT_LO PROBES_SCH_AT_HI →
    s.testPeriod = false →
    ∃ t, exec (.scheduleSwapArm false) s = .next t ∧
    t.sch.arm = some (s.rd64 0 PROBES_SCH_AT_LO PROBES_SCH_AT_HI) ∧
    t.sch.checking = s.swapDies ∧
    t.sch.pend = s.sch.pend ∧
    t.sch.active = s.sch.active ∧
    t.f 0 PROBES_SCH_SWSTAT_checking = 1 ∧ t.f 0 PROBES_SCH_SWSTAT_reason = 0 ∧
    (∀ d ∈ s.swapDies, t.f d PROBES_SCH_STATE_locked = 1) ∧
    s.onlyFields t ([whole 0 PROBES_SCH_SWSTAT] ++ s.swapDies.map (fun d => (d, PROBES_SCH_STATE_locked))) ∧
    t.rest = { s.rest with sch := t.sch }) ∧
  (∀ (s : State), s.live 0 = true →
    ∃ t, exec .scheduleSwapCancel s = .next t ∧
    t.sch = { s.sch with pend := none, arm := none, checking := [] } ∧
    t.f 0 PROBES_SCH_SWSTAT_checking = 0 ∧ t.f 0 PROBES_SCH_SWSTAT_pending = 0 ∧
    (∀ d ∈ allDies, t.f d PROBES_SCH_STATE_locked = 0) ∧
    s.onlyFields t ([(0, PROBES_SCH_SWSTAT_checking), (0, PROBES_SCH_SWSTAT_pending)] ++ allDies.map (fun d => (d, PROBES_SCH_STATE_locked))) ∧
    t.rest = { s.rest with sch := t.sch }) ∧
  (∀ (s : State) (d : Die) (a : Nat), s.sch.arm = some a →
    s.sch.checking.contains d.val = true →
    ∃ t, exec (.scheduleBankCheckDone d) s = .next t ∧
    (s.bankReason d.val (1 - s.activeBank d.val) ≠ 0 → t.f 0 PROBES_SCH_SWSTAT_reason = s.bankReason d.val (1 - s.activeBank d.val) ∧
      t.f 0 PROBES_SCH_SWSTAT_die = d.val ∧ t.f 0 PROBES_SCH_SWSTAT_checking = 0 ∧ t.f 0 PROBES_SCH_EVT_swap_refused = 1 ∧
      t.sch = { s.sch with arm := none, checking := [] } ∧ ∀ d ∈ allDies, t.f d PROBES_SCH_STATE_locked = 0) ∧
    (s.bankReason d.val (1 - s.activeBank d.val) = 0 → s.sch.checking.erase d.val = [] →
      t.sch = { s.sch with arm := none, checking := [], pend := some a } ∧
      t.f 0 PROBES_SCH_SWSTAT_checking = 0 ∧ t.f 0 PROBES_SCH_SWSTAT_pending = 1 ∧
      s.onlyFields t [(0, PROBES_SCH_SWSTAT_checking), (0, PROBES_SCH_SWSTAT_pending)]) ∧
    (s.bankReason d.val (1 - s.activeBank d.val) = 0 → s.sch.checking.erase d.val ≠ [] →
      t.sch = { s.sch with checking := s.sch.checking.erase d.val } ∧ t.regs = s.regs) ∧
    t.sch.active = s.sch.active ∧
    t.rest = { s.rest with sch := t.sch })

/-- Setting enable of a probe of a live die that is not enabled clears its counters, indices and FIFO; then a router outside the die gives
ERROR 1, a bad buffer 2, mode 3 gives 3, PROBE_TRIG where it cannot come gives 4; otherwise the probe is in PRE, or at once in POST,
triggered, with trigger source 0. The first trigger, forced or by an edge on PROBE_TRIG for source 1, moves PRE to POST and arms the count
of entries after it. A stop of a running probe, and a disable, end in STOPPED and in IDLE with enable clear. A due trace write takes the
FIFO's entries of one block to the network; one that ends with another status than OK stops the probe with ERROR 5 and the status. -/
def Obligations.ProbesRunTriggerAndStop : Prop :=
  (∀ (s : State) (d : Die) (p : Fin 16) (v : Word) (declared : Bool) (u : State) (e : Nat), p.val < probeCount d.val →
    s.live d.val = true →
    s.on d.val (PROBES_P_CTRL_enable p.val) = false →
    u = s.wr d.val (PROBES_P_CTRL p.val) ((v ||| 1) &&& 0x07FFFFFF) →
    e = (if 9 < u.f d.val (PROBES_P_CTRL_y p.val) ∨ dieIndex (u.f d.val (PROBES_P_CTRL_x p.val)) (u.f d.val (PROBES_P_CTRL_y p.val)) ≠ d.val then 1
    else if u.probeBufOk d.val p.val = false then 2 else if u.f d.val (PROBES_P_CTRL_mode p.val) = 3 then 3
    else if u.f d.val (PROBES_P_CTRL_trig_src p.val) = 1 ∧ (d.val < 2 ∨ declared = false) then 4 else 0) →
    ∃ t, exec (.probeEnable d p v declared) s = .next t ∧
    t.f d.val (PROBES_P_CTRL_enable p.val) = 1 ∧
    t.f d.val (PROBES_P_STAT_error p.val) = e ∧
    t.probeState d.val p.val = (if e ≠ 0 then 4 else if u.f d.val (PROBES_P_CTRL_trig_src p.val) = 0 then 2 else 1) ∧
    t.rd64 d.val (PROBES_P_HCNT_LO p.val) (PROBES_P_HCNT_HI p.val) = 0 ∧ t.rd64 d.val (PROBES_P_FCNT_LO p.val) (PROBES_P_FCNT_HI p.val) = 0 ∧
    t.rd d.val (PROBES_P_LOST p.val) = 0 ∧ t.rd d.val (PROBES_P_WPTR p.val) = 0 ∧ t.rd d.val (PROBES_P_TRIGPOS p.val) = 0 ∧
    (t.probeSt d.val p.val).fifo = [] ∧
    s.onlyPages t [(d.val, 0x60)] ∧ t.rest = { s.rest with probe := t.probe }) ∧
  (∀ (s : State) (d : Die) (p : Fin 16), s.on d.val (PROBES_P_CTRL_enable p.val) = true →
    ∃ t, exec (.probeDisable d p) s = .next t ∧
    t.f d.val (PROBES_P_CTRL_enable p.val) = 0 ∧ t.probeState d.val p.val = 0 ∧
    ((s.probeSt d.val p.val).fifo = [] → s.regsOnly t [(d.val, PROBES_P_CTRL_enable p.val), (d.val, PROBES_P_STAT_state p.val)])) ∧
  (∀ (s : State) (d : Die) (p : Fin 16), s.probeState d.val p.val = 1 →
    ∃ t, exec (.probeForceTrigger d p) s = .next t ∧
    t.probeState d.val p.val = 2 ∧ t.f d.val (PROBES_P_STAT_triggered p.val) = 1 ∧
    t.probeSt d.val p.val = { s.probeSt d.val p.val with trig := true, left := s.f d.val (PROBES_P_POST_count p.val) } ∧
    s.onlyFields t [(d.val, PROBES_P_STAT_state p.val), (d.val, PROBES_P_STAT_triggered p.val)] ∧
    t.rest = { s.rest with probe := t.probe }) ∧
  (∀ (s : State) (d : FabDie) (p : Fin 4), s.probeState (d.val + 2) p.val = 1 →
    s.f (d.val + 2) (PROBES_P_CTRL_trig_src p.val) = 1 →
    ∃ t, exec (.probeTrigEdge d p) s = .next t ∧
    t.probeState (d.val + 2) p.val = 2 ∧ t.f (d.val + 2) (PROBES_P_STAT_triggered p.val) = 1 ∧
    s.onlyFields t [(d.val + 2, PROBES_P_STAT_state p.val), (d.val + 2, PROBES_P_STAT_triggered p.val)] ∧
    t.rest = { s.rest with probe := t.probe }) ∧
  (∀ (s : State) (d : Die) (p : Fin 16), s.probeRuns d.val p.val = true →
    ∃ t, exec (.probeForceStop d p) s = .next t ∧
    t.probeState d.val p.val = 3 ∧
    ((s.probeSt d.val p.val).fifo = [] → s.regsOnly t [(d.val, PROBES_P_STAT_state p.val)])) ∧
  (∀ (s : State) (d : Die) (p : Fin 16) (a : Nat × BitVec 256) (l : List (Nat × BitVec 256)), s.live d.val = true →
    s.net.ents = [] →
    (s.probeSt d.val p.val).fifo = a :: l →
    s.decodeAddr (s.probeBase d.val p.val + 32 * a.1) 64 = none →
    s.probeBase d.val p.val + 32 * a.1 < 2 ^ 48 ∧ (s.probeBase d.val p.val + 32 * a.1) % 64 = 0 →
    l.map (·.1) = [] ∨ l.map (·.1) = [a.1 + 1] →
    ∃ t, exec (.probeTraceWrite d p) s = .next t ∧
    (t.probeSt d.val p.val).fifo = (a :: l).drop (blockRun (a :: l)).length ∧
    t.regs = s.regs ∧
    t.out = [.completion (d.val * 256 + 0x80 + p.val) 0 1 []]) ∧
  (∀ (s : State) (d : Die) (p : Fin 16) (status : Byte), status ≠ 0 →
    s.on d.val (PROBES_P_CTRL_enable p.val) = true →
    ∃ t, exec (.probeTraceWriteDone d p status) s = .next t ∧
    t.probeState d.val p.val = 4 ∧
    t.f d.val (PROBES_P_STAT_error p.val) = 5 ∧ t.f d.val (PROBES_P_STAT_status p.val) = status.toNat ∧
    s.regsOnly t [(d.val, PROBES_P_STAT_state p.val), (d.val, PROBES_P_STAT_error p.val), (d.val, PROBES_P_STAT_status p.val)])

/-- For the selected entry of a target endpoint of a live die: a capture gives its identity and its counters in the holding registers and
changes no counter; a clear sets its counters to 0 with the present tick as its start, and frees an entry that is not pinned; a pin binds
the entry to pin_id with counters 0 where no other entry holds that ID, frees an unpinned one that does, and is refused with pin_refused
where a pinned one does or the entry is "other"; an unpin releases the binding and keeps the counters. Every one of them first clears
pin_refused, and they write nothing but the holding registers and that bit. -/
def Obligations.StatisticsAreCapturedClearedPinnedAndFreed : Prop :=
  (∀ (s : State) (d : Die), s.live d.val = true →
    isTarget d.val (s.f d.val PROBES_ST_SEL_endpoint) = true →
    (s.stat d.val (s.f d.val PROBES_ST_SEL_endpoint) (s.f d.val PROBES_ST_SEL_entry)).rdb < 2 ^ 64 →
    ∃ t, exec (.statsCapture d) s = .next t ∧
    t.stats = s.stats ∧
    t.rd d.val PROBES_ST_REQ = BitVec.ofNat 32 (s.stat d.val (s.f d.val PROBES_ST_SEL_endpoint) (s.f d.val PROBES_ST_SEL_entry)).req ∧
    t.rd64 d.val PROBES_ST_RDB_LO PROBES_ST_RDB_HI = (s.stat d.val (s.f d.val PROBES_ST_SEL_endpoint) (s.f d.val PROBES_ST_SEL_entry)).rdb ∧
    t.rd d.val PROBES_ST_LATMAX = BitVec.ofNat 32 (s.stat d.val (s.f d.val PROBES_ST_SEL_endpoint) (s.f d.val PROBES_ST_SEL_entry)).latmax ∧
    t.f d.val PROBES_ST_ID_pin_refused = 0 ∧
    s.regsOnly t ([PROBES_ST_ID, PROBES_ST_REQ, PROBES_ST_RDB_LO, PROBES_ST_RDB_HI, PROBES_ST_WRB_LO, PROBES_ST_WRB_HI, PROBES_ST_LATSUM_LO, PROBES_ST_LATSUM_HI, PROBES_ST_LATMAX, PROBES_ST_ANS, PROBES_ST_SINCE_LO, PROBES_ST_SINCE_HI].map (whole d.val))) ∧
  (∀ (s : State) (d : Die) (ep k : Nat), s.live d.val = true →
    s.f d.val PROBES_ST_SEL_endpoint = ep ∧ s.f d.val PROBES_ST_SEL_entry = k →
    isTarget d.val ep = true ∧ k ≤ 16 →
    ∃ t, exec (.statsClear d) s = .next t ∧
    t.stat d.val ep k = (if (s.stat d.val ep k).pinned then { used := (s.stat d.val ep k).used, pinned := true, id := (s.stat d.val ep k).id, since := s.time.num } else { since := s.time.num }) ∧
    s.onlyFields t [(d.val, PROBES_ST_ID_pin_refused)] ∧
    t.stats = KMap.put s.stats (statKey d.val ep k) (t.stat d.val ep k) ∧
    t.rest = { s.rest with stats := t.stats }) ∧
  (∀ (s : State) (d : Die) (ep k id : Nat), s.live d.val = true →
    s.f d.val PROBES_ST_SEL_endpoint = ep ∧ s.f d.val PROBES_ST_SEL_entry = k ∧ s.f d.val PROBES_ST_SEL_pin_id = id →
    isTarget d.val ep = true →
    ∃ t, exec (.statsPin d) s = .next t ∧
    (k < 16 → (s.statOf d.val ep id = none ∨ s.statOf d.val ep id = some k) → t.stat d.val ep k = { used := true, pinned := true, id := id, since := s.time.num } ∧
      t.stats = KMap.put s.stats (statKey d.val ep k) (t.stat d.val ep k)) ∧
    (k < 16 → ∀ j ∈ statNums, s.statOf d.val ep id = some j → j ≠ k → (s.stat d.val ep j).pinned = false →
      t.stat d.val ep k = { used := true, pinned := true, id := id, since := s.time.num } ∧ t.stat d.val ep j = {}) ∧
    (k < 16 → ∀ j ∈ statNums, s.statOf d.val ep id = some j → j ≠ k → (s.stat d.val ep j).pinned = true → t.stats = s.stats ∧ t.f d.val PROBES_ST_ID_pin_refused = 1) ∧
    (16 ≤ k → t.stats = s.stats ∧ t.f d.val PROBES_ST_ID_pin_refused = 1) ∧
    s.onlyFields t [(d.val, PROBES_ST_ID_pin_refused)] ∧
    t.rest = { s.rest with stats := t.stats }) ∧
  (∀ (s : State) (d : Die) (ep k : Nat), s.live d.val = true →
    s.f d.val PROBES_ST_SEL_endpoint = ep ∧ s.f d.val PROBES_ST_SEL_entry = k →
    isTarget d.val ep = true ∧ k ≤ 16 →
    ∃ t, exec (.statsUnpin d) s = .next t ∧
    t.stat d.val ep k = { s.stat d.val ep k with pinned := false } ∧
    s.onlyFields t [(d.val, PROBES_ST_ID_pin_refused)] ∧
    t.rest = { s.rest with stats := t.stats })

/-- A live die that receives a fence notice on an edge it has, or no valid frames on it, fences it: fenced is set, trained and reset_seen
clear, its four tunnel ports are fenced, its stream channels read fenced, the fence event is set, the log takes the edge and the cause when
the event was clear, and the other edges read as before. A train or unfence is refused with the first reason that applies, and starts
nothing. A train that starts marks the edge busy; its end passes exactly when every failing wire found a spare, sets trained alike at both
ends, and reports reason 0 or 6. An unfence opens the four ports and leaves bound channels closed and others unbound. The Hawkmoth die
fences a status link, and a frame after the die's reset ends that. -/
def Obligations.EdgesFenceTrainAndReturnInOrder : Prop :=
  (∀ (s : State) (d : Die) (e : Fin 4) (test : Bool), s.live d.val = true →
    (edgeFar d.val e.val).isSome = true →
    ∃ t, exec (.fenceNotice d e test) s = .next t ∧
    t.f d.val (CORUG_EDGE_fenced e.val) = 1 ∧ t.f d.val (CORUG_EDGE_trained e.val) = 0 ∧ t.f d.val (CORUG_EDGE_reset_seen e.val) = 0 ∧
    (∀ k ∈ [0, 1, 2, 3], t.portFenced (tunnelPort d.val e.val k).1 (tunnelPort d.val e.val k).2.1 (tunnelPort d.val e.val k).2.2 = true) ∧
    (∀ k ∈ streamKs, moduleExists d.val (8 * e.val + k) = true → ∀ c ∈ [0, 1], ∀ r ∈ [0, 1], t.chanState d.val (8 * e.val + k) c r = 3) ∧
    t.f d.val CORUG_EVT_fence = 1 ∧
    (s.f d.val CORUG_EVT_fence = 0 → t.f d.val CORUG_FENCE_LOG_edge = e.val ∧ t.f d.val CORUG_FENCE_LOG_cause = (if test then 3 else 1)) ∧
    t.f d.val ⟨ERR_CT_CNT, 0, 32⟩ = min (s.f d.val ⟨ERR_CT_CNT, 0, 32⟩ + 1) (2 ^ 32 - 1) ∧
    s.onlyFields t ([(d.val, CORUG_EDGE_fenced e.val), (d.val, CORUG_EDGE_trained e.val), (d.val, CORUG_EDGE_reset_seen e.val), (d.val, CORUG_EVT_fence), whole d.val CORUG_FENCE_LOG, whole d.val CORUG_CMDSTAT, whole d.val ERR_CT_CNT, whole d.val ERR_SRC, (0, ⟨ERR_DIES, d.val, 1⟩)] ++ streamKs.map (fun k => whole d.val (CORUG_M_CHAN (8 * e.val + k)))) ∧
    exec (.edgeNoValidFrames d e) s = .next (s.ended (fenceEdge d.val e.val 2 s.fresh)) ∧
    t.rest = { s.rest with corug := t.corug, rtr := t.rtr }) ∧
  (∀ (s : State) (d : Die) (e : Fin 4), s.live d.val = true →
    (edgeFar d.val e.val).isSome = true →
    ∃ t, exec (.edgeNoValidFrames d e) s = .next t ∧
    t.f d.val (CORUG_EDGE_fenced e.val) = 1 ∧ t.f d.val (CORUG_EDGE_trained e.val) = 0 ∧ t.f d.val (CORUG_EDGE_reset_seen e.val) = 0 ∧
    (s.f d.val CORUG_EVT_fence = 0 → t.f d.val CORUG_FENCE_LOG_edge = e.val ∧ t.f d.val CORUG_FENCE_LOG_cause = 2) ∧
    s.onlyPages t [(d.val, 0x68), (d.val, 0x70), (0, 0x70)] ∧ t.rest = { s.rest with corug := t.corug, rtr := t.rtr }) ∧
  (∀ (s : State) (i : Init) (d : Die) (e : Fin 4) (r : Nat), s.live d.val = true →
    corugReason 1 i d.val e.val 0 0 s = r ∧ r ≠ 0 →
    ∃ t, exec (.corugTrain i d e) s = .next t ∧
    t.f d.val CORUG_CMDSTAT_reason = r ∧ t.f d.val CORUG_EVT_cmd_refused = 1 ∧
    s.regsOnly t [(d.val, CORUG_CMDSTAT_reason), (d.val, CORUG_CMDSTAT_op), (d.val, CORUG_EVT_cmd_refused)]) ∧
  (∀ (s : State) (i : Init) (d : Die) (e : Fin 4), s.live d.val = true →
    isHawkmoth i = true ∧ s.f d.val CORUG_CMDSTAT_busy = 0 ∧ (edgeFar d.val e.val).isSome = true →
    s.f d.val (CORUG_EDGE_fenced e.val) = 1 ∧ s.f d.val (CORUG_EDGE_reset_seen e.val) = 1 →
    ∃ t, exec (.corugTrain i d e) s = .next t ∧
    KMap.look t.corug.train d.val = e.val + 1 ∧
    t.f d.val CORUG_CMDSTAT_busy = 1 ∧ t.f d.val CORUG_CMDSTAT_op = 1 ∧ t.f d.val CORUG_CMDSTAT_reason = 0 ∧
    s.onlyFields t [whole d.val CORUG_CMDSTAT] ∧
    t.rest = { s.rest with corug := t.corug }) ∧
  (∀ (s : State) (d : Die) (e : Fin 4) (near far : List WireSweep) (f : Nat), KMap.look s.corug.train d.val = e.val + 1 →
    edgeFar d.val e.val = some f →
    ∃ t, exec (.corugTrainDone d e near far) s = .next t ∧
    KMap.look t.corug.train d.val = 0 ∧
    t.f d.val CORUG_CMDSTAT_busy = 0 ∧
    t.f d.val (CORUG_EDGE_trained e.val) = (t.sweepOk d.val e.val near && t.sweepOk f (edgeBack d.val e.val) far).toNat ∧
    t.f f (CORUG_EDGE_trained (edgeBack d.val e.val)) = t.f d.val (CORUG_EDGE_trained e.val) ∧
    t.f d.val CORUG_CMDSTAT_reason = (if t.f d.val (CORUG_EDGE_trained e.val) = 1 then 0 else 6) ∧
    s.onlyPages t [(d.val, 0x68), (f, 0x68), (d.val, 0x78), (f, 0x78), (0, 0x78)] ∧ t.rest = { s.rest with corug := t.corug, err := t.err }) ∧
  (∀ (s : State) (i : Init) (d : Die) (e : Fin 4), s.live d.val = true →
    isHawkmoth i = true ∧ s.f d.val CORUG_CMDSTAT_busy = 0 ∧ (edgeFar d.val e.val).isSome = true →
    s.f d.val (CORUG_EDGE_fenced e.val) = 1 ∧ s.f d.val (CORUG_EDGE_reset_seen e.val) = 1 ∧ s.f d.val (CORUG_EDGE_trained e.val) = 1 →
    ∃ t, exec (.corugUnfence i d e) s = .next t ∧
    t.f d.val (CORUG_EDGE_fenced e.val) = 0 ∧ t.f d.val (CORUG_EDGE_reset_seen e.val) = 0 ∧ t.f d.val CORUG_EVT_unfence = 1 ∧
    (∀ k ∈ [0, 1, 2, 3], t.portFenced (tunnelPort d.val e.val k).1 (tunnelPort d.val e.val k).2.1 (tunnelPort d.val e.val k).2.2 = false) ∧
    (∀ k ∈ streamKs, moduleExists d.val (8 * e.val + k) = true → ∀ c ∈ [0, 1], ∀ r ∈ [0, 1], t.chanState d.val (8 * e.val + k) c r =
      (if (s.chan d.val (8 * e.val + k) c r).link.isSome then 2 else 0)) ∧
    s.onlyFields t ([(d.val, CORUG_EDGE_fenced e.val), (d.val, CORUG_EDGE_reset_seen e.val), (d.val, CORUG_EVT_unfence), whole d.val CORUG_CMDSTAT] ++ streamKs.map (fun k => whole d.val (CORUG_M_CHAN (8 * e.val + k)))) ∧
    t.rest = { s.rest with corug := t.corug, rtr := t.rtr }) ∧
  (∀ (s : State) (d : Die), s.live 0 = true →
    d.val ≠ 0 →
    ∃ t, exec (.statusLinkFence d) s = .next t ∧
    KMap.look t.statusFenced d.val = true ∧
    (d.val ≠ 1 → s.fab.load = none → KMap.look s.statusFenced d.val = false → t.f 0 ⟨ERR_CT_CNT, 0, 32⟩ = min (s.f 0 ⟨ERR_CT_CNT, 0, 32⟩ + 1) (2 ^ 32 - 1))) ∧
  (∀ (s : State) (d : Die), s.live d.val = true →
    KMap.look s.statusFenced d.val = true →
    ∃ t, exec (.statusLinkFrame d) s = .next t ∧
    KMap.look t.statusFenced d.val = !KMap.look s.corug.linkReset d.val ∧
    t.regs = s.regs ∧
    t.rest = { s.rest with statusFenced := t.statusFenced })

/-- On a live die, a good tunnel frame of an open edge that carries no notice puts its flits out and updates the credit word; one with a bad
control code counts, sets ctl_crc and updates no credit, and its flits still go out; a notice fences the edge with cause 1. A stream slot
with a bad crc closes its channel at the receiving end, counts and sets stream_closed; a good one with a word stores the word behind the
others, and with 48 waiting drops and counts it; one without a word stores nothing. Resync of a closed channel empties both ends and opens
them when they hold the same link ID, of an edge not fenced. A low margin is recorded with its wire; the end of a swap is reported at both
ends. -/
def Obligations.LinkFramesAndSlotsAreTakenByTheirCodes : Prop :=
  (∀ (s : State) (d : Die) (m : Fin 32) (raw : BitVec 2048), s.live d.val = true →
    moduleExists d.val m.val = true ∧ moduleKind d.val m.val = 0 →
    crc16 (bytesOf 6 (nbits raw.toNat 1848 48)) = nbits raw.toNat 1896 16 →
    nbits raw.toNat 1888 8 > 1 ∨ nbits raw.toNat 1888 8 = 0 ∧ KMap.look s.corug.born (d.val * 4 + m.val / 8) = false →
    s.f d.val (CORUG_EDGE_fenced (m.val / 8)) = 0 →
    ∃ t, exec (.tunnelFrame d m raw) s = .next t ∧
    t.out = ([0, 1, 2].filter (fun i => decide (nbits raw.toNat (616 * i + 512) 2 ≠ 0))).map (fun i => .tunnel d.val m.val i (BitVec.ofNat 616 (nbits raw.toNat (616 * i) 616))) ∧
    KMap.look t.corug.credit (d.val * 32 + m.val) = BitVec.ofNat 32 (nbits raw.toNat 1848 32) ∧
    t.regs = s.regs ∧
    t.rest = { s.rest with corug := t.corug }) ∧
  (∀ (s : State) (d : Die) (m : Fin 32) (raw : BitVec 2048), s.live d.val = true →
    moduleExists d.val m.val = true ∧ moduleKind d.val m.val = 0 →
    crc16 (bytesOf 6 (nbits raw.toNat 1848 48)) ≠ nbits raw.toNat 1896 16 →
    s.f d.val (CORUG_EDGE_fenced (m.val / 8)) = 0 →
    ∃ t, exec (.tunnelFrame d m raw) s = .next t ∧
    t.out = ([0, 1, 2].filter (fun i => decide (nbits raw.toNat (616 * i + 512) 2 ≠ 0))).map (fun i => .tunnel d.val m.val i (BitVec.ofNat 616 (nbits raw.toNat (616 * i) 616))) ∧
    t.f d.val (CORUG_M_ERR_crc m.val) = min (s.f d.val (CORUG_M_ERR_crc m.val) + 1) (2 ^ 16 - 1) ∧ t.f d.val CORUG_EVT_ctl_crc = 1 ∧
    s.regsOnly t [(d.val, CORUG_M_ERR_crc m.val), (d.val, CORUG_EVT_ctl_crc)]) ∧
  (∀ (s : State) (d : Die) (m : Fin 32) (raw : BitVec 2048), s.live d.val = true →
    moduleExists d.val m.val = true ∧ moduleKind d.val m.val = 0 →
    crc16 (bytesOf 6 (nbits raw.toNat 1848 48)) = nbits raw.toNat 1896 16 →
    nbits raw.toNat 1888 8 = 1 →
    s.f d.val (CORUG_EDGE_fenced (m.val / 8)) = 0 →
    ∃ t, exec (.tunnelFrame d m raw) s = .next t ∧
    t.f d.val (CORUG_EDGE_fenced (m.val / 8)) = 1 ∧
    (s.f d.val CORUG_EVT_fence = 0 → t.f d.val CORUG_FENCE_LOG_edge = m.val / 8 ∧ t.f d.val CORUG_FENCE_LOG_cause = 1) ∧
    s.onlyPages t [(d.val, 0x68), (d.val, 0x70), (0, 0x70)] ∧ t.rest = { s.rest with corug := t.corug, rtr := t.rtr }) ∧
  (∀ (s : State) (d : Die) (m : Fin 32) (ch : Bool) (raw : BitVec 288) (took : Nat), s.live d.val = true →
    moduleExists d.val m.val = true ∧ moduleKind d.val m.val ≠ 0 →
    s.chanState d.val m.val ch.toNat 1 = 1 →
    crc8 (bytesOf 35 (raw.toNat % 2 ^ 280)) ≠ nbits raw.toNat 280 8 →
    ∃ t, exec (.streamSlot d m ch raw took) s = .next t ∧
    t.chanState d.val m.val ch.toNat 1 = 2 ∧
    t.chanState d.val m.val ch.toNat 0 ≠ 1 ∧
    t.f d.val (CORUG_M_ERR_crc m.val) = min (s.f d.val (CORUG_M_ERR_crc m.val) + 1) (2 ^ 16 - 1) ∧ t.f d.val CORUG_EVT_stream_closed = 1 ∧
    t.out.head? = some (.stream d.val m.val ch.toNat eosMarker) ∧
    s.onlyPages t ((d.val, 0x68) :: (moduleFar d.val m.val).toList.map (fun x => (x.1, 0x68))) ∧ t.rest = { s.rest with corug := t.corug }) ∧
  (∀ (s : State) (d : Die) (m : Fin 32) (ch : Bool) (raw : BitVec 288) (x : ChanSt), s.live d.val = true →
    moduleExists d.val m.val = true ∧ moduleKind d.val m.val ≠ 0 →
    s.chanState d.val m.val ch.toNat 1 = 1 →
    crc8 (bytesOf 35 (raw.toNat % 2 ^ 280)) = nbits raw.toNat 280 8 →
    x = s.chan d.val m.val ch.toNat 1 →
    ∃ t, exec (.streamSlot d m ch raw 0) s = .next t ∧
    (t.chan d.val m.val ch.toNat 0).acked = nbits raw.toNat 274 6 ∧
    (t.chan d.val m.val ch.toNat 1).fifo = x.fifo ++ (if nbit raw.toNat 273 ∧ x.fifo.length < 48 then [BitVec.ofNat 273 (raw.toNat % 2 ^ 273)] else []) ∧
    (nbit raw.toNat 273 → 48 ≤ x.fifo.length → t.f d.val (CORUG_M_SDROP_value m.val) = min (s.f d.val (CORUG_M_SDROP_value m.val) + 1) (2 ^ 32 - 1) ∧
      t.f d.val CORUG_EVT_stream_drop = 1) ∧
    s.onlyFields t [(d.val, CORUG_M_SDROP_value m.val), (d.val, CORUG_EVT_stream_drop)] ∧
    t.out = [] ∧
    t.rest = { s.rest with corug := t.corug }) ∧
  (∀ (s : State) (i : Init) (d : Die) (e : Fin 4) (k : Fin 8) (ch : Bool) (f n : Nat), s.live d.val = true →
    corugReason 3 i d.val e.val (8 * e.val + k.val) ch.toNat s = 0 →
    moduleFar d.val (8 * e.val + k.val) = some (f, n) →
    s.f d.val (CORUG_EDGE_fenced e.val) = 0 ∧ s.f f (CORUG_EDGE_fenced (n / 8)) = 0 →
    (s.chan d.val (8 * e.val + k.val) ch.toNat 1).link = (s.chan f n ch.toNat 0).link →
    ((s.chan d.val (8 * e.val + k.val) ch.toNat 1).link).isSome = true →
    ∃ t, exec (.corugResync i d e k ch) s = .next t ∧
    t.chanState d.val (8 * e.val + k.val) ch.toNat 1 = 1 ∧ t.chanState f n ch.toNat 0 = 1 ∧
    (t.chan d.val (8 * e.val + k.val) ch.toNat 1).fifo = [] ∧ (t.chan d.val (8 * e.val + k.val) ch.toNat 0).fifo = [] ∧
    (t.chan f n ch.toNat 0).fifo = [] ∧ (t.chan f n ch.toNat 1).fifo = [] ∧
    t.f d.val CORUG_CMDSTAT_op = 3 ∧ t.f d.val CORUG_CMDSTAT_reason = 0 ∧
    s.onlyFields t [whole d.val CORUG_CMDSTAT, whole d.val (CORUG_M_CHAN (8 * e.val + k.val)), whole f (CORUG_M_CHAN n), (d.val, CORUG_EVT_stream_closed), (f, CORUG_EVT_stream_closed)] ∧
    t.rest = { s.rest with corug := t.corug }) ∧
  (∀ (s : State) (d : Die) (m : Fin 32) (wire : Fin 66) (margin : Fin 64), s.live d.val = true →
    moduleExists d.val m.val = true →
    ∃ t, exec (.corugMarginLow d m wire margin) s = .next t ∧
    t.f d.val (CORUG_M_MARGIN_margin m.val) = margin.val ∧ t.f d.val (CORUG_M_MARGIN_wire m.val) = wire.val ∧ t.f d.val CORUG_EVT_margin_low = 1 ∧
    s.regsOnly t [(d.val, CORUG_M_MARGIN_margin m.val), (d.val, CORUG_M_MARGIN_wire m.val), (d.val, CORUG_EVT_margin_low)]) ∧
  (∀ (s : State) (d : Die) (m : Fin 32) (f n : Nat), moduleFar d.val m.val = some (f, n) →
    KMap.look s.corug.swap (d.val * 32 + m.val) = true ∧ KMap.look s.corug.swap (f * 32 + n) = true →
    ∃ t, exec (.corugSwapDone d m) s = .next t ∧
    KMap.look t.corug.swap (d.val * 32 + m.val) = false ∧ KMap.look t.corug.swap (f * 32 + n) = false ∧
    t.f d.val CORUG_EVT_swap_done = 1 ∧ t.f f CORUG_EVT_swap_done = 1 ∧
    s.onlyFields t [(d.val, CORUG_EVT_swap_done), (f, CORUG_EVT_swap_done)] ∧
    t.rest = { s.rest with corug := t.corug })

/-- The end of training gives DISCOVERY at its rate with a discovery request, or DOWN with reason 4. A reply in DISCOVERY is kept whole; the
first entry with its vendor, device and revision admits the partner, at the least of its rate, the entry's, the cap and the trained rate; no
entry with its IDs gives REFUSED with reason 2, none with its revision 3; no reply gives 1. In ADMITTED, a unit with a good crc delivers its
flits, one with a bad crc counts and closes every open packet. A request of a partner that may not initiate, or outside every window, is
answered 0x0C, counted and enters no mesh. A loss or a down gives DOWN. The Hawkmoth's admit starts training again from REFUSED or DOWN, and
on an OV-7160 gives reason 5. -/
def Obligations.AccessoryPartnersAreAdmittedAndBounded : Prop :=
  (∀ (s : State) (ok : Bool) (rate : Fin 8), s.ucie = 1 →
    ∃ t, exec (.ucieLinkTrained ok rate) s = .next t ∧
    t.ucie = (if ok then 2 else 5) ∧
    t.out = (if ok then [.ucieDiscover] else []) ∧
    (ok = true → t.f 0 UCIE_STAT_rate = rate.val) ∧
    (ok = false → t.f 0 UCIE_STAT_reason = 4 ∧ t.f 0 UCIE_EVT_down = 1) ∧
    s.regsOnly t [whole 0 UCIE_STAT, (0, UCIE_EVT_down)]) ∧
  (∀ (s : State) (b : BitVec 128), s.ucie = 2 →
    s.allowList.any (fun e => allowIds b.toNat e && allowRev b.toNat e) = false →
    ∃ t, exec (.ucieDiscoveryReply b) s = .next t ∧
    t.ucie = 4 ∧ t.f 0 UCIE_STAT_reason = (if s.allowList.any (allowIds b.toNat) then 3 else 2) ∧ t.f 0 UCIE_EVT_refused = 1 ∧
    (∀ i ∈ [0, 1, 2, 3], t.rd 0 (UCIE_DISC i) = BitVec.ofNat 32 (nbits b.toNat (32 * i) 32)) ∧
    s.regsOnly t ([(0, UCIE_STAT_state), (0, UCIE_STAT_reason), (0, UCIE_EVT_refused)] ++ [0, 1, 2, 3].map (fun i => whole 0 (UCIE_DISC i)))) ∧
  (∀ (s : State) (b : BitVec 128) (e : BitVec 128) (l : List (BitVec 128)) (c : Nat), s.ucie = 2 →
    s.allowList = e :: l →
    (allowIds b.toNat e && allowRev b.toNat e) = true →
    c = (if s.f 0 UCIE_CTRL_rate_cap = 0 ∨ 4 < s.f 0 UCIE_CTRL_rate_cap then 4 else s.f 0 UCIE_CTRL_rate_cap) →
    ∃ t, exec (.ucieDiscoveryReply b) s = .next t ∧
    t.ucie = 3 ∧ t.f 0 UCIE_STAT_entry = 0 ∧ t.f 0 UCIE_STAT_reason = 0 ∧ t.f 0 UCIE_EVT_admitted = 1 ∧
    t.f 0 UCIE_STAT_rate = min (min (nbits b.toNat 40 8) (min (nbits e.toNat 48 8) c)) (s.f 0 UCIE_STAT_rate) ∧
    t.acc = { opened := nbit e.toNat 65, initiates := nbit e.toNat 64, key := nbits e.toNat 56 6 } ∧
    (∀ i ∈ [0, 1, 2, 3], t.rd 0 (UCIE_DISC i) = BitVec.ofNat 32 (nbits b.toNat (32 * i) 32)) ∧
    s.onlyPages t [(0, 0x88)] ∧ t.rest = { s.rest with acc := t.acc }) ∧
  (∀ (s : State), s.ucie = 2 →
    ∃ t, exec .ucieDiscoveryTimeout s = .next t ∧
    t.ucie = 4 ∧ t.f 0 UCIE_STAT_reason = 1 ∧ t.f 0 UCIE_EVT_refused = 1 ∧
    s.regsOnly t [(0, UCIE_STAT_state), (0, UCIE_STAT_reason), (0, UCIE_EVT_refused)]) ∧
  (∀ (s : State) (raw : BitVec 2048), s.ucie = 3 →
    ∃ t, exec (.ucieUnit raw) s = .next t ∧
    (crc32c (bytesOf 252 raw.toNat) = nbits raw.toNat 2016 32 → t.regs = s.regs ∧
      t.out = ([0, 1, 2].filter (fun i => decide (nbits raw.toNat (640 * i + 512) 2 ≠ 0))).map (fun i => .ucieFlit i (BitVec.ofNat 616 (nbits raw.toNat (640 * i) 616)))) ∧
    (crc32c (bytesOf 252 raw.toNat) ≠ nbits raw.toNat 2016 32 → t.out = ([0, 1, 2, 3].filter (fun v => s.acc.openVc.getD v false)).map (fun v => .ucieClose v) ∧
      t.acc.openVc = [false, false, false, false] ∧ t.f 0 UCIE_CRC_CNT_value = min (s.f 0 UCIE_CRC_CNT_value + 1) (2 ^ 32 - 1) ∧ t.f 0 UCIE_EVT_crc = 1) ∧
    s.onlyFields t [(0, UCIE_CRC_CNT_value), (0, UCIE_EVT_crc)] ∧
    t.rest = { s.rest with acc := t.acc }) ∧
  (∀ (s : State) (r : PartnerReq) (n : Nat), s.ucie = 3 →
    n = (if r.write then r.addr.toNat / 64 * 64 + 64 * r.lines.length - r.addr.toNat else r.count.val + 1) →
    s.acc.initiates = false ∨ [0, 1, 2, 3].any (fun w => decide ((s.ucieWin w).1 ≤ r.addr.toNat) && decide (r.addr.toNat + n ≤ (s.ucieWin w).2)) = false →
    ∃ t, exec (.uciePartnerRequest r) s = .next t ∧
    t.out.map (fun o => match o with | .ucieAnswer h l => (h.opcode, h.status, h.queue, h.seq, l) | _ => (0, 0, 0, 0, [])) = [(4, 0x0C, r.queue.val, r.seq.val, [])] ∧
    t.f 0 UCIE_BLOCK_CNT_value = min (s.f 0 UCIE_BLOCK_CNT_value + 1) (2 ^ 32 - 1) ∧ t.f 0 UCIE_EVT_blocked = 1 ∧
    s.regsOnly t [(0, UCIE_BLOCK_CNT_value), (0, UCIE_EVT_blocked)]) ∧
  (∀ (s : State), s.ucie = 1 ∨ s.ucie = 2 ∨ s.ucie = 3 →
    ∃ t, exec .ucieLinkDown s = .next t ∧
    t.ucie = 5 ∧ t.f 0 UCIE_EVT_down = 1 ∧
    s.regsOnly t [(0, UCIE_STAT_state), (0, UCIE_EVT_down)] ∧
    (∀ i : Init, isHawkmoth i = true → exec (.ucieDown i) s = .next t)) ∧
  (∀ (s : State) (i : Init), isHawkmoth i = true →
    s.live 0 = true →
    ∃ t, exec (.ucieAdmit i) s = .next t ∧
    (s.fuses.variant = 0 → t.f 0 UCIE_STAT_reason = 5 ∧ s.regsOnly t [(0, UCIE_STAT_reason)]) ∧
    (s.fuses.variant ≠ 0 → (s.ucie = 4 ∨ s.ucie = 5) → t.ucie = 1 ∧ t.f 0 UCIE_STAT_reason = 0 ∧ t.acc = {} ∧ s.onlyFields t [whole 0 UCIE_STAT]))

/-- For a lane in TRAINING whose taps and start taps meet R273's limits: after any training block they meet them still, with pre + main +
post = 63, and only the taps, the lane's state and the negotiated bit change; a block with a bad check or type changes nothing. The end of a
round sends one block with the requests, ready after 8 rounds without a better margin, and counts its seq. The 16th block with ready to a
receiver that is ready sends 16 blocks with done, marks the taps negotiated, and the lane hunts, or runs raw in mode 1. The 20 ms deadline
fails the lane with reason 2; the 2 ms deadline with reason 1 where no valid block has come, and otherwise does nothing. -/
def Obligations.TrainingKeepsTheTapsInTheirLimits : Prop :=
  (∀ (s : State) (d : IoDie) (l : Fin 80) (b : BitVec 64), s.laneState d.val l.val = 1 →
    tapsOk (s.f d.val (lf l.val LQ_L_TXEQ_pre)) (s.f d.val (lf l.val LQ_L_TXEQ_post)) (s.f d.val (lf l.val LQ_L_TXEQ_main)) = true →
    (s.lane d.val l.val).startPre ≤ 15 ∧ (s.lane d.val l.val).startPost ≤ 24 →
    ∃ t, exec (.trainingBlock d l b) s = .next t ∧
    tapsOk (t.f d.val (lf l.val LQ_L_TXEQ_pre)) (t.f d.val (lf l.val LQ_L_TXEQ_post)) (t.f d.val (lf l.val LQ_L_TXEQ_main)) = true ∧
    (nbits b.toNat 0 8 ≠ 0xE1 ∨ crc16 (bytesOf 6 (b.toNat % 2 ^ 48)) ≠ nbits b.toNat 48 16 → t = s.fresh)) ∧
  (∀ (s : State) (d : IoDie) (l : Fin 80) (b : BitVec 64), s.laneState d.val l.val = 1 →
    nbits b.toNat 0 8 = 0xE1 ∧ crc16 (bytesOf 6 (b.toNat % 2 ^ 48)) = nbits b.toNat 48 16 →
    nbits b.toNat 14 2 = 1 ∧ 15 ≤ (s.lane d.val l.val).ready ∧ (s.lane d.val l.val).own = true →
    bitsOf (s.lane d.val l.val).cfg 0 3 ≠ 1 →
    s.laneSpare d.val l.val = none →
    ∃ t, exec (.trainingBlock d l b) s = .next t ∧
    t.laneState d.val l.val = 2 ∧ t.f d.val (lf l.val LQ_L_TXEQ_negotiated) = 1 ∧
    t.out.map (fun o => match o with | .laneTrain a b n _ => (a, b, n) | _ => (0, 0, 0)) = [(d.val, l.val, 16)] ∧
    s.onlyPages t [(d.val, 0x30 + l.val / 4)] ∧ t.rest = { s.rest with lq := t.lq }) ∧
  (∀ (s : State) (d : IoDie) (l : Fin 80) (pre post : Fin 4) (better : Bool) (margin : Fin 64) (own : Bool), s.laneState d.val l.val = 1 →
    (s.lane d.val l.val).ready < 16 →
    own = ((s.lane d.val l.val).own || (!better && decide (7 ≤ (s.lane d.val l.val).rounds))) →
    ∃ t, exec (.trainingRoundEnd d l pre post better margin) s = .next t ∧
    t.f d.val (lf l.val LQ_L_STAT_margin) = margin.val ∧ t.laneState d.val l.val = 1 ∧
    t.lane d.val l.val = { s.lane d.val l.val with
      rounds := if better then 0 else (s.lane d.val l.val).rounds + 1, own := own, seq := ((s.lane d.val l.val).seq + 1) % 256 } ∧
    t.out.map (fun o => match o with | .laneTrain a b n w => (a, b, n, nbits w.toNat 8 2, nbits w.toNat 10 2, nbits w.toNat 14 2) | _ => (0, 0, 0, 0, 0, 0)) = [(d.val, l.val, 1, pre.val, post.val, own.toNat)] ∧
    s.onlyFields t [(d.val, lf l.val LQ_L_STAT_margin)] ∧
    t.rest = { s.rest with lq := t.lq }) ∧
  (∀ (s : State) (d : IoDie) (l : Fin 80) (long : Bool), s.laneState d.val l.val = 1 →
    long = true ∨ (s.lane d.val l.val).valid = false →
    ∃ t, exec (.trainingTimeout d l long) s = .next t ∧
    t.laneState d.val l.val = 5 ∧ t.f d.val (lf l.val LQ_L_STAT_reason) = (if long then 2 else 1) ∧
    t.f d.val (LQ_EVT_train_fail (l.val / 4)) = 1 ∧
    (s.bundleUp d.val l.val = false → s.onlyPages t [(d.val, 0x30 + l.val / 4), (d.val, 0x70), (0, 0x70)] ∧ t.rest = { s.rest with lq := t.lq })) ∧
  (∀ (s : State) (d : IoDie) (l : Fin 80), (s.lane d.val l.val).valid = true →
    ∃ t, exec (.trainingTimeout d l false) s = .next t ∧
    t = s.fresh)

/-- By the lane agent or the Hawkmoth, on a lane of the image: a start or retrain of a lane without a clock fails it with reason 3; of a
disabled one leaves it OFF; otherwise it trains or hunts, with its configuration taken. A stop leaves it OFF; another initiator only sets
refused. A hunting lane locks at its 64th valid header in a row and slips one bit at a bad one; a locked lane with 16 bad headers among its
last 64 counts the loss and hunts. An align block on lane 0 is stamped; equal counts on every locked lane of the bundle raise bundle-up. A
PLL write takes its setting, drops the lock and reports a rate out of range; an enabled one in range locks; a lost lock fails its running
lanes with reason 3. -/
def Obligations.LanesStartLockBundleAndLoseTheirClock : Prop :=
  (∀ (s : State) (i : Init) (d : IoDie) (q : Fin 21) (n : Fin 4), s.live d.val = true →
    mayLane i d.val = true →
    q.val < 20 ∧ isPcieLane d.val (4 * q.val + n.val) = false →
    s.f d.val (LQ_L_CFG_mode q.val n.val) ≠ 0 →
    s.laneClock d.val (4 * q.val + n.val) (s.rd d.val (LQ_L_CFG q.val n.val)) = false →
    ∃ t, exec (.laneStart i d q n) s = .next t ∧
    t.laneState d.val (4 * q.val + n.val) = 5 ∧ t.f d.val (LQ_L_STAT_reason q.val n.val) = 3 ∧ t.f d.val (LQ_EVT_train_fail q.val) = 1 ∧
    exec (.laneRetrain i d q n) s = .next t ∧
    (s.bundleUp d.val (4 * q.val + n.val) = false → s.onlyPages t [(d.val, 0x30 + q.val), (d.val, 0x70), (0, 0x70)] ∧ t.rest = { s.rest with lq := t.lq })) ∧
  (∀ (s : State) (i : Init) (d : IoDie) (q : Fin 21) (n : Fin 4), s.live d.val = true →
    mayLane i d.val = true →
    q.val < 20 ∧ isPcieLane d.val (4 * q.val + n.val) = false →
    s.f d.val (LQ_L_CFG_mode q.val n.val) = 0 ∧ s.bundleUp d.val (4 * q.val + n.val) = false →
    ∃ t, exec (.laneRetrain i d q n) s = .next t ∧
    t.laneState d.val (4 * q.val + n.val) = 0 ∧ t.f d.val (LQ_L_STAT_phys q.val n.val) = 0x7F ∧ t.f d.val (LQ_L_STAT_reason q.val n.val) = 0 ∧
    exec (.laneStart i d q n) s = .next t ∧
    s.onlyPages t [(d.val, 0x30 + q.val)] ∧ t.rest = { s.rest with lq := t.lq }) ∧
  (∀ (s : State) (i : Init) (d : IoDie) (q : Fin 21) (n : Fin 4), s.live d.val = true →
    mayLane i d.val = true →
    q.val < 20 ∧ isPcieLane d.val (4 * q.val + n.val) = false →
    s.laneClock d.val (4 * q.val + n.val) (s.rd d.val (LQ_L_CFG q.val n.val)) = true →
    s.f d.val (LQ_L_CFG_mode q.val n.val) > 1 →
    ∃ t, exec (.laneStart i d q n) s = .next t ∧
    t.laneState d.val (4 * q.val + n.val) = (if s.f d.val (LQ_L_CFG_bc q.val n.val) = 1 ∧ s.f d.val (LQ_L_CFG_eq q.val n.val) = 0 ∧ s.lq.board = false then 1 else 2) ∧
    (t.lane d.val (4 * q.val + n.val)).cfg = s.rd d.val (LQ_L_CFG q.val n.val) ∧
    t.f d.val (LQ_L_STAT_reason q.val n.val) = 0 ∧
    (s.bundleUp d.val (4 * q.val + n.val) = false → s.onlyPages t [(d.val, 0x30 + q.val)] ∧ t.rest = { s.rest with lq := t.lq })) ∧
  (∀ (s : State) (i : Init) (d : IoDie) (q : Fin 21) (n : Fin 4), s.live d.val = true →
    mayLane i d.val = true →
    q.val < 20 ∧ isPcieLane d.val (4 * q.val + n.val) = false →
    ∃ t, exec (.laneStop i d q n) s = .next t ∧
    t.laneState d.val (4 * q.val + n.val) = 0 ∧ t.f d.val (LQ_L_STAT_phys q.val n.val) = 0x7F ∧ t.f d.val (LQ_L_STAT_reason q.val n.val) = 0 ∧
    (s.bundleUp d.val (4 * q.val + n.val) = false → s.onlyPages t [(d.val, 0x30 + q.val)] ∧ t.rest = { s.rest with lq := t.lq })) ∧
  (∀ (s : State) (i : Init) (d : IoDie) (q : Fin 21) (n : Fin 4) (b : Bool) (v : Word), s.live d.val = true →
    mayLane i d.val = false →
    ∃ t, exec (.laneStop i d q n) s = .next t ∧
    t.f d.val (LQ_EVT_refused q.val) = 1 ∧
    s.regsOnly t [(d.val, LQ_EVT_refused q.val)] ∧
    exec (.laneStart i d q n) s = .next t ∧ exec (.laneRetrain i d q n) s = .next t ∧ exec (.lanePllWrite i d q b v) s = .next t) ∧
  (∀ (s : State) (d : IoDie) (l : Fin 80) (hdr : BitVec 2) (p : BitVec 64) (full : Bool), s.laneState d.val l.val = 2 →
    hdr = 0 ∨ hdr = 3 →
    ∃ t, exec (.laneBlock d l hdr p full) s = .next t ∧
    t.lane d.val l.val = { s.lane d.val l.val with count := 0, slip := ((s.lane d.val l.val).slip + 1) % 66 } ∧
    t.regs = s.regs ∧
    t.rest = { s.rest with lq := t.lq }) ∧
  (∀ (s : State) (d : IoDie) (l : Fin 80) (hdr : BitVec 2) (p : BitVec 64) (full : Bool), s.laneState d.val l.val = 2 →
    hdr = 1 ∨ hdr = 2 →
    s.laneSpare d.val l.val = none →
    (s.bundle d.val l.val).length ≠ 1 ∧ bitsOf (s.lane d.val l.val).cfg 15 1 = 0 ∧ bitsOf (s.lane d.val l.val).cfg 0 3 ≠ 1 →
    ∃ t, exec (.laneBlock d l hdr p full) s = .next t ∧
    ((s.lane d.val l.val).count < 63 → t.lane d.val l.val = { s.lane d.val l.val with count := (s.lane d.val l.val).count + 1 } ∧ t.regs = s.regs) ∧
    (63 ≤ (s.lane d.val l.val).count → t.laneState d.val l.val = 3 ∧ t.f d.val (LQ_EVT_lock (l.val / 4)) = 1) ∧
    s.onlyFields t [(d.val, lf l.val LQ_L_STAT_state), (d.val, LQ_EVT_lock (l.val / 4))] ∧
    t.rest = { s.rest with lq := t.lq }) ∧
  (∀ (s : State) (d : IoDie) (l : Fin 80) (hdr : BitVec 2) (p : BitVec 64) (full : Bool), s.laneState d.val l.val = 3 →
    hdr = 0 ∨ hdr = 3 →
    15 ≤ (((s.lane d.val l.val).window.take 63).filter (fun v => !v)).length →
    ∃ t, exec (.laneBlock d l hdr p full) s = .next t ∧
    t.laneState d.val l.val = 2 ∧ t.f d.val (LQ_EVT_lock_lost (l.val / 4)) = 1 ∧
    t.f d.val (lf l.val LQ_L_LOCKLOSS_value) = min (s.f d.val (lf l.val LQ_L_LOCKLOSS_value) + 1) (2 ^ 32 - 1) ∧
    t.f d.val (lf l.val LQ_L_HDRERR_value) = min (s.f d.val (lf l.val LQ_L_HDRERR_value) + 1) (2 ^ 32 - 1) ∧
    (t.lane d.val l.val).count = 0 ∧
    (s.bundleUp d.val l.val = false → s.onlyPages t [(d.val, 0x30 + l.val / 4), (d.val, 0x70), (0, 0x70)] ∧ t.rest = { s.rest with lq := t.lq })) ∧
  (∀ (s : State) (d : IoDie) (l : Fin 80) (b : BitVec 64) (stamp : BitVec 72), s.laneState d.val l.val = 3 →
    nbits b.toNat 0 8 = 0x4B →
    (s.bundle d.val l.val).headD l.val = l.val →
    (s.bundle d.val l.val).all (fun k => decide (k = l.val) || decide ((s.lane d.val k).align = some (nbits b.toNat 24 40)) && decide (s.laneState d.val k = 3)) = true →
    nbits b.toNat 16 8 = (s.bundle d.val l.val).length →
    s.portOfLane d.val l.val = none →
    ∃ t, exec (.alignBlock d l b stamp) s = .next t ∧
    (t.lane d.val l.val).align = some (nbits b.toNat 24 40) ∧
    t.rd64 d.val (LQ_L_ALTS_LO (l.val / 4) (l.val % 4)) (LQ_L_ALTS_HI (l.val / 4) (l.val % 4)) = stamp.toNat / 256 ∧
    t.bundleUp d.val l.val = true ∧
    s.onlyPages t [(d.val, 0x30 + l.val / 4)] ∧ t.rest = { s.rest with lq := t.lq }) ∧
  (∀ (s : State) (i : Init) (d : IoDie) (q : Fin 21) (b : Bool) (v : Word), s.live d.val = true →
    mayLane i d.val = true ∧ q.val < 20 →
    s.rd d.val (if b then LQ_PLLB q.val else LQ_PLLA q.val) ≠ v &&& 0x83FFFFFF →
    ∃ t, exec (.lanePllWrite i d q b v) s = .next t ∧
    t.rd d.val (if b then LQ_PLLB q.val else LQ_PLLA q.val) = v &&& 0x83FFFFFF ∧
    t.f d.val (if b then LQ_STAT_b_lock q.val else LQ_STAT_a_lock q.val) = 0 ∧
    (bitsOf v 31 1 = 1 → pllRange (bitsOf v 0 26) = false → t.f d.val (LQ_EVT_pll_range q.val) = 1) ∧
    t.pllLanes d.val q.val b = [] ∧
    ((s.pllLanes d.val q.val b).all (fun l => !s.bundleUp d.val l) = true → s.onlyPages t [(d.val, 0x30 + q.val), (d.val, 0x70), (0, 0x70)] ∧ t.rest = { s.rest with lq := t.lq })) ∧
  (∀ (s : State) (d : IoDie) (q : Fin 21) (b : Bool), (if b then s.f d.val (LQ_PLLB_en q.val) else s.f d.val (LQ_PLLA_en q.val)) = 1 →
    pllRange (if b then s.f d.val (LQ_PLLB_rate_kbps q.val) else s.f d.val (LQ_PLLA_rate_kbps q.val)) = true →
    ∃ t, exec (.lanePllLocked d q b) s = .next t ∧
    t.f d.val (if b then LQ_STAT_b_lock q.val else LQ_STAT_a_lock q.val) = 1 ∧
    s.regsOnly t [(d.val, if b then LQ_STAT_b_lock q.val else LQ_STAT_a_lock q.val)]) ∧
  (∀ (s : State) (d : IoDie) (q : Fin 21) (b : Bool), s.f d.val (if b then LQ_STAT_b_lock q.val else LQ_STAT_a_lock q.val) = 1 →
    ∃ t, exec (.lanePllLockLost d q b) s = .next t ∧
    t.f d.val (if b then LQ_STAT_b_lock q.val else LQ_STAT_a_lock q.val) = 0 ∧ t.f d.val (LQ_EVT_pll_unlock q.val) = 1 ∧
    (∀ l ∈ s.pllLanes d.val q.val b, t.laneState d.val l = 5 ∧ t.f d.val (lf l LQ_L_STAT_reason) = 3) ∧
    ((s.pllLanes d.val q.val b).all (fun l => !s.bundleUp d.val l) = true → s.onlyPages t [(d.val, 0x30 + q.val), (d.val, 0x70), (0, 0x70)] ∧ t.rest = { s.rest with lq := t.lq }))

/-- With the link up, a hot reset, a function-level reset and a fall of the link set their event, return every other register of the PCIe
page but PCIE_STAT to its reset value where the image gives none, leave other pages alone (the fall while no container comes from the host),
and discard the results of the host's requests; only the function-level reset keeps the link. PERST# low resets the endpoint, shows on
PCIE_STAT and stops the BARs; high starts their time. A host request before the BARs decode, or to no BAR range, is answered Unsupported
Request; one that decodes to one place enters the mesh from initiator 0x018 with its BAR's key. A DMA queue takes its tail and its enable,
completes its descriptor with a status word and advances modulo its ring, or stops with its statuses and dma_err. -/
def Obligations.HostLinkResetsRequestsAndDmaQueues : Prop :=
  (∀ (s : State) (r : Nat), s.on 0 PCIE_STAT_up = true →
    s.pcie.image = [] →
    0x500000 ≤ r ∧ r < 0x510000 ∧ r ≠ PCIE_EVT ∧ r ≠ PCIE_STAT →
    ∃ t, exec .pcieHotReset s = .next t ∧
    t.f 0 PCIE_EVT_hot_reset = 1 ∧ t.rd 0 r = resetVal 0 r ∧ t.f 0 PCIE_STAT_up = 0 ∧ t.f 0 PCIE_STAT_perst = s.pwr.perst.toNat ∧
    t.net.ents = s.net.ents.map (fun e => if hostSide e.req.src then { e with dead := true } else e) ∧
    t.mem = s.mem ∧ t.out = [] ∧
    s.onlyPages t [(0, 0x50)] ∧ t.rest = { s.rest with net := t.net }) ∧
  (∀ (s : State) (r : Nat), s.on 0 PCIE_STAT_up = true →
    s.pcie.image = [] →
    0x500000 ≤ r ∧ r < 0x510000 ∧ r ≠ PCIE_EVT ∧ r ≠ PCIE_STAT →
    ∃ t, exec .pcieFlr s = .next t ∧
    t.f 0 PCIE_EVT_flr = 1 ∧ t.rd 0 r = resetVal 0 r ∧
    t.f 0 PCIE_STAT_up = 1 ∧ t.f 0 PCIE_STAT_speed = s.f 0 PCIE_STAT_speed ∧ t.f 0 PCIE_STAT_width = s.f 0 PCIE_STAT_width ∧
    t.net.ents = s.net.ents.map (fun e => if hostSide e.req.src then { e with dead := true } else e) ∧
    s.onlyPages t [(0, 0x50)] ∧ t.rest = { s.rest with net := t.net }) ∧
  (∀ (s : State) (r : Nat), s.on 0 PCIE_STAT_up = true →
    s.pcie.image = [] ∧ s.hostLoad = false →
    0x500000 ≤ r ∧ r < 0x510000 ∧ r ≠ PCIE_EVT ∧ r ≠ PCIE_STAT →
    ∃ t, exec .pcieLinkDown s = .next t ∧
    t.f 0 PCIE_EVT_link_down = 1 ∧ t.rd 0 r = resetVal 0 r ∧ t.f 0 PCIE_STAT_up = 0 ∧
    t.net.ents = s.net.ents.map (fun e => if hostSide e.req.src then { e with dead := true } else e) ∧
    s.onlyPages t [(0, 0x50)] ∧ t.rest = { s.rest with net := t.net }) ∧
  (∀ (s : State) (speed : Fin 8) (width : Fin 32), s.live 0 = true ∧ s.pwr.safe = false ∧ s.pwr.perst = false →
    ∃ t, exec (.pcieLinkUp speed width) s = .next t ∧
    t.f 0 PCIE_STAT_up = 1 ∧ t.f 0 PCIE_STAT_speed = speed.val ∧ t.f 0 PCIE_STAT_width = width.val ∧ t.f 0 PCIE_EVT_link_up = 1 ∧
    s.regsOnly t [(0, PCIE_STAT_up), (0, PCIE_STAT_speed), (0, PCIE_STAT_width), (0, PCIE_EVT_link_up)]) ∧
  (∀ (s : State), s.live 0 = true →
    ∃ t, exec .perstAssert s = .next t ∧
    t.pwr.perst = true ∧ t.pcie.barFrom = none ∧
    t.f 0 PCIE_STAT_perst = 1 ∧ t.f 0 PCIE_STAT_up = 0 ∧ t.f 0 PCIE_EVT_perst = 1 ∧
    t.f 0 DBG_OWN_owner = (if s.f 0 DBG_OWN_owner = 2 then 0 else s.f 0 DBG_OWN_owner) ∧
    (s.pcie.image = [] ∧ s.hostLoad = false → s.onlyPages t [(0, 0x50), (0, 0x0A)] ∧ t.rest = { s.rest with net := t.net, pwr := t.pwr, pcie := t.pcie })) ∧
  (∀ (s : State) (after : Fin 160000001), s.live 0 = true →
    ∃ t, exec (.perstRelease after) s = .next t ∧
    t.pwr.perst = false ∧ t.pcie.barAfter = some after.val ∧ t.f 0 PCIE_STAT_perst = 0 ∧
    t.pcie.barFrom = (if s.start.s9 then some (s.time.count + after.val) else s.pcie.barFrom) ∧
    s.onlyFields t [(0, PCIE_STAT_perst)] ∧
    t.rest = { s.rest with pwr := t.pwr, pcie := t.pcie, start := t.start }) ∧
  (∀ (s : State) (bar : Fin 5) (write : Bool) (off count : Nat) (lines : List Line) (relaxed : Bool), s.on 0 PCIE_STAT_up = true →
    (match s.pcie.barFrom with
    | some t => decide (s.time.count < t)
    | none => true) = true →
    ∃ t, exec (.pcieHostRequest bar write off count lines relaxed) s = .next t ∧
    t = s.fresh.emit (.hostCpl 1 [])) ∧
  (∀ (s : State) (bar : Fin 5) (off count : Nat) (relaxed : Bool) (k : Nat), s.on 0 PCIE_STAT_up = true →
    s.pcie.barFrom = some k ∧ k ≤ s.time.count →
    off % 512 + count < 512 →
    s.barTarget bar.val off = none →
    ∃ t, exec (.pcieHostRequest bar false off count [] relaxed) s = .next t ∧
    t = s.fresh.emit (.hostCpl 1 [])) ∧
  (∀ (s : State) (bar : Fin 5) (off count : Nat) (relaxed : Bool) (k a key : Nat) (x : Dest) (p : NiPart), s.on 0 PCIE_STAT_up = true →
    s.live 0 = true →
    s.pcie.barFrom = some k ∧ k ≤ s.time.count →
    off % 512 + count < 512 →
    s.barTarget bar.val off = some (a, none, key) ∧ key < 64 ∧ a + 512 < 2 ^ 48 →
    s.decodeAddr a (count + 1) = some [x] →
    s.net.ents = [] →
    p = mkPart { src := 0x018#12, write := false, addr := BitVec.ofNat 48 a, count := Fin.ofNat 512 count, key := Fin.ofNat 64 key, afterWrites := !relaxed, bar := barCode bar.val } (KMap.look s.net.seq (0x018 * 32) % 1024) x →
    s.admission p.hdr = .best →
    ∃ t, exec (.pcieHostRequest bar false off count [] relaxed) s = .next t ∧
    t.out = [.packet { p.hdr with reissue := KMap.look s.net.force (streamKey p.hdr) } []] ∧
    p.hdr.srcId = 0x018 ∧ p.hdr.key = key ∧
    t.regs = s.regs) ∧
  (∀ (s : State) (q : Fin 32) (v : BitVec 16), s.live 0 = true →
    ∃ t, exec (.dmaTailWrite q v) s = .next t ∧
    t.f 0 (PCIE_Q_TAIL_index q.val) = v.toNat ∧
    s.regsOnly t [(0, PCIE_Q_TAIL_index q.val)]) ∧
  (∀ (s : State) (q : Fin 32) (w : Word), s.live 0 = true →
    ∃ t, exec (.dmaQueueEnable q w) s = .next t ∧
    t.rd 0 (PCIE_Q_CTRL q.val) = (w ||| 1) &&& 0xFFF ∧ t.f 0 (PCIE_Q_STAT_state q.val) = 1 ∧
    s.regsOnly t [whole 0 (PCIE_Q_CTRL q.val), (0, PCIE_Q_STAT_state q.val)]) ∧
  (∀ (s : State) (q : Fin 32) (started : Nat), s.live 0 = true →
    ∃ t, exec (.dmaQueueDisable q started) s = .next t ∧
    t.f 0 (PCIE_Q_CTRL_enable q.val) = 0 ∧ t.f 0 (PCIE_Q_STAT_state q.val) = (if started = 0 ∨ s.f 0 (PCIE_Q_STAT_state q.val) ≠ 1 then 0 else 2) ∧
    s.regsOnly t [(0, PCIE_Q_CTRL_enable q.val), (0, PCIE_Q_STAT_state q.val)]) ∧
  (∀ (s : State) (q : Fin 32) (desc : BitVec 224) (later : List Bool), s.live 0 = true →
    s.f 0 (PCIE_Q_STAT_state q.val) = 1 ∧ s.f 0 (PCIE_Q_HEAD_index q.val) ≠ s.f 0 (PCIE_Q_TAIL_index q.val) →
    descValid desc = true ∧ nbit desc.toNat 161 = false →
    s.f 0 (PCIE_Q_CTRL_ring q.val) ≤ 16 →
    ∃ t, exec (.dmaDescriptorDone q desc 0 0 later) s = .next t ∧
    t.out = [.dmaStatus q.val (s.f 0 (PCIE_Q_HEAD_index q.val)) 0x80000000] ∧
    t.f 0 (PCIE_Q_HEAD_index q.val) = (s.f 0 (PCIE_Q_HEAD_index q.val) + 1) % s.ring q.val ∧
    s.regsOnly t [(0, PCIE_Q_HEAD_index q.val)]) ∧
  (∀ (s : State) (q : Fin 32) (desc : BitVec 224) (host : Fin 7) (noc : Byte), s.live 0 = true →
    s.f 0 (PCIE_Q_STAT_state q.val) = 1 ∧ s.f 0 (PCIE_Q_HEAD_index q.val) ≠ s.f 0 (PCIE_Q_TAIL_index q.val) →
    descValid desc = false ∨ host ≠ 0 ∨ noc ≠ 0 →
    ∃ t, exec (.dmaDescriptorDone q desc host noc []) s = .next t ∧
    t.out.head? = some (.dmaStatus q.val (s.f 0 (PCIE_Q_HEAD_index q.val)) (if descValid desc then dmaWord host.val noc.toNat else dmaWord 5 0)) ∧
    t.f 0 (PCIE_Q_STAT_state q.val) = 3 ∧ t.f 0 PCIE_EVT_dma_err = 1 ∧ t.f 0 (PCIE_Q_HEAD_index q.val) = s.f 0 (PCIE_Q_HEAD_index q.val) ∧
    t.f 0 (PCIE_Q_STAT_host q.val) = (if descValid desc then host.val else 5) ∧ t.f 0 (PCIE_Q_STAT_noc q.val) = (if descValid desc then noc.toNat else 0) ∧
    s.onlyPages t [(0, 0x50)] ∧ t.rest = s.rest)

/-- On a port that takes control blocks, one with a bad check or another type only counts. A HELLO of another width or rate gives DOWN with
reason 2, of a role that does not pair 3; the fourth good one in LINKUP brings a downstream or peer port UP and an upstream port to JOINING.
A whole frame with the next seq is accepted, acknowledged and counted; any other sends one NAK, until that seq comes. An ACK drops the
frames it covers. A NAK, and a time without progress, replay what is not acknowledged, but after 8 in a row the port goes DOWN with 5; a
GOODBYE gives 6, a loss of HELLOs 4, the Hawkmoth's port-down 7, after 16 GOODBYEs. DOWN empties what the port holds. Its retry and its
port-up start training again; another initiator is refused. -/
def Obligations.PortsExchangeFramesAndComeUpOrGoDown : Prop :=
  (∀ (s : State) (p : Fin 8) (b : BitVec 64) (body : List Byte), s.portSends p.val = true →
    ctlOk b = false →
    ∃ t, exec (.hello p b) s = .next t ∧
    t.pf p.val ITA_P_ERR_ctl = min (s.pf p.val ITA_P_ERR_ctl + 1) (2 ^ 8 - 1) ∧
    s.regsOnly t [(portDie p.val, ITA_P_ERR_ctl (p.val % 4))] ∧
    exec (.fstart p b body) s = .next t ∧ exec (.ack p b) s = .next t ∧ exec (.nak p b) s = .next t ∧ exec (.goodbye p b) s = .next t) ∧
  (∀ (s : State) (p : Fin 8) (b : BitVec 64), s.portSends p.val = true →
    ctlOk b = true ∧ nbits b.toNat 0 8 = 0x83 →
    nbits b.toNat 28 2 ≠ s.pf p.val ITA_P_CFG_width ∨ nbits b.toNat 30 2 ≠ s.pf p.val ITA_P_CFG_rate ∨ rolesPair (s.portRole p.val) (nbits b.toNat 26 2) = false →
    ∃ t, exec (.hello p b) s = .next t ∧
    t.portState p.val = 5 ∧ t.pf p.val ITA_P_STAT_reason = (if nbits b.toNat 28 2 ≠ s.pf p.val ITA_P_CFG_width ∨ nbits b.toNat 30 2 ≠ s.pf p.val ITA_P_CFG_rate then 2 else 3) ∧
    t.f 0 ITA_EVT_port_down = 1 ∧ t.port p.val = {} ∧
    (s.upstream ≠ p.val ∧ s.ita.remote.any (fun r => r.port == p.val) = false → s.onlyPages t [(p.val / 4, 0x28), (0, 0x28)] ∧ t.rest = { s.rest with ita := t.ita })) ∧
  (∀ (s : State) (p : Fin 8) (b : BitVec 64), s.portState p.val = 2 →
    ctlOk b = true ∧ nbits b.toNat 0 8 = 0x83 →
    nbits b.toNat 28 2 = s.pf p.val ITA_P_CFG_width ∧ nbits b.toNat 30 2 = s.pf p.val ITA_P_CFG_rate ∧ rolesPair (s.portRole p.val) (nbits b.toNat 26 2) = true →
    ∃ t, exec (.hello p b) s = .next t ∧
    t.pf p.val ITA_P_STAT_far_id = nbits b.toNat 8 14 ∧ t.pf p.val ITA_P_STAT_sync = nbits b.toNat 40 1 ∧
    t.portState p.val = (if (s.port p.val).hellos < 3 then 2 else if s.portRole p.val = 0 then 3 else 4) ∧
    (t.port p.val).hellos = (if (s.port p.val).hellos < 3 then (s.port p.val).hellos + 1 else 0) ∧
    (s.upstream ≠ p.val → s.onlyPages t [(p.val / 4, 0x28), (0, 0x28)] ∧ t.rest = { s.rest with ita := t.ita })) ∧
  (∀ (s : State) (p : Fin 8) (b : BitVec 64) (body : List Byte) (k : Nat), s.portSends p.val = true →
    ctlOk b = true ∧ nbits b.toNat 0 8 = 0x80 ∧ nbits b.toNat 8 3 = k ∧ 1 ≤ k ∧ k ≤ 4 →
    frameBodyOk b body = true ∧ nbits b.toNat 19 12 = (s.port p.val).rxSeq →
    ∃ t, exec (.fstart p b body) s = .next t ∧
    t.port p.val = { s.port p.val with rxSeq := ((s.port p.val).rxSeq + 1) % 4096, nakSent := false } ∧
    t.out = [.itaAccept p.val k, .itaCtl p.val (mkAck (t.port p.val))] ∧
    t.regs = s.regs ∧
    t.rest = { s.rest with ita := t.ita }) ∧
  (∀ (s : State) (p : Fin 8) (b : BitVec 64) (body : List Byte), s.portSends p.val = true →
    ctlOk b = true ∧ nbits b.toNat 0 8 = 0x80 ∧ 1 ≤ nbits b.toNat 8 3 ∧ nbits b.toNat 8 3 ≤ 4 →
    frameBodyOk b body = false ∨ nbits b.toNat 19 12 ≠ (s.port p.val).rxSeq →
    ∃ t, exec (.fstart p b body) s = .next t ∧
    (t.port p.val).rxSeq = (s.port p.val).rxSeq ∧ (t.port p.val).nakSent = true ∧
    t.out = (if (s.port p.val).nakSent then [] else [.itaCtl p.val (mkNak (s.port p.val).rxSeq)]) ∧
    s.onlyFields t [(portDie p.val, ITA_P_ERR_crc (p.val % 4)), (portDie p.val, ITA_P_REPLAY_naks (p.val % 4))] ∧
    t.rest = { s.rest with ita := t.ita }) ∧
  (∀ (s : State) (p : Fin 8) (b : BitVec 64), s.portSends p.val = true →
    ctlOk b = true ∧ nbits b.toNat 0 8 = 0x81 →
    (s.port p.val).waiting = [] →
    ∃ t, exec (.ack p b) s = .next t ∧
    (t.port p.val).unacked = ackedUpTo (nbits b.toNat 8 12) (s.port p.val).unacked ∧
    (t.port p.val).seen = [nbits b.toNat 20 6, nbits b.toNat 26 6, nbits b.toNat 32 6, nbits b.toNat 38 6] ∧
    (t.port p.val).rxSeq = (s.port p.val).rxSeq ∧ t.out = [] ∧ t.regs = s.regs ∧
    t.rest = { s.rest with ita := t.ita }) ∧
  (∀ (s : State) (p : Fin 8) (b : BitVec 64) (l : List (Nat × ItaMsg)), s.portSends p.val = true →
    ctlOk b = true ∧ nbits b.toNat 0 8 = 0x82 →
    (s.port p.val).unacked.any (fun f => f.1 == nbits b.toNat 8 12) = true →
    l = (s.port p.val).unacked.dropWhile (fun f => f.1 != nbits b.toNat 8 12) →
    (s.port p.val).replays < 8 →
    ∃ t, exec (.nak p b) s = .next t ∧
    (t.port p.val).unacked = l ∧
    t.out = l.map (fun e => .ita p.val (some e.1) e.2) ∧
    t.pf p.val ITA_P_REPLAY_replays = min (s.pf p.val ITA_P_REPLAY_replays + 1) (2 ^ 16 - 1) ∧
    s.onlyFields t [(portDie p.val, ITA_P_REPLAY_replays (p.val % 4))] ∧
    t.rest = { s.rest with ita := t.ita }) ∧
  (∀ (s : State) (p : Fin 8), s.portSends p.val = true →
    (s.port p.val).unacked ≠ [] →
    ∃ t, exec (.replayTimeout p) s = .next t ∧
    (8 ≤ (s.port p.val).replays → t.portState p.val = 5 ∧ t.pf p.val ITA_P_STAT_reason = 5) ∧
    ((s.port p.val).replays < 8 → t.out = (s.port p.val).unacked.map (fun e => .ita p.val (some e.1) e.2) ∧
      t.port p.val = { s.port p.val with replays := (s.port p.val).replays + 1 }) ∧
    (s.upstream ≠ p.val ∧ s.ita.remote.any (fun r => r.port == p.val) = false → s.onlyPages t [(p.val / 4, 0x28), (0, 0x28)] ∧ t.rest = { s.rest with ita := t.ita })) ∧
  (∀ (s : State) (p : Fin 8) (b : BitVec 64), s.portSends p.val = true →
    ctlOk b = true ∧ nbits b.toNat 0 8 = 0x85 →
    ∃ t, exec (.goodbye p b) s = .next t ∧
    t.portState p.val = 5 ∧ t.pf p.val ITA_P_STAT_reason = 6 ∧ t.f 0 ITA_EVT_port_down = 1 ∧ t.port p.val = {} ∧
    (s.upstream ≠ p.val ∧ s.ita.remote.any (fun r => r.port == p.val) = false → s.onlyPages t [(p.val / 4, 0x28), (0, 0x28)] ∧ t.rest = { s.rest with ita := t.ita })) ∧
  (∀ (s : State) (p : Fin 8), s.portSends p.val = true →
    ∃ t, exec (.helloTimeout p) s = .next t ∧
    t.portState p.val = 5 ∧ t.pf p.val ITA_P_STAT_reason = 4 ∧ t.f 0 ITA_EVT_port_down = 1 ∧ t.port p.val = {} ∧
    (s.upstream ≠ p.val ∧ s.ita.remote.any (fun r => r.port == p.val) = false → s.onlyPages t [(p.val / 4, 0x28), (0, 0x28)] ∧ t.rest = { s.rest with ita := t.ita })) ∧
  (∀ (s : State) (p : Fin 8), s.portState p.val = 5 →
    ∃ t, exec (.portRetryTimeout p) s = .next t ∧
    t.portState p.val = 1 ∧
    (∀ i : Init, isHawkmoth i = true → s.pf p.val ITA_P_CFG_en = 1 → ∃ u, exec (.itaPortUpOp i p) s = .next u ∧ u.portState p.val = 1 ∧
      u.f 0 ITA_CMDSTAT_op = 2 ∧ u.f 0 ITA_CMDSTAT_reason = 0)) ∧
  (∀ (s : State) (i : Init) (p : Fin 8), isHawkmoth i = true →
    s.pf p.val ITA_P_CFG_en = 1 →
    s.portState p.val = 4 →
    ∃ t, exec (.itaPortDownOp i p) s = .next t ∧
    t.portState p.val = 5 ∧ t.pf p.val ITA_P_STAT_reason = 7 ∧ t.f 0 ITA_CMDSTAT_op = 1 ∧ t.f 0 ITA_CMDSTAT_reason = 0 ∧
    t.out.take 16 = List.replicate 16 (.itaCtl p.val (mkGoodbye 3)) ∧
    (s.upstream ≠ p.val ∧ s.ita.remote.any (fun r => r.port == p.val) = false → s.onlyPages t [(p.val / 4, 0x28), (0, 0x28)] ∧ t.rest = { s.rest with ita := t.ita })) ∧
  (∀ (s : State) (i : Init) (p : Fin 8), isHawkmoth i = false →
    ∃ t, exec (.itaPortUpOp i p) s = .next t ∧
    t.f 0 ITA_CMDSTAT_op = 2 ∧ t.f 0 ITA_CMDSTAT_reason = 1 ∧ t.f 0 ITA_EVT_refused = 1 ∧
    s.regsOnly t [(0, ITA_CMDSTAT_op), (0, ITA_CMDSTAT_reason), (0, ITA_EVT_refused)])

/-- A JOIN_REQ on a sending downstream port is refused with its first reason, or granted for boundary n + 64 with the offered ID, which
becomes the child's with its route. A grant in JOINING gives the ID and H, is kept with J, and starts a calibration; a refusal counts and
asks again. At J the follower loads number, count and period, ends holdover and comes UP. A rejoin goes from UP to JOINING, a rehome makes
an alt peer the upstream. A TSYNC that leaves a parent is followed by a time frame with its stamp, one that arrives is noted; a time frame
of that tseq gives the offset, t4 - t3 less delay and asymmetry, after a calibration with the delay half of (t4 - t1) - (t3 - t2). An
unanswered calibration is dropped. -/
def Obligations.FollowersJoinMeasureAndLoadTime : Prop :=
  (∀ (s : State) (p : Fin 8) (id : BitVec 16) (r : Nat), s.portSends p.val = true ∧ s.portRole p.val = 1 →
    joinReason p.val id.toNat s = r ∧ r ≠ 0 →
    ∃ t, exec (.joinReq p id) s = .next t ∧
    t.out = [.ita p.val none (.mgmt (.joinRefuse r))] ∧ t.f 0 ITA_EVT_join_refused = 1 ∧
    s.regsOnly t [(0, ITA_EVT_join_refused)]) ∧
  (∀ (s : State) (p : Fin 8) (id : BitVec 16) (m : ItaMsg), s.portSends p.val = true ∧ s.portRole p.val = 1 ∧ s.hasUpPort = false →
    joinReason p.val id.toNat s = 0 →
    m = .mgmt (.joinGrant (BitVec.ofNat 14 (s.pf p.val ITA_P_CHILD_id)) (BitVec.ofNat 64 (s.time.num + 64)) (BitVec.ofNat 64 (s.boundaryCount (s.time.num + 64))) (BitVec.ofNat 16 (s.f 0 ITA_HORIZON_h))) →
    ∃ t, exec (.joinReq p id) s = .next t ∧
    t.out = [.ita p.val none m] ∧
    (t.port p.val).child = some (s.pf p.val ITA_P_CHILD_id) ∧ t.routeEntry (s.pf p.val ITA_P_CHILD_id) = some p.val ∧
    t.regs = s.regs ∧
    t.rest = { s.rest with ita := t.ita }) ∧
  (∀ (s : State) (p : Fin 8) (id : BitVec 14) (j count : BitVec 64) (h : BitVec 16), s.portState p.val = 3 ∧ s.upstream = p.val →
    ∃ t, exec (.joinGrant p id j count h) s = .next t ∧
    t.f 0 ITA_ID_id = id.toNat ∧ t.f 0 ITA_ID_valid = 1 ∧ t.f 0 ITA_ID_head = (if id.toNat % 64 = 0 then 1 else 0) ∧ t.f 0 ITA_HORIZON_h = h.toNat ∧
    (t.port p.val).grant = some (j.toNat, count.toNat) ∧
    t.out = [.itaCtl p.val (mkTsync (s.port p.val).tseq false true)] ∧
    s.onlyFields t [(0, ITA_ID_id), (0, ITA_ID_valid), (0, ITA_ID_head), (0, ITA_HORIZON_h)] ∧
    t.rest = { s.rest with ita := t.ita }) ∧
  (∀ (s : State) (p : Fin 8) (reason : Nat), s.portState p.val = 3 ∧ s.upstream = p.val ∧ 1 ≤ reason →
    ∃ t, exec (.joinRefuse p reason) s = .next t ∧
    t.out = [.ita p.val none (.mgmt (.joinReq (BitVec.ofNat 16 (if s.f 0 ITA_ID_valid = 1 then s.devId else 0xFFFF))))] ∧
    t.f 0 ITA_EVT_join_refused = 1 ∧
    s.regsOnly t [(0, ITA_EVT_join_refused)]) ∧
  (∀ (s : State) (k j c : Nat), s.hasUpPort = true ∧ s.tick.tb = .running →
    s.portState s.upstream = 3 ∧ (s.port s.upstream).grant = some (j, c) →
    s.slews = false →
    ∃ t, exec (.joinLoad k) s = .next t ∧
    t.time = ⟨c, j, c, s.upPeriod.1, s.upPeriod.2⟩ ∧
    t.tick.sync = true ∧ t.tick.holdover = false ∧
    t.portState s.upstream = 4 ∧ t.f 0 ITA_EVT_port_up = 1 ∧ (t.port s.upstream).grant = none ∧
    t.tick.epoch = (s.tick.epoch + 1) % 256 ∧
    s.onlyPages t [(0, 0x28), (s.upstream / 4, 0x28), (0, 0x01)] ∧ t.rest = { s.rest with ita := t.ita, tick := t.tick, time := t.time }) ∧
  (∀ (s : State) (i : Init) (p : Fin 8), isHawkmoth i = true ∧ s.pf p.val ITA_P_CFG_en = 1 ∧ s.hasUpPort = true →
    s.portState s.upstream = 4 →
    ∃ t, exec (.itaRejoin i p) s = .next t ∧
    t.portState s.upstream = 3 ∧ t.f 0 ITA_CMDSTAT_op = 3 ∧ t.f 0 ITA_CMDSTAT_reason = 0 ∧
    t.out = [.ita s.upstream none (.mgmt (.joinReq (BitVec.ofNat 16 (if s.f 0 ITA_ID_valid = 1 then s.devId else 0xFFFF))))] ∧
    s.onlyPages t [(0, 0x28), (s.upstream / 4, 0x28), (0, 0x01)] ∧ t.rest = { s.rest with tick := t.tick }) ∧
  (∀ (s : State) (i : Init) (p : Fin 8), itaOpReason 4 i p.val s = 0 →
    ∃ t, exec (.itaRehome i p) s = .next t ∧
    t.upstream = p.val ∧ t.portRole p.val = 0 ∧ t.portState p.val = 3 ∧ t.portRole s.upstream = 2 ∧
    t.f 0 ITA_CMDSTAT_op = 4 ∧ t.f 0 ITA_CMDSTAT_reason = 0 ∧
    s.onlyPages t [(0, 0x28), (1, 0x28), (0, 0x01)] ∧ t.rest = { s.rest with tick := t.tick }) ∧
  (∀ (s : State) (p : Fin 8) (b : BitVec 64) (stamp : BitVec 72), s.portSends p.val = true →
    nbit b.toNat 24 = true ∧ nbit b.toNat 25 = false →
    ∃ t, exec (.tsync p true b stamp) s = .next t ∧
    t.out = [.ita p.val none (.time (s.mkTimeFrame (nbits b.toNat 8 16) false 0 stamp.toNat))] ∧
    t.regs = s.regs ∧ t.ita = s.ita ∧
    t.rest = s.rest) ∧
  (∀ (s : State) (p : Fin 8) (b : BitVec 64) (stamp : BitVec 72), s.portSends p.val = true →
    ctlOk b = true ∧ nbits b.toNat 0 8 = 0x84 ∧ nbit b.toNat 24 = true →
    ∃ t, exec (.tsync p false b stamp) s = .next t ∧
    t.port p.val = { s.port p.val with arrival := some (nbits b.toNat 8 16, stamp.toNat) } ∧
    t.regs = s.regs ∧ t.out = [] ∧
    t.rest = { s.rest with ita := t.ita }) ∧
  (∀ (s : State) (p : Fin 8) (f : TimeFrame) (t1 t4 : Nat) (d : Int), s.portSends p.val = true →
    (s.port p.val).arrival = some (f.tseq.toNat, t4) →
    (s.port p.val).calStart = some (f.tseq.toNat, t1) ∧ f.calib = true →
    s.upstream ≠ p.val →
    d = (((t4 : Int) - t1) - ((f.t3.toNat : Int) - f.t2.toNat)) / 2 →
    ∃ t, exec (.timeFrame p f) s = .next t ∧
    t.rd (portDie p.val) (ITA_P_DELAY (p.val % 4)) = toWord d ∧
    t.pf p.val ITA_P_HOPB_hopb = hopBound (s.pf p.val ITA_P_CFG_width) (s.pf p.val ITA_P_CFG_rate) (toWord d).toNat % 2 ^ 16 ∧
    t.rd (portDie p.val) (ITA_P_OFFSET (p.val % 4)) = toWord ((t4 : Int) - f.t3.toNat - ((toWord d).toNat + signed16 (s.pf p.val ITA_P_ASYM_a))) ∧
    (t.port p.val).calStart = none ∧
    s.onlyFields t [whole (portDie p.val) (ITA_P_DELAY (p.val % 4)), whole (portDie p.val) (ITA_P_OFFSET (p.val % 4)), (portDie p.val, ITA_P_HOPB_hopb (p.val % 4))] ∧
    t.rest = { s.rest with ita := t.ita }) ∧
  (∀ (s : State) (p : Fin 8) (f : TimeFrame) (t4 : Nat) (x : Int), s.portSends p.val = true ∧ s.upstream = p.val ∧ s.isRoot = false →
    (s.port p.val).arrival = some (f.tseq.toNat, t4) →
    (s.port p.val).calStart = none →
    f.pending = false ∧ s.tick.pend = none →
    x = (t4 : Int) - f.t3.toNat - ((s.pf p.val ITA_P_DELAY_d : Int) + signed16 (s.pf p.val ITA_P_ASYM_a)) →
    ∃ t, exec (.timeFrame p f) s = .next t ∧
    t.rd (portDie p.val) (ITA_P_OFFSET (p.val % 4)) = toWord x ∧
    t.rd 0 ITA_WORST = BitVec.ofNat 32 (f.rUp.toNat + s.pf p.val ITA_P_HOPB_hopb) ∧
    t.tick.reload = (s.tick.reload || (s.tick.sync && decide (256 < x.natAbs))) ∧
    t.time = s.time ∧
    s.onlyFields t [whole (portDie p.val) (ITA_P_OFFSET (p.val % 4)), whole 0 ITA_WORST, (0, TICK_EVT_out_of_step)] ∧
    t.rest = { s.rest with ita := t.ita, tick := t.tick }) ∧
  (∀ (s : State) (p : Fin 8), ∃ t, exec (.calibrationTimeout p) s = .next t ∧
    t.port p.val = { s.port p.val with calStart := none } ∧ t.regs = s.regs ∧ t.out = [] ∧
    t.rest = { s.rest with ita := t.ita })

/-- A ROUTE_ADD from a child makes its port the route of the ID, a ROUTE_DEL of that port empties it. On the top device a report gives W =
2M + 224; elsewhere the subtree's largest latency goes upstream. An event that arrives, is sent by ITA_EVSEND or by a running region, and
that the event table takes, waits for its boundary when that is still ahead with 64 tb to spare and within 65,535 ticks; a local one is
stamped with n + H + its extra; one too late counts, with its location when the event bit was clear. A pop of the Hawkmoth's FIFO gives its
oldest event with argument and tick, an empty one 0. A remote request for another device goes on by its route, a buffer freed; a response
for this device answers its request with its status and frees the tag. -/
def Obligations.RoutesEventsAndRemoteFramesFindTheirWay : Prop :=
  (∀ (s : State) (p : Fin 8) (id : BitVec 14), s.portSends p.val = true ∧ s.portRole p.val = 1 →
    (s.routeSlot id.toNat).isSome = true →
    ∃ t, exec (.routeAdd p id) s = .next t ∧
    t.routeEntry id.toNat = some p.val ∧
    t.out = (if s.hasUpPort ∧ s.portSends s.upstream then [.ita s.upstream none (.mgmt (.routeAdd id))] else []) ∧
    t.regs = s.regs ∧
    t.rest = { s.rest with ita := t.ita }) ∧
  (∀ (s : State) (p : Fin 8) (id : BitVec 14), s.portSends p.val = true ∧ s.portRole p.val = 1 →
    (s.routeSlot id.toNat).isSome = true →
    s.routeEntry id.toNat = some p.val →
    ∃ t, exec (.routeDel p id) s = .next t ∧
    t.routeEntry id.toNat = none ∧
    t.out = (if s.hasUpPort ∧ s.portSends s.upstream then [.ita s.upstream none (.mgmt (.routeDel id))] else []) ∧
    t.regs = s.regs ∧
    t.rest = { s.rest with ita := t.ita }) ∧
  (∀ (s : State) (p : Fin 8) (r : Word), s.portSends p.val = true ∧ s.portRole p.val = 1 →
    s.hasUpPort = false →
    ∃ t, exec (.report p r) s = .next t ∧
    (t.port p.val).repR = r.toNat ∧
    t.rd 0 ITA_WORST = BitVec.ofNat 32 (2 * t.subtreeR + 224) ∧
    (s.f 0 ITA_HORIZON_h * s.time.p ≤ 2 * t.subtreeR + 224 → t.f 0 ITA_EVT_horizon_short = 1) ∧
    s.onlyFields t [whole 0 ITA_WORST, (0, ITA_EVT_horizon_short)] ∧
    t.rest = { s.rest with ita := t.ita }) ∧
  (∀ (s : State), s.hasUpPort = true ∧ s.portSends s.upstream = true →
    ∃ t, exec .reportSend s = .next t ∧
    t = s.fresh.emit (.ita s.upstream none (.mgmt (.report (BitVec.ofNat 32 s.subtreeR))))) ∧
  (∀ (s : State) (p : Fin 8) (m : EvMsg) (w : Nat), s.portState p.val = 4 ∧ s.portRole p.val ≤ 1 →
    (s.ertEntry m.num.toNat).1 = w ∧ nbit w 31 = true ∧ (m.src.toNat ^^^ nbits w 0 14) &&& nbits w 14 14 = 0 →
    s.time.num < m.act.toNat ∧ m.act.toNat ≤ s.time.num + 65535 ∧ s.time.count + 64 ≤ s.boundaryCount m.act.toNat →
    s.ita.pend.length < 1024 →
    ∃ t, exec (.eventFrame p m) s = .next t ∧
    t.ita.pend = s.ita.pend ++ [⟨m.act.toNat, nbits w 28 3, (s.ertEntry m.num.toNat).2, m⟩] ∧
    t.regs = s.regs ∧
    t.rest = { s.rest with ita := t.ita }) ∧
  (∀ (s : State) (p : Fin 8) (m : EvMsg) (w : Nat), s.portState p.val = 4 ∧ s.portRole p.val ≤ 1 →
    (s.ertEntry m.num.toNat).1 = w ∧ nbit w 31 = true ∧ (m.src.toNat ^^^ nbits w 0 14) &&& nbits w 14 14 = 0 →
    m.act.toNat ≤ s.time.num →
    s.ita.pend.length < 1024 →
    ∃ t, exec (.eventFrame p m) s = .next t ∧
    t.ita.pend = s.ita.pend ++ (if m.be then [⟨s.time.num + 1, nbits w 28 3, (s.ertEntry m.num.toNat).2, m⟩] else []) ∧
    t.f 0 ITA_EV_LATE_value = min (s.f 0 ITA_EV_LATE_value + 1) (2 ^ 32 - 1) ∧ t.f 0 ITA_EVT_late = 1 ∧
    (s.f 0 ITA_EVT_late = 0 → t.f 0 ITA_EV_LATELOC_source = m.src.toNat ∧ t.f 0 ITA_EV_LATELOC_event = m.num.toNat ∧ t.f 0 ITA_EV_LATELOC_be = m.be.toNat) ∧
    s.onlyFields t [(0, ITA_EV_LATE_value), (0, ITA_EVT_late), whole 0 ITA_EV_LATELOC] ∧
    t.rest = { s.rest with ita := t.ita }) ∧
  (∀ (s : State) (v : Word) (w : Nat), s.ita.localEv < 64 →
    (s.ertEntry (bitsOf v 0 14)).1 = w ∧ nbit w 31 = true ∧ (s.devId ^^^ nbits w 0 14) &&& nbits w 14 14 = 0 →
    0 < s.f 0 ITA_HORIZON_h + bitsOf v 16 16 ∧ s.f 0 ITA_HORIZON_h + bitsOf v 16 16 ≤ 65535 →
    s.time.num + s.f 0 ITA_HORIZON_h + bitsOf v 16 16 < 2 ^ 64 →
    s.time.count + 64 ≤ s.boundaryCount (s.time.num + s.f 0 ITA_HORIZON_h + bitsOf v 16 16) →
    s.ita.pend.length < 1024 →
    ∃ t, exec (.itaEvsend v 0) s = .next t ∧
    t.ita.pend.map (fun e => (e.act, e.action, e.param)) = s.ita.pend.map (fun e => (e.act, e.action, e.param)) ++
      [(s.time.num + s.f 0 ITA_HORIZON_h + bitsOf v 16 16, nbits w 28 3, (s.ertEntry (bitsOf v 0 14)).2)] ∧
    t.ita.localEv = s.ita.localEv + 1 ∧
    t.regs = s.regs ∧
    t.rest = { s.rest with ita := t.ita }) ∧
  (∀ (s : State) (r : Fin 192) (num : BitVec 14) (arg : Word) (be cluster : Bool), s.regionState (regionDie r.val) (regionLocal r.val) = 5 →
    64 ≤ s.ita.localEv →
    ∃ t, exec (.evtSend r num arg be cluster 0) s = .next t ∧
    t.f 0 ITA_EV_OVF_value = min (s.f 0 ITA_EV_OVF_value + 1) (2 ^ 32 - 1) ∧ t.f 0 ITA_EVT_overflow = 1 ∧
    t.ita.pend = s.ita.pend ∧
    s.onlyFields t [(0, ITA_EV_OVF_value), (0, ITA_EVT_overflow)] ∧ t.rest = s.rest) ∧
  (∀ (s : State) (r : Fin 192) (num : BitVec 14) (arg : Word) (be cluster : Bool) (w : Nat), s.regionState (regionDie r.val) (regionLocal r.val) = 5 →
    s.ita.localEv < 64 →
    (s.ertEntry num.toNat).1 = w ∧ nbit w 31 = true ∧ (s.devId ^^^ nbits w 0 14) &&& nbits w 14 14 = 0 →
    0 < s.f 0 ITA_HORIZON_h →
    s.time.num + s.f 0 ITA_HORIZON_h < 2 ^ 64 →
    s.time.count + 64 ≤ s.boundaryCount (s.time.num + s.f 0 ITA_HORIZON_h) →
    s.ita.pend.length < 1024 →
    ∃ t, exec (.evtSend r num arg be cluster 0) s = .next t ∧
    t.ita.pend.map (fun e => (e.act, e.action, e.param, e.msg.arg)) = s.ita.pend.map (fun e => (e.act, e.action, e.param, e.msg.arg)) ++
      [(s.time.num + s.f 0 ITA_HORIZON_h, nbits w 28 3, (s.ertEntry num.toNat).2, arg)] ∧
    t.regs = s.regs ∧
    t.rest = { s.rest with ita := t.ita }) ∧
  (∀ (s : State) (m : EvMsg) (l : List EvMsg), s.ita.hev = m :: l →
    ∃ t, exec (.itaHevPop false) s = .next t ∧
    t.out = [.value (packBits [(0, m.src.toNat), (14, m.num.toNat), (28, 1)])] ∧
    t.ita.hev = l ∧ t.rd 0 ITA_HEV_ARG = m.arg ∧ t.rd 0 ITA_HEV_TICK = BitVec.ofNat 32 m.act.toNat ∧
    s.onlyFields t [whole 0 ITA_HEV_ARG, whole 0 ITA_HEV_TICK] ∧
    exec (.itaHevPop true) s = .next (s.fresh.emit (.value (packBits [(0, m.src.toNat), (14, m.num.toNat), (28, 1)]))) ∧
    t.rest = { s.rest with ita := t.ita }) ∧
  (∀ (s : State) (p : Fin 8) (m : MemFrame) (q : Nat), s.portState p.val = 4 →
    m.target.toNat ≠ s.devId ∧ s.routePort m.target.toNat true = some q →
    q ≠ p.val ∧ s.portState q = 4 ∧ nth (s.port q).used 1 < 64 ∧ (s.port q).unacked.length < 128 →
    ∃ t, exec (.remoteMemoryRequest p m) s = .next t ∧
    t.out.getLast? = some (.ita q (some (s.port q).txSeq) (.memReq m)) ∧ t.out.length = 2 ∧
    nth (t.port p.val).freed 1 = (nth (s.port p.val).freed 1 + 1) % 64 ∨ (s.port p.val).freed.length < 2 ∧
    t.regs = s.regs ∧ t.net = s.net ∧
    t.rest = { s.rest with ita := t.ita }) ∧
  (∀ (s : State) (p : Fin 8) (m : MemFrame) (r : Remote), s.portState p.val = 4 →
    m.target.toNat = s.devId →
    s.ita.remote = [r] ∧ r.port = p.val ∧ r.tag = m.tag.val →
    ∃ t, exec (.remoteMemoryResponse p m) s = .next t ∧
    t.ita.remote = [] ∧
    (m.status ≠ 0 → t.out.getLast? = some (.packet (r.hdr.answer 4 m.status.toNat 0) [])) ∧
    (m.status = 0 → r.hdr.opcode = 1 → t.out.getLast? = some (.packet (r.hdr.answer 3 0 0) [])) ∧
    (m.status = 0 → r.hdr.opcode ≠ 1 → t.out.getLast? = some (.packet (r.hdr.answer 2 0 m.lines.length) (mkFlits m.lines))) ∧
    (m.status ≠ 0x0B → s.onlyFields t [] ∧ t.rest = { s.rest with ita := t.ita, net := t.net, stats := t.stats }))

/-- The host submits a frame of 28 to 92 bytes to the FIFO, or waits with it while the FIFO is full; others, and other lengths, are refused
with their reason. A frame on the upstream port enters behind the others; on another port it only counts. Checking the frame at the front: a
bad head is logged with reason 1, another device's with no route with 2, and neither consumes a counter. For this device's the first failing
check is its reason: an accepted frame waits for its commit with the key that it was checked under, is counted and makes its counter the
last one, as do reasons 9 and 10; a bad tag counts. The last accepted counter never falls, and in every state whose last counter has reached
a frame's, checking that frame accepts nothing. A checkpoint done becomes K. -/
def Obligations.NoCommandIsAcceptedTwice : Prop :=
  (∀ (s : State) (i : Init) (v : Word) (n : Nat), s.live 0 = true →
    n = bitsOf v 0 7 →
    s.hostPath i = false ∨ s.cmd.held = none ∧ (n < 28 ∨ 92 < n) →
    ∃ t, exec (.cmdHsubmit i v) s = .next t ∧
    t.f 0 CMD_HSTAT_reason = (if s.hostPath i then 3 else 1) ∧ t.f 0 CMD_EVT_host_refused = 1 ∧
    s.regsOnly t [(0, CMD_HSTAT_reason), (0, CMD_EVT_host_refused)]) ∧
  (∀ (s : State) (i : Init) (v : Word) (n : Nat) (w : CmdWait), s.live 0 = true →
    n = bitsOf v 0 7 ∧ 28 ≤ n ∧ n ≤ 92 →
    s.hostPath i = true ∧ s.cmd.held = none →
    w = { frame := BitVec.ofNat 768 (s.hostFrame.toNat % 2 ^ (8 * n)), up := false, len := n } →
    ∃ t, exec (.cmdHsubmit i v) s = .next t ∧
    t.cmd.fifo = s.cmd.fifo ++ (if s.cmd.fifo.length < 4 then [w] else []) ∧
    t.cmd.held = (if s.cmd.fifo.length < 4 then none else some w) ∧
    t.f 0 CMD_HSTAT_reason = (if s.cmd.fifo.length < 4 then 0 else 2) ∧
    s.onlyFields t [(0, CMD_HSTAT_reason), (0, CMD_HSTAT_full)] ∧
    t.rest = { s.rest with cmd := t.cmd }) ∧
  (∀ (s : State) (p : Fin 8) (f : CmdFrame), s.portState p.val = 4 →
    s.hasUpPort = false ∨ s.upstream ≠ p.val →
    ∃ t, exec (.commandFrame p f) s = .next t ∧
    t.pf p.val ITA_P_ERR_cmd = min (s.pf p.val ITA_P_ERR_cmd + 1) (2 ^ 8 - 1) ∧ t.f 0 ITA_EVT_cmd_wrongpath = 1 ∧
    t.cmd = s.cmd ∧
    s.onlyFields t [(portDie p.val, ITA_P_ERR_cmd (p.val % 4)), (0, ITA_EVT_cmd_wrongpath)] ∧
    t.rest = { s.rest with ita := t.ita }) ∧
  (∀ (s : State) (p : Fin 8) (f : CmdFrame), s.portState p.val = 4 →
    s.hasUpPort = true ∧ s.upstream = p.val →
    s.cmd.held = none ∧ s.cmd.port = [] ∧ s.cmd.fifo.length < 4 →
    ∃ t, exec (.commandFrame p f) s = .next t ∧
    t.cmd = { s.cmd with fifo := s.cmd.fifo ++ [{ frame := f, up := true }] } ∧
    t.regs = s.regs ∧
    t.rest = { s.rest with cmd := t.cmd, ita := t.ita }) ∧
  (∀ (s : State) (w : CmdWait) (l : List CmdWait), s.live 0 = true ∧ s.tbRuns = true ∧ s.cmd.rekey = false ∧ s.f 0 CMD_STAT_ticked < 16 →
    s.cmd.fifo = w :: l →
    headOk w = false ∨ s.forMe w.frame = false ∧ s.frameRoute w.frame = none →
    ∃ t, exec .commandCheck s = .next t ∧
    (t.cmd.log.head?).map (fun e => (e.reason, e.consumed, e.up, e.counter)) = some (if headOk w then 2 else 1, false, w.up, frameCounter w.frame) ∧
    t.lastCounter = s.lastCounter ∧ t.cmd.acc = s.cmd.acc ∧
    t.f 0 CMD_EVT_refused = 1 ∧
    s.onlyPages t [(0, 0x08)] ∧ t.rest = { s.rest with cmd := t.cmd, ita := t.ita }) ∧
  (∀ (s : State) (w : CmdWait) (l : List CmdWait), s.live 0 = true ∧ s.tbRuns = true ∧ s.cmd.rekey = false ∧ s.f 0 CMD_STAT_ticked < 16 →
    s.cmd.fifo = w :: l →
    headOk w = true ∧ s.forMe w.frame = true →
    ∃ t, exec .commandCheck s = .next t ∧
    (t.cmd.log.head?).map (fun e => (e.reason, e.consumed, e.counter)) = some (s.frameReason w, decide (s.frameReason w = 0 ∨ s.frameReason w = 9 ∨ s.frameReason w = 10), frameCounter w.frame) ∧
    (s.frameReason w = 0 → t.cmd.acc = s.cmd.acc ++ [(w, s.frameKey w.frame)] ∧ t.f 0 CMD_EVT_accepted = 1 ∧ t.f 0 CMD_ACCEPT_value = min (s.f 0 CMD_ACCEPT_value + 1) (2 ^ 32 - 1)) ∧
    (s.frameReason w ≠ 0 → t.cmd.acc = s.cmd.acc ∧ t.f 0 CMD_EVT_refused = 1) ∧
    (s.frameReason w = 0 ∨ s.frameReason w = 9 ∨ s.frameReason w = 10 → s.lastCounter < frameCounter w.frame ∧ frameCounter w.frame ≤ t.lastCounter ∧
      t.f 0 CMD_LAST_LO_value = frameCounter w.frame % 2 ^ 32 ∧ t.f 0 CMD_LAST_HI_value = frameCounter w.frame / 2 ^ 32) ∧
    (¬(s.frameReason w = 0 ∨ s.frameReason w = 9 ∨ s.frameReason w = 10) → t.lastCounter = s.lastCounter) ∧
    (s.frameReason w = 4 → t.f 0 CMD_TAGFAIL_value = min (s.f 0 CMD_TAGFAIL_value + 1) (2 ^ 32 - 1) ∧ t.f 0 CMD_EVT_tag_fail = 1) ∧
    (∀ (u : State) (k : List CmdWait), u.cmd.fifo = w :: k → frameCounter w.frame ≤ u.lastCounter → ∃ v, exec .commandCheck u = .next v ∧ v.cmd.acc = u.cmd.acc) ∧
    s.onlyPages t [(0, 0x08)] ∧ t.rest = { s.rest with cmd := t.cmd, ita := t.ita, jour := t.jour }) ∧
  (∀ (s : State) (v : Nat), s.live 0 = true →
    s.cmd.ckpt = some v →
    s.jour.buf.any (fun r => decide (r.kind = 1)) = false →
    ∃ t, exec .counterCheckpointDone s = .next t ∧
    t.f 0 CMD_CKPT_LO_value = v % 2 ^ 32 ∧ t.f 0 CMD_CKPT_HI_value = v / 2 ^ 32 % 2 ^ 16 ∧ t.f 0 CMD_EVT_ckpt_done = 1 ∧
    t.f 0 KEYS_CKPT_HI_valid = 1 ∧ t.lastCounter = s.lastCounter ∧ t.cmd.acc = s.cmd.acc ∧
    (s.cmd.rekey = true → s.cmd.burn = none → t.cmd.rekey = false ∧ t.f 0 CMD_STAT_busy = 0) ∧
    s.onlyPages t [(0, 0x08), (0, 0x09)] ∧ t.rest = { s.rest with cmd := t.cmd, jour := t.jour })

/-- A legal SET_LIFECYCLE starts the burn of its state and ends commits; a REKEY with a row left puts both keys in use with their check
values, starts the burn of the next row and clears the guard. A KEY_LOAD of a slot that an enabled range names is refused and changes
nothing; otherwise it fills the slot, or leaves it empty with clear or H = 0, and its event is set. DEBUG_UNLOCK makes its grants the ones
in effect, with their expiry. SET_TIME_ROOT sets the configured role. In the blank state the debug master writes the selected word of a
provisioning item, others are refused, and the burn starts when all four items are written, else it is refused with 3; in another state with
1, by another initiator with 2. -/
def Obligations.CommittedKeyAndLifeCycleCommandsTakeEffect : Prop :=
  (∀ (s : State) (x : Fin 5), s.live 0 = true ∧ s.cmd.ended = none →
    lcMove s.keys.lc x.val s.fuses.moves = true →
    ∃ t, exec (.setLifecycle x) s = .next t ∧
    t.cmd = { s.cmd with burn := some (.lifeCycle x.val), ended := some s.time.num } ∧
    t.f 0 CMD_STAT_busy = 1 ∧ t.keys = s.keys ∧ t.fuses = s.fuses ∧
    s.onlyFields t [(0, CMD_STAT_busy)] ∧
    t.rest = { s.rest with cmd := t.cmd }) ∧
  (∀ (s : State) (a b : BitVec 128), s.live 0 = true ∧ s.cmd.burn = none ∧ s.fuses.rows.length < 8 →
    ∃ t, exec (.rekey a b) s = .next t ∧
    t.keys = { s.keys with cmd := a, bc := b } ∧
    t.cmd = { s.cmd with burn := some (.row a b), rekey := true } ∧
    t.f 0 CMD_STAT_busy = 1 ∧ t.f 0 CMD_STAT_guard = 0 ∧ t.f 0 KEYS_EVT_rekeyed = 1 ∧
    s.onlyFields t [(0, CMD_STAT_busy), (0, CMD_STAT_guard), (0, KEYS_EVT_rekeyed), whole 0 KEYS_KCV_CMD, whole 0 KEYS_KCV_BC] ∧
    t.rest = { s.rest with keys := t.keys, cmd := t.cmd }) ∧
  (∀ (s : State) (slot : Fin 64) (clear : Bool) (key : KeySlot), s.live 0 = true ∧ slot ≠ 0 →
    ∃ t, exec (.keyLoad slot clear key) s = .next t ∧
    (nbit (s.rd64 0 MIU_SLOT_LO MIU_SLOT_HI) slot.val = true → t = s.fresh) ∧
    (nbit (s.rd64 0 MIU_SLOT_LO MIU_SLOT_HI) slot.val = false → KMap.look t.keys.slot slot.val = (if clear ∨ key.h = 0 then {} else key) ∧
      t.f 0 (if clear ∨ key.h = 0 then KEYS_EVT_slot_cleared else KEYS_EVT_slot_loaded) = 1 ∧
      nbit (t.rd64 0 KEYS_FILLED_LO KEYS_FILLED_HI) slot.val = !(clear || decide (key.h = 0))) ∧
    s.onlyFields t [(0, KEYS_EVT_slot_cleared), (0, KEYS_EVT_slot_loaded), whole 0 KEYS_FILLED_LO, whole 0 KEYS_FILLED_HI]) ∧
  (∀ (s : State) (skipper hold : Bool) (expiry : BitVec 64), s.live 0 = true →
    ∃ t, exec (.debugUnlock skipper hold expiry) s = .next t ∧
    t.f 0 KEYS_STAT_skipper_dbg = skipper.toNat ∧ t.f 0 KEYS_STAT_hold = hold.toNat ∧ t.f 0 DBG_RIGHTS_hold = hold.toNat ∧
    t.rd64 0 DBG_GEXP_LO DBG_GEXP_HI = (if skipper || hold then expiry.toNat else 0) ∧
    (s.keys.lc = 2 → t.f 0 DBG_RIGHTS_skipper = skipper.toNat) ∧
    (s.f 0 KEYS_STAT_skipper_dbg = 1 → skipper = false → t.f 0 DBG_EVT_grant_end = 1) ∧
    (s.f 0 KEYS_STAT_skipper_dbg = 0 ∨ skipper = true → s.onlyPages t [(0, 0x09), (0, 0x0A), (0, 0x80)] ∧ t.rest = s.rest)) ∧
  (∀ (s : State) (root : Bool), s.live 0 = true →
    ∃ t, exec (.setTimeRoot root) s = .next t ∧
    t.f 0 TICK_ROLE_cfg = root.toNat ∧ t.f 0 TICK_ROLE_source = 2 ∧
    s.onlyFields t [(0, TICK_ROLE_cfg), (0, TICK_ROLE_source), (0, TICK_ROLE_root), (0, ITA_EVT_root_conflict)] ∧
    t.rest = { s.rest with tick := t.tick }) ∧
  (∀ (s : State) (i : Init) (v : Word), s.live 0 = true ∧ s.keys.lc = 0 ∧ isDebugMaster i = true →
    s.f 0 KEYS_PROV_SEL_word < provWords (s.f 0 KEYS_PROV_SEL_item) →
    ∃ t, exec (.provisionDataWrite i v) s = .next t ∧
    KMap.look t.keys.prov (provKey (s.f 0 KEYS_PROV_SEL_item) (s.f 0 KEYS_PROV_SEL_word)) = v ∧
    s.onlyFields t [(0, KEYS_PROV_STAT_written)] ∧
    t.rest = { s.rest with keys := t.keys }) ∧
  (∀ (s : State) (i : Init) (v : Word), s.live 0 = true →
    s.keys.lc ≠ 0 ∨ isDebugMaster i = false →
    ∃ t, exec (.provisionDataWrite i v) s = .next t ∧
    t.f 0 KEYS_EVT_refused = 1 ∧
    s.regsOnly t [(0, KEYS_EVT_refused)]) ∧
  (∀ (s : State) (i : Init) (r : Nat), s.live 0 = true →
    s.keys.lc ≠ 0 ∧ r = 1 ∨ s.keys.lc = 0 ∧ isDebugMaster i = false ∧ r = 2 ∨
    s.keys.lc = 0 ∧ isDebugMaster i = true ∧ s.cmd.burn = none ∧ s.f 0 KEYS_PROV_STAT_written ≠ 15 ∧ r = 3 →
    ∃ t, exec (.provisionBurn i) s = .next t ∧
    t.f 0 KEYS_PROV_STAT_reason = r ∧ t.f 0 KEYS_EVT_prov_refused = 1 ∧
    s.regsOnly t [(0, KEYS_PROV_STAT_reason), (0, KEYS_EVT_prov_refused), (0, KEYS_EVT_refused)]) ∧
  (∀ (s : State) (i : Init), s.live 0 = true →
    s.keys.lc = 0 ∧ isDebugMaster i = true ∧ s.cmd.burn = none ∧ s.f 0 KEYS_PROV_STAT_written = 15 →
    ∃ t, exec (.provisionBurn i) s = .next t ∧
    t.cmd.burn = some .provision ∧ t.f 0 KEYS_PROV_STAT_busy = 1 ∧
    s.onlyFields t [(0, KEYS_PROV_STAT_busy)] ∧
    t.rest = { s.rest with cmd := t.cmd })

/-- A retrain by another initiator than the Hawkmoth and the memory agent of the channel's die is refused with reason 1; of an OFF channel
it ends with reason 5, of a TRAINING or REPAIR one with 3 (a REPAIR channel: the model's choice), else the channel is TRAINING and busy, at
the grade of the start. Training with a supported SPD that ends well leaves READY at the grade (4 for two DIMMs where the target is for one)
with the organization shown; an unsupported SPD leaves FAILED with reason 2, a failed one with 4; without a DIMM the channel is OFF. A
second ALERT# within 1 ms begins a retrain, a first one only marks its time. A request is answered RETRY while the channel trains or repairs
and no-target while it is OFF or FAILED; outside every protected range a READY channel stores a full line and acknowledges it, and reads a
written line without an error as it was stored; a line with an uncorrectable error is answered 0x06 and reported. A refresh point is owed in
the quiet window and issued otherwise. A reading is stored, above 85 °C it sets hot and above 95 °C overheat. A commit of sets by another
initiator is refused with reason 1; by the Hawkmoth it names the first failing set and changes nothing else, or pends the staged table. A
record pop gives the oldest record and removes it; a debug read removes nothing. PPR_COMMIT on a READY channel with a resource keeps the
row; a repair that ends well leaves READY and ppr_done, a failed one retrains with ppr_fail. -/
def Obligations.DdrChannelsTrainServeAndRepair : Prop :=
  (∀ (s : State) (i : Init) (c : Fin 8), s.live (c.val / 4) = true →
    isHawkmoth i = false ∧ isMemAgentOf i (c.val / 4) = false →
    ∃ t, exec (.ddrRetrain i c) s = .next t ∧
    t.cf c.val DDR_CMDSTAT_reason = 1 ∧ t.cf c.val DDR_EVT_refused = 1 ∧
    s.regsOnly t [(c.val / 4, DDR_CMDSTAT_op (c.val % 4)), (c.val / 4, DDR_CMDSTAT_reason (c.val % 4)), (c.val / 4, DDR_EVT_refused (c.val % 4))]) ∧
  (∀ (s : State) (i : Init) (c : Fin 8) (r : Nat), s.live (c.val / 4) = true →
    isHawkmoth i = true ∨ isMemAgentOf i (c.val / 4) = true →
    s.ddrState c.val = 0 ∧ r = 5 ∨ (s.ddrState c.val = 1 ∨ s.ddrState c.val = 3) ∧ r = 3 →
    ∃ t, exec (.ddrRetrain i c) s = .next t ∧
    t.cf c.val DDR_CMDSTAT_reason = r ∧
    s.regsOnly t [(c.val / 4, DDR_CMDSTAT_op (c.val % 4)), (c.val / 4, DDR_CMDSTAT_reason (c.val % 4))]) ∧
  (∀ (s : State) (i : Init) (c : Fin 8), s.live (c.val / 4) = true →
    isHawkmoth i = true ∨ isMemAgentOf i (c.val / 4) = true →
    s.ddrState c.val = 2 ∨ s.ddrState c.val = 4 →
    ∃ t, exec (.ddrRetrain i c) s = .next t ∧
    t.ddrState c.val = 1 ∧ t.cf c.val DDR_CMDSTAT_busy = 1 ∧ t.cf c.val DDR_CMDSTAT_reason = 0 ∧
    (s.ddr.grade ≠ 0 → (t.ddrChan c.val).grade = s.ddr.grade) ∧
    t.ddr.line = s.ddr.line ∧ t.ddr.fill = s.ddr.fill ∧
    s.onlyFields t [(c.val / 4, DDR_CMDSTAT_op (c.val % 4)), (c.val / 4, DDR_CMDSTAT_reason (c.val % 4)), (c.val / 4, DDR_CMDSTAT_busy (c.val % 4)), (c.val / 4, DDR_STAT_state (c.val % 4))] ∧
    t.rest = { s.rest with ddr := t.ddr }) ∧
  (∀ (s : State) (c : Fin 8) (y : Spd) (ok : Bool) (g r : Nat), s.ddrState c.val = 1 →
    (s.ddrChan c.val).spd = none →
    (s.ddrChan c.val).ppr = none →
    y.dimms ≠ 0 →
    g = (if y.dimms = 2 ∧ (s.ddrChan c.val).grade < 4 then 4 else (s.ddrChan c.val).grade) →
    g < 8 →
    r = (if y.supported = false then 2 else if ok = false then 4 else 0) →
    ∃ t, exec (.ddrTrainingDone c (some y) ok) s = .next t ∧
    t.cf c.val DDR_STAT_dimms = y.dimms.val ∧ t.cf c.val DDR_STAT_capacity = y.dimms.val * y.ranks.val * ((if y.x8 then 8 else 16) * (y.density.val + 2)) ∧
    t.cf c.val DDR_CMDSTAT_reason = r ∧ t.cf c.val DDR_CMDSTAT_busy = 0 ∧
    (r = 0 → t.ddrState c.val = 2 ∧ t.cf c.val DDR_STAT_grade = g) ∧
    (r ≠ 0 → t.ddrState c.val = 4 ∧ t.cf c.val DDR_STAT_grade = 0 ∧ t.cf c.val DDR_EVT_train_fail = 1) ∧
    t.ddr.line = s.ddr.line ∧ t.ddr.fill = s.ddr.fill ∧
    s.onlyPages t [(c.val / 4, 0x10 + c.val % 4)] ∧ t.rest = { s.rest with ddr := t.ddr }) ∧
  (∀ (s : State) (c : Fin 8) (ok : Bool), s.ddrState c.val = 1 →
    (s.ddrChan c.val).spd = none →
    ∃ t, exec (.ddrTrainingDone c none ok) s = .next t ∧
    t.ddrState c.val = 0 ∧
    s.onlyFields t [(c.val / 4, DDR_STAT_state (c.val % 4))] ∧
    t.rest = { s.rest with ddr := t.ddr }) ∧
  (∀ (s : State) (c : Fin 8), s.ddrState c.val = 2 →
    (match (s.ddrChan c.val).alert with | some n => decide (n + 1600000 < s.time.count) | none => true) = true →
    ∃ t, exec (.ddrAlert c) s = .next t ∧
    (t.ddrChan c.val).alert = some s.time.count ∧
    t.regs = s.regs ∧
    t.rest = { s.rest with ddr := t.ddr }) ∧
  (∀ (s : State) (c : Fin 8) (n : Nat), s.ddrState c.val = 2 →
    (s.ddrChan c.val).alert = some n →
    s.time.count ≤ n + 1600000 →
    ∃ t, exec (.ddrAlert c) s = .next t ∧
    t.ddrState c.val = 1 ∧
    (s.ddr.grade ≠ 0 → (t.ddrChan c.val).grade = s.ddr.grade) ∧
    s.onlyFields t [(c.val / 4, DDR_STAT_state (c.val % 4))] ∧
    t.rest = { s.rest with ddr := t.ddr }) ∧
  (∀ (s : State) (c : Fin 8) (h : Hdr) (l : List Line) (x : DramIn), s.live (c.val / 4) = true →
    s.ddrState c.val ≠ 2 ∧ s.ddrState c.val < 5 →
    ∃ t, exec (.ddrRequest c h l x) s = .next t ∧
    t.out = [.packet (if s.ddrState c.val = 1 ∨ s.ddrState c.val = 3 then h.answer 5 0 0 else h.answer 4 3 0) []] ∧
    t.ddr = s.ddr ∧
    t.regs = s.regs ∧
    t.rest = { s.rest with net := t.net, stats := t.stats }) ∧
  (∀ (s : State) (c : Fin 8) (h : Hdr) (v : BitVec 512) (x : DramIn) (a : Nat), s.live (c.val / 4) = true →
    s.ddrState c.val = 2 →
    dramDecode s.ddr.sets h.addr = some (c.val, a) →
    s.rangeAt h.addr = none →
    h.opcode = 1 →
    ∃ t, exec (.ddrRequest c h [⟨BitVec.allOnes 64, v⟩] x) s = .next t ∧
    t.out = [.packet (h.answer 3 0 0) []] ∧
    t.ddr.line = KMap.putD s.ddr.line (lineKey c.val (a / 64)) { data := v, known := true } (fillDefault s.ddr.fill c.val (a / 64)) ∧
    t.dramLine c.val (a / 64) = { data := v, known := true } ∧
    s.onlyFields t [(c.val / 4, DDR_SVC_MAX_value (c.val % 4))] ∧
    t.rest = { s.rest with ddr := t.ddr, net := t.net, stats := t.stats }) ∧
  (∀ (s : State) (c : Fin 8) (h : Hdr) (l : List Line) (x : DramIn) (a : Nat), s.live (c.val / 4) = true →
    s.ddrState c.val = 2 →
    dramDecode s.ddr.sets h.addr = some (c.val, a) →
    s.rangeAt h.addr = none →
    h.opcode = 0 →
    h.readLines = 1 →
    (s.dramLine c.val (a / 64)).known = true ∧ (s.dramLine c.val (a / 64)).bad = false ∧ (x.line 0).err = .none →
    ∃ t, exec (.ddrRequest c h l x) s = .next t ∧
    t.out.map (fun o => match o with | .packet p f => decide (p = h.answer 2 0 f.length) && decide (f.map (fun y => y.line) = h.dataLines (s.dramLine c.val (a / 64)).data.toNat) | _ => false) = [true] ∧
    t.ddr = s.ddr ∧
    s.onlyFields t [(c.val / 4, DDR_SVC_MAX_value (c.val % 4))] ∧
    t.rest = { s.rest with net := t.net, stats := t.stats }) ∧
  (∀ (s : State) (c : Fin 8) (h : Hdr) (l : List Line) (x : DramIn) (a : Nat), s.live (c.val / 4) = true →
    s.ddrState c.val = 2 →
    dramDecode s.ddr.sets h.addr = some (c.val, a) →
    s.rangeAt h.addr = none →
    h.opcode = 0 →
    h.readLines = 1 →
    (s.dramLine c.val (a / 64)).bad = true →
    ∃ t, exec (.ddrRequest c h l x) s = .next t ∧
    t.out = [.packet (h.answer 4 6 0) []] ∧
    t.cf c.val DDR_EVT_ue = 1 ∧
    t.ddr.line = s.ddr.line ∧ t.ddr.fill = s.ddr.fill ∧
    KMap.look t.ddr.fifo c.val = KMap.look s.ddr.fifo c.val ++ (if (KMap.look s.ddr.fifo c.val).length < 32 then [⟨1, a / 64, 0xF, 0x3F, s.time.num % 2 ^ 32⟩] else []) ∧
    s.onlyPages t [(c.val / 4, 0x10 + c.val % 4), (c.val / 4, 0x70), (0, 0x70)] ∧ t.rest = { s.rest with ddr := t.ddr, net := t.net, stats := t.stats }) ∧
  (∀ (s : State), s.refreshes = true →
    ∃ t, exec .refreshPoint s = .next t ∧
    (s.f 0 DDR_REF_STAT_quiet = 1 → t.ddr.owed = s.ddr.owed + 1 ∧ t.regs = s.regs) ∧
    (s.f 0 DDR_REF_STAT_quiet = 0 → t.f 0 DDR_REF_CNT_value = min (s.f 0 DDR_REF_CNT_value + 1) (2 ^ 32 - 1) ∧ s.regsOnly t [(0, DDR_REF_CNT_value)])) ∧
  (∀ (s : State) (c : Fin 8) (y : Spd) (v : Byte), s.live (c.val / 4) = true →
    (s.ddrChan c.val).spd = some y →
    y.dimms ≠ 0 →
    ∃ t, exec (.dimmTempRead c (some v) none) s = .next t ∧
    t.cf c.val DDR_TEMP_t0 = v.toNat ∧
    (85 < v.toNat → t.cf c.val DDR_EVT_hot = 1) ∧
    (95 < v.toNat → t.cf c.val DDR_EVT_overheat = 1) ∧
    s.onlyFields t [(c.val / 4, DDR_TEMP_t0 (c.val % 4)), (c.val / 4, DDR_EVT_hot (c.val % 4)), (c.val / 4, DDR_EVT_overheat (c.val % 4)), (0, DDR_REF_STAT_stale)] ∧
    (s.tempStale = false → s.ddr.hotAt = [] → s.f 0 DDR_REF_STAT_hot = 0 → 85 < v.toNat → (s.ddrChan c.val).temp.length = 2 → t.ddr.hotAt = [(s.time.num + 2, true)]) ∧
    t.rest = { s.rest with ddr := t.ddr }) ∧
  (∀ (s : State) (i : Init), s.live 0 = true →
    isHawkmoth i = false →
    ∃ t, exec (.ddrSetCommit i) s = .next t ∧
    t.f 0 (DDR_EVT_refused 0) = 1 ∧ t.f 0 DDR_SET_STAT_reason = 1 ∧
    s.regsOnly t [(0, DDR_EVT_refused 0), (0, DDR_SET_STAT_reason)]) ∧
  (∀ (s : State) (n r : Nat), s.live 0 = true →
    s.firstBadSet s.stagedSets 8 0 = some (n, r) →
    n < 8 ∧ r < 16 →
    ∃ t, exec (.ddrSetCommit 0x001) s = .next t ∧
    t.f 0 DDR_SET_STAT_set = n ∧ t.f 0 DDR_SET_STAT_reason = r ∧
    s.regsOnly t [(0, DDR_SET_STAT_set), (0, DDR_SET_STAT_reason)]) ∧
  (∀ (s : State), s.live 0 = true →
    s.firstBadSet s.stagedSets 8 0 = none →
    ∃ t, exec (.ddrSetCommit 0x001) s = .next t ∧
    t.ddr.next = some s.stagedSets ∧ t.ddr.sets = s.ddr.sets ∧
    t.f 0 DDR_SET_STAT_pending = 1 ∧ t.f 0 DDR_SET_STAT_reason = 0) ∧
  (∀ (s : State) (c : Fin 8) (r : DdrRec) (l : List DdrRec), KMap.look s.ddr.fifo c.val = r :: l →
    ∃ t, exec (.ddrRecPop c false) s = .next t ∧
    t.out = [.value (r.words (s.ddrChan c.val).spd).1] ∧
    KMap.look t.ddr.fifo c.val = l ∧
    t.rd (c.val / 4) (DDR_REC_ROW (c.val % 4)) = (r.words (s.ddrChan c.val).spd).2.1 ∧
    t.rd (c.val / 4) (DDR_REC_TICK (c.val % 4)) = BitVec.ofNat 32 r.tick ∧
    exec (.ddrRecPop c true) s = .next (s.fresh.emit (.value (r.words (s.ddrChan c.val).spd).1)) ∧
    s.onlyFields t [whole (c.val / 4) (DDR_REC_ROW (c.val % 4)), whole (c.val / 4) (DDR_REC_TICK (c.val % 4))] ∧ t.rest = { s.rest with ddr := t.ddr }) ∧
  (∀ (s : State) (c : Fin 8) (row : PprRow), s.live 0 = true →
    ∃ t, exec (.pprCommit c row) s = .next t ∧
    (s.pprDetail c.val row = 0 → (t.ddrChan c.val).ppr = some row) ∧
    (s.pprDetail c.val row ≠ 0 → t.ddr = s.ddr) ∧
    t.ddr.line = s.ddr.line ∧
    t.regs = s.regs ∧
    t.rest = { s.rest with ddr := t.ddr }) ∧
  (∀ (s : State) (c : Fin 8) (p : PprRow) (ok left : Bool), (s.ddrChan c.val).ppr = some p →
    s.ddrState c.val = 3 →
    ∃ t, exec (.pprRepairDone c ok left) s = .next t ∧
    (ok = true → t.ddrState c.val = 2 ∧ t.cf c.val DDR_EVT_ppr_done = 1 ∧ (t.ddrChan c.val).ppr = none) ∧
    (ok = false → t.ddrState c.val = 1 ∧ t.cf c.val DDR_EVT_ppr_fail = 1 ∧ (t.ddrChan c.val).ppr ≠ none) ∧
    t.ddr.line = s.ddr.line ∧ t.ddr.fill = s.ddr.fill ∧
    (p.rank < 4 → p.bg < 8 → t.f (c.val / 4) ⟨DDR_PPR_AVAIL (c.val % 4), 8 * p.rank + p.bg, 1⟩ = left.toNat) ∧
    s.onlyPages t [(c.val / 4, 0x10 + c.val % 4)] ∧ t.rest = { s.rest with ddr := t.ddr })

/-- For every 256-bit mixing key, address and 64-byte line, the inverse of the keyed mix undoes the mix and the mix undoes the inverse. So a
read of one line in an ON range with the mix and without integrity, with the range's slot as its key index and no debug attribute, of a
written line without an error whose DIMM gives the mixed form of a value under the slot's key at the line's DRAM address, is answered with
that value. -/
def Obligations.MixedLinesReadBack : Prop :=
  (∀ (k : BitVec 256) (a : Nat) (v : BitVec 512) (s : State) (c : Fin 8) (r : Fin 16) (h : Hdr) (x : DimmLine) (w : Word) (l0 : Nat), s.live (c.val / 4) = true →
    s.ddrState c.val = 2 →
    s.localLine c.val h.addr = some l0 →
    s.rangeAt h.addr = some r.val →
    s.rangeState r.val = 2 ∧ nbit (s.f 0 (MIU_R_STAT_fault_ch r.val)) c.val = false →
    h.dbg = false ∧ h.key = s.f 0 (MIU_R_CFG_slot r.val) →
    s.f 0 (MIU_R_CFG_integ r.val) = 0 ∧ s.f 0 (MIU_R_CFG_mix r.val) = 1 →
    h.opcode = 0 ∧ h.readLines = 1 →
    (s.dramLine c.val l0).known = true ∧ (s.dramLine c.val l0).bad = false →
    k = (KMap.look s.keys.slot h.key).mix ∧ a = h.addr / 64 * 64 →
    x.got = some (mixLine k a v, w) ∧ x.err = .none ∧ x.tagLost = false →
    ∃ t, exec (.miuRequest c h [] { lines := [x] }) s = .next t ∧
    unmixLine k a (mixLine k a v) = v ∧
    mixLine k a (unmixLine k a v) = v ∧
    t.out.map (fun o => match o with | .packet p f => decide (p = h.answer 2 0 f.length) && decide (f.map (fun y => y.line) = h.dataLines v.toNat) | _ => false) = [true] ∧
    t.ddr = s.ddr ∧ t.regs = s.regs)

/-- A write of MIU_CMD by another initiator than the Hawkmoth is refused with reason 1. An enable of an OFF range that fails a check shows
the reason and changes nothing else; one that passes puts the range in SWEEP, busy. A disable of an enabled range with no sweep running
begins its sweep; with one running it is refused with reason 8. At the sweep's end every data line of the range holds zero, outside its
metadata, and the range is ON, or OFF after a disable. A request to a range in SWEEP is answered RETRY; to a range in FAULT, 0x0D, counted
without a record; with the debug attribute or another key index than the slot, 0x0C, recorded as kind 0. A full write of a line with
integrity whose counter line is cached is acknowledged and stores the line under the next counter: the minor advances, after 126 the major
does and the minor is 1, and over a poisoned line the major does and the minor is 0. A read of a poisoned line is answered 0x0D and recorded
as kind 3. A request whose metadata is not cached waits; a verified fetch serves it; an uncorrectable fetch, or a second one that does not
verify, puts the range in FAULT on the channel, with a record of kind 4, and answers it 0x0D. A record pop gives the oldest record and
removes it, a debug read only gives it. -/
def Obligations.ProtectedRangesAdmitCountAndFault : Prop :=
  (∀ (s : State) (i : Init) (r : Fin 16), s.live 0 = true →
    isHawkmoth i = false →
    ∃ t, exec (.miuRangeEnable i r) s = .next t ∧
    t.f 0 (MIU_R_STAT_reason r.val) = 1 ∧ t.f 0 MIU_CMDSTAT_reason = 1 ∧ t.f 0 MIU_EVT_refused = 1 ∧
    s.regsOnly t [(0, MIU_R_STAT_reason r.val), (0, MIU_CMDSTAT_reason), (0, MIU_CMDSTAT_op), (0, MIU_EVT_refused)] ∧
    (∃ u, exec (.miuRangeDisable i r) s = .next u ∧ u.f 0 (MIU_R_STAT_reason r.val) = 1 ∧ u.f 0 MIU_EVT_refused = 1 ∧ u.miu = s.miu ∧ u.rangeState r.val = s.rangeState r.val)) ∧
  (∀ (s : State) (r : Fin 16) (k : Nat), s.live 0 = true →
    s.rangeState r.val = 0 →
    s.enableReason r.val = k ∧ k ≠ 0 →
    ∃ t, exec (.miuRangeEnable 0x001 r) s = .next t ∧
    t.f 0 (MIU_R_STAT_reason r.val) = k ∧ t.f 0 MIU_CMDSTAT_reason = k ∧ k ≤ 8 ∧
    s.regsOnly t [(0, MIU_R_STAT_reason r.val), (0, MIU_CMDSTAT_reason), (0, MIU_CMDSTAT_op)]) ∧
  (∀ (s : State) (r : Fin 16), s.live 0 = true →
    s.rangeState r.val = 0 →
    s.enableReason r.val = 0 →
    ∃ t, exec (.miuRangeEnable 0x001 r) s = .next t ∧
    t.rangeState r.val = 1 ∧ t.f 0 MIU_CMDSTAT_busy = 1 ∧ t.f 0 (MIU_R_STAT_reason r.val) = 0 ∧
    t.miu.sweep = some (r.val, true) ∧
    nbit (t.rd64 0 MIU_SLOT_LO MIU_SLOT_HI) (t.f 0 (MIU_R_CFG_slot r.val)) = true ∧
    t.ddr = s.ddr ∧
    s.onlyPages t [(0, 0x18), (1, 0x18)] ∧ t.rest = { s.rest with miu := t.miu }) ∧
  (∀ (s : State) (r : Fin 16), s.live 0 = true →
    s.rangeState r.val ≠ 0 →
    ∃ t, exec (.miuRangeDisable 0x001 r) s = .next t ∧
    (s.miu.sweep = none → t.rangeState r.val = 1 ∧ t.f 0 MIU_CMDSTAT_busy = 1 ∧ t.f 0 MIU_CMDSTAT_reason = 0 ∧ t.miu.sweep = some (r.val, false)) ∧
    (s.miu.sweep ≠ none → t.rangeState r.val = s.rangeState r.val ∧ t.f 0 MIU_CMDSTAT_reason = 8 ∧ t.miu.sweep = s.miu.sweep) ∧
    t.ddr = s.ddr ∧
    s.onlyPages t [(0, 0x18), (1, 0x18)] ∧ t.rest = { s.rest with miu := t.miu }) ∧
  (∀ (s : State) (r : Fin 16) (e : Bool) (x : DdrSet) (c : Fin 8) (l : Nat), s.miu.sweep = some (r.val, e) →
    e = true ∨ s.miu.wait = [] →
    s.rangeSet r.val = some x →
    c.val ∈ x.chans →
    (s.rangeLines r.val x).1 ≤ l ∧ l < (s.rangeLines r.val x).1 + (s.rangeLines r.val x).2 ∧ l < 2 ^ 33 →
    l < (s.rangeMetaSpan r.val x).1 * 2 ^ 21 ∨ (s.rangeMetaSpan r.val x).2 * 2 ^ 21 ≤ l →
    ∃ t, exec .miuSweepDone s = .next t ∧
    t.rangeState r.val = (if e then 2 else 0) ∧
    t.miu.sweep = none ∧ t.f 0 MIU_CMDSTAT_busy = 0 ∧
    t.dramLine c.val l = { data := 0, known := true } ∧
    t.f (c.val / 4) MIU_EVT_sweep_done = 1 ∧
    s.onlyPages t [(0, 0x18), (1, 0x18)] ∧ t.rest = { s.rest with miu := t.miu, ddr := t.ddr }) ∧
  (∀ (s : State) (c : Fin 8) (r : Fin 16) (h : Hdr) (l : List Line) (x : DramIn) (l0 : Nat), s.live (c.val / 4) = true →
    s.ddrState c.val = 2 →
    s.localLine c.val h.addr = some l0 →
    s.rangeAt h.addr = some r.val →
    s.rangeState r.val = 1 ∨ s.rangeState r.val = 3 →
    ∃ t, exec (.miuRequest c h l x) s = .next t ∧
    t.out = [.packet (if s.rangeState r.val = 1 then h.answer 5 0 0 else h.answer 4 0xD 0) []] ∧
    t.ddr = s.ddr ∧ t.miu = s.miu ∧
    s.onlyFields t [(c.val / 4, MIU_TAGFAIL_CNT_value)] ∧
    (s.rangeState r.val = 3 → t.f (c.val / 4) MIU_TAGFAIL_CNT_value = min (s.f (c.val / 4) MIU_TAGFAIL_CNT_value + 1) (2 ^ 32 - 1)) ∧
    t.rest = { s.rest with net := t.net, stats := t.stats }) ∧
  (∀ (s : State) (c : Fin 8) (r : Fin 16) (h : Hdr) (l : List Line) (x : DramIn) (l0 : Nat), s.live (c.val / 4) = true →
    s.ddrState c.val = 2 →
    s.localLine c.val h.addr = some l0 →
    s.rangeAt h.addr = some r.val →
    s.rangeState r.val = 2 ∧ nbit (s.f 0 (MIU_R_STAT_fault_ch r.val)) c.val = false →
    h.dbg = true ∨ h.key ≠ s.f 0 (MIU_R_CFG_slot r.val) →
    ∃ t, exec (.miuRequest c h l x) s = .next t ∧
    t.out = [.packet (h.answer 4 0xC 0) []] ∧
    t.ddr = s.ddr ∧ t.miu.ctr = s.miu.ctr ∧
    t.f (c.val / 4) MIU_EVT_blocked = 1 ∧
    t.f (c.val / 4) MIU_BLOCK_CNT_value = min (s.f (c.val / 4) MIU_BLOCK_CNT_value + 1) (2 ^ 32 - 1) ∧
    KMap.look t.miu.fifo (c.val / 4) = KMap.look s.miu.fifo (c.val / 4) ++ (if (KMap.look s.miu.fifo (c.val / 4)).length < 32 then [⟨0, r.val, c.val, h, s.time.num % 2 ^ 16⟩] else []) ∧
    s.onlyPages t [(c.val / 4, 0x18), (c.val / 4, 0x70), (0, 0x70)] ∧ t.rest = { s.rest with miu := t.miu, net := t.net, stats := t.stats }) ∧
  (∀ (s : State) (c : Fin 8) (r : Fin 16) (h : Hdr) (v : BitVec 512) (x : DramIn) (l0 n : Nat) (ct : BitVec 512), s.live (c.val / 4) = true →
    s.ddrState c.val = 2 →
    s.localLine c.val h.addr = some l0 →
    s.rangeAt h.addr = some r.val →
    s.rangeState r.val = 2 ∧ nbit (s.f 0 (MIU_R_STAT_fault_ch r.val)) c.val = false →
    h.dbg = false ∧ h.key = s.f 0 (MIU_R_CFG_slot r.val) ∧ h.opcode = 1 →
    s.f 0 (MIU_R_CFG_integ r.val) = 1 →
    s.cached (metaKey c.val r.val 0 (s.miuLine r.val c.val l0 h 0).page) = true →
    s.cached (metaKey c.val r.val 15 ((s.miuLine r.val c.val l0 h 0).page * 4 + (s.miuLine r.val c.val l0 h 0).m / 16)) = true →
    (x.line 0).tagLost = false →
    ct = s.ctrLine r.val c.val (s.miuLine r.val c.val l0 h 0).page →
    n = ctrMinor ct (s.miuLine r.val c.val l0 h 0).m →
    ∃ t, exec (.miuRequest c h [⟨BitVec.allOnes 64, v⟩] x) s = .next t ∧
    t.out = [.packet (h.answer 3 0 0) []] ∧
    t.dramLine c.val l0 = { data := v, known := true } ∧
    ctrMinor (t.ctrLine r.val c.val (s.miuLine r.val c.val l0 h 0).page) (s.miuLine r.val c.val l0 h 0).m = (if n = 127 then 0 else if n = 126 then 1 else n + 1) ∧
    ctrMajor (t.ctrLine r.val c.val (s.miuLine r.val c.val l0 h 0).page) = (if 126 ≤ n then (ctrMajor ct + 1) % 2 ^ 64 else ctrMajor ct) ∧
    s.onlyFields t [(c.val / 4, MIU_HIT_CNT_value), (c.val / 4, MIU_MISS_CNT_value), (c.val / 4, MIU_OVF_CNT_value)] ∧
    t.rest = { s.rest with miu := t.miu, ddr := t.ddr, net := t.net, stats := t.stats }) ∧
  (∀ (s : State) (c : Fin 8) (r : Fin 16) (h : Hdr) (x : DramIn) (l0 : Nat), s.live (c.val / 4) = true →
    s.ddrState c.val = 2 →
    s.localLine c.val h.addr = some l0 →
    s.rangeAt h.addr = some r.val →
    s.rangeState r.val = 2 ∧ nbit (s.f 0 (MIU_R_STAT_fault_ch r.val)) c.val = false →
    h.dbg = false ∧ h.key = s.f 0 (MIU_R_CFG_slot r.val) ∧ h.opcode = 0 ∧ h.readLines = 1 →
    s.f 0 (MIU_R_CFG_integ r.val) = 1 →
    s.cached (metaKey c.val r.val 0 (s.miuLine r.val c.val l0 h 0).page) = true →
    ctrMinor (s.ctrLine r.val c.val (s.miuLine r.val c.val l0 h 0).page) (s.miuLine r.val c.val l0 h 0).m = 127 →
    ∃ t, exec (.miuRequest c h [] x) s = .next t ∧
    t.out = [.packet (h.answer 4 0xD 0) []] ∧
    t.ddr = s.ddr ∧ t.miu.ctr = s.miu.ctr ∧
    t.f (c.val / 4) MIU_EVT_poisoned = 1 ∧
    KMap.look t.miu.fifo (c.val / 4) = KMap.look s.miu.fifo (c.val / 4) ++ (if (KMap.look s.miu.fifo (c.val / 4)).length < 32 then [⟨3, r.val, c.val, h, s.time.num % 2 ^ 16⟩] else []) ∧
    s.onlyPages t [(c.val / 4, 0x18), (c.val / 4, 0x70), (0, 0x70)] ∧ t.rest = { s.rest with miu := t.miu, net := t.net, stats := t.stats }) ∧
  (∀ (s : State) (c : Fin 8) (r : Fin 16) (h : Hdr) (l : List Line) (x : DramIn) (l0 : Nat), s.live (c.val / 4) = true →
    s.ddrState c.val = 2 →
    s.localLine c.val h.addr = some l0 →
    s.rangeAt h.addr = some r.val →
    s.rangeState r.val = 2 ∧ nbit (s.f 0 (MIU_R_STAT_fault_ch r.val)) c.val = false →
    h.dbg = false ∧ h.key = s.f 0 (MIU_R_CFG_slot r.val) →
    s.f 0 (MIU_R_CFG_integ r.val) = 1 →
    s.cached (metaKey c.val r.val 0 (s.miuLine r.val c.val l0 h 0).page) = false →
    ∃ t, exec (.miuRequest c h l x) s = .next t ∧
    t.out = [] ∧
    t.miu.wait = s.miu.wait ++ [⟨c.val, h, l, x⟩] ∧
    t.ddr = s.ddr ∧
    s.onlyFields t [(c.val / 4, MIU_HIT_CNT_value), (c.val / 4, MIU_MISS_CNT_value)] ∧
    t.rest = { s.rest with miu := t.miu }) ∧
  (∀ (s : State) (c : Fin 8) (r : Fin 16) (h : Hdr) (v : BitVec 512) (x : DramIn) (l0 p : Nat), s.live (c.val / 4) = true →
    s.miu.wait = [⟨c.val, h, [⟨BitVec.allOnes 64, v⟩], x⟩] →
    s.localLine c.val h.addr = some l0 →
    s.rangeAt h.addr = some r.val →
    s.rangeState r.val = 2 ∧ nbit (s.f 0 (MIU_R_STAT_fault_ch r.val)) c.val = false →
    s.f 0 (MIU_R_STAT_levels r.val) = 0 →
    h.opcode = 1 →
    p = (s.miuLine r.val c.val l0 h 0).page →
    s.cached (metaKey c.val r.val 0 p) = false →
    ∃ t, exec (.miuMetadataFetchDone c r 0 p (some none) []) s = .next t ∧
    t.out = [.packet (h.answer 3 0 0) []] ∧
    t.miu.wait = [] ∧
    t.dramLine c.val l0 = { data := v, known := true } ∧
    (s.f 0 (MIU_R_CFG_integ r.val) = 1 → t.cached (metaKey c.val r.val 0 p) = true) ∧
    s.onlyPages t [(c.val / 4, 0x18)] ∧ t.rest = { s.rest with miu := t.miu, ddr := t.ddr, net := t.net, stats := t.stats }) ∧
  (∀ (s : State) (c : Fin 8) (r : Fin 16) (h : Hdr) (l : List Line) (x : DramIn) (l0 p : Nat) (got : Option (Option (BitVec 512))), s.live (c.val / 4) = true →
    s.miu.wait = [⟨c.val, h, l, x⟩] →
    s.localLine c.val h.addr = some l0 →
    s.rangeAt h.addr = some r.val →
    s.f 0 (MIU_R_STAT_levels r.val) = 0 →
    nbit (s.f 0 (MIU_R_STAT_fault_ch r.val)) c.val = false →
    p = (s.miuLine r.val c.val l0 h 0).page →
    s.cached (metaKey c.val r.val 0 p) = false →
    got ≠ some none →
    ∃ t, exec (.miuMetadataFetchDone c r 0 p got []) s = .next t ∧
    (got = none ∨ (∃ w, got = some (some w) ∧ s.fetchVerifies c.val r.val 0 p w = false ∧ KMap.look s.miu.tries (metaKey c.val r.val 0 p) = true) → t.out = [.packet (h.answer 4 0xD 0) []] ∧ t.miu.wait = [] ∧ t.ddr = s.ddr ∧ nbit (t.f 0 (MIU_R_STAT_fault_ch r.val)) c.val = true ∧ t.f (c.val / 4) MIU_EVT_tree_fault = 1) ∧
    (∀ w, got = some (some w) → s.fetchVerifies c.val r.val 0 p w = false → KMap.look s.miu.tries (metaKey c.val r.val 0 p) = false → t.out = [] ∧ t.miu.wait = s.miu.wait ∧ t.regs = s.regs ∧ KMap.look t.miu.tries (metaKey c.val r.val 0 p) = true) ∧
    (got = none → t.out = [.packet (h.answer 4 0xD 0) []] ∧ t.miu.wait = [] ∧ t.ddr = s.ddr ∧ nbit (t.f 0 (MIU_R_STAT_fault_ch r.val)) c.val = true ∧ t.f (c.val / 4) MIU_EVT_tree_fault = 1)) ∧
  (∀ (s : State) (d : IoDie) (r : MiuRec) (l : List MiuRec), KMap.look s.miu.fifo d.val = r :: l →
    r.kind < 5 ∧ r.range < 16 ∧ r.chan < 8 ∧ r.hdr.key < 64 →
    ∃ t, exec (.miuRecPop d false) s = .next t ∧
    t.out = [.value (BitVec.ofNat 32 (r.kind + 8 + 16 * r.range + 256 * r.chan + 2048 * r.hdr.dbg.toNat + 4096 * r.hdr.key))] ∧
    KMap.look t.miu.fifo d.val = l ∧
    t.rd d.val MIU_REC_ADDR_LO = BitVec.ofNat 32 r.hdr.addr ∧
    s.onlyFields t [whole d.val MIU_REC_ADDR_LO, whole d.val MIU_REC_ADDR_HI, whole d.val MIU_REC_SRC] ∧
    exec (.miuRecPop d true) s = .next (s.fresh.emit (.value (BitVec.ofNat 32 (r.kind + 8 + 16 * r.range + 256 * r.chan + 2048 * r.hdr.dbg.toNat + 4096 * r.hdr.key)))) ∧
    t.rest = { s.rest with miu := t.miu })

/-- A bind or unbind by another initiator than the Hawkmoth and the memory agent of the engine's die is ignored and sets refused. A bind of
an enabled port with no open record and no entry takes an IDLE entry of the port's engine and key, which becomes BOUND, and the port runs;
another entry leaves the port DROPPING with reason 1. An unbind leaves it DROPPING and an entry that no record uses IDLE. A word at a
disabled port has no effect. A running port's first word opens a record at the next line, with the arrival's count and tick; a first word
with LAST closes it at once: it takes a sequence number, counts as closed, waits for the one write of its line, and the next record starts
one line on. An end-of-stream marker without an open record does nothing. A dropping port counts each word, sets drop, stores nothing, and
its record takes a sequence number. An answer OK takes one from the writes its record waits for; another status puts the port in ERROR with
reason 5 and the status, and drops that record and those after it. -/
def Obligations.RecordPortsStoreDropAndFail : Prop :=
  (∀ (s : State) (i : Init) (e : IoDie) (p : Fin 16) (seg : BitVec 16), s.live e.val = true →
    isHawkmoth i = false ∧ isMemAgentOf i e.val = false →
    ∃ t, exec (.recordSegBind i e p seg) s = .next t ∧
    t.f e.val RECORD_EVT_refused = 1 ∧
    s.regsOnly t [(e.val, RECORD_EVT_refused)] ∧
    exec (.recordSegUnbind i e p seg) s = .next t) ∧
  (∀ (s : State) (e : IoDie) (p : Fin 16) (seg : BitVec 16), s.live e.val = true →
    s.f e.val (RECORD_P_CFG_en p.val) = 1 →
    (s.recPort e.val p.val).open_ = none ∧ (s.recPort e.val p.val).entry = none →
    ∃ t, exec (.recordSegBind 0x001 e p seg) s = .next t ∧
    t.f e.val (RECORD_P_SEG_seg p.val) = seg.toNat ∧ t.f e.val (RECORD_P_SEG_bind p.val) = 1 ∧
    (s.mayBind e.val p.val seg.toNat = true → t.portSt e.val p.val = 1 ∧ t.f e.val (RECORD_P_STAT_reason p.val) = 0 ∧
      (t.recPort e.val p.val).entry = some seg.toNat ∧ (t.recPort e.val p.val).at_ = (s.dirEnt seg.toNat).commit ∧
      t.dirEnt seg.toNat = { s.dirEnt seg.toNat with state := 2, port := p.val }) ∧
    (s.mayBind e.val p.val seg.toNat = false → t.portSt e.val p.val = 2 ∧ t.f e.val (RECORD_P_STAT_reason p.val) = 1 ∧
      (t.recPort e.val p.val).entry = none ∧ t.rec_.dir = s.rec_.dir) ∧
    s.onlyPages t [(e.val, 0x20), (0, 0x20)] ∧ t.rest = { s.rest with rec_ := t.rec_ }) ∧
  (∀ (s : State) (e : IoDie) (p : Fin 16) (seg : BitVec 16) (k : Nat), s.live e.val = true →
    s.f e.val (RECORD_P_CFG_en p.val) = 1 →
    (s.recPort e.val p.val).open_ = none ∧ (s.recPort e.val p.val).entry = some k ∧ (s.recPort e.val p.val).recs = [] →
    s.rec_.port.all (fun y => y.1 == e.val * 16 + p.val || (y.2.entry != some k && y.2.recs.all (fun r => r.entry != k))) = true →
    (s.dirEnt k).state = 2 →
    ∃ t, exec (.recordSegUnbind 0x001 e p seg) s = .next t ∧
    t.portSt e.val p.val = 2 ∧ t.f e.val (RECORD_P_STAT_reason p.val) = 1 ∧
    (t.recPort e.val p.val).entry = none ∧
    t.dirEnt k = { s.dirEnt k with state := 1 } ∧
    s.onlyPages t [(e.val, 0x20), (0, 0x20)] ∧ t.rest = { s.rest with rec_ := t.rec_ }) ∧
  (∀ (s : State) (e : IoDie) (p : Fin 16) (data : BitVec 256) (sb : BitVec 16) (last : Bool), s.f e.val (RECORD_P_CFG_en p.val) = 0 →
    ∃ t, exec (.recordPortWord e p data sb last) s = .next t ∧
    t = s.fresh) ∧
  (∀ (s : State) (e : IoDie) (p : Fin 16) (data : BitVec 256) (sb : BitVec 16) (k : Nat) (x : RecPort), s.live e.val = true →
    s.f e.val (RECORD_P_CFG_en p.val) = 1 ∧ s.portSt e.val p.val = 1 →
    x = s.recPort e.val p.val →
    x.open_ = none ∧ x.want = none ∧ x.entry = some k ∧ x.sent = [] →
    x.at_ < (s.dirEnt k).oldest + (s.dirEnt k).cap →
    sb.getLsbD 1 = false →
    ∃ t, exec (.recordPortWord e p data sb false) s = .next t ∧
    t.out = [] ∧ t.rec_.dir = s.rec_.dir ∧
    (t.recPort e.val p.val).open_ = some { id := x.next, start := x.at_, payload := [data], sb := sb.toNat / 4, count := s.time.count, tick := s.time.num, suspect := sb.getLsbD 0, cont := x.cont } ∧
    (t.recPort e.val p.val).recs = x.recs ++ [{ id := x.next, entry := k, start := x.at_, tick := s.time.num }] ∧
    t.f e.val (RECORD_P_STAT_open p.val) = 1 ∧ t.f e.val (RECORD_P_STAT_words p.val) = 1 ∧
    s.onlyFields t [(e.val, RECORD_P_STAT_open p.val), (e.val, RECORD_P_STAT_words p.val)] ∧
    t.rest = { s.rest with rec_ := t.rec_ }) ∧
  (∀ (s : State) (e : IoDie) (p : Fin 16) (data : BitVec 256) (sb : BitVec 16) (k : Nat) (x : RecPort), s.live e.val = true →
    s.f e.val (RECORD_P_CFG_en p.val) = 1 ∧ s.portSt e.val p.val = 1 →
    x = s.recPort e.val p.val →
    x.open_ = none ∧ x.want = none ∧ x.entry = some k ∧ x.sent = [] ∧ x.recs = [] →
    x.at_ < (s.dirEnt k).oldest + (s.dirEnt k).cap →
    sb.getLsbD 1 = false →
    ∃ t, exec (.recordPortWord e p data sb true) s = .next t ∧
    (t.recPort e.val p.val).open_ = none ∧ (t.recPort e.val p.val).at_ = x.at_ + 1 ∧ (t.recPort e.val p.val).cont = false ∧
    (t.recPort e.val p.val).recs = [{ id := x.next, entry := k, start := x.at_, lines := 1, tick := s.time.num, left := 1, closed := true }] ∧
    (t.recPort e.val p.val).sent = [(x.next, 1)] ∧
    t.f e.val (RECORD_P_SEQ_value p.val) = (s.f e.val (RECORD_P_SEQ_value p.val) + 1) % 2 ^ 32 ∧
    t.f e.val (RECORD_P_RECS_value p.val) = min (s.f e.val (RECORD_P_RECS_value p.val) + 1) (2 ^ 32 - 1) ∧
    t.rec_.dir = s.rec_.dir) ∧
  (∀ (s : State) (e : IoDie) (p : Fin 16) (data : BitVec 256) (sb : BitVec 16) (last : Bool), s.portSt e.val p.val ≠ 0 →
    (s.recPort e.val p.val).open_ = none ∧ (s.recPort e.val p.val).want = none →
    sb.getLsbD 1 = true →
    ∃ t, exec (.recordPortWord e p data sb last) s = .next t ∧
    t.recPort e.val p.val = s.recPort e.val p.val ∧ t.rec_.dir = s.rec_.dir ∧ t.regs = s.regs ∧ t.out = [] ∧
    t.rest = { s.rest with rec_ := t.rec_ }) ∧
  (∀ (s : State) (e : IoDie) (p : Fin 16) (data : BitVec 256) (sb : BitVec 16) (last : Bool), s.live e.val = true →
    s.f e.val (RECORD_P_CFG_en p.val) = 1 →
    s.portSt e.val p.val = 2 ∨ s.portSt e.val p.val = 3 →
    (s.recPort e.val p.val).open_ = none ∧ (s.recPort e.val p.val).want = none →
    sb.getLsbD 1 = false →
    ∃ t, exec (.recordPortWord e p data sb last) s = .next t ∧
    t.f e.val (RECORD_P_DROP_value p.val) = min (s.f e.val (RECORD_P_DROP_value p.val) + 1) (2 ^ 32 - 1) ∧
    t.f e.val RECORD_EVT_drop = 1 ∧
    (last = true → t.f e.val (RECORD_P_SEQ_value p.val) = (s.f e.val (RECORD_P_SEQ_value p.val) + 1) % 2 ^ 32 ∧ (t.recPort e.val p.val).open_ = none) ∧
    (last = false → t.f e.val (RECORD_P_SEQ_value p.val) = s.f e.val (RECORD_P_SEQ_value p.val) ∧ (t.recPort e.val p.val).open_.map (fun o => (o.drop, o.n)) = some (true, 1)) ∧
    (t.recPort e.val p.val).recs = (s.recPort e.val p.val).recs ∧ t.rec_.dir = s.rec_.dir ∧ t.out = [] ∧
    s.onlyPages t [(e.val, 0x20)] ∧ t.rest = { s.rest with rec_ := t.rec_ }) ∧
  (∀ (s : State) (e : IoDie) (p : Fin 16) (id n : Nat) (l : List (Nat × Nat)), (s.recPort e.val p.val).sent = (id, n) :: l →
    ∃ t, exec (.recordWriteAnswer e p 0) s = .next t ∧
    (t.recPort e.val p.val).sent = l ∧
    (t.recPort e.val p.val).recs = (s.recPort e.val p.val).recs.map (fun y => if y.id = id then { y with left := y.left - 1 } else y) ∧
    t.regs = s.regs ∧
    t.rest = { s.rest with rec_ := t.rec_ }) ∧
  (∀ (s : State) (e : IoDie) (p : Fin 16) (id n : Nat) (l : List (Nat × Nat)) (status : Byte) (r : RecRef), (s.recPort e.val p.val).sent = (id, n) :: l →
    status ≠ 0 →
    (s.recPort e.val p.val).recs.find? (fun y => decide (y.id = id)) = some r →
    ∃ t, exec (.recordWriteAnswer e p status) s = .next t ∧
    t.portSt e.val p.val = 3 ∧ t.f e.val (RECORD_P_STAT_reason p.val) = 5 ∧ t.f e.val (RECORD_P_ERR_status p.val) = status.toNat ∧
    t.f e.val RECORD_EVT_port_err = 1 ∧
    (t.recPort e.val p.val).recs = (s.recPort e.val p.val).recs.filter (fun y => decide (y.id < id)) ∧
    (t.recPort e.val p.val).entry = none ∧
    s.onlyPages t [(e.val, 0x20), (0, 0x20), (e.val, 0x70), (0, 0x70)] ∧ t.rest = { s.rest with rec_ := t.rec_ })

/-- A directory operation by another initiator than the Hawkmoth and the memory agent of IOS is refused with reason 1 and sets refused. A
define of an entry that is not FREE is refused with reason 2, of a size above 10 with 3, of an unaligned base with 4, of an area outside
every enabled interleave set with 5; else the entry is IDLE with the staged values, empty, and mirrored while ION can take it. A release of
a BOUND entry is refused with reason 6; another entry is FREE. An empty brings oldest to commit and the counts to 0. When the rewrite of the
mirror ends, it equals the primary and mirror_ok reads 1. PWRFAIL# without pf_flush changes no register; with it every enabled port closes
its record and drops with reason 6, and the flush stands open with its tick. At its end, with no write unanswered and P at least 80, a
complete record is committed: commit moves to its end and the entry counts one more; flushed is set in time, incomplete otherwise. -/
def Obligations.DirectoryIsDefinedMirroredAndFlushed : Prop :=
  (∀ (s : State) (i : Init), s.live 0 = true →
    isHawkmoth i = false ∧ isMemAgentOf i 0 = false →
    ∃ t, exec (.dirDefine i) s = .next t ∧
    t.f 0 RECORD_DIR_STAT_reason = 1 ∧ t.f 0 RECORD_EVT_refused = 1 ∧
    s.regsOnly t [(0, RECORD_DIR_STAT_reason), (0, RECORD_EVT_refused)] ∧
    exec (.dirRelease i) s = .next t ∧ exec (.dirEmpty i) s = .next t) ∧
  (∀ (s : State) (i : Init) (k r : Nat) (x : DirEnt), s.live 0 = true →
    isHawkmoth i = true ∨ isMemAgentOf i 0 = true →
    k = s.f 0 RECORD_DIR_IDX_index →
    x = { base := bitsOf s.rec_.stage0 0 28, size := bitsOf s.rec_.stage0 28 4, state := 1, fill := bitsOf s.rec_.stage1 3 1 = 1, engine := bitsOf s.rec_.stage1 4 1 = 1, key := bitsOf s.rec_.stage1 9 6, next := bitsOf s.rec_.stage1 16 16 } →
    r = (if (s.dirEnt k).state ≠ 0 then 2 else if 10 < x.size then 3 else if x.base % 2 ^ x.size ≠ 0 then 4 else if setOver s.ddr.sets (x.base * 2 ^ 20) (2 ^ (20 + x.size)) = none then 5 else 0) →
    ∃ t, exec (.dirDefine i) s = .next t ∧
    t.f 0 RECORD_DIR_STAT_reason = r ∧
    (r ≠ 0 → t.rec_ = s.rec_ ∧ s.onlyFields t [(0, RECORD_DIR_STAT_reason)]) ∧
    (r = 0 → t.dirEnt k = x ∧ (s.mirrorReach = true → KMap.look t.rec_.mirror k = x) ∧ (s.mirrorReach = false → t.f 0 RECORD_STAT_mirror_ok = 0)) ∧
    t.rest = { s.rest with rec_ := t.rec_ }) ∧
  (∀ (s : State) (i : Init) (k : Nat), s.live 0 = true →
    isHawkmoth i = true ∨ isMemAgentOf i 0 = true →
    k = s.f 0 RECORD_DIR_IDX_index →
    ∃ t, exec (.dirRelease i) s = .next t ∧
    ((s.dirEnt k).state = 2 → t.f 0 RECORD_DIR_STAT_reason = 6 ∧ t.rec_ = s.rec_) ∧
    ((s.dirEnt k).state ≠ 2 → t.f 0 RECORD_DIR_STAT_reason = 0 ∧ (t.dirEnt k).state = 0) ∧
    s.onlyFields t [(0, RECORD_DIR_STAT_reason), (0, RECORD_STAT_mirror_ok)] ∧
    t.rest = { s.rest with rec_ := t.rec_ }) ∧
  (∀ (s : State) (i : Init) (k : Nat), s.live 0 = true →
    isHawkmoth i = true ∨ isMemAgentOf i 0 = true →
    k = s.f 0 RECORD_DIR_IDX_index →
    ∃ t, exec (.dirEmpty i) s = .next t ∧
    t.dirEnt k = { s.dirEnt k with oldest := (s.dirEnt k).commit, records := 0, tOld := 0, tNew := 0, held := [] } ∧
    t.f 0 RECORD_DIR_STAT_reason = 0 ∧
    s.onlyFields t [(0, RECORD_DIR_STAT_reason), (0, RECORD_STAT_mirror_ok)] ∧
    t.rest = { s.rest with rec_ := t.rec_ }) ∧
  (∀ (s : State), s.dieFenced 1 = false →
    ∃ t, exec .dirMirrorRebuildDone s = .next t ∧
    t.rec_ = { s.rec_ with mirror := s.rec_.dir } ∧
    t.f 0 RECORD_STAT_mirror_ok = 1 ∧
    s.onlyFields t [(0, RECORD_STAT_mirror_ok)] ∧
    t.rest = { s.rest with rec_ := t.rec_ }) ∧
  (∀ (s : State), s.f 0 RECORD_CTRL_pf_flush = 0 →
    ∃ t, exec .pwrfail s = .next t ∧
    t = { s.fresh with pwr := { s.pwr with pwrfailLow := true } }) ∧
  (∀ (s : State) (e : IoDie) (p : Fin 16), s.live 0 = true ∧ s.live e.val = true →
    s.f 0 RECORD_CTRL_pf_flush = 1 →
    s.f e.val (RECORD_P_CFG_en p.val) = 1 →
    ∃ t, exec .pwrfail s = .next t ∧
    t.portSt e.val p.val = 2 ∧ t.f e.val (RECORD_P_STAT_reason p.val) = 6 ∧
    (t.recPort e.val p.val).open_ = none ∧ (t.recPort e.val p.val).entry = none ∧
    t.f 0 RECORD_PF_tick = s.time.num % 2 ^ 16 ∧ t.f 0 RECORD_PF_flushed = 0 ∧ t.f 0 RECORD_PF_incomplete = 0 ∧
    t.rec_.flush = true ∧ t.pwr.pwrfailLow = true) ∧
  (∀ (s : State) (inTime : Bool) (e : IoDie) (p : Fin 16) (x : RecPort) (r : RecRef), s.rec_.flush = true →
    s.rec_.port = [(e.val * 16 + p.val, x)] →
    x.sent = [] ∧ x.recs = [r] →
    r.closed = true ∧ r.left = 0 →
    (s.dirEnt r.entry).state ≠ 0 ∧ (s.dirEnt r.entry).state ≠ 4 →
    s.dieFenced 1 = false ∧ s.lateDuty 0 2 = false ∧ s.lateDuty 1 2 = false ∧ 80 ≤ s.time.p →
    ∃ t, exec (.powerFailFlushDone inTime) s = .next t ∧
    t.rec_.flush = false ∧
    (t.dirEnt r.entry).commit = r.start + r.lines ∧ (t.dirEnt r.entry).records = (s.dirEnt r.entry).records + 1 ∧ (t.dirEnt r.entry).tNew = r.tick % 2 ^ 32 ∧
    (t.recPort e.val p.val).recs = [] ∧
    (if inTime = true then t.f 0 RECORD_PF_flushed = 1 else t.f 0 RECORD_PF_incomplete = 1) ∧
    t.f 0 RECORD_EVT_flush_done = 1 ∧
    s.onlyPages t [(0, 0x20), (1, 0x20)] ∧ t.rest = { s.rest with rec_ := t.rec_ })

/-- A go write to a slot that is not IDLE does nothing. A go of an IDLE slot whose descriptor breaks a limit ends it with status 1, one
whose segment is FREE or LOST with 2, and, where the segment's key is not 0, the key of the write differs and the slot is not trusted, with
3 and without a header. Else, with no query waiting and fewer than four running, it runs over the records committed then; with four running
it is queued behind the others. A running extract to the host, by tick number, over one record of one payload word that stands in DRAM as
the record port writes it, in range and within the limit, puts out the record's line behind the header and then the header with status 0,
one record selected and its sequence number, and the slot is DONE. A failed data write ends a query with status 4 and its status. A cancel
of a queued query ends it with status 7, takes it from the queue and writes nothing. A clear returns a DONE or ERROR slot to IDLE and does
nothing to another. -/
def Obligations.QueriesStartInOrderAndAnswer : Prop :=
  (∀ (s : State) (e : IoDie) (slot key : Fin 64), s.querySt e.val slot.val ≠ 0 →
    ∃ t, exec (.queryGo e slot key) s = .next t ∧
    t = s.fresh) ∧
  (∀ (s : State) (e : IoDie) (slot key : Fin 64) (q : QueryDesc) (r : Nat), s.live e.val = true →
    s.querySt e.val slot.val = 0 →
    q = s.query e.val slot.val →
    q.msix = false →
    q.legal = false ∧ r = 1 ∨ q.legal = true ∧ ((s.dirEnt q.seg).state = 0 ∨ (s.dirEnt q.seg).state = 4) ∧ r = 2 ∨
    q.legal = true ∧ (s.dirEnt q.seg).state ≠ 0 ∧ (s.dirEnt q.seg).state ≠ 4 ∧ (s.dirEnt q.seg).key ≠ 0 ∧ (s.dirEnt q.seg).key ≠ key.val ∧
    nbit (s.rd64 e.val RECORD_QTRUST_LO RECORD_QTRUST_HI) slot.val = false ∧ r = 3 →
    ∃ t, exec (.queryGo e slot key) s = .next t ∧
    t.querySt e.val slot.val = 4 ∧ t.f e.val (RECORD_QS_STAT_status slot.val) = r ∧
    t.f e.val RECORD_EVT_query_err = 1 ∧
    (r = 3 → t.out = []) ∧
    t.queryQueue e.val = s.queryQueue e.val ∧
    (r = 3 → s.onlyPages t [(e.val, 0x20)] ∧ t.rest = { s.rest with rec_ := t.rec_ })) ∧
  (∀ (s : State) (e : IoDie) (slot key : Fin 64) (q : QueryDesc) (x : DirEnt), s.live e.val = true →
    s.querySt e.val slot.val = 0 →
    q = s.query e.val slot.val →
    x = s.dirEnt q.seg →
    q.legal = true ∧ x.state ≠ 0 ∧ x.state ≠ 4 →
    x.key = 0 ∨ x.key = key.val ∨ nbit (s.rd64 e.val RECORD_QTRUST_LO RECORD_QTRUST_HI) slot.val = true →
    s.queryQueue e.val = [] →
    ∃ t, exec (.queryGo e slot key) s = .next t ∧
    (s.queryRuns e.val < 4 → t.querySt e.val slot.val = 2 ∧ KMap.look t.rec_.span (e.val * 64 + slot.val) = (x.oldest, x.held) ∧ t.queryQueue e.val = []) ∧
    (4 ≤ s.queryRuns e.val → t.querySt e.val slot.val = 1 ∧ t.queryQueue e.val = [slot.val]) ∧
    t.out = [] ∧ t.ddr = s.ddr ∧ t.rec_.dir = s.rec_.dir ∧
    s.onlyPages t [(e.val, 0x20)] ∧ t.rest = { s.rest with rec_ := t.rec_ }) ∧
  (∀ (s : State) (e : IoDie) (slot : Fin 64) (q : QueryDesc) (c k ch a low : Nat) (w : BitVec 256), s.live e.val = true →
    s.querySt e.val slot.val = 2 →
    q = s.query e.val slot.val →
    q.op = 1 ∧ q.kind = 1 ∧ q.byCount = false ∧ q.msix = false ∧ 96 ≤ q.limit →
    s.queryQueue e.val = [] →
    KMap.look s.rec_.span (e.val * 64 + slot.val) = (c, [(1, k)]) →
    (s.dirEnt q.seg).oldest ≤ c →
    dramDecode s.ddr.sets ((s.dirEnt q.seg).addr c) = some (ch, a) →
    low < 2 ^ 224 ∧ nbits low 96 32 = 1 ∧ q.lo ≤ nbits low 128 64 ∧ nbits low 128 64 < q.hi →
    s.dramLine ch (a / 64) = { data := recLine (recHead low [w]) [w] 0, known := true } →
    s.f 0 PCIE_STAT_up = 1 →
    ∃ t, exec (.queryDone e slot 0 none) s = .next t ∧
    t.out = [.hostData (q.dest + 32) ((bytesOf 28 low ++ bytesOf 4 (crc32c (bytesOf 28 low ++ wordsBytes [w])) ++ bytesOf 32 w.toNat).map (BitVec.ofNat 8)),
      .hostData q.dest ((bytesOf 4 q.tag ++ [1, 0, 0, 0] ++ bytesOf 4 1 ++ bytesOf 4 0 ++ bytesOf 8 64 ++ bytesOf 4 (nbits low 192 32) ++ bytesOf 4 (nbits low 192 32)).map (BitVec.ofNat 8))] ∧
    t.querySt e.val slot.val = 3 ∧ t.f e.val (RECORD_QS_STAT_status slot.val) = 0 ∧ t.f e.val (RECORD_QS_RBYTES_value slot.val) = 64 ∧
    t.f e.val RECORD_EVT_query_done = 1 ∧
    t.ddr = s.ddr ∧ t.rec_.dir = s.rec_.dir ∧
    s.onlyPages t [(e.val, 0x20)] ∧ t.rest = { s.rest with rec_ := t.rec_ }) ∧
  (∀ (s : State) (e : IoDie) (slot : Fin 64) (status : Byte), s.live e.val = true →
    s.querySt e.val slot.val = 2 →
    (s.query e.val slot.val).kind = 0 ∧ (s.query e.val slot.val).msix = false →
    s.queryQueue e.val = [] →
    status ≠ 0 →
    ∃ t, exec (.queryDone e slot status none) s = .next t ∧
    t.querySt e.val slot.val = 4 ∧ t.f e.val (RECORD_QS_STAT_status slot.val) = 4 ∧ t.f e.val (RECORD_QS_STAT_noc slot.val) = status.toNat ∧
    t.f e.val RECORD_EVT_query_err = 1) ∧
  (∀ (s : State) (e : IoDie) (slot : Fin 64) (units : Nat), s.live e.val = true →
    s.querySt e.val slot.val = 1 →
    (s.query e.val slot.val).msix = false →
    s.queryQueue e.val = [slot.val] →
    ∃ t, exec (.queryCancel e slot units) s = .next t ∧
    t.querySt e.val slot.val = 4 ∧ t.f e.val (RECORD_QS_STAT_status slot.val) = 7 ∧
    t.queryQueue e.val = [] ∧ t.out = [] ∧
    s.onlyPages t [(e.val, 0x20)] ∧ t.rest = { s.rest with rec_ := t.rec_ }) ∧
  (∀ (s : State) (e : IoDie) (slot : Fin 64), s.live e.val = true →
    ∃ t, exec (.queryClear e slot) s = .next t ∧
    (s.querySt e.val slot.val < 3 → t = s.fresh) ∧
    (3 ≤ s.querySt e.val slot.val → t.querySt e.val slot.val = 0 ∧ s.regsOnly t [(e.val, RECORD_QS_STAT_state slot.val)]))

/-- A write of CORE_LOAD by another initiator than the Hawkmoth is refused with reason 1, during a load with 7, of no Skipper with 2,
without a segment with 3, on a fenced die with 4. Else the core is LOADING with its SRAMs at zero, and the load is busy. Without the stored
bytes the load ends with reason 6 and the core in reset, with bytes that do not verify with 5; verified, the core is loaded and runs at its
entry. CORE_CTRL.reset set by the Hawkmoth holds a running Skipper in reset with cause 2 and an empty mailbox; cleared, it releases a loaded
one; by another it is refused. A start of a stopped watchdog takes its timeout and, enabled, loads 1,024 cycles a unit; a running one keeps
its timeout. A kick with the key reloads it, another word does nothing. An expiry with cycles left does nothing; at 0 it resets a loaded
Skipper with cause 1, which runs again; the Hawkmoth's counts as a heartbeat fault, and the fourth makes the device safe with cause 3. A
heartbeat kick by the Hawkmoth is kept, by another refused. A lockstep mismatch makes the device safe with cause 2. A host doorbell by the
Hawkmoth raises its vector while the link is up. -/
def Obligations.CoresLoadResetAndAreWatched : Prop :=
  (∀ (s : State) (i : Init) (core : Fin 16) (r : Nat), s.live 0 = true →
    r = (if isHawkmoth i = false then 1 else if s.core.loading ≠ none then 7 else if core = 0 ∨ 12 < core.val then 2
    else if s.coreSeg core.val = none then 3 else if s.dieFenced (coreDie core.val) = true then 4 else 0) →
    r ≠ 0 →
    ∃ t, exec (.coreLoad i core) s = .next t ∧
    t.f 0 CORE_LOADSTAT_reason = r ∧
    (r = 1 → t.f 0 (CORE_EVT_refused 0) = 1) ∧
    s.regsOnly t [(0, CORE_LOADSTAT_reason), (0, CORE_LOADSTAT_core), (0, CORE_EVT_refused 0)]) ∧
  (∀ (s : State) (c : Core) (k : Fin 0x10000), s.live 0 = true →
    s.core.loading = none →
    c ≠ 0 →
    s.coreSeg c.val ≠ none →
    s.dieFenced (coreDie c.val) = false →
    ∃ t, exec (.coreLoad 0x001 (Fin.ofNat 16 c.val)) s = .next t ∧
    t.kf c.val CORE_STAT_state = 3 ∧ t.kf c.val CORE_STAT_loaded = 0 ∧ t.kf c.val CORE_CAUSE_cause = 4 ∧
    t.core.loading = some c.val ∧
    t.f 0 CORE_LOADSTAT_busy = 1 ∧ t.f 0 CORE_LOADSTAT_core = c.val ∧ t.f 0 CORE_LOADSTAT_reason = 0 ∧
    t.sramWord c.val true k.val = 0 ∧ t.sramWord c.val false k.val = 0 ∧ t.mailbox c.val = [] ∧
    s.onlyPages t [(coreDie c.val, 0x80), (coreDie c.val, 0x0A), (0, 0x80)] ∧ t.rest = { s.rest with core := t.core, net := t.net }) ∧
  (∀ (s : State) (c : Core) (stored : Option (List Byte)) (x : Seg), s.core.loading = some c.val →
    c ≠ 0 →
    s.dieFenced (coreDie c.val) = false →
    s.coreSeg c.val = some x →
    s.kf c.val CORE_CTRL_reset = 0 ∧ s.kf c.val DBG_C_CTRL_halt_on_reset = 0 ∧ s.kf c.val CORE_STAT_state = 3 →
    ∃ t, exec (.coreLoadDone stored) s = .next t ∧
    t.core.loading = none ∧ t.f 0 CORE_LOADSTAT_busy = 0 ∧
    (stored = none → t.kf c.val CORE_STAT_state = 0 ∧ t.f 0 CORE_LOADSTAT_reason = 6) ∧
    (∀ l, stored = some l → l.length = x.len.toNat → segPlain x l s = none → t.kf c.val CORE_STAT_state = 0 ∧ t.f 0 CORE_LOADSTAT_reason = 5) ∧
    (∀ l p, stored = some l → l.length = x.len.toNat → segPlain x l s = some p → t.kf c.val CORE_STAT_state = 1 ∧ t.kf c.val CORE_STAT_loaded = 1 ∧ t.f 0 CORE_LOADSTAT_reason = s.f 0 CORE_LOADSTAT_reason) ∧
    s.onlyPages t [(coreDie c.val, 0x80), (coreDie c.val, 0x0A), (0, 0x80)] ∧ t.rest = { s.rest with core := t.core }) ∧
  (∀ (s : State) (i : Init) (c : Core) (v : Bool), s.live (coreDie c.val) = true →
    isHawkmoth i = false →
    ∃ t, exec (.coreCtrlReset i c v) s = .next t ∧
    t.kf c.val CORE_EVT_refused = 1 ∧
    s.regsOnly t [(coreDie c.val, CORE_EVT_refused (coreSlot c.val))]) ∧
  (∀ (s : State) (c : Core), s.live (coreDie c.val) = true →
    c ≠ 0 →
    s.kf c.val CORE_CTRL_reset = 0 ∧ s.kf c.val CORE_STAT_state ≠ 3 →
    ∃ t, exec (.coreCtrlReset 0x001 c true) s = .next t ∧
    t.kf c.val CORE_CTRL_reset = 1 ∧ t.kf c.val CORE_STAT_state = 0 ∧ t.kf c.val CORE_CAUSE_cause = 2 ∧
    t.mailbox c.val = [] ∧
    t.kf c.val CORE_WDOG_CFG_en = 0 ∧
    s.onlyPages t [(coreDie c.val, 0x80), (coreDie c.val, 0x0A), (0, 0x80)] ∧ t.rest = { s.rest with core := t.core, net := t.net }) ∧
  (∀ (s : State) (c : Core), s.live (coreDie c.val) = true →
    c ≠ 0 →
    s.kf c.val CORE_CTRL_reset = 1 ∧ s.kf c.val CORE_STAT_state = 0 ∧ s.kf c.val DBG_C_CTRL_halt_on_reset = 0 →
    ∃ t, exec (.coreCtrlReset 0x001 c false) s = .next t ∧
    t.kf c.val CORE_CTRL_reset = 0 ∧
    t.kf c.val CORE_STAT_state = s.kf c.val CORE_STAT_loaded ∧
    s.onlyPages t [(coreDie c.val, 0x80), (coreDie c.val, 0x0A)] ∧ t.rest = s.rest) ∧
  (∀ (s : State) (c : Core) (v : Word), s.live (coreDie c.val) = true →
    ∃ t, exec (.watchdogStart c v) s = .next t ∧
    (s.kf c.val CORE_WDOG_CFG_en = 1 → t = s.fresh) ∧
    (s.kf c.val CORE_WDOG_CFG_en = 0 → t.kf c.val CORE_WDOG_CFG_timeout = bitsOf v 0 24 ∧ t.kf c.val CORE_WDOG_CFG_en = bitsOf v 31 1 ∧
      (v.msb = true → t.kf c.val CORE_STAT_wdog = 1 ∧ KMap.look t.core.wdog c.val = (max 1 (bitsOf v 0 24) * 1024, s.time.count)))) ∧
  (∀ (s : State) (c : Core) (v : Word), s.live (coreDie c.val) = true →
    ∃ t, exec (.watchdogKick c v) s = .next t ∧
    (v ≠ 0xA5A5 → t = s.fresh) ∧
    (v = 0xA5A5 → s.kf c.val CORE_WDOG_CFG_en = 1 → KMap.look t.core.wdog c.val = (max 1 (s.kf c.val CORE_WDOG_CFG_timeout) * 1024, s.time.count)) ∧
    t.regs = s.regs) ∧
  (∀ (s : State) (c : Core), s.wdogLeft c.val ≠ 0 ∨ s.kf c.val CORE_STAT_wdog = 0 →
    ∃ t, exec (.watchdogExpiry c) s = .next t ∧
    t = s.fresh) ∧
  (∀ (s : State) (c : Core), s.live (coreDie c.val) = true →
    c ≠ 0 →
    s.wdogLeft c.val = 0 ∧ s.kf c.val CORE_STAT_wdog = 1 ∧ s.kf c.val CORE_STAT_state = 1 →
    s.kf c.val CORE_STAT_loaded = 1 ∧ s.kf c.val CORE_CTRL_reset = 0 ∧ s.kf c.val DBG_C_CTRL_halt_on_reset = 0 →
    ∃ t, exec (.watchdogExpiry c) s = .next t ∧
    t.kf c.val CORE_STAT_state = 1 ∧ t.kf c.val CORE_CAUSE_cause = 1 ∧ t.kf c.val CORE_EVT_wdog_reset = 1 ∧
    t.kf c.val CORE_STAT_wdog = 0 ∧ t.mailbox c.val = [] ∧
    s.onlyPages t [(coreDie c.val, 0x80), (coreDie c.val, 0x0A), (0, 0x80)] ∧ t.rest = { s.rest with core := t.core, net := t.net }) ∧
  (∀ (s : State), s.live 0 = true →
    s.wdogLeft 0 = 0 ∧ s.kf 0 CORE_STAT_wdog = 1 ∧ s.kf 0 CORE_STAT_state = 1 ∧ s.kf 0 DBG_C_CTRL_halt_on_reset = 0 →
    s.pwr.safe = false →
    ∃ t, exec (.watchdogExpiry 0) s = .next t ∧
    (s.f 0 CORE_HB_STAT_faults < 3 → t.kf 0 CORE_STAT_state = 1 ∧ t.kf 0 CORE_CAUSE_cause = 1 ∧ t.f 0 CORE_HB_STAT_faults = s.f 0 CORE_HB_STAT_faults + 1 ∧ t.f 0 (CORE_EVT_wdog_reset 0) = 1 ∧ t.f 0 CORE_HB_STAT_misses = 0) ∧
    (3 ≤ s.f 0 CORE_HB_STAT_faults → t.pwr.safe = true ∧ t.f 0 PWR_SAFE_cause = 3 ∧ t.f 0 CORE_SAFE_heartbeat = 1 ∧ t.f 0 CORE_SAFE_tick = s.tick16)) ∧
  (∀ (s : State) (i : Init), s.live 0 = true →
    ∃ t, exec (.heartbeatKick i) s = .next t ∧
    (isHawkmoth i = true → t.core.kicked = true ∧ t.regs = s.regs) ∧
    (isHawkmoth i = false → t.f 0 (CORE_EVT_refused 0) = 1 ∧ s.regsOnly t [(0, CORE_EVT_refused 0)])) ∧
  (∀ (s : State), s.live 0 = true →
    s.kf 0 CORE_STAT_state ≠ 0 →
    s.pwr.safe = false →
    ∃ t, exec .lockstepMismatch s = .next t ∧
    t.pwr.safe = true ∧ t.f 0 PWR_SAFE_cause = 2 ∧ t.f 0 PWR_SAFE_entered = 1 ∧
    t.f 0 CORE_SAFE_lockstep = 1 ∧ t.f 0 CORE_SAFE_tick = s.tick16 ∧ t.kf 0 CORE_STAT_state = 0) ∧
  (∀ (s : State) (i : Init) (v : Word), s.live 0 = true →
    ∃ t, exec (.hostDoorbell i v) s = .next t ∧
    (isHawkmoth i = false → t.f 0 (CORE_EVT_refused 0) = 1 ∧ s.regsOnly t [(0, CORE_EVT_refused 0)] ∧ t.out = []) ∧
    (isHawkmoth i = true → s.f 0 PCIE_STAT_up = 0 → t = s.fresh) ∧
    (isHawkmoth i = true → s.f 0 PCIE_STAT_up = 1 → bitsOf (s.rd 0 (PCIE_MSIX_TBL (4 * bitsOf v 0 6 + 3))) 0 1 = 0 →
      t = s.fresh.emit (.msix (bitsOf v 0 6) (s.rd 0 (PCIE_MSIX_TBL (4 * bitsOf v 0 6))) (s.rd 0 (PCIE_MSIX_TBL (4 * bitsOf v 0 6 + 1))) (s.rd 0 (PCIE_MSIX_TBL (4 * bitsOf v 0 6 + 2))))))

/-- A push to a mailbox of fewer than 32 words appends the word with its writer; a full one answers RETRY and keeps its words. A pop gives
the oldest word and captures its writer; of an empty one it gives 0 and clears valid; a debug read changes nothing. The timer interrupt is
pending once mtime has reached the compare. A store to a port register of the Hawkmoth or the ION memory agent while it runs writes, sets or
clears its half of the outputs or enables; an input load gives the pins where none is analogue; on ION the high half reads 0. A running
core's misaligned load or store traps with code 4 or 6. A store to the boot ROM or the instruction SRAM traps with 7, a fetch outside both
with 1; an aligned word stored to the data SRAM is what a load there then gives; a load through a disabled window traps with 5. A core that
is not running does nothing. -/
def Obligations.MailboxesPortsAndMemoryMap : Prop :=
  (∀ (s : State) (c : Core) (w : Word) (i : Init) (dbg : Bool), s.live (coreDie c.val) = true →
    ∃ t, exec (.mailboxPush c w i dbg) s = .next t ∧
    ((s.mailbox c.val).length < 32 → t.mailbox c.val = s.mailbox c.val ++ [(w, i.toNat, dbg)] ∧ t.out = []) ∧
    (32 ≤ (s.mailbox c.val).length → t.mailbox c.val = s.mailbox c.val ∧ t.out = [.retry]) ∧
    t.regs = s.regs ∧
    t.rest = { s.rest with core := t.core }) ∧
  (∀ (s : State) (c : Core) (w : Word) (src : Nat) (dbg : Bool) (l : List (Word × Nat × Bool)), s.live (coreDie c.val) = true →
    s.mailbox c.val = (w, src, dbg) :: l →
    src < 4096 →
    ∃ t, exec (.mailboxPop c false) s = .next t ∧
    t.out = [.value w] ∧
    t.mailbox c.val = l ∧
    t.kf c.val CORE_MB_SRC_src_id = src ∧ t.kf c.val CORE_MB_SRC_valid = 1 ∧ t.kf c.val CORE_MB_SRC_dbg = dbg.toNat ∧
    exec (.mailboxPop c true) s = .next (s.fresh.emit (.value w)) ∧
    s.onlyPages t [(coreDie c.val, 0x80)] ∧ t.rest = { s.rest with core := t.core }) ∧
  (∀ (s : State) (c : Core), s.live (coreDie c.val) = true →
    s.mailbox c.val = [] →
    ∃ t, exec (.mailboxPop c false) s = .next t ∧
    t.out = [.value 0] ∧ t.kf c.val CORE_MB_SRC_valid = 0 ∧
    s.regsOnly t [(coreDie c.val, CORE_MB_SRC_valid (coreSlot c.val))]) ∧
  (∀ (s : State) (c : Core) (n : Nat), s.live (coreDie c.val) = true →
    s.tick.tb ≠ .off →
    n = s.rd64 (coreDie c.val) (CORE_MTIMECMP_LO (coreSlot c.val)) (CORE_MTIMECMP_HI (coreSlot c.val)) →
    ∃ t, exec (.machineTimerInterrupt c) s = .next t ∧
    (s.time.count < n → t = s.fresh) ∧
    (n ≤ s.time.count → KMap.look t.core.mtip c.val = true ∧ t.regs = s.regs)) ∧
  (∀ (s : State) (w : Word) (pins : BitVec 64), s.coreRuns 0 = true →
    ∃ t, exec (.portAccess 0 7 (some w) pins) s = .next t ∧
    KMap.look t.gpio.portOut 0 = KMap.look s.gpio.portOut 0 ||| (w ++ (0 : Word)) ∧
    t.out = [] ∧ t.regs = s.regs ∧
    (∃ u, exec (.portAccess 0 2 (some w) pins) s = .next u ∧ KMap.look u.gpio.portOut 0 = (KMap.look s.gpio.portOut 0).extractLsb' 32 32 ++ w) ∧
    (∃ u, exec (.portAccess 0 8 (some w) pins) s = .next u ∧ KMap.look u.gpio.portOut 0 = KMap.look s.gpio.portOut 0 &&& ~~~((0 : Word) ++ w)) ∧
    (∃ u, exec (.portAccess 0 5 (some w) pins) s = .next u ∧ KMap.look u.gpio.portOe 0 = w ++ (KMap.look s.gpio.portOe 0).extractLsb' 0 32) ∧
    (s.analogPins 0 = 0 → exec (.portAccess 0 1 none pins) s = .next (s.fresh.emit (.coreValue 0 (pins.extractLsb' 32 32)))) ∧
    t.rest = { s.rest with gpio := t.gpio }) ∧
  (∀ (s : State) (k : Fin 16) (pins : BitVec 64), s.coreRuns 4 = true →
    k.val % 2 = 1 →
    ∃ t, exec (.portAccess 4 k none pins) s = .next t ∧
    t = s.fresh.emit (.coreValue 4 0)) ∧
  (∀ (s : State) (c : Core) (k : Fin 16) (wr : Option Word) (pins : BitVec 64) (op : CoreOp) (a : Word) (err : SramErr), s.coreRuns c.val = false →
    ∃ t, exec (.portAccess c k wr pins) s = .next t ∧
    t = s.fresh ∧
    exec (.coreBusAccess c op a err pins) s = .next t) ∧
  (∀ (s : State) (c : Core) (op : CoreOp) (a : Word) (err : SramErr) (pins : BitVec 64) (code : Nat), s.coreRuns c.val = true ∧ s.coreWaits c.val = false →
    (match op with
    | .load n => decide (a.toNat % 2 ^ n.val ≠ 0 ∧ code = 4)
    | .store n _ => decide (a.toNat % 2 ^ n.val ≠ 0 ∧ code = 6) || decide (a.toNat % 2 ^ n.val = 0 ∧ a.toNat < 0x20000000 ∧ code = 7)
    | .fetch => decide (0x20000000 ≤ a.toNat ∧ code = 1)
    | .fence => false) = true →
    ∃ t, exec (.coreBusAccess c op a err pins) s = .next t ∧
    t = s.fresh.emit (.coreTrap c.val code)) ∧
  (∀ (s : State) (c : Core) (k : Fin 0x4000) (w : Word) (pins : BitVec 64), s.coreRuns c.val = true ∧ s.coreWaits c.val = false →
    ∃ t, exec (.coreBusAccess c (.store 2 w) (BitVec.ofNat 32 (0x20000000 + 4 * k.val)) .none pins) s = .next t ∧
    t.out = [.coreValue c.val 0] ∧ t.regs = s.regs ∧
    exec (.coreBusAccess c (.load 2) (BitVec.ofNat 32 (0x20000000 + 4 * k.val)) .none pins) t = .next (t.fresh.emit (.coreValue c.val w)) ∧
    t.rest = { s.rest with core := t.core }) ∧
  (∀ (s : State) (c : Core) (a : Word) (err : SramErr) (pins : BitVec 64), s.coreRuns c.val = true ∧ s.coreWaits c.val = false →
    0x80000000 ≤ a.toNat ∧ a.toNat < 0xC0000000 →
    bitsOf (s.rd (coreDie c.val) (CORE_WIN0 (coreSlot c.val))) 31 1 = 0 →
    ∃ t, exec (.coreBusAccess c (.load 0) a err pins) s = .next t ∧
    t = s.fresh.emit (.coreTrap c.val 5))

/-- A report of a live die counts in its class and sets its source; a corrected one changes nothing else; contained and above sets the die's
bit in ERR_DIES while its status link is unfenced, and a region-fatal one enters the log of 16 or counts as dropped. A pop gives the oldest
entry and captures its tick; a debug read changes nothing. The fail operation puts a RUNNING region in FAILED for the Hawkmoth and the die's
Skipper; for another initiator, a region that is not RUNNING or out of range, it names the reason and changes nothing else. A background
read moves the walk on; a frame of one or two wrong bits counts as corrected, one of three as uncorrectable, marking its region and logging
its column and frame index. A measurement shows its slowdown, and one that comes to the threshold sets age_thr. A refused spare commit
changes nothing; a committed logic shift is pending and takes its column, a committed row waits for its block's load, and either enters the
write queue. A wear-map write that holds in both copies puts the entry in both and sets wm_done; a failed one sets wm_fail and leaves them.
-/
def Obligations.ErrorsScrubbingAndSpares : Prop :=
  (∀ (s : State) (d : Die) (src : Fin 16) (c : ErrClass) (region : Fin 32) (detail : BitVec 16), s.live d.val = true →
    c ≠ .dieFatal →
    ∃ t, exec (.errorReport d src c region detail) s = .next t ∧
    t.f d.val c.counter = min (s.f d.val c.counter + 1) (2 ^ 32 - 1) ∧
    t.f d.val ⟨ERR_SRC, src.val, 1⟩ = 1 ∧
    (c ≠ .corrected → d = 0 ∨ KMap.look s.statusFenced d.val = false → t.f 0 ⟨ERR_DIES, d.val, 1⟩ = 1) ∧
    (c ≠ .regionFatal → t.err = s.err) ∧
    (c = .regionFatal → KMap.look t.err.log d.val = KMap.look s.err.log d.val ++ (if (KMap.look s.err.log d.val).length < 16 then [(src.val + 32 + 128 + region.val * 256 + detail.toNat * 65536, s.tick32)] else [])) ∧
    s.onlyFields t [(d.val, c.counter), (d.val, ⟨ERR_SRC, src.val, 1⟩), (0, ⟨ERR_DIES, d.val, 1⟩), (d.val, ERR_LOG_STAT_dropped)] ∧
    t.rest = { s.rest with err := t.err }) ∧
  (∀ (s : State) (d : Die) (e : Nat × Nat) (l : List (Nat × Nat)), KMap.look s.err.log d.val = e :: l →
    ∃ t, exec (.errLogPop d false) s = .next t ∧
    t.out = [.value (BitVec.ofNat 32 e.1)] ∧
    KMap.look t.err.log d.val = l ∧
    t.rd d.val ERR_LOG_TICK = BitVec.ofNat 32 e.2 ∧
    s.onlyFields t [whole d.val ERR_LOG_TICK] ∧
    exec (.errLogPop d true) s = .next (s.fresh.emit (.value (BitVec.ofNat 32 e.1))) ∧
    t.rest = { s.rest with err := t.err }) ∧
  (∀ (s : State) (i : Init) (d : FabDie) (r : Fin 32) (k : Nat), k = (if isHawkmoth i = false ∧ isSkipperOf i (d.val + 2) = false then 1 else if 24 ≤ r.val then 3 else if s.regionState (d.val + 2) r.val ≠ 5 then 2 else 0) →
    ∃ t, exec (.errFailRegion i d r) s = .next t ∧
    t.f (d.val + 2) ERR_CMDSTAT_reason = k ∧
    (k ≠ 0 → s.regsOnly t [(d.val + 2, ERR_CMDSTAT_reason)]) ∧
    (k = 0 → t.regionState (d.val + 2) r.val = 6 ∧ t.f (d.val + 2) (REGIONS_ABORT_reason r.val) = s.f (d.val + 2) (REGIONS_ABORT_reason r.val))) ∧
  (∀ (s : State) (d : FabDie) (e : FrameErr) (n : Nat), s.live (d.val + 2) = true →
    n = s.f (d.val + 2) SCRUB_POS_frame →
    n < 57599 →
    s.regionState (d.val + 2) (n / 2400) ≠ 2 →
    e.bits ≤ 3 →
    ∃ t, exec (.scrubBackgroundRead d e) s = .next t ∧
    t.f (d.val + 2) SCRUB_POS_frame = n + 1 ∧
    t.fab = s.fab ∧
    (e.bits = 0 → s.regsOnly t [(d.val + 2, SCRUB_POS_frame)]) ∧
    (1 ≤ e.bits → e.bits ≤ 2 → t.f (d.val + 2) SCRUB_EVT_ce = 1 ∧ t.f (d.val + 2) ⟨SCRUB_CE_CNT, 0, 32⟩ = min (s.f (d.val + 2) ⟨SCRUB_CE_CNT, 0, 32⟩ + 1) (2 ^ 32 - 1) ∧ t.err = s.err) ∧
    (e.bits = 3 → t.f (d.val + 2) SCRUB_EVT_ue = 1 ∧ t.f (d.val + 2) ⟨SCRUB_UE_CNT, 0, 32⟩ = min (s.f (d.val + 2) ⟨SCRUB_UE_CNT, 0, 32⟩ + 1) (2 ^ 32 - 1) ∧
      t.f (d.val + 2) ⟨SCRUB_UE_MAP, n / 2400, 1⟩ = 1) ∧
    (e.bits = 3 → s.f (d.val + 2) ⟨SCRUB_UE_MAP, n / 2400, 1⟩ = 0 → KMap.look s.err.log (d.val + 2) = [] →
      KMap.look t.err.log (d.val + 2) = [(4 + 32 + 128 + n / 2400 * 256 + (e.col.toNat + 256 * e.idx.toNat) * 65536, s.tick32)]) ∧
    (e.bits ≠ 0 → e.col.toNat < 200 → t.f (d.val + 2) ⟨SPARE_COLCNT e.col.toNat, 0, 32⟩ = min (s.f (d.val + 2) ⟨SPARE_COLCNT e.col.toNat, 0, 32⟩ + 1) (2 ^ 32 - 1))) ∧
  (∀ (s : State) (d : Die) (i : Fin 24) (x : BitVec 16) (b v : Nat), s.live d.val = true →
    2 ≤ d.val ∨ i.val < 21 →
    b = s.f d.val (SPARE_AGEB_baseline i.val) →
    v = min (if b ≤ x.toNat then 0 else (b - x.toNat) * 10000 / b) 4095 →
    ∃ t, exec (.agingMeasure [(d, i, x)]) s = .next t ∧
    t.f d.val (SPARE_AGE_slowdown i.val) = v ∧ t.f d.val (SPARE_AGE_count i.val) = x.toNat ∧
    (s.f d.val SPARE_CFG_age_thr ≠ 0 → s.f d.val (SPARE_AGE_slowdown i.val) < 10 * s.f d.val SPARE_CFG_age_thr → 10 * s.f d.val SPARE_CFG_age_thr ≤ v → t.f d.val SPARE_EVT_age_thr = 1) ∧
    s.onlyFields t [(d.val, SPARE_AGE_slowdown i.val), (d.val, SPARE_AGE_count i.val), (d.val, SPARE_EVT_age_thr), (d.val, SPARE_HIT_monitor), (d.val, SPARE_HIT_age_valid)] ∧
    t.rest = { s.rest with err := t.err }) ∧
  (∀ (s : State) (b : BitVec 128), spareDetail b s ≠ 0 →
    ∃ t, exec (.spareCommit b) s = .next t ∧
    t = s.fresh) ∧
  (∀ (s : State) (b : BitVec 128), spareDetail b s = 0 →
    spareByte b 0 = 1 ∨ spareByte b 0 = 3 →
    ∃ t, exec (.spareCommit b) s = .next t ∧
    t.err.queue = s.err.queue ++ [b] ∧
    (spareByte b 0 = 1 → t.f (spareByte b 1) (REGIONS_REMAP_pending (spareByte b 2)) = spareByte b 3 ∧ t.f (spareByte b 1) ⟨SPARE_POOL, spareByte b 2, 1⟩ = 0 ∧
      t.f (spareByte b 1) (REGIONS_REMAP_active (spareByte b 2)) = s.f (spareByte b 1) (REGIONS_REMAP_active (spareByte b 2))) ∧
    (spareByte b 0 = 3 → t.blk (spareBlk b) = { s.blk (spareBlk b) with pend := (s.blk (spareBlk b)).pend ++ [nbits b.toNat 48 16] }) ∧
    s.onlyPages t [(spareByte b 1, 0x90), (spareByte b 1, 0x78), (0, 0x78)] ∧ t.rest = { s.rest with err := t.err, mem := t.mem }) ∧
  (∀ (s : State) (e : BitVec 128) (l : List (BitVec 128)) (first second : Bool), s.err.queue = e :: l →
    ∃ t, exec (.wearMapWriteDone first second) s = .next t ∧
    t.err.queue = l ∧
    (first = true → second = true → t.f 0 SPARE_EVT_wm_done = 1 ∧ t.nv.wear0.map (fun x => x.entries) = some (s.nv.wearEntries ++ [e]) ∧
      t.nv.wear1.map (fun x => x.entries) = some (s.nv.wearEntries ++ [e]) ∧ t.nv.wearEntries = s.nv.wearEntries ++ [e]) ∧
    (first = false → second = false → t.f 0 SPARE_EVT_wm_fail = 1 ∧ t.nv = s.nv) ∧
    s.onlyPages t [(0, 0x78)] ∧ t.rest = { s.rest with err := t.err, nv := t.nv })

/-- A write of a pin's configuration by another initiator than the core of the die's port is ignored and sets refused. A function above 3,
or analogue mode together with a function, sets bad_func and changes nothing else; another non-zero function on a pin that has one is
refused whole with its conflict bit; a claim of a free pin is stored, switching for the hold, with function 3 taking the pin's timer unit
where no one owns it; function 0 releases both. The hold's end clears switching. A conversion of an analogue pin gives min(steps, 4095),
saturated above 4,096 steps (the model's reading of an input above 2.048 V). A capture of an owned unit in a selected edge mode stamps the
count less 16 tb for each synchronizer and filter cycle; a pulse's end drops the output. The Hawkmoth's claim of a free trigger line takes
it, one that names another owner is refused with the line's conflict bit, and 0 releases it; a drive of the line it owns pulls it, of
another line only sets the conflict bit. An edge stamps its count and fine phase and counts. A waiting pulse starts on a line Itastea owns,
conflicts on another, and ends by releasing it. -/
def Obligations.PinsTimersAndTriggerLines : Prop :=
  (∀ (s : State) (i : Init) (d : IoDie) (j : Fin 64) (v : Word), s.live d.val = true →
    j.val < 32 ∨ d = 0 →
    portOwner d.val i = false →
    ∃ t, exec (.gpioFuncWrite i d j v) s = .next t ∧
    t.f d.val GPIO_EVT_refused = 1 ∧
    s.regsOnly t [(d.val, GPIO_EVT_refused)]) ∧
  (∀ (s : State) (i : Init) (d : IoDie) (j : Fin 64) (v : Word), s.live d.val = true →
    j.val < 32 ∨ d = 0 →
    portOwner d.val i = true →
    3 < bitsOf v 0 4 ∨ v.getLsbD 6 = true ∧ bitsOf v 0 4 ≠ 0 →
    ∃ t, exec (.gpioFuncWrite i d j v) s = .next t ∧
    t.f d.val GPIO_EVT_bad_func = 1 ∧
    s.regsOnly t [(d.val, GPIO_EVT_bad_func)]) ∧
  (∀ (s : State) (i : Init) (d : IoDie) (j : Fin 64) (v : Word), s.live d.val = true →
    j.val < 32 ∨ d = 0 →
    portOwner d.val i = true →
    v.getLsbD 6 = false ∧ 1 ≤ bitsOf v 0 4 ∧ bitsOf v 0 4 ≤ 3 →
    s.f d.val (GPIO_P_CFG_func j.val) ≠ 0 ∧ s.f d.val (GPIO_P_CFG_func j.val) ≠ bitsOf v 0 4 ∨
    s.f d.val (GPIO_P_CFG_func j.val) = 0 ∧ bitsOf v 0 4 = 3 ∧ s.timerOwned d.val (j.val % 8) = true →
    ∃ t, exec (.gpioFuncWrite i d j v) s = .next t ∧
    t.f d.val ⟨if j.val < 32 then GPIO_CONF_LO else GPIO_CONF_HI, j.val % 32, 1⟩ = 1 ∧ t.f d.val GPIO_EVT_conflict = 1 ∧
    s.regsOnly t [(d.val, ⟨if j.val < 32 then GPIO_CONF_LO else GPIO_CONF_HI, j.val % 32, 1⟩), (d.val, GPIO_EVT_conflict)]) ∧
  (∀ (s : State) (i : Init) (d : IoDie) (j : Fin 64) (v : Word), s.live d.val = true →
    j.val < 32 ∨ d = 0 →
    portOwner d.val i = true →
    v.getLsbD 6 = false ∧ bitsOf v 0 4 ≤ 3 →
    s.f d.val (GPIO_P_CFG_func j.val) = 0 ∧ bitsOf v 0 4 ≠ 0 ∨ s.f d.val (GPIO_P_CFG_func j.val) ≠ 0 ∧ bitsOf v 0 4 = 0 →
    bitsOf v 0 4 = 3 → s.timerOwned d.val (j.val % 8) = false →
    ∃ t, exec (.gpioFuncWrite i d j v) s = .next t ∧
    t.f d.val (GPIO_P_CFG_func j.val) = bitsOf v 0 4 ∧ t.f d.val (GPIO_P_CFG_switching j.val) = 1 ∧
    (bitsOf v 0 4 = 3 → t.f d.val (GPIO_TMR_CFG_owned (j.val % 8)) = 1 ∧ t.f d.val (GPIO_TMR_CFG_pin (j.val % 8)) = j.val) ∧
    (s.f d.val (GPIO_P_CFG_func j.val) = 3 → t.f d.val (GPIO_TMR_CFG_owned (j.val % 8)) = 0) ∧
    s.onlyFields t [whole d.val (GPIO_P_CFG j.val), (d.val, GPIO_TMR_CFG_owned (j.val % 8)), (d.val, GPIO_TMR_CFG_pin (j.val % 8))] ∧
    t.rest = { s.rest with gpio := t.gpio }) ∧
  (∀ (s : State) (d : IoDie) (j : Fin 64), j.val < 32 ∨ d = 0 →
    ∃ t, exec (.gpioSwitchEnd d j) s = .next t ∧
    t.f d.val (GPIO_P_CFG_switching j.val) = 0 ∧
    s.regsOnly t [(d.val, GPIO_P_CFG_switching j.val)]) ∧
  (∀ (s : State) (d : IoDie) (j : Fin 64) (steps : Nat), s.f d.val GPIO_ADC_CTRL_en = 1 ∧ s.f d.val (GPIO_P_CFG_analog j.val) = 1 →
    j.val < 32 ∨ d = 0 →
    ∃ t, exec (.adcConversion d j steps) s = .next t ∧
    t.f d.val (GPIO_P_ADC_code j.val) = min steps 4095 ∧ t.f d.val (GPIO_P_ADC_valid j.val) = 1 ∧
    (4096 < steps → t.f d.val (GPIO_P_ADC_sat j.val) = 1) ∧
    t.f d.val (GPIO_P_ADC_tick j.val) = s.tick16 ∧
    (j.val + 1 = pinCount d.val → t.f d.val GPIO_EVT_adc_done = 1) ∧
    s.onlyFields t [whole d.val (GPIO_P_ADC j.val), (d.val, GPIO_EVT_adc_done)] ∧
    t.rest = { s.rest with gpio := t.gpio }) ∧
  (∀ (s : State) (d : IoDie) (u : Fin 8) (rising : Bool) (count : Nat), s.f d.val (GPIO_TMR_CFG_owned u.val) = 1 →
    s.f d.val (GPIO_TMR_CFG_mode u.val) = 2 ∨ s.f d.val (GPIO_TMR_CFG_mode u.val) = (if rising then 0 else 1) →
    160 ≤ count ∧ count < 2 ^ 64 →
    ∃ t, exec (.timerCapture d u rising count) s = .next t ∧
    t.rd64 d.val (GPIO_TMR_CAP_LO u.val) (GPIO_TMR_CAP_HI u.val) =
      count - 16 * (2 + ([0, 2, 4, 8] : List Nat).getD (s.f d.val (GPIO_P_CFG_filt (s.f d.val (GPIO_TMR_CFG_pin u.val)))) 8) ∧
    t.f d.val GPIO_EVT_tmr_capture = 1 ∧
    s.onlyFields t [whole d.val (GPIO_TMR_CAP_LO u.val), whole d.val (GPIO_TMR_CAP_HI u.val), (d.val, GPIO_EVT_tmr_capture)] ∧
    t.rest = { s.rest with gpio := t.gpio }) ∧
  (∀ (s : State) (d : IoDie) (u : Fin 8), KMap.look s.gpio.timerOn (d.val * 8 + u.val) = true →
    ∃ t, exec (.timerPulseEnd d u) s = .next t ∧
    KMap.look t.gpio.timerOn (d.val * 8 + u.val) = false ∧
    t.out = [.timerOut d.val u.val false] ∧ t.regs = s.regs ∧
    t.rest = { s.rest with gpio := t.gpio }) ∧
  (∀ (s : State) (i : Init) (l : Fin 8) (v : Word) (o : Nat), s.live 0 = true →
    isHawkmoth i = true →
    o = bitsOf v 0 3 ∧ o ≤ 4 ∧ o ≠ 0 →
    ∃ t, exec (.triggerOwnWrite i l v) s = .next t ∧
    (s.f 0 (GPIO_TRIG_OWN_owner l.val) = 0 → o ≠ 4 → t.f 0 (GPIO_TRIG_OWN_owner l.val) = o ∧ t.f 0 (GPIO_TRIG_OWN_unit l.val) = bitsOf v 4 3) ∧
    (s.f 0 (GPIO_TRIG_OWN_owner l.val) = 0 → o = 4 → s.timerOwned 0 (bitsOf v 4 3) = false → t.f 0 (GPIO_TRIG_OWN_owner l.val) = 4 ∧ t.f 0 (GPIO_TMR_CFG_by_trig (bitsOf v 4 3)) = 1) ∧
    (s.f 0 (GPIO_TRIG_OWN_owner l.val) = o → t = s.fresh) ∧
    (s.f 0 (GPIO_TRIG_OWN_owner l.val) ≠ 0 → s.f 0 (GPIO_TRIG_OWN_owner l.val) ≠ o → t.f 0 ⟨GPIO_TRIG_CONF, l.val, 1⟩ = 1 ∧ t.f 0 GPIO_EVT_trig_conflict = 1 ∧
      t.f 0 (GPIO_TRIG_OWN_owner l.val) = s.f 0 (GPIO_TRIG_OWN_owner l.val))) ∧
  (∀ (s : State) (l : Fin 8), s.live 0 = true →
    ∃ t, exec (.triggerOwnWrite 0x001 l 0) s = .next t ∧
    t.f 0 (GPIO_TRIG_OWN_owner l.val) = 0 ∧
    t.out = [.trigger l.val false] ∧
    (s.f 0 (GPIO_TRIG_OWN_owner l.val) = 4 → t.f 0 (GPIO_TMR_CFG_by_trig (s.f 0 (GPIO_TRIG_OWN_unit l.val))) = 0) ∧
    s.onlyPages t [(0, 0x04)] ∧ t.rest = s.rest) ∧
  (∀ (s : State) (l : Fin 8) (v : Word), s.live 0 = true →
    ∃ t, exec (.triggerDriveWrite 0x001 l v) s = .next t ∧
    t.rd 0 (GPIO_TRIG_CTRL l.val) = v &&& 0x3FFFF ∧
    (s.f 0 (GPIO_TRIG_OWN_owner l.val) = 2 → t.out = [.trigger l.val (v.getLsbD 0)]) ∧
    (s.f 0 (GPIO_TRIG_OWN_owner l.val) ≠ 2 → t.out = [] ∧ (v.getLsbD 0 = true → t.f 0 ⟨GPIO_TRIG_CONF, l.val, 1⟩ = 1)) ∧
    s.onlyPages t [(0, 0x04)] ∧ t.rest = s.rest) ∧
  (∀ (s : State) (l : Fin 8) (stamp : BitVec 72) (ext : Byte) (n : Nat), s.live 0 = true →
    s.f 0 (GPIO_TRIG_CTRL_ev_en l.val) = 0 →
    ∃ t, exec (.triggerEdge l stamp ext n) s = .next t ∧
    t.rd64 0 (GPIO_TRIG_TS_LO l.val) (GPIO_TRIG_TS_HI l.val) = stamp.toNat / 256 ∧ t.f 0 (GPIO_TRIG_TS_FINE_fine l.val) = stamp.toNat % 256 ∧
    t.f 0 (GPIO_TRIG_TS_FINE_edges l.val) = (s.f 0 (GPIO_TRIG_TS_FINE_edges l.val) + 1) % 2 ^ (GPIO_TRIG_TS_FINE_edges l.val).len ∧
    t.f 0 GPIO_EVT_trig_edge = 1 ∧
    t.gpio.ext = ext ∧
    s.onlyPages t [(0, 0x04)] ∧ t.rest = { s.rest with gpio := t.gpio }) ∧
  (∀ (s : State) (l : Fin 8), s.gpio.pulse.any (fun e => e.1 == l.val) = true →
    ∃ t, exec (.triggerPulseStart l) s = .next t ∧
    (s.f 0 (GPIO_TRIG_OWN_owner l.val) = 1 → t.out = [.trigger l.val true] ∧ t.gpio.active = s.gpio.active ++ [l.val]) ∧
    (s.f 0 (GPIO_TRIG_OWN_owner l.val) ≠ 1 → t.f 0 ⟨GPIO_TRIG_CONF, l.val, 1⟩ = 1 ∧ t.f 0 GPIO_EVT_trig_conflict = 1 ∧ t.gpio.active = s.gpio.active) ∧
    t.gpio.pulse.length + 1 = s.gpio.pulse.length ∧
    s.onlyPages t [(0, 0x04)] ∧ t.rest = { s.rest with gpio := t.gpio }) ∧
  (∀ (s : State) (l : Fin 8), s.gpio.active = [l.val] →
    s.f 0 (GPIO_TRIG_OWN_owner l.val) = 1 →
    ∃ t, exec (.triggerPulseEnd l) s = .next t ∧
    t.gpio.active = [] ∧ t.out = [.trigger l.val false] ∧ t.regs = s.regs ∧
    t.rest = { s.rest with gpio := t.gpio })

/-- A claim takes the master where no path or the same path owns it; with another owner it, and a release, set path_conflict and change
nothing else. The owner's release frees it. A write by the master at an address that is not of a DEBUG page, without the right and outside
an opened block, ends at once with status 0x0C and nothing else happens. Another access of an idle master stands busy; while busy a further
one does nothing. In the safe state, outside the factory hold, a read of a page of IOS that is not left readable, or of another die, ends
with a decode error. When the answer is there, the access ends with its status, and a read with its data. A JTAG update of a word that is no
access register changes no register, and a write while another path owns the master is refused, with path_conflict. -/
def Obligations.OneDebugPathOwnsTheBusMaster : Prop :=
  (∀ (s : State) (p : DbgPath), s.f 0 DBG_OWN_owner = 0 ∨ s.f 0 DBG_OWN_owner = p.code →
    ∃ t, exec (.dbgClaim p) s = .next t ∧
    t.f 0 DBG_OWN_owner = p.code ∧
    s.regsOnly t [(0, DBG_OWN_owner)] ∧
    (∃ u, exec (.dbgRelease p) s = .next u ∧ u.f 0 DBG_OWN_owner = 0 ∧ s.regsOnly u [(0, DBG_OWN_owner)])) ∧
  (∀ (s : State) (p : DbgPath) (consume : Bool) (env : CtlEnv), s.f 0 DBG_OWN_owner ≠ 0 ∧ s.f 0 DBG_OWN_owner ≠ p.code →
    ∃ t, exec (.dbgClaim p) s = .next t ∧
    t.f 0 DBG_EVT_path_conflict = 1 ∧
    s.regsOnly t [(0, DBG_EVT_path_conflict)] ∧
    exec (.dbgRelease p) s = .next t ∧ exec (.dbgBmRead p consume env) s = .next t ∧ exec (.dbgBmWrite p env) s = .next t) ∧
  (∀ (s : State) (p : DbgPath) (a : Nat) (env : CtlEnv), s.f 0 DBG_OWN_owner = 0 ∨ s.f 0 DBG_OWN_owner = p.code →
    s.f 0 DBG_BM_STAT_busy = 0 ∧ s.f 0 DBG_RIGHTS_bm_write = 0 ∧ env.opened = false →
    a = s.rd64 0 DBG_BM_ADDR_LO DBG_BM_ADDR_HI →
    a < 0xF00000000000 ∨ a / 0x10000 % 0x100 ≠ 0x0A →
    ∃ t, exec (.dbgBmWrite p env) s = .next t ∧
    t.f 0 DBG_BM_STAT_status = 0x0C ∧
    s.regsOnly t [(0, DBG_BM_STAT_status)]) ∧
  (∀ (s : State) (p : DbgPath) (consume : Bool) (env : CtlEnv), s.f 0 DBG_OWN_owner = 0 ∨ s.f 0 DBG_OWN_owner = p.code →
    s.f 0 DBG_BM_STAT_busy = 1 →
    ∃ t, exec (.dbgBmRead p consume env) s = .next t ∧
    t = s.fresh ∧
    exec (.dbgBmWrite p env) s = .next t) ∧
  (∀ (s : State) (p : DbgPath) (consume : Bool) (env : CtlEnv), s.f 0 DBG_OWN_owner = 0 ∨ s.f 0 DBG_OWN_owner = p.code →
    s.f 0 DBG_BM_STAT_busy = 0 →
    s.pwr.safe = false →
    ∃ t, exec (.dbgBmRead p consume env) s = .next t ∧
    t.dbg.bm = some (false, consume) ∧
    (t.f 0 DBG_BM_STAT_busy = 1) ∧
    (s.f 0 DBG_RIGHTS_bm_write = 1 → ∃ u, exec (.dbgBmWrite p env) s = .next u ∧ u.dbg.bm = some (true, false) ∧ u.f 0 DBG_BM_STAT_busy = 1)) ∧
  (∀ (s : State) (p : DbgPath) (a : Nat) (consume : Bool) (env : CtlEnv), s.f 0 DBG_OWN_owner = 0 ∨ s.f 0 DBG_OWN_owner = p.code →
    s.f 0 DBG_BM_STAT_busy = 0 →
    s.pwr.safe = true ∧ s.pwr.factory = false →
    a = s.rd64 0 DBG_BM_ADDR_LO DBG_BM_ADDR_HI →
    a < 0xF00000000000 ∨ 0xF00001000000 ≤ a ∨ (a / 0x10000 % 0x100 ≠ 0 ∧ a / 0x10000 % 0x100 ≠ 2 ∧ a / 0x10000 % 0x100 ≠ 3 ∧ a / 0x10000 % 0x100 ≠ 7 ∧ a / 0x10000 % 0x100 ≠ 0x70) →
    ∃ t, exec (.dbgBmRead p consume env) s = .next t ∧
    t.f 0 DBG_BM_STAT_status = 1 ∧ t.f 0 DBG_BM_STAT_busy = 0 ∧ t.rd 0 DBG_BM_DATA = 0 ∧
    s.onlyFields t [(0, DBG_BM_STAT_status), (0, DBG_BM_STAT_busy), whole 0 DBG_BM_DATA] ∧
    t.rest = { s.rest with dbg := t.dbg }) ∧
  (∀ (s : State) (w c : Bool) (status : Byte) (v : Word), s.dbg.bm = some (w, c) ∧ s.dbg.bmDone = some (status.toNat, v) →
    ∃ t, exec .dbgBmDone s = .next t ∧
    t.dbg.bm = none ∧ t.f 0 DBG_BM_STAT_busy = 0 ∧ t.f 0 DBG_BM_STAT_status = status.toNat ∧
    (w = false → t.rd 0 DBG_BM_DATA = v) ∧
    (w = true → s.onlyFields t [(0, DBG_BM_STAT_status), (0, DBG_BM_STAT_busy)]) ∧
    t.rest = { s.rest with dbg := t.dbg }) ∧
  (∀ (s : State) (dr : BitVec 48) (env : CtlEnv), s.pwr.railsGood = true →
    11 ≤ dr.toNat % 64 →
    ∃ t, exec (.jtagDbgpathUpdate dr env) s = .next t ∧
    t.regs = s.regs ∧ t.net = s.net ∧ t.out = []) ∧
  (∀ (s : State) (dr : BitVec 48) (env : CtlEnv), s.pwr.railsGood = true →
    dr.toNat % 64 < 11 ∧ dr.getLsbD 6 = true →
    s.f 0 DBG_OWN_owner = 2 ∨ s.f 0 DBG_OWN_owner = 3 →
    ∃ t, exec (.jtagDbgpathUpdate dr env) s = .next t ∧
    t.f 0 DBG_EVT_path_conflict = 1 ∧
    t.dbg.jtag = (s.dbg.jtag.1, true, true) ∧
    s.onlyFields t [(0, DBG_EVT_path_conflict)] ∧
    t.rest = { s.rest with dbg := t.dbg })

/-- A halt, resume, step, feed, terminal write, acknowledge or SRAM write by another initiator than the debug bus master is ignored and sets
refused, and so is one of the first four without the right over the core. A halt of a running core with no load outstanding keeps the
address of its next instruction and the core is HALTED with cause 0, its watchdog standing still; with a load outstanding it is halting. A
resume lets a halted core run with at least 1,024 cycles in its watchdog. A step halts it again with cause 2 at its next address, its data
word as the instruction left it. A fed word that may not be fed ends with exception 2 and feed_err; another does what the instruction does.
An EBREAK halts a Skipper whose ebreak_halt is set, with cause 1. A word to the debugger is held and marked, one more is lost and marked; a
word to the core likewise, and the core reads it once, else 0. An acknowledge clears the marks that are written 1. A write of MDATA by the
debugger stores the word at MADDR, which moves on, and a Skipper's written instruction SRAM no longer counts as loaded; a read gives it. -/
def Obligations.DebuggersHaltStepFeedAndTalk : Prop :=
  (∀ (s : State) (i : Init) (c : Core) (a w : Word) (o : FeedOut) (err : SramErr), s.live (coreDie c.val) = true →
    isDebugMaster i = false →
    ∃ t, exec (.coreHalt i c a) s = .next t ∧
    t.f 0 DBG_EVT_refused = 1 ∧
    s.regsOnly t [(0, DBG_EVT_refused)] ∧
    exec (.coreResume i c) s = .next t ∧ exec (.coreStep i c o a) s = .next t ∧ exec (.coreIfeed i c w o) s = .next t ∧
    exec (.drxDebuggerWrite i c w) s = .next t ∧ exec (.dtxAck i c w) s = .next t ∧ exec (.mdataAccess i c (some w) err) s = .next t) ∧
  (∀ (s : State) (c : Core) (a w : Word) (o : FeedOut), s.live (coreDie c.val) = true →
    s.coreRight c.val = false →
    ∃ t, exec (.coreHalt 0x004 c a) s = .next t ∧
    t.f 0 DBG_EVT_refused = 1 ∧
    s.regsOnly t [(0, DBG_EVT_refused)] ∧
    exec (.coreResume 0x004 c) s = .next t ∧ exec (.coreStep 0x004 c o a) s = .next t ∧ exec (.coreIfeed 0x004 c w o) s = .next t) ∧
  (∀ (s : State) (c : Core) (a : Word), s.coreRight c.val = true →
    s.coreFree c.val = true →
    ∃ t, exec (.coreHalt 0x004 c a) s = .next t ∧
    t.rd (coreDie c.val) (DBG_C_DPC (coreSlot c.val)) = a ∧
    (s.coreWaits c.val = false → t.coreHalted c.val = true ∧ t.kf c.val DBG_C_STAT_state = 2 ∧ t.kf c.val DBG_C_STAT_cause = 0 ∧ t.f 0 DBG_EVT_halted = 1 ∧ t.wdogLeft c.val = s.wdogLeft c.val) ∧
    (s.coreWaits c.val = true → t.coreRuns c.val = true ∧ t.kf c.val DBG_C_STAT_state = 1) ∧
    s.onlyPages t [(coreDie c.val, 0x0A), (coreDie c.val, 0x80), (0, 0x0A), (0, 0x80)] ∧ t.rest = { s.rest with core := t.core }) ∧
  (∀ (s : State) (c : Core), s.coreRight c.val = true →
    s.coreHalted c.val = true →
    ∃ t, exec (.coreResume 0x004 c) s = .next t ∧
    t.coreRuns c.val = true ∧ t.kf c.val DBG_C_STAT_state = 0 ∧
    (s.kf c.val CORE_STAT_wdog = 1 → t.wdogLeft c.val = max (s.wdogLeft c.val) 1024) ∧
    t.rd (coreDie c.val) (DBG_C_DPC (coreSlot c.val)) = s.rd (coreDie c.val) (DBG_C_DPC (coreSlot c.val)) ∧
    s.onlyPages t [(coreDie c.val, 0x0A), (coreDie c.val, 0x80), (0, 0x80)] ∧ t.rest = { s.rest with core := t.core }) ∧
  (∀ (s : State) (c : Core) (w a : Word), s.coreRight c.val = true →
    s.coreHalted c.val = true →
    ∃ t, exec (.coreStep 0x004 c (.done (some w)) a) s = .next t ∧
    t.coreHalted c.val = true ∧ t.kf c.val DBG_C_STAT_state = 2 ∧ t.kf c.val DBG_C_STAT_cause = 2 ∧ t.f 0 DBG_EVT_halted = 1 ∧
    t.rd (coreDie c.val) (DBG_C_DPC (coreSlot c.val)) = a ∧ t.rd (coreDie c.val) (DBG_C_DATA (coreSlot c.val)) = w ∧
    s.onlyPages t [(coreDie c.val, 0x0A), (coreDie c.val, 0x80), (0, 0x0A)] ∧ t.rest = s.rest) ∧
  (∀ (s : State) (c : Core) (w v : Word) (o : FeedOut), s.coreRight c.val = true →
    s.coreHalted c.val = true →
    s.kf c.val DBG_C_STAT_fed_busy = 0 →
    ∃ t, exec (.coreIfeed 0x004 c w o) s = .next t ∧
    (unfeedable w = true → t.kf c.val DBG_C_STAT_ferr = 1 ∧ t.kf c.val DBG_C_STAT_fcause = 2 ∧ t.f 0 DBG_EVT_feed_err = 1 ∧ t.coreHalted c.val = true) ∧
    (unfeedable w = false → o = .done (some v) → t.kf c.val DBG_C_STAT_ferr = 0 ∧ t.rd (coreDie c.val) (DBG_C_DATA (coreSlot c.val)) = v ∧ t.coreHalted c.val = true) ∧
    (unfeedable w = true ∨ o = .done (some v) → s.onlyPages t [(coreDie c.val, 0x0A), (0, 0x0A)] ∧ t.rest = s.rest)) ∧
  (∀ (s : State) (c : Core) (a : Word), s.coreFree c.val = true →
    ∃ t, exec (.coreEbreakHalt c a) s = .next t ∧
    (c ≠ 0 → s.kf c.val DBG_C_CTRL_ebreak_halt = 1 → t.coreHalted c.val = true ∧ t.kf c.val DBG_C_STAT_cause = 1 ∧ t.rd (coreDie c.val) (DBG_C_DPC (coreSlot c.val)) = a) ∧
    (c = 0 ∨ s.kf c.val DBG_C_CTRL_ebreak_halt = 0 → t = s.fresh)) ∧
  (∀ (s : State) (c : Core) (w : Word), s.coreRuns c.val = true ∨ s.coreHalted c.val = true →
    ∃ t, exec (.dtxWrite c w) s = .next t ∧
    t.kf c.val DBG_C_TSTAT_dtx_full = 1 ∧
    (s.kf c.val DBG_C_TSTAT_dtx_full = 0 → t.rd (coreDie c.val) (DBG_C_DTX (coreSlot c.val)) = w ∧ s.onlyFields t [whole (coreDie c.val) (DBG_C_DTX (coreSlot c.val)), (coreDie c.val, DBG_C_TSTAT_dtx_full (coreSlot c.val))]) ∧
    (s.kf c.val DBG_C_TSTAT_dtx_full = 1 → t.kf c.val DBG_C_TSTAT_dtx_lost = 1 ∧ s.onlyFields t [(coreDie c.val, DBG_C_TSTAT_dtx_lost (coreSlot c.val))]) ∧
    t.rest = s.rest) ∧
  (∀ (s : State) (c : Core), s.coreRuns c.val = true ∨ s.coreHalted c.val = true →
    ∃ t, exec (.drxRead c) s = .next t ∧
    t.out = [.coreValue c.val (if s.kf c.val DBG_C_TSTAT_drx_full = 1 then s.rd (coreDie c.val) (DBG_C_DRX (coreSlot c.val)) else 0)] ∧
    t.kf c.val DBG_C_TSTAT_drx_full = 0 ∧
    s.regsOnly t [(coreDie c.val, DBG_C_TSTAT_drx_full (coreSlot c.val))]) ∧
  (∀ (s : State) (c : Core) (w : Word), s.live (coreDie c.val) = true →
    ∃ t, exec (.drxDebuggerWrite 0x004 c w) s = .next t ∧
    t.kf c.val DBG_C_TSTAT_drx_full = 1 ∧
    (s.kf c.val DBG_C_TSTAT_drx_full = 0 → t.rd (coreDie c.val) (DBG_C_DRX (coreSlot c.val)) = w) ∧
    (s.kf c.val DBG_C_TSTAT_drx_full = 1 → t.kf c.val DBG_C_TSTAT_drx_lost = 1 ∧ t.rd (coreDie c.val) (DBG_C_DRX (coreSlot c.val)) = s.rd (coreDie c.val) (DBG_C_DRX (coreSlot c.val))) ∧
    s.onlyPages t [(coreDie c.val, 0x0A)] ∧ t.rest = s.rest) ∧
  (∀ (s : State) (c : Core) (v : Word), s.live (coreDie c.val) = true →
    ∃ t, exec (.dtxAck 0x004 c v) s = .next t ∧
    (v.getLsbD 0 = true → t.kf c.val DBG_C_TSTAT_dtx_full = 0) ∧
    t.kf c.val DBG_C_TSTAT_drx_full = s.kf c.val DBG_C_TSTAT_drx_full ∧
    t.rd (coreDie c.val) (DBG_C_TSTAT (coreSlot c.val)) = s.rd (coreDie c.val) (DBG_C_TSTAT (coreSlot c.val)) &&& ~~~(v &&& 0xD) ∧
    s.regsOnly t [whole (coreDie c.val) (DBG_C_TSTAT (coreSlot c.val))]) ∧
  (∀ (s : State) (i : Init) (c : Core) (k : Nat) (w : Word), s.live (coreDie c.val) = true →
    c ≠ 0 ∧ s.coreRight c.val = true →
    k = s.kf c.val DBG_C_MADDR_word ∧ k < 0x4000 →
    s.kf c.val DBG_C_MADDR_inc = 0 ∧ s.kf c.val DBG_C_MADDR_isram = 1 →
    ∃ t, exec (.mdataAccess 0x004 c (some w) .none) s = .next t ∧
    t.sramWord c.val true k = w ∧ t.kf c.val CORE_STAT_loaded = 0 ∧
    s.onlyFields t [(coreDie c.val, CORE_STAT_loaded (coreSlot c.val))] ∧
    (∃ u, exec (.mdataAccess i c none .none) t = .next u ∧ u.out = [.value w] ∧ u.core = t.core) ∧
    t.rest = { s.rest with core := t.core })

/-- BIST_ENTER that is refused changes nothing; else the controller runs, the mask's dies are queued and the earlier results are cleared. A
write of start outside BLANK or by another initiator than the debug bus master is ignored and sets refused; by it, in BLANK, with an
acceptable request, it starts as BIST_ENTER does. The die whose turn it is runs, another does not. The turn is the lowest queued die's,
while fewer than two run and its estimate keeps the sum within the cap, or alone where it exceeds the cap by itself. A die that has finished
is recorded as passed or failed with its failing sets; with no die left the controller is done. An abort of the only running die, with none
queued, records it as aborted and ends the test. -/
def Obligations.SelfTestRunsInTurnAndResets : Prop :=
  (∀ (s : State) (mask : BitVec 16) (set last : Byte) (d : Die), s.live 0 = true →
    ∃ t, exec (.bistEnter mask set last) s = .next t ∧
    (s.bistDetail mask.toNat set.toNat last.toNat ≠ 0 → t = s.fresh) ∧
    (s.bistDetail mask.toNat set.toNat last.toNat = 0 → t.f 0 BIST_STAT_state = 1 ∧ t.f 0 BIST_STAT_running = 0 ∧ t.f 0 BIST_STAT_queued = mask.toNat ∧ t.f 0 BIST_REQ_set = set.toNat ∧
      t.f 0 (BIST_D_STAT_state d.val) = (mask.toNat / 2 ^ d.val) % 2 ∧ t.f 0 (BIST_D_STAT_fails d.val) = 0)) ∧
  (∀ (s : State) (i : Init), s.live 0 = true →
    s.lifeCycle ≠ 0 ∨ isDebugMaster i = false →
    ∃ t, exec (.bistStart i) s = .next t ∧
    t.f 0 BIST_EVT_refused = 1 ∧
    s.regsOnly t [(0, BIST_EVT_refused)]) ∧
  (∀ (s : State), s.live 0 = true →
    s.lifeCycle = 0 →
    s.bistDetail (s.f 0 BIST_REQ_mask) (s.f 0 BIST_REQ_set) 0 = 0 →
    ∃ t, exec (.bistStart 0x004) s = .next t ∧
    exec (.bistEnter (BitVec.ofNat 16 (s.f 0 BIST_REQ_mask)) (BitVec.ofNat 8 (s.f 0 BIST_REQ_set)) 0) s = .next t ∧
    t.f 0 BIST_STAT_state = 1 ∧ t.f 0 BIST_STAT_queued = s.f 0 BIST_REQ_mask ∧
    s.onlyPages t [(0, 0x0B)] ∧ t.rest = { s.rest with dbg := t.dbg }) ∧
  (∀ (s : State) (d : Die), s.live 0 = true →
    ∃ t, exec (.bistDieStart d) s = .next t ∧
    (s.bistNext ≠ some d.val → t = s.fresh) ∧
    (s.bistNext = some d.val → t.f 0 (BIST_D_STAT_state d.val) = 2 ∧ nbit (t.f 0 BIST_STAT_running) d.val = true ∧ nbit (t.f 0 BIST_STAT_queued) d.val = false) ∧
    (s.f 0 BIST_STAT_running = 0 → s.f 0 BIST_STAT_queued = 2 ^ d.val → s.bistNext = some d.val) ∧
    (s.f 0 BIST_STAT_running = 3 → s.bistNext = none)) ∧
  (∀ (s : State) (d : Die) (r : BistOut) (bad : Nat), nbit (s.f 0 BIST_STAT_running) d.val = true →
    s.f 0 BIST_STAT_state = 1 →
    bad = r.fails.toNat &&& setMask (s.f 0 BIST_REQ_set) →
    ∃ t, exec (.bistDieDone d r) s = .next t ∧
    t.f 0 (BIST_D_STAT_state d.val) = (if bad = 0 then 3 else 4) ∧ t.f 0 (BIST_D_STAT_fails d.val) = bad ∧
    nbit (t.f 0 BIST_STAT_running) d.val = false ∧
    (bad ≠ 0 → t.f 0 BIST_EVT_fail = 1) ∧
    (s.f 0 BIST_STAT_running = 2 ^ d.val → s.f 0 BIST_STAT_queued = 0 → t.f 0 BIST_STAT_state = 2 ∧ t.f 0 BIST_EVT_done = 1)) ∧
  (∀ (s : State) (d : Die), s.live 0 = true →
    s.f 0 BIST_STAT_state = 1 ∧ s.f 0 BIST_STAT_running = 2 ^ d.val ∧ s.f 0 BIST_STAT_queued = 0 →
    ∃ t, exec .bistAbort s = .next t ∧
    t.f 0 (BIST_D_STAT_state d.val) = 5 ∧ t.f 0 BIST_STAT_state = 2 ∧ t.f 0 BIST_STAT_running = 0 ∧ t.f 0 BIST_EVT_done = 1)
end

