-- ==== Sys2Proof/Laws/Exec.lean ====
section
/-! SUPPORT. What exec answers for each command: the effect that its runner runs. -/

namespace Sys2Proof.Machine

theorem exec_powerGood (refsel : Fin 8) (s : State) : exec (.powerGood refsel) s =
    (run (powerGood refsel.val) s) := rfl

theorem exec_safeoscReady (s : State) : exec .safeoscReady s =
    (run safeoscReady s) := rfl

theorem exec_vauxLoss (s : State) : exec .vauxLoss s =
    (run vauxLoss s) := rfl

theorem exec_sysrstAssert (s : State) : exec .sysrstAssert s =
    (run (fun s => if s.pwr.railsGood then endS0 (beginStart (powerOnReset s)) else powerOnReset s) s) := rfl

theorem exec_timebaseLock (delays : List (Fin 4096)) (s : State) : exec (.timebaseLock delays) s =
    (runTime State.lockTime (lockEndsS1 (delays.map (·.val))) s) := rfl

theorem exec_s1LockWaitRecord (s : State) : exec .s1LockWaitRecord s =
    (run s1Record s) := rfl

theorem exec_clockMonitorFault (s : State) : exec .clockMonitorFault s =
    (run clockFault s) := rfl

theorem exec_tickBoundary (b : BoundaryIn) (s : State) : exec (.tickBoundary b) s =
    (runTime State.boundaryTime (tickBoundary b) s) := rfl

theorem exec_quietWindowOpen (q : QuietIn) (s : State) : exec (.quietWindowOpen q) s =
    (runTime State.quietTime (quietWindowOpen q) s) := rfl

theorem exec_segmentCommit (passes : Bool) (bad : List (BitVec 16 × Bool)) (s : State) : exec (.segmentCommit passes bad) s =
    (runTime State.commitTime (segmentCommit passes bad) s) := rfl

theorem exec_heartbeatCheck (s : State) : exec .heartbeatCheck s =
    (runTime State.checkTime heartbeatTick s) := rfl

theorem exec_tickArm (both : Bool) (s : State) : exec (.tickArm both) s =
    (run (tickArm both) s) := rfl

theorem exec_tickCancel (s : State) : exec .tickCancel s =
    (run tickCancel s) := rfl

theorem exec_slackOverrun (m : Monitor) (n off amount : Nat) (q : QuietIn) (s : State) : exec (.slackOverrun m n off amount q) s =
    (run (overrunEnds m n off amount q) s) := rfl

theorem exec_registerWrite (d : Die) (a : CtlAccess) (s : State) : exec (.registerWrite d a) s =
    (run (registerWrite d.val a) s) := rfl

theorem exec_readClearRegister (d : Die) (a : CtlAccess) (s : State) : exec (.readClearRegister d a) s =
    (run (registerRead d.val a) s) := rfl

theorem exec_startStepEnd (i : StepIn) (s : State) : exec (.startStepEnd i) s =
    (run (startStepEnd i) s) := rfl

theorem exec_startStepTimeout (i : StepIn) (s : State) : exec (.startStepTimeout i) s =
    (run (startStepTimeout i) s) := rfl

theorem exec_journalRecordWrite (p : Prog) (bad : List (Fin 64)) (s : State) : exec (.journalRecordWrite p bad) s =
    (run (recordWrite p (bad.map (·.val))) s) := rfl

theorem exec_journalEraseDone (bad : List (Fin 64)) (s : State) : exec (.journalEraseDone bad) s =
    (run (eraseDone (bad.map (·.val))) s) := rfl

theorem exec_wakeGovernorAdmit (new : List WakeEv) (rail : Fin 14) (s : State) : exec (.wakeGovernorAdmit new rail) s =
    (run (wakeGovernor new rail.val) s) := rfl

theorem exec_releaseRampStep (d : FabDie) (s : State) : exec (.releaseRampStep d) s =
    (run (rampStep (d.val + 2)) s) := rfl

theorem exec_regionDrainIdle (r : Fin 192) (answers : List (Byte × List Line)) (s : State) : exec (.regionDrainIdle r answers) s =
    (run (drainIdle r answers) s) := rfl

theorem exec_regionDrainTimeout (r : Fin 192) (s : State) : exec (.regionDrainTimeout r) s =
    (run (drainTimeout r) s) := rfl

theorem exec_containerHeaderCheck (h : Header) (s : State) : exec (.containerHeaderCheck h) s =
    (run (headerCheck h) s) := rfl

theorem exec_frameRecord (k : Nat) (addr : Word) (data : BitVec 4096) (crc : Word) (s : State) : exec (.frameRecord k addr data crc) s =
    (run (frameRecord k addr data crc) s) := rfl

theorem exec_segmentVerify (k : Nat) (stored : List Byte) (s : State) : exec (.segmentVerify k stored) s =
    (run (segmentVerify k stored) s) := rfl

theorem exec_regionFillDone (init : List (Blk × Nat × BitVec 64)) (binds : List ChanBind) (busy : List (FabDie × Fin 8))
    (bad : Option (Blk × Nat)) (s : State) : exec (.regionFillDone init binds busy bad) s =
    (run (regionFillDone init binds busy bad) s) := rfl

theorem exec_powerOnFillDone (d : FabDie) (bad : List (Bool × Nat × Nat × Nat)) (s : State) : exec (.powerOnFillDone d bad) s =
    (run (powerOnFillDone d bad) s) := rfl

theorem exec_cmbResidueMismatch (d : FabDie) (col : Fin 13) (row : Fin 300) (g : CmbCfg) (x : CmbIn) (u : CmbUpset) (s : State) : exec (.cmbResidueMismatch d col row g x u) s =
    (run (cmbRun (d.val + 2) col.val row.val g x u) s) := rfl

theorem exec_cmbMismatchReport (d : FabDie) (n : Nat) (s : State) : exec (.cmbMismatchReport d n) s =
    (run (cmbReports (d.val + 2) n) s) := rfl

theorem exec_cmberrRecPop (d : FabDie) (peek : Bool) (s : State) : exec (.cmberrRecPop d peek) s =
    (run (fun s => let (s, w) := cmbPop (d.val + 2) peek s; s.emit (.value w)) s) := rfl

theorem exec_memoryPortRead (b : Blk) (p : MemPort) (a : Nat) (upset : BitVec 72) (superseded : Bool) (s : State) : exec (.memoryPortRead b p a upset superseded) s =
    (run (memPortRead b p a upset superseded) s) := rfl

theorem exec_memoryPortWrite (b : Blk) (p : MemPort) (a : Nat) (data : BitVec 64) (be : Byte) (collides : Bool) (s : State) : exec (.memoryPortWrite b p a data be collides) s =
    (run (memPortWrite b p a data be collides) s) := rfl

theorem exec_memorySleep (b : Blk) (s : State) : exec (.memorySleep b) s =
    (run (memSleep b) s) := rfl

theorem exec_memoryWakeDone (b : Blk) (took : Nat) (s : State) : exec (.memoryWakeDone b took) s =
    (run (memWakeDone b took) s) := rfl

theorem exec_memoryWindowRequest (d : FabDie) (access : WinAccess) (s : State) : exec (.memoryWindowRequest d access) s =
    (run (windowTake d (windowAct d access)) s) := rfl

theorem exec_memoryWindowBusy (d : FabDie) (s : State) : exec (.memoryWindowBusy d) s =
    (run (windowTake d (fun h _ s => answerError h 5 (s.evt (d.val + 2) MECC_EVT_window_busy))) s) := rfl

theorem exec_meccReport (d : FabDie) (s : State) : exec (.meccReport d) s =
    (run (meccReport d) s) := rfl

theorem exec_meccRecPop (d : FabDie) (peek : Bool) (s : State) : exec (.meccRecPop d peek) s =
    (run (fun s => let (s, w) := meccPop d peek s; s.emit (.value w)) s) := rfl

theorem exec_meccInjWrite (d : FabDie) (v : Word) (s : State) : exec (.meccInjWrite d v) s =
    (run (meccInjWrite d v) s) := rfl

theorem exec_nocRequestIssue (r : NocReq) (s : State) : exec (.nocRequestIssue r) s =
    (run (niIssue r false) s) := rfl

theorem exec_heldRequestAdmit (i : Init) (q : Fin 32) (seq : Fin 1024) (s : State) : exec (.heldRequestAdmit i q seq) s =
    (run (heldAdmit i.toNat q.val seq.val) s) := rfl

theorem exec_nocFence (i : Init) (q : Fin 32) (s : State) : exec (.nocFence i q) s =
    (run (niIssue { src := i, write := false, addr := 0, queue := q } true) s) := rfl

theorem exec_routerHeader (x : Fin 16) (y : Fin 10) (port : Fin 8) (resp : Bool) (raw : BitVec 256) (flits : List Flit)
    (marks : List (Fin 16 × Word)) (s : State) : exec (.routerHeader x y port resp raw flits marks) s =
    (run (routerHeader x.val y.val port.val resp raw flits marks) s) := rfl

theorem exec_targetRequest (raw : BitVec 256) (flits : List Flit) (port : Fin 4) (x : TargetIn) (s : State) : exec (.targetRequest raw flits port x) s =
    (run (targetRequest raw flits port.val x) s) := rfl

theorem exec_niResponse (raw : BitVec 256) (flits : List Flit) (port : Fin 4) (s : State) : exec (.niResponse raw flits port) s =
    (run (niResponse raw flits port.val) s) := rfl

theorem exec_notify (raw : BitVec 256) (port : Fin 4) (s : State) : exec (.notify raw port) s =
    (run (notify raw port.val) s) := rfl

theorem exec_retryReissue (i : Init) (q : Fin 32) (die : Die) (ep : Byte) (s : State) : exec (.retryReissue i q die ep) s =
    (run (retryReissue i.toNat q.val die.val ep.toNat) s) := rfl

theorem exec_nocResponseTimeout (i : Init) (q : Fin 32) (seq : Fin 1024) (s : State) : exec (.nocResponseTimeout i q seq) s =
    (run (noResponse i.toNat q.val seq.val) s) := rfl

theorem exec_scheduleSwapArm (both : Bool) (s : State) : exec (.scheduleSwapArm both) s =
    (run (swapArm both) s) := rfl

theorem exec_scheduleSwapCancel (s : State) : exec .scheduleSwapCancel s =
    (run swapCancel s) := rfl

theorem exec_scheduleBankCheckDone (d : Die) (s : State) : exec (.scheduleBankCheckDone d) s =
    (run (bankCheckDone d.val) s) := rfl

theorem exec_probeEnable (d : Die) (p : Fin 16) (v : Word) (declared : Bool) (s : State) : exec (.probeEnable d p v declared) s =
    (run (probeEnable d.val p.val v declared) s) := rfl

theorem exec_probeDisable (d : Die) (p : Fin 16) (s : State) : exec (.probeDisable d p) s =
    (run (probeDisable d.val p.val) s) := rfl

theorem exec_probeForceTrigger (d : Die) (p : Fin 16) (s : State) : exec (.probeForceTrigger d p) s =
    (run (probeTrigger d.val p.val) s) := rfl

theorem exec_probeForceStop (d : Die) (p : Fin 16) (s : State) : exec (.probeForceStop d p) s =
    (run (probeStop d.val p.val) s) := rfl

theorem exec_probeTrigEdge (d : FabDie) (p : Fin 4) (s : State) : exec (.probeTrigEdge d p) s =
    (run (fun s => if s.f (d.val + 2) (PROBES_P_CTRL_trig_src p.val) = 1 then probeTrigger (d.val + 2) p.val s else s) s) := rfl

theorem exec_probeTraceWrite (d : Die) (p : Fin 16) (s : State) : exec (.probeTraceWrite d p) s =
    (run (probeWrite d.val p.val) s) := rfl

theorem exec_probeTraceWriteDone (d : Die) (p : Fin 16) (status : Byte) (s : State) : exec (.probeTraceWriteDone d p status) s =
    (run (fun s =>
        if status = 0 ∨ !s.on d.val (PROBES_P_CTRL_enable p.val) then s
        else (probeError d.val p.val 5 s).setF d.val (PROBES_P_STAT_status p.val) status.toNat) s) := rfl

theorem exec_statsCapture (d : Die) (s : State) : exec (.statsCapture d) s =
    (run (statCmd d.val true false false false) s) := rfl

theorem exec_statsClear (d : Die) (s : State) : exec (.statsClear d) s =
    (run (statCmd d.val false true false false) s) := rfl

theorem exec_statsPin (d : Die) (s : State) : exec (.statsPin d) s =
    (run (statCmd d.val false false false true) s) := rfl

theorem exec_statsUnpin (d : Die) (s : State) : exec (.statsUnpin d) s =
    (run (statCmd d.val false false true false) s) := rfl

theorem exec_tunnelFrame (d : Die) (m : Fin 32) (raw : BitVec 2048) (s : State) : exec (.tunnelFrame d m raw) s =
    (run (tunnelFrame d.val m.val raw.toNat) s) := rfl

theorem exec_streamSlot (d : Die) (m : Fin 32) (ch : Bool) (raw : BitVec 288) (took : Nat) (s : State) : exec (.streamSlot d m ch raw took) s =
    (run (streamSlot d.val m.val ch.toNat raw.toNat took) s) := rfl

theorem exec_corugTrain (i : Init) (d : Die) (e : Fin 4) (s : State) : exec (.corugTrain i d e) s =
    (run (corugOp 1 i d.val e.val 0 0 (trainStart d.val e.val)) s) := rfl

theorem exec_corugTrainDone (d : Die) (e : Fin 4) (near far : List WireSweep) (s : State) : exec (.corugTrainDone d e near far) s =
    (run (trainDone d.val e.val near far) s) := rfl

theorem exec_corugUnfence (i : Init) (d : Die) (e : Fin 4) (s : State) : exec (.corugUnfence i d e) s =
    (run (corugOp 2 i d.val e.val 0 0 (unfenceEdge d.val e.val)) s) := rfl

theorem exec_corugResync (i : Init) (d : Die) (e : Fin 4) (k : Fin 8) (ch : Bool) (s : State) : exec (.corugResync i d e k ch) s =
    (run (corugOp 3 i d.val e.val (8 * e.val + k.val) ch.toNat
        (fun s => matchChannel d.val (8 * e.val + k.val) ch.toNat 0 (matchChannel d.val (8 * e.val + k.val) ch.toNat 1 s))) s) := rfl

theorem exec_fenceNotice (d : Die) (e : Fin 4) (test : Bool) (s : State) : exec (.fenceNotice d e test) s =
    (run (fenceEdge d.val e.val (if test then 3 else 1)) s) := rfl

theorem exec_edgeNoValidFrames (d : Die) (e : Fin 4) (s : State) : exec (.edgeNoValidFrames d e) s =
    (run (fenceEdge d.val e.val 2) s) := rfl

theorem exec_statusLinkFence (d : Die) (s : State) : exec (.statusLinkFence d) s =
    (run (fun s => loadDieLost d.val (linkFence d.val s)) s) := rfl

theorem exec_statusLinkFrame (d : Die) (s : State) : exec (.statusLinkFrame d) s =
    (run (linkFrame d.val) s) := rfl

theorem exec_ucieDiscoveryReply (b : BitVec 128) (s : State) : exec (.ucieDiscoveryReply b) s =
    (run (ucieReply b.toNat) s) := rfl

theorem exec_ucieDiscoveryTimeout (s : State) : exec .ucieDiscoveryTimeout s =
    (run (fun s => if s.ucie = uDiscovery then ucieRefuse 1 s else s) s) := rfl

theorem exec_ucieUnit (raw : BitVec 2048) (s : State) : exec (.ucieUnit raw) s =
    (run (ucieUnit raw.toNat) s) := rfl

theorem exec_uciePartnerRequest (r : PartnerReq) (s : State) : exec (.uciePartnerRequest r) s =
    (run (partnerRequest r) s) := rfl

theorem exec_ucieLinkDown (s : State) : exec .ucieLinkDown s =
    (run ucieLost s) := rfl

theorem exec_ucieAdmit (i : Init) (s : State) : exec (.ucieAdmit i) s =
    (run (ucieAdmit i) s) := rfl

theorem exec_ucieDown (i : Init) (s : State) : exec (.ucieDown i) s =
    (run (fun s => if isHawkmoth i then ucieLost s else s) s) := rfl

theorem exec_laneRetrain (i : Init) (d : IoDie) (q : Fin 21) (n : Fin 4) (s : State) : exec (.laneRetrain i d q n) s =
    (run (laneOp i d.val q.val n.val (laneStart d.val)) s) := rfl

theorem exec_laneStop (i : Init) (d : IoDie) (q : Fin 21) (n : Fin 4) (s : State) : exec (.laneStop i d q n) s =
    (run (laneOp i d.val q.val n.val (laneStop d.val)) s) := rfl

theorem exec_laneStart (i : Init) (d : IoDie) (q : Fin 21) (n : Fin 4) (s : State) : exec (.laneStart i d q n) s =
    (run (laneOp i d.val q.val n.val (laneStart d.val)) s) := rfl

theorem exec_lanePllWrite (i : Init) (d : IoDie) (q : Fin 21) (b : Bool) (v : Word) (s : State) : exec (.lanePllWrite i d q b v) s =
    (run (lanePllWrite i d.val q.val b v) s) := rfl

theorem exec_trainingBlock (d : IoDie) (l : Fin 80) (b : BitVec 64) (s : State) : exec (.trainingBlock d l b) s =
    (run (trainingBlock d.val l.val b.toNat) s) := rfl

theorem exec_trainingRoundEnd (d : IoDie) (l : Fin 80) (pre post : Fin 4) (better : Bool) (margin : Fin 64) (s : State) : exec (.trainingRoundEnd d l pre post better margin) s =
    (run (trainingRound d.val l.val pre.val post.val better margin.val) s) := rfl

theorem exec_trainingTimeout (d : IoDie) (l : Fin 80) (long : Bool) (s : State) : exec (.trainingTimeout d l long) s =
    (run (trainingTimeout d.val l.val long) s) := rfl

theorem exec_laneBlock (d : IoDie) (l : Fin 80) (hdr : BitVec 2) (payload : BitVec 64) (full : Bool) (s : State) : exec (.laneBlock d l hdr payload full) s =
    (run (laneBlock d.val l.val hdr.toNat payload full) s) := rfl

theorem exec_alignBlock (d : IoDie) (l : Fin 80) (b : BitVec 64) (stamp : BitVec 72) (s : State) : exec (.alignBlock d l b stamp) s =
    (run (alignBlock d.val l.val b.toNat stamp.toNat) s) := rfl

theorem exec_perstAssert (s : State) : exec .perstAssert s =
    (run perstAssert s) := rfl

theorem exec_pcieHotReset (s : State) : exec .pcieHotReset s =
    (run pcieHotReset s) := rfl

theorem exec_pcieFlr (s : State) : exec .pcieFlr s =
    (run pcieFlr s) := rfl

theorem exec_pcieLinkDown (s : State) : exec .pcieLinkDown s =
    (run pcieLinkDown s) := rfl

theorem exec_pcieLinkUp (speed : Fin 8) (width : Fin 32) (s : State) : exec (.pcieLinkUp speed width) s =
    (run (pcieLinkUp speed.val width.val) s) := rfl

theorem exec_pcieHostRequest (bar : Fin 5) (write : Bool) (off count : Nat) (lines : List Line) (relaxed : Bool) (s : State) : exec (.pcieHostRequest bar write off count lines relaxed) s =
    (run (hostRequest bar.val write off count lines relaxed) s) := rfl

theorem exec_dmaTailWrite (q : Fin 32) (v : BitVec 16) (s : State) : exec (.dmaTailWrite q v) s =
    (run (dmaTail q.val v) s) := rfl

theorem exec_dmaQueueEnable (q : Fin 32) (v : Word) (s : State) : exec (.dmaQueueEnable q v) s =
    (run (dmaEnable q.val v) s) := rfl

theorem exec_dmaQueueDisable (q : Fin 32) (started : Nat) (s : State) : exec (.dmaQueueDisable q started) s =
    (run (dmaDisable q.val started) s) := rfl

theorem exec_dmaDescriptorDone (q : Fin 32) (desc : BitVec 224) (host : Fin 7) (noc : Byte) (later : List Bool) (s : State) : exec (.dmaDescriptorDone q desc host noc later) s =
    (run (dmaDone q.val desc host.val noc.toNat later) s) := rfl

theorem exec_hostDoorbell (i : Init) (v : Word) (s : State) : exec (.hostDoorbell i v) s =
    (run (hostDoorbell i v) s) := rfl

theorem exec_hello (p : Fin 8) (b : BitVec 64) (s : State) : exec (.hello p b) s =
    (run (takeCtl p.val 0x83 b (helloTake p.val b)) s) := rfl

theorem exec_fstart (p : Fin 8) (b : BitVec 64) (body : List Byte) (s : State) : exec (.fstart p b body) s =
    (run (takeCtl p.val 0x80 b (fstartTake p.val b body)) s) := rfl

theorem exec_ack (p : Fin 8) (b : BitVec 64) (s : State) : exec (.ack p b) s =
    (run (takeCtl p.val 0x81 b (ackTake p.val b)) s) := rfl

theorem exec_nak (p : Fin 8) (b : BitVec 64) (s : State) : exec (.nak p b) s =
    (run (takeCtl p.val 0x82 b (nakTake p.val b)) s) := rfl

theorem exec_replayTimeout (p : Fin 8) (s : State) : exec (.replayTimeout p) s =
    (run (fun s => if s.portSends p.val && !(s.port p.val).unacked.isEmpty then replay p.val (s.port p.val).unacked s else s) s) := rfl

theorem exec_goodbye (p : Fin 8) (b : BitVec 64) (s : State) : exec (.goodbye p b) s =
    (run (takeCtl p.val 0x85 b (portDown p.val 6)) s) := rfl

theorem exec_helloTimeout (p : Fin 8) (s : State) : exec (.helloTimeout p) s =
    (run (fun s => if s.portSends p.val then portDown p.val 4 s else s) s) := rfl

theorem exec_portRetryTimeout (p : Fin 8) (s : State) : exec (.portRetryTimeout p) s =
    (run (portRetrain p.val) s) := rfl

theorem exec_itaPortDownOp (i : Init) (p : Fin 8) (s : State) : exec (.itaPortDownOp i p) s =
    (run (itaOp 1 i p.val (portDownOp p.val)) s) := rfl

theorem exec_itaPortUpOp (i : Init) (p : Fin 8) (s : State) : exec (.itaPortUpOp i p) s =
    (run (itaOp 2 i p.val (portRetrain p.val)) s) := rfl

theorem exec_itaRejoin (i : Init) (p : Fin 8) (s : State) : exec (.itaRejoin i p) s =
    (run (itaOp 3 i p.val rejoin) s) := rfl

theorem exec_itaRehome (i : Init) (p : Fin 8) (s : State) : exec (.itaRehome i p) s =
    (run (itaOp 4 i p.val (rehome p.val)) s) := rfl

theorem exec_tsync (p : Fin 8) (sent : Bool) (b : BitVec 64) (stamp : BitVec 72) (s : State) : exec (.tsync p sent b stamp) s =
    (run (fun s => if sent then (if s.portSends p.val then tsyncSent p.val b stamp.toNat s else s)
        else takeCtl p.val 0x84 b (tsyncArrived p.val b stamp.toNat) s) s) := rfl

theorem exec_calibrationTimeout (p : Fin 8) (s : State) : exec (.calibrationTimeout p) s =
    (run (fun s => s.setPort p.val { s.port p.val with calStart := none }) s) := rfl

theorem exec_timeFrame (p : Fin 8) (f : TimeFrame) (s : State) : exec (.timeFrame p f) s =
    (run (timeFrame p.val f) s) := rfl

theorem exec_joinReq (p : Fin 8) (id : BitVec 16) (s : State) : exec (.joinReq p id) s =
    (run (joinReq p.val id.toNat) s) := rfl

theorem exec_joinGrant (p : Fin 8) (id : BitVec 14) (j count : BitVec 64) (h : BitVec 16) (s : State) : exec (.joinGrant p id j count h) s =
    (run (joinGrant p.val id.toNat j.toNat count.toNat h.toNat) s) := rfl

theorem exec_joinRefuse (p : Fin 8) (reason : Nat) (s : State) : exec (.joinRefuse p reason) s =
    (run (fun s => if s.portState p.val = 3 ∧ s.upstream = p.val ∧ 1 ≤ reason then
        sendJoinReq (s.evt 0 ITA_EVT_join_refused) else s) s) := rfl

theorem exec_joinLoad (k : Nat) (s : State) : exec (.joinLoad k) s =
    (runTime (State.joinTime k) (joinLoad k) s) := rfl

theorem exec_routeAdd (p : Fin 8) (id : BitVec 14) (s : State) : exec (.routeAdd p id) s =
    (run (fun s => if s.portSends p.val ∧ s.portRole p.val = 1 then
        sendUp (.routeAdd id) (setRoute id.toNat (some p.val) s) else s) s) := rfl

theorem exec_routeDel (p : Fin 8) (id : BitVec 14) (s : State) : exec (.routeDel p id) s =
    (run (fun s => if s.portSends p.val ∧ s.portRole p.val = 1 then
        sendUp (.routeDel id) (if s.routeEntry id.toNat = some p.val then setRoute id.toNat none s else s) else s) s) := rfl

theorem exec_report (p : Fin 8) (r : Word) (s : State) : exec (.report p r) s =
    (run (fun s => if s.portSends p.val ∧ s.portRole p.val = 1 then
        worstUpdate (s.setPort p.val { s.port p.val with repR := r.toNat }) else s) s) := rfl

theorem exec_reportSend (s : State) : exec .reportSend s =
    (run (fun s => sendUp (.report (BitVec.ofNat 32 s.subtreeR)) s) s) := rfl

theorem exec_eventFrame (p : Fin 8) (m : EvMsg) (s : State) : exec (.eventFrame p m) s =
    (run (fun s => if s.portState p.val = 4 ∧ s.portRole p.val ≤ 1 then
        eventLookup m (eventForward p.val m (freeBuffer p.val 1 s)) else s) s) := rfl

theorem exec_itaEvsend (v : Word) (drained : Nat) (s : State) : exec (.itaEvsend v drained) s =
    (run (evSend v drained) s) := rfl

theorem exec_evtSend (r : Fin 192) (num : BitVec 14) (arg : Word) (be cluster : Bool) (drained : Nat) (s : State) : exec (.evtSend r num arg be cluster drained) s =
    (run (fun s => if s.regionState (regionDie r.val) (regionLocal r.val) = 5 then localEvent num arg be cluster 0 drained s else s) s) := rfl

theorem exec_itaHevPop (peek : Bool) (s : State) : exec (.itaHevPop peek) s =
    (run (fun s => let (s, w) := hevPop peek s; s.emit (.value w)) s) := rfl

theorem exec_remoteMemoryRequest (p : Fin 8) (m : MemFrame) (s : State) : exec (.remoteMemoryRequest p m) s =
    (run (remoteRequest p.val m) s) := rfl

theorem exec_remoteMemoryResponse (p : Fin 8) (m : MemFrame) (s : State) : exec (.remoteMemoryResponse p m) s =
    (run (remoteResponse p.val m) s) := rfl

theorem exec_commandFrame (p : Fin 8) (f : CmdFrame) (s : State) : exec (.commandFrame p f) s =
    (run (commandFrame p.val f) s) := rfl

theorem exec_cmdHsubmit (i : Init) (v : Word) (s : State) : exec (.cmdHsubmit i v) s =
    (run (hsubmit i v) s) := rfl

theorem exec_commandCheck (s : State) : exec .commandCheck s =
    (run commandCheck s) := rfl

theorem exec_counterCheckpointDone (s : State) : exec .counterCheckpointDone s =
    (run (fun s => if s.live 0 then checkpointDone s else s) s) := rfl

theorem exec_fuseBurnDone (ok : Bool) (s : State) : exec (.fuseBurnDone ok) s =
    (runFuse (State.burnt ok) (burnDone ok) s) := rfl

theorem exec_loadPersonality (src : Fin 4) (addr : BitVec 48) (digest : BitVec 384) (s : State) : exec (.loadPersonality src addr digest) s =
    (run (fun s => if s.live 0 then (loadCommand 5 src.val addr.toNat digest s).1 else s) s) := rfl

theorem exec_loadRegion (src : Fin 4) (addr : BitVec 48) (digest : BitVec 384) (s : State) : exec (.loadRegion src addr digest) s =
    (run (fun s => if s.live 0 ∧ 2 ≤ src.val then (loadCommand 6 src.val addr.toNat digest s).1 else s) s) := rfl

theorem exec_setLifecycle (target : Fin 5) (s : State) : exec (.setLifecycle target) s =
    (run (fun s => if s.live 0 && s.cmd.ended.isNone then setLifecycle target.val s else s) s) := rfl

theorem exec_rekey (cmd bc : BitVec 128) (s : State) : exec (.rekey cmd bc) s =
    (run (fun s => if s.live 0 && s.cmd.burn.isNone && decide (s.fuses.rows.length < 8) then rekey cmd bc s else s) s) := rfl

theorem exec_keyLoad (slot : Fin 64) (clear : Bool) (key : KeySlot) (s : State) : exec (.keyLoad slot clear key) s =
    (run (fun s => if s.live 0 ∧ slot.val ≠ 0 then (keyLoad slot.val clear key s).1 else s) s) := rfl

theorem exec_dieReset (d : Die) (s : State) : exec (.dieReset d) s =
    (run (dieResetCommit d.val) s) := rfl

theorem exec_dieResetRelease (d : Die) (s : State) : exec (.dieResetRelease d) s =
    (run (dieRelease d.val) s) := rfl

theorem exec_bistEnter (mask : BitVec 16) (set last : Byte) (s : State) : exec (.bistEnter mask set last) s =
    (run (fun s => if s.iosUp then (bistEnter mask.toNat set.toNat last.toNat s).1 else s) s) := rfl

theorem exec_spareCommit (b : BitVec 128) (s : State) : exec (.spareCommit b) s =
    (run (fun s => (spareCommit b s).1) s) := rfl

theorem exec_pprCommit (c : Fin 8) (row : PprRow) (s : State) : exec (.pprCommit c row) s =
    (run (fun s => if s.live 0 then (pprCommit c.val row s).1 else s) s) := rfl

theorem exec_eraseJournal (s : State) : exec .eraseJournal s =
    (run (fun s => if s.live 0 then (eraseCommit s).1 else s) s) := rfl

theorem exec_debugUnlock (skipper hold : Bool) (expiry : BitVec 64) (s : State) : exec (.debugUnlock skipper hold expiry) s =
    (run (fun s => if s.live 0 then setGrants skipper hold expiry.toNat s else s) s) := rfl

theorem exec_setTimeRoot (root : Bool) (s : State) : exec (.setTimeRoot root) s =
    (run (fun s => if s.live 0 then setTimeRoot root s else s) s) := rfl

theorem exec_provisionDataWrite (i : Init) (v : Word) (s : State) : exec (.provisionDataWrite i v) s =
    (run (provData i v) s) := rfl

theorem exec_provisionBurn (i : Init) (s : State) : exec (.provisionBurn i) s =
    (run (provBurn i) s) := rfl

theorem exec_ddrRetrain (i : Init) (c : Fin 8) (s : State) : exec (.ddrRetrain i c) s =
    (run (ddrRetrain i c.val) s) := rfl

theorem exec_ddrTrainingDone (c : Fin 8) (spd : Option Spd) (ok : Bool) (s : State) : exec (.ddrTrainingDone c spd ok) s =
    (run (trainingDone c.val spd ok) s) := rfl

theorem exec_ddrAlert (c : Fin 8) (s : State) : exec (.ddrAlert c) s =
    (run (ddrAlert c.val) s) := rfl

theorem exec_ddrRequest (c : Fin 8) (h : Hdr) (lines : List Line) (x : DramIn) (s : State) : exec (.ddrRequest c h lines x) s =
    (run (dramServe c.val h lines x) s) := rfl

theorem exec_refreshPoint (s : State) : exec .refreshPoint s =
    (run refreshPoint s) := rfl

theorem exec_dimmTempRead (c : Fin 8) (t0 t1 : Option Byte) (s : State) : exec (.dimmTempRead c t0 t1) s =
    (run (dimmTemp c.val t0 t1) s) := rfl

theorem exec_ddrSetCommit (i : Init) (s : State) : exec (.ddrSetCommit i) s =
    (run (setCommit i) s) := rfl

theorem exec_ddrRecPop (c : Fin 8) (peek : Bool) (s : State) : exec (.ddrRecPop c peek) s =
    (run (fun s => let (s, w) := ddrPop c.val peek s; s.emit (.value w)) s) := rfl

theorem exec_pprRepairDone (c : Fin 8) (ok left : Bool) (s : State) : exec (.pprRepairDone c ok left) s =
    (run (pprDone c.val ok left) s) := rfl

theorem exec_miuRangeEnable (i : Init) (r : Fin 16) (s : State) : exec (.miuRangeEnable i r) s =
    (run (miuEnable i r.val) s) := rfl

theorem exec_miuRangeDisable (i : Init) (r : Fin 16) (s : State) : exec (.miuRangeDisable i r) s =
    (run (miuDisable i r.val) s) := rfl

theorem exec_miuSweepDone (s : State) : exec .miuSweepDone s =
    (run miuSweepDone s) := rfl

theorem exec_miuRequest (c : Fin 8) (h : Hdr) (lines : List Line) (x : DramIn) (s : State) : exec (.miuRequest c h lines x) s =
    (run (fun s => if s.live (chanDie c.val) && decide (s.ddrState c.val = 2) then miuTake c.val h lines x s else s) s) := rfl

theorem exec_miuMetadataFetchDone (c : Fin 8) (r : Fin 16) (level : Fin 15) (idx : Nat) (got : Option (Option (BitVec 512)))
    (evict : List (Fin 16 × Nat)) (s : State) : exec (.miuMetadataFetchDone c r level idx got evict) s =
    (run (fetchDone c.val r.val level.val idx got (evict.map (fun e => (c.val * 16 + e.1.val) * 2 ^ 32 + e.2))) s) := rfl

theorem exec_miuRecPop (d : IoDie) (peek : Bool) (s : State) : exec (.miuRecPop d peek) s =
    (run (fun s => let (s, w) := miuPop d.val peek s; s.emit (.value w)) s) := rfl

theorem exec_recordPortWord (e : IoDie) (p : Fin 16) (data : BitVec 256) (sb : BitVec 16) (last : Bool) (s : State) : exec (.recordPortWord e p data sb last) s =
    (run (portWord e.val p.val data sb.toNat last) s) := rfl

theorem exec_recordWriteAnswer (e : IoDie) (p : Fin 16) (status : Byte) (s : State) : exec (.recordWriteAnswer e p status) s =
    (run (recAnswer e.val p.val status.toNat) s) := rfl

theorem exec_recordSegBind (i : Init) (e : IoDie) (p : Fin 16) (seg : BitVec 16) (s : State) : exec (.recordSegBind i e p seg) s =
    (run (recSeg i e.val p.val seg.toNat true) s) := rfl

theorem exec_recordSegUnbind (i : Init) (e : IoDie) (p : Fin 16) (seg : BitVec 16) (s : State) : exec (.recordSegUnbind i e p seg) s =
    (run (recSeg i e.val p.val seg.toNat false) s) := rfl

theorem exec_dirDefine (i : Init) (s : State) : exec (.dirDefine i) s =
    (run (dirOp i dirDefine) s) := rfl

theorem exec_dirRelease (i : Init) (s : State) : exec (.dirRelease i) s =
    (run (dirOp i dirRelease) s) := rfl

theorem exec_dirEmpty (i : Init) (s : State) : exec (.dirEmpty i) s =
    (run (dirOp i dirEmpty) s) := rfl

theorem exec_pwrfail (s : State) : exec .pwrfail s =
    (run pwrFail s) := rfl

theorem exec_powerFailFlushDone (inTime : Bool) (s : State) : exec (.powerFailFlushDone inTime) s =
    (run (flushDone inTime) s) := rfl

theorem exec_queryGo (e : IoDie) (slot : Fin 64) (key : Fin 64) (s : State) : exec (.queryGo e slot key) s =
    (run (queryGo e.val slot.val key.val) s) := rfl

theorem exec_queryCancel (e : IoDie) (slot : Fin 64) (units : Nat) (s : State) : exec (.queryCancel e slot units) s =
    (run (queryCancel e.val slot.val units) s) := rfl

theorem exec_queryClear (e : IoDie) (slot : Fin 64) (s : State) : exec (.queryClear e slot) s =
    (run (queryClear e.val slot.val) s) := rfl

theorem exec_queryDone (e : IoDie) (slot : Fin 64) (wrStatus : Byte) (rdFail : Option (Nat × Byte)) (s : State) : exec (.queryDone e slot wrStatus rdFail) s =
    (run (queryDone e.val slot.val wrStatus.toNat (rdFail.map (fun x => (x.1, x.2.toNat)))) s) := rfl

theorem exec_stagingPush (i : Init) (half : Bool) (len : Nat) (freed0 freed1 : Bool) (s : State) : exec (.stagingPush i half len freed0 freed1) s =
    (run (stagingPush i half len freed0 freed1) s) := rfl

theorem exec_stagingAbort (i : Init) (s : State) : exec (.stagingAbort i) s =
    (run (stagingAbort i) s) := rfl

theorem exec_stagingTimeout (s : State) : exec .stagingTimeout s =
    (run stagingTimeout s) := rfl

theorem exec_personalityDeadline (s : State) : exec .personalityDeadline s =
    (run personalityDeadline s) := rfl

theorem exec_nvmRead (i : Init) (flash : Bool) (s : State) : exec (.nvmRead i flash) s =
    (run (nvmStart 1 flash i) s) := rfl

theorem exec_nvmProgram (i : Init) (flash : Bool) (s : State) : exec (.nvmProgram i flash) s =
    (run (nvmStart 2 flash i) s) := rfl

theorem exec_nvmErase (i : Init) (flash : Bool) (s : State) : exec (.nvmErase i flash) s =
    (run (nvmStart 3 flash i) s) := rfl

theorem exec_nvmTransferDone (reason : Fin 6) (s : State) : exec (.nvmTransferDone reason) s =
    (run (nvmDone reason.val) s) := rfl

theorem exec_coreLoad (i : Init) (core : Fin 16) (s : State) : exec (.coreLoad i core) s =
    (run (coreLoad i core.val) s) := rfl

theorem exec_coreLoadDone (stored : Option (List Byte)) (s : State) : exec (.coreLoadDone stored) s =
    (run (coreLoadDone stored) s) := rfl

theorem exec_coreCtrlReset (i : Init) (c : Core) (v : Bool) (s : State) : exec (.coreCtrlReset i c v) s =
    (run (coreCtrl i c.val v) s) := rfl

theorem exec_watchdogStart (c : Core) (v : Word) (s : State) : exec (.watchdogStart c v) s =
    (run (wdogWrite c.val v) s) := rfl

theorem exec_watchdogKick (c : Core) (v : Word) (s : State) : exec (.watchdogKick c v) s =
    (run (wdogKick c.val v) s) := rfl

theorem exec_watchdogExpiry (c : Core) (s : State) : exec (.watchdogExpiry c) s =
    (run (wdogExpire c.val) s) := rfl

theorem exec_heartbeatKick (i : Init) (s : State) : exec (.heartbeatKick i) s =
    (run (heartbeatKick i) s) := rfl

theorem exec_lockstepMismatch (s : State) : exec .lockstepMismatch s =
    (run lockstep s) := rfl

theorem exec_mailboxPush (c : Core) (w : Word) (i : Init) (dbg : Bool) (s : State) : exec (.mailboxPush c w i dbg) s =
    (run (mailWrite c.val w i dbg) s) := rfl

theorem exec_mailboxPop (c : Core) (peek : Bool) (s : State) : exec (.mailboxPop c peek) s =
    (run (fun s => if s.live (coreDie c.val) then let (t, w) := mailPop c.val peek s; t.emit (.value w) else s) s) := rfl

theorem exec_coreBusAccess (c : Core) (op : CoreOp) (addr : Word) (err : SramErr) (pins : BitVec 64) (s : State) : exec (.coreBusAccess c op addr err pins) s =
    (run (coreBus c.val op addr err pins) s) := rfl

theorem exec_portAccess (c : Core) (reg : Fin 16) (write : Option Word) (pins : BitVec 64) (s : State) : exec (.portAccess c reg write pins) s =
    (run (portAccess c.val reg.val write pins) s) := rfl

theorem exec_errorReport (d : Die) (src : Fin 16) (c : ErrClass) (region : Fin 32) (detail : BitVec 16) (s : State) : exec (.errorReport d src c region detail) s =
    (run (errReport d.val src.val c region.val detail.toNat) s) := rfl

theorem exec_errLogPop (d : Die) (peek : Bool) (s : State) : exec (.errLogPop d peek) s =
    (run (fun s => let (s, w) := errLogPop d.val peek s; s.emit (.value w)) s) := rfl

theorem exec_errFailRegion (i : Init) (d : FabDie) (r : Fin 32) (s : State) : exec (.errFailRegion i d r) s =
    (run (errFail i (d.val + 2) r.val) s) := rfl

theorem exec_scrubBackgroundRead (d : FabDie) (e : FrameErr) (s : State) : exec (.scrubBackgroundRead d e) s =
    (run (fun s => if s.live (d.val + 2) then scrubOne (d.val + 2) (fun _ => e) s else s) s) := rfl

theorem exec_agingMeasure (l : List (Die × Fin 24 × BitVec 16)) (s : State) : exec (.agingMeasure l) s =
    (run (fun s => s.each l (fun s e => agingOne e.1.val e.2.1.val e.2.2.toNat s)) s) := rfl

theorem exec_wearMapWriteDone (first second : Bool) (s : State) : exec (.wearMapWriteDone first second) s =
    (run (wearDone first second) s) := rfl

theorem exec_fabricPllUnlock (d : FabDie) (k : Fin 8) (s : State) : exec (.fabricPllUnlock d k) s =
    (run (pllUnlock (d.val + 2) k.val) s) := rfl

theorem exec_fabricPllRelock (d : FabDie) (k : Fin 8) (s : State) : exec (.fabricPllRelock d k) s =
    (run (pllRelocks (d.val + 2) k.val) s) := rfl

theorem exec_freqMeterStart (m : Fin 16) (v : Word) (s : State) : exec (.freqMeterStart m v) s =
    (run (meterStart m.val v) s) := rfl

theorem exec_freqMeterDone (m : Fin 16) (count : Nat) (s : State) : exec (.freqMeterDone m count) s =
    (run (meterDone m.val count) s) := rfl

theorem exec_clockGateRequest (i : Init) (d : Die) (b : Fin 30) (s : State) : exec (.clockGateRequest i d b) s =
    (run (gateRequest i d.val b.val) s) := rfl

theorem exec_clockGateOpen (i : Init) (d : Die) (b : Fin 30) (s : State) : exec (.clockGateOpen i d b) s =
    (run (gateOpen i d.val b.val) s) := rfl

theorem exec_clockGateIdleAck (d : Die) (b : Fin 30) (s : State) : exec (.clockGateIdleAck d b) s =
    (run (gateAck d.val b.val) s) := rfl

theorem exec_clockGateTimeout (d : Die) (b : Fin 30) (s : State) : exec (.clockGateTimeout d b) s =
    (run (gateTimeout d.val b.val) s) := rfl

theorem exec_railSample (d : Die) (bad : Byte) (low : Bool) (levels : BitVec 4) (s : State) : exec (.railSample d bad low levels) s =
    (run (railSample d.val bad.toNat low levels.toNat) s) := rfl

theorem exec_coreRailRecover (d : Die) (s : State) : exec (.coreRailRecover d) s =
    (run (railRecover d.val) s) := rfl

theorem exec_throttleWindowEnd (amps : List (BitVec 12)) (mw : List Nat) (s : State) : exec (.throttleWindowEnd amps mw) s =
    (run (throttleWindow (amps.map (·.toNat)) mw) s) := rfl

theorem exec_thermalSample (d : Die) (t0 : BitVec 12) (t1 : BitVec 12) (t2 : BitVec 12) (t3 : BitVec 12) (s : State) : exec (.thermalSample d t0 t1 t2 t3) s =
    (run (thermalSample d.val [t0.toInt, t1.toInt, t2.toInt, t3.toInt]) s) := rfl

theorem exec_gpioFuncWrite (i : Init) (d : IoDie) (j : Fin 64) (v : Word) (s : State) : exec (.gpioFuncWrite i d j v) s =
    (run (gpioFuncWrite i d.val j.val v) s) := rfl

theorem exec_gpioSwitchEnd (d : IoDie) (j : Fin 64) (s : State) : exec (.gpioSwitchEnd d j) s =
    (run (fun s => if j.val < pinCount d.val then s.setF d.val (GPIO_P_CFG_switching j.val) 0 else s) s) := rfl

theorem exec_adcConversion (d : IoDie) (j : Fin 64) (steps : Nat) (s : State) : exec (.adcConversion d j steps) s =
    (run (adcConversion d.val j.val steps) s) := rfl

theorem exec_timerCapture (d : IoDie) (t : Fin 8) (rising : Bool) (count : Nat) (s : State) : exec (.timerCapture d t rising count) s =
    (run (timerCapture d.val t.val rising count) s) := rfl

theorem exec_triggerOwnWrite (i : Init) (l : Fin 8) (v : Word) (s : State) : exec (.triggerOwnWrite i l v) s =
    (run (trigOwnWrite i l.val v) s) := rfl

theorem exec_triggerDriveWrite (i : Init) (l : Fin 8) (v : Word) (s : State) : exec (.triggerDriveWrite i l v) s =
    (run (trigDriveWrite i l.val v) s) := rfl

theorem exec_triggerEdge (l : Fin 8) (stamp : BitVec 72) (ext : Byte) (drained : Nat) (s : State) : exec (.triggerEdge l stamp ext drained) s =
    (run (triggerEdge l.val stamp.toNat ext drained) s) := rfl

theorem exec_triggerPulseEnd (l : Fin 8) (s : State) : exec (.triggerPulseEnd l) s =
    (run (fun s => if s.gpio.active.contains l.val then
        trigOut l.val { s with gpio := { s.gpio with active := s.gpio.active.erase l.val } } else s) s) := rfl

theorem exec_dbgClaim (path : DbgPath) (s : State) : exec (.dbgClaim path) s =
    (run (dbgClaim path.code) s) := rfl

theorem exec_dbgRelease (path : DbgPath) (s : State) : exec (.dbgRelease path) s =
    (run (dbgRelease path.code) s) := rfl

theorem exec_dbgBmRead (path : DbgPath) (consume : Bool) (env : CtlEnv) (s : State) : exec (.dbgBmRead path consume env) s =
    (run (dbgOwned path.code (bmStart false consume env)) s) := rfl

theorem exec_dbgBmWrite (path : DbgPath) (env : CtlEnv) (s : State) : exec (.dbgBmWrite path env) s =
    (run (dbgOwned path.code (bmStart true false env)) s) := rfl

theorem exec_dbgBmDone (s : State) : exec .dbgBmDone s =
    (run bmDone s) := rfl

theorem exec_jtagDbgpathUpdate (dr : BitVec 48) (env : CtlEnv) (s : State) : exec (.jtagDbgpathUpdate dr env) s =
    (run (fun s => if s.pwr.railsGood then
        jtagUpdate (nbits dr.toNat 0 6) (dr.getLsbD 6) (BitVec.ofNat 32 (nbits dr.toNat 7 32)) env s else s) s) := rfl

theorem exec_coreHalt (i : Init) (c : Core) (dpc : Word) (s : State) : exec (.coreHalt i c dpc) s =
    (run (fun s => if s.live (coreDie c.val) then dbgRight i c.val (haltCore c.val dpc) s else s) s) := rfl

theorem exec_coreResume (i : Init) (c : Core) (s : State) : exec (.coreResume i c) s =
    (run (fun s => if s.live (coreDie c.val) then
        dbgRight i c.val (fun s => if s.coreHalted c.val then resumeCore c.val s else s) s else s) s) := rfl

theorem exec_coreStep (i : Init) (c : Core) (out : FeedOut) (dpc : Word) (s : State) : exec (.coreStep i c out dpc) s =
    (run (fun s => if s.live (coreDie c.val) then dbgRight i c.val (stepCore c.val out dpc) s else s) s) := rfl

theorem exec_coreIfeed (i : Init) (c : Core) (w : Word) (out : FeedOut) (s : State) : exec (.coreIfeed i c w out) s =
    (run (fun s => if s.live (coreDie c.val) then dbgRight i c.val (feedCore c.val w out) s else s) s) := rfl

theorem exec_coreEbreakHalt (c : Core) (dpc : Word) (s : State) : exec (.coreEbreakHalt c dpc) s =
    (run (ebreakHalt c.val dpc) s) := rfl

theorem exec_dtxWrite (c : Core) (w : Word) (s : State) : exec (.dtxWrite c w) s =
    (run (dtxWrite c.val w) s) := rfl

theorem exec_drxRead (c : Core) (s : State) : exec (.drxRead c) s =
    (run (drxRead c.val) s) := rfl

theorem exec_drxDebuggerWrite (i : Init) (c : Core) (w : Word) (s : State) : exec (.drxDebuggerWrite i c w) s =
    (run (fun s => if s.live (coreDie c.val) then dbgOnly i (drxWrite c.val w) s else s) s) := rfl

theorem exec_dtxAck (i : Init) (c : Core) (v : Word) (s : State) : exec (.dtxAck i c v) s =
    (run (fun s => if s.live (coreDie c.val) then dbgOnly i (termAck c.val v 0) s else s) s) := rfl

theorem exec_mdataAccess (i : Init) (c : Core) (write : Option Word) (err : SramErr) (s : State) : exec (.mdataAccess i c write err) s =
    (run (fun s =>
        if !s.live (coreDie c.val) then s
        else match write with
          | some w => dbgOnly i (mdataWrite c.val w) s
          | none => let (s, w) := mdataRead c.val err s; s.emit (.value w)) s) := rfl

theorem exec_bistStart (i : Init) (s : State) : exec (.bistStart i) s =
    (run (bistStart i) s) := rfl

theorem exec_bistAbort (s : State) : exec .bistAbort s =
    (run bistAbort s) := rfl

theorem exec_bistDieStart (d : Die) (s : State) : exec (.bistDieStart d) s =
    (run (bistDieStart d.val) s) := rfl

theorem exec_bistDieDone (d : Die) (r : BistOut) (s : State) : exec (.bistDieDone d r) s =
    (run (bistDieDone d.val r) s) := rfl

theorem exec_perstRelease (after : Fin 160000001) (s : State) : exec (.perstRelease after) s =
    (run (perstRelease after.val) s) := rfl

theorem exec_ucieLinkTrained (ok : Bool) (rate : Fin 8) (s : State) : exec (.ucieLinkTrained ok rate) s =
    (run (ucieTrained ok rate.val) s) := rfl

theorem exec_lanePllLocked (d : IoDie) (q : Fin 21) (b : Bool) (s : State) : exec (.lanePllLocked d q b) s =
    (run (pllLocked d.val q.val b) s) := rfl

theorem exec_lanePllLockLost (d : IoDie) (q : Fin 21) (b : Bool) (s : State) : exec (.lanePllLockLost d q b) s =
    (run (pllLost d.val q.val b) s) := rfl

theorem exec_corugMarginLow (d : Die) (m : Fin 32) (wire : Fin 66) (margin : Fin 64) (s : State) : exec (.corugMarginLow d m wire margin) s =
    (run (marginLow d.val m.val wire.val margin.val) s) := rfl

theorem exec_corugSwapDone (d : Die) (m : Fin 32) (s : State) : exec (.corugSwapDone d m) s =
    (run (swapDone d.val m.val) s) := rfl

theorem exec_dirMirrorRebuildDone (s : State) : exec .dirMirrorRebuildDone s =
    (run mirrorDone s) := rfl

theorem exec_machineTimerInterrupt (c : Core) (s : State) : exec (.machineTimerInterrupt c) s =
    (run (timerInterrupt c.val) s) := rfl

theorem exec_triggerPulseStart (l : Fin 8) (s : State) : exec (.triggerPulseStart l) s =
    (run (triggerPulseStart l.val) s) := rfl

theorem exec_timerPulseEnd (d : IoDie) (t : Fin 8) (s : State) : exec (.timerPulseEnd d t) s =
    (run (fun s => if KMap.look s.gpio.timerOn (d.val * 8 + t.val) then setTimer d.val t.val false s else s) s) := rfl

end Sys2Proof.Machine
end

