-- ==== Sys2Proof/Laws/KMap.lean ====
section
/-! SUPPORT. The laws of the sparse tables: a read after a write, every other key left alone, and the canonical form kept. -/

namespace Sys2Proof

/-- The default that an unlisted key reads as does not depend on what is deleted elsewhere. -/
theorem KMap.lookD_del_ne {α : Type} (m : KMap α) (k j : Nat) (d : α) (h : j ≠ k) :
    KMap.lookD (KMap.del m k) j d = KMap.lookD m j d := by
  induction m with
  | nil => rfl
  | cons e t ih =>
    obtain ⟨a, v⟩ := e
    by_cases ha : a = k
    · subst ha
      have : ¬ a = j := fun hh => h hh.symm
      simp [KMap.del, KMap.lookD, ih, this]
    · simp [KMap.del, KMap.lookD, ha, ih]

/-- A deleted key reads as the default. -/
theorem KMap.lookD_del_same {α : Type} (m : KMap α) (k : Nat) (d : α) : KMap.lookD (KMap.del m k) k d = d := by
  induction m with
  | nil => rfl
  | cons e t ih =>
    obtain ⟨a, v⟩ := e
    by_cases ha : a = k
    · simp [KMap.del, ha, ih]
    · simp [KMap.del, KMap.lookD, ha, ih]

/-- A value put in reads back where the key was not listed before. -/
theorem KMap.lookD_ins_same {α : Type} (m : KMap α) (k : Nat) (v d : α) (h : ∀ e ∈ m, e.1 ≠ k) :
    KMap.lookD (KMap.ins m k v) k d = v := by
  induction m with
  | nil => simp [KMap.ins, KMap.lookD]
  | cons e t ih =>
    obtain ⟨a, w⟩ := e
    have ha : a ≠ k := h (a, w) (by simp)
    have ht : ∀ e ∈ t, e.1 ≠ k := fun e he => h e (by simp [he])
    by_cases hk : k < a
    · simp [KMap.ins, KMap.lookD, hk]
    · simp [KMap.ins, KMap.lookD, hk, ha, ih ht]

/-- Every other key reads as before. -/
theorem KMap.lookD_ins_ne {α : Type} (m : KMap α) (k j : Nat) (v d : α) (h : j ≠ k) :
    KMap.lookD (KMap.ins m k v) j d = KMap.lookD m j d := by
  have hk : ¬ k = j := fun hh => h hh.symm
  induction m with
  | nil => simp [KMap.ins, KMap.lookD, hk]
  | cons e t ih =>
    obtain ⟨a, w⟩ := e
    by_cases ha : k < a
    · simp [KMap.ins, KMap.lookD, ha, hk]
    · simp [KMap.ins, KMap.lookD, ha, ih]

/-- A deleted key is not listed. -/
theorem KMap.del_not_mem {α : Type} (m : KMap α) (k : Nat) : ∀ e ∈ KMap.del m k, e.1 ≠ k := by
  induction m with
  | nil => simp [KMap.del]
  | cons e t ih =>
    obtain ⟨a, v⟩ := e
    by_cases ha : a = k
    · simpa [KMap.del, ha] using ih
    · intro x hx
      simp [KMap.del, ha] at hx
      rcases hx with hx | hx
      · simp [hx, ha]
      · exact ih x hx

/-- A read after a write gives the value written. -/
@[simp] theorem KMap.lookD_putD_same {α : Type} [DecidableEq α] (m : KMap α) (k : Nat) (v d : α) :
    KMap.lookD (KMap.putD m k v d) k d = v := by
  unfold KMap.putD
  split
  · next h => rw [KMap.lookD_del_same, h]
  · exact KMap.lookD_ins_same _ _ _ _ (KMap.del_not_mem m k)

/-- A write leaves every other key alone. -/
theorem KMap.lookD_putD_ne {α : Type} [DecidableEq α] (m : KMap α) (k j : Nat) (v d d' : α) (h : j ≠ k) :
    KMap.lookD (KMap.putD m k v d) j d' = KMap.lookD m j d' := by
  unfold KMap.putD
  split
  · exact KMap.lookD_del_ne m k j d' h
  · rw [KMap.lookD_ins_ne _ _ _ _ _ h, KMap.lookD_del_ne m k j d' h]

/-- A read after a write gives the value written, with the type's own default. -/
@[simp] theorem KMap.look_put_same {α : Type} [Inhabited α] [DecidableEq α] (m : KMap α) (k : Nat) (v : α) :
    KMap.look (KMap.put m k v) k = v := KMap.lookD_putD_same m k v default

/-- A write leaves every other key alone, with the type's own default. -/
theorem KMap.look_put_ne {α : Type} [Inhabited α] [DecidableEq α] (m : KMap α) (k j : Nat) (v : α) (h : j ≠ k) :
    KMap.look (KMap.put m k v) j = KMap.look m j := KMap.lookD_putD_ne m k j v default default h

/-- An empty table reads as its default everywhere. -/
@[simp] theorem KMap.look_nil {α : Type} [Inhabited α] (k : Nat) : KMap.look ([] : KMap α) k = default := rfl

/-- An empty table reads as the default everywhere. -/
@[simp] theorem KMap.lookD_nil {α : Type} (k : Nat) (d : α) : KMap.lookD ([] : KMap α) k d = d := rfl

/-! ### The canonical form -/

/-- Whether the keys of a table lie above k. -/
theorem KMap.sorted_cons {α : Type} (k : Nat) (v : α) (m : KMap α) :
    KMap.sorted ((k, v) :: m) = true ↔ (∀ e ∈ m, k < e.1) ∧ KMap.sorted m = true := by
  induction m generalizing k v with
  | nil => simp [KMap.sorted]
  | cons e t ih =>
    obtain ⟨a, w⟩ := e
    constructor
    · intro h
      have h1 : k < a ∧ KMap.sorted ((a, w) :: t) = true := by simpa [KMap.sorted] using h
      have h2 := (ih a w).mp h1.2
      refine ⟨?_, h1.2⟩
      intro x hx
      rcases List.mem_cons.mp hx with hx | hx
      · rw [hx]; exact h1.1
      · exact Nat.lt_trans h1.1 (h2.1 x hx)
    · intro h
      have h1 : k < a := h.1 (a, w) (by simp)
      have h2 := h.2
      have : KMap.sorted ((k, v) :: (a, w) :: t) = (decide (k < a) && KMap.sorted ((a, w) :: t)) := rfl
      rw [this, h2]
      simpa using h1

/-- Deleting a key keeps the rising order, and every key that stays was there. -/
theorem KMap.del_mem {α : Type} (m : KMap α) (k : Nat) : ∀ e ∈ KMap.del m k, e ∈ m := by
  induction m with
  | nil => simp [KMap.del]
  | cons e t ih =>
    obtain ⟨a, v⟩ := e
    intro x hx
    by_cases ha : a = k
    · simp [KMap.del, ha] at hx
      exact List.mem_cons_of_mem _ (ih x hx)
    · simp [KMap.del, ha] at hx
      rcases hx with hx | hx
      · simp [hx]
      · exact List.mem_cons_of_mem _ (ih x hx)

/-- Deleting a key keeps the rising order. -/
theorem KMap.sorted_del {α : Type} (m : KMap α) (k : Nat) (h : KMap.sorted m = true) : KMap.sorted (KMap.del m k) = true := by
  induction m with
  | nil => rfl
  | cons e t ih =>
    obtain ⟨a, v⟩ := e
    have h' := (KMap.sorted_cons a v t).mp h
    by_cases ha : a = k
    · simpa [KMap.del, ha] using ih h'.2
    · have : KMap.del ((a, v) :: t) k = (a, v) :: KMap.del t k := by simp [KMap.del, ha]
      rw [this, KMap.sorted_cons]
      exact ⟨fun x hx => h'.1 x (KMap.del_mem t k x hx), ih h'.2⟩

/-- What is listed after putting a key in. -/
theorem KMap.ins_mem {α : Type} (m : KMap α) (k : Nat) (v : α) : ∀ e ∈ KMap.ins m k v, e = (k, v) ∨ e ∈ m := by
  induction m with
  | nil => simp [KMap.ins]
  | cons e t ih =>
    obtain ⟨a, w⟩ := e
    intro x hx
    by_cases hk : k < a
    · simpa [KMap.ins, hk] using hx
    · simp [KMap.ins, hk] at hx
      rcases hx with hx | hx
      · simp [hx]
      · rcases ih x hx with h | h
        · exact Or.inl h
        · exact Or.inr (List.mem_cons_of_mem _ h)

/-- Putting in a key that is not listed keeps the rising order. -/
theorem KMap.sorted_ins {α : Type} (m : KMap α) (k : Nat) (v : α) (h : KMap.sorted m = true) (hk : ∀ e ∈ m, e.1 ≠ k) :
    KMap.sorted (KMap.ins m k v) = true := by
  induction m with
  | nil => rfl
  | cons e t ih =>
    obtain ⟨a, w⟩ := e
    have h' := (KMap.sorted_cons a w t).mp h
    have hak : a ≠ k := hk (a, w) (by simp)
    by_cases hlt : k < a
    · have : KMap.ins ((a, w) :: t) k v = (k, v) :: (a, w) :: t := by simp [KMap.ins, hlt]
      rw [this, KMap.sorted_cons]
      refine ⟨?_, h⟩
      intro x hx
      rcases List.mem_cons.mp hx with hx | hx
      · rw [hx]; exact hlt
      · exact Nat.lt_trans hlt (h'.1 x hx)
    · have : KMap.ins ((a, w) :: t) k v = (a, w) :: KMap.ins t k v := by simp [KMap.ins, hlt]
      rw [this, KMap.sorted_cons]
      refine ⟨?_, ih h'.2 (fun e he => hk e (by simp [he]))⟩
      intro x hx
      rcases KMap.ins_mem t k v x hx with hx | hx
      · rw [hx]; show a < k; omega
      · exact h'.1 x hx

/-- Every write keeps the canonical form. -/
theorem KMap.wfD_putD {α : Type} [DecidableEq α] (m : KMap α) (k : Nat) (v : α) (d : Nat → α) (h : KMap.wfD m d = true) :
    KMap.wfD (KMap.putD m k v (d k)) d = true := by
  simp only [KMap.wfD, Bool.and_eq_true, List.all_eq_true, decide_eq_true_eq] at h ⊢
  have hs := KMap.sorted_del m k h.1
  have hd : ∀ e ∈ KMap.del m k, e.2 ≠ d e.1 := fun e he => h.2 e (KMap.del_mem m k e he)
  unfold KMap.putD
  split
  · exact ⟨hs, hd⟩
  · next hv =>
    refine ⟨KMap.sorted_ins _ _ _ hs (KMap.del_not_mem m k), ?_⟩
    intro e he
    rcases KMap.ins_mem _ _ _ e he with he | he
    · rw [he]; exact hv
    · exact hd e he

/-- Every write keeps the canonical form, with the type's own default. -/
theorem KMap.wf_put {α : Type} [Inhabited α] [DecidableEq α] (m : KMap α) (k : Nat) (v : α)
    (h : KMap.wfD m (fun _ => default) = true) : KMap.wfD (KMap.put m k v) (fun _ => default) = true :=
  KMap.wfD_putD m k v (fun _ => default) h

/-- A table keeps its rising order when entries are left out. -/
theorem KMap.sorted_filter {α : Type} (m : KMap α) (p : Nat × α → Bool) (h : KMap.sorted m = true) :
    KMap.sorted (m.filter p : KMap α) = true := by
  induction m with
  | nil => rfl
  | cons e t ih =>
    obtain ⟨a, v⟩ := e
    have h' := (KMap.sorted_cons a v t).mp h
    by_cases hp : p (a, v) = true
    · have : List.filter p ((a, v) :: t) = (a, v) :: List.filter p t := by simp [hp]
      rw [this, KMap.sorted_cons]
      exact ⟨fun x hx => h'.1 x (List.mem_filter.mp hx).1, ih h'.2⟩
    · have : List.filter p ((a, v) :: t) = List.filter p t := by simp [hp]
      rw [this]; exact ih h'.2

/-- Leaving entries out keeps the canonical form. -/
theorem KMap.wfD_filter {α : Type} [DecidableEq α] (m : KMap α) (p : Nat × α → Bool) (d : Nat → α) (h : KMap.wfD m d = true) :
    KMap.wfD (m.filter p : KMap α) d = true := by
  simp only [KMap.wfD, Bool.and_eq_true, List.all_eq_true, decide_eq_true_eq] at h ⊢
  exact ⟨KMap.sorted_filter m p h.1, fun e he => h.2 e (List.mem_filter.mp he).1⟩

/-- Dropping a range of keys keeps the canonical form. -/
theorem KMap.wfD_dropRange {α : Type} [DecidableEq α] (m : KMap α) (lo hi : Nat) (d : Nat → α) (h : KMap.wfD m d = true) :
    KMap.wfD (KMap.dropRange m lo hi) d = true := KMap.wfD_filter m _ d h

end Sys2Proof
end

