-- ==== Sys2Proof/Laws/State.lean ====
section
/-! SUPPORT. One lemma per field per update of the state: what a register store, an output and a free value leave alone. -/

namespace Sys2Proof.Machine

/-! ### wr -/

@[simp] theorem State.wr_time (s : State) (d r : Nat) (v : Word) : (s.wr d r v).time = s.time := by simp only [State.wr]
@[simp] theorem State.wr_tick (s : State) (d r : Nat) (v : Word) : (s.wr d r v).tick = s.tick := by simp only [State.wr]
@[simp] theorem State.wr_pwr (s : State) (d r : Nat) (v : Word) : (s.wr d r v).pwr = s.pwr := by simp only [State.wr]
@[simp] theorem State.wr_fab (s : State) (d r : Nat) (v : Word) : (s.wr d r v).fab = s.fab := by simp only [State.wr]
@[simp] theorem State.wr_cmb (s : State) (d r : Nat) (v : Word) : (s.wr d r v).cmb = s.cmb := by simp only [State.wr]
@[simp] theorem State.wr_mem (s : State) (d r : Nat) (v : Word) : (s.wr d r v).mem = s.mem := by simp only [State.wr]
@[simp] theorem State.wr_rtr (s : State) (d r : Nat) (v : Word) : (s.wr d r v).rtr = s.rtr := by simp only [State.wr]
@[simp] theorem State.wr_net (s : State) (d r : Nat) (v : Word) : (s.wr d r v).net = s.net := by simp only [State.wr]
@[simp] theorem State.wr_sch (s : State) (d r : Nat) (v : Word) : (s.wr d r v).sch = s.sch := by simp only [State.wr]
@[simp] theorem State.wr_probe (s : State) (d r : Nat) (v : Word) : (s.wr d r v).probe = s.probe := by simp only [State.wr]
@[simp] theorem State.wr_stats (s : State) (d r : Nat) (v : Word) : (s.wr d r v).stats = s.stats := by simp only [State.wr]
@[simp] theorem State.wr_corug (s : State) (d r : Nat) (v : Word) : (s.wr d r v).corug = s.corug := by simp only [State.wr]
@[simp] theorem State.wr_acc (s : State) (d r : Nat) (v : Word) : (s.wr d r v).acc = s.acc := by simp only [State.wr]
@[simp] theorem State.wr_lq (s : State) (d r : Nat) (v : Word) : (s.wr d r v).lq = s.lq := by simp only [State.wr]
@[simp] theorem State.wr_pcie (s : State) (d r : Nat) (v : Word) : (s.wr d r v).pcie = s.pcie := by simp only [State.wr]
@[simp] theorem State.wr_ddr (s : State) (d r : Nat) (v : Word) : (s.wr d r v).ddr = s.ddr := by simp only [State.wr]
@[simp] theorem State.wr_miu (s : State) (d r : Nat) (v : Word) : (s.wr d r v).miu = s.miu := by simp only [State.wr]
@[simp] theorem State.wr_rec_ (s : State) (d r : Nat) (v : Word) : (s.wr d r v).rec_ = s.rec_ := by simp only [State.wr]
@[simp] theorem State.wr_statusFenced (s : State) (d r : Nat) (v : Word) : (s.wr d r v).statusFenced = s.statusFenced := by simp only [State.wr]
@[simp] theorem State.wr_ita (s : State) (d r : Nat) (v : Word) : (s.wr d r v).ita = s.ita := by simp only [State.wr]
@[simp] theorem State.wr_start (s : State) (d r : Nat) (v : Word) : (s.wr d r v).start = s.start := by simp only [State.wr]
@[simp] theorem State.wr_jour (s : State) (d r : Nat) (v : Word) : (s.wr d r v).jour = s.jour := by simp only [State.wr]
@[simp] theorem State.wr_wake (s : State) (d r : Nat) (v : Word) : (s.wr d r v).wake = s.wake := by simp only [State.wr]
@[simp] theorem State.wr_cmd (s : State) (d r : Nat) (v : Word) : (s.wr d r v).cmd = s.cmd := by simp only [State.wr]
@[simp] theorem State.wr_dbg (s : State) (d r : Nat) (v : Word) : (s.wr d r v).dbg = s.dbg := by simp only [State.wr]
@[simp] theorem State.wr_hold (s : State) (d r : Nat) (v : Word) : (s.wr d r v).hold = s.hold := by simp only [State.wr]
@[simp] theorem State.wr_core (s : State) (d r : Nat) (v : Word) : (s.wr d r v).core = s.core := by simp only [State.wr]
@[simp] theorem State.wr_fuses (s : State) (d r : Nat) (v : Word) : (s.wr d r v).fuses = s.fuses := by simp only [State.wr]
@[simp] theorem State.wr_keys (s : State) (d r : Nat) (v : Word) : (s.wr d r v).keys = s.keys := by simp only [State.wr]
@[simp] theorem State.wr_err (s : State) (d r : Nat) (v : Word) : (s.wr d r v).err = s.err := by simp only [State.wr]
@[simp] theorem State.wr_nv (s : State) (d r : Nat) (v : Word) : (s.wr d r v).nv = s.nv := by simp only [State.wr]
@[simp] theorem State.wr_gpio (s : State) (d r : Nat) (v : Word) : (s.wr d r v).gpio = s.gpio := by simp only [State.wr]
@[simp] theorem State.wr_freeCtr (s : State) (d r : Nat) (v : Word) : (s.wr d r v).freeCtr = s.freeCtr := by simp only [State.wr]
@[simp] theorem State.wr_out (s : State) (d r : Nat) (v : Word) : (s.wr d r v).out = s.out := by simp only [State.wr]
@[simp] theorem State.wr_pending (s : State) (d r : Nat) (v : Word) : (s.wr d r v).pending = s.pending := by simp only [State.wr]

/-! ### setF -/

@[simp] theorem State.setF_time (s : State) (d : Nat) (x : Fld) (v : Nat) : (s.setF d x v).time = s.time := by simp only [State.setF, State.wr_time]
@[simp] theorem State.setF_tick (s : State) (d : Nat) (x : Fld) (v : Nat) : (s.setF d x v).tick = s.tick := by simp only [State.setF, State.wr_tick]
@[simp] theorem State.setF_pwr (s : State) (d : Nat) (x : Fld) (v : Nat) : (s.setF d x v).pwr = s.pwr := by simp only [State.setF, State.wr_pwr]
@[simp] theorem State.setF_fab (s : State) (d : Nat) (x : Fld) (v : Nat) : (s.setF d x v).fab = s.fab := by simp only [State.setF, State.wr_fab]
@[simp] theorem State.setF_cmb (s : State) (d : Nat) (x : Fld) (v : Nat) : (s.setF d x v).cmb = s.cmb := by simp only [State.setF, State.wr_cmb]
@[simp] theorem State.setF_mem (s : State) (d : Nat) (x : Fld) (v : Nat) : (s.setF d x v).mem = s.mem := by simp only [State.setF, State.wr_mem]
@[simp] theorem State.setF_rtr (s : State) (d : Nat) (x : Fld) (v : Nat) : (s.setF d x v).rtr = s.rtr := by simp only [State.setF, State.wr_rtr]
@[simp] theorem State.setF_net (s : State) (d : Nat) (x : Fld) (v : Nat) : (s.setF d x v).net = s.net := by simp only [State.setF, State.wr_net]
@[simp] theorem State.setF_sch (s : State) (d : Nat) (x : Fld) (v : Nat) : (s.setF d x v).sch = s.sch := by simp only [State.setF, State.wr_sch]
@[simp] theorem State.setF_probe (s : State) (d : Nat) (x : Fld) (v : Nat) : (s.setF d x v).probe = s.probe := by simp only [State.setF, State.wr_probe]
@[simp] theorem State.setF_stats (s : State) (d : Nat) (x : Fld) (v : Nat) : (s.setF d x v).stats = s.stats := by simp only [State.setF, State.wr_stats]
@[simp] theorem State.setF_corug (s : State) (d : Nat) (x : Fld) (v : Nat) : (s.setF d x v).corug = s.corug := by simp only [State.setF, State.wr_corug]
@[simp] theorem State.setF_acc (s : State) (d : Nat) (x : Fld) (v : Nat) : (s.setF d x v).acc = s.acc := by simp only [State.setF, State.wr_acc]
@[simp] theorem State.setF_lq (s : State) (d : Nat) (x : Fld) (v : Nat) : (s.setF d x v).lq = s.lq := by simp only [State.setF, State.wr_lq]
@[simp] theorem State.setF_pcie (s : State) (d : Nat) (x : Fld) (v : Nat) : (s.setF d x v).pcie = s.pcie := by simp only [State.setF, State.wr_pcie]
@[simp] theorem State.setF_ddr (s : State) (d : Nat) (x : Fld) (v : Nat) : (s.setF d x v).ddr = s.ddr := by simp only [State.setF, State.wr_ddr]
@[simp] theorem State.setF_miu (s : State) (d : Nat) (x : Fld) (v : Nat) : (s.setF d x v).miu = s.miu := by simp only [State.setF, State.wr_miu]
@[simp] theorem State.setF_rec_ (s : State) (d : Nat) (x : Fld) (v : Nat) : (s.setF d x v).rec_ = s.rec_ := by simp only [State.setF, State.wr_rec_]
@[simp] theorem State.setF_statusFenced (s : State) (d : Nat) (x : Fld) (v : Nat) : (s.setF d x v).statusFenced = s.statusFenced := by simp only [State.setF, State.wr_statusFenced]
@[simp] theorem State.setF_ita (s : State) (d : Nat) (x : Fld) (v : Nat) : (s.setF d x v).ita = s.ita := by simp only [State.setF, State.wr_ita]
@[simp] theorem State.setF_start (s : State) (d : Nat) (x : Fld) (v : Nat) : (s.setF d x v).start = s.start := by simp only [State.setF, State.wr_start]
@[simp] theorem State.setF_jour (s : State) (d : Nat) (x : Fld) (v : Nat) : (s.setF d x v).jour = s.jour := by simp only [State.setF, State.wr_jour]
@[simp] theorem State.setF_wake (s : State) (d : Nat) (x : Fld) (v : Nat) : (s.setF d x v).wake = s.wake := by simp only [State.setF, State.wr_wake]
@[simp] theorem State.setF_cmd (s : State) (d : Nat) (x : Fld) (v : Nat) : (s.setF d x v).cmd = s.cmd := by simp only [State.setF, State.wr_cmd]
@[simp] theorem State.setF_dbg (s : State) (d : Nat) (x : Fld) (v : Nat) : (s.setF d x v).dbg = s.dbg := by simp only [State.setF, State.wr_dbg]
@[simp] theorem State.setF_hold (s : State) (d : Nat) (x : Fld) (v : Nat) : (s.setF d x v).hold = s.hold := by simp only [State.setF, State.wr_hold]
@[simp] theorem State.setF_core (s : State) (d : Nat) (x : Fld) (v : Nat) : (s.setF d x v).core = s.core := by simp only [State.setF, State.wr_core]
@[simp] theorem State.setF_fuses (s : State) (d : Nat) (x : Fld) (v : Nat) : (s.setF d x v).fuses = s.fuses := by simp only [State.setF, State.wr_fuses]
@[simp] theorem State.setF_keys (s : State) (d : Nat) (x : Fld) (v : Nat) : (s.setF d x v).keys = s.keys := by simp only [State.setF, State.wr_keys]
@[simp] theorem State.setF_err (s : State) (d : Nat) (x : Fld) (v : Nat) : (s.setF d x v).err = s.err := by simp only [State.setF, State.wr_err]
@[simp] theorem State.setF_nv (s : State) (d : Nat) (x : Fld) (v : Nat) : (s.setF d x v).nv = s.nv := by simp only [State.setF, State.wr_nv]
@[simp] theorem State.setF_gpio (s : State) (d : Nat) (x : Fld) (v : Nat) : (s.setF d x v).gpio = s.gpio := by simp only [State.setF, State.wr_gpio]
@[simp] theorem State.setF_freeCtr (s : State) (d : Nat) (x : Fld) (v : Nat) : (s.setF d x v).freeCtr = s.freeCtr := by simp only [State.setF, State.wr_freeCtr]
@[simp] theorem State.setF_out (s : State) (d : Nat) (x : Fld) (v : Nat) : (s.setF d x v).out = s.out := by simp only [State.setF, State.wr_out]
@[simp] theorem State.setF_pending (s : State) (d : Nat) (x : Fld) (v : Nat) : (s.setF d x v).pending = s.pending := by simp only [State.setF, State.wr_pending]

/-! ### setB -/

@[simp] theorem State.setB_time (s : State) (d : Nat) (x : Fld) (b : Bool) : (s.setB d x b).time = s.time := by simp only [State.setB, State.setF_time]
@[simp] theorem State.setB_tick (s : State) (d : Nat) (x : Fld) (b : Bool) : (s.setB d x b).tick = s.tick := by simp only [State.setB, State.setF_tick]
@[simp] theorem State.setB_pwr (s : State) (d : Nat) (x : Fld) (b : Bool) : (s.setB d x b).pwr = s.pwr := by simp only [State.setB, State.setF_pwr]
@[simp] theorem State.setB_fab (s : State) (d : Nat) (x : Fld) (b : Bool) : (s.setB d x b).fab = s.fab := by simp only [State.setB, State.setF_fab]
@[simp] theorem State.setB_cmb (s : State) (d : Nat) (x : Fld) (b : Bool) : (s.setB d x b).cmb = s.cmb := by simp only [State.setB, State.setF_cmb]
@[simp] theorem State.setB_mem (s : State) (d : Nat) (x : Fld) (b : Bool) : (s.setB d x b).mem = s.mem := by simp only [State.setB, State.setF_mem]
@[simp] theorem State.setB_rtr (s : State) (d : Nat) (x : Fld) (b : Bool) : (s.setB d x b).rtr = s.rtr := by simp only [State.setB, State.setF_rtr]
@[simp] theorem State.setB_net (s : State) (d : Nat) (x : Fld) (b : Bool) : (s.setB d x b).net = s.net := by simp only [State.setB, State.setF_net]
@[simp] theorem State.setB_sch (s : State) (d : Nat) (x : Fld) (b : Bool) : (s.setB d x b).sch = s.sch := by simp only [State.setB, State.setF_sch]
@[simp] theorem State.setB_probe (s : State) (d : Nat) (x : Fld) (b : Bool) : (s.setB d x b).probe = s.probe := by simp only [State.setB, State.setF_probe]
@[simp] theorem State.setB_stats (s : State) (d : Nat) (x : Fld) (b : Bool) : (s.setB d x b).stats = s.stats := by simp only [State.setB, State.setF_stats]
@[simp] theorem State.setB_corug (s : State) (d : Nat) (x : Fld) (b : Bool) : (s.setB d x b).corug = s.corug := by simp only [State.setB, State.setF_corug]
@[simp] theorem State.setB_acc (s : State) (d : Nat) (x : Fld) (b : Bool) : (s.setB d x b).acc = s.acc := by simp only [State.setB, State.setF_acc]
@[simp] theorem State.setB_lq (s : State) (d : Nat) (x : Fld) (b : Bool) : (s.setB d x b).lq = s.lq := by simp only [State.setB, State.setF_lq]
@[simp] theorem State.setB_pcie (s : State) (d : Nat) (x : Fld) (b : Bool) : (s.setB d x b).pcie = s.pcie := by simp only [State.setB, State.setF_pcie]
@[simp] theorem State.setB_ddr (s : State) (d : Nat) (x : Fld) (b : Bool) : (s.setB d x b).ddr = s.ddr := by simp only [State.setB, State.setF_ddr]
@[simp] theorem State.setB_miu (s : State) (d : Nat) (x : Fld) (b : Bool) : (s.setB d x b).miu = s.miu := by simp only [State.setB, State.setF_miu]
@[simp] theorem State.setB_rec_ (s : State) (d : Nat) (x : Fld) (b : Bool) : (s.setB d x b).rec_ = s.rec_ := by simp only [State.setB, State.setF_rec_]
@[simp] theorem State.setB_statusFenced (s : State) (d : Nat) (x : Fld) (b : Bool) : (s.setB d x b).statusFenced = s.statusFenced := by simp only [State.setB, State.setF_statusFenced]
@[simp] theorem State.setB_ita (s : State) (d : Nat) (x : Fld) (b : Bool) : (s.setB d x b).ita = s.ita := by simp only [State.setB, State.setF_ita]
@[simp] theorem State.setB_start (s : State) (d : Nat) (x : Fld) (b : Bool) : (s.setB d x b).start = s.start := by simp only [State.setB, State.setF_start]
@[simp] theorem State.setB_jour (s : State) (d : Nat) (x : Fld) (b : Bool) : (s.setB d x b).jour = s.jour := by simp only [State.setB, State.setF_jour]
@[simp] theorem State.setB_wake (s : State) (d : Nat) (x : Fld) (b : Bool) : (s.setB d x b).wake = s.wake := by simp only [State.setB, State.setF_wake]
@[simp] theorem State.setB_cmd (s : State) (d : Nat) (x : Fld) (b : Bool) : (s.setB d x b).cmd = s.cmd := by simp only [State.setB, State.setF_cmd]
@[simp] theorem State.setB_dbg (s : State) (d : Nat) (x : Fld) (b : Bool) : (s.setB d x b).dbg = s.dbg := by simp only [State.setB, State.setF_dbg]
@[simp] theorem State.setB_hold (s : State) (d : Nat) (x : Fld) (b : Bool) : (s.setB d x b).hold = s.hold := by simp only [State.setB, State.setF_hold]
@[simp] theorem State.setB_core (s : State) (d : Nat) (x : Fld) (b : Bool) : (s.setB d x b).core = s.core := by simp only [State.setB, State.setF_core]
@[simp] theorem State.setB_fuses (s : State) (d : Nat) (x : Fld) (b : Bool) : (s.setB d x b).fuses = s.fuses := by simp only [State.setB, State.setF_fuses]
@[simp] theorem State.setB_keys (s : State) (d : Nat) (x : Fld) (b : Bool) : (s.setB d x b).keys = s.keys := by simp only [State.setB, State.setF_keys]
@[simp] theorem State.setB_err (s : State) (d : Nat) (x : Fld) (b : Bool) : (s.setB d x b).err = s.err := by simp only [State.setB, State.setF_err]
@[simp] theorem State.setB_nv (s : State) (d : Nat) (x : Fld) (b : Bool) : (s.setB d x b).nv = s.nv := by simp only [State.setB, State.setF_nv]
@[simp] theorem State.setB_gpio (s : State) (d : Nat) (x : Fld) (b : Bool) : (s.setB d x b).gpio = s.gpio := by simp only [State.setB, State.setF_gpio]
@[simp] theorem State.setB_freeCtr (s : State) (d : Nat) (x : Fld) (b : Bool) : (s.setB d x b).freeCtr = s.freeCtr := by simp only [State.setB, State.setF_freeCtr]
@[simp] theorem State.setB_out (s : State) (d : Nat) (x : Fld) (b : Bool) : (s.setB d x b).out = s.out := by simp only [State.setB, State.setF_out]
@[simp] theorem State.setB_pending (s : State) (d : Nat) (x : Fld) (b : Bool) : (s.setB d x b).pending = s.pending := by simp only [State.setB, State.setF_pending]

/-! ### evt -/

@[simp] theorem State.evt_time (s : State) (d : Nat) (x : Fld) : (s.evt d x).time = s.time := by simp only [State.evt, State.setF_time]
@[simp] theorem State.evt_tick (s : State) (d : Nat) (x : Fld) : (s.evt d x).tick = s.tick := by simp only [State.evt, State.setF_tick]
@[simp] theorem State.evt_pwr (s : State) (d : Nat) (x : Fld) : (s.evt d x).pwr = s.pwr := by simp only [State.evt, State.setF_pwr]
@[simp] theorem State.evt_fab (s : State) (d : Nat) (x : Fld) : (s.evt d x).fab = s.fab := by simp only [State.evt, State.setF_fab]
@[simp] theorem State.evt_cmb (s : State) (d : Nat) (x : Fld) : (s.evt d x).cmb = s.cmb := by simp only [State.evt, State.setF_cmb]
@[simp] theorem State.evt_mem (s : State) (d : Nat) (x : Fld) : (s.evt d x).mem = s.mem := by simp only [State.evt, State.setF_mem]
@[simp] theorem State.evt_rtr (s : State) (d : Nat) (x : Fld) : (s.evt d x).rtr = s.rtr := by simp only [State.evt, State.setF_rtr]
@[simp] theorem State.evt_net (s : State) (d : Nat) (x : Fld) : (s.evt d x).net = s.net := by simp only [State.evt, State.setF_net]
@[simp] theorem State.evt_sch (s : State) (d : Nat) (x : Fld) : (s.evt d x).sch = s.sch := by simp only [State.evt, State.setF_sch]
@[simp] theorem State.evt_probe (s : State) (d : Nat) (x : Fld) : (s.evt d x).probe = s.probe := by simp only [State.evt, State.setF_probe]
@[simp] theorem State.evt_stats (s : State) (d : Nat) (x : Fld) : (s.evt d x).stats = s.stats := by simp only [State.evt, State.setF_stats]
@[simp] theorem State.evt_corug (s : State) (d : Nat) (x : Fld) : (s.evt d x).corug = s.corug := by simp only [State.evt, State.setF_corug]
@[simp] theorem State.evt_acc (s : State) (d : Nat) (x : Fld) : (s.evt d x).acc = s.acc := by simp only [State.evt, State.setF_acc]
@[simp] theorem State.evt_lq (s : State) (d : Nat) (x : Fld) : (s.evt d x).lq = s.lq := by simp only [State.evt, State.setF_lq]
@[simp] theorem State.evt_pcie (s : State) (d : Nat) (x : Fld) : (s.evt d x).pcie = s.pcie := by simp only [State.evt, State.setF_pcie]
@[simp] theorem State.evt_ddr (s : State) (d : Nat) (x : Fld) : (s.evt d x).ddr = s.ddr := by simp only [State.evt, State.setF_ddr]
@[simp] theorem State.evt_miu (s : State) (d : Nat) (x : Fld) : (s.evt d x).miu = s.miu := by simp only [State.evt, State.setF_miu]
@[simp] theorem State.evt_rec_ (s : State) (d : Nat) (x : Fld) : (s.evt d x).rec_ = s.rec_ := by simp only [State.evt, State.setF_rec_]
@[simp] theorem State.evt_statusFenced (s : State) (d : Nat) (x : Fld) : (s.evt d x).statusFenced = s.statusFenced := by simp only [State.evt, State.setF_statusFenced]
@[simp] theorem State.evt_ita (s : State) (d : Nat) (x : Fld) : (s.evt d x).ita = s.ita := by simp only [State.evt, State.setF_ita]
@[simp] theorem State.evt_start (s : State) (d : Nat) (x : Fld) : (s.evt d x).start = s.start := by simp only [State.evt, State.setF_start]
@[simp] theorem State.evt_jour (s : State) (d : Nat) (x : Fld) : (s.evt d x).jour = s.jour := by simp only [State.evt, State.setF_jour]
@[simp] theorem State.evt_wake (s : State) (d : Nat) (x : Fld) : (s.evt d x).wake = s.wake := by simp only [State.evt, State.setF_wake]
@[simp] theorem State.evt_cmd (s : State) (d : Nat) (x : Fld) : (s.evt d x).cmd = s.cmd := by simp only [State.evt, State.setF_cmd]
@[simp] theorem State.evt_dbg (s : State) (d : Nat) (x : Fld) : (s.evt d x).dbg = s.dbg := by simp only [State.evt, State.setF_dbg]
@[simp] theorem State.evt_hold (s : State) (d : Nat) (x : Fld) : (s.evt d x).hold = s.hold := by simp only [State.evt, State.setF_hold]
@[simp] theorem State.evt_core (s : State) (d : Nat) (x : Fld) : (s.evt d x).core = s.core := by simp only [State.evt, State.setF_core]
@[simp] theorem State.evt_fuses (s : State) (d : Nat) (x : Fld) : (s.evt d x).fuses = s.fuses := by simp only [State.evt, State.setF_fuses]
@[simp] theorem State.evt_keys (s : State) (d : Nat) (x : Fld) : (s.evt d x).keys = s.keys := by simp only [State.evt, State.setF_keys]
@[simp] theorem State.evt_err (s : State) (d : Nat) (x : Fld) : (s.evt d x).err = s.err := by simp only [State.evt, State.setF_err]
@[simp] theorem State.evt_nv (s : State) (d : Nat) (x : Fld) : (s.evt d x).nv = s.nv := by simp only [State.evt, State.setF_nv]
@[simp] theorem State.evt_gpio (s : State) (d : Nat) (x : Fld) : (s.evt d x).gpio = s.gpio := by simp only [State.evt, State.setF_gpio]
@[simp] theorem State.evt_freeCtr (s : State) (d : Nat) (x : Fld) : (s.evt d x).freeCtr = s.freeCtr := by simp only [State.evt, State.setF_freeCtr]
@[simp] theorem State.evt_out (s : State) (d : Nat) (x : Fld) : (s.evt d x).out = s.out := by simp only [State.evt, State.setF_out]
@[simp] theorem State.evt_pending (s : State) (d : Nat) (x : Fld) : (s.evt d x).pending = s.pending := by simp only [State.evt, State.setF_pending]

/-! ### inc -/

@[simp] theorem State.inc_time (s : State) (d : Nat) (x : Fld) (n : Nat) : (s.inc d x n).time = s.time := by simp only [State.inc, State.setF_time]
@[simp] theorem State.inc_tick (s : State) (d : Nat) (x : Fld) (n : Nat) : (s.inc d x n).tick = s.tick := by simp only [State.inc, State.setF_tick]
@[simp] theorem State.inc_pwr (s : State) (d : Nat) (x : Fld) (n : Nat) : (s.inc d x n).pwr = s.pwr := by simp only [State.inc, State.setF_pwr]
@[simp] theorem State.inc_fab (s : State) (d : Nat) (x : Fld) (n : Nat) : (s.inc d x n).fab = s.fab := by simp only [State.inc, State.setF_fab]
@[simp] theorem State.inc_cmb (s : State) (d : Nat) (x : Fld) (n : Nat) : (s.inc d x n).cmb = s.cmb := by simp only [State.inc, State.setF_cmb]
@[simp] theorem State.inc_mem (s : State) (d : Nat) (x : Fld) (n : Nat) : (s.inc d x n).mem = s.mem := by simp only [State.inc, State.setF_mem]
@[simp] theorem State.inc_rtr (s : State) (d : Nat) (x : Fld) (n : Nat) : (s.inc d x n).rtr = s.rtr := by simp only [State.inc, State.setF_rtr]
@[simp] theorem State.inc_net (s : State) (d : Nat) (x : Fld) (n : Nat) : (s.inc d x n).net = s.net := by simp only [State.inc, State.setF_net]
@[simp] theorem State.inc_sch (s : State) (d : Nat) (x : Fld) (n : Nat) : (s.inc d x n).sch = s.sch := by simp only [State.inc, State.setF_sch]
@[simp] theorem State.inc_probe (s : State) (d : Nat) (x : Fld) (n : Nat) : (s.inc d x n).probe = s.probe := by simp only [State.inc, State.setF_probe]
@[simp] theorem State.inc_stats (s : State) (d : Nat) (x : Fld) (n : Nat) : (s.inc d x n).stats = s.stats := by simp only [State.inc, State.setF_stats]
@[simp] theorem State.inc_corug (s : State) (d : Nat) (x : Fld) (n : Nat) : (s.inc d x n).corug = s.corug := by simp only [State.inc, State.setF_corug]
@[simp] theorem State.inc_acc (s : State) (d : Nat) (x : Fld) (n : Nat) : (s.inc d x n).acc = s.acc := by simp only [State.inc, State.setF_acc]
@[simp] theorem State.inc_lq (s : State) (d : Nat) (x : Fld) (n : Nat) : (s.inc d x n).lq = s.lq := by simp only [State.inc, State.setF_lq]
@[simp] theorem State.inc_pcie (s : State) (d : Nat) (x : Fld) (n : Nat) : (s.inc d x n).pcie = s.pcie := by simp only [State.inc, State.setF_pcie]
@[simp] theorem State.inc_ddr (s : State) (d : Nat) (x : Fld) (n : Nat) : (s.inc d x n).ddr = s.ddr := by simp only [State.inc, State.setF_ddr]
@[simp] theorem State.inc_miu (s : State) (d : Nat) (x : Fld) (n : Nat) : (s.inc d x n).miu = s.miu := by simp only [State.inc, State.setF_miu]
@[simp] theorem State.inc_rec_ (s : State) (d : Nat) (x : Fld) (n : Nat) : (s.inc d x n).rec_ = s.rec_ := by simp only [State.inc, State.setF_rec_]
@[simp] theorem State.inc_statusFenced (s : State) (d : Nat) (x : Fld) (n : Nat) : (s.inc d x n).statusFenced = s.statusFenced := by simp only [State.inc, State.setF_statusFenced]
@[simp] theorem State.inc_ita (s : State) (d : Nat) (x : Fld) (n : Nat) : (s.inc d x n).ita = s.ita := by simp only [State.inc, State.setF_ita]
@[simp] theorem State.inc_start (s : State) (d : Nat) (x : Fld) (n : Nat) : (s.inc d x n).start = s.start := by simp only [State.inc, State.setF_start]
@[simp] theorem State.inc_jour (s : State) (d : Nat) (x : Fld) (n : Nat) : (s.inc d x n).jour = s.jour := by simp only [State.inc, State.setF_jour]
@[simp] theorem State.inc_wake (s : State) (d : Nat) (x : Fld) (n : Nat) : (s.inc d x n).wake = s.wake := by simp only [State.inc, State.setF_wake]
@[simp] theorem State.inc_cmd (s : State) (d : Nat) (x : Fld) (n : Nat) : (s.inc d x n).cmd = s.cmd := by simp only [State.inc, State.setF_cmd]
@[simp] theorem State.inc_dbg (s : State) (d : Nat) (x : Fld) (n : Nat) : (s.inc d x n).dbg = s.dbg := by simp only [State.inc, State.setF_dbg]
@[simp] theorem State.inc_hold (s : State) (d : Nat) (x : Fld) (n : Nat) : (s.inc d x n).hold = s.hold := by simp only [State.inc, State.setF_hold]
@[simp] theorem State.inc_core (s : State) (d : Nat) (x : Fld) (n : Nat) : (s.inc d x n).core = s.core := by simp only [State.inc, State.setF_core]
@[simp] theorem State.inc_fuses (s : State) (d : Nat) (x : Fld) (n : Nat) : (s.inc d x n).fuses = s.fuses := by simp only [State.inc, State.setF_fuses]
@[simp] theorem State.inc_keys (s : State) (d : Nat) (x : Fld) (n : Nat) : (s.inc d x n).keys = s.keys := by simp only [State.inc, State.setF_keys]
@[simp] theorem State.inc_err (s : State) (d : Nat) (x : Fld) (n : Nat) : (s.inc d x n).err = s.err := by simp only [State.inc, State.setF_err]
@[simp] theorem State.inc_nv (s : State) (d : Nat) (x : Fld) (n : Nat) : (s.inc d x n).nv = s.nv := by simp only [State.inc, State.setF_nv]
@[simp] theorem State.inc_gpio (s : State) (d : Nat) (x : Fld) (n : Nat) : (s.inc d x n).gpio = s.gpio := by simp only [State.inc, State.setF_gpio]
@[simp] theorem State.inc_freeCtr (s : State) (d : Nat) (x : Fld) (n : Nat) : (s.inc d x n).freeCtr = s.freeCtr := by simp only [State.inc, State.setF_freeCtr]
@[simp] theorem State.inc_out (s : State) (d : Nat) (x : Fld) (n : Nat) : (s.inc d x n).out = s.out := by simp only [State.inc, State.setF_out]
@[simp] theorem State.inc_pending (s : State) (d : Nat) (x : Fld) (n : Nat) : (s.inc d x n).pending = s.pending := by simp only [State.inc, State.setF_pending]

/-! ### largest -/

@[simp] theorem State.largest_time (s : State) (d : Nat) (x : Fld) (v : Nat) : (s.largest d x v).time = s.time := by simp only [State.largest, State.setF_time]
@[simp] theorem State.largest_tick (s : State) (d : Nat) (x : Fld) (v : Nat) : (s.largest d x v).tick = s.tick := by simp only [State.largest, State.setF_tick]
@[simp] theorem State.largest_pwr (s : State) (d : Nat) (x : Fld) (v : Nat) : (s.largest d x v).pwr = s.pwr := by simp only [State.largest, State.setF_pwr]
@[simp] theorem State.largest_fab (s : State) (d : Nat) (x : Fld) (v : Nat) : (s.largest d x v).fab = s.fab := by simp only [State.largest, State.setF_fab]
@[simp] theorem State.largest_cmb (s : State) (d : Nat) (x : Fld) (v : Nat) : (s.largest d x v).cmb = s.cmb := by simp only [State.largest, State.setF_cmb]
@[simp] theorem State.largest_mem (s : State) (d : Nat) (x : Fld) (v : Nat) : (s.largest d x v).mem = s.mem := by simp only [State.largest, State.setF_mem]
@[simp] theorem State.largest_rtr (s : State) (d : Nat) (x : Fld) (v : Nat) : (s.largest d x v).rtr = s.rtr := by simp only [State.largest, State.setF_rtr]
@[simp] theorem State.largest_net (s : State) (d : Nat) (x : Fld) (v : Nat) : (s.largest d x v).net = s.net := by simp only [State.largest, State.setF_net]
@[simp] theorem State.largest_sch (s : State) (d : Nat) (x : Fld) (v : Nat) : (s.largest d x v).sch = s.sch := by simp only [State.largest, State.setF_sch]
@[simp] theorem State.largest_probe (s : State) (d : Nat) (x : Fld) (v : Nat) : (s.largest d x v).probe = s.probe := by simp only [State.largest, State.setF_probe]
@[simp] theorem State.largest_stats (s : State) (d : Nat) (x : Fld) (v : Nat) : (s.largest d x v).stats = s.stats := by simp only [State.largest, State.setF_stats]
@[simp] theorem State.largest_corug (s : State) (d : Nat) (x : Fld) (v : Nat) : (s.largest d x v).corug = s.corug := by simp only [State.largest, State.setF_corug]
@[simp] theorem State.largest_acc (s : State) (d : Nat) (x : Fld) (v : Nat) : (s.largest d x v).acc = s.acc := by simp only [State.largest, State.setF_acc]
@[simp] theorem State.largest_lq (s : State) (d : Nat) (x : Fld) (v : Nat) : (s.largest d x v).lq = s.lq := by simp only [State.largest, State.setF_lq]
@[simp] theorem State.largest_pcie (s : State) (d : Nat) (x : Fld) (v : Nat) : (s.largest d x v).pcie = s.pcie := by simp only [State.largest, State.setF_pcie]
@[simp] theorem State.largest_ddr (s : State) (d : Nat) (x : Fld) (v : Nat) : (s.largest d x v).ddr = s.ddr := by simp only [State.largest, State.setF_ddr]
@[simp] theorem State.largest_miu (s : State) (d : Nat) (x : Fld) (v : Nat) : (s.largest d x v).miu = s.miu := by simp only [State.largest, State.setF_miu]
@[simp] theorem State.largest_rec_ (s : State) (d : Nat) (x : Fld) (v : Nat) : (s.largest d x v).rec_ = s.rec_ := by simp only [State.largest, State.setF_rec_]
@[simp] theorem State.largest_statusFenced (s : State) (d : Nat) (x : Fld) (v : Nat) : (s.largest d x v).statusFenced = s.statusFenced := by simp only [State.largest, State.setF_statusFenced]
@[simp] theorem State.largest_ita (s : State) (d : Nat) (x : Fld) (v : Nat) : (s.largest d x v).ita = s.ita := by simp only [State.largest, State.setF_ita]
@[simp] theorem State.largest_start (s : State) (d : Nat) (x : Fld) (v : Nat) : (s.largest d x v).start = s.start := by simp only [State.largest, State.setF_start]
@[simp] theorem State.largest_jour (s : State) (d : Nat) (x : Fld) (v : Nat) : (s.largest d x v).jour = s.jour := by simp only [State.largest, State.setF_jour]
@[simp] theorem State.largest_wake (s : State) (d : Nat) (x : Fld) (v : Nat) : (s.largest d x v).wake = s.wake := by simp only [State.largest, State.setF_wake]
@[simp] theorem State.largest_cmd (s : State) (d : Nat) (x : Fld) (v : Nat) : (s.largest d x v).cmd = s.cmd := by simp only [State.largest, State.setF_cmd]
@[simp] theorem State.largest_dbg (s : State) (d : Nat) (x : Fld) (v : Nat) : (s.largest d x v).dbg = s.dbg := by simp only [State.largest, State.setF_dbg]
@[simp] theorem State.largest_hold (s : State) (d : Nat) (x : Fld) (v : Nat) : (s.largest d x v).hold = s.hold := by simp only [State.largest, State.setF_hold]
@[simp] theorem State.largest_core (s : State) (d : Nat) (x : Fld) (v : Nat) : (s.largest d x v).core = s.core := by simp only [State.largest, State.setF_core]
@[simp] theorem State.largest_fuses (s : State) (d : Nat) (x : Fld) (v : Nat) : (s.largest d x v).fuses = s.fuses := by simp only [State.largest, State.setF_fuses]
@[simp] theorem State.largest_keys (s : State) (d : Nat) (x : Fld) (v : Nat) : (s.largest d x v).keys = s.keys := by simp only [State.largest, State.setF_keys]
@[simp] theorem State.largest_err (s : State) (d : Nat) (x : Fld) (v : Nat) : (s.largest d x v).err = s.err := by simp only [State.largest, State.setF_err]
@[simp] theorem State.largest_nv (s : State) (d : Nat) (x : Fld) (v : Nat) : (s.largest d x v).nv = s.nv := by simp only [State.largest, State.setF_nv]
@[simp] theorem State.largest_gpio (s : State) (d : Nat) (x : Fld) (v : Nat) : (s.largest d x v).gpio = s.gpio := by simp only [State.largest, State.setF_gpio]
@[simp] theorem State.largest_freeCtr (s : State) (d : Nat) (x : Fld) (v : Nat) : (s.largest d x v).freeCtr = s.freeCtr := by simp only [State.largest, State.setF_freeCtr]
@[simp] theorem State.largest_out (s : State) (d : Nat) (x : Fld) (v : Nat) : (s.largest d x v).out = s.out := by simp only [State.largest, State.setF_out]
@[simp] theorem State.largest_pending (s : State) (d : Nat) (x : Fld) (v : Nat) : (s.largest d x v).pending = s.pending := by simp only [State.largest, State.setF_pending]

/-! ### wr64 -/

@[simp] theorem State.wr64_time (s : State) (d lo hi v : Nat) : (s.wr64 d lo hi v).time = s.time := by simp only [State.wr64, State.wr_time]
@[simp] theorem State.wr64_tick (s : State) (d lo hi v : Nat) : (s.wr64 d lo hi v).tick = s.tick := by simp only [State.wr64, State.wr_tick]
@[simp] theorem State.wr64_pwr (s : State) (d lo hi v : Nat) : (s.wr64 d lo hi v).pwr = s.pwr := by simp only [State.wr64, State.wr_pwr]
@[simp] theorem State.wr64_fab (s : State) (d lo hi v : Nat) : (s.wr64 d lo hi v).fab = s.fab := by simp only [State.wr64, State.wr_fab]
@[simp] theorem State.wr64_cmb (s : State) (d lo hi v : Nat) : (s.wr64 d lo hi v).cmb = s.cmb := by simp only [State.wr64, State.wr_cmb]
@[simp] theorem State.wr64_mem (s : State) (d lo hi v : Nat) : (s.wr64 d lo hi v).mem = s.mem := by simp only [State.wr64, State.wr_mem]
@[simp] theorem State.wr64_rtr (s : State) (d lo hi v : Nat) : (s.wr64 d lo hi v).rtr = s.rtr := by simp only [State.wr64, State.wr_rtr]
@[simp] theorem State.wr64_net (s : State) (d lo hi v : Nat) : (s.wr64 d lo hi v).net = s.net := by simp only [State.wr64, State.wr_net]
@[simp] theorem State.wr64_sch (s : State) (d lo hi v : Nat) : (s.wr64 d lo hi v).sch = s.sch := by simp only [State.wr64, State.wr_sch]
@[simp] theorem State.wr64_probe (s : State) (d lo hi v : Nat) : (s.wr64 d lo hi v).probe = s.probe := by simp only [State.wr64, State.wr_probe]
@[simp] theorem State.wr64_stats (s : State) (d lo hi v : Nat) : (s.wr64 d lo hi v).stats = s.stats := by simp only [State.wr64, State.wr_stats]
@[simp] theorem State.wr64_corug (s : State) (d lo hi v : Nat) : (s.wr64 d lo hi v).corug = s.corug := by simp only [State.wr64, State.wr_corug]
@[simp] theorem State.wr64_acc (s : State) (d lo hi v : Nat) : (s.wr64 d lo hi v).acc = s.acc := by simp only [State.wr64, State.wr_acc]
@[simp] theorem State.wr64_lq (s : State) (d lo hi v : Nat) : (s.wr64 d lo hi v).lq = s.lq := by simp only [State.wr64, State.wr_lq]
@[simp] theorem State.wr64_pcie (s : State) (d lo hi v : Nat) : (s.wr64 d lo hi v).pcie = s.pcie := by simp only [State.wr64, State.wr_pcie]
@[simp] theorem State.wr64_ddr (s : State) (d lo hi v : Nat) : (s.wr64 d lo hi v).ddr = s.ddr := by simp only [State.wr64, State.wr_ddr]
@[simp] theorem State.wr64_miu (s : State) (d lo hi v : Nat) : (s.wr64 d lo hi v).miu = s.miu := by simp only [State.wr64, State.wr_miu]
@[simp] theorem State.wr64_rec_ (s : State) (d lo hi v : Nat) : (s.wr64 d lo hi v).rec_ = s.rec_ := by simp only [State.wr64, State.wr_rec_]
@[simp] theorem State.wr64_statusFenced (s : State) (d lo hi v : Nat) : (s.wr64 d lo hi v).statusFenced = s.statusFenced := by simp only [State.wr64, State.wr_statusFenced]
@[simp] theorem State.wr64_ita (s : State) (d lo hi v : Nat) : (s.wr64 d lo hi v).ita = s.ita := by simp only [State.wr64, State.wr_ita]
@[simp] theorem State.wr64_start (s : State) (d lo hi v : Nat) : (s.wr64 d lo hi v).start = s.start := by simp only [State.wr64, State.wr_start]
@[simp] theorem State.wr64_jour (s : State) (d lo hi v : Nat) : (s.wr64 d lo hi v).jour = s.jour := by simp only [State.wr64, State.wr_jour]
@[simp] theorem State.wr64_wake (s : State) (d lo hi v : Nat) : (s.wr64 d lo hi v).wake = s.wake := by simp only [State.wr64, State.wr_wake]
@[simp] theorem State.wr64_cmd (s : State) (d lo hi v : Nat) : (s.wr64 d lo hi v).cmd = s.cmd := by simp only [State.wr64, State.wr_cmd]
@[simp] theorem State.wr64_dbg (s : State) (d lo hi v : Nat) : (s.wr64 d lo hi v).dbg = s.dbg := by simp only [State.wr64, State.wr_dbg]
@[simp] theorem State.wr64_hold (s : State) (d lo hi v : Nat) : (s.wr64 d lo hi v).hold = s.hold := by simp only [State.wr64, State.wr_hold]
@[simp] theorem State.wr64_core (s : State) (d lo hi v : Nat) : (s.wr64 d lo hi v).core = s.core := by simp only [State.wr64, State.wr_core]
@[simp] theorem State.wr64_fuses (s : State) (d lo hi v : Nat) : (s.wr64 d lo hi v).fuses = s.fuses := by simp only [State.wr64, State.wr_fuses]
@[simp] theorem State.wr64_keys (s : State) (d lo hi v : Nat) : (s.wr64 d lo hi v).keys = s.keys := by simp only [State.wr64, State.wr_keys]
@[simp] theorem State.wr64_err (s : State) (d lo hi v : Nat) : (s.wr64 d lo hi v).err = s.err := by simp only [State.wr64, State.wr_err]
@[simp] theorem State.wr64_nv (s : State) (d lo hi v : Nat) : (s.wr64 d lo hi v).nv = s.nv := by simp only [State.wr64, State.wr_nv]
@[simp] theorem State.wr64_gpio (s : State) (d lo hi v : Nat) : (s.wr64 d lo hi v).gpio = s.gpio := by simp only [State.wr64, State.wr_gpio]
@[simp] theorem State.wr64_freeCtr (s : State) (d lo hi v : Nat) : (s.wr64 d lo hi v).freeCtr = s.freeCtr := by simp only [State.wr64, State.wr_freeCtr]
@[simp] theorem State.wr64_out (s : State) (d lo hi v : Nat) : (s.wr64 d lo hi v).out = s.out := by simp only [State.wr64, State.wr_out]
@[simp] theorem State.wr64_pending (s : State) (d lo hi v : Nat) : (s.wr64 d lo hi v).pending = s.pending := by simp only [State.wr64, State.wr_pending]

/-! ### inc64 -/

@[simp] theorem State.inc64_time (s : State) (d lo hi n : Nat) : (s.inc64 d lo hi n).time = s.time := by simp only [State.inc64, State.wr64_time]
@[simp] theorem State.inc64_tick (s : State) (d lo hi n : Nat) : (s.inc64 d lo hi n).tick = s.tick := by simp only [State.inc64, State.wr64_tick]
@[simp] theorem State.inc64_pwr (s : State) (d lo hi n : Nat) : (s.inc64 d lo hi n).pwr = s.pwr := by simp only [State.inc64, State.wr64_pwr]
@[simp] theorem State.inc64_fab (s : State) (d lo hi n : Nat) : (s.inc64 d lo hi n).fab = s.fab := by simp only [State.inc64, State.wr64_fab]
@[simp] theorem State.inc64_cmb (s : State) (d lo hi n : Nat) : (s.inc64 d lo hi n).cmb = s.cmb := by simp only [State.inc64, State.wr64_cmb]
@[simp] theorem State.inc64_mem (s : State) (d lo hi n : Nat) : (s.inc64 d lo hi n).mem = s.mem := by simp only [State.inc64, State.wr64_mem]
@[simp] theorem State.inc64_rtr (s : State) (d lo hi n : Nat) : (s.inc64 d lo hi n).rtr = s.rtr := by simp only [State.inc64, State.wr64_rtr]
@[simp] theorem State.inc64_net (s : State) (d lo hi n : Nat) : (s.inc64 d lo hi n).net = s.net := by simp only [State.inc64, State.wr64_net]
@[simp] theorem State.inc64_sch (s : State) (d lo hi n : Nat) : (s.inc64 d lo hi n).sch = s.sch := by simp only [State.inc64, State.wr64_sch]
@[simp] theorem State.inc64_probe (s : State) (d lo hi n : Nat) : (s.inc64 d lo hi n).probe = s.probe := by simp only [State.inc64, State.wr64_probe]
@[simp] theorem State.inc64_stats (s : State) (d lo hi n : Nat) : (s.inc64 d lo hi n).stats = s.stats := by simp only [State.inc64, State.wr64_stats]
@[simp] theorem State.inc64_corug (s : State) (d lo hi n : Nat) : (s.inc64 d lo hi n).corug = s.corug := by simp only [State.inc64, State.wr64_corug]
@[simp] theorem State.inc64_acc (s : State) (d lo hi n : Nat) : (s.inc64 d lo hi n).acc = s.acc := by simp only [State.inc64, State.wr64_acc]
@[simp] theorem State.inc64_lq (s : State) (d lo hi n : Nat) : (s.inc64 d lo hi n).lq = s.lq := by simp only [State.inc64, State.wr64_lq]
@[simp] theorem State.inc64_pcie (s : State) (d lo hi n : Nat) : (s.inc64 d lo hi n).pcie = s.pcie := by simp only [State.inc64, State.wr64_pcie]
@[simp] theorem State.inc64_ddr (s : State) (d lo hi n : Nat) : (s.inc64 d lo hi n).ddr = s.ddr := by simp only [State.inc64, State.wr64_ddr]
@[simp] theorem State.inc64_miu (s : State) (d lo hi n : Nat) : (s.inc64 d lo hi n).miu = s.miu := by simp only [State.inc64, State.wr64_miu]
@[simp] theorem State.inc64_rec_ (s : State) (d lo hi n : Nat) : (s.inc64 d lo hi n).rec_ = s.rec_ := by simp only [State.inc64, State.wr64_rec_]
@[simp] theorem State.inc64_statusFenced (s : State) (d lo hi n : Nat) : (s.inc64 d lo hi n).statusFenced = s.statusFenced := by simp only [State.inc64, State.wr64_statusFenced]
@[simp] theorem State.inc64_ita (s : State) (d lo hi n : Nat) : (s.inc64 d lo hi n).ita = s.ita := by simp only [State.inc64, State.wr64_ita]
@[simp] theorem State.inc64_start (s : State) (d lo hi n : Nat) : (s.inc64 d lo hi n).start = s.start := by simp only [State.inc64, State.wr64_start]
@[simp] theorem State.inc64_jour (s : State) (d lo hi n : Nat) : (s.inc64 d lo hi n).jour = s.jour := by simp only [State.inc64, State.wr64_jour]
@[simp] theorem State.inc64_wake (s : State) (d lo hi n : Nat) : (s.inc64 d lo hi n).wake = s.wake := by simp only [State.inc64, State.wr64_wake]
@[simp] theorem State.inc64_cmd (s : State) (d lo hi n : Nat) : (s.inc64 d lo hi n).cmd = s.cmd := by simp only [State.inc64, State.wr64_cmd]
@[simp] theorem State.inc64_dbg (s : State) (d lo hi n : Nat) : (s.inc64 d lo hi n).dbg = s.dbg := by simp only [State.inc64, State.wr64_dbg]
@[simp] theorem State.inc64_hold (s : State) (d lo hi n : Nat) : (s.inc64 d lo hi n).hold = s.hold := by simp only [State.inc64, State.wr64_hold]
@[simp] theorem State.inc64_core (s : State) (d lo hi n : Nat) : (s.inc64 d lo hi n).core = s.core := by simp only [State.inc64, State.wr64_core]
@[simp] theorem State.inc64_fuses (s : State) (d lo hi n : Nat) : (s.inc64 d lo hi n).fuses = s.fuses := by simp only [State.inc64, State.wr64_fuses]
@[simp] theorem State.inc64_keys (s : State) (d lo hi n : Nat) : (s.inc64 d lo hi n).keys = s.keys := by simp only [State.inc64, State.wr64_keys]
@[simp] theorem State.inc64_err (s : State) (d lo hi n : Nat) : (s.inc64 d lo hi n).err = s.err := by simp only [State.inc64, State.wr64_err]
@[simp] theorem State.inc64_nv (s : State) (d lo hi n : Nat) : (s.inc64 d lo hi n).nv = s.nv := by simp only [State.inc64, State.wr64_nv]
@[simp] theorem State.inc64_gpio (s : State) (d lo hi n : Nat) : (s.inc64 d lo hi n).gpio = s.gpio := by simp only [State.inc64, State.wr64_gpio]
@[simp] theorem State.inc64_freeCtr (s : State) (d lo hi n : Nat) : (s.inc64 d lo hi n).freeCtr = s.freeCtr := by simp only [State.inc64, State.wr64_freeCtr]
@[simp] theorem State.inc64_out (s : State) (d lo hi n : Nat) : (s.inc64 d lo hi n).out = s.out := by simp only [State.inc64, State.wr64_out]
@[simp] theorem State.inc64_pending (s : State) (d lo hi n : Nat) : (s.inc64 d lo hi n).pending = s.pending := by simp only [State.inc64, State.wr64_pending]

/-! ### setFs -/

@[simp] theorem State.setFs_time (s : State) (d : Nat) (l : List (Fld × Nat)) : (s.setFs d l).time = s.time := by
  induction l generalizing s with
  | nil => rfl
  | cons e t ih => rw [State.setFs, ih, State.setF_time]
@[simp] theorem State.setFs_tick (s : State) (d : Nat) (l : List (Fld × Nat)) : (s.setFs d l).tick = s.tick := by
  induction l generalizing s with
  | nil => rfl
  | cons e t ih => rw [State.setFs, ih, State.setF_tick]
@[simp] theorem State.setFs_pwr (s : State) (d : Nat) (l : List (Fld × Nat)) : (s.setFs d l).pwr = s.pwr := by
  induction l generalizing s with
  | nil => rfl
  | cons e t ih => rw [State.setFs, ih, State.setF_pwr]
@[simp] theorem State.setFs_fab (s : State) (d : Nat) (l : List (Fld × Nat)) : (s.setFs d l).fab = s.fab := by
  induction l generalizing s with
  | nil => rfl
  | cons e t ih => rw [State.setFs, ih, State.setF_fab]
@[simp] theorem State.setFs_cmb (s : State) (d : Nat) (l : List (Fld × Nat)) : (s.setFs d l).cmb = s.cmb := by
  induction l generalizing s with
  | nil => rfl
  | cons e t ih => rw [State.setFs, ih, State.setF_cmb]
@[simp] theorem State.setFs_mem (s : State) (d : Nat) (l : List (Fld × Nat)) : (s.setFs d l).mem = s.mem := by
  induction l generalizing s with
  | nil => rfl
  | cons e t ih => rw [State.setFs, ih, State.setF_mem]
@[simp] theorem State.setFs_rtr (s : State) (d : Nat) (l : List (Fld × Nat)) : (s.setFs d l).rtr = s.rtr := by
  induction l generalizing s with
  | nil => rfl
  | cons e t ih => rw [State.setFs, ih, State.setF_rtr]
@[simp] theorem State.setFs_net (s : State) (d : Nat) (l : List (Fld × Nat)) : (s.setFs d l).net = s.net := by
  induction l generalizing s with
  | nil => rfl
  | cons e t ih => rw [State.setFs, ih, State.setF_net]
@[simp] theorem State.setFs_sch (s : State) (d : Nat) (l : List (Fld × Nat)) : (s.setFs d l).sch = s.sch := by
  induction l generalizing s with
  | nil => rfl
  | cons e t ih => rw [State.setFs, ih, State.setF_sch]
@[simp] theorem State.setFs_probe (s : State) (d : Nat) (l : List (Fld × Nat)) : (s.setFs d l).probe = s.probe := by
  induction l generalizing s with
  | nil => rfl
  | cons e t ih => rw [State.setFs, ih, State.setF_probe]
@[simp] theorem State.setFs_stats (s : State) (d : Nat) (l : List (Fld × Nat)) : (s.setFs d l).stats = s.stats := by
  induction l generalizing s with
  | nil => rfl
  | cons e t ih => rw [State.setFs, ih, State.setF_stats]
@[simp] theorem State.setFs_corug (s : State) (d : Nat) (l : List (Fld × Nat)) : (s.setFs d l).corug = s.corug := by
  induction l generalizing s with
  | nil => rfl
  | cons e t ih => rw [State.setFs, ih, State.setF_corug]
@[simp] theorem State.setFs_acc (s : State) (d : Nat) (l : List (Fld × Nat)) : (s.setFs d l).acc = s.acc := by
  induction l generalizing s with
  | nil => rfl
  | cons e t ih => rw [State.setFs, ih, State.setF_acc]
@[simp] theorem State.setFs_lq (s : State) (d : Nat) (l : List (Fld × Nat)) : (s.setFs d l).lq = s.lq := by
  induction l generalizing s with
  | nil => rfl
  | cons e t ih => rw [State.setFs, ih, State.setF_lq]
@[simp] theorem State.setFs_pcie (s : State) (d : Nat) (l : List (Fld × Nat)) : (s.setFs d l).pcie = s.pcie := by
  induction l generalizing s with
  | nil => rfl
  | cons e t ih => rw [State.setFs, ih, State.setF_pcie]
@[simp] theorem State.setFs_ddr (s : State) (d : Nat) (l : List (Fld × Nat)) : (s.setFs d l).ddr = s.ddr := by
  induction l generalizing s with
  | nil => rfl
  | cons e t ih => rw [State.setFs, ih, State.setF_ddr]
@[simp] theorem State.setFs_miu (s : State) (d : Nat) (l : List (Fld × Nat)) : (s.setFs d l).miu = s.miu := by
  induction l generalizing s with
  | nil => rfl
  | cons e t ih => rw [State.setFs, ih, State.setF_miu]
@[simp] theorem State.setFs_rec_ (s : State) (d : Nat) (l : List (Fld × Nat)) : (s.setFs d l).rec_ = s.rec_ := by
  induction l generalizing s with
  | nil => rfl
  | cons e t ih => rw [State.setFs, ih, State.setF_rec_]
@[simp] theorem State.setFs_statusFenced (s : State) (d : Nat) (l : List (Fld × Nat)) : (s.setFs d l).statusFenced = s.statusFenced := by
  induction l generalizing s with
  | nil => rfl
  | cons e t ih => rw [State.setFs, ih, State.setF_statusFenced]
@[simp] theorem State.setFs_ita (s : State) (d : Nat) (l : List (Fld × Nat)) : (s.setFs d l).ita = s.ita := by
  induction l generalizing s with
  | nil => rfl
  | cons e t ih => rw [State.setFs, ih, State.setF_ita]
@[simp] theorem State.setFs_start (s : State) (d : Nat) (l : List (Fld × Nat)) : (s.setFs d l).start = s.start := by
  induction l generalizing s with
  | nil => rfl
  | cons e t ih => rw [State.setFs, ih, State.setF_start]
@[simp] theorem State.setFs_jour (s : State) (d : Nat) (l : List (Fld × Nat)) : (s.setFs d l).jour = s.jour := by
  induction l generalizing s with
  | nil => rfl
  | cons e t ih => rw [State.setFs, ih, State.setF_jour]
@[simp] theorem State.setFs_wake (s : State) (d : Nat) (l : List (Fld × Nat)) : (s.setFs d l).wake = s.wake := by
  induction l generalizing s with
  | nil => rfl
  | cons e t ih => rw [State.setFs, ih, State.setF_wake]
@[simp] theorem State.setFs_cmd (s : State) (d : Nat) (l : List (Fld × Nat)) : (s.setFs d l).cmd = s.cmd := by
  induction l generalizing s with
  | nil => rfl
  | cons e t ih => rw [State.setFs, ih, State.setF_cmd]
@[simp] theorem State.setFs_dbg (s : State) (d : Nat) (l : List (Fld × Nat)) : (s.setFs d l).dbg = s.dbg := by
  induction l generalizing s with
  | nil => rfl
  | cons e t ih => rw [State.setFs, ih, State.setF_dbg]
@[simp] theorem State.setFs_hold (s : State) (d : Nat) (l : List (Fld × Nat)) : (s.setFs d l).hold = s.hold := by
  induction l generalizing s with
  | nil => rfl
  | cons e t ih => rw [State.setFs, ih, State.setF_hold]
@[simp] theorem State.setFs_core (s : State) (d : Nat) (l : List (Fld × Nat)) : (s.setFs d l).core = s.core := by
  induction l generalizing s with
  | nil => rfl
  | cons e t ih => rw [State.setFs, ih, State.setF_core]
@[simp] theorem State.setFs_fuses (s : State) (d : Nat) (l : List (Fld × Nat)) : (s.setFs d l).fuses = s.fuses := by
  induction l generalizing s with
  | nil => rfl
  | cons e t ih => rw [State.setFs, ih, State.setF_fuses]
@[simp] theorem State.setFs_keys (s : State) (d : Nat) (l : List (Fld × Nat)) : (s.setFs d l).keys = s.keys := by
  induction l generalizing s with
  | nil => rfl
  | cons e t ih => rw [State.setFs, ih, State.setF_keys]
@[simp] theorem State.setFs_err (s : State) (d : Nat) (l : List (Fld × Nat)) : (s.setFs d l).err = s.err := by
  induction l generalizing s with
  | nil => rfl
  | cons e t ih => rw [State.setFs, ih, State.setF_err]
@[simp] theorem State.setFs_nv (s : State) (d : Nat) (l : List (Fld × Nat)) : (s.setFs d l).nv = s.nv := by
  induction l generalizing s with
  | nil => rfl
  | cons e t ih => rw [State.setFs, ih, State.setF_nv]
@[simp] theorem State.setFs_gpio (s : State) (d : Nat) (l : List (Fld × Nat)) : (s.setFs d l).gpio = s.gpio := by
  induction l generalizing s with
  | nil => rfl
  | cons e t ih => rw [State.setFs, ih, State.setF_gpio]
@[simp] theorem State.setFs_freeCtr (s : State) (d : Nat) (l : List (Fld × Nat)) : (s.setFs d l).freeCtr = s.freeCtr := by
  induction l generalizing s with
  | nil => rfl
  | cons e t ih => rw [State.setFs, ih, State.setF_freeCtr]
@[simp] theorem State.setFs_out (s : State) (d : Nat) (l : List (Fld × Nat)) : (s.setFs d l).out = s.out := by
  induction l generalizing s with
  | nil => rfl
  | cons e t ih => rw [State.setFs, ih, State.setF_out]
@[simp] theorem State.setFs_pending (s : State) (d : Nat) (l : List (Fld × Nat)) : (s.setFs d l).pending = s.pending := by
  induction l generalizing s with
  | nil => rfl
  | cons e t ih => rw [State.setFs, ih, State.setF_pending]

/-! ### emit, freeNext -/

@[simp] theorem State.emit_regs (s : State) (x : Out) : (s.emit x).regs = s.regs := by simp only [State.emit]
@[simp] theorem State.emit_time (s : State) (x : Out) : (s.emit x).time = s.time := by simp only [State.emit]
@[simp] theorem State.emit_tick (s : State) (x : Out) : (s.emit x).tick = s.tick := by simp only [State.emit]
@[simp] theorem State.emit_pwr (s : State) (x : Out) : (s.emit x).pwr = s.pwr := by simp only [State.emit]
@[simp] theorem State.emit_fab (s : State) (x : Out) : (s.emit x).fab = s.fab := by simp only [State.emit]
@[simp] theorem State.emit_cmb (s : State) (x : Out) : (s.emit x).cmb = s.cmb := by simp only [State.emit]
@[simp] theorem State.emit_mem (s : State) (x : Out) : (s.emit x).mem = s.mem := by simp only [State.emit]
@[simp] theorem State.emit_rtr (s : State) (x : Out) : (s.emit x).rtr = s.rtr := by simp only [State.emit]
@[simp] theorem State.emit_net (s : State) (x : Out) : (s.emit x).net = s.net := by simp only [State.emit]
@[simp] theorem State.emit_sch (s : State) (x : Out) : (s.emit x).sch = s.sch := by simp only [State.emit]
@[simp] theorem State.emit_probe (s : State) (x : Out) : (s.emit x).probe = s.probe := by simp only [State.emit]
@[simp] theorem State.emit_stats (s : State) (x : Out) : (s.emit x).stats = s.stats := by simp only [State.emit]
@[simp] theorem State.emit_corug (s : State) (x : Out) : (s.emit x).corug = s.corug := by simp only [State.emit]
@[simp] theorem State.emit_acc (s : State) (x : Out) : (s.emit x).acc = s.acc := by simp only [State.emit]
@[simp] theorem State.emit_lq (s : State) (x : Out) : (s.emit x).lq = s.lq := by simp only [State.emit]
@[simp] theorem State.emit_pcie (s : State) (x : Out) : (s.emit x).pcie = s.pcie := by simp only [State.emit]
@[simp] theorem State.emit_ddr (s : State) (x : Out) : (s.emit x).ddr = s.ddr := by simp only [State.emit]
@[simp] theorem State.emit_miu (s : State) (x : Out) : (s.emit x).miu = s.miu := by simp only [State.emit]
@[simp] theorem State.emit_rec_ (s : State) (x : Out) : (s.emit x).rec_ = s.rec_ := by simp only [State.emit]
@[simp] theorem State.emit_statusFenced (s : State) (x : Out) : (s.emit x).statusFenced = s.statusFenced := by simp only [State.emit]
@[simp] theorem State.emit_ita (s : State) (x : Out) : (s.emit x).ita = s.ita := by simp only [State.emit]
@[simp] theorem State.emit_start (s : State) (x : Out) : (s.emit x).start = s.start := by simp only [State.emit]
@[simp] theorem State.emit_jour (s : State) (x : Out) : (s.emit x).jour = s.jour := by simp only [State.emit]
@[simp] theorem State.emit_wake (s : State) (x : Out) : (s.emit x).wake = s.wake := by simp only [State.emit]
@[simp] theorem State.emit_cmd (s : State) (x : Out) : (s.emit x).cmd = s.cmd := by simp only [State.emit]
@[simp] theorem State.emit_dbg (s : State) (x : Out) : (s.emit x).dbg = s.dbg := by simp only [State.emit]
@[simp] theorem State.emit_hold (s : State) (x : Out) : (s.emit x).hold = s.hold := by simp only [State.emit]
@[simp] theorem State.emit_core (s : State) (x : Out) : (s.emit x).core = s.core := by simp only [State.emit]
@[simp] theorem State.emit_fuses (s : State) (x : Out) : (s.emit x).fuses = s.fuses := by simp only [State.emit]
@[simp] theorem State.emit_keys (s : State) (x : Out) : (s.emit x).keys = s.keys := by simp only [State.emit]
@[simp] theorem State.emit_err (s : State) (x : Out) : (s.emit x).err = s.err := by simp only [State.emit]
@[simp] theorem State.emit_nv (s : State) (x : Out) : (s.emit x).nv = s.nv := by simp only [State.emit]
@[simp] theorem State.emit_gpio (s : State) (x : Out) : (s.emit x).gpio = s.gpio := by simp only [State.emit]
@[simp] theorem State.emit_freeCtr (s : State) (x : Out) : (s.emit x).freeCtr = s.freeCtr := by simp only [State.emit]
@[simp] theorem State.emit_pending (s : State) (x : Out) : (s.emit x).pending = s.pending := by simp only [State.emit]
@[simp] theorem State.emit_out (s : State) (x : Out) : (s.emit x).out = s.out ++ [x] := by simp only [State.emit]
@[simp] theorem State.freeNext_regs (s : State) : s.freeNext.regs = s.regs := by simp only [State.freeNext]
@[simp] theorem State.freeNext_time (s : State) : s.freeNext.time = s.time := by simp only [State.freeNext]
@[simp] theorem State.freeNext_tick (s : State) : s.freeNext.tick = s.tick := by simp only [State.freeNext]
@[simp] theorem State.freeNext_pwr (s : State) : s.freeNext.pwr = s.pwr := by simp only [State.freeNext]
@[simp] theorem State.freeNext_fab (s : State) : s.freeNext.fab = s.fab := by simp only [State.freeNext]
@[simp] theorem State.freeNext_cmb (s : State) : s.freeNext.cmb = s.cmb := by simp only [State.freeNext]
@[simp] theorem State.freeNext_mem (s : State) : s.freeNext.mem = s.mem := by simp only [State.freeNext]
@[simp] theorem State.freeNext_rtr (s : State) : s.freeNext.rtr = s.rtr := by simp only [State.freeNext]
@[simp] theorem State.freeNext_net (s : State) : s.freeNext.net = s.net := by simp only [State.freeNext]
@[simp] theorem State.freeNext_sch (s : State) : s.freeNext.sch = s.sch := by simp only [State.freeNext]
@[simp] theorem State.freeNext_probe (s : State) : s.freeNext.probe = s.probe := by simp only [State.freeNext]
@[simp] theorem State.freeNext_stats (s : State) : s.freeNext.stats = s.stats := by simp only [State.freeNext]
@[simp] theorem State.freeNext_corug (s : State) : s.freeNext.corug = s.corug := by simp only [State.freeNext]
@[simp] theorem State.freeNext_acc (s : State) : s.freeNext.acc = s.acc := by simp only [State.freeNext]
@[simp] theorem State.freeNext_lq (s : State) : s.freeNext.lq = s.lq := by simp only [State.freeNext]
@[simp] theorem State.freeNext_pcie (s : State) : s.freeNext.pcie = s.pcie := by simp only [State.freeNext]
@[simp] theorem State.freeNext_ddr (s : State) : s.freeNext.ddr = s.ddr := by simp only [State.freeNext]
@[simp] theorem State.freeNext_miu (s : State) : s.freeNext.miu = s.miu := by simp only [State.freeNext]
@[simp] theorem State.freeNext_rec_ (s : State) : s.freeNext.rec_ = s.rec_ := by simp only [State.freeNext]
@[simp] theorem State.freeNext_statusFenced (s : State) : s.freeNext.statusFenced = s.statusFenced := by simp only [State.freeNext]
@[simp] theorem State.freeNext_ita (s : State) : s.freeNext.ita = s.ita := by simp only [State.freeNext]
@[simp] theorem State.freeNext_start (s : State) : s.freeNext.start = s.start := by simp only [State.freeNext]
@[simp] theorem State.freeNext_jour (s : State) : s.freeNext.jour = s.jour := by simp only [State.freeNext]
@[simp] theorem State.freeNext_wake (s : State) : s.freeNext.wake = s.wake := by simp only [State.freeNext]
@[simp] theorem State.freeNext_cmd (s : State) : s.freeNext.cmd = s.cmd := by simp only [State.freeNext]
@[simp] theorem State.freeNext_dbg (s : State) : s.freeNext.dbg = s.dbg := by simp only [State.freeNext]
@[simp] theorem State.freeNext_hold (s : State) : s.freeNext.hold = s.hold := by simp only [State.freeNext]
@[simp] theorem State.freeNext_core (s : State) : s.freeNext.core = s.core := by simp only [State.freeNext]
@[simp] theorem State.freeNext_fuses (s : State) : s.freeNext.fuses = s.fuses := by simp only [State.freeNext]
@[simp] theorem State.freeNext_keys (s : State) : s.freeNext.keys = s.keys := by simp only [State.freeNext]
@[simp] theorem State.freeNext_err (s : State) : s.freeNext.err = s.err := by simp only [State.freeNext]
@[simp] theorem State.freeNext_nv (s : State) : s.freeNext.nv = s.nv := by simp only [State.freeNext]
@[simp] theorem State.freeNext_gpio (s : State) : s.freeNext.gpio = s.gpio := by simp only [State.freeNext]
@[simp] theorem State.freeNext_out (s : State) : s.freeNext.out = s.out := by simp only [State.freeNext]
@[simp] theorem State.freeNext_pending (s : State) : s.freeNext.pending = s.pending := by simp only [State.freeNext]
@[simp] theorem State.freeNext_freeCtr (s : State) : s.freeNext.freeCtr = s.freeCtr + 1 := by simp only [State.freeNext]

/-! ### fresh -/

@[simp] theorem State.fresh_regs (s : State) : s.fresh.regs = s.regs := by simp only [State.fresh]
@[simp] theorem State.fresh_time (s : State) : s.fresh.time = s.time := by simp only [State.fresh]
@[simp] theorem State.fresh_tick (s : State) : s.fresh.tick = s.tick := by simp only [State.fresh]
@[simp] theorem State.fresh_pwr (s : State) : s.fresh.pwr = s.pwr := by simp only [State.fresh]
@[simp] theorem State.fresh_fab (s : State) : s.fresh.fab = s.fab := by simp only [State.fresh]
@[simp] theorem State.fresh_cmb (s : State) : s.fresh.cmb = s.cmb := by simp only [State.fresh]
@[simp] theorem State.fresh_mem (s : State) : s.fresh.mem = s.mem := by simp only [State.fresh]
@[simp] theorem State.fresh_rtr (s : State) : s.fresh.rtr = s.rtr := by simp only [State.fresh]
@[simp] theorem State.fresh_net (s : State) : s.fresh.net = s.net := by simp only [State.fresh]
@[simp] theorem State.fresh_sch (s : State) : s.fresh.sch = s.sch := by simp only [State.fresh]
@[simp] theorem State.fresh_probe (s : State) : s.fresh.probe = s.probe := by simp only [State.fresh]
@[simp] theorem State.fresh_stats (s : State) : s.fresh.stats = s.stats := by simp only [State.fresh]
@[simp] theorem State.fresh_corug (s : State) : s.fresh.corug = s.corug := by simp only [State.fresh]
@[simp] theorem State.fresh_acc (s : State) : s.fresh.acc = s.acc := by simp only [State.fresh]
@[simp] theorem State.fresh_lq (s : State) : s.fresh.lq = s.lq := by simp only [State.fresh]
@[simp] theorem State.fresh_pcie (s : State) : s.fresh.pcie = s.pcie := by simp only [State.fresh]
@[simp] theorem State.fresh_ddr (s : State) : s.fresh.ddr = s.ddr := by simp only [State.fresh]
@[simp] theorem State.fresh_miu (s : State) : s.fresh.miu = s.miu := by simp only [State.fresh]
@[simp] theorem State.fresh_rec_ (s : State) : s.fresh.rec_ = s.rec_ := by simp only [State.fresh]
@[simp] theorem State.fresh_statusFenced (s : State) : s.fresh.statusFenced = s.statusFenced := by simp only [State.fresh]
@[simp] theorem State.fresh_ita (s : State) : s.fresh.ita = s.ita := by simp only [State.fresh]
@[simp] theorem State.fresh_start (s : State) : s.fresh.start = s.start := by simp only [State.fresh]
@[simp] theorem State.fresh_jour (s : State) : s.fresh.jour = s.jour := by simp only [State.fresh]
@[simp] theorem State.fresh_wake (s : State) : s.fresh.wake = s.wake := by simp only [State.fresh]
@[simp] theorem State.fresh_cmd (s : State) : s.fresh.cmd = s.cmd := by simp only [State.fresh]
@[simp] theorem State.fresh_dbg (s : State) : s.fresh.dbg = s.dbg := by simp only [State.fresh]
@[simp] theorem State.fresh_hold (s : State) : s.fresh.hold = s.hold := by simp only [State.fresh]
@[simp] theorem State.fresh_core (s : State) : s.fresh.core = s.core := by simp only [State.fresh]
@[simp] theorem State.fresh_fuses (s : State) : s.fresh.fuses = s.fuses := by simp only [State.fresh]
@[simp] theorem State.fresh_keys (s : State) : s.fresh.keys = s.keys := by simp only [State.fresh]
@[simp] theorem State.fresh_err (s : State) : s.fresh.err = s.err := by simp only [State.fresh]
@[simp] theorem State.fresh_nv (s : State) : s.fresh.nv = s.nv := by simp only [State.fresh]
@[simp] theorem State.fresh_gpio (s : State) : s.fresh.gpio = s.gpio := by simp only [State.fresh]
@[simp] theorem State.fresh_freeCtr (s : State) : s.fresh.freeCtr = s.freeCtr := by simp only [State.fresh]
@[simp] theorem State.fresh_pending (s : State) : s.fresh.pending = s.pending := by simp only [State.fresh]
@[simp] theorem State.fresh_out (s : State) : s.fresh.out = [] := by simp only [State.fresh]

/-! ### ended -/

@[simp] theorem State.ended_regs (s u : State) : (s.ended u).regs = u.regs := by simp only [State.ended]
@[simp] theorem State.ended_tick (s u : State) : (s.ended u).tick = u.tick := by simp only [State.ended]
@[simp] theorem State.ended_pwr (s u : State) : (s.ended u).pwr = u.pwr := by simp only [State.ended]
@[simp] theorem State.ended_fab (s u : State) : (s.ended u).fab = u.fab := by simp only [State.ended]
@[simp] theorem State.ended_cmb (s u : State) : (s.ended u).cmb = u.cmb := by simp only [State.ended]
@[simp] theorem State.ended_mem (s u : State) : (s.ended u).mem = u.mem := by simp only [State.ended]
@[simp] theorem State.ended_rtr (s u : State) : (s.ended u).rtr = u.rtr := by simp only [State.ended]
@[simp] theorem State.ended_net (s u : State) : (s.ended u).net = u.net := by simp only [State.ended]
@[simp] theorem State.ended_sch (s u : State) : (s.ended u).sch = u.sch := by simp only [State.ended]
@[simp] theorem State.ended_probe (s u : State) : (s.ended u).probe = u.probe := by simp only [State.ended]
@[simp] theorem State.ended_stats (s u : State) : (s.ended u).stats = u.stats := by simp only [State.ended]
@[simp] theorem State.ended_corug (s u : State) : (s.ended u).corug = u.corug := by simp only [State.ended]
@[simp] theorem State.ended_acc (s u : State) : (s.ended u).acc = u.acc := by simp only [State.ended]
@[simp] theorem State.ended_lq (s u : State) : (s.ended u).lq = u.lq := by simp only [State.ended]
@[simp] theorem State.ended_pcie (s u : State) : (s.ended u).pcie = u.pcie := by simp only [State.ended]
@[simp] theorem State.ended_ddr (s u : State) : (s.ended u).ddr = u.ddr := by simp only [State.ended]
@[simp] theorem State.ended_miu (s u : State) : (s.ended u).miu = u.miu := by simp only [State.ended]
@[simp] theorem State.ended_rec_ (s u : State) : (s.ended u).rec_ = u.rec_ := by simp only [State.ended]
@[simp] theorem State.ended_statusFenced (s u : State) : (s.ended u).statusFenced = u.statusFenced := by simp only [State.ended]
@[simp] theorem State.ended_ita (s u : State) : (s.ended u).ita = u.ita := by simp only [State.ended]
@[simp] theorem State.ended_start (s u : State) : (s.ended u).start = u.start := by simp only [State.ended]
@[simp] theorem State.ended_jour (s u : State) : (s.ended u).jour = u.jour := by simp only [State.ended]
@[simp] theorem State.ended_wake (s u : State) : (s.ended u).wake = u.wake := by simp only [State.ended]
@[simp] theorem State.ended_cmd (s u : State) : (s.ended u).cmd = u.cmd := by simp only [State.ended]
@[simp] theorem State.ended_dbg (s u : State) : (s.ended u).dbg = u.dbg := by simp only [State.ended]
@[simp] theorem State.ended_hold (s u : State) : (s.ended u).hold = u.hold := by simp only [State.ended]
@[simp] theorem State.ended_core (s u : State) : (s.ended u).core = u.core := by simp only [State.ended]
@[simp] theorem State.ended_keys (s u : State) : (s.ended u).keys = u.keys := by simp only [State.ended]
@[simp] theorem State.ended_err (s u : State) : (s.ended u).err = u.err := by simp only [State.ended]
@[simp] theorem State.ended_nv (s u : State) : (s.ended u).nv = u.nv := by simp only [State.ended]
@[simp] theorem State.ended_gpio (s u : State) : (s.ended u).gpio = u.gpio := by simp only [State.ended]
@[simp] theorem State.ended_freeCtr (s u : State) : (s.ended u).freeCtr = u.freeCtr := by simp only [State.ended]
@[simp] theorem State.ended_out (s u : State) : (s.ended u).out = u.out := by simp only [State.ended]
@[simp] theorem State.ended_time (s u : State) : (s.ended u).time = s.time := by simp only [State.ended]
@[simp] theorem State.ended_pending (s u : State) : (s.ended u).pending = s.pending := by simp only [State.ended]
@[simp] theorem State.ended_fuses (s u : State) : (s.ended u).fuses = s.fuses := by simp only [State.ended]

/-! ### when, each -/

@[simp] theorem State.when_true (s : State) (f : State → State) : s.when true f = f s := rfl
@[simp] theorem State.when_false (s : State) (f : State → State) : s.when false f = s := rfl
@[simp] theorem State.each_nil {α : Type} (s : State) (f : State → α → State) : s.each [] f = s := rfl
@[simp] theorem State.each_cons {α : Type} (s : State) (a : α) (t : List α) (f : State → α → State) :
    s.each (a :: t) f = (f s a).each t f := rfl

/-- A property that every change keeps is kept by a change for each element. -/
theorem State.each_keeps {α : Type} (P : State → Prop) (f : State → α → State) (l : List α)
    (hf : ∀ s, ∀ a ∈ l, P s → P (f s a)) (s : State) (h : P s) : P (s.each l f) := by
  induction l generalizing s with
  | nil => exact h
  | cons a t ih => exact ih (fun s b hb => hf s b (by simp [hb])) _ (hf s a (by simp) h)

end Sys2Proof.Machine
end

