-- ==== Sys2Proof/Laws/Regs.lean ====
section
/-! SUPPORT. The laws of the register file: a field reads back what was stored in it, and a store leaves every other field alone. -/

namespace Sys2Proof.Machine

/-! ### Fields of a word -/

/-- The number that putBits makes fits a word, so nothing is lost. -/
theorem putBits_toNat (w : Word) (lo len v : Nat) (h : lo + len ≤ 32) :
    (putBits w lo len v).toNat =
      w.toNat / 2 ^ (lo + len) * 2 ^ (lo + len) + v % 2 ^ len * 2 ^ lo + w.toNat % 2 ^ lo := by
  have hw : w.toNat < 2 ^ 32 := w.isLt
  have hv : v % 2 ^ len < 2 ^ len := Nat.mod_lt _ (Nat.two_pow_pos _)
  have hl : w.toNat % 2 ^ lo < 2 ^ lo := Nat.mod_lt _ (Nat.two_pow_pos _)
  have hp : 2 ^ (lo + len) = 2 ^ len * 2 ^ lo := by rw [Nat.pow_add, Nat.mul_comm]
  have h32 : 2 ^ 32 = 2 ^ (32 - (lo + len)) * 2 ^ (lo + len) := by rw [← Nat.pow_add]; congr 1; omega
  have ha : w.toNat / 2 ^ (lo + len) < 2 ^ (32 - (lo + len)) := by
    apply Nat.div_lt_of_lt_mul
    rw [Nat.mul_comm, ← h32]; exact hw
  have hmid : v % 2 ^ len * 2 ^ lo + w.toNat % 2 ^ lo < 2 ^ (lo + len) := by
    rw [hp]
    have h1 : (v % 2 ^ len + 1) * 2 ^ lo ≤ 2 ^ len * 2 ^ lo := Nat.mul_le_mul_right _ hv
    have h2 : (v % 2 ^ len + 1) * 2 ^ lo = v % 2 ^ len * 2 ^ lo + 2 ^ lo := by rw [Nat.add_mul, Nat.one_mul]
    omega
  have hall : w.toNat / 2 ^ (lo + len) * 2 ^ (lo + len) + v % 2 ^ len * 2 ^ lo + w.toNat % 2 ^ lo < 2 ^ 32 := by
    have h1 : (w.toNat / 2 ^ (lo + len) + 1) * 2 ^ (lo + len) ≤ 2 ^ (32 - (lo + len)) * 2 ^ (lo + len) :=
      Nat.mul_le_mul_right _ ha
    rw [Nat.add_mul, Nat.one_mul, ← h32] at h1
    omega
  simp only [putBits, BitVec.toNat_ofNat]
  exact Nat.mod_eq_of_lt hall

/-- A field reads back what was put in it, cut to its length. -/
theorem bitsOf_putBits_same (w : Word) (lo len v : Nat) (h : lo + len ≤ 32) :
    bitsOf (putBits w lo len v) lo len = v % 2 ^ len := by
  unfold bitsOf
  rw [putBits_toNat w lo len v h]
  have hl : w.toNat % 2 ^ lo < 2 ^ lo := Nat.mod_lt _ (Nat.two_pow_pos _)
  have hp : 2 ^ (lo + len) = 2 ^ lo * 2 ^ len := Nat.pow_add _ _ _
  have e : w.toNat / 2 ^ (lo + len) * 2 ^ (lo + len) + v % 2 ^ len * 2 ^ lo + w.toNat % 2 ^ lo =
      2 ^ lo * (w.toNat / 2 ^ (lo + len) * 2 ^ len + v % 2 ^ len) + w.toNat % 2 ^ lo := by
    rw [hp]; ring
  rw [e, Nat.mul_add_div (Nat.two_pow_pos _), Nat.div_eq_of_lt hl, Nat.add_zero, Nat.mul_comm, Nat.mul_add_mod, Nat.mod_mod]

/-- A field that lies apart from the one put reads as before. -/
theorem bitsOf_putBits_apart (w : Word) (lo len v j l : Nat) (h : lo + len ≤ 32) (ha : lo + len ≤ j ∨ j + l ≤ lo) :
    bitsOf (putBits w lo len v) j l = bitsOf w j l := by
  unfold bitsOf
  rw [putBits_toNat w lo len v h]
  have hl : w.toNat % 2 ^ lo < 2 ^ lo := Nat.mod_lt _ (Nat.two_pow_pos _)
  have hv : v % 2 ^ len < 2 ^ len := Nat.mod_lt _ (Nat.two_pow_pos _)
  have hp : 2 ^ (lo + len) = 2 ^ lo * 2 ^ len := Nat.pow_add _ _ _
  rcases ha with ha | ha
  · have hmid : v % 2 ^ len * 2 ^ lo + w.toNat % 2 ^ lo < 2 ^ (lo + len) := by
      rw [hp, Nat.mul_comm (2 ^ lo)]
      have h1 : (v % 2 ^ len + 1) * 2 ^ lo ≤ 2 ^ len * 2 ^ lo := Nat.mul_le_mul_right _ hv
      have h2 : (v % 2 ^ len + 1) * 2 ^ lo = v % 2 ^ len * 2 ^ lo + 2 ^ lo := by rw [Nat.add_mul, Nat.one_mul]
      omega
    have e : 2 ^ j = 2 ^ (lo + len) * 2 ^ (j - (lo + len)) := by rw [← Nat.pow_add]; congr 1; omega
    rw [e, ← Nat.div_div_eq_div_mul, ← Nat.div_div_eq_div_mul, Nat.add_assoc, Nat.mul_comm,
      Nat.mul_add_div (Nat.two_pow_pos _), Nat.div_eq_of_lt hmid, Nat.add_zero]
  · have e1 : ∀ n : Nat, n / 2 ^ j % 2 ^ l = n % 2 ^ lo / 2 ^ j % 2 ^ l := by
      intro n
      have d : 2 ^ lo = 2 ^ j * (2 ^ l * 2 ^ (lo - j - l)) := by
        rw [← Nat.pow_add, ← Nat.pow_add]; congr 1; omega
      rw [d, Nat.mod_mul_right_div_self, Nat.mod_mul_right_mod]
    rw [e1, e1 w.toNat]
    have e2 : (w.toNat / 2 ^ (lo + len) * 2 ^ (lo + len) + v % 2 ^ len * 2 ^ lo + w.toNat % 2 ^ lo) % 2 ^ lo = w.toNat % 2 ^ lo := by
      have e3 : w.toNat / 2 ^ (lo + len) * 2 ^ (lo + len) + v % 2 ^ len * 2 ^ lo + w.toNat % 2 ^ lo =
          2 ^ lo * (w.toNat / 2 ^ (lo + len) * 2 ^ len + v % 2 ^ len) + w.toNat % 2 ^ lo := by rw [hp]; ring
      rw [e3, Nat.mul_add_mod, Nat.mod_mod]
    rw [e2]

/-- A field is smaller than 2 to its length. -/
theorem bitsOf_lt (w : Word) (lo len : Nat) : bitsOf w lo len < 2 ^ len := Nat.mod_lt _ (Nat.two_pow_pos _)

/-! ### Registers -/

/-- Places of different registers have different keys. -/
theorem regKey_inj {d r d' r' : Nat} (hr : r < 0x1000000) (hr' : r' < 0x1000000) (h : regKey d r = regKey d' r') : d = d' ∧ r = r' := by
  unfold regKey at h
  omega

/-- A register reads back what was stored. -/
@[simp] theorem State.rd_wr_same (s : State) (d r : Nat) (v : Word) : (s.wr d r v).rd d r = v := by
  unfold State.rd State.wr
  exact KMap.lookD_putD_same _ _ _ _

/-- A store leaves every other register as it was. -/
theorem State.rd_wr_ne (s : State) (d r d' r' : Nat) (v : Word) (h : regKey d' r' ≠ regKey d r) :
    (s.wr d r v).rd d' r' = s.rd d' r' := by
  unfold State.rd State.wr
  exact KMap.lookD_putD_ne _ _ _ _ _ _ h

/-- A field reads back what was stored, cut to its length. -/
theorem State.f_setF_same (s : State) (d : Nat) (x : Fld) (v : Nat) (h : x.lo + x.len ≤ 32) :
    (s.setF d x v).f d x = v % 2 ^ x.len := by
  unfold State.f State.setF
  rw [State.rd_wr_same, bitsOf_putBits_same _ _ _ _ h]

/-- A field reads back a value that fits it. -/
theorem State.f_setF_fits (s : State) (d : Nat) (x : Fld) (v : Nat) (h : x.lo + x.len ≤ 32) (hv : v < 2 ^ x.len) :
    (s.setF d x v).f d x = v := by
  rw [State.f_setF_same s d x v h, Nat.mod_eq_of_lt hv]

/-- A field of another register reads as before. -/
theorem State.f_setF_reg (s : State) (d d' : Nat) (x y : Fld) (v : Nat) (h : regKey d' y.reg ≠ regKey d x.reg) :
    (s.setF d x v).f d' y = s.f d' y := by
  unfold State.f State.setF
  rw [State.rd_wr_ne _ _ _ _ _ _ h]

/-- A field of the same register that lies apart reads as before. -/
theorem State.f_setF_apart (s : State) (d : Nat) (x y : Fld) (v : Nat) (hr : y.reg = x.reg) (h : x.lo + x.len ≤ 32)
    (ha : x.lo + x.len ≤ y.lo ∨ y.lo + y.len ≤ x.lo) : (s.setF d x v).f d y = s.f d y := by
  unfold State.f State.setF
  rw [hr, State.rd_wr_same, bitsOf_putBits_apart _ _ _ _ _ _ h ha]

/-- A whole register reads as before where another's field is stored. -/
theorem State.rd_setF_ne (s : State) (d d' : Nat) (x : Fld) (r v : Nat) (h : regKey d' r ≠ regKey d x.reg) :
    (s.setF d x v).rd d' r = s.rd d' r := by
  unfold State.setF
  exact State.rd_wr_ne _ _ _ _ _ _ h

/-- A store of a field is a store of its register. -/
theorem State.rd_setF_same (s : State) (d : Nat) (x : Fld) (v : Nat) :
    (s.setF d x v).rd d x.reg = putBits (s.rd d x.reg) x.lo x.len v := by
  unfold State.setF
  exact State.rd_wr_same _ _ _ _

/-- A field is smaller than 2 to its length. -/
theorem State.f_lt (s : State) (d : Nat) (x : Fld) : s.f d x < 2 ^ x.len := bitsOf_lt _ _ _

/-- The register file decides every register read. -/
theorem State.rd_congr {s t : State} (h : t.regs = s.regs) (d r : Nat) : t.rd d r = s.rd d r := by
  unfold State.rd; rw [h]

/-- The register file decides every field read. -/
theorem State.f_congr {s t : State} (h : t.regs = s.regs) (d : Nat) (x : Fld) : t.f d x = s.f d x := by
  unfold State.f; rw [State.rd_congr h]

/-- The register file decides every bit read. -/
theorem State.on_congr {s t : State} (h : t.regs = s.regs) (d : Nat) (x : Fld) : t.on d x = s.on d x := by
  unfold State.on; rw [State.f_congr h]

end Sys2Proof.Machine
end

