-- ==== Sys2Proof/Laws/Frame.lean ====
section
/-! SUPPORT. What the runners and the stores of registers leave alone, said once: the frame of a command whose effect is a chain of stores. -/

namespace Sys2Proof.Machine

/-! ### The runners -/

/-- A command run with `run` answers a next state with the queue, the time and the fuses as they were. -/
theorem run_next (f : State → State) (s t : State) (h : run f s = .next t) :
    t.pending = s.pending ∧ t.time = s.time ∧ t.fuses = s.fuses := by
  unfold run at h
  injection h with h
  subst h
  exact ⟨rfl, rfl, rfl⟩

/-- A command of the timebase answers a next state with the queue and the fuses as they were, and the time that its clock says. -/
theorem runTime_next (c : State → Time) (f : State → State) (s t : State) (h : runTime c f s = .next t) :
    t.pending = s.pending ∧ t.time = c s ∧ t.fuses = s.fuses := by
  unfold runTime at h
  injection h with h
  subst h
  exact ⟨rfl, rfl, rfl⟩

/-- A burn answers a next state with the queue and the time as they were, and the fuses that the burn says. -/
theorem runFuse_next (b : State → Fuses) (f : State → State) (s t : State) (h : runFuse b f s = .next t) :
    t.pending = s.pending ∧ t.time = s.time ∧ t.fuses = b s := by
  unfold runFuse at h
  injection h with h
  subst h
  exact ⟨rfl, rfl, rfl⟩

/-- What a command leaves of the rest, where its effect leaves it. -/
theorem State.ended_rest (s u : State) (h : u.rest = s.rest) : (s.ended u).rest = s.rest := by
  have h1 : u.rest.pending = s.rest.pending := by rw [h]
  have h2 : u.rest.time = s.rest.time := by rw [h]
  have h3 : u.rest.fuses = s.rest.fuses := by rw [h]
  simp only [State.rest] at h1 h2 h3
  rw [← h]
  simp only [State.rest, State.ended, h1, h2, h3]

/-- A command whose effect does nothing puts nothing out and changes nothing. -/
theorem State.ended_fresh (s : State) : s.ended s.fresh = s.fresh := by simp only [State.ended, State.fresh]

/-- The rest of a fresh state. -/
@[simp] theorem State.fresh_rest (s : State) : s.fresh.rest = s.rest := by simp only [State.rest, State.fresh]

/-- A command changes the fields that its effect changes. -/
theorem State.ended_regsOnly {s u : State} {l : List (Nat × Fld)} (h : s.fresh.regsOnly u l) : s.regsOnly (s.ended u) l := by
  refine ⟨fun a ha hl => ?_, State.ended_rest s u (h.2.trans (State.fresh_rest s))⟩
  rw [State.f_congr (State.ended_regs s u)]
  exact (h.1 a ha hl).trans (State.f_congr (State.fresh_regs s) _ _)

/-! ### Fields through a store -/

/-- A field that shares no bit with the one stored reads as before. -/
theorem State.f_setF_clear (s : State) (d d' : Nat) (x y : Fld) (v : Nat) (hx : placed (d, x) = true) (hy : placed (d', y) = true)
    (h : apart (d, x) (d', y) = true) : (s.setF d x v).f d' y = s.f d' y := by
  simp only [placed, Bool.and_eq_true, decide_eq_true_eq] at hx hy
  simp only [apart, Bool.or_eq_true, decide_eq_true_eq] at h
  by_cases hk : regKey d' y.reg = regKey d x.reg
  · obtain ⟨h1, h2⟩ := regKey_inj hy.1 hx.1 hk
    subst h1
    refine State.f_setF_apart s d' x y v h2 hx.2 ?_
    rcases h with ((h | h) | h) | h
    · exact absurd rfl h
    · exact absurd h2.symm h
    · exact Or.inl h
    · exact Or.inr h
  · exact State.f_setF_reg s d d' x y v hk

/-- A field of a register other than the one stored whole reads as before. -/
theorem State.f_wr_clear (s : State) (d d' r : Nat) (y : Fld) (v : Word) (hr : r < 0x1000000) (hy : placed (d', y) = true)
    (h : d ≠ d' ∨ r ≠ y.reg) : (s.wr d r v).f d' y = s.f d' y := by
  simp only [placed, Bool.and_eq_true, decide_eq_true_eq] at hy
  unfold State.f
  rw [State.rd_wr_ne]
  intro hk
  obtain ⟨h1, h2⟩ := regKey_inj hy.1 hr hk
  rcases h with h | h
  · exact h h1.symm
  · exact h h2.symm

/-! ### Chains of stores -/

/-- Nothing changes. -/
theorem State.onlyFields_refl (s : State) (l : List (Nat × Fld)) : s.onlyFields s l := fun _ _ _ => rfl

/-- What leaves the register file alone changes no field. -/
theorem State.onlyFields_regs {s t u : State} {l : List (Nat × Fld)} (h : s.onlyFields t l) (hr : u.regs = t.regs) : s.onlyFields u l :=
  fun a ha hl => (State.f_congr hr a.1 a.2).trans (h a ha hl)

/-- A store of a listed field. -/
theorem State.onlyFields_setF {s t : State} {l : List (Nat × Fld)} (h : s.onlyFields t l) (d : Nat) (x : Fld) (v : Nat)
    (hx : placed (d, x) = true) (hm : (d, x) ∈ l) : s.onlyFields (t.setF d x v) l :=
  fun a ha hl => (State.f_setF_clear t d a.1 x a.2 v hx ha (hl _ hm)).trans (h a ha hl)

/-- A store of a field inside a listed one. -/
theorem State.onlyFields_setF_in {s t : State} {l : List (Nat × Fld)} (h : s.onlyFields t l) (d : Nat) (x y : Fld) (v : Nat)
    (hx : placed (d, x) = true) (hm : (d, y) ∈ l) (hr : x.reg = y.reg) (hlo : y.lo ≤ x.lo) (hhi : x.lo + x.len ≤ y.lo + y.len) :
    s.onlyFields (t.setF d x v) l := by
  intro a ha hl
  refine (State.f_setF_clear t d a.1 x a.2 v hx ha ?_).trans (h a ha hl)
  have := hl _ hm
  simp only [apart, Bool.or_eq_true, decide_eq_true_eq] at this ⊢
  rw [hr]
  omega

/-- A store of a whole listed register. -/
theorem State.onlyFields_wr {s t : State} {l : List (Nat × Fld)} (h : s.onlyFields t l) (d r : Nat) (v : Word) (hr : r < 0x1000000)
    (hm : whole d r ∈ l) : s.onlyFields (t.wr d r v) l := by
  intro a ha hl
  have h1 : apart (d, ⟨r, 0, 32⟩) a = true := hl _ hm
  simp only [apart, Bool.or_eq_true, decide_eq_true_eq] at h1
  have h2 := ha
  simp only [placed, Bool.and_eq_true, decide_eq_true_eq] at h2
  by_cases hz : d ≠ a.1 ∨ r ≠ a.2.reg
  · exact (State.f_wr_clear t d a.1 r a.2 v hr ha hz).trans (h a ha hl)
  · have hlen : a.2.len = 0 := by omega
    unfold State.f bitsOf
    simp [hlen, Nat.mod_one]

/-- More fields may change than did. -/
theorem State.onlyFields_mono {s t : State} {l l' : List (Nat × Fld)} (h : s.onlyFields t l) (hl : ∀ e ∈ l, e ∈ l') : s.onlyFields t l' :=
  fun a ha hk => h a ha (fun e he => hk e (hl e he))

/-- One change after another. -/
theorem State.onlyFields_trans {s t u : State} {l : List (Nat × Fld)} (h : s.onlyFields t l) (h' : t.onlyFields u l) : s.onlyFields u l :=
  fun a ha hl => (h' a ha hl).trans (h a ha hl)

/-- Nothing changes. -/
theorem State.regsOnly_refl (s : State) (l : List (Nat × Fld)) : s.regsOnly s l := ⟨State.onlyFields_refl s l, rfl⟩

/-- A store of a listed field. -/
theorem State.regsOnly_setF {s t : State} {l : List (Nat × Fld)} (h : s.regsOnly t l) (d : Nat) (x : Fld) (v : Nat)
    (hx : placed (d, x) = true) (hm : (d, x) ∈ l) : s.regsOnly (t.setF d x v) l :=
  ⟨State.onlyFields_setF h.1 d x v hx hm, by rw [← h.2]; simp only [State.rest, State.setF, State.wr]⟩

/-! ### Pages -/

/-- Nothing changes. -/
theorem State.onlyPages_refl (s : State) (l : List (Nat × Nat)) : s.onlyPages s l := fun _ _ _ _ => rfl

/-- What leaves the register file alone changes no page. -/
theorem State.onlyPages_regs {s t u : State} {l : List (Nat × Nat)} (h : s.onlyPages t l) (hr : u.regs = t.regs) : s.onlyPages u l :=
  fun d r h1 h2 => (State.rd_congr hr d r).trans (h d r h1 h2)

/-- More pages may change than did. -/
theorem State.onlyPages_mono {s t : State} {l l' : List (Nat × Nat)} (h : s.onlyPages t l) (hl : ∀ e ∈ l, e ∈ l') : s.onlyPages t l' :=
  fun d r h1 h2 => h d r h1 (fun hm => h2 (hl _ hm))

/-- One change after another. -/
theorem State.onlyPages_trans {s t u : State} {l : List (Nat × Nat)} (h : s.onlyPages t l) (h' : t.onlyPages u l) : s.onlyPages u l :=
  fun d r h1 h2 => (h' d r h1 h2).trans (h d r h1 h2)

/-- A store of a register of a listed page. -/
theorem State.onlyPages_wr {s t : State} {l : List (Nat × Nat)} (h : s.onlyPages t l) (d r : Nat) (v : Word) (hr : r < 0x1000000)
    (hm : (d, r / 0x10000) ∈ l) : s.onlyPages (t.wr d r v) l := by
  intro d' r' h1 h2
  refine (State.rd_wr_ne t d r d' r' v ?_).trans (h d' r' h1 h2)
  intro hk
  unfold regKey at hk
  have hd : d' = d := by omega
  have he : r' = r := by omega
  subst hd he
  exact h2 hm

/-- A store of a field of a register of a listed page. -/
theorem State.onlyPages_setF {s t : State} {l : List (Nat × Nat)} (h : s.onlyPages t l) (d : Nat) (x : Fld) (v : Nat) (hr : x.reg < 0x1000000)
    (hm : (d, x.reg / 0x10000) ∈ l) : s.onlyPages (t.setF d x v) l := State.onlyPages_wr h d x.reg _ hr hm

/-- An event bit of a listed page. -/
theorem State.onlyPages_evt {s t : State} {l : List (Nat × Nat)} (h : s.onlyPages t l) (d : Nat) (x : Fld) (hr : x.reg < 0x1000000)
    (hm : (d, x.reg / 0x10000) ∈ l) : s.onlyPages (t.evt d x) l := State.onlyPages_setF h d x 1 hr hm

/-- A counter of a listed page. -/
theorem State.onlyPages_inc {s t : State} {l : List (Nat × Nat)} (h : s.onlyPages t l) (d : Nat) (x : Fld) (n : Nat) (hr : x.reg < 0x1000000)
    (hm : (d, x.reg / 0x10000) ∈ l) : s.onlyPages (t.inc d x n) l := State.onlyPages_setF h d x _ hr hm

/-- Stores of fields of listed pages. -/
theorem State.onlyPages_setFs {s : State} {l : List (Nat × Nat)} (d : Nat) (k : List (Fld × Nat)) :
    ∀ {t : State}, s.onlyPages t l → (∀ e ∈ k, e.1.reg < 0x1000000 ∧ (d, e.1.reg / 0x10000) ∈ l) → s.onlyPages (t.setFs d k) l := by
  induction k with
  | nil => intro t h _; exact h
  | cons e k ih =>
    intro t h hk
    have he := hk e (by simp)
    exact ih (State.onlyPages_setF h d e.1 e.2 he.1 he.2) (fun x hx => hk x (by simp [hx]))

/-- A change that may be left out. -/
theorem State.onlyPages_when {s t : State} {l : List (Nat × Nat)} (c : Bool) {f : State → State} (h : s.onlyPages t l)
    (hf : s.onlyPages (f t) l) : s.onlyPages (t.when c f) l := by
  unfold State.when
  split
  · exact hf
  · exact h

/-- A change over a list, each step of which stays within the pages. -/
theorem State.onlyPages_each {α : Type} {s : State} {l : List (Nat × Nat)} (k : List α) {f : State → α → State}
    (hf : ∀ u x, x ∈ k → s.onlyPages u l → s.onlyPages (f u x) l) : ∀ {t : State}, s.onlyPages t l → s.onlyPages (t.each k f) l := by
  induction k with
  | nil => intro t h; exact h
  | cons x k ih =>
    intro t h
    exact ih (fun u y hy hu => hf u y (by simp [hy]) hu) (hf t x (by simp) h)

/-! ### The rest of the state -/

/-- A store of a register leaves the rest of the state alone. -/
@[simp] theorem State.wr_rest (s : State) (d r : Nat) (v : Word) : (s.wr d r v).rest = s.rest := by simp only [State.rest, State.wr]

/-- A store of a field leaves the rest of the state alone. -/
@[simp] theorem State.setF_rest (s : State) (d : Nat) (x : Fld) (v : Nat) : (s.setF d x v).rest = s.rest := by
  simp only [State.setF, State.wr_rest]

/-- Stores of several fields leave the rest of the state alone. -/
@[simp] theorem State.setFs_rest (s : State) (d : Nat) (l : List (Fld × Nat)) : (s.setFs d l).rest = s.rest := by
  induction l generalizing s with
  | nil => rfl
  | cons e t ih => rw [State.setFs, ih, State.setF_rest]

/-- An event bit leaves the rest of the state alone. -/
@[simp] theorem State.evt_rest (s : State) (d : Nat) (x : Fld) : (s.evt d x).rest = s.rest := by simp only [State.evt, State.setF_rest]

/-- A bit leaves the rest of the state alone. -/
@[simp] theorem State.setB_rest (s : State) (d : Nat) (x : Fld) (b : Bool) : (s.setB d x b).rest = s.rest := by
  simp only [State.setB, State.setF_rest]

/-- A counter leaves the rest of the state alone. -/
@[simp] theorem State.inc_rest (s : State) (d : Nat) (x : Fld) (n : Nat) : (s.inc d x n).rest = s.rest := by
  simp only [State.inc, State.setF_rest]

/-- A largest value leaves the rest of the state alone. -/
@[simp] theorem State.largest_rest (s : State) (d : Nat) (x : Fld) (v : Nat) : (s.largest d x v).rest = s.rest := by
  simp only [State.largest, State.setF_rest]

/-- A pair leaves the rest of the state alone. -/
@[simp] theorem State.wr64_rest (s : State) (d lo hi v : Nat) : (s.wr64 d lo hi v).rest = s.rest := by
  simp only [State.wr64, State.wr_rest]

/-- An output leaves the rest of the state alone. -/
@[simp] theorem State.emit_rest (s : State) (o : Out) : (s.emit o).rest = s.rest := by simp only [State.rest, State.emit]

end Sys2Proof.Machine
end

