-- ==== Sys2Proof/Laws/Fields.lean ====
section
/-! SUPPORT. Fields over the register file alone: `State.f_file` turns a field of a state into a field of its register file, so that a change of
anything else drops out by itself, and the lemmas on `fileF` read through stores. -/

namespace Sys2Proof.Machine

/-- A field of a register file. -/
def fileF (m : KMap Word) (d : Nat) (x : Fld) : Nat := bitsOf (KMap.lookD m (regKey d x.reg) (resetVal d x.reg)) x.lo x.len

/-- A register file with a field stored. -/
def filePut (m : KMap Word) (d : Nat) (x : Fld) (v : Nat) : KMap Word :=
  KMap.putD m (regKey d x.reg) (putBits (KMap.lookD m (regKey d x.reg) (resetVal d x.reg)) x.lo x.len v) (resetVal d x.reg)

/-- A register file with a register stored. -/
def fileWr (m : KMap Word) (d r : Nat) (v : Word) : KMap Word := KMap.putD m (regKey d r) v (resetVal d r)

/-- A register of a register file. -/
def fileRd (m : KMap Word) (d r : Nat) : Word := KMap.lookD m (regKey d r) (resetVal d r)

/-- A field of a state is a field of its register file. -/
theorem State.f_file (s : State) (d : Nat) (x : Fld) : s.f d x = fileF s.regs d x := by unfold State.f State.rd fileF; rfl

/-- A register of a state is a register of its register file. -/
theorem State.rd_file (s : State) (d r : Nat) : s.rd d r = fileRd s.regs d r := by unfold State.rd fileRd; rfl

/-- A bit of a state is a bit of its register file. -/
theorem State.on_file (s : State) (d : Nat) (x : Fld) : s.on d x = (fileF s.regs d x != 0) := by unfold State.on; rw [State.f_file]

/-- The register file after a store of a field. -/
theorem State.setF_regs (s : State) (d : Nat) (x : Fld) (v : Nat) : (s.setF d x v).regs = filePut s.regs d x v := by
  unfold State.setF State.wr State.rd filePut
  dsimp only

/-- The register file after a store of a register. -/
theorem State.wr_regs (s : State) (d r : Nat) (v : Word) : (s.wr d r v).regs = fileWr s.regs d r v := by
  unfold State.wr fileWr
  dsimp only

/-- The register file after an event. -/
theorem State.evt_regs (s : State) (d : Nat) (x : Fld) : (s.evt d x).regs = filePut s.regs d x 1 := by
  unfold State.evt; rw [State.setF_regs]

/-- The register file after a bit. -/
theorem State.setB_regs (s : State) (d : Nat) (x : Fld) (b : Bool) : (s.setB d x b).regs = filePut s.regs d x (if b then 1 else 0) := by
  unfold State.setB; rw [State.setF_regs]

/-- The register file after a count. -/
theorem State.inc_regs (s : State) (d : Nat) (x : Fld) (n : Nat) :
    (s.inc d x n).regs = filePut s.regs d x (min (fileF s.regs d x + n) (2 ^ x.len - 1)) := by
  unfold State.inc; rw [State.setF_regs, State.f_file]

/-- The register file after a largest value. -/
theorem State.largest_regs (s : State) (d : Nat) (x : Fld) (v : Nat) :
    (s.largest d x v).regs = filePut s.regs d x (min (max (fileF s.regs d x) v) (2 ^ x.len - 1)) := by
  unfold State.largest; rw [State.setF_regs, State.f_file]

/-- The register file after stores of several fields. -/
theorem State.setFs_cons (s : State) (d : Nat) (e : Fld × Nat) (l : List (Fld × Nat)) :
    s.setFs d (e :: l) = (s.setF d e.1 e.2).setFs d l := by obtain ⟨x, v⟩ := e; rw [State.setFs]

/-- No stores. -/
theorem State.setFs_nil (s : State) (d : Nat) : s.setFs d [] = s := by rw [State.setFs]

/-- A field reads back what was stored. -/
theorem fileF_put_same (m : KMap Word) (d : Nat) (x : Fld) (v : Nat) (h : x.lo + x.len ≤ 32) : fileF (filePut m d x v) d x = v % 2 ^ x.len := by
  unfold fileF filePut
  rw [KMap.lookD_putD_same, bitsOf_putBits_same _ _ _ _ h]

/-- A field of the same die that shares no bit reads as before. -/
theorem fileF_put_clear (m : KMap Word) (d : Nat) (x y : Fld) (v : Nat) (hx : placed (0, x) = true) (hy : placed (0, y) = true)
    (h : apart (0, x) (0, y) = true) : fileF (filePut m d x v) d y = fileF m d y := by
  have := State.f_setF_clear { State.reset with regs := m } d d x y v hx hy (by simpa [apart] using h)
  rw [State.f_file, State.f_file, State.setF_regs] at this
  exact this

/-- A field of another die reads as before. -/
theorem fileF_put_other (m : KMap Word) (d d' : Nat) (x y : Fld) (v : Nat) (hd : d ≠ d') (hx : placed (0, x) = true) (hy : placed (0, y) = true) :
    fileF (filePut m d x v) d' y = fileF m d' y := by
  have := State.f_setF_clear { State.reset with regs := m } d d' x y v hx hy (by simp [apart, hd])
  rw [State.f_file, State.f_file, State.setF_regs] at this
  exact this

/-- A field of a register other than the one stored reads as before. -/
theorem fileF_wr_clear (m : KMap Word) (d r : Nat) (y : Fld) (v : Word) (hr : r < 0x1000000) (hy : placed (0, y) = true) (h : r ≠ y.reg) :
    fileF (fileWr m d r v) d y = fileF m d y := by
  have := State.f_wr_clear { State.reset with regs := m } d d r y v hr hy (Or.inr h)
  rw [State.f_file, State.f_file, State.wr_regs] at this
  exact this

/-- A field of the register stored. -/
theorem fileF_wr_same (m : KMap Word) (d : Nat) (y : Fld) (v : Word) : fileF (fileWr m d y.reg v) d y = bitsOf v y.lo y.len := by
  unfold fileF fileWr
  rw [KMap.lookD_putD_same]

/-- A register reads back what was stored. -/
theorem fileRd_wr_same (m : KMap Word) (d r : Nat) (v : Word) : fileRd (fileWr m d r v) d r = v := by
  unfold fileRd fileWr
  rw [KMap.lookD_putD_same]

/-- Another register reads as before where a register is stored. -/
theorem fileRd_wr_ne (m : KMap Word) (d r r' : Nat) (v : Word) (h : r' ≠ r) : fileRd (fileWr m d r v) d r' = fileRd m d r' := by
  unfold fileRd fileWr
  rw [KMap.lookD_putD_ne]
  unfold regKey
  omega

/-- Another register reads as before where a field is stored. -/
theorem fileRd_put_ne (m : KMap Word) (d : Nat) (x : Fld) (r v : Nat) (h : r ≠ x.reg) : fileRd (filePut m d x v) d r = fileRd m d r := by
  unfold fileRd filePut
  rw [KMap.lookD_putD_ne]
  unfold regKey
  omega

end Sys2Proof.Machine
end

