-- ==== Sys2Proof/Laws/Runs.lean ====
section
/-! SUPPORT. Which runner each command uses, said once for all of them. -/

namespace Sys2Proof.Machine

/-- The commands that run with a clock of their own, or burn fuses. -/
def special (c : Instr) : Bool :=
  match c with
  | .timebaseLock _ | .tickBoundary _ | .quietWindowOpen _ | .segmentCommit _ _ | .heartbeatCheck | .joinLoad _ | .fuseBurnDone _ => true
  | _ => false

/-- Every other command runs with `run`. -/
theorem exec_run (c : Instr) (h : special c = false) (s : State) : ∃ f, exec c s = run f s := by
  cases c
  case powerGood => exact ⟨_, exec_powerGood ..⟩
  case safeoscReady => exact ⟨_, exec_safeoscReady ..⟩
  case vauxLoss => exact ⟨_, exec_vauxLoss ..⟩
  case sysrstAssert => exact ⟨_, exec_sysrstAssert ..⟩
  case timebaseLock => exact absurd h (by simp [special])
  case s1LockWaitRecord => exact ⟨_, exec_s1LockWaitRecord ..⟩
  case clockMonitorFault => exact ⟨_, exec_clockMonitorFault ..⟩
  case tickBoundary => exact absurd h (by simp [special])
  case quietWindowOpen => exact absurd h (by simp [special])
  case segmentCommit => exact absurd h (by simp [special])
  case heartbeatCheck => exact absurd h (by simp [special])
  case tickArm => exact ⟨_, exec_tickArm ..⟩
  case tickCancel => exact ⟨_, exec_tickCancel ..⟩
  case slackOverrun => exact ⟨_, exec_slackOverrun ..⟩
  case registerWrite => exact ⟨_, exec_registerWrite ..⟩
  case readClearRegister => exact ⟨_, exec_readClearRegister ..⟩
  case startStepEnd => exact ⟨_, exec_startStepEnd ..⟩
  case startStepTimeout => exact ⟨_, exec_startStepTimeout ..⟩
  case journalRecordWrite => exact ⟨_, exec_journalRecordWrite ..⟩
  case journalEraseDone => exact ⟨_, exec_journalEraseDone ..⟩
  case wakeGovernorAdmit => exact ⟨_, exec_wakeGovernorAdmit ..⟩
  case releaseRampStep => exact ⟨_, exec_releaseRampStep ..⟩
  case regionDrainIdle => exact ⟨_, exec_regionDrainIdle ..⟩
  case regionDrainTimeout => exact ⟨_, exec_regionDrainTimeout ..⟩
  case containerHeaderCheck => exact ⟨_, exec_containerHeaderCheck ..⟩
  case frameRecord => exact ⟨_, exec_frameRecord ..⟩
  case segmentVerify => exact ⟨_, exec_segmentVerify ..⟩
  case regionFillDone => exact ⟨_, exec_regionFillDone ..⟩
  case powerOnFillDone => exact ⟨_, exec_powerOnFillDone ..⟩
  case cmbResidueMismatch => exact ⟨_, exec_cmbResidueMismatch ..⟩
  case cmbMismatchReport => exact ⟨_, exec_cmbMismatchReport ..⟩
  case cmberrRecPop => exact ⟨_, exec_cmberrRecPop ..⟩
  case memoryPortRead => exact ⟨_, exec_memoryPortRead ..⟩
  case memoryPortWrite => exact ⟨_, exec_memoryPortWrite ..⟩
  case memorySleep => exact ⟨_, exec_memorySleep ..⟩
  case memoryWakeDone => exact ⟨_, exec_memoryWakeDone ..⟩
  case memoryWindowRequest => exact ⟨_, exec_memoryWindowRequest ..⟩
  case memoryWindowBusy => exact ⟨_, exec_memoryWindowBusy ..⟩
  case meccReport => exact ⟨_, exec_meccReport ..⟩
  case meccRecPop => exact ⟨_, exec_meccRecPop ..⟩
  case meccInjWrite => exact ⟨_, exec_meccInjWrite ..⟩
  case nocRequestIssue => exact ⟨_, exec_nocRequestIssue ..⟩
  case heldRequestAdmit => exact ⟨_, exec_heldRequestAdmit ..⟩
  case nocFence => exact ⟨_, exec_nocFence ..⟩
  case routerHeader => exact ⟨_, exec_routerHeader ..⟩
  case targetRequest => exact ⟨_, exec_targetRequest ..⟩
  case niResponse => exact ⟨_, exec_niResponse ..⟩
  case notify => exact ⟨_, exec_notify ..⟩
  case retryReissue => exact ⟨_, exec_retryReissue ..⟩
  case nocResponseTimeout => exact ⟨_, exec_nocResponseTimeout ..⟩
  case scheduleSwapArm => exact ⟨_, exec_scheduleSwapArm ..⟩
  case scheduleSwapCancel => exact ⟨_, exec_scheduleSwapCancel ..⟩
  case scheduleBankCheckDone => exact ⟨_, exec_scheduleBankCheckDone ..⟩
  case probeEnable => exact ⟨_, exec_probeEnable ..⟩
  case probeDisable => exact ⟨_, exec_probeDisable ..⟩
  case probeForceTrigger => exact ⟨_, exec_probeForceTrigger ..⟩
  case probeForceStop => exact ⟨_, exec_probeForceStop ..⟩
  case probeTrigEdge => exact ⟨_, exec_probeTrigEdge ..⟩
  case probeTraceWrite => exact ⟨_, exec_probeTraceWrite ..⟩
  case probeTraceWriteDone => exact ⟨_, exec_probeTraceWriteDone ..⟩
  case statsCapture => exact ⟨_, exec_statsCapture ..⟩
  case statsClear => exact ⟨_, exec_statsClear ..⟩
  case statsPin => exact ⟨_, exec_statsPin ..⟩
  case statsUnpin => exact ⟨_, exec_statsUnpin ..⟩
  case tunnelFrame => exact ⟨_, exec_tunnelFrame ..⟩
  case streamSlot => exact ⟨_, exec_streamSlot ..⟩
  case corugTrain => exact ⟨_, exec_corugTrain ..⟩
  case corugTrainDone => exact ⟨_, exec_corugTrainDone ..⟩
  case corugUnfence => exact ⟨_, exec_corugUnfence ..⟩
  case corugResync => exact ⟨_, exec_corugResync ..⟩
  case fenceNotice => exact ⟨_, exec_fenceNotice ..⟩
  case edgeNoValidFrames => exact ⟨_, exec_edgeNoValidFrames ..⟩
  case statusLinkFence => exact ⟨_, exec_statusLinkFence ..⟩
  case statusLinkFrame => exact ⟨_, exec_statusLinkFrame ..⟩
  case ucieDiscoveryReply => exact ⟨_, exec_ucieDiscoveryReply ..⟩
  case ucieDiscoveryTimeout => exact ⟨_, exec_ucieDiscoveryTimeout ..⟩
  case ucieUnit => exact ⟨_, exec_ucieUnit ..⟩
  case uciePartnerRequest => exact ⟨_, exec_uciePartnerRequest ..⟩
  case ucieLinkDown => exact ⟨_, exec_ucieLinkDown ..⟩
  case ucieAdmit => exact ⟨_, exec_ucieAdmit ..⟩
  case ucieDown => exact ⟨_, exec_ucieDown ..⟩
  case laneRetrain => exact ⟨_, exec_laneRetrain ..⟩
  case laneStop => exact ⟨_, exec_laneStop ..⟩
  case laneStart => exact ⟨_, exec_laneStart ..⟩
  case lanePllWrite => exact ⟨_, exec_lanePllWrite ..⟩
  case trainingBlock => exact ⟨_, exec_trainingBlock ..⟩
  case trainingRoundEnd => exact ⟨_, exec_trainingRoundEnd ..⟩
  case trainingTimeout => exact ⟨_, exec_trainingTimeout ..⟩
  case laneBlock => exact ⟨_, exec_laneBlock ..⟩
  case alignBlock => exact ⟨_, exec_alignBlock ..⟩
  case perstAssert => exact ⟨_, exec_perstAssert ..⟩
  case pcieHotReset => exact ⟨_, exec_pcieHotReset ..⟩
  case pcieFlr => exact ⟨_, exec_pcieFlr ..⟩
  case pcieLinkDown => exact ⟨_, exec_pcieLinkDown ..⟩
  case pcieLinkUp => exact ⟨_, exec_pcieLinkUp ..⟩
  case pcieHostRequest => exact ⟨_, exec_pcieHostRequest ..⟩
  case dmaTailWrite => exact ⟨_, exec_dmaTailWrite ..⟩
  case dmaQueueEnable => exact ⟨_, exec_dmaQueueEnable ..⟩
  case dmaQueueDisable => exact ⟨_, exec_dmaQueueDisable ..⟩
  case dmaDescriptorDone => exact ⟨_, exec_dmaDescriptorDone ..⟩
  case hostDoorbell => exact ⟨_, exec_hostDoorbell ..⟩
  case hello => exact ⟨_, exec_hello ..⟩
  case fstart => exact ⟨_, exec_fstart ..⟩
  case ack => exact ⟨_, exec_ack ..⟩
  case nak => exact ⟨_, exec_nak ..⟩
  case replayTimeout => exact ⟨_, exec_replayTimeout ..⟩
  case goodbye => exact ⟨_, exec_goodbye ..⟩
  case helloTimeout => exact ⟨_, exec_helloTimeout ..⟩
  case portRetryTimeout => exact ⟨_, exec_portRetryTimeout ..⟩
  case itaPortDownOp => exact ⟨_, exec_itaPortDownOp ..⟩
  case itaPortUpOp => exact ⟨_, exec_itaPortUpOp ..⟩
  case itaRejoin => exact ⟨_, exec_itaRejoin ..⟩
  case itaRehome => exact ⟨_, exec_itaRehome ..⟩
  case tsync => exact ⟨_, exec_tsync ..⟩
  case calibrationTimeout => exact ⟨_, exec_calibrationTimeout ..⟩
  case timeFrame => exact ⟨_, exec_timeFrame ..⟩
  case joinReq => exact ⟨_, exec_joinReq ..⟩
  case joinGrant => exact ⟨_, exec_joinGrant ..⟩
  case joinRefuse => exact ⟨_, exec_joinRefuse ..⟩
  case joinLoad => exact absurd h (by simp [special])
  case routeAdd => exact ⟨_, exec_routeAdd ..⟩
  case routeDel => exact ⟨_, exec_routeDel ..⟩
  case report => exact ⟨_, exec_report ..⟩
  case reportSend => exact ⟨_, exec_reportSend ..⟩
  case eventFrame => exact ⟨_, exec_eventFrame ..⟩
  case itaEvsend => exact ⟨_, exec_itaEvsend ..⟩
  case evtSend => exact ⟨_, exec_evtSend ..⟩
  case itaHevPop => exact ⟨_, exec_itaHevPop ..⟩
  case remoteMemoryRequest => exact ⟨_, exec_remoteMemoryRequest ..⟩
  case remoteMemoryResponse => exact ⟨_, exec_remoteMemoryResponse ..⟩
  case commandFrame => exact ⟨_, exec_commandFrame ..⟩
  case cmdHsubmit => exact ⟨_, exec_cmdHsubmit ..⟩
  case commandCheck => exact ⟨_, exec_commandCheck ..⟩
  case counterCheckpointDone => exact ⟨_, exec_counterCheckpointDone ..⟩
  case fuseBurnDone => exact absurd h (by simp [special])
  case loadPersonality => exact ⟨_, exec_loadPersonality ..⟩
  case loadRegion => exact ⟨_, exec_loadRegion ..⟩
  case setLifecycle => exact ⟨_, exec_setLifecycle ..⟩
  case rekey => exact ⟨_, exec_rekey ..⟩
  case keyLoad => exact ⟨_, exec_keyLoad ..⟩
  case dieReset => exact ⟨_, exec_dieReset ..⟩
  case dieResetRelease => exact ⟨_, exec_dieResetRelease ..⟩
  case bistEnter => exact ⟨_, exec_bistEnter ..⟩
  case spareCommit => exact ⟨_, exec_spareCommit ..⟩
  case pprCommit => exact ⟨_, exec_pprCommit ..⟩
  case eraseJournal => exact ⟨_, exec_eraseJournal ..⟩
  case debugUnlock => exact ⟨_, exec_debugUnlock ..⟩
  case setTimeRoot => exact ⟨_, exec_setTimeRoot ..⟩
  case provisionDataWrite => exact ⟨_, exec_provisionDataWrite ..⟩
  case provisionBurn => exact ⟨_, exec_provisionBurn ..⟩
  case ddrRetrain => exact ⟨_, exec_ddrRetrain ..⟩
  case ddrTrainingDone => exact ⟨_, exec_ddrTrainingDone ..⟩
  case ddrAlert => exact ⟨_, exec_ddrAlert ..⟩
  case ddrRequest => exact ⟨_, exec_ddrRequest ..⟩
  case refreshPoint => exact ⟨_, exec_refreshPoint ..⟩
  case dimmTempRead => exact ⟨_, exec_dimmTempRead ..⟩
  case ddrSetCommit => exact ⟨_, exec_ddrSetCommit ..⟩
  case ddrRecPop => exact ⟨_, exec_ddrRecPop ..⟩
  case pprRepairDone => exact ⟨_, exec_pprRepairDone ..⟩
  case miuRangeEnable => exact ⟨_, exec_miuRangeEnable ..⟩
  case miuRangeDisable => exact ⟨_, exec_miuRangeDisable ..⟩
  case miuSweepDone => exact ⟨_, exec_miuSweepDone ..⟩
  case miuRequest => exact ⟨_, exec_miuRequest ..⟩
  case miuMetadataFetchDone => exact ⟨_, exec_miuMetadataFetchDone ..⟩
  case miuRecPop => exact ⟨_, exec_miuRecPop ..⟩
  case recordPortWord => exact ⟨_, exec_recordPortWord ..⟩
  case recordWriteAnswer => exact ⟨_, exec_recordWriteAnswer ..⟩
  case recordSegBind => exact ⟨_, exec_recordSegBind ..⟩
  case recordSegUnbind => exact ⟨_, exec_recordSegUnbind ..⟩
  case dirDefine => exact ⟨_, exec_dirDefine ..⟩
  case dirRelease => exact ⟨_, exec_dirRelease ..⟩
  case dirEmpty => exact ⟨_, exec_dirEmpty ..⟩
  case pwrfail => exact ⟨_, exec_pwrfail ..⟩
  case powerFailFlushDone => exact ⟨_, exec_powerFailFlushDone ..⟩
  case queryGo => exact ⟨_, exec_queryGo ..⟩
  case queryCancel => exact ⟨_, exec_queryCancel ..⟩
  case queryClear => exact ⟨_, exec_queryClear ..⟩
  case queryDone => exact ⟨_, exec_queryDone ..⟩
  case stagingPush => exact ⟨_, exec_stagingPush ..⟩
  case stagingAbort => exact ⟨_, exec_stagingAbort ..⟩
  case stagingTimeout => exact ⟨_, exec_stagingTimeout ..⟩
  case personalityDeadline => exact ⟨_, exec_personalityDeadline ..⟩
  case nvmRead => exact ⟨_, exec_nvmRead ..⟩
  case nvmProgram => exact ⟨_, exec_nvmProgram ..⟩
  case nvmErase => exact ⟨_, exec_nvmErase ..⟩
  case nvmTransferDone => exact ⟨_, exec_nvmTransferDone ..⟩
  case coreLoad => exact ⟨_, exec_coreLoad ..⟩
  case coreLoadDone => exact ⟨_, exec_coreLoadDone ..⟩
  case coreCtrlReset => exact ⟨_, exec_coreCtrlReset ..⟩
  case watchdogStart => exact ⟨_, exec_watchdogStart ..⟩
  case watchdogKick => exact ⟨_, exec_watchdogKick ..⟩
  case watchdogExpiry => exact ⟨_, exec_watchdogExpiry ..⟩
  case heartbeatKick => exact ⟨_, exec_heartbeatKick ..⟩
  case lockstepMismatch => exact ⟨_, exec_lockstepMismatch ..⟩
  case mailboxPush => exact ⟨_, exec_mailboxPush ..⟩
  case mailboxPop => exact ⟨_, exec_mailboxPop ..⟩
  case coreBusAccess => exact ⟨_, exec_coreBusAccess ..⟩
  case portAccess => exact ⟨_, exec_portAccess ..⟩
  case errorReport => exact ⟨_, exec_errorReport ..⟩
  case errLogPop => exact ⟨_, exec_errLogPop ..⟩
  case errFailRegion => exact ⟨_, exec_errFailRegion ..⟩
  case scrubBackgroundRead => exact ⟨_, exec_scrubBackgroundRead ..⟩
  case agingMeasure => exact ⟨_, exec_agingMeasure ..⟩
  case wearMapWriteDone => exact ⟨_, exec_wearMapWriteDone ..⟩
  case fabricPllUnlock => exact ⟨_, exec_fabricPllUnlock ..⟩
  case fabricPllRelock => exact ⟨_, exec_fabricPllRelock ..⟩
  case freqMeterStart => exact ⟨_, exec_freqMeterStart ..⟩
  case freqMeterDone => exact ⟨_, exec_freqMeterDone ..⟩
  case clockGateRequest => exact ⟨_, exec_clockGateRequest ..⟩
  case clockGateOpen => exact ⟨_, exec_clockGateOpen ..⟩
  case clockGateIdleAck => exact ⟨_, exec_clockGateIdleAck ..⟩
  case clockGateTimeout => exact ⟨_, exec_clockGateTimeout ..⟩
  case railSample => exact ⟨_, exec_railSample ..⟩
  case coreRailRecover => exact ⟨_, exec_coreRailRecover ..⟩
  case throttleWindowEnd => exact ⟨_, exec_throttleWindowEnd ..⟩
  case thermalSample => exact ⟨_, exec_thermalSample ..⟩
  case gpioFuncWrite => exact ⟨_, exec_gpioFuncWrite ..⟩
  case gpioSwitchEnd => exact ⟨_, exec_gpioSwitchEnd ..⟩
  case adcConversion => exact ⟨_, exec_adcConversion ..⟩
  case timerCapture => exact ⟨_, exec_timerCapture ..⟩
  case triggerOwnWrite => exact ⟨_, exec_triggerOwnWrite ..⟩
  case triggerDriveWrite => exact ⟨_, exec_triggerDriveWrite ..⟩
  case triggerEdge => exact ⟨_, exec_triggerEdge ..⟩
  case triggerPulseEnd => exact ⟨_, exec_triggerPulseEnd ..⟩
  case dbgClaim => exact ⟨_, exec_dbgClaim ..⟩
  case dbgRelease => exact ⟨_, exec_dbgRelease ..⟩
  case dbgBmRead => exact ⟨_, exec_dbgBmRead ..⟩
  case dbgBmWrite => exact ⟨_, exec_dbgBmWrite ..⟩
  case dbgBmDone => exact ⟨_, exec_dbgBmDone ..⟩
  case jtagDbgpathUpdate => exact ⟨_, exec_jtagDbgpathUpdate ..⟩
  case coreHalt => exact ⟨_, exec_coreHalt ..⟩
  case coreResume => exact ⟨_, exec_coreResume ..⟩
  case coreStep => exact ⟨_, exec_coreStep ..⟩
  case coreIfeed => exact ⟨_, exec_coreIfeed ..⟩
  case coreEbreakHalt => exact ⟨_, exec_coreEbreakHalt ..⟩
  case dtxWrite => exact ⟨_, exec_dtxWrite ..⟩
  case drxRead => exact ⟨_, exec_drxRead ..⟩
  case drxDebuggerWrite => exact ⟨_, exec_drxDebuggerWrite ..⟩
  case dtxAck => exact ⟨_, exec_dtxAck ..⟩
  case mdataAccess => exact ⟨_, exec_mdataAccess ..⟩
  case bistStart => exact ⟨_, exec_bistStart ..⟩
  case bistAbort => exact ⟨_, exec_bistAbort ..⟩
  case bistDieStart => exact ⟨_, exec_bistDieStart ..⟩
  case bistDieDone => exact ⟨_, exec_bistDieDone ..⟩
  case perstRelease => exact ⟨_, exec_perstRelease ..⟩
  case ucieLinkTrained => exact ⟨_, exec_ucieLinkTrained ..⟩
  case lanePllLocked => exact ⟨_, exec_lanePllLocked ..⟩
  case lanePllLockLost => exact ⟨_, exec_lanePllLockLost ..⟩
  case corugMarginLow => exact ⟨_, exec_corugMarginLow ..⟩
  case corugSwapDone => exact ⟨_, exec_corugSwapDone ..⟩
  case dirMirrorRebuildDone => exact ⟨_, exec_dirMirrorRebuildDone ..⟩
  case machineTimerInterrupt => exact ⟨_, exec_machineTimerInterrupt ..⟩
  case triggerPulseStart => exact ⟨_, exec_triggerPulseStart ..⟩
  case timerPulseEnd => exact ⟨_, exec_timerPulseEnd ..⟩

/-- So every other command leaves the queue, the time and the fuses as they were. -/
theorem exec_run_frame (c : Instr) (h : special c = false) (s t : State) (ht : exec c s = .next t) :
    t.pending = s.pending ∧ t.time = s.time ∧ t.fuses = s.fuses := by
  obtain ⟨f, hf⟩ := exec_run c h s
  exact run_next f s t (hf.symm.trans ht)

end Sys2Proof.Machine
end

