-- ==== Sys2Proof/Laws/Reset.lean ====
section
/-! SUPPORT. What applying the fuses leaves alone: the supply, the clocks and which dies are out of reset. -/

namespace Sys2Proof.Machine

/-- Skipping a wire at one end of a module leaves the supply alone. -/
@[simp] theorem skipEnd_pwr (w d m : Nat) (rx : Bool) (s : State) : (skipEnd w d m rx s).pwr = s.pwr := by
  simp [skipEnd, corugOut, apply_ite State.pwr]

/-- Skipping a wire of a module leaves the supply alone. -/
@[simp] theorem skipWire_pwr (d m : Nat) (rx : Bool) (w : Nat) (s : State) : (skipWire d m rx w s).pwr = s.pwr := by
  unfold skipWire; split <;> simp

/-- An assignment in the fuses leaves the supply alone. -/
@[simp] theorem fusedAssign_pwr (b : BitVec 128) (s : State) : (fusedAssign b s).pwr = s.pwr := by
  unfold fusedAssign
  dsimp only
  split <;> simp [poolTaken, State.setBlk, laneSpare]

/-- The fuses of a die leave the supply alone. -/
@[simp] theorem fusedDie_pwr (d : Nat) (s : State) : (fusedDie d s).pwr = s.pwr := by
  unfold fusedDie
  apply State.each_keeps (fun t => t.pwr = s.pwr)
  · intro t b hb h
    simp only [apply_ite State.pwr, fusedAssign_pwr, h, ite_self]
  · apply State.each_keeps (fun t => t.pwr = s.pwr)
    · intro t b hb h; simp [h]
    · rfl

/-- The fuses of all dies leave the supply alone. -/
@[simp] theorem fusedAll_pwr (s : State) : (fusedAll s).pwr = s.pwr := by
  unfold fusedAll
  apply State.each_keeps (fun t => t.pwr = s.pwr)
  · intro t b hb h; simp [h]
  · rfl

end Sys2Proof.Machine
end

