-- ==== Sys2Proof/Tests/Slice0.lean ====
section
/-! SUPPORT. Tests: for each clause of each statement a state and operands that meet its hypotheses, the spec's own examples, and
ill-formed operands that `wf` refuses. -/

set_option linter.unusedVariables false

namespace Sys2Proof.Tests

set_option Elab.async false

open Sys2Proof.Machine

/-- A running device: every die out of reset, the timebase running at tick 5, the start sequence over, life cycle 2. -/
def base : State :=
  { State.reset with
    pwr := { railsGood := true, oscReady := true, refselPin := 0, perst := false,
             live := [(0, true), (1, true), (2, true), (3, true), (4, true), (5, true), (6, true), (7, true), (8, true), (9, true)] },
    tick := { tb := .running }, time := ⟨10240, 5, 10240, 2048, 256⟩ }

/-- A state with fields stored. -/
def st (l : List (Nat × Fld × Nat)) (s : State := base) : State := l.foldl (fun s e => s.setF e.1 e.2.1 e.2.2) s

/-- A device header with every field zero but the upstream path, which is the host. -/
def hostDev : DevHdr :=
  { compat := [], role := 0, idMode := 0, fixedId := 0, h := 0, persSrc := 0, nvmMhz := 0, pcieIds := 0, classRev := 0, deadline := 0,
    allow := [], ddrGrade := 0, ddrReq := 0, upstream := 8, sets := [], parts := [] }

/-- A header of type t with the given segments. -/
def hdrOf (t : Byte) (segs : List Seg) : Header :=
  { magic := 0x4D49564F, version := 1, ctype := t, flags := 0, part := 0x7160, dieMap := 0x3FF, minFab := 0, minIo := 0,
    count := BitVec.ofNat 16 segs.length, uid := 0, design := 7, length := 40000, area := .none, segs := segs, key := 0, sig := 0 }

/-- A frame segment for a region. -/
def segOf (ty die region : Byte) (off len : Word) : Seg :=
  { ty := ty, die := die, region := region, flags := 0, off := off, len := len, nonce := 0, design := 5, digest := 0 }

/-- A load of two regions in a phase: region 1 of die 2 and region 3 of die 9. -/
def loadOf (phase : Nat) : Load :=
  { kind := 6, src := 2, addr := 0, digest := none, phase := phase,
    hdr := some (hdrOf 6 [segOf 1 2 1 32768 520, segOf 1 9 3 33792 520]) }

/-! ### The spec's own examples, each for one operation or one step -/

/-- What a command leaves in the next state. -/
def after {α : Type} (c : Instr) (s : State) (f : State → α) : Option α :=
  match exec c s with
  | .next t => some (f t)
  | _ => none

/-- The value that a command puts out last. -/
def lastOut (c : Instr) (s : State) : Option Out := (after c s (fun t => t.out.getLast?)).join

/-- R15: the TICK page of IOS and the CMB error page of FD5 are control space of dies 0 and 7 (chapter 00). -/
theorem test_addresses_of_the_scope_chapter :
    base.decodeAddr 0xF00000010000 4 = some [⟨0, 0, 0xF00000010000, 4⟩] ∧ base.decodeAddr 0xF00007740000 4 = some [⟨7, 0, 0xF00007740000, 4⟩] ∧
    base.decodeAddr (0x800000000000 + 145 * 0x40000000) 8 = some [⟨8, 0x41, 0x802440000000, 8⟩] := by decide

/-- R20 and the example of "Package, Dies and Floorplan": from IOS (2, 0) to FD7 (13, 7) the way is x first, then up column 13. -/
theorem test_route_of_the_floorplan_example :
    outPort 2 0 { dstX := 13, dstY := 7 } = 1 ∧ outPort 13 0 { dstX := 13, dstY := 7 } = 3 ∧ dieIndex 13 1 = 5 ∧ dieIndex 13 5 = 9 := by
  decide

/-- Region 14 of FD5 stands at router (6, 7), channel 2 at (10, 0) ("Network on Chip: Transport"). -/
theorem test_routers_of_the_capture_example : epRouter 7 0x4E = some (6, 7) ∧ epRouter 0 0x0A = some (10, 0) := by decide

/-- R69: at tick 5,000 an AT of 5,017 is accepted and one of 5,016 is refused with reason 1. -/
theorem test_arm_17_ticks_ahead :
    armReason false (st [(0, TICK_ROLE_root, 1), (0, TICK_NEXT_P_value, 4096), (0, TICK_NEXT_Q_value, 512)]
      ({ base with time := ⟨10240700, 5000, 10240000, 2048, 256⟩ }.wr64 0 TICK_AT_LO TICK_AT_HI 5017)) = 0 ∧
    armReason false (st [(0, TICK_ROLE_root, 1), (0, TICK_NEXT_P_value, 4096), (0, TICK_NEXT_Q_value, 512)]
      ({ base with time := ⟨10240700, 5000, 10240000, 2048, 256⟩ }.wr64 0 TICK_AT_LO TICK_AT_HI 5016)) = 1 := by decide

/-- R80: a late segment commit of IOS by 320 tb reads 0x0140_0220 from TICK_OVR_SRC ("Tick and Timebase"). -/
theorem test_overrun_source :
    after (.slackOverrun (.duty 0 2) 5 2368 320 {}) base (fun t => t.rd 0 TICK_OVR_SRC) = some 0x01400220#32 := by decide

/-- The filter block of "Checked Arithmetic": P and its carried residue. -/
theorem test_filter_block :
    let k := cmbCycle { mode := 0, pre := true }
      { a := 1517, b := BitVec.ofInt 32 (-20931), d := BitVec.ofInt 27 (-402), zsel := 3, cin := BitVec.ofInt 80 4096200, cinR0 := 135 } false {}
    k.acc.toNat % 2 ^ 64 = 0xFFFFFFFFFEDA6477 ∧ k.r0 = 180 := by decide

/-- Its checks pass, and fail as kind 1 with bit 20 of the register upset. -/
theorem test_filter_block_upset :
    let x : CmbIn := { a := 1517, b := BitVec.ofInt 32 (-20931), d := BitVec.ofInt 27 (-402), zsel := 3, cin := BitVec.ofInt 80 4096200, cinR0 := 135 }
    let k := cmbCycle { mode := 0, pre := true } x false {}
    cmbChecks { mode := 0, pre := true } x k = [] ∧ cmbChecks { mode := 0, pre := true } x (k.upset { acc := 0x100000 }) = [1] := by decide

/-- The record of that block reads 0x0074_2A37. -/
theorem test_cmb_record_word : (CmbReport.mk 7 163 [1] 0 14 2000000 true).word = 0x00742A37#32 := by decide

/-- The memory record of the worked example of "Block and Deep Memories". -/
theorem test_memory_record_words :
    (({ deep := true, col := 3, row := 58, kind := 0, source := 0, region := 13, word := 0x347, bit := 13, tick := 3141000 } : MemReport)).words =
      (0x00698743#32, 0x0000D347#32, 0x002FED88#32) := by decide

/-- Its read: byte address 0x1A3D of the word with bit 13 flipped gives the corrected word rotated by 5 lanes, RD_ECC 1. -/
theorem test_memory_rotated_read :
    lastOut (.memoryPortRead ⟨1, true, 3, 58⟩ { rotate := true } 0x1A3D 0x2000 false)
      (base.setMemWord ⟨1, true, 3, 58⟩ 0x347 ⟨0x8877665544332211, 0⟩) = some (.memRead 0x5544332211887766 1 false) := by decide

/-- The block's window and region: 0xC000_05B3_0000 is byte 0 of it, and its local region is 13. -/
theorem test_memory_window : windowBlk 1 0x1B30000 = some (⟨1, true, 3, 58⟩, 0) ∧ (Blk.mk 1 true 3 58).region = 13 := by decide

/-- Eight ways of 16 KiB put 0x0000_4A3C_8000 on channel 2 at 0x0947_8000 ("DRAM Channels"). -/
theorem test_interleave :
    dramDecode [some ⟨0, 1024, 8, 14, 0, [0, 1, 2, 3, 4, 5, 6, 7]⟩] 0x4A3C8000 = some (2, 0x09478000) := by decide

/-- The reservation entry of "Scheduled Traffic": charge 10, and a write inside its window passes with slot 37. -/
theorem test_capture_reservation :
    ({ opcode := 1, flits := 8 } : Hdr).charge = 10 ∧
    entKeys 0x00000190000006C000000040824E0A0A = (10, 0, 0x0A, 0x4E, 2) ∧ entStart 0x00000190000006C000000040824E0A0A = 64 ∧
    entEnd 0x00000190000006C000000040824E0A0A = 1728 ∧ entBudget 0x00000190000006C000000040824E0A0A = 400 := by decide

/-- A directory entry's words 0 and 1 in "Record Service". -/
theorem test_directory_words :
    ({ size := 10, base := 3072, state := 2, engine := false, port := 3, key := 3, next := 0xFFFF } : DirEnt).word 0 = 0xA0000C00#32 ∧
    ({ size := 10, base := 3072, state := 2, engine := false, port := 3, key := 3, next := 0xFFFF } : DirEnt).word 1 = 0xFFFF0662#32 := by
  decide

/-- The meter of "Clocks, Power and Thermal": 39,062 edges post as 0x0000_9896. -/
theorem test_frequency_meter :
    after (.freqMeterDone 0 39062) (st [(0, CLK_FM_STAT_busy 0, 1)]) (fun t => t.rd 0 (CLK_FM_RES 0)) = some 0x9896#32 := by decide

/-- FD2 at 52 A under a cap of 48 A goes to level 7: CLK_THROTTLE reads 0x17 and PWR_CUR 0x340. -/
theorem test_throttle :
    after (.throttleWindowEnd [0, 0, 0x340] []) (st [(4, PWR_CAP_limit, 48)]) (fun t => (t.rd 4 CLK_THROTTLE, t.f 4 PWR_CUR_current)) =
      some (0x17#32, 0x340) := by decide +kernel

/-- Start 1,001 of "Start Sequence and Journal": with a failure of S11 in the journal, JOURNAL_PLAN reads 0x0001_0800. -/
theorem test_lower_grade_plan :
    (scanPlan { base with nv := { base.nv with jour := [(0, { hdr := some (1, 1), recs :=
      [some { start := 1000, step := 11, attempt := 1, outcome := 1, detail := 0x120 }] })] } }).rd 0 JOURNAL_PLAN = 0x00010800#32 := by
  decide +kernel

/-- The frame of "Critical Commands, Keys and Life Cycle": target 337, counter 76,864. -/
theorem test_command_frame_fields :
    let f : CmdFrame := 0x003C000000012C4001510002
    frameTarget f = 337 ∧ frameCounter f = 76864 ∧ isBroadcast f = false := by decide +kernel

/-- The spare body of "Errors, Scrubbing and Spares": a row of the DM288 at column 3, row 58 of FD1, physical row 0x68. -/
theorem test_spare_body :
    spareBlk 0x0068003A03010303 = ⟨1, true, 3, 58⟩ ∧ spareRow 0x0068003A03010303 = 0x68 ∧ spareCarried 0x0068003A03010303 = true ∧
    spareInRange 0x0068003A03010303 = true := by decide

/-- R10: a bit of a W1C register clears where a 1 is written and stays where a 0 is. -/
theorem test_w1c_write :
    after (.registerWrite 0 { src := 0x001, place := BitVec.ofNat 24 TICK_EVT, data := 0x1 }) (st [(0, ⟨TICK_EVT, 0, 2⟩, 3)])
      (fun t => t.f 0 ⟨TICK_EVT, 0, 2⟩) = some 2 := by decide +kernel

/-- R51: the boundary of tick 6 falls at count 12,288, and the tick number rises by one. -/
theorem test_boundary :
    after (.tickBoundary {}) { base with time := ⟨12287, 5, 10240, 2048, 256⟩ } (fun t => t.time) = some ⟨12288, 6, 12288, 2048, 256⟩ := by
  decide +kernel

/-! ### Ill-formed operands are refused by `wf` -/

theorem smoke_init : wf (.nocFence 0xA00 0) = false ∧ wf (.nocFence 0x9FF 0) = true := by decide
theorem smoke_delays : wf (.timebaseLock (List.replicate 11 0)) = false := by decide
theorem smoke_monitor : wf (.slackOverrun (.router 3 10) 0 0 0 {}) = false ∧ wf (.slackOverrun (.region 1 3) 0 0 0 {}) = false ∧
    wf (.slackOverrun (.duty 0 5) 0 0 0 {}) = false ∧ wf (.slackOverrun (.region 2 23) 0 0 0 {}) = true := by decide
theorem smoke_boundary : wf (.tickBoundary { lateDuties := [(0, 0)] }) = false ∧ wf (.tickBoundary { ctlUpsets := [(0, 3, 1)] }) = false ∧
    wf (.tickBoundary { offsets := [(.router 16 0, 1)] }) = false := by decide
theorem smoke_quiet : wf (.quietWindowOpen { frameErrors := [(0, 57600, ⟨0, 0, 1⟩)] }) = false ∧
    wf (.quietWindowOpen { frameErrors := [(0, 57599, ⟨0, 0, 4124⟩)] }) = false := by decide
theorem smoke_scrub : wf (.scrubBackgroundRead 0 ⟨0, 0, 0⟩) = false := by decide
theorem smoke_access : wf (.registerWrite 0 { src := 0xF00, place := 0 }) = false := by decide
theorem smoke_header : wf (.containerHeaderCheck { hdrOf 6 [] with count := 1 }) = false ∧ wf (.containerHeaderCheck (hdrOf 6 [])) = true := by
  decide
theorem smoke_step : wf (.startStepEnd { copy0 := some { hdrOf 1 [] with count := 2 } }) = false := by decide
theorem smoke_block : wf (.memorySleep ⟨0, false, 20, 0⟩) = false ∧ wf (.memorySleep ⟨0, true, 0, 100⟩) = false := by decide
theorem smoke_port : wf (.memoryPortRead ⟨0, true, 0, 0⟩ { width := 32 } 0 0 false) = false ∧
    wf (.memoryPortRead ⟨0, false, 0, 0⟩ { width := 8 } 4096 0 false) = false ∧
    wf (.memoryPortRead ⟨0, false, 0, 0⟩ { width := 8 } 4095 0 false) = true := by decide
theorem smoke_fills : wf (.powerOnFillDone 0 [(false, 0, 0, 512)]) = false ∧ wf (.regionFillDone [(⟨0, true, 8, 0⟩, 0, 0)] [] [] none) = false := by
  decide
theorem smoke_request : wf (.nocRequestIssue { src := 0x018, write := true, addr := 0 }) = false ∧
    wf (.nocRequestIssue { src := 0x018, write := false, addr := 0 }) = true := by decide
theorem smoke_flits : wf (.niResponse 0 (List.replicate 9 { line := { be := 0, data := 0 }, crc := 0 }) 0) = false := by decide
theorem smoke_fields : wf (.ddrRequest 0 { queue := 32 } [] {}) = false ∧ wf (.ddrRequest 0 {} [] {}) = true := by decide
theorem smoke_frame : wf (.fstart 0 0 [1, 2, 3]) = false ∧ wf (.fstart 0 0 (List.replicate 616 0)) = false := by decide +kernel
theorem smoke_reports : wf (.cmbMismatchReport 0 0) = false ∧ wf (.joinRefuse 0 6) = false ∧ wf (.agingMeasure [(1, 0, 0)]) = false := by decide
theorem smoke_host : wf (.pcieHostRequest 0 false 0 513 [] false) = false := by decide
theorem smoke_sweeps : wf (.corugTrainDone 0 0 [⟨3, [], 1, 0⟩, ⟨3, [], 2, 0⟩] []) = false := by decide
theorem smoke_env : wf (.dbgBmWrite .jtag { started := 0x10001 }) = false := by decide
theorem smoke_spd : wf (.ddrTrainingDone 0 (some ⟨1, 0, true, 0, 0, true, 0⟩) true) = false := by decide
theorem smoke_target : wf (.targetRequest 0 [] 0 { reply := some (0, List.replicate 9 { be := 0, data := 0 }) }) = false := by decide
theorem smoke_window : wf (.throttleWindowEnd (List.replicate 9 0) []) = false := by decide
theorem smoke_partner : wf (.uciePartnerRequest ⟨0, false, 0, 0, [{ be := 0, data := 0 }], 0, 0⟩) = false := by decide

/-! ### Witnesses of the general statements -/

theorem witness_StepRunsTheFrontCommand_1 : ∃ (s : State) (c : Instr) (l : List Instr), s.pending = c :: l :=
  ⟨{ base with pending := [.tickCancel, .reportSend] }, .tickCancel, [.reportSend], by decide⟩

theorem witness_StepRunsTheFrontCommand_2 : ∃ s : State, s.pending = [] := ⟨base, by decide⟩

theorem witness_CommandsLeaveQueueTimeAndFuses_1 : ∃ (c : Instr) (s t : State), exec c s = .next t ∧
    (∀ l, c ≠ .timebaseLock l) ∧ (∀ b, c ≠ .tickBoundary b) ∧ (∀ q, c ≠ .quietWindowOpen q) ∧ (∀ p l, c ≠ .segmentCommit p l) ∧
    c ≠ .heartbeatCheck ∧ (∀ k, c ≠ .joinLoad k) ∧ (∀ ok, c ≠ .fuseBurnDone ok) :=
  ⟨.tickCancel, base, _, rfl, by simp, by simp, by simp, by simp, by simp, by simp, by simp⟩

theorem witness_TimeStaysSound_1 : ∃ s t : State, s.timeSound = true ∧ step s = .next t :=
  ⟨{ base with pending := [.heartbeatCheck], time := ⟨12287, 5, 10240, 2048, 256⟩ }, _, by decide, rfl⟩

theorem witness_FusesOnlyGrow_1 : ∃ s : State, s.cmd.burn = none := ⟨base, by decide⟩

theorem witness_FusesOnlyGrow_2 : ∃ (s : State) (k b : BitVec 128), s.cmd.burn = some (.row k b) :=
  ⟨{ base with cmd := { base.cmd with burn := some (.row 1 2) } }, 1, 2, by decide⟩

theorem witness_FusesOnlyGrow_3 : ∃ (s : State) (target : Nat), s.cmd.burn = some (.lifeCycle target) ∧ target = 4 :=
  ⟨{ base with cmd := { base.cmd with burn := some (.lifeCycle 4) } }, 4, by decide⟩

theorem witness_FusesOnlyGrow_3b : ∃ (s : State) (target : Nat), s.cmd.burn = some (.lifeCycle target) ∧ target ≠ 4 ∧
    s.fuses.lc = 2 ∧ target = 3 :=
  ⟨{ base with cmd := { base.cmd with burn := some (.lifeCycle 3) }, fuses := { base.fuses with lc := 2 } }, 3, by decide⟩

theorem witness_FusesOnlyGrow_4 : ∃ (s t : State) (c : Instr) (l : List Instr), s.pending = c :: l ∧ (∀ ok, c ≠ .fuseBurnDone ok) ∧
    step s = .next t :=
  ⟨{ base with pending := [.tickCancel] }, _, .tickCancel, [], by decide, by simp, rfl⟩

theorem witness_RegisterFileReadsBack_1 : ∃ (d : Nat) (x : Fld), placed (d, x) = true := ⟨9, ⟨0xFFFFFC, 0, 32⟩, by decide⟩

theorem witness_RegisterFileReadsBack_2 : ∃ (s : State) (r : Nat), r < 0x1000000 ∧
    KMap.wfD s.regs (fun k => resetVal (k / 0x1000000) (k % 0x1000000)) = true :=
  ⟨st [(0, CMD_EVT_refused, 1)], 0xFFFFFC, by decide⟩

theorem witness_SparseTablesReadBack_1 : ∃ (m : KMap Byte) (k j : Nat), j ≠ k ∧ KMap.wfD m (fun _ => default) = true :=
  ⟨[(3, 7), (5, 1)], 3, 5, by decide⟩

theorem witness_SparseTablesReadBack_2 : ∃ (m : KMap Byte) (d : Nat → Byte), KMap.wfD m d = true :=
  ⟨[(3, 7), (5, 1)], fun _ => 0, by decide⟩

theorem witness_PowerAndStartBegin_2 : ∃ s : State, s.pwr.railsGood = true ∧ s.atStep 0 = true ∧ s.pwr.clkHeld = false ∧
    s.rd 0 THERM_TRIPLOG = 0 ∧ s.frozen = false :=
  ⟨st [(0, JOURNAL_STAT_running, 1)] { State.reset with pwr := { State.reset.pwr with railsGood := true } }, by decide⟩

theorem witness_PowerAndStartBegin_3 : ∃ (d r : Nat) (x : RegRow), r < 0x1000000 ∧ regRow d r = some x ∧ x.sticky ≠ 0 :=
  ⟨0, THERM_TRIPLOG, _, by decide, rfl, by decide⟩

theorem witness_PowerAndStartBegin_4 : ∃ s : State, s.pwr.railsGood = false := ⟨State.reset, by decide⟩

theorem witness_PowerAndStartBegin_5 : ∃ s : State, s.pwr.railsGood = true ∧ s.pwr.oscReady = true ∧ s.pwr.clkHeld = false ∧
    s.pwr.hot = [] ∧ s.pwr.safe = true :=
  ⟨{ base with pwr := { base.pwr with safe := true } }, by decide⟩

theorem witness_StepOneLocksTheTimebase_1 : ∃ s : State, s.atStep 1 = true ∧ s.f 0 CLK_REF_refsel ≠ 7 ∧ s.tick.tb = .off :=
  ⟨st [(0, JOURNAL_STAT_running, 1), (0, JOURNAL_STAT_step, 1), (0, CLK_REF_refsel, 6)] { base with tick := { tb := .off } }, by decide⟩

theorem witness_StepOneLocksTheTimebase_2 : ∃ s : State, s.atStep 1 = true ∧ s.start.s1rec = false ∧ s.frozen = false :=
  ⟨st [(0, JOURNAL_STAT_running, 1), (0, JOURNAL_STAT_step, 1)], by decide⟩

theorem witness_StepOneLocksTheTimebase_3 : ∃ s : State, s.pwr.oscReady = true ∧ s.tick.tb = .running ∧ s.atStep 0 = false ∧
    s.atStep 1 = false ∧ s.pwr.safe = false :=
  ⟨st [(0, JOURNAL_STAT_running, 1), (0, JOURNAL_STAT_step, 2)], by decide⟩

theorem witness_DieResetsAndReleases_1 : ∃ (s : State) (d : Die), d ≠ 0 ∧ s.live d.val = true ∧ 2 ≤ d.val := ⟨base, 9, by decide⟩

theorem witness_DieResetsAndReleases_2 : ∃ (s : State) (d : Die), d ≠ 0 ∧ s.live d.val = false ∧ s.live 0 = true ∧
    KMap.look s.pwr.held d.val = false :=
  ⟨{ base with pwr := { base.pwr with live := [(0, true)] } }, 1, by decide⟩

theorem witness_DieResetsAndReleases_3 : ∃ (s : State) (d : Die), d ≠ 0 ∧ s.live d.val = false ∧ s.live 0 = true ∧
    KMap.look s.pwr.held d.val = true :=
  ⟨{ base with pwr := { base.pwr with live := [(0, true)], held := [(9, true)] } }, 9, by decide⟩

theorem witness_FaultFreeArithmeticNeverReports_1 :
    ∃ (s : State) (d : FabDie) (col : Fin 13) (row : Fin 300) (g : CmbCfg) (x : CmbIn) (i : Nat) (k : CmbBlk),
    s.cmbRegion (d.val + 2) col.val row.val = some i ∧ s.live (d.val + 2) = true ∧
    (s.regionState (d.val + 2) i = 5 ∨ s.regionState (d.val + 2) i = 1) ∧
    k = KMap.look s.cmb.blk (cmbKey (d.val + 2) col.val row.val) ∧ cmbChecks g x k = [] ∧
    (g.mode = 3 → x.zsel = 1 → fExp (k.acc.toNat % 2 ^ 32) = 0 → fFrac (k.acc.toNat % 2 ^ 32) = 0) ∧
    (g.mode = 3 → x.zsel = 3 → fExp (x.cin.toNat % 2 ^ 32) = 0 → fFrac (x.cin.toNat % 2 ^ 32) = 0) ∧ g.mode = 3 ∧ x.zsel = 1 :=
  ⟨st [(9, REGIONS_STATE_state 0, 5)], 7, 0, 0, { mode := 3 }, { a := 0x3F800000, b := 0x40000000, zsel := 1 }, 0, _, by decide, by decide,
    by decide, rfl, by decide, by decide, by decide, rfl, rfl⟩

theorem witness_HeadersSurviveOneWrongBitAndDropOnTwo_1 : ∃ x k j : Nat, x < 2 ^ 247 ∧ k < 256 ∧ j < 256 ∧ k ≠ j :=
  ⟨2 ^ 247 - 1, 255, 0, by decide⟩

theorem witness_HeadersSurviveOneWrongBitAndDropOnTwo_2 : ∃ (h : Hdr) (x : Fin 16) (y : Fin 10) (k j : Nat) (s : State),
    Hdr.unpack h.pack = h ∧ h.legal = true ∧ k < 256 ∧ j < 256 ∧ k ≠ j ∧ s.live (dieIndex x.val y.val) = true ∧
    s.portFenced x.val y.val (outPort x.val y.val h) = false :=
  ⟨{ dstX := 15, dstY := 9, opcode := 1, addr := 2 ^ 48 - 64, flits := 8, seq := 1023, hops := 255 }, 15, 9, 0, 255, base,
    by decide +kernel⟩

/-! ### Witnesses of the statements, clause by clause -/

theorem witness_PllsAndClockGates_1 : ∃ (s : State) (d : FabDie) (k : Fin 8), (s.live (d.val + 2) = true) ∧ (s.f (d.val + 2) ⟨CLK_PLL_LOCK, k.val, 1⟩ = 1) :=
  ⟨st [(3, ⟨CLK_PLL_LOCK, 0, 8⟩, 0xFF)], 1, 7, by decide⟩

theorem witness_PllsAndClockGates_2 : ∃ (s : State) (d : FabDie) (k : Fin 8), (s.live (d.val + 2) = true) ∧ (s.on (d.val + 2) (CLK_PLL_CFG_en k.val) = true) :=
  ⟨st [(9, CLK_PLL_CFG_en 3, 1)], 7, 3, by decide⟩

theorem witness_PllsAndClockGates_3 : ∃ (s : State) (d : FabDie) (k : Fin 8), (s.live (d.val + 2) = false ∨ s.on (d.val + 2) (CLK_PLL_CFG_en k.val) = false) :=
  ⟨base, 0, 0, by decide⟩

theorem witness_PllsAndClockGates_4 : ∃ (s : State) (i : Init) (d : Die) (b : Fin 30), (s.dieUp d.val = true) ∧ (gateExists d.val b.val = true) ∧ (mayGate i d.val = true) :=
  ⟨base, 0x001, 1, 29, by decide⟩

theorem witness_PllsAndClockGates_5 : ∃ (s : State) (i : Init) (d : Die) (b : Fin 30), (s.dieUp d.val = true) ∧ (gateExists d.val b.val = true) ∧ (mayGate i d.val = true) :=
  ⟨st [(4, CLK_GATE_block, 0x1F), (4, CLK_GATE_STAT_block, 0x1F)], 0x001, 4, 4, by decide⟩

theorem witness_PllsAndClockGates_6 : ∃ (s : State) (i : Init) (d : Die) (b : Fin 30), (s.dieUp d.val = true) ∧ (gateExists d.val b.val = true) ∧ (mayGate i d.val = false) :=
  ⟨base, 0x018, 0, 0, by decide⟩

theorem witness_PllsAndClockGates_7 : ∃ (s : State) (d : Die) (b : Fin 30), (s.gatePending d.val b.val = true) :=
  ⟨st [(4, CLK_GATE_block, 0x10)], 4, 4, by decide⟩

theorem witness_PllsAndClockGates_8 : ∃ (s : State) (d : Die) (b : Fin 30), (s.gatePending d.val b.val = true) :=
  ⟨st [(4, CLK_GATE_block, 0x10)], 4, 4, by decide⟩

theorem witness_PllsAndClockGates_9 : ∃ (s : State) (d : Die) (b : Fin 30), (s.gatePending d.val b.val = false) :=
  ⟨st [(4, CLK_GATE_block, 0x10), (4, CLK_GATE_STAT_block, 0x10)], 4, 4, by decide⟩

theorem witness_FrequencyMeters_1a : ∃ (s : State) (m : Fin 16) (v : Word), (s.iosUp = true) ∧ (v.toNat < 2 ^ 31 ∨ s.f 0 (CLK_FM_STAT_busy m.val) = 1) :=
  ⟨base, 15, 0x12345678, by decide⟩

theorem witness_FrequencyMeters_1b : ∃ (s : State) (m : Fin 16) (v : Word), (s.iosUp = true) ∧ (v.toNat < 2 ^ 31 ∨ s.f 0 (CLK_FM_STAT_busy m.val) = 1) :=
  ⟨st [(0, CLK_FM_STAT_busy 0, 1)], 0, 0x80001234, by decide⟩

theorem witness_FrequencyMeters_2 : ∃ (s : State) (m : Fin 16) (v : Word), (s.iosUp = true) ∧ (2 ^ 31 ≤ v.toNat) ∧ (s.f 0 (CLK_FM_STAT_busy m.val) = 0) ∧ (clockExists (s.f 0 (CLK_FM_SEL_meas m.val)) = true) ∧ (s.f 0 (CLK_FM_SEL_gate m.val) ≤ 2) :=
  ⟨st [(0, CLK_FM_SEL_meas 2, 0x318), (0, CLK_FM_SEL_gate 2, 1)], 2, 0x800186A0, by decide⟩

theorem witness_FrequencyMeters_3 : ∃ (s : State) (m : Fin 16) (v : Word), (s.iosUp = true) ∧ (2 ^ 31 ≤ v.toNat) ∧ (s.f 0 (CLK_FM_STAT_busy m.val) = 0) ∧ (clockExists (s.f 0 (CLK_FM_SEL_meas m.val)) = false ∨ 3 ≤ s.f 0 (CLK_FM_SEL_gate m.val)) :=
  ⟨st [(0, CLK_FM_SEL_meas 2, 0xA18)], 2, 0x80000001, by decide⟩

theorem witness_FrequencyMeters_4 : ∃ (s : State) (m : Fin 16) (n : Nat), (s.f 0 (CLK_FM_STAT_busy m.val) = 1) ∧ (KMap.look s.pwr.fmLost m.val = false) :=
  ⟨st [(0, CLK_FM_STAT_busy 15, 1)], 15, 2 ^ 32, by decide⟩

theorem witness_FrequencyMeters_5 : ∃ (s : State) (m : Fin 16) (n : Nat), (s.f 0 (CLK_FM_STAT_busy m.val) = 1) ∧ (KMap.look s.pwr.fmLost m.val = true) :=
  ⟨{ st [(0, CLK_FM_STAT_busy 15, 1)] with pwr := { base.pwr with fmLost := [(15, true)] } }, 15, 7, by decide⟩

theorem witness_RailsThrottleAndTemperature_1 : ∃ (s : State) (d : Die) (bad : Byte) (levels : BitVec 4) (b : Fin 8), (s.live d.val = true) ∧ (railExists d.val b.val = true) :=
  ⟨{ base with pwr := { base.pwr with railBad := [(7, 1), (16, 1), (21, 1)] } }, 2, 0xFF, 0, 7, by decide⟩

theorem witness_RailsThrottleAndTemperature_2 : ∃ (s : State) (amps : List (BitVec 12)) (mw : List Nat), (s.live 0 = true) :=
  ⟨base, [0x340, 0x300, 0], [10000, 20000, 9999999], by decide⟩

theorem witness_RailsThrottleAndTemperature_4 : ∃ (s : State) (d : Die) (a b c e : BitVec 12), (2 ≤ d.val) ∧ (s.live d.val = true) ∧ (s.atStep 0 = false) ∧ (2 ≤ (validTemps [a.toInt, b.toInt, c.toInt, e.toInt]).length) ∧ (∀ x ∈ validTemps [a.toInt, b.toInt, c.toInt, e.toInt], x.2 < 460) ∧ (∃ x ∈ validTemps [a.toInt, b.toInt, c.toInt, e.toInt], s.throttleAt d.val ≤ x.2) :=
  ⟨base, 9, 440, 441, 459, 100, by decide⟩

theorem witness_RailsThrottleAndTemperature_5a : ∃ (s : State) (d : Die) (a b c e : BitVec 12), (s.iosUp = true) ∧ (s.atStep 0 = false) ∧ (s.pwr.safe = false) ∧ (validTemps [a.toInt, b.toInt, c.toInt, e.toInt] = [] ∨ 1 ≤ KMap.look s.pwr.tripped d.val ∧ ∃ x ∈ validTemps [a.toInt, b.toInt, c.toInt, e.toInt], 460 ≤ x.2) :=
  ⟨base, 1, 0, 100, 200, 300, by decide⟩

theorem witness_RailsThrottleAndTemperature_5b : ∃ (s : State) (d : Die) (a b c e : BitVec 12), (s.iosUp = true) ∧ (s.atStep 0 = false) ∧ (s.pwr.safe = false) ∧ (validTemps [a.toInt, b.toInt, c.toInt, e.toInt] = [] ∨ 1 ≤ KMap.look s.pwr.tripped d.val ∧ ∃ x ∈ validTemps [a.toInt, b.toInt, c.toInt, e.toInt], 460 ≤ x.2) :=
  ⟨{ base with pwr := { base.pwr with tripped := [(9, 1)] } }, 9, 459, 461, 460, 461, by decide⟩

theorem witness_ArmingAndCancellingAPeriodChange_1a : ∃ (s : State), (s.live 0 = true) ∧ (s.isRoot = true) ∧ (s.time.num + 17 ≤ s.rd64 0 TICK_AT_LO TICK_AT_HI) ∧ (16 ≤ s.f 0 TICK_NEXT_P_value ∧ s.f 0 TICK_NEXT_P_value ≤ 2 ^ 24) ∧ (80 ≤ s.f 0 TICK_NEXT_P_value ∧ 64 ≤ s.f 0 TICK_NEXT_Q_value ∧ s.f 0 TICK_NEXT_Q_value + 16 ≤ s.f 0 TICK_NEXT_P_value ∨ s.f 0 TICK_NEXT_P_value < 80 ∧ (s.lifeCycle = 0 ∨ s.lifeCycle = 3)) ∧ ((s.tick.pend.all (fun c => decide (s.time.num + 17 ≤ c.tick))) = true) :=
  ⟨{ st [(0, TICK_ROLE_root, 1), (0, ⟨TICK_AT_LO, 0, 32⟩, 22), (0, TICK_NEXT_P_value, 16)] with tick := { base.tick with pend := some ⟨22, 4096, 512⟩ } }, by decide⟩

theorem witness_ArmingAndCancellingAPeriodChange_1b : ∃ (s : State), (s.live 0 = true) ∧ (s.isRoot = true) ∧ (s.time.num + 17 ≤ s.rd64 0 TICK_AT_LO TICK_AT_HI) ∧ (16 ≤ s.f 0 TICK_NEXT_P_value ∧ s.f 0 TICK_NEXT_P_value ≤ 2 ^ 24) ∧ (80 ≤ s.f 0 TICK_NEXT_P_value ∧ 64 ≤ s.f 0 TICK_NEXT_Q_value ∧ s.f 0 TICK_NEXT_Q_value + 16 ≤ s.f 0 TICK_NEXT_P_value ∨ s.f 0 TICK_NEXT_P_value < 80 ∧ (s.lifeCycle = 0 ∨ s.lifeCycle = 3)) ∧ ((s.tick.pend.all (fun c => decide (s.time.num + 17 ≤ c.tick))) = true) :=
  ⟨st [(0, TICK_ROLE_root, 1), (0, ⟨TICK_AT_HI, 0, 32⟩, 1), (0, TICK_NEXT_P_value, 80), (0, TICK_NEXT_Q_value, 64)], by decide⟩

theorem witness_ArmingAndCancellingAPeriodChange_2a : ∃ (s : State) (both : Bool) (r : Nat), (s.live 0 = true) ∧ (r = (if both then 7 else if s.isRoot = false then 5 else if s.rd64 0 TICK_AT_LO TICK_AT_HI < s.time.num + 17 then 1 else if s.f 0 TICK_NEXT_P_value < 16 ∨ 2 ^ 24 < s.f 0 TICK_NEXT_P_value then 2 else if 80 ≤ s.f 0 TICK_NEXT_P_value ∧ (s.f 0 TICK_NEXT_Q_value < 64 ∨ s.f 0 TICK_NEXT_P_value < s.f 0 TICK_NEXT_Q_value + 16) then 3 else if s.f 0 TICK_NEXT_P_value < 80 ∧ s.lifeCycle ≠ 0 ∧ s.lifeCycle ≠ 3 then 4 else if s.tick.pend.any (fun c => decide (c.tick < s.time.num + 17)) then 6 else 0)) ∧ (r ≠ 0) :=
  ⟨st [(0, TICK_ROLE_root, 1)], true, 7, by decide⟩

theorem witness_ArmingAndCancellingAPeriodChange_2b : ∃ (s : State) (both : Bool) (r : Nat), (s.live 0 = true) ∧ (r = (if both then 7 else if s.isRoot = false then 5 else if s.rd64 0 TICK_AT_LO TICK_AT_HI < s.time.num + 17 then 1 else if s.f 0 TICK_NEXT_P_value < 16 ∨ 2 ^ 24 < s.f 0 TICK_NEXT_P_value then 2 else if 80 ≤ s.f 0 TICK_NEXT_P_value ∧ (s.f 0 TICK_NEXT_Q_value < 64 ∨ s.f 0 TICK_NEXT_P_value < s.f 0 TICK_NEXT_Q_value + 16) then 3 else if s.f 0 TICK_NEXT_P_value < 80 ∧ s.lifeCycle ≠ 0 ∧ s.lifeCycle ≠ 3 then 4 else if s.tick.pend.any (fun c => decide (c.tick < s.time.num + 17)) then 6 else 0)) ∧ (r ≠ 0) :=
  ⟨base, false, if base.isRoot then 1 else 5, by decide⟩

theorem witness_ArmingAndCancellingAPeriodChange_2c : ∃ (s : State) (both : Bool) (r : Nat), (s.live 0 = true) ∧ (r = (if both then 7 else if s.isRoot = false then 5 else if s.rd64 0 TICK_AT_LO TICK_AT_HI < s.time.num + 17 then 1 else if s.f 0 TICK_NEXT_P_value < 16 ∨ 2 ^ 24 < s.f 0 TICK_NEXT_P_value then 2 else if 80 ≤ s.f 0 TICK_NEXT_P_value ∧ (s.f 0 TICK_NEXT_Q_value < 64 ∨ s.f 0 TICK_NEXT_P_value < s.f 0 TICK_NEXT_Q_value + 16) then 3 else if s.f 0 TICK_NEXT_P_value < 80 ∧ s.lifeCycle ≠ 0 ∧ s.lifeCycle ≠ 3 then 4 else if s.tick.pend.any (fun c => decide (c.tick < s.time.num + 17)) then 6 else 0)) ∧ (r ≠ 0) :=
  ⟨st [(0, TICK_ROLE_root, 1), (0, ⟨TICK_AT_LO, 0, 32⟩, 21)], false, 1, by decide⟩

theorem witness_ArmingAndCancellingAPeriodChange_2d : ∃ (s : State) (both : Bool) (r : Nat), (s.live 0 = true) ∧ (r = (if both then 7 else if s.isRoot = false then 5 else if s.rd64 0 TICK_AT_LO TICK_AT_HI < s.time.num + 17 then 1 else if s.f 0 TICK_NEXT_P_value < 16 ∨ 2 ^ 24 < s.f 0 TICK_NEXT_P_value then 2 else if 80 ≤ s.f 0 TICK_NEXT_P_value ∧ (s.f 0 TICK_NEXT_Q_value < 64 ∨ s.f 0 TICK_NEXT_P_value < s.f 0 TICK_NEXT_Q_value + 16) then 3 else if s.f 0 TICK_NEXT_P_value < 80 ∧ s.lifeCycle ≠ 0 ∧ s.lifeCycle ≠ 3 then 4 else if s.tick.pend.any (fun c => decide (c.tick < s.time.num + 17)) then 6 else 0)) ∧ (r ≠ 0) :=
  ⟨st [(0, TICK_ROLE_root, 1), (0, ⟨TICK_AT_LO, 0, 32⟩, 22), (0, TICK_NEXT_P_value, 15)], false, 2, by decide⟩

theorem witness_ArmingAndCancellingAPeriodChange_2e : ∃ (s : State) (both : Bool) (r : Nat), (s.live 0 = true) ∧ (r = (if both then 7 else if s.isRoot = false then 5 else if s.rd64 0 TICK_AT_LO TICK_AT_HI < s.time.num + 17 then 1 else if s.f 0 TICK_NEXT_P_value < 16 ∨ 2 ^ 24 < s.f 0 TICK_NEXT_P_value then 2 else if 80 ≤ s.f 0 TICK_NEXT_P_value ∧ (s.f 0 TICK_NEXT_Q_value < 64 ∨ s.f 0 TICK_NEXT_P_value < s.f 0 TICK_NEXT_Q_value + 16) then 3 else if s.f 0 TICK_NEXT_P_value < 80 ∧ s.lifeCycle ≠ 0 ∧ s.lifeCycle ≠ 3 then 4 else if s.tick.pend.any (fun c => decide (c.tick < s.time.num + 17)) then 6 else 0)) ∧ (r ≠ 0) :=
  ⟨st [(0, TICK_ROLE_root, 1), (0, ⟨TICK_AT_LO, 0, 32⟩, 22), (0, TICK_NEXT_P_value, 80), (0, TICK_NEXT_Q_value, 65)], false, 3, by decide⟩

theorem witness_ArmingAndCancellingAPeriodChange_2f : ∃ (s : State) (both : Bool) (r : Nat), (s.live 0 = true) ∧ (r = (if both then 7 else if s.isRoot = false then 5 else if s.rd64 0 TICK_AT_LO TICK_AT_HI < s.time.num + 17 then 1 else if s.f 0 TICK_NEXT_P_value < 16 ∨ 2 ^ 24 < s.f 0 TICK_NEXT_P_value then 2 else if 80 ≤ s.f 0 TICK_NEXT_P_value ∧ (s.f 0 TICK_NEXT_Q_value < 64 ∨ s.f 0 TICK_NEXT_P_value < s.f 0 TICK_NEXT_Q_value + 16) then 3 else if s.f 0 TICK_NEXT_P_value < 80 ∧ s.lifeCycle ≠ 0 ∧ s.lifeCycle ≠ 3 then 4 else if s.tick.pend.any (fun c => decide (c.tick < s.time.num + 17)) then 6 else 0)) ∧ (r ≠ 0) :=
  ⟨{ st [(0, TICK_ROLE_root, 1), (0, ⟨TICK_AT_LO, 0, 32⟩, 22), (0, TICK_NEXT_P_value, 79)] with keys := { base.keys with lc := 2 } }, false, 4, by decide⟩

theorem witness_ArmingAndCancellingAPeriodChange_2g : ∃ (s : State) (both : Bool) (r : Nat), (s.live 0 = true) ∧ (r = (if both then 7 else if s.isRoot = false then 5 else if s.rd64 0 TICK_AT_LO TICK_AT_HI < s.time.num + 17 then 1 else if s.f 0 TICK_NEXT_P_value < 16 ∨ 2 ^ 24 < s.f 0 TICK_NEXT_P_value then 2 else if 80 ≤ s.f 0 TICK_NEXT_P_value ∧ (s.f 0 TICK_NEXT_Q_value < 64 ∨ s.f 0 TICK_NEXT_P_value < s.f 0 TICK_NEXT_Q_value + 16) then 3 else if s.f 0 TICK_NEXT_P_value < 80 ∧ s.lifeCycle ≠ 0 ∧ s.lifeCycle ≠ 3 then 4 else if s.tick.pend.any (fun c => decide (c.tick < s.time.num + 17)) then 6 else 0)) ∧ (r ≠ 0) :=
  ⟨{ st [(0, TICK_ROLE_root, 1), (0, ⟨TICK_AT_LO, 0, 32⟩, 22), (0, TICK_NEXT_P_value, 16)] with tick := { base.tick with pend := some ⟨21, 4096, 512⟩ } }, false, 6, by decide⟩

theorem witness_ArmingAndCancellingAPeriodChange_3 : ∃ (s : State), (s.live 0 = true) ∧ (s.isRoot = true) ∧ ((s.tick.pend.any (fun c => decide (s.time.num + 17 ≤ c.tick))) = true) :=
  ⟨{ st [(0, TICK_ROLE_root, 1)] with tick := { base.tick with pend := some ⟨22, 4096, 512⟩ } }, by decide⟩

theorem witness_ArmingAndCancellingAPeriodChange_4a : ∃ (s : State) (r : Nat), (s.live 0 = true) ∧ (s.isRoot = false ∧ r = 5 ∨ s.isRoot = true ∧ s.tick.pend.any (fun c => decide (c.tick < s.time.num + 17)) = true ∧ r = 6) :=
  ⟨st [(0, TICK_ROLE_root, 0)], 5, by decide⟩

theorem witness_ArmingAndCancellingAPeriodChange_4b : ∃ (s : State) (r : Nat), (s.live 0 = true) ∧ (s.isRoot = false ∧ r = 5 ∨ s.isRoot = true ∧ s.tick.pend.any (fun c => decide (c.tick < s.time.num + 17)) = true ∧ r = 6) :=
  ⟨{ st [(0, TICK_ROLE_root, 1)] with tick := { base.tick with pend := some ⟨21, 4096, 512⟩ } }, 6, by decide⟩

theorem witness_ArmingAndCancellingAPeriodChange_5 : ∃ (s : State), (s.live 0 = true) ∧ (s.isRoot = true) ∧ (s.tick.pend = none) :=
  ⟨st [(0, TICK_ROLE_root, 1)], by decide⟩

theorem witness_TheTickAndItsDuties_1 : ∃ (s : State) (b : BoundaryIn), (s.tick.tb = .running) ∧ (s.dueChange = none) :=
  ⟨st [(0, CMD_STAT_ticked, 1)], { badFrames := [3], merged := [4], offsets := [(.router 0 1, 77)], lateDuties := [(1, 2)], xfifo := [(2, 3, 1)] }, by decide⟩

theorem witness_TheTickAndItsDuties_2 : ∃ (s : State) (b : BoundaryIn) (c : Change), (s.tick.tb = .running) ∧ (s.tick.pend = some c) ∧ (c.tick = s.time.num + 1) ∧ (periodOk c.p c.q = true) :=
  ⟨{ base with tick := { base.tick with pend := some ⟨6, 4096, 512⟩ } }, {}, ⟨6, 4096, 512⟩, by decide⟩

theorem witness_TheTickAndItsDuties_3 : ∃ (s : State) (q : QuietIn), (s.tick.tb = .running) ∧ (80 ≤ s.time.p) ∧ (s.tick.quietOpen = false) :=
  ⟨base, {}, by decide⟩

theorem witness_TheTickAndItsDuties_4 : ∃ (s : State) (p : Bool) (l : List (BitVec 16 × Bool)), (s.tick.tb = .running) ∧ (80 ≤ s.time.p) ∧ (s.tick.quietOpen = true) :=
  ⟨{ base with tick := { base.tick with quietOpen := true } }, true, [], by decide⟩

theorem witness_TheTickAndItsDuties_5 : ∃ (s : State), (s.tick.tb = .running) ∧ (80 ≤ s.time.p) ∧ (s.tick.hbDone = false) ∧ (s.live 0 = true) ∧ (s.f 0 CORE_HB_CFG_active = 1) ∧ (s.core.kicked = true) :=
  ⟨{ st [(0, CORE_HB_CFG_active, 1), (0, CORE_HB_STAT_misses, 3)] with core := { base.core with kicked := true } }, by decide⟩

theorem witness_TheTickAndItsDuties_6 : ∃ (s : State), (s.tick.tb = .running) ∧ (80 ≤ s.time.p) ∧ (s.tick.hbDone = false) ∧ (s.live 0 = true) ∧ (s.f 0 CORE_HB_CFG_active = 1) ∧ (s.core.kicked = false) ∧ (s.f 0 CORE_HB_CFG_hold = 0) ∧ (s.f 0 CORE_HB_STAT_misses + 1 < s.f 0 CORE_HB_CFG_period) :=
  ⟨st [(0, CORE_HB_CFG_active, 1), (0, CORE_HB_CFG_period, 2)], by decide⟩

theorem witness_OverrunsAreCountedAndLatched_1 : ∃ (s : State) (x : Fin 16) (y : Fin 10) (n off amount : Nat) (q : QuietIn), (s.live (dieIndex x.val y.val) = true) :=
  ⟨base, 15, 9, 4, 70000, 70000, {}, by decide⟩

theorem witness_OverrunsAreCountedAndLatched_2 : ∃ (s : State) (d : FabDie) (i : Fin 24) (n off amount : Nat) (q : QuietIn), (s.live (d.val + 2) = true) ∧ (s.regionState (d.val + 2) i.val = 5) :=
  ⟨st [(4, REGIONS_STATE_state 23, 5)], 2, 23, 4, 300, 320, {}, by decide⟩

theorem witness_OverrunsAreCountedAndLatched_3 : ∃ (s : State) (d : Die) (c : Fin 5) (n off amount : Nat) (q : QuietIn), (s.live d.val = true) :=
  ⟨{ base with tick := { base.tick with late := [(3, 3), (0, 1)] } }, 0, 1, 4, 300, 320, {}, by decide⟩

theorem witness_RegisterAccesses_1a : ∃ (s : State) (d : Die) (a : CtlAccess), (s.live d.val = true) ∧ (ctlStatus d.val a.place.toNat a.bytes ≠ 0) :=
  ⟨base, 2, { src := 0x001, place := 0x050000 }, by decide⟩

theorem witness_RegisterAccesses_1b : ∃ (s : State) (d : Die) (a : CtlAccess), (s.live d.val = true) ∧ (ctlStatus d.val a.place.toNat a.bytes ≠ 0) :=
  ⟨base, 0, { src := 0x001, place := 0x010008, bytes := 2 }, by decide⟩

theorem witness_RegisterAccesses_2 : ∃ (s : State) (a : CtlAccess), (s.live 0 = true) ∧ (a.place = 0x010008) ∧ (a.bytes = 4) :=
  ⟨base, { src := 0x001, place := 0x010008, data := 0xFFFFFFFF }, by decide⟩

theorem witness_RegisterAccesses_3 : ∃ (s : State) (a : CtlAccess), (s.live 0 = true) ∧ (a.place = 0x010008) ∧ (a.bytes = 4) ∧ (KMap.look s.hold (holdKey a.src 0 0x010008) = none) :=
  ⟨st [(0, TICK_NEXT_P_value, 4096)], { src := 0x018, place := 0x010008 }, by decide⟩

theorem witness_RegisterAccesses_4 : ∃ (s : State) (a : CtlAccess) (k : Fin 8), (s.live 0 = true) ∧ (a.place = 0x01005C) ∧ (a.bytes = 4) :=
  ⟨st [(0, ⟨TICK_EVT, 0, 8⟩, 0xF0)], { src := 0x018, place := 0x01005C, data := 0x33, hw := 0x11 }, 7, by decide⟩

theorem witness_RegisterAccesses_5 : ∃ (s : State) (a : CtlAccess) (d : Die), (s.live d.val = true) ∧ (a.place = 0x010074) ∧ (a.bytes = 4) ∧ (KMap.look s.hold (holdKey a.src d.val 0x010074) = none) :=
  ⟨st [(3, TICK_USE_MAX_value, 4096)], { src := 0x018, place := 0x010074, hw := 5 }, 3, by decide⟩

theorem witness_UnoccupiedOffsetsReadZero_1 : ∃ (s : State) (d : Die) (a : CtlAccess), (s.live d.val = true) ∧ (ctlStatus d.val a.place.toNat a.bytes = 0) ∧ ((regRow d.val a.place.toNat).isNone = true) ∧ (sharedWord d.val a.place.toNat = none) :=
  ⟨base, 9, { src := 0x001, place := 0x01FFFC, data := 7 }, by decide⟩

theorem witness_StartStepsEndFailAndRestart_1a : ∃ (s : State) (i : StepIn), (s.f 0 JOURNAL_STAT_running = 0 ∨ 16 ≤ s.jour.buf.length) :=
  ⟨base, {}, by decide⟩

theorem witness_StartStepsEndFailAndRestart_1b : ∃ (s : State) (i : StepIn), (s.f 0 JOURNAL_STAT_running = 0 ∨ 16 ≤ s.jour.buf.length) :=
  ⟨{ st [(0, JOURNAL_STAT_running, 1)] with jour := { buf := List.replicate 16 {} } }, {}, by decide⟩

theorem witness_StartStepsEndFailAndRestart_2a : ∃ (s : State) (i : StepIn) (k : Nat), (k = 3 ∨ k = 10) ∧ (s.f 0 JOURNAL_STAT_running = 1) ∧ (s.f 0 JOURNAL_STAT_step = k) ∧ (s.jour.buf.length < 16) ∧ (s.frozen = false) ∧ (i.ok = true) :=
  ⟨st [(0, JOURNAL_STAT_running, 1), (0, JOURNAL_STAT_step, 3)], {}, 3, by decide⟩

theorem witness_StartStepsEndFailAndRestart_2b : ∃ (s : State) (i : StepIn) (k : Nat), (k = 3 ∨ k = 10) ∧ (s.f 0 JOURNAL_STAT_running = 1) ∧ (s.f 0 JOURNAL_STAT_step = k) ∧ (s.jour.buf.length < 16) ∧ (s.frozen = false) ∧ (i.ok = true) :=
  ⟨st [(0, JOURNAL_STAT_running, 1), (0, JOURNAL_STAT_step, 10)], {}, 10, by decide⟩

theorem witness_StartStepsEndFailAndRestart_3 : ∃ (s : State) (i : StepIn), (s.f 0 JOURNAL_STAT_running = 1) ∧ (s.f 0 JOURNAL_STAT_step = 14) ∧ (s.jour.buf.length < 16) ∧ (s.frozen = false) ∧ (8 ≤ s.f 0 ITA_ID_upstream) ∧ (s.start.deferred = false) :=
  ⟨st [(0, JOURNAL_STAT_running, 1), (0, JOURNAL_STAT_step, 14), (0, ITA_ID_upstream, 8)], {}, by decide⟩

theorem witness_StartStepsEndFailAndRestart_4 : ∃ (s : State) (i : StepIn), (s.f 0 JOURNAL_STAT_running = 1) ∧ (s.f 0 JOURNAL_STAT_step = 14) ∧ (s.f 0 ITA_ID_upstream < 8) ∧ (s.portState (s.f 0 ITA_ID_upstream) ≠ 4) :=
  ⟨st [(0, JOURNAL_STAT_running, 1), (0, JOURNAL_STAT_step, 14), (0, ITA_ID_upstream, 7)], {}, by decide⟩

theorem witness_StartStepsEndFailAndRestart_5 : ∃ (s : State) (i : StepIn), (s.f 0 JOURNAL_STAT_running = 1) ∧ (s.f 0 JOURNAL_STAT_step = 14) ∧ (s.jour.buf.length < 16) :=
  ⟨st [(0, JOURNAL_STAT_running, 1), (0, JOURNAL_STAT_step, 14)], {}, by decide⟩

theorem witness_StartStepsEndFailAndRestart_6 : ∃ (s : State) (i : StepIn), (s.f 0 JOURNAL_STAT_running = 1) ∧ (s.f 0 JOURNAL_STAT_step = 3) ∧ (s.jour.buf.length < 16) ∧ (s.pwr.safe = false) :=
  ⟨st [(0, JOURNAL_STAT_running, 1), (0, JOURNAL_STAT_step, 3)], {}, by decide⟩

theorem witness_StartStepsEndFailAndRestart_7 : ∃ (s : State) (i : StepIn), (s.f 0 JOURNAL_STAT_running = 1) ∧ (s.f 0 JOURNAL_STAT_step = 10) ∧ (s.jour.buf.length < 16) ∧ (s.degraded = false) ∧ (s.failsOf 10 < 2) ∧ (s.f 0 JOURNAL_STICKY_restarts < 4) ∧ (s.pwr.railsGood = true ∧ s.pwr.oscReady = true ∧ s.pwr.clkHeld = false ∧ s.pwr.hot = []) :=
  ⟨st [(0, JOURNAL_STAT_running, 1), (0, JOURNAL_STAT_step, 10), (0, JOURNAL_STICKY_restarts, 3)], {}, by decide⟩

theorem witness_TheJournalIsWrittenAndErased_1 : ∃ (s : State) (p : Prog) (bad : List (Fin 64)) (k : Nat) (r : JRec) (l : List JRec), (p ≠ .failed) ∧ (s.jour.buf = r :: l) ∧ (s.frozen = false) ∧ (s.jour.scanned = true) ∧ (s.jour.erase ≠ 2) ∧ (s.jour.cur = some k) ∧ ((s.sector k).failed = false) ∧ ((s.sector k).recs.length + 1 < 2047) :=
  ⟨{ base with jour := { buf := [{ start := 9 }, {}], cur := some 63, scanned := true }, nv := { base.nv with jour := [(63, { hdr := some (4, 5), recs := [none], failed := false })] } }, .torn, [], 63, { start := 9 }, [{}], by decide⟩

theorem witness_TheJournalIsWrittenAndErased_2 : ∃ (s : State) (bad : List (Fin 64)) (k : Nat) (r : JRec) (l : List JRec), (s.jour.buf = r :: l) ∧ (s.frozen = false) ∧ (s.jour.scanned = true) ∧ (s.jour.erase ≠ 2) ∧ (s.jour.cur = some k) ∧ ((s.sector k).failed = false) ∧ ((s.sector k).recs.length < 2047) :=
  ⟨{ base with jour := { buf := [{ start := 9 }, {}], cur := some 63, scanned := true }, nv := { base.nv with jour := [(63, { hdr := some (4, 5), recs := [none], failed := false })] } }, [], 63, { start := 9 }, [{}], by decide⟩

theorem witness_TheJournalIsWrittenAndErased_3 : ∃ (s : State) (p : Prog) (bad : List (Fin 64)), (s.jour.buf = []) :=
  ⟨base, .done, [], by decide⟩

theorem witness_TheJournalIsWrittenAndErased_4 : ∃ (s : State), (s.live 0 = true) ∧ (s.frozen = false) :=
  ⟨st [(0, ⟨CMD_LAST_LO, 0, 32⟩, 77)], by decide⟩

theorem witness_TheJournalIsWrittenAndErased_5 : ∃ (s : State), (s.frozen = true) :=
  ⟨st [(0, JOURNAL_STAT_frozen, 1)], by decide⟩

theorem witness_TheJournalIsWrittenAndErased_6 : ∃ (s : State) (bad : List (Fin 64)), (s.jour.erase = 2) :=
  ⟨{ st [(0, JOURNAL_STAT_erasing, 1)] with jour := { erase := 2, scanned := true } }, [0, 5], by decide⟩

theorem witness_TheJournalIsWrittenAndErased_7 : ∃ (s : State) (bad : List (Fin 64)), (s.jour.erase ≠ 2) :=
  ⟨base, [0, 5], by decide⟩

theorem witness_WakesRampsAndTheDeadline_1 : ∃ (s : State) (rail : Fin 14) (e : WakeEv) (w : Nat), (s.live 0 = true) ∧ (s.wake.queue.find? (fun x => decide (x.1.rail = rail.val)) = some (e, w)) ∧ ((KMap.look s.wake.ramp rail.val).1 = 0) ∧ (s.railSteps rail.val + e.step ≤ 20 * s.wakeLimit) :=
  ⟨{ base with wake := { queue := [(.fill 0 3, 100), (.wakeDm 0, 200)] } }, 2, .fill 0 3, 100, by decide⟩

theorem witness_WakesRampsAndTheDeadline_2 : ∃ (s : State) (rail : Fin 14) (e : WakeEv) (w : Nat), (s.live 0 = true) ∧ (s.wake.queue.find? (fun x => decide (x.1.rail = rail.val)) = some (e, w)) ∧ ((KMap.look s.wake.ramp rail.val).1 ≠ 0 ∨ 20 * s.wakeLimit < s.railSteps rail.val + e.step) :=
  ⟨{ base with wake := { queue := [(.fill 0 3, 100), (.wakeDm 0, 200)], done := [(2, 10240, 200), (2, 9000, 161)] } }, 2, .fill 0 3, 100, by decide⟩

theorem witness_WakesRampsAndTheDeadline_3a : ∃ (s : State) (d : FabDie) (j n c : Nat), (KMap.look s.wake.ramp (d.val + 2) = (j, n, c)) ∧ (0 < j) ∧ (c + j * n ≤ s.time.count) :=
  ⟨{ base with wake := { ramp := [(9, (7, 600, 100))] } }, 7, 7, 600, 100, by decide⟩

theorem witness_WakesRampsAndTheDeadline_3b : ∃ (s : State) (d : FabDie) (j n c : Nat), (KMap.look s.wake.ramp (d.val + 2) = (j, n, c)) ∧ (0 < j) ∧ (c + j * n ≤ s.time.count) :=
  ⟨{ base with wake := { ramp := [(9, (6, 600, 100))] } }, 7, 6, 600, 100, by decide⟩

theorem witness_WakesRampsAndTheDeadline_4 : ∃ (s : State) (d : FabDie) (j n c : Nat), (KMap.look s.wake.ramp (d.val + 2) = (j, n, c)) ∧ (j = 0 ∨ s.time.count < c + j * n) :=
  ⟨{ base with wake := { ramp := [(9, (7, 6000, 100))] } }, 7, 7, 6000, 100, by decide⟩

theorem witness_WakesRampsAndTheDeadline_5 : ∃ (s : State) (c : Nat), (s.atStep 12 = true) ∧ (s.degraded = false) ∧ (s.hostPers = true) ∧ (s.f 0 CFG_STAT_pers_up = 0) ∧ (s.jour.buf.length < 16) ∧ (s.start.deadline = some c) ∧ (c + s.f 0 CFG_PDEADLINE_value * 1600000 ≤ s.time.count) :=
  ⟨{ st [(0, JOURNAL_STAT_running, 1), (0, JOURNAL_STAT_step, 12), (0, CFG_PDEADLINE_value, 1)] with time := ⟨1600100, 5, 1600000, 2048, 256⟩, start := { deadline := some 100, hdr := some { hostDev with persSrc := 1 } } }, 100, by decide⟩

theorem witness_LoadsBeginCheckedAndRejected_1 : ∃ (s : State) (src : Fin 4) (addr : BitVec 48) (digest : BitVec 384), (s.live 0 = true) ∧ (s.fab.load ≠ none) :=
  ⟨{ base with fab := { base.fab with load := some (loadOf 1) } }, 3, 7, 0, by decide⟩

theorem witness_LoadsBeginCheckedAndRejected_2 : ∃ (s : State) (src : Fin 4) (addr : BitVec 48) (digest : BitVec 384), (s.live 0 = true) ∧ (s.fab.load = none) ∧ (2 ≤ src.val) :=
  ⟨base, 3, 7, 0, by decide⟩

theorem witness_LoadsBeginCheckedAndRejected_3 : ∃ (s : State) (src : Fin 4) (addr : BitVec 48) (digest : BitVec 384), (s.live 0 = true) ∧ (s.fab.load = none) ∧ (2 ≤ src.val) :=
  ⟨base, 2, 7, 0, by decide⟩

theorem witness_LoadsBeginCheckedAndRejected_4 : ∃ (s : State) (h : Header) (l : Load), (s.fab.load = some l) ∧ (l.hdr = none) ∧ (l.kind ≠ 1) :=
  ⟨{ base with fab := { base.fab with load := some { loadOf 0 with hdr := none } } }, hdrOf 5 [], { loadOf 0 with hdr := none }, by decide⟩

theorem witness_LoadsBeginCheckedAndRejected_5 : ∃ (s : State) (h : Header), (s.fab.load = none ∨ s.fab.load.any (fun l => l.hdr.isSome) = true) :=
  ⟨{ base with fab := { base.fab with load := some (loadOf 1) } }, hdrOf 5 [], by decide⟩

theorem witness_FramesAndSegmentsAreChecked_1 : ∃ (s : State) (k : Nat) (addr : Word) (data : BitVec 4096) (l : Load) (x : Seg), (s.fab.load = some l) ∧ (l.seg k = some x) ∧ (x.ty = 1) ∧ (l.done.contains k = false) ∧ (s.regionState x.die.toNat x.region.toNat = 2) ∧ (KMap.look s.fab.engReady x.die.toNat = true) ∧ (s.dieFenced x.die.toNat = false) ∧ (addr.toNat / 2 ^ 16 % 32 = x.region.toNat) ∧ (x.die.toNat < 10) :=
  ⟨{ st [(9, REGIONS_STATE_state 3, 2)] with fab := { base.fab with load := some (loadOf 1), engReady := [(9, true)] } }, 1, 0x00030128, 0x55, loadOf 1, segOf 1 9 3 33792 520, by decide +kernel⟩

theorem witness_FramesAndSegmentsAreChecked_2 : ∃ (s : State) (k : Nat) (addr : Word) (data : BitVec 4096) (crc : Word) (l : Load) (x : Seg), (s.fab.load = some l) ∧ (l.seg k = some x) ∧ (x.ty = 1) ∧ (l.done.contains k = false) ∧ (s.regionState x.die.toNat x.region.toNat = 2) ∧ (KMap.look s.fab.engReady x.die.toNat = true) ∧ (s.dieFenced x.die.toNat = false) ∧ (addr.toNat / 2 ^ 16 % 32 ≠ x.region.toNat ∨ crc ≠ frameCrc addr data) :=
  ⟨{ st [(9, REGIONS_STATE_state 3, 2)] with fab := { base.fab with load := some (loadOf 1), engReady := [(9, true)] } }, 1, 0x00040128, 0x55, 0, loadOf 1, segOf 1 9 3 33792 520, by decide +kernel⟩

theorem witness_FramesAndSegmentsAreChecked_3 : ∃ (s : State) (k : Nat) (stored : List Byte) (l : Load) (x : Seg), (s.fab.load = some l) ∧ (l.phase = 1) ∧ (l.seg k = some x) ∧ (l.done.contains k = false) ∧ (stored.length < x.len.toNat) :=
  ⟨{ base with fab := { base.fab with load := some (loadOf 1) } }, 1, [1], loadOf 1, segOf 1 9 3 33792 520, by decide +kernel⟩

theorem witness_FramesAndSegmentsAreChecked_4 : ∃ (s : State) (k : Nat) (l : Load), (s.fab.load = some l) ∧ (l.hdr = none) ∧ (l.kind ≠ 1) :=
  ⟨{ base with fab := { base.fab with load := some { loadOf 0 with hdr := none } } }, 0, { loadOf 0 with hdr := none }, by decide⟩

theorem witness_FramesAndSegmentsAreChecked_5 : ∃ (s : State) (k : Nat) (stored : List Byte) (l : Load) (h : Header) (x : Seg), (s.fab.load = some l) ∧ (l.phase = 1) ∧ (l.hdr = some h) ∧ (h.segs[k]? = some x) ∧ (l.done.contains k = false) ∧ (x.len.toNat ≤ stored.length) :=
  ⟨{ base with fab := { base.fab with load := some (loadOf 1) } }, 1, List.replicate 520 0, loadOf 1, hdrOf 6 [segOf 1 2 1 32768 520, segOf 1 9 3 33792 520], segOf 1 9 3 33792 520, by decide +kernel⟩

theorem witness_RegionsDrainAndFill_1 : ∃ (s : State) (r : Fin 192) (l : Load) (answers : List (Byte × List Line)), (s.fab.load = some l) ∧ (l.hdr.isSome = true) ∧ (s.regionState (regionDie r.val) (regionLocal r.val) = 1) ∧ ((s.regionWaiting (regionDie r.val) (regionLocal r.val)).length = answers.length) :=
  ⟨{ st [(2, REGIONS_STATE_state 1, 1)] with fab := { base.fab with load := some (loadOf 1) } }, 1, loadOf 1, [], by decide +kernel⟩

theorem witness_RegionsDrainAndFill_2 : ∃ (s : State) (r : Fin 192) (l : Load), (s.fab.load = some l) ∧ (l.hdr.isSome = true) ∧ (s.regionState (regionDie r.val) (regionLocal r.val) = 1) :=
  ⟨{ st [(2, REGIONS_STATE_state 0, 1)] with fab := { base.fab with load := some (loadOf 1), waiting := [(0, [{ (default : Hdr) with dstX := 1, dstY := 1, opcode := 0 }])] } }, 0, loadOf 1, by decide +kernel⟩

theorem witness_RegionsDrainAndFill_3 : ∃ (s : State) (r : Fin 192) (answers : List (Byte × List Line)), (s.regionState (regionDie r.val) (regionLocal r.val) ≠ 1) :=
  ⟨base, 191, [], by decide⟩

theorem witness_RegionsDrainAndFill_4 : ∃ (s : State) (init : List (Blk × Nat × BitVec 64)) (binds : List ChanBind) (busy : List (FabDie × Fin 8)) (l : Load) (b : Blk) (w : Nat), (s.fab.load = some l) ∧ (l.phase = 2) :=
  ⟨{ base with fab := { base.fab with load := some (loadOf 2) } }, [], [], [], loadOf 2, ⟨7, true, 7, 99⟩, 4095, by decide +kernel⟩

theorem witness_RegionsDrainAndFill_5 : ∃ (s : State) (init : List (Blk × Nat × BitVec 64)) (binds : List ChanBind) (busy : List (FabDie × Fin 8)) (l : Load), (s.fab.load = some l) ∧ (l.phase = 2) :=
  ⟨{ base with fab := { base.fab with load := some (loadOf 2) } }, [], [], [], loadOf 2, by decide +kernel⟩

theorem witness_RegionsDrainAndFill_6 : ∃ (s : State) (init : List (Blk × Nat × BitVec 64)) (binds : List ChanBind) (busy : List (FabDie × Fin 8)) (bad : Option (Blk × Nat)), ((s.fab.load.any (fun l => decide (l.phase = 2))) = false) :=
  ⟨{ base with fab := { base.fab with load := some (loadOf 3) } }, [], [], [], none, by decide⟩

theorem witness_RegionsDrainAndFill_7 : ∃ (s : State) (d : FabDie) (bad : List (Bool × Nat × Nat × Nat)), (s.live (d.val + 2) = true) :=
  ⟨base, 7, [(true, 7, 99, 4095)], by decide⟩

theorem witness_StagingAndFlashTransfers_1 : ∃ (s : State) (i : Init) (half : Bool) (len : Nat), (mayStage i = true) ∧ (s.f 0 CFG_STG_STAT_open = 1) ∧ (s.f 0 (stgFree half) = 1) ∧ (0 < len ∧ len ≤ 16384) ∧ ((s.fab.load.all (fun l => l.hdr.isNone)) = true) :=
  ⟨st [(0, CFG_STG_STAT_open, 1), (0, CFG_STG_STAT_free1, 1)], 0x018, true, 16384, by decide⟩

theorem witness_StagingAndFlashTransfers_2 : ∃ (s : State) (i : Init) (half : Bool) (len : Nat), (mayStage i = false ∨ s.f 0 CFG_STG_STAT_open = 0) :=
  ⟨st [(0, CFG_STG_STAT_open, 1)], 0x201, true, 64, by decide⟩

theorem witness_StagingAndFlashTransfers_3 : ∃ (s : State) (i : Init), (mayStage i = true) ∧ (s.f 0 CFG_STG_STAT_open = 1) ∧ (s.fab.load.isSome = true) :=
  ⟨{ st [(0, CFG_STG_STAT_open, 1)] with fab := { base.fab with load := some (loadOf 1) } }, 0x001, by decide⟩

theorem witness_StagingAndFlashTransfers_4 : ∃ (s : State) (i : Init) (flash : Bool), (isHawkmoth i = true) ∧ (s.f 0 NVM_CMDSTAT_busy = 0) ∧ (0 < s.f 0 NVM_LEN_len ∧ s.f 0 NVM_LEN_len ≤ 65536 ∧ s.f 0 NVM_BUF_offset + s.f 0 NVM_LEN_len ≤ 0x40000) ∧ (s.f 0 NVM_ADDR_addr + s.f 0 NVM_LEN_len ≤ (if flash then s.f 0 NVM_SIZE_nvm1 else s.f 0 NVM_SIZE_nvm0) * 0x100000) :=
  ⟨st [(0, NVM_LEN_len, 65536), (0, NVM_SIZE_nvm1, 1), (0, NVM_BUF_offset, 0x30000)], 0x001, true, by decide⟩

theorem witness_StagingAndFlashTransfers_5 : ∃ (s : State) (i : Init) (flash : Bool), (isHawkmoth i = true) ∧ (s.f 0 NVM_CMDSTAT_busy = 0) ∧ (0 < s.f 0 NVM_LEN_len ∧ s.f 0 NVM_LEN_len ≤ 65536 ∧ s.f 0 NVM_BUF_offset + s.f 0 NVM_LEN_len ≤ 0x40000) ∧ (s.f 0 NVM_ADDR_addr + s.f 0 NVM_LEN_len ≤ (if flash then s.f 0 NVM_SIZE_nvm1 else s.f 0 NVM_SIZE_nvm0) * 0x100000) ∧ (nvmProtected flash (s.f 0 NVM_ADDR_addr) (s.f 0 NVM_ADDR_addr + s.f 0 NVM_LEN_len) = false) :=
  ⟨st [(0, NVM_ADDR_addr, 0x500000), (0, NVM_LEN_len, 0), (0, NVM_LEN_len, 1), (0, NVM_ADDR_addr, 0x520000), (0, NVM_SIZE_nvm1, 16), (0, NVM_BUF_offset, 0x3FFFF)], 0x001, true, by decide⟩

theorem witness_StagingAndFlashTransfers_6 : ∃ (s : State) (i : Init) (flash : Bool), (isHawkmoth i = true) ∧ (s.f 0 NVM_CMDSTAT_busy = 0) ∧ (s.f 0 NVM_ADDR_addr % 0x10000 = 0) ∧ (s.f 0 NVM_ADDR_addr + 0x10000 ≤ (if flash then s.f 0 NVM_SIZE_nvm1 else s.f 0 NVM_SIZE_nvm0) * 0x100000) ∧ (nvmProtected flash (s.f 0 NVM_ADDR_addr) (s.f 0 NVM_ADDR_addr + 0x10000) = false) :=
  ⟨st [(0, NVM_ADDR_addr, 0x0F0000), (0, NVM_SIZE_nvm0, 1)], 0x001, false, by decide⟩

theorem witness_StagingAndFlashTransfers_7 : ∃ (s : State) (i : Init) (flash : Bool), (isHawkmoth i = false) :=
  ⟨base, 0x018, false, by decide⟩

theorem witness_StagingAndFlashTransfers_8a : ∃ (s : State) (reason : Fin 6) (flash : Bool) (a n o : Nat) (g : Bool) (b : Nat), (s.nv.transfer = some (flash, a, n, o)) ∧ (reason ≠ 0) ∧ (a + n + 0x10000 ≤ 2 ^ 30) ∧ (b < 2 ^ 30) ∧ (g ≠ flash ∨ b < a ∨ a + (if s.f 0 NVM_CMDSTAT_op = 1 then 0 else if s.f 0 NVM_CMDSTAT_op = 2 then n else 0x10000) ≤ b) :=
  ⟨{ st [(0, NVM_CMDSTAT_op, 2)] with nv := { base.nv with transfer := some (true, 0, 7, 0) } }, 4, true, 0, 7, 0, true, 7, by decide⟩

theorem witness_StagingAndFlashTransfers_8b : ∃ (s : State) (reason : Fin 6) (flash : Bool) (a n o : Nat) (g : Bool) (b : Nat), (s.nv.transfer = some (flash, a, n, o)) ∧ (reason ≠ 0) ∧ (a + n + 0x10000 ≤ 2 ^ 30) ∧ (b < 2 ^ 30) ∧ (g ≠ flash ∨ b < a ∨ a + (if s.f 0 NVM_CMDSTAT_op = 1 then 0 else if s.f 0 NVM_CMDSTAT_op = 2 then n else 0x10000) ≤ b) :=
  ⟨{ st [(0, NVM_CMDSTAT_op, 1)] with nv := { base.nv with transfer := some (true, 9, 7, 0) } }, 4, true, 9, 7, 0, true, 9, by decide⟩

theorem witness_StagingAndFlashTransfers_9a : ∃ (s : State) (flash : Bool) (a n o k : Nat), (s.nv.transfer = some (flash, a, n, o)) ∧ (s.f 0 NVM_CMDSTAT_op = 1 ∨ s.f 0 NVM_CMDSTAT_op = 2) ∧ (o + n ≤ 0x40000) ∧ (nvmProtected flash a (a + n) = false) ∧ (flash = false ∨ a + n ≤ 2 ^ 30) ∧ (k < n) :=
  ⟨{ st [(0, NVM_CMDSTAT_op, 1)] with nv := { base.nv with transfer := some (true, 0x520000, 7, 3), flash := [(0x40520001, 0x5A)] } }, true, 0x520000, 7, 3, 1, by decide⟩

theorem witness_StagingAndFlashTransfers_9b : ∃ (s : State) (flash : Bool) (a n o k : Nat), (s.nv.transfer = some (flash, a, n, o)) ∧ (s.f 0 NVM_CMDSTAT_op = 1 ∨ s.f 0 NVM_CMDSTAT_op = 2) ∧ (o + n ≤ 0x40000) ∧ (nvmProtected flash a (a + n) = false) ∧ (flash = false ∨ a + n ≤ 2 ^ 30) ∧ (k < n) :=
  ⟨{ st [(0, NVM_CMDSTAT_op, 2)] with nv := { base.nv with transfer := some (false, 0x520000, 7, 3), flash := [(0x520001, 0x5A)] }, core := { base.core with dsram := [(1, 0x0F0F0F0F)] } }, false, 0x520000, 7, 3, 1, by decide⟩

theorem witness_StagingAndFlashTransfers_10 : ∃ (s : State) (flash : Bool) (a n o k : Nat), (s.nv.transfer = some (flash, a, n, o)) ∧ (s.f 0 NVM_CMDSTAT_op = 3) ∧ (nvmProtected flash a (a + 0x10000) = false) ∧ (k < 0x10000) :=
  ⟨{ st [(0, NVM_CMDSTAT_op, 3)] with nv := { base.nv with transfer := some (true, 0x520000, 7, 3), flash := [(0x40520001, 0x5A)] } }, true, 0x520000, 7, 3, 1, by decide⟩

theorem witness_MismatchesAreReportedAndRecorded_1 : ∃ (s : State) (d : FabDie) (col : Fin 13) (row : Fin 300) (g : CmbCfg) (x : CmbIn) (u : CmbUpset) (i : Nat) (k : CmbBlk), (s.cmbRegion (d.val + 2) col.val row.val = some i) ∧ (s.live (d.val + 2) = true) ∧ (s.regionState (d.val + 2) i = 5 ∨ s.regionState (d.val + 2) i = 1) ∧ (k = (cmbCycle g x (s.free.getLsbD 0) (KMap.look s.cmb.blk (cmbKey (d.val + 2) col.val row.val))).upset u) ∧ (cmbChecks g x k ≠ []) :=
  ⟨st [(9, REGIONS_STATE_state 23, 5), (9, REGIONS_CREMAP_active, 15)], 7, 11, 299, {}, {}, { acc := 1 }, 23, { acc := 1 }, by decide⟩

theorem witness_MismatchesAreReportedAndRecorded_2 : ∃ (s : State) (d : FabDie) (col : Fin 13) (row : Fin 300) (g : CmbCfg) (x : CmbIn) (u : CmbUpset), ((match s.cmbRegion (d.val + 2) col.val row.val with | some i => s.regionState (d.val + 2) i != 5 && s.regionState (d.val + 2) i != 1 | none => true) = true) :=
  ⟨base, 7, 12, 299, {}, {}, { acc := 1 }, by decide⟩

theorem witness_MismatchesAreReportedAndRecorded_3 : ∃ (s : State) (d : FabDie) (r : CmbReport) (l : List CmbReport), (KMap.look s.cmb.report (d.val + 2) = r :: l) ∧ (r.col < 13) ∧ (r.region < 24) :=
  ⟨{ st [] with cmb := { base.cmb with report := [(9, [⟨12, 299, [1], 0, 3, 7, true⟩])] } }, 7, ⟨12, 299, [1], 0, 3, 7, true⟩, [], by decide⟩

theorem witness_MismatchesAreReportedAndRecorded_4 : ∃ (s : State) (d : FabDie) (r : CmbReport) (l : List CmbReport), (KMap.look s.cmb.fifo (d.val + 2) = r :: l) :=
  ⟨{ st [] with cmb := { base.cmb with fifo := [(9, [⟨12, 299, [1], 0, 3, 7, true⟩])] } }, 7, ⟨12, 299, [1], 0, 3, 7, true⟩, [], by decide⟩

theorem witness_MismatchesAreReportedAndRecorded_5 : ∃ (s : State) (d : FabDie) (peek : Bool), (KMap.look s.cmb.fifo (d.val + 2) = []) :=
  ⟨base, 7, false, by decide⟩

theorem witness_MemoryPortsCorrectAndDetect_1a : ∃ (s : State) (b : Blk) (p : MemPort) (a w k : Nat) (upset : BitVec 72) (sup : Bool), ((s.blk b).asleep = false) ∧ (p.place b.deep a = (w, k)) ∧ ((s.memWord b w).err = 0) ∧ (popcount 72 upset.toNat = 1) :=
  ⟨base, ⟨7, true, 7, 99⟩, { rotate := true }, 32767, 4095, 7, 1 <<< 71, false, by decide⟩

theorem witness_MemoryPortsCorrectAndDetect_1b : ∃ (s : State) (b : Blk) (p : MemPort) (a w k : Nat) (upset : BitVec 72) (sup : Bool), ((s.blk b).asleep = false) ∧ (p.place b.deep a = (w, k)) ∧ ((s.memWord b w).err = 0) ∧ (popcount 72 upset.toNat = 1) :=
  ⟨base, ⟨0, false, 1, 0⟩, { width := 8, portB := true }, 4095, 511, 7, 1, true, by decide⟩

theorem witness_MemoryPortsCorrectAndDetect_2 : ∃ (s : State) (b : Blk) (p : MemPort) (a w k : Nat) (upset : BitVec 72) (sup : Bool), ((s.blk b).asleep = false) ∧ (p.place b.deep a = (w, k)) ∧ ((s.memWord b w).err = 0) ∧ (popcount 72 upset.toNat = 2) :=
  ⟨base, ⟨7, true, 7, 99⟩, { rotate := false }, 4095, 4095, 0, 0x800000000000000001, false, by decide⟩

theorem witness_MemoryPortsCorrectAndDetect_3 : ∃ (s : State) (b : Blk) (p : MemPort) (a w k : Nat) (sup : Bool), ((s.blk b).asleep = false) ∧ (p.place b.deep a = (w, k)) ∧ ((s.memWord b w).err = 0) :=
  ⟨{ base with mem := { base.mem with word := [(((0 * 32 + 1) * 256) * 4096 + 511, ⟨0xA5A5, 0⟩)] } }, ⟨0, false, 1, 0⟩, { width := 8, portB := true }, 4089, 511, 1, true, by decide⟩

theorem witness_MemoryPortsCorrectAndDetect_4a : ∃ (s : State) (b : Blk) (p : MemPort) (a : Nat) (data : BitVec 64), ((s.blk b).asleep = false) ∧ (b.deep = true ∧ p.rotate = false ∨ b.deep = false ∧ p.width = 64) ∧ (s.injArmed b = false) :=
  ⟨base, ⟨7, true, 7, 99⟩, {}, 4095, 0x123456789ABCDEF0, by decide⟩

theorem witness_MemoryPortsCorrectAndDetect_4b : ∃ (s : State) (b : Blk) (p : MemPort) (a : Nat) (data : BitVec 64), ((s.blk b).asleep = false) ∧ (b.deep = true ∧ p.rotate = false ∨ b.deep = false ∧ p.width = 64) ∧ (s.injArmed b = false) :=
  ⟨base, ⟨7, false, 19, 149⟩, { portB := true }, 511, 0x123456789ABCDEF0, by decide⟩

theorem witness_MemoryPortsCorrectAndDetect_5 : ∃ (s : State) (b : Blk) (p : MemPort) (a w k : Nat) (data : BitVec 64) (be : Byte), ((s.blk b).asleep = false) ∧ (p.place b.deep a = (w, k)) ∧ (b.deep = true ∧ be ≠ 0xFF ∧ be ≠ 0 ∧ p.rotate = false ∨ b.deep = false ∧ p.width = 8) ∧ (popcount 72 (s.memWord b w).err.toNat = 2) :=
  ⟨{ base with mem := { base.mem with word := [(((0 * 32 + 1) * 256) * 4096 + 511, ⟨0xA5A5, 3⟩)] } }, ⟨0, false, 1, 0⟩, { width := 8, portB := true }, 4088, 511, 0, 1, 0xFF, by decide⟩

theorem witness_MemoryPortsCorrectAndDetect_6 : ∃ (s : State) (b : Blk) (p : MemPort) (a : Nat) (data : BitVec 64) (be : Byte), ((s.blk b).asleep = false) ∧ (p.portB = true) :=
  ⟨base, ⟨7, false, 1, 6⟩, { portB := true }, 511, 1, 0xFF, by decide⟩

theorem witness_MemoryPortsCorrectAndDetect_7 : ∃ (s : State) (b : Blk) (p : MemPort) (a : Nat) (data : BitVec 64) (be : Byte) (c sup : Bool) (upset : BitVec 72), ((s.blk b).asleep = true) :=
  ⟨{ base with mem := { base.mem with blk := [((⟨7, true, 7, 99⟩ : Blk).key, { asleep := true })] } }, ⟨7, true, 7, 99⟩, {}, 511, 1, 0xFF, true, true, 1, by decide⟩

theorem witness_MemoryPortsCorrectAndDetect_8 : ∃ (s : State) (b : Blk), (s.regionState b.di b.region = 5) :=
  ⟨st [(9, REGIONS_STATE_state 23, 5)], ⟨7, true, 7, 99⟩, by decide⟩

theorem witness_MemoryPortsCorrectAndDetect_9 : ∃ (s : State) (b : Blk), (s.regionState b.di b.region ≠ 5) :=
  ⟨base, ⟨7, true, 7, 99⟩, by decide⟩

theorem witness_MemoryPortsCorrectAndDetect_10 : ∃ (s : State) (b : Blk) (took : Nat), ((s.blk b).asleep = true) :=
  ⟨{ base with mem := { base.mem with blk := [((⟨7, true, 7, 99⟩ : Blk).key, { asleep := true })] } }, ⟨7, true, 7, 99⟩, 3201, by decide⟩

theorem witness_MemoryReportsWindowsAndInjection_1a : ∃ (s : State) (d : FabDie) (r : MemReport) (l : List MemReport), (KMap.look s.mem.report (d.val + 2) = r :: l) ∧ (r.kind < 4) :=
  ⟨{ base with mem := { base.mem with report := [(9, [⟨true, 7, 99, 3, 3, 23, 4095, 0x7F, 5⟩])] } }, 7, ⟨true, 7, 99, 3, 3, 23, 4095, 0x7F, 5⟩, [], by decide⟩

theorem witness_MemoryReportsWindowsAndInjection_1b : ∃ (s : State) (d : FabDie) (r : MemReport) (l : List MemReport), (KMap.look s.mem.report (d.val + 2) = r :: l) ∧ (r.kind < 4) :=
  ⟨{ base with mem := { base.mem with report := [(9, [⟨true, 7, 99, 0, 3, 23, 4095, 0x7F, 5⟩])] } }, 7, ⟨true, 7, 99, 0, 3, 23, 4095, 0x7F, 5⟩, [], by decide⟩

theorem witness_MemoryReportsWindowsAndInjection_2 : ∃ (s : State) (d : FabDie) (r : MemReport) (l : List MemReport), (KMap.look s.mem.fifo (d.val + 2) = r :: l) :=
  ⟨{ base with mem := { base.mem with fifo := [(9, [⟨true, 7, 99, 3, 3, 23, 4095, 0x7F, 5⟩])] } }, 7, ⟨true, 7, 99, 3, 3, 23, 4095, 0x7F, 5⟩, [], by decide⟩

theorem witness_MemoryReportsWindowsAndInjection_3 : ∃ (s : State) (d : FabDie) (access : WinAccess) (h : Hdr) (l : List Line) (rest : List (Hdr × List Line)) (b : Blk) (off : Nat), (KMap.look s.mem.window (d.val + 2) = (h, l) :: rest) ∧ (windowBlk d (h.addr % 0x4000000) = some (b, off)) ∧ (access = .none ∨ access = .read ∧ h.opcode = 1 ∨ s.regionState b.di b.region ≠ 5) :=
  ⟨{ st [(9, REGIONS_STATE_state 0, 5)] with mem := { base.mem with window := [(9, [({ dstX := 12, dstY := 5, opcode := 1, addr := 0x1000000 }, [])])] } }, 7, .read, { dstX := 12, dstY := 5, opcode := 1, addr := 0x1000000 }, [], [], ⟨7, true, 0, 0⟩, 0, by decide⟩

theorem witness_MemoryReportsWindowsAndInjection_4 : ∃ (s : State) (d : FabDie) (access : WinAccess) (h : Hdr) (l : List Line) (rest : List (Hdr × List Line)) (b : Blk) (off : Nat), (KMap.look s.mem.window (d.val + 2) = (h, l) :: rest) ∧ (windowBlk d (h.addr % 0x4000000) = some (b, off)) ∧ (access = .readWrite ∨ access = .read ∧ h.opcode = 0) ∧ (s.regionState b.di b.region = 5) ∧ ((s.blk b).asleep = true) :=
  ⟨{ st [(9, REGIONS_STATE_state 0, 5)] with mem := { base.mem with window := [(9, [({ dstX := 12, dstY := 5, opcode := 1, addr := 0x1000000 }, [])])], blk := [((⟨7, true, 0, 0⟩ : Blk).key, { asleep := true })] } }, 7, .readWrite, { dstX := 12, dstY := 5, opcode := 1, addr := 0x1000000 }, [], [], ⟨7, true, 0, 0⟩, 0, by decide⟩

theorem witness_MemoryReportsWindowsAndInjection_5a : ∃ (s : State) (d : FabDie) (access : WinAccess) (h : Hdr) (l : List Line) (rest : List (Hdr × List Line)) (b : Blk) (off : Nat), (KMap.look s.mem.window (d.val + 2) = (h, l) :: rest) ∧ (windowBlk d (h.addr % 0x4000000) = some (b, off)) ∧ (access = .readWrite ∨ access = .read ∧ h.opcode = 0) ∧ (s.regionState b.di b.region = 5) ∧ ((s.blk b).asleep = false) ∧ (s.mem.word.all (fun e => e.2.err == 0) = true) ∧ (s.injArmed b = false) :=
  ⟨{ st [(9, REGIONS_STATE_state 0, 5)] with mem := { base.mem with window := [(9, [({ dstX := 12, dstY := 5, opcode := 1, addr := 0x1000000 }, [⟨1, 7⟩])])] } }, 7, .readWrite, { dstX := 12, dstY := 5, opcode := 1, addr := 0x1000000 }, [⟨1, 7⟩], [], ⟨7, true, 0, 0⟩, 0, by decide +kernel⟩

theorem witness_MemoryReportsWindowsAndInjection_5b : ∃ (s : State) (d : FabDie) (access : WinAccess) (h : Hdr) (l : List Line) (rest : List (Hdr × List Line)) (b : Blk) (off : Nat), (KMap.look s.mem.window (d.val + 2) = (h, l) :: rest) ∧ (windowBlk d (h.addr % 0x4000000) = some (b, off)) ∧ (access = .readWrite ∨ access = .read ∧ h.opcode = 0) ∧ (s.regionState b.di b.region = 5) ∧ ((s.blk b).asleep = false) ∧ (s.mem.word.all (fun e => e.2.err == 0) = true) ∧ (s.injArmed b = false) :=
  ⟨{ st [(9, REGIONS_STATE_state 0, 5)] with mem := { base.mem with window := [(9, [({ dstX := 12, dstY := 5, opcode := 0, addr := 0x1000000, count := 63 }, [])])] } }, 7, .read, { dstX := 12, dstY := 5, opcode := 0, addr := 0x1000000, count := 63 }, [], [], ⟨7, true, 0, 0⟩, 0, by decide⟩

theorem witness_MemoryReportsWindowsAndInjection_6 : ∃ (s : State) (d : FabDie) (access : WinAccess) (h : Hdr) (l : List Line) (rest : List (Hdr × List Line)), (KMap.look s.mem.window (d.val + 2) = (h, l) :: rest) :=
  ⟨{ base with mem := { base.mem with window := [(9, [({ dstX := 12, dstY := 5, opcode := 1, addr := 0xFFFFFF }, [⟨1, 7⟩])])] } }, 7, .readWrite, { dstX := 12, dstY := 5, opcode := 1, addr := 0xFFFFFF }, [⟨1, 7⟩], [], by decide +kernel⟩

theorem witness_MemoryReportsWindowsAndInjection_7 : ∃ (s : State) (d : FabDie) (v : Word), (s.lifeCycle = 0 ∨ s.lifeCycle = 3) :=
  ⟨base, 0, 0xFFFFFFFF, by decide⟩

theorem witness_MemoryReportsWindowsAndInjection_8 : ∃ (s : State) (d : FabDie) (v : Word), (s.lifeCycle ≠ 0 ∧ s.lifeCycle ≠ 3) :=
  ⟨{ base with keys := { base.keys with lc := 2 } }, 0, 0xFFFFFFFF, by decide⟩

theorem witness_RequestsAreNumberedJudgedAndSent_1a : ∃ (s : State) (r : NocReq), (s.live (initDie r.src) = true) ∧ (s.net.ents = []) ∧ (isHost r.src = false ∧ isDebugMaster r.src = false ∧ initCore r.src.toNat = none ∧ r.serve = none) ∧ (s.decodeAddr r.addr.toNat r.bytes = none) :=
  ⟨base, { src := 0x281, write := false, addr := 0xE00000000000, count := 511, queue := 31 }, by decide⟩

theorem witness_RequestsAreNumberedJudgedAndSent_1b : ∃ (s : State) (r : NocReq), (s.live (initDie r.src) = true) ∧ (s.net.ents = []) ∧ (isHost r.src = false ∧ isDebugMaster r.src = false ∧ initCore r.src.toNat = none ∧ r.serve = none) ∧ (s.decodeAddr r.addr.toNat r.bytes = none) :=
  ⟨base, { src := 0x940, write := true, addr := 0xC00020000000, lines := [⟨1, 5⟩], queue := 0 }, by decide⟩

theorem witness_RequestsAreNumberedJudgedAndSent_2a : ∃ (s : State) (r : NocReq) (x : Dest) (a b : Nat × Nat) (h : Hdr), (s.live (initDie r.src) = true) ∧ (s.net.ents = []) ∧ (isHost r.src = false ∧ isDebugMaster r.src = false ∧ initCore r.src.toNat = none ∧ r.serve = none ∧ r.via = none) ∧ (s.decodeAddr r.addr.toNat r.bytes = some [x]) ∧ (epRouter (initDie r.src) (initEp r.src) = some a) ∧ (epRouter x.die x.ep = some b) ∧ (h = { dstX := b.1, dstY := b.2, dstEp := x.ep, srcX := a.1, srcY := a.2, srcId := r.src.toNat, opcode := if r.write then 1 else 0, key := r.key.val, dbg := r.dbg, queue := r.queue.val, seq := KMap.look s.net.seq (r.src.toNat * 32 + r.queue.val) % 1024, flits := if r.write then min r.lines.length ((x.addr + x.bytes + 63) / 64 - x.addr / 64) else 0, addr := x.addr, count := if r.write then 0 else x.bytes - 1 }) ∧ (x.addr / 64 = r.addr.toNat / 64) ∧ (s.admission h = .best) :=
  ⟨base, { src := 0x281, write := false, addr := 0xF00003000010, count := 3, queue := 31 }, ⟨3, 0, 0xF00003000010, 4⟩, ((epRouter 2 0x81).getD (0, 0)), ((epRouter 3 0).getD (0, 0)), { dstX := ((epRouter 3 0).getD (0, 0)).1, dstY := ((epRouter 3 0).getD (0, 0)).2, dstEp := 0, srcX := ((epRouter 2 0x81).getD (0, 0)).1, srcY := ((epRouter 2 0x81).getD (0, 0)).2, srcId := 0x281, queue := 31, addr := 0xF00003000010, count := 3 }, by decide⟩

theorem witness_RequestsAreNumberedJudgedAndSent_2b : ∃ (s : State) (r : NocReq) (x : Dest) (a b : Nat × Nat) (h : Hdr), (s.live (initDie r.src) = true) ∧ (s.net.ents = []) ∧ (isHost r.src = false ∧ isDebugMaster r.src = false ∧ initCore r.src.toNat = none ∧ r.serve = none ∧ r.via = none) ∧ (s.decodeAddr r.addr.toNat r.bytes = some [x]) ∧ (epRouter (initDie r.src) (initEp r.src) = some a) ∧ (epRouter x.die x.ep = some b) ∧ (h = { dstX := b.1, dstY := b.2, dstEp := x.ep, srcX := a.1, srcY := a.2, srcId := r.src.toNat, opcode := if r.write then 1 else 0, key := r.key.val, dbg := r.dbg, queue := r.queue.val, seq := KMap.look s.net.seq (r.src.toNat * 32 + r.queue.val) % 1024, flits := if r.write then min r.lines.length ((x.addr + x.bytes + 63) / 64 - x.addr / 64) else 0, addr := x.addr, count := if r.write then 0 else x.bytes - 1 }) ∧ (x.addr / 64 = r.addr.toNat / 64) ∧ (s.admission h = .best) :=
  ⟨{ base with net := { base.net with seq := [(0x940 * 32 + 4, 1023)] } }, { src := 0x940, write := true, addr := 0xC0001C000040, lines := [⟨1, 5⟩], queue := 4, key := 63 }, ⟨9, 0x70, 0xC0001C000040, 64⟩, ((epRouter 9 0x40).getD (0, 0)), ((epRouter 9 0x70).getD (0, 0)), { dstX := ((epRouter 9 0x70).getD (0, 0)).1, dstY := ((epRouter 9 0x70).getD (0, 0)).2, dstEp := 0x70, srcX := ((epRouter 9 0x40).getD (0, 0)).1, srcY := ((epRouter 9 0x40).getD (0, 0)).2, srcId := 0x940, opcode := 1, key := 63, seq := 1023, queue := 4, addr := 0xC0001C000040, flits := 1 }, by decide⟩

theorem witness_RequestsAreNumberedJudgedAndSent_3 : ∃ (s : State) (i : Init) (q : Fin 32), (s.live (initDie i) = true) ∧ (s.net.ents = []) ∧ (isHost i = false ∧ isDebugMaster i = false) :=
  ⟨base, 0x281, 31, by decide⟩

theorem witness_RequestsAreNumberedJudgedAndSent_4 : ∃ (s : State) (i : Init) (q : Fin 32) (seq : Fin 1024) (e : NiEnt) (p : NiPart) (k : Nat), (s.net.ents = [e]) ∧ (e.parts = [p]) ∧ (e.started = true) ∧ (p.phase = .held) ∧ (p.is i.toNat q.val seq.val = true) ∧ (s.admission p.hdr = .hold k) :=
  ⟨{ st [(2, PROBES_SCH_STATE_state, 1)] with net := { base.net with ents := [{ req := { src := 0x281, write := false, addr := 0 }, started := true, parts := [{ hdr := { srcId := 0x281, queue := 3, seq := 9, dstX := 1, dstY := 2, dstEp := 0x70 }, phase := .held }] }] }, sch := { base.sch with entry := [(2 * 2 * 4096 + 5, BitVec.ofNat 128 (1 + 2 * 16 + 0x70 * 256 + 0x81 * 65536 + 3 * 2 ^ 24 + 2 ^ 31 + 0 * 2 ^ 32 + 100 * 2 ^ 64 + 2 * 2 ^ 96))] } }, 0x281, 3, 9, { req := { src := 0x281, write := false, addr := 0 }, started := true, parts := [{ hdr := { srcId := 0x281, queue := 3, seq := 9, dstX := 1, dstY := 2, dstEp := 0x70 }, phase := .held }] }, { hdr := { srcId := 0x281, queue := 3, seq := 9, dstX := 1, dstY := 2, dstEp := 0x70 }, phase := .held }, 5, by decide⟩

theorem witness_RequestsAreNumberedJudgedAndSent_5 : ∃ (s : State) (i : Init) (q : Fin 32) (seq : Fin 1024) (e : NiEnt) (p : NiPart) (k : Nat), (s.net.ents = [e]) ∧ (e.parts = [p]) ∧ (e.started = true) ∧ (p.phase = .held) ∧ (p.is i.toNat q.val seq.val = true) ∧ (s.admission p.hdr = .pass k) :=
  ⟨{ st [(2, PROBES_SCH_STATE_state, 1)] with net := { base.net with ents := [{ req := { src := 0x281, write := false, addr := 0 }, started := true, parts := [{ hdr := { srcId := 0x281, queue := 3, seq := 9, dstX := 1, dstY := 2, dstEp := 0x70 }, phase := .held }] }] }, sch := { base.sch with entry := [(2 * 2 * 4096 + 5, BitVec.ofNat 128 (1 + 2 * 16 + 0x70 * 256 + 0x81 * 65536 + 3 * 2 ^ 24 + 2 ^ 31 + 0 * 2 ^ 32 + 100 * 2 ^ 64 + 3 * 2 ^ 96))] } }, 0x281, 3, 9, { req := { src := 0x281, write := false, addr := 0 }, started := true, parts := [{ hdr := { srcId := 0x281, queue := 3, seq := 9, dstX := 1, dstY := 2, dstEp := 0x70 }, phase := .held }] }, { hdr := { srcId := 0x281, queue := 3, seq := 9, dstX := 1, dstY := 2, dstEp := 0x70 }, phase := .held }, 5, by decide⟩

theorem witness_AnswersCompleteRetryOrAreLost_1a : ∃ (s : State) (raw : BitVec 256) (flits : List Flit) (port : Fin 4) (h : Hdr) (e : NiEnt) (p : NiPart) (r : Nat), (hamCheck raw.toNat = .clean h) ∧ (h.legal = true) ∧ (s.live (dieIndex h.dstX h.dstY) = true) ∧ (s.net.ents = [e]) ∧ (e.parts = [p]) ∧ (e.started = true ∧ e.status = 0 ∧ e.dead = false ∧ e.fence = false) ∧ (p.phase = .flight ∧ p.retries = 0 ∧ p.status = 0) ∧ (p.is (dieIndex h.dstX h.dstY * 256 + h.dstEp) h.queue h.seq = true) ∧ (isHost e.req.src = false ∧ isDebugMaster e.req.src = false ∧ initCore e.req.src.toNat = none ∧ e.req.serve = none) ∧ (h.opcode = 3 ∧ e.req.write = true ∧ r = 0 ∨ h.opcode = 4 ∧ r = h.status) :=
  ⟨{ base with net := { base.net with ents := [{ req := { src := 0x281, write := true, addr := 0, queue := 3 }, started := true, parts := [{ hdr := { srcId := 0x281, queue := 3, seq := 9 }, phase := .flight }] }] } }, BitVec.ofNat 256 (hamEncode (Hdr.pack { dstX := ((epRouter 2 0x81).getD (0, 0)).1, dstY := ((epRouter 2 0x81).getD (0, 0)).2, dstEp := 0x81, queue := 3, seq := 9, opcode := 3 })), [], 3, { dstX := ((epRouter 2 0x81).getD (0, 0)).1, dstY := ((epRouter 2 0x81).getD (0, 0)).2, dstEp := 0x81, queue := 3, seq := 9, opcode := 3 }, { req := { src := 0x281, write := true, addr := 0, queue := 3 }, started := true, parts := [{ hdr := { srcId := 0x281, queue := 3, seq := 9 }, phase := .flight }] }, { hdr := { srcId := 0x281, queue := 3, seq := 9 }, phase := .flight }, 0, by decide +kernel⟩

theorem witness_AnswersCompleteRetryOrAreLost_1b : ∃ (s : State) (raw : BitVec 256) (flits : List Flit) (port : Fin 4) (h : Hdr) (e : NiEnt) (p : NiPart) (r : Nat), (hamCheck raw.toNat = .clean h) ∧ (h.legal = true) ∧ (s.live (dieIndex h.dstX h.dstY) = true) ∧ (s.net.ents = [e]) ∧ (e.parts = [p]) ∧ (e.started = true ∧ e.status = 0 ∧ e.dead = false ∧ e.fence = false) ∧ (p.phase = .flight ∧ p.retries = 0 ∧ p.status = 0) ∧ (p.is (dieIndex h.dstX h.dstY * 256 + h.dstEp) h.queue h.seq = true) ∧ (isHost e.req.src = false ∧ isDebugMaster e.req.src = false ∧ initCore e.req.src.toNat = none ∧ e.req.serve = none) ∧ (h.opcode = 3 ∧ e.req.write = true ∧ r = 0 ∨ h.opcode = 4 ∧ r = h.status) :=
  ⟨{ base with net := { base.net with ents := [{ req := { src := 0x281, write := false, addr := 62, count := 3, queue := 3 }, started := true, parts := [{ hdr := { srcId := 0x281, queue := 3, seq := 9 }, phase := .flight }] }] } }, BitVec.ofNat 256 (hamEncode (Hdr.pack { dstX := ((epRouter 2 0x81).getD (0, 0)).1, dstY := ((epRouter 2 0x81).getD (0, 0)).2, dstEp := 0x81, queue := 3, seq := 9, opcode := 4, status := 6 })), [], 3, { dstX := ((epRouter 2 0x81).getD (0, 0)).1, dstY := ((epRouter 2 0x81).getD (0, 0)).2, dstEp := 0x81, queue := 3, seq := 9, opcode := 4, status := 6 }, { req := { src := 0x281, write := false, addr := 62, count := 3, queue := 3 }, started := true, parts := [{ hdr := { srcId := 0x281, queue := 3, seq := 9 }, phase := .flight }] }, { hdr := { srcId := 0x281, queue := 3, seq := 9 }, phase := .flight }, 6, by decide +kernel⟩

theorem witness_AnswersCompleteRetryOrAreLost_2 : ∃ (s : State) (raw : BitVec 256) (flits : List Flit) (port : Fin 4) (h : Hdr) (e : NiEnt) (p : NiPart), (hamCheck raw.toNat = .clean h) ∧ (h.legal = true) ∧ (s.live (dieIndex h.dstX h.dstY) = true) ∧ (s.net.ents = [e]) ∧ (e.parts = [p]) ∧ (p.phase = .flight) ∧ (p.is (dieIndex h.dstX h.dstY * 256 + h.dstEp) h.queue h.seq = true) ∧ (h.opcode = 5) ∧ (s.f (p.hdr.srcId / 256) NOC_CTRL_retry_max = 0 ∨ p.retries + 1 < s.f (p.hdr.srcId / 256) NOC_CTRL_retry_max) :=
  ⟨{ base with net := { base.net with ents := [{ req := { src := 0x281, write := true, addr := 0, queue := 3 }, started := true, parts := [{ hdr := { srcId := 0x281, queue := 3, seq := 9 }, phase := .flight }] }] } }, BitVec.ofNat 256 (hamEncode (Hdr.pack { dstX := ((epRouter 2 0x81).getD (0, 0)).1, dstY := ((epRouter 2 0x81).getD (0, 0)).2, dstEp := 0x81, queue := 3, seq := 9, opcode := 5 })), [], 3, { dstX := ((epRouter 2 0x81).getD (0, 0)).1, dstY := ((epRouter 2 0x81).getD (0, 0)).2, dstEp := 0x81, queue := 3, seq := 9, opcode := 5 }, { req := { src := 0x281, write := true, addr := 0, queue := 3 }, started := true, parts := [{ hdr := { srcId := 0x281, queue := 3, seq := 9 }, phase := .flight }] }, { hdr := { srcId := 0x281, queue := 3, seq := 9 }, phase := .flight }, by decide +kernel⟩

theorem witness_AnswersCompleteRetryOrAreLost_3 : ∃ (s : State) (raw : BitVec 256) (flits : List Flit) (port : Fin 4) (h : Hdr), (hamCheck raw.toNat = .clean h) ∧ (h.legal = true) ∧ (s.niPart (dieIndex h.dstX h.dstY * 256 + h.dstEp) h.queue h.seq = none) ∧ (h.dstX ≠ 15 ∨ h.dstY ≠ 0) :=
  ⟨base, BitVec.ofNat 256 (hamEncode (Hdr.pack { dstX := 14, dstY := 9, dstEp := 0x81, queue := 3, seq := 9, opcode := 2 })), [], 3, { dstX := 14, dstY := 9, dstEp := 0x81, queue := 3, seq := 9, opcode := 2 }, by decide +kernel⟩

theorem witness_AnswersCompleteRetryOrAreLost_4 : ∃ (s : State) (i : Init) (q : Fin 32) (die : Die) (ep : Byte) (e : NiEnt) (p : NiPart) (b : Nat × Nat), (s.net.ents = [e]) ∧ (e.parts = [p]) ∧ (p.phase = .retry) ∧ (epRouter die.val ep.toNat = some b) ∧ (p.hdr.srcId = i.toNat ∧ p.hdr.queue = q.val ∧ p.hdr.dstX = b.1 ∧ p.hdr.dstY = b.2 ∧ p.hdr.dstEp = ep.toNat) ∧ (s.admission p.hdr = .best) ∧ (p.retries ≠ 0) :=
  ⟨{ base with net := { base.net with ents := [{ req := { src := 0x281, write := true, addr := 0, queue := 3 }, started := true, parts := [{ hdr := { srcId := 0x281, queue := 3, seq := 9, dstX := ((epRouter 9 0x70).getD (0, 0)).1, dstY := ((epRouter 9 0x70).getD (0, 0)).2, dstEp := 0x70 }, phase := .retry, retries := 2 }] }] } }, 0x281, 3, 9, 0x70, { req := { src := 0x281, write := true, addr := 0, queue := 3 }, started := true, parts := [{ hdr := { srcId := 0x281, queue := 3, seq := 9, dstX := ((epRouter 9 0x70).getD (0, 0)).1, dstY := ((epRouter 9 0x70).getD (0, 0)).2, dstEp := 0x70 }, phase := .retry, retries := 2 }] }, { hdr := { srcId := 0x281, queue := 3, seq := 9, dstX := ((epRouter 9 0x70).getD (0, 0)).1, dstY := ((epRouter 9 0x70).getD (0, 0)).2, dstEp := 0x70 }, phase := .retry, retries := 2 }, ((epRouter 9 0x70).getD (0, 0)), by decide⟩

theorem witness_AnswersCompleteRetryOrAreLost_5 : ∃ (s : State) (i : Init) (q : Fin 32) (seq : Fin 1024) (e : NiEnt) (p : NiPart), (s.net.ents = [e]) ∧ (e.parts = [p]) ∧ (e.started = true ∧ e.status = 0 ∧ e.dead = false ∧ e.fence = false) ∧ (p.phase = .flight ∧ p.retries = 0 ∧ p.status = 0) ∧ (p.is i.toNat q.val seq.val = true) ∧ (isHost e.req.src = false ∧ isDebugMaster e.req.src = false ∧ initCore e.req.src.toNat = none ∧ e.req.serve = none) :=
  ⟨{ base with net := { base.net with ents := [{ req := { src := 0x281, write := false, addr := 62, count := 3, queue := 31 }, started := true, parts := [{ hdr := { srcId := 0x281, queue := 31, seq := 9 }, phase := .flight }] }] } }, 0x281, 31, 9, { req := { src := 0x281, write := false, addr := 62, count := 3, queue := 31 }, started := true, parts := [{ hdr := { srcId := 0x281, queue := 31, seq := 9 }, phase := .flight }] }, { hdr := { srcId := 0x281, queue := 31, seq := 9 }, phase := .flight }, by decide⟩

theorem witness_AnswersCompleteRetryOrAreLost_6 : ∃ (s : State) (raw : BitVec 256) (port : Fin 4) (h : Hdr), (hamCheck raw.toNat = .clean h) ∧ (h.legal = true) ∧ (h.opcode = 6) ∧ (s.live (dieIndex h.dstX h.dstY) = true) :=
  ⟨base, BitVec.ofNat 256 (hamEncode (Hdr.pack { dstX := 14, dstY := 9, dstEp := 0x70, srcId := 0x281, opcode := 6 })), 3, { dstX := 14, dstY := 9, dstEp := 0x70, srcId := 0x281, opcode := 6 }, by decide +kernel⟩

theorem witness_TargetsCheckBeforeTheyAnswer_1 : ∃ (s : State) (raw : BitVec 256) (flits : List Flit) (port : Fin 4) (x : TargetIn) (h : Hdr), (hamCheck raw.toNat = .clean h) ∧ (h.legal = true) ∧ (s.live (dieIndex h.dstX h.dstY) = true) ∧ (epRouter (dieIndex h.dstX h.dstY) h.dstEp ≠ some (h.dstX, h.dstY) ∨ isTarget (dieIndex h.dstX h.dstY) h.dstEp = false) :=
  ⟨base, BitVec.ofNat 256 (hamEncode (Hdr.pack { dstX := 15, dstY := 9, dstEp := 0xFF, srcId := 0x281, opcode := 1 })), [], 3, {}, { dstX := 15, dstY := 9, dstEp := 0xFF, srcId := 0x281, opcode := 1 }, by decide +kernel⟩

theorem witness_TargetsCheckBeforeTheyAnswer_2 : ∃ (s : State) (raw : BitVec 256) (flits : List Flit) (port : Fin 4) (x : TargetIn) (h : Hdr), (hamCheck raw.toNat = .clean h) ∧ (h.legal = true) ∧ (s.live (dieIndex h.dstX h.dstY) = true) ∧ (epRouter (dieIndex h.dstX h.dstY) h.dstEp = some (h.dstX, h.dstY) ∧ isTarget (dieIndex h.dstX h.dstY) h.dstEp = true) ∧ (flits.any (fun f => f.truncated) = false) ∧ (h.opcode = 0 ∨ firstBadFlit flits = none) ∧ (s.retryFlag h = true ∧ h.reissue = false) :=
  ⟨{ base with net := { base.net with flag := [(flagKey 9 0x70 0x281 4, true)] } }, BitVec.ofNat 256 (hamEncode (Hdr.pack { dstX := ((epRouter 9 0x70).getD (0, 0)).1, dstY := ((epRouter 9 0x70).getD (0, 0)).2, dstEp := 0x70, srcId := 0x281, queue := 4 })), [], 3, {}, { dstX := ((epRouter 9 0x70).getD (0, 0)).1, dstY := ((epRouter 9 0x70).getD (0, 0)).2, dstEp := 0x70, srcId := 0x281, queue := 4 }, by decide +kernel⟩

theorem witness_TargetsCheckBeforeTheyAnswer_3a : ∃ (s : State) (raw : BitVec 256) (flits : List Flit) (port : Fin 4) (x : TargetIn) (h : Hdr) (i r : Nat), (hamCheck raw.toNat = .clean h) ∧ (h.legal = true) ∧ (s.live (dieIndex h.dstX h.dstY) = true) ∧ (epRouter (dieIndex h.dstX h.dstY) h.dstEp = some (h.dstX, h.dstY) ∧ isTarget (dieIndex h.dstX h.dstY) h.dstEp = true) ∧ (flits.any (fun f => f.truncated) = false) ∧ (s.retryFlag h = false ∨ h.reissue = true) ∧ (s.epGated (dieIndex h.dstX h.dstY) h.dstEp = false ∧ s.regionHolds (dieIndex h.dstX h.dstY) h.dstEp = false) ∧ (h.opcode = 1 ∧ firstBadFlit flits = some i ∧ r = 7 ∨ (h.opcode = 0 ∨ firstBadFlit flits = none) ∧ i = 0 ∧ h.formed flits = false ∧ r = (if (h.dstEp = 0 ∨ h.dstEp = 0x10) ∧ h.opcode ≤ 1 ∧ h.ctlAddr flits = none then 2 else 0x0B)) :=
  ⟨base, BitVec.ofNat 256 (hamEncode (Hdr.pack { dstX := ((epRouter 9 0x70).getD (0, 0)).1, dstY := ((epRouter 9 0x70).getD (0, 0)).2, dstEp := 0x70, srcId := 0x281, queue := 4, opcode := 1, flits := 1 })), [{ line := ⟨1, 5⟩, crc := 0, truncated := false }], 3, {}, { dstX := ((epRouter 9 0x70).getD (0, 0)).1, dstY := ((epRouter 9 0x70).getD (0, 0)).2, dstEp := 0x70, srcId := 0x281, queue := 4, opcode := 1, flits := 1 }, 0, 7, by decide +kernel⟩

theorem witness_TargetsCheckBeforeTheyAnswer_3b : ∃ (s : State) (raw : BitVec 256) (flits : List Flit) (port : Fin 4) (x : TargetIn) (h : Hdr) (i r : Nat), (hamCheck raw.toNat = .clean h) ∧ (h.legal = true) ∧ (s.live (dieIndex h.dstX h.dstY) = true) ∧ (epRouter (dieIndex h.dstX h.dstY) h.dstEp = some (h.dstX, h.dstY) ∧ isTarget (dieIndex h.dstX h.dstY) h.dstEp = true) ∧ (flits.any (fun f => f.truncated) = false) ∧ (s.retryFlag h = false ∨ h.reissue = true) ∧ (s.epGated (dieIndex h.dstX h.dstY) h.dstEp = false ∧ s.regionHolds (dieIndex h.dstX h.dstY) h.dstEp = false) ∧ (h.opcode = 1 ∧ firstBadFlit flits = some i ∧ r = 7 ∨ (h.opcode = 0 ∨ firstBadFlit flits = none) ∧ i = 0 ∧ h.formed flits = false ∧ r = (if (h.dstEp = 0 ∨ h.dstEp = 0x10) ∧ h.opcode ≤ 1 ∧ h.ctlAddr flits = none then 2 else 0x0B)) :=
  ⟨base, BitVec.ofNat 256 (hamEncode (Hdr.pack { dstX := ((epRouter 9 0x70).getD (0, 0)).1, dstY := ((epRouter 9 0x70).getD (0, 0)).2, dstEp := 0x70, srcId := 0x281, addr := 1, count := 511 })), [], 3, {}, { dstX := ((epRouter 9 0x70).getD (0, 0)).1, dstY := ((epRouter 9 0x70).getD (0, 0)).2, dstEp := 0x70, srcId := 0x281, addr := 1, count := 511 }, 0, 0x0B, by decide +kernel⟩

theorem witness_TargetsCheckBeforeTheyAnswer_4 : ∃ (s : State) (raw : BitVec 256) (flits : List Flit) (port : Fin 4) (x : TargetIn) (h : Hdr), (hamCheck raw.toNat = .clean h) ∧ (h.legal = true) ∧ (epRouter (dieIndex h.dstX h.dstY) h.dstEp = some (h.dstX, h.dstY) ∧ isTarget (dieIndex h.dstX h.dstY) h.dstEp = true) ∧ (flits.any (fun f => f.truncated) = true) :=
  ⟨base, BitVec.ofNat 256 (hamEncode (Hdr.pack { dstX := ((epRouter 9 0x70).getD (0, 0)).1, dstY := ((epRouter 9 0x70).getD (0, 0)).2, dstEp := 0x70, srcId := 0x281, queue := 4, opcode := 1, flits := 1 })), [{ line := ⟨1, 5⟩, crc := 0, truncated := true }], 3, {}, { dstX := ((epRouter 9 0x70).getD (0, 0)).1, dstY := ((epRouter 9 0x70).getD (0, 0)).2, dstEp := 0x70, srcId := 0x281, queue := 4, opcode := 1, flits := 1 }, by decide +kernel⟩

theorem witness_TargetsCheckBeforeTheyAnswer_5 : ∃ (s : State) (raw : BitVec 256) (port : Fin 4) (x : TargetIn) (h : Hdr), (hamCheck raw.toNat = .clean h) ∧ (h.legal = true) ∧ (s.live (dieIndex h.dstX h.dstY) = true) ∧ (epRouter (dieIndex h.dstX h.dstY) h.dstEp = some (h.dstX, h.dstY) ∧ isTarget (dieIndex h.dstX h.dstY) h.dstEp = true) ∧ (s.retryFlag h = false ∨ h.reissue = true) ∧ (s.epGated (dieIndex h.dstX h.dstY) h.dstEp = false) ∧ (h.opcode = 0 ∧ h.formed [] = true ∧ h.dstEp = 0x70) :=
  ⟨base, BitVec.ofNat 256 (hamEncode (Hdr.pack { dstX := ((epRouter 9 0x70).getD (0, 0)).1, dstY := ((epRouter 9 0x70).getD (0, 0)).2, dstEp := 0x70, srcId := 0x281, queue := 4, count := 511 })), 3, {}, { dstX := ((epRouter 9 0x70).getD (0, 0)).1, dstY := ((epRouter 9 0x70).getD (0, 0)).2, dstEp := 0x70, srcId := 0x281, queue := 4, count := 511 }, by decide +kernel⟩

theorem witness_ScheduleSwapsAreArmedCheckedAndRefused_1a : ∃ (s : State) (both : Bool) (r : Nat), (s.live 0 = true) ∧ (both = true ∧ r = 7 ∨ both = false ∧ s.rd64 0 PROBES_SCH_AT_LO PROBES_SCH_AT_HI < s.time.num + 2 ∧ r = 1 ∨ both = false ∧ s.time.num + 2 ≤ s.rd64 0 PROBES_SCH_AT_LO PROBES_SCH_AT_HI ∧ s.testPeriod = true ∧ r = 6) :=
  ⟨base, true, 7, by decide⟩

theorem witness_ScheduleSwapsAreArmedCheckedAndRefused_1b : ∃ (s : State) (both : Bool) (r : Nat), (s.live 0 = true) ∧ (both = true ∧ r = 7 ∨ both = false ∧ s.rd64 0 PROBES_SCH_AT_LO PROBES_SCH_AT_HI < s.time.num + 2 ∧ r = 1 ∨ both = false ∧ s.time.num + 2 ≤ s.rd64 0 PROBES_SCH_AT_LO PROBES_SCH_AT_HI ∧ s.testPeriod = true ∧ r = 6) :=
  ⟨st [(0, ⟨PROBES_SCH_AT_LO, 0, 32⟩, 6), (7, PROBES_SCH_STATE_locked, 1)], false, 1, by decide⟩

theorem witness_ScheduleSwapsAreArmedCheckedAndRefused_1c : ∃ (s : State) (both : Bool) (r : Nat), (s.live 0 = true) ∧ (both = true ∧ r = 7 ∨ both = false ∧ s.rd64 0 PROBES_SCH_AT_LO PROBES_SCH_AT_HI < s.time.num + 2 ∧ r = 1 ∨ both = false ∧ s.time.num + 2 ≤ s.rd64 0 PROBES_SCH_AT_LO PROBES_SCH_AT_HI ∧ s.testPeriod = true ∧ r = 6) :=
  ⟨{ st [(0, ⟨PROBES_SCH_AT_LO, 0, 32⟩, 7)] with time := ⟨10240, 5, 10240, 79, 1⟩ }, false, 6, by decide⟩

theorem witness_ScheduleSwapsAreArmedCheckedAndRefused_2 : ∃ (s : State), (s.live 0 = true) ∧ (s.time.num + 2 ≤ s.rd64 0 PROBES_SCH_AT_LO PROBES_SCH_AT_HI) ∧ (s.testPeriod = false) :=
  ⟨{ st [(0, ⟨PROBES_SCH_AT_LO, 0, 32⟩, 7)] with statusFenced := [(4, true)] }, by decide⟩

theorem witness_ScheduleSwapsAreArmedCheckedAndRefused_3 : ∃ (s : State), (s.live 0 = true) :=
  ⟨{ st [(0, PROBES_SCH_SWSTAT_pending, 1), (9, PROBES_SCH_STATE_locked, 1)] with sch := { base.sch with pend := some 9 } }, by decide⟩

theorem witness_ScheduleSwapsAreArmedCheckedAndRefused_4 : ∃ (s : State) (d : Die) (a : Nat), (s.sch.arm = some a) ∧ (s.sch.checking.contains d.val = true) :=
  ⟨{ base with sch := { base.sch with arm := some 9, checking := [0, 9] } }, 9, 9, by decide⟩

theorem witness_ProbesRunTriggerAndStop_1 : ∃ (s : State) (d : Die) (p : Fin 16) (v : Word) (declared : Bool) (u : State) (e : Nat), (p.val < probeCount d.val) ∧ (s.live d.val = true) ∧ (s.on d.val (PROBES_P_CTRL_enable p.val) = false) ∧ (u = s.wr d.val (PROBES_P_CTRL p.val) ((v ||| 1) &&& 0x07FFFFFF)) ∧ (e = (if 9 < u.f d.val (PROBES_P_CTRL_y p.val) ∨ dieIndex (u.f d.val (PROBES_P_CTRL_x p.val)) (u.f d.val (PROBES_P_CTRL_y p.val)) ≠ d.val then 1 else if u.probeBufOk d.val p.val = false then 2 else if u.f d.val (PROBES_P_CTRL_mode p.val) = 3 then 3 else if u.f d.val (PROBES_P_CTRL_trig_src p.val) = 1 ∧ (d.val < 2 ∨ declared = false) then 4 else 0)) :=
  ⟨st [(9, PROBES_P_BUFSZ_s 3, 12)], 9, 3, 0xFFFFFFFF, true, (st [(9, PROBES_P_BUFSZ_s 3, 12)]).wr 9 (PROBES_P_CTRL 3) 0x07FFFFFF, 1, by decide⟩

theorem witness_ProbesRunTriggerAndStop_2 : ∃ (s : State) (d : Die) (p : Fin 16), (s.on d.val (PROBES_P_CTRL_enable p.val) = true) :=
  ⟨st [(9, PROBES_P_CTRL_enable 3, 1), (9, PROBES_P_STAT_state 3, 2)], 9, 3, by decide⟩

theorem witness_ProbesRunTriggerAndStop_3 : ∃ (s : State) (d : Die) (p : Fin 16), (s.probeState d.val p.val = 1) :=
  ⟨st [(9, PROBES_P_STAT_state 3, 1)], 9, 3, by decide⟩

theorem witness_ProbesRunTriggerAndStop_4 : ∃ (s : State) (d : FabDie) (p : Fin 4), (s.probeState (d.val + 2) p.val = 1) ∧ (s.f (d.val + 2) (PROBES_P_CTRL_trig_src p.val) = 1) :=
  ⟨st [(9, PROBES_P_STAT_state 3, 1), (9, PROBES_P_CTRL_trig_src 3, 1)], 7, 3, by decide⟩

theorem witness_ProbesRunTriggerAndStop_5 : ∃ (s : State) (d : Die) (p : Fin 16), (s.probeRuns d.val p.val = true) :=
  ⟨st [(9, PROBES_P_STAT_state 3, 1)], 9, 3, by decide⟩

theorem witness_ProbesRunTriggerAndStop_6 : ∃ (s : State) (d : Die) (p : Fin 16) (a : Nat × BitVec 256) (l : List (Nat × BitVec 256)), (s.live d.val = true) ∧ (s.net.ents = []) ∧ ((s.probeSt d.val p.val).fifo = a :: l) ∧ (s.decodeAddr (s.probeBase d.val p.val + 32 * a.1) 64 = none) ∧ (s.probeBase d.val p.val + 32 * a.1 < 2 ^ 48 ∧ (s.probeBase d.val p.val + 32 * a.1) % 64 = 0) ∧ (l.map (·.1) = [] ∨ l.map (·.1) = [a.1 + 1]) :=
  ⟨{ st [(9, PROBES_P_BUF_HI_addr 3, 0xE000)] with probe := [(9 * 16 + 3, { fifo := [(2, 5), (3, 7)] })] }, 9, 3, (2, 5), [(3, 7)], by decide⟩

theorem witness_ProbesRunTriggerAndStop_7 : ∃ (s : State) (d : Die) (p : Fin 16) (status : Byte), (status ≠ 0) ∧ (s.on d.val (PROBES_P_CTRL_enable p.val) = true) :=
  ⟨st [(9, PROBES_P_CTRL_enable 3, 1)], 9, 3, 0xFF, by decide⟩

theorem witness_StatisticsAreCapturedClearedPinnedAndFreed_1 : ∃ (s : State) (d : Die), (s.live d.val = true) ∧ (isTarget d.val (s.f d.val PROBES_ST_SEL_endpoint) = true) ∧ ((s.stat d.val (s.f d.val PROBES_ST_SEL_endpoint) (s.f d.val PROBES_ST_SEL_entry)).rdb < 2 ^ 64) :=
  ⟨{ st [(9, PROBES_ST_SEL_endpoint, 0x70), (9, PROBES_ST_SEL_entry, 16), (9, PROBES_ST_ID_pin_refused, 1)] with stats := [(statKey 9 0x70 16, { req := 5, rdb := 2 ^ 40 + 3, latmax := 9 })] }, 9, by decide⟩

theorem witness_StatisticsAreCapturedClearedPinnedAndFreed_2 : ∃ (s : State) (d : Die) (ep k : Nat), (s.live d.val = true) ∧ (s.f d.val PROBES_ST_SEL_endpoint = ep ∧ s.f d.val PROBES_ST_SEL_entry = k) ∧ (isTarget d.val ep = true ∧ k ≤ 16) :=
  ⟨{ st [(9, PROBES_ST_SEL_endpoint, 0x70), (9, PROBES_ST_SEL_entry, 15)] with stats := [(statKey 9 0x70 15, { req := 5, rdb := 2 ^ 40 + 3, latmax := 9, pinned := true, used := true, id := 7 })] }, 9, 0x70, 15, by decide⟩

theorem witness_StatisticsAreCapturedClearedPinnedAndFreed_3a : ∃ (s : State) (d : Die) (ep k id : Nat), (s.live d.val = true) ∧ (s.f d.val PROBES_ST_SEL_endpoint = ep ∧ s.f d.val PROBES_ST_SEL_entry = k ∧ s.f d.val PROBES_ST_SEL_pin_id = id) ∧ (isTarget d.val ep = true) :=
  ⟨{ st [(9, PROBES_ST_SEL_endpoint, 0x70), (9, PROBES_ST_SEL_entry, 15), (9, PROBES_ST_SEL_pin_id, 7)] with stats := [(statKey 9 0x70 3, { req := 5, rdb := 2 ^ 40 + 3, latmax := 9, pinned := true, used := true, id := 7 })] }, 9, 0x70, 15, 7, by decide⟩

theorem witness_StatisticsAreCapturedClearedPinnedAndFreed_3b : ∃ (s : State) (d : Die) (ep k id : Nat), (s.live d.val = true) ∧ (s.f d.val PROBES_ST_SEL_endpoint = ep ∧ s.f d.val PROBES_ST_SEL_entry = k ∧ s.f d.val PROBES_ST_SEL_pin_id = id) ∧ (isTarget d.val ep = true) :=
  ⟨{ st [(9, PROBES_ST_SEL_endpoint, 0x70), (9, PROBES_ST_SEL_entry, 15), (9, PROBES_ST_SEL_pin_id, 7)] with stats := [(statKey 9 0x70 3, { req := 5, rdb := 2 ^ 40 + 3, latmax := 9, pinned := false, used := true, id := 7 })] }, 9, 0x70, 15, 7, by decide⟩

theorem witness_StatisticsAreCapturedClearedPinnedAndFreed_3c : ∃ (s : State) (d : Die) (ep k id : Nat), (s.live d.val = true) ∧ (s.f d.val PROBES_ST_SEL_endpoint = ep ∧ s.f d.val PROBES_ST_SEL_entry = k ∧ s.f d.val PROBES_ST_SEL_pin_id = id) ∧ (isTarget d.val ep = true) :=
  ⟨st [(9, PROBES_ST_SEL_endpoint, 0x70), (9, PROBES_ST_SEL_entry, 16), (9, PROBES_ST_SEL_pin_id, 7)], 9, 0x70, 16, 7, by decide⟩

theorem witness_StatisticsAreCapturedClearedPinnedAndFreed_4 : ∃ (s : State) (d : Die) (ep k : Nat), (s.live d.val = true) ∧ (s.f d.val PROBES_ST_SEL_endpoint = ep ∧ s.f d.val PROBES_ST_SEL_entry = k) ∧ (isTarget d.val ep = true ∧ k ≤ 16) :=
  ⟨{ st [(9, PROBES_ST_SEL_endpoint, 0x70), (9, PROBES_ST_SEL_entry, 15)] with stats := [(statKey 9 0x70 15, { req := 5, rdb := 2 ^ 40 + 3, latmax := 9, pinned := true, used := true, id := 7 })] }, 9, 0x70, 15, by decide⟩

theorem witness_EdgesFenceTrainAndReturnInOrder_1a : ∃ (s : State) (d : Die) (e : Fin 4) (test : Bool), (s.live d.val = true) ∧ ((edgeFar d.val e.val).isSome = true) :=
  ⟨st [(9, CORUG_M_CHAN_st 7 3, 1), (9, CORUG_EDGE_trained 0, 1)], 9, 0, true, by decide⟩

theorem witness_EdgesFenceTrainAndReturnInOrder_1b : ∃ (s : State) (d : Die) (e : Fin 4) (test : Bool), (s.live d.val = true) ∧ ((edgeFar d.val e.val).isSome = true) :=
  ⟨st [(0, CORUG_M_CHAN_st 31 3, 1), (0, CORUG_EVT_fence, 1)], 0, 3, false, by decide⟩

theorem witness_EdgesFenceTrainAndReturnInOrder_2 : ∃ (s : State) (d : Die) (e : Fin 4), (s.live d.val = true) ∧ ((edgeFar d.val e.val).isSome = true) :=
  ⟨st [(0, CORUG_M_CHAN_st 31 3, 1)], 0, 3, by decide⟩

theorem witness_EdgesFenceTrainAndReturnInOrder_3a : ∃ (s : State) (i : Init) (d : Die) (e : Fin 4) (r : Nat), (s.live d.val = true) ∧ (corugReason 1 i d.val e.val 0 0 s = r ∧ r ≠ 0) :=
  ⟨base, 0x001, 9, 0, 3, by decide⟩

theorem witness_EdgesFenceTrainAndReturnInOrder_3b : ∃ (s : State) (i : Init) (d : Die) (e : Fin 4) (r : Nat), (s.live d.val = true) ∧ (corugReason 1 i d.val e.val 0 0 s = r ∧ r ≠ 0) :=
  ⟨base, 0x081, 9, 0, 1, by decide⟩

theorem witness_EdgesFenceTrainAndReturnInOrder_4 : ∃ (s : State) (i : Init) (d : Die) (e : Fin 4), (s.live d.val = true) ∧ (isHawkmoth i = true ∧ s.f d.val CORUG_CMDSTAT_busy = 0 ∧ (edgeFar d.val e.val).isSome = true) ∧ (s.f d.val (CORUG_EDGE_fenced e.val) = 1 ∧ s.f d.val (CORUG_EDGE_reset_seen e.val) = 1) :=
  ⟨st [(9, CORUG_EDGE_fenced 0, 1), (9, CORUG_EDGE_reset_seen 0, 1)], 0x001, 9, 0, by decide⟩

theorem witness_EdgesFenceTrainAndReturnInOrder_5a : ∃ (s : State) (d : Die) (e : Fin 4) (near far : List WireSweep) (f : Nat), (KMap.look s.corug.train d.val = e.val + 1) ∧ (edgeFar d.val e.val = some f) :=
  ⟨{ st [(9, CORUG_CMDSTAT_busy, 1)] with corug := { base.corug with train := [(9, 1)] } }, 9, 0, [⟨7, [0, 65], 63, 3⟩], [⟨7, [1, 2, 3], 63, 3⟩], 8, by decide⟩

theorem witness_EdgesFenceTrainAndReturnInOrder_5b : ∃ (s : State) (d : Die) (e : Fin 4) (near far : List WireSweep) (f : Nat), (KMap.look s.corug.train d.val = e.val + 1) ∧ (edgeFar d.val e.val = some f) :=
  ⟨{ st [(9, CORUG_CMDSTAT_busy, 1)] with corug := { base.corug with train := [(9, 1)] } }, 9, 0, [⟨7, [0, 65], 63, 3⟩], [], 8, by decide⟩

theorem witness_EdgesFenceTrainAndReturnInOrder_6 : ∃ (s : State) (i : Init) (d : Die) (e : Fin 4), (s.live d.val = true) ∧ (isHawkmoth i = true ∧ s.f d.val CORUG_CMDSTAT_busy = 0 ∧ (edgeFar d.val e.val).isSome = true) ∧ (s.f d.val (CORUG_EDGE_fenced e.val) = 1 ∧ s.f d.val (CORUG_EDGE_reset_seen e.val) = 1 ∧ s.f d.val (CORUG_EDGE_trained e.val) = 1) :=
  ⟨{ st [(9, CORUG_EDGE_fenced 0, 1), (9, CORUG_EDGE_reset_seen 0, 1), (9, CORUG_EDGE_trained 0, 1)] with rtr := [(12 + 16 * 7, { fenced := 15 })] }, 0x001, 9, 0, by decide⟩

theorem witness_EdgesFenceTrainAndReturnInOrder_7a : ∃ (s : State) (d : Die), (s.live 0 = true) ∧ (d.val ≠ 0) :=
  ⟨base, 9, by decide⟩

theorem witness_EdgesFenceTrainAndReturnInOrder_7b : ∃ (s : State) (d : Die), (s.live 0 = true) ∧ (d.val ≠ 0) :=
  ⟨base, 1, by decide⟩

theorem witness_EdgesFenceTrainAndReturnInOrder_8a : ∃ (s : State) (d : Die), (s.live d.val = true) ∧ (KMap.look s.statusFenced d.val = true) :=
  ⟨{ base with statusFenced := [(9, true)], corug := { base.corug with linkReset := [(9, true)] } }, 9, by decide⟩

theorem witness_EdgesFenceTrainAndReturnInOrder_8b : ∃ (s : State) (d : Die), (s.live d.val = true) ∧ (KMap.look s.statusFenced d.val = true) :=
  ⟨{ base with statusFenced := [(9, true)] }, 9, by decide⟩

theorem witness_LinkFramesAndSlotsAreTakenByTheirCodes_1 : ∃ (s : State) (d : Die) (m : Fin 32) (raw : BitVec 2048), (s.live d.val = true) ∧ (moduleExists d.val m.val = true ∧ moduleKind d.val m.val = 0) ∧ (crc16 (bytesOf 6 (nbits raw.toNat 1848 48)) = nbits raw.toNat 1896 16) ∧ (nbits raw.toNat 1888 8 > 1 ∨ nbits raw.toNat 1888 8 = 0 ∧ KMap.look s.corug.born (d.val * 4 + m.val / 8) = false) ∧ (s.f d.val (CORUG_EDGE_fenced (m.val / 8)) = 0) :=
  ⟨base, 9, 27, BitVec.ofNat 2048 (2 ^ 512 + 2 ^ (616 * 2 + 513) + 7 + 0x12345678 * 2 ^ 1848 + crc16 (bytesOf 6 0x12345678) * 2 ^ 1896), by decide +kernel⟩

theorem witness_LinkFramesAndSlotsAreTakenByTheirCodes_2 : ∃ (s : State) (d : Die) (m : Fin 32) (raw : BitVec 2048), (s.live d.val = true) ∧ (moduleExists d.val m.val = true ∧ moduleKind d.val m.val = 0) ∧ (crc16 (bytesOf 6 (nbits raw.toNat 1848 48)) ≠ nbits raw.toNat 1896 16) ∧ (s.f d.val (CORUG_EDGE_fenced (m.val / 8)) = 0) :=
  ⟨base, 9, 27, BitVec.ofNat 2048 (2 ^ 512 + 2 ^ (616 * 2 + 513) + 7 + 0x12345678 * 2 ^ 1848), by decide +kernel⟩

theorem witness_LinkFramesAndSlotsAreTakenByTheirCodes_3 : ∃ (s : State) (d : Die) (m : Fin 32) (raw : BitVec 2048), (s.live d.val = true) ∧ (moduleExists d.val m.val = true ∧ moduleKind d.val m.val = 0) ∧ (crc16 (bytesOf 6 (nbits raw.toNat 1848 48)) = nbits raw.toNat 1896 16) ∧ (nbits raw.toNat 1888 8 = 1) ∧ (s.f d.val (CORUG_EDGE_fenced (m.val / 8)) = 0) :=
  ⟨base, 9, 27, BitVec.ofNat 2048 ((0x12345678 + 2 ^ 40) * 2 ^ 1848 + crc16 (bytesOf 6 (0x12345678 + 2 ^ 40)) * 2 ^ 1896), by decide +kernel⟩

theorem witness_LinkFramesAndSlotsAreTakenByTheirCodes_4 : ∃ (s : State) (d : Die) (m : Fin 32) (ch : Bool) (raw : BitVec 288) (took : Nat), (s.live d.val = true) ∧ (moduleExists d.val m.val = true ∧ moduleKind d.val m.val ≠ 0) ∧ (s.chanState d.val m.val ch.toNat 1 = 1) ∧ (crc8 (bytesOf 35 (raw.toNat % 2 ^ 280)) ≠ nbits raw.toNat 280 8) :=
  ⟨st [(9, CORUG_M_CHAN_st 7 3, 1), (9, CORUG_M_CHAN_st 7 1, 1)], 9, 7, true, 5, 3, by decide +kernel⟩

theorem witness_LinkFramesAndSlotsAreTakenByTheirCodes_5a : ∃ (s : State) (d : Die) (m : Fin 32) (ch : Bool) (raw : BitVec 288) (x : ChanSt), (s.live d.val = true) ∧ (moduleExists d.val m.val = true ∧ moduleKind d.val m.val ≠ 0) ∧ (s.chanState d.val m.val ch.toNat 1 = 1) ∧ (crc8 (bytesOf 35 (raw.toNat % 2 ^ 280)) = nbits raw.toNat 280 8) ∧ (x = s.chan d.val m.val ch.toNat 1) :=
  ⟨{ st [(9, CORUG_M_CHAN_st 7 3, 1)] with corug := { base.corug with chan := [(chanKey 9 7 1 1, { fifo := [5] })] } }, 9, 7, true, BitVec.ofNat 288 (2 ^ 273 + 63 * 2 ^ 274 + 9 + crc8 (bytesOf 35 (2 ^ 273 + 63 * 2 ^ 274 + 9)) * 2 ^ 280), { fifo := [5] }, by decide +kernel⟩

theorem witness_LinkFramesAndSlotsAreTakenByTheirCodes_5b : ∃ (s : State) (d : Die) (m : Fin 32) (ch : Bool) (raw : BitVec 288) (x : ChanSt), (s.live d.val = true) ∧ (moduleExists d.val m.val = true ∧ moduleKind d.val m.val ≠ 0) ∧ (s.chanState d.val m.val ch.toNat 1 = 1) ∧ (crc8 (bytesOf 35 (raw.toNat % 2 ^ 280)) = nbits raw.toNat 280 8) ∧ (x = s.chan d.val m.val ch.toNat 1) :=
  ⟨{ st [(9, CORUG_M_CHAN_st 7 3, 1)] with corug := { base.corug with chan := [(chanKey 9 7 1 1, { fifo := List.replicate 48 5 })] } }, 9, 7, true, BitVec.ofNat 288 (2 ^ 273 + 63 * 2 ^ 274 + 9 + crc8 (bytesOf 35 (2 ^ 273 + 63 * 2 ^ 274 + 9)) * 2 ^ 280), { fifo := List.replicate 48 5 }, by decide +kernel⟩

theorem witness_LinkFramesAndSlotsAreTakenByTheirCodes_6 : ∃ (s : State) (i : Init) (d : Die) (e : Fin 4) (k : Fin 8) (ch : Bool) (f n : Nat), (s.live d.val = true) ∧ (corugReason 3 i d.val e.val (8 * e.val + k.val) ch.toNat s = 0) ∧ (moduleFar d.val (8 * e.val + k.val) = some (f, n)) ∧ (s.f d.val (CORUG_EDGE_fenced e.val) = 0 ∧ s.f f (CORUG_EDGE_fenced (n / 8)) = 0) ∧ ((s.chan d.val (8 * e.val + k.val) ch.toNat 1).link = (s.chan f n ch.toNat 0).link) ∧ (((s.chan d.val (8 * e.val + k.val) ch.toNat 1).link).isSome = true) :=
  ⟨{ st [(9, CORUG_M_CHAN_st 7 3, 2)] with corug := { base.corug with chan := [(chanKey 8 15 1 0, { link := some 7 }), (chanKey 9 7 1 1, { link := some 7, fifo := [5] })] } }, 0x001, 9, 0, 7, true, 8, 15, by decide⟩

theorem witness_LinkFramesAndSlotsAreTakenByTheirCodes_7 : ∃ (s : State) (d : Die) (m : Fin 32) (wire : Fin 66) (margin : Fin 64), (s.live d.val = true) ∧ (moduleExists d.val m.val = true) :=
  ⟨base, 9, 29, 65, 63, by decide⟩

theorem witness_LinkFramesAndSlotsAreTakenByTheirCodes_8 : ∃ (s : State) (d : Die) (m : Fin 32) (f n : Nat), (moduleFar d.val m.val = some (f, n)) ∧ (KMap.look s.corug.swap (d.val * 32 + m.val) = true ∧ KMap.look s.corug.swap (f * 32 + n) = true) :=
  ⟨{ base with corug := { base.corug with swap := [(8 * 32 + 15, true), (9 * 32 + 7, true)] } }, 9, 7, 8, 15, by decide⟩

theorem witness_AccessoryPartnersAreAdmittedAndBounded_1a : ∃ (s : State) (ok : Bool) (rate : Fin 8), (s.ucie = 1) :=
  ⟨st [(0, UCIE_STAT_state, 1)], true, 7, by decide⟩

theorem witness_AccessoryPartnersAreAdmittedAndBounded_1b : ∃ (s : State) (ok : Bool) (rate : Fin 8), (s.ucie = 1) :=
  ⟨st [(0, UCIE_STAT_state, 1)], false, 7, by decide⟩

theorem witness_AccessoryPartnersAreAdmittedAndBounded_2a : ∃ (s : State) (b : BitVec 128), (s.ucie = 2) ∧ (s.allowList.any (fun e => allowIds b.toNat e && allowRev b.toNat e) = false) :=
  ⟨st [(0, UCIE_STAT_state, 2)], 0x0000000000000000000004057160ABCD, by decide⟩

theorem witness_AccessoryPartnersAreAdmittedAndBounded_2b : ∃ (s : State) (b : BitVec 128), (s.ucie = 2) ∧ (s.allowList.any (fun e => allowIds b.toNat e && allowRev b.toNat e) = false) :=
  ⟨{ st [(0, UCIE_STAT_state, 2)] with start := { base.start with hdr := some { hostDev with allow := [0x00000000000000030A040607_7160ABCD] } } }, 0x0000000000000000000004057160ABCD, by decide⟩

theorem witness_AccessoryPartnersAreAdmittedAndBounded_3 : ∃ (s : State) (b : BitVec 128) (e : BitVec 128) (l : List (BitVec 128)) (c : Nat), (s.ucie = 2) ∧ (s.allowList = e :: l) ∧ ((allowIds b.toNat e && allowRev b.toNat e) = true) ∧ (c = (if s.f 0 UCIE_CTRL_rate_cap = 0 ∨ 4 < s.f 0 UCIE_CTRL_rate_cap then 4 else s.f 0 UCIE_CTRL_rate_cap)) :=
  ⟨{ st [(0, UCIE_STAT_state, 2), (0, UCIE_STAT_rate, 4)] with start := { base.start with hdr := some { hostDev with allow := [0x00000000000000033F030604_7160ABCD] } } }, 0x0000000000000000000004057160ABCD, 0x00000000000000033F030604_7160ABCD, [], 4, by decide⟩

theorem witness_AccessoryPartnersAreAdmittedAndBounded_4 : ∃ (s : State), (s.ucie = 2) :=
  ⟨st [(0, UCIE_STAT_state, 2)], by decide⟩

theorem witness_AccessoryPartnersAreAdmittedAndBounded_5 : ∃ (s : State) (raw : BitVec 2048), (s.ucie = 3) :=
  ⟨{ st [(0, UCIE_STAT_state, 3)] with acc := { base.acc with openVc := [false, true, false, true] } }, 5, by decide⟩

theorem witness_AccessoryPartnersAreAdmittedAndBounded_6a : ∃ (s : State) (r : PartnerReq) (n : Nat), (s.ucie = 3) ∧ (n = (if r.write then r.addr.toNat / 64 * 64 + 64 * r.lines.length - r.addr.toNat else r.count.val + 1)) ∧ (s.acc.initiates = false ∨ [0, 1, 2, 3].any (fun w => decide ((s.ucieWin w).1 ≤ r.addr.toNat) && decide (r.addr.toNat + n ≤ (s.ucieWin w).2)) = false) :=
  ⟨st [(0, UCIE_STAT_state, 3)], { ep := 1, write := false, addr := 0x1000, count := 511, lines := [], queue := 31, seq := 1023 }, 512, by decide⟩

theorem witness_AccessoryPartnersAreAdmittedAndBounded_6b : ∃ (s : State) (r : PartnerReq) (n : Nat), (s.ucie = 3) ∧ (n = (if r.write then r.addr.toNat / 64 * 64 + 64 * r.lines.length - r.addr.toNat else r.count.val + 1)) ∧ (s.acc.initiates = false ∨ [0, 1, 2, 3].any (fun w => decide ((s.ucieWin w).1 ≤ r.addr.toNat) && decide (r.addr.toNat + n ≤ (s.ucieWin w).2)) = false) :=
  ⟨{ st [(0, UCIE_STAT_state, 3), (0, UCIE_WIN_LIM_LO_addr 3, 2)] with acc := { base.acc with initiates := true } }, { ep := 1, write := false, addr := 0x1FFF, count := 1, lines := [], queue := 31, seq := 1023 }, 2, by decide⟩

theorem witness_AccessoryPartnersAreAdmittedAndBounded_7 : ∃ (s : State), (s.ucie = 1 ∨ s.ucie = 2 ∨ s.ucie = 3) :=
  ⟨st [(0, UCIE_STAT_state, 3)], by decide⟩

theorem witness_AccessoryPartnersAreAdmittedAndBounded_8 : ∃ (s : State) (i : Init), (isHawkmoth i = true) ∧ (s.live 0 = true) :=
  ⟨{ st [(0, UCIE_STAT_state, 5)] with fuses := { base.fuses with variant := 1 } }, 0x001, by decide⟩

theorem witness_TrainingKeepsTheTapsInTheirLimits_1a : ∃ (s : State) (d : IoDie) (l : Fin 80) (b : BitVec 64), (s.laneState d.val l.val = 1) ∧ (tapsOk (s.f d.val (lf l.val LQ_L_TXEQ_pre)) (s.f d.val (lf l.val LQ_L_TXEQ_post)) (s.f d.val (lf l.val LQ_L_TXEQ_main)) = true) ∧ ((s.lane d.val l.val).startPre ≤ 15 ∧ (s.lane d.val l.val).startPost ≤ 24) :=
  ⟨{ st [(1, LQ_L_STAT_state 19 3, 1), (1, LQ_L_TXEQ_pre 19 3, 10), (1, LQ_L_TXEQ_post 19 3, 14), (1, LQ_L_TXEQ_main 19 3, 39)] with lq := { base.lq with lane := [(80 + 79, { startPre := 12, startPost := 20 })] } }, 1, 79, BitVec.ofNat 64 (0x4FE1 + crc16 (bytesOf 6 0x4FE1) * 2 ^ 48), by decide⟩

theorem witness_TrainingKeepsTheTapsInTheirLimits_1b : ∃ (s : State) (d : IoDie) (l : Fin 80) (b : BitVec 64), (s.laneState d.val l.val = 1) ∧ (tapsOk (s.f d.val (lf l.val LQ_L_TXEQ_pre)) (s.f d.val (lf l.val LQ_L_TXEQ_post)) (s.f d.val (lf l.val LQ_L_TXEQ_main)) = true) ∧ ((s.lane d.val l.val).startPre ≤ 15 ∧ (s.lane d.val l.val).startPost ≤ 24) :=
  ⟨{ st [(1, LQ_L_STAT_state 19 3, 1), (1, LQ_L_TXEQ_pre 19 3, 10), (1, LQ_L_TXEQ_post 19 3, 14), (1, LQ_L_TXEQ_main 19 3, 39)] with lq := { base.lq with lane := [(80 + 79, { startPre := 12, startPost := 20, ready := 15, own := true })] } }, 1, 79, BitVec.ofNat 64 (0x47E1 + crc16 (bytesOf 6 0x47E1) * 2 ^ 48), by decide⟩

theorem witness_TrainingKeepsTheTapsInTheirLimits_2 : ∃ (s : State) (d : IoDie) (l : Fin 80) (b : BitVec 64), (s.laneState d.val l.val = 1) ∧ (nbits b.toNat 0 8 = 0xE1 ∧ crc16 (bytesOf 6 (b.toNat % 2 ^ 48)) = nbits b.toNat 48 16) ∧ (nbits b.toNat 14 2 = 1 ∧ 15 ≤ (s.lane d.val l.val).ready ∧ (s.lane d.val l.val).own = true) ∧ (bitsOf (s.lane d.val l.val).cfg 0 3 ≠ 1) ∧ (s.laneSpare d.val l.val = none) :=
  ⟨{ st [(1, LQ_L_STAT_state 19 3, 1), (1, LQ_L_TXEQ_pre 19 3, 10), (1, LQ_L_TXEQ_post 19 3, 14), (1, LQ_L_TXEQ_main 19 3, 39)] with lq := { base.lq with lane := [(80 + 79, { startPre := 12, startPost := 20, ready := 15, own := true })] } }, 1, 79, BitVec.ofNat 64 (0x47E1 + crc16 (bytesOf 6 0x47E1) * 2 ^ 48), by decide +kernel⟩

theorem witness_TrainingKeepsTheTapsInTheirLimits_3a : ∃ (s : State) (d : IoDie) (l : Fin 80) (pre post : Fin 4) (better : Bool) (margin : Fin 64) (own : Bool), (s.laneState d.val l.val = 1) ∧ ((s.lane d.val l.val).ready < 16) ∧ (own = ((s.lane d.val l.val).own || (!better && decide (7 ≤ (s.lane d.val l.val).rounds)))) :=
  ⟨{ st [(1, LQ_L_STAT_state 19 3, 1)] with lq := { base.lq with lane := [(80 + 79, { rounds := 7 })] } }, 1, 79, 3, 1, false, 63, true, by decide⟩

theorem witness_TrainingKeepsTheTapsInTheirLimits_3b : ∃ (s : State) (d : IoDie) (l : Fin 80) (pre post : Fin 4) (better : Bool) (margin : Fin 64) (own : Bool), (s.laneState d.val l.val = 1) ∧ ((s.lane d.val l.val).ready < 16) ∧ (own = ((s.lane d.val l.val).own || (!better && decide (7 ≤ (s.lane d.val l.val).rounds)))) :=
  ⟨{ st [(1, LQ_L_STAT_state 19 3, 1)] with lq := { base.lq with lane := [(80 + 79, { rounds := 7 })] } }, 1, 79, 3, 1, true, 63, false, by decide⟩

theorem witness_TrainingKeepsTheTapsInTheirLimits_4 : ∃ (s : State) (d : IoDie) (l : Fin 80) (long : Bool), (s.laneState d.val l.val = 1) ∧ (long = true ∨ (s.lane d.val l.val).valid = false) :=
  ⟨st [(1, LQ_L_STAT_state 19 3, 1)], 1, 79, false, by decide⟩

theorem witness_TrainingKeepsTheTapsInTheirLimits_5 : ∃ (s : State) (d : IoDie) (l : Fin 80), ((s.lane d.val l.val).valid = true) :=
  ⟨{ st [(1, LQ_L_STAT_state 19 3, 1)] with lq := { base.lq with lane := [(80 + 79, { valid := true })] } }, 1, 79, by decide⟩

theorem witness_LanesStartLockBundleAndLoseTheirClock_1 : ∃ (s : State) (i : Init) (d : IoDie) (q : Fin 21) (n : Fin 4), (s.live d.val = true) ∧ (mayLane i d.val = true) ∧ (q.val < 20 ∧ isPcieLane d.val (4 * q.val + n.val) = false) ∧ (s.f d.val (LQ_L_CFG_mode q.val n.val) ≠ 0) ∧ (s.laneClock d.val (4 * q.val + n.val) (s.rd d.val (LQ_L_CFG q.val n.val)) = false) :=
  ⟨st [(1, LQ_L_CFG_mode 19 3, 2)], 0x102, 1, 19, 3, by decide⟩

theorem witness_LanesStartLockBundleAndLoseTheirClock_2 : ∃ (s : State) (i : Init) (d : IoDie) (q : Fin 21) (n : Fin 4), (s.live d.val = true) ∧ (mayLane i d.val = true) ∧ (q.val < 20 ∧ isPcieLane d.val (4 * q.val + n.val) = false) ∧ (s.f d.val (LQ_L_CFG_mode q.val n.val) = 0 ∧ s.bundleUp d.val (4 * q.val + n.val) = false) :=
  ⟨st [(1, LQ_L_STAT_state 19 3, 3)], 0x102, 1, 19, 3, by decide⟩

theorem witness_LanesStartLockBundleAndLoseTheirClock_3 : ∃ (s : State) (i : Init) (d : IoDie) (q : Fin 21) (n : Fin 4), (s.live d.val = true) ∧ (mayLane i d.val = true) ∧ (q.val < 20 ∧ isPcieLane d.val (4 * q.val + n.val) = false) ∧ (s.laneClock d.val (4 * q.val + n.val) (s.rd d.val (LQ_L_CFG q.val n.val)) = true) ∧ (s.f d.val (LQ_L_CFG_mode q.val n.val) > 1) :=
  ⟨st [(1, LQ_L_CFG_mode 19 3, 2), (1, LQ_PLLA_rate_kbps 19, 8000000), (1, LQ_STAT_a_lock 19, 1), (1, LQ_L_CFG_bc 19 3, 1)], 0x102, 1, 19, 3, by decide⟩

theorem witness_LanesStartLockBundleAndLoseTheirClock_4 : ∃ (s : State) (i : Init) (d : IoDie) (q : Fin 21) (n : Fin 4), (s.live d.val = true) ∧ (mayLane i d.val = true) ∧ (q.val < 20 ∧ isPcieLane d.val (4 * q.val + n.val) = false) :=
  ⟨st [(1, LQ_L_STAT_state 19 3, 3), (1, LQ_L_STAT_bundle_up 19 3, 1)], 0x001, 1, 19, 3, by decide⟩

theorem witness_LanesStartLockBundleAndLoseTheirClock_5 : ∃ (s : State) (i : Init) (d : IoDie) (q : Fin 21) (n : Fin 4) (b : Bool) (v : Word), (s.live d.val = true) ∧ (mayLane i d.val = false) :=
  ⟨st [(1, LQ_L_STAT_state 19 3, 3), (1, LQ_L_STAT_bundle_up 19 3, 1)], 0x002, 1, 19, 3, true, 5, by decide⟩

theorem witness_LanesStartLockBundleAndLoseTheirClock_6 : ∃ (s : State) (d : IoDie) (l : Fin 80) (hdr : BitVec 2) (p : BitVec 64) (full : Bool), (s.laneState d.val l.val = 2) ∧ (hdr = 0 ∨ hdr = 3) :=
  ⟨{ st [(1, LQ_L_STAT_state 19 3, 2)] with lq := { base.lq with lane := [(80 + 79, { slip := 65, count := 9 })] } }, 1, 79, 3, 5, true, by decide⟩

theorem witness_LanesStartLockBundleAndLoseTheirClock_7a : ∃ (s : State) (d : IoDie) (l : Fin 80) (hdr : BitVec 2) (p : BitVec 64) (full : Bool), (s.laneState d.val l.val = 2) ∧ (hdr = 1 ∨ hdr = 2) ∧ (s.laneSpare d.val l.val = none) ∧ ((s.bundle d.val l.val).length ≠ 1 ∧ bitsOf (s.lane d.val l.val).cfg 15 1 = 0 ∧ bitsOf (s.lane d.val l.val).cfg 0 3 ≠ 1) :=
  ⟨{ st [(1, LQ_L_STAT_state 19 3, 2)] with lq := { base.lq with lane := [(80 + 79, { cfg := 0x2002, count := 63 })] } }, 1, 79, 2, 5, true, by decide⟩

theorem witness_LanesStartLockBundleAndLoseTheirClock_7b : ∃ (s : State) (d : IoDie) (l : Fin 80) (hdr : BitVec 2) (p : BitVec 64) (full : Bool), (s.laneState d.val l.val = 2) ∧ (hdr = 1 ∨ hdr = 2) ∧ (s.laneSpare d.val l.val = none) ∧ ((s.bundle d.val l.val).length ≠ 1 ∧ bitsOf (s.lane d.val l.val).cfg 15 1 = 0 ∧ bitsOf (s.lane d.val l.val).cfg 0 3 ≠ 1) :=
  ⟨{ st [(1, LQ_L_STAT_state 19 3, 2)] with lq := { base.lq with lane := [(80 + 79, { cfg := 0x2002, count := 62 })] } }, 1, 79, 1, 5, true, by decide⟩

theorem witness_LanesStartLockBundleAndLoseTheirClock_8 : ∃ (s : State) (d : IoDie) (l : Fin 80) (hdr : BitVec 2) (p : BitVec 64) (full : Bool), (s.laneState d.val l.val = 3) ∧ (hdr = 0 ∨ hdr = 3) ∧ (15 ≤ (((s.lane d.val l.val).window.take 63).filter (fun v => !v)).length) :=
  ⟨{ st [(1, LQ_L_STAT_state 19 3, 3)] with lq := { base.lq with lane := [(80 + 79, { window := List.replicate 15 false })] } }, 1, 79, 3, 5, true, by decide⟩

theorem witness_LanesStartLockBundleAndLoseTheirClock_9 : ∃ (s : State) (d : IoDie) (l : Fin 80) (b : BitVec 64) (stamp : BitVec 72), (s.laneState d.val l.val = 3) ∧ (nbits b.toNat 0 8 = 0x4B) ∧ ((s.bundle d.val l.val).headD l.val = l.val) ∧ ((s.bundle d.val l.val).all (fun k => decide (k = l.val) || decide ((s.lane d.val k).align = some (nbits b.toNat 24 40)) && decide (s.laneState d.val k = 3)) = true) ∧ (nbits b.toNat 16 8 = (s.bundle d.val l.val).length) ∧ (s.portOfLane d.val l.val = none) :=
  ⟨{ st [(1, LQ_L_STAT_state 19 2, 3), (1, LQ_L_STAT_state 19 3, 3)] with lq := { base.lq with lane := [(80 + 78, { cfg := 0x2002 }), (80 + 79, { cfg := 0x2002, align := some 7 })] } }, 1, 78, 0x07_02_00_4B, 0xFFFFFFFFFFFFFFFFFF, by decide⟩

theorem witness_LanesStartLockBundleAndLoseTheirClock_10 : ∃ (s : State) (i : Init) (d : IoDie) (q : Fin 21) (b : Bool) (v : Word), (s.live d.val = true) ∧ (mayLane i d.val = true ∧ q.val < 20) ∧ (s.rd d.val (if b then LQ_PLLB q.val else LQ_PLLA q.val) ≠ v &&& 0x83FFFFFF) :=
  ⟨{ st [(1, LQ_L_STAT_state 19 3, 3), (1, LQ_STAT_b_lock 19, 1)] with lq := { base.lq with lane := [(80 + 79, { cfg := 8 })] } }, 0x102, 1, 19, true, 0xFFFFFFFF, by decide⟩

theorem witness_LanesStartLockBundleAndLoseTheirClock_11 : ∃ (s : State) (d : IoDie) (q : Fin 21) (b : Bool), ((if b then s.f d.val (LQ_PLLB_en q.val) else s.f d.val (LQ_PLLA_en q.val)) = 1) ∧ (pllRange (if b then s.f d.val (LQ_PLLB_rate_kbps q.val) else s.f d.val (LQ_PLLA_rate_kbps q.val)) = true) :=
  ⟨st [(1, LQ_PLLB_en 19, 1), (1, LQ_PLLB_rate_kbps 19, 53125000)], 1, 19, true, by decide⟩

theorem witness_LanesStartLockBundleAndLoseTheirClock_12 : ∃ (s : State) (d : IoDie) (q : Fin 21) (b : Bool), (s.f d.val (if b then LQ_STAT_b_lock q.val else LQ_STAT_a_lock q.val) = 1) :=
  ⟨{ st [(1, LQ_L_STAT_state 19 3, 3), (1, LQ_STAT_b_lock 19, 1)] with lq := { base.lq with lane := [(80 + 79, { cfg := 8 })] } }, 1, 19, true, by decide⟩

theorem witness_HostLinkResetsRequestsAndDmaQueues_1 : ∃ (s : State) (r : Nat), (s.on 0 PCIE_STAT_up = true) ∧ (s.pcie.image = []) ∧ (0x500000 ≤ r ∧ r < 0x510000 ∧ r ≠ PCIE_EVT ∧ r ≠ PCIE_STAT) :=
  ⟨st [(0, PCIE_STAT_up, 1), (0, PCIE_Q_STAT_state 31, 1)], 0x5007F4, by decide⟩

theorem witness_HostLinkResetsRequestsAndDmaQueues_2 : ∃ (s : State) (r : Nat), (s.on 0 PCIE_STAT_up = true) ∧ (s.pcie.image = []) ∧ (0x500000 ≤ r ∧ r < 0x510000 ∧ r ≠ PCIE_EVT ∧ r ≠ PCIE_STAT) :=
  ⟨st [(0, PCIE_STAT_up, 1), (0, PCIE_STAT_width, 16), (0, PCIE_Q_STAT_state 31, 1)], 0x5007F4, by decide⟩

theorem witness_HostLinkResetsRequestsAndDmaQueues_3 : ∃ (s : State) (r : Nat), (s.on 0 PCIE_STAT_up = true) ∧ (s.pcie.image = [] ∧ s.hostLoad = false) ∧ (0x500000 ≤ r ∧ r < 0x510000 ∧ r ≠ PCIE_EVT ∧ r ≠ PCIE_STAT) :=
  ⟨st [(0, PCIE_STAT_up, 1), (0, PCIE_STAT_width, 16), (0, PCIE_Q_STAT_state 31, 1)], 0x5007F4, by decide⟩

theorem witness_HostLinkResetsRequestsAndDmaQueues_4 : ∃ (s : State) (speed : Fin 8) (width : Fin 32), (s.live 0 = true ∧ s.pwr.safe = false ∧ s.pwr.perst = false) :=
  ⟨base, 7, 31, by decide⟩

theorem witness_HostLinkResetsRequestsAndDmaQueues_5 : ∃ (s : State), (s.live 0 = true) :=
  ⟨st [(0, PCIE_STAT_up, 1), (0, DBG_OWN_owner, 2)], by decide⟩

theorem witness_HostLinkResetsRequestsAndDmaQueues_6 : ∃ (s : State) (after : Fin 160000001), (s.live 0 = true) :=
  ⟨{ st [(0, PCIE_STAT_perst, 1)] with pwr := { base.pwr with perst := true }, start := { base.start with s9 := true } }, 160000000, by decide⟩

theorem witness_HostLinkResetsRequestsAndDmaQueues_7 : ∃ (s : State) (bar : Fin 5) (write : Bool) (off count : Nat) (lines : List Line) (relaxed : Bool), (s.on 0 PCIE_STAT_up = true) ∧ ((match s.pcie.barFrom with | some t => decide (s.time.count < t) | none => true) = true) :=
  ⟨{ st [(0, PCIE_STAT_up, 1)] with pcie := { base.pcie with barFrom := some 10241 } }, 4, false, 5, 3, [], true, by decide⟩

theorem witness_HostLinkResetsRequestsAndDmaQueues_8a : ∃ (s : State) (bar : Fin 5) (off count : Nat) (relaxed : Bool) (k : Nat), (s.on 0 PCIE_STAT_up = true) ∧ (s.pcie.barFrom = some k ∧ k ≤ s.time.count) ∧ (off % 512 + count < 512) ∧ (s.barTarget bar.val off = none) :=
  ⟨{ st [(0, PCIE_STAT_up, 1)] with pcie := { base.pcie with barFrom := some 10240 } }, 1, 508, 3, true, 10240, by decide⟩

theorem witness_HostLinkResetsRequestsAndDmaQueues_8b : ∃ (s : State) (bar : Fin 5) (off count : Nat) (relaxed : Bool) (k : Nat), (s.on 0 PCIE_STAT_up = true) ∧ (s.pcie.barFrom = some k ∧ k ≤ s.time.count) ∧ (off % 512 + count < 512) ∧ (s.barTarget bar.val off = none) :=
  ⟨{ st [(0, PCIE_STAT_up, 1)] with pcie := { base.pcie with barFrom := some 10240 } }, 0, 0x0B000000, 511, true, 10240, by decide⟩

theorem witness_HostLinkResetsRequestsAndDmaQueues_9 : ∃ (s : State) (bar : Fin 5) (off count : Nat) (relaxed : Bool) (k a key : Nat) (x : Dest) (p : NiPart), (s.on 0 PCIE_STAT_up = true) ∧ (s.live 0 = true) ∧ (s.pcie.barFrom = some k ∧ k ≤ s.time.count) ∧ (off % 512 + count < 512) ∧ (s.barTarget bar.val off = some (a, none, key) ∧ key < 64 ∧ a + 512 < 2 ^ 48) ∧ (s.decodeAddr a (count + 1) = some [x]) ∧ (s.net.ents = []) ∧ (p = mkPart { src := 0x018#12, write := false, addr := BitVec.ofNat 48 a, count := Fin.ofNat 512 count, key := Fin.ofNat 64 key, afterWrites := !relaxed, bar := barCode bar.val } (KMap.look s.net.seq (0x018 * 32) % 1024) x) ∧ (s.admission p.hdr = .best) :=
  ⟨{ st [(0, PCIE_STAT_up, 1)] with pcie := { base.pcie with barFrom := some 10240 } }, 0, 0x03000010, 3, true, 10240, 0xF00003000010, 0, ⟨3, 0, 0xF00003000010, 4⟩, mkPart { src := 0x018#12, write := false, addr := 0xF00003000010, count := 3, key := 0, afterWrites := false, bar := barCode 0 } 0 ⟨3, 0, 0xF00003000010, 4⟩, by decide⟩

theorem witness_HostLinkResetsRequestsAndDmaQueues_10 : ∃ (s : State) (q : Fin 32) (v : BitVec 16), (s.live 0 = true) :=
  ⟨base, 31, 0xFFFF, by decide⟩

theorem witness_HostLinkResetsRequestsAndDmaQueues_11 : ∃ (s : State) (q : Fin 32) (w : Word), (s.live 0 = true) :=
  ⟨base, 31, 0xFFFFFFFE, by decide⟩

theorem witness_HostLinkResetsRequestsAndDmaQueues_12 : ∃ (s : State) (q : Fin 32) (started : Nat), (s.live 0 = true) :=
  ⟨st [(0, PCIE_Q_STAT_state 31, 1)], 31, 1, by decide⟩

theorem witness_HostLinkResetsRequestsAndDmaQueues_13 : ∃ (s : State) (q : Fin 32) (desc : BitVec 224) (later : List Bool), (s.live 0 = true) ∧ (s.f 0 (PCIE_Q_STAT_state q.val) = 1 ∧ s.f 0 (PCIE_Q_HEAD_index q.val) ≠ s.f 0 (PCIE_Q_TAIL_index q.val)) ∧ (descValid desc = true ∧ nbit desc.toNat 161 = false) ∧ (s.f 0 (PCIE_Q_CTRL_ring q.val) ≤ 16) :=
  ⟨st [(0, PCIE_Q_STAT_state 31, 1), (0, PCIE_Q_HEAD_index 31, 7), (0, PCIE_Q_CTRL_ring 31, 3)], 31, BitVec.ofNat 224 (4096 * 2 ^ 64 + 0x1000000 * 2 ^ 128), [], by decide⟩

theorem witness_HostLinkResetsRequestsAndDmaQueues_14 : ∃ (s : State) (q : Fin 32) (desc : BitVec 224) (host : Fin 7) (noc : Byte), (s.live 0 = true) ∧ (s.f 0 (PCIE_Q_STAT_state q.val) = 1 ∧ s.f 0 (PCIE_Q_HEAD_index q.val) ≠ s.f 0 (PCIE_Q_TAIL_index q.val)) ∧ (descValid desc = false ∨ host ≠ 0 ∨ noc ≠ 0) :=
  ⟨st [(0, PCIE_Q_STAT_state 31, 1), (0, PCIE_Q_HEAD_index 31, 7), (0, PCIE_Q_CTRL_ring 31, 3)], 31, BitVec.ofNat 224 (4096 * 2 ^ 64 + 0x1000001 * 2 ^ 128), 6, 0xFF, by decide⟩

theorem witness_PortsExchangeFramesAndComeUpOrGoDown_1 : ∃ (s : State) (p : Fin 8) (b : BitVec 64) (body : List Byte), (s.portSends p.val = true) ∧ (ctlOk b = false) :=
  ⟨st [(1, ITA_P_STAT_state 3, 4)], 7, 0x83, [1], by decide +kernel⟩

theorem witness_PortsExchangeFramesAndComeUpOrGoDown_2a : ∃ (s : State) (p : Fin 8) (b : BitVec 64), (s.portSends p.val = true) ∧ (ctlOk b = true ∧ nbits b.toNat 0 8 = 0x83) ∧ (nbits b.toNat 28 2 ≠ s.pf p.val ITA_P_CFG_width ∨ nbits b.toNat 30 2 ≠ s.pf p.val ITA_P_CFG_rate ∨ rolesPair (s.portRole p.val) (nbits b.toNat 26 2) = false) :=
  ⟨st [(1, ITA_P_STAT_state 3, 4)], 7, mkCtl 0x83 (2 ^ 20), by decide +kernel⟩

theorem witness_PortsExchangeFramesAndComeUpOrGoDown_2b : ∃ (s : State) (p : Fin 8) (b : BitVec 64), (s.portSends p.val = true) ∧ (ctlOk b = true ∧ nbits b.toNat 0 8 = 0x83) ∧ (nbits b.toNat 28 2 ≠ s.pf p.val ITA_P_CFG_width ∨ nbits b.toNat 30 2 ≠ s.pf p.val ITA_P_CFG_rate ∨ rolesPair (s.portRole p.val) (nbits b.toNat 26 2) = false) :=
  ⟨st [(1, ITA_P_STAT_state 3, 4)], 7, mkCtl 0x83 0, by decide +kernel⟩

theorem witness_PortsExchangeFramesAndComeUpOrGoDown_3a : ∃ (s : State) (p : Fin 8) (b : BitVec 64), (s.portState p.val = 2) ∧ (ctlOk b = true ∧ nbits b.toNat 0 8 = 0x83) ∧ (nbits b.toNat 28 2 = s.pf p.val ITA_P_CFG_width ∧ nbits b.toNat 30 2 = s.pf p.val ITA_P_CFG_rate ∧ rolesPair (s.portRole p.val) (nbits b.toNat 26 2) = true) :=
  ⟨{ st [(1, ITA_P_STAT_state 3, 2), (1, ITA_P_CFG_role 3, 1)] with ita := { base.ita with port := [(7, { hellos := 3 })] } }, 7, mkCtl 0x83 0x3FFF, by decide +kernel⟩

theorem witness_PortsExchangeFramesAndComeUpOrGoDown_3b : ∃ (s : State) (p : Fin 8) (b : BitVec 64), (s.portState p.val = 2) ∧ (ctlOk b = true ∧ nbits b.toNat 0 8 = 0x83) ∧ (nbits b.toNat 28 2 = s.pf p.val ITA_P_CFG_width ∧ nbits b.toNat 30 2 = s.pf p.val ITA_P_CFG_rate ∧ rolesPair (s.portRole p.val) (nbits b.toNat 26 2) = true) :=
  ⟨{ st [(1, ITA_P_STAT_state 3, 2), (1, ITA_P_CFG_role 3, 1)] with ita := { base.ita with port := [(7, { hellos := 2 })] } }, 7, mkCtl 0x83 0x3FFF, by decide +kernel⟩

theorem witness_PortsExchangeFramesAndComeUpOrGoDown_4 : ∃ (s : State) (p : Fin 8) (b : BitVec 64) (body : List Byte) (k : Nat), (s.portSends p.val = true) ∧ (ctlOk b = true ∧ nbits b.toNat 0 8 = 0x80 ∧ nbits b.toNat 8 3 = k ∧ 1 ≤ k ∧ k ≤ 4) ∧ (frameBodyOk b body = true ∧ nbits b.toNat 19 12 = (s.port p.val).rxSeq) :=
  ⟨{ st [(1, ITA_P_STAT_state 3, 4)] with ita := { base.ita with port := [(7, { rxSeq := 4095 })] } }, 7, mkCtl 0x80 (4 + 1 * 2 ^ 4 + 4095 * 2 ^ 11), (([1, 2, 3, 4] ++ bytesOf 4 (crc32c (bytesOf 6 (0x80 + (4 + 1 * 2 ^ 4 + 4095 * 2 ^ 11) * 256) ++ [1, 2, 3, 4]))).map (BitVec.ofNat 8)), 4, by decide +kernel⟩

theorem witness_PortsExchangeFramesAndComeUpOrGoDown_5 : ∃ (s : State) (p : Fin 8) (b : BitVec 64) (body : List Byte), (s.portSends p.val = true) ∧ (ctlOk b = true ∧ nbits b.toNat 0 8 = 0x80 ∧ 1 ≤ nbits b.toNat 8 3 ∧ nbits b.toNat 8 3 ≤ 4) ∧ (frameBodyOk b body = false ∨ nbits b.toNat 19 12 ≠ (s.port p.val).rxSeq) :=
  ⟨{ st [(1, ITA_P_STAT_state 3, 4)] with ita := { base.ita with port := [(7, { rxSeq := 4095 })] } }, 7, mkCtl 0x80 (4 + 1 * 2 ^ 4 + 4095 * 2 ^ 11), [1, 2, 3, 4, 5, 6, 7, 8], by decide +kernel⟩

theorem witness_PortsExchangeFramesAndComeUpOrGoDown_6 : ∃ (s : State) (p : Fin 8) (b : BitVec 64), (s.portSends p.val = true) ∧ (ctlOk b = true ∧ nbits b.toNat 0 8 = 0x81) ∧ ((s.port p.val).waiting = []) :=
  ⟨{ st [(1, ITA_P_STAT_state 3, 4)] with ita := { base.ita with port := [(7, { unacked := [(4095, .mgmt (.report 1)), (0, .mgmt (.report 2))], replays := 3, used := [5, 0, 0, 0] })] } }, 7, mkCtl 0x81 (4095 + 3 * 2 ^ 12), by decide +kernel⟩

theorem witness_PortsExchangeFramesAndComeUpOrGoDown_7 : ∃ (s : State) (p : Fin 8) (b : BitVec 64) (l : List (Nat × ItaMsg)), (s.portSends p.val = true) ∧ (ctlOk b = true ∧ nbits b.toNat 0 8 = 0x82) ∧ ((s.port p.val).unacked.any (fun f => f.1 == nbits b.toNat 8 12) = true) ∧ (l = (s.port p.val).unacked.dropWhile (fun f => f.1 != nbits b.toNat 8 12)) ∧ ((s.port p.val).replays < 8) :=
  ⟨{ st [(1, ITA_P_STAT_state 3, 4)] with ita := { base.ita with port := [(7, { unacked := [(4095, .mgmt (.report 1)), (0, .mgmt (.report 2))], replays := 7 })] } }, 7, mkCtl 0x82 0, [(0, .mgmt (.report 2))], by decide +kernel⟩

theorem witness_PortsExchangeFramesAndComeUpOrGoDown_8a : ∃ (s : State) (p : Fin 8), (s.portSends p.val = true) ∧ ((s.port p.val).unacked ≠ []) :=
  ⟨{ st [(1, ITA_P_STAT_state 3, 4)] with ita := { base.ita with port := [(7, { unacked := [(4095, .mgmt (.report 1)), (0, .mgmt (.report 2))], replays := 7 })] } }, 7, by decide⟩

theorem witness_PortsExchangeFramesAndComeUpOrGoDown_8b : ∃ (s : State) (p : Fin 8), (s.portSends p.val = true) ∧ ((s.port p.val).unacked ≠ []) :=
  ⟨{ st [(1, ITA_P_STAT_state 3, 4)] with ita := { base.ita with port := [(7, { unacked := [(4095, .mgmt (.report 1)), (0, .mgmt (.report 2))], replays := 8 })] } }, 7, by decide⟩

theorem witness_PortsExchangeFramesAndComeUpOrGoDown_9 : ∃ (s : State) (p : Fin 8) (b : BitVec 64), (s.portSends p.val = true) ∧ (ctlOk b = true ∧ nbits b.toNat 0 8 = 0x85) :=
  ⟨{ st [(1, ITA_P_STAT_state 3, 4)] with ita := { base.ita with port := [(7, { replays := 7 })], member := [(5, 8)] } }, 7, mkGoodbye 2, by decide +kernel⟩

theorem witness_PortsExchangeFramesAndComeUpOrGoDown_10 : ∃ (s : State) (p : Fin 8), (s.portSends p.val = true) :=
  ⟨{ st [(1, ITA_P_STAT_state 3, 4)] with ita := { base.ita with port := [(7, { replays := 7 })], member := [(5, 8)] } }, 7, by decide⟩

theorem witness_PortsExchangeFramesAndComeUpOrGoDown_11 : ∃ (s : State) (p : Fin 8), (s.portState p.val = 5) :=
  ⟨st [(1, ITA_P_STAT_state 3, 5), (1, ITA_P_CFG_width 3, 1), (1, ITA_P_CFG_lane0 3, 78)], 7, by decide⟩

theorem witness_PortsExchangeFramesAndComeUpOrGoDown_12 : ∃ (s : State) (i : Init) (p : Fin 8), (isHawkmoth i = true) ∧ (s.pf p.val ITA_P_CFG_en = 1) ∧ (s.portState p.val = 4) :=
  ⟨st [(1, ITA_P_STAT_state 3, 4), (1, ITA_P_CFG_en 3, 1)], 0x001, 7, by decide⟩

theorem witness_PortsExchangeFramesAndComeUpOrGoDown_13 : ∃ (s : State) (i : Init) (p : Fin 8), (isHawkmoth i = false) :=
  ⟨base, 0x002, 7, by decide⟩

theorem witness_FollowersJoinMeasureAndLoadTime_1 : ∃ (s : State) (p : Fin 8) (id : BitVec 16) (r : Nat), (s.portSends p.val = true ∧ s.portRole p.val = 1) ∧ (joinReason p.val id.toNat s = r ∧ r ≠ 0) :=
  ⟨st [(1, ITA_P_STAT_state 3, 4), (1, ITA_P_CFG_role 3, 1)], 7, 0xFFFF, 1, by decide⟩

theorem witness_FollowersJoinMeasureAndLoadTime_2 : ∃ (s : State) (p : Fin 8) (id : BitVec 16) (m : ItaMsg), (s.portSends p.val = true ∧ s.portRole p.val = 1 ∧ s.hasUpPort = false) ∧ (joinReason p.val id.toNat s = 0) ∧ (m = .mgmt (.joinGrant (BitVec.ofNat 14 (s.pf p.val ITA_P_CHILD_id)) (BitVec.ofNat 64 (s.time.num + 64)) (BitVec.ofNat 64 (s.boundaryCount (s.time.num + 64))) (BitVec.ofNat 16 (s.f 0 ITA_HORIZON_h)))) :=
  ⟨{ st [(1, ITA_P_STAT_state 3, 4), (1, ITA_P_CFG_role 3, 1), (1, ITA_P_CHILD_valid 3, 1), (1, ITA_P_CHILD_id 3, 63), (0, ITA_ID_upstream, 8)] with tick := { base.tick with sync := true } }, 7, 0xFFFF, .mgmt (.joinGrant 63 69 141312 0), by decide⟩

theorem witness_FollowersJoinMeasureAndLoadTime_3 : ∃ (s : State) (p : Fin 8) (id : BitVec 14) (j count : BitVec 64) (h : BitVec 16), (s.portState p.val = 3 ∧ s.upstream = p.val) :=
  ⟨st [(0, ITA_P_STAT_state 3, 3), (0, ITA_ID_upstream, 3)], 3, 0x3FC0, 0xFFFFFFFFFFFFFFFF, 5, 0xFFFF, by decide⟩

theorem witness_FollowersJoinMeasureAndLoadTime_4 : ∃ (s : State) (p : Fin 8) (reason : Nat), (s.portState p.val = 3 ∧ s.upstream = p.val ∧ 1 ≤ reason) :=
  ⟨st [(0, ITA_P_STAT_state 3, 3), (0, ITA_ID_upstream, 3)], 3, 5, by decide⟩

theorem witness_FollowersJoinMeasureAndLoadTime_5 : ∃ (s : State) (k j c : Nat), (s.hasUpPort = true ∧ s.tick.tb = .running) ∧ (s.portState s.upstream = 3 ∧ (s.port s.upstream).grant = some (j, c)) ∧ (s.slews = false) :=
  ⟨{ st [(0, ITA_P_STAT_state 3, 3), (0, ITA_ID_upstream, 3)] with ita := { base.ita with port := [(3, { grant := some (70, 143360) })] } }, 0, 70, 143360, by decide⟩

theorem witness_FollowersJoinMeasureAndLoadTime_6 : ∃ (s : State) (i : Init) (p : Fin 8), (isHawkmoth i = true ∧ s.pf p.val ITA_P_CFG_en = 1 ∧ s.hasUpPort = true) ∧ (s.portState s.upstream = 4) :=
  ⟨st [(0, ITA_P_STAT_state 3, 4), (0, ITA_ID_upstream, 3), (1, ITA_P_CFG_en 3, 1)], 0x001, 7, by decide⟩

theorem witness_FollowersJoinMeasureAndLoadTime_7 : ∃ (s : State) (i : Init) (p : Fin 8), (itaOpReason 4 i p.val s = 0) :=
  ⟨st [(0, ITA_P_STAT_state 3, 5), (0, ITA_ID_upstream, 3), (1, ITA_P_CFG_en 3, 1), (1, ITA_P_CFG_alt 3, 1), (1, ITA_P_CFG_role 3, 2), (1, ITA_P_STAT_state 3, 4), (1, ITA_P_STAT_sync 3, 1)], 0x001, 7, by decide⟩

theorem witness_FollowersJoinMeasureAndLoadTime_8 : ∃ (s : State) (p : Fin 8) (b : BitVec 64) (stamp : BitVec 72), (s.portSends p.val = true) ∧ (nbit b.toNat 24 = true ∧ nbit b.toNat 25 = false) :=
  ⟨st [(1, ITA_P_STAT_state 3, 4)], 7, mkTsync 65535 true false, 0xFFFFFFFFFFFFFFFFFF, by decide +kernel⟩

theorem witness_FollowersJoinMeasureAndLoadTime_9 : ∃ (s : State) (p : Fin 8) (b : BitVec 64) (stamp : BitVec 72), (s.portSends p.val = true) ∧ (ctlOk b = true ∧ nbits b.toNat 0 8 = 0x84 ∧ nbit b.toNat 24 = true) :=
  ⟨st [(1, ITA_P_STAT_state 3, 4)], 7, mkTsync 65535 true false, 0xFFFFFFFFFFFFFFFFFF, by decide +kernel⟩

theorem witness_FollowersJoinMeasureAndLoadTime_10 : ∃ (s : State) (p : Fin 8) (f : TimeFrame) (t1 t4 : Nat) (d : Int), (s.portSends p.val = true) ∧ ((s.port p.val).arrival = some (f.tseq.toNat, t4)) ∧ ((s.port p.val).calStart = some (f.tseq.toNat, t1) ∧ f.calib = true) ∧ (s.upstream ≠ p.val) ∧ (d = (((t4 : Int) - t1) - ((f.t3.toNat : Int) - f.t2.toNat)) / 2) :=
  ⟨{ st [(1, ITA_P_STAT_state 3, 4), (1, ITA_P_ASYM_a 3, 0xFFFF), (0, ITA_ID_upstream, 8)] with ita := { base.ita with port := [(7, { arrival := some (9, 10000), calStart := some (9, 9000) })] } }, 7, { tseq := 9, calib := true, root := true, holdover := false, pending := false, test := false, epoch := 0, t2 := 7100, t3 := 7500, num := 5, bnd := 10240, p := 2048, q := 256, at_ := 0, pNext := 0, qNext := 0, h := 0, rUp := 0 }, 9000, 10000, 300, by decide⟩

theorem witness_FollowersJoinMeasureAndLoadTime_11 : ∃ (s : State) (p : Fin 8) (f : TimeFrame) (t4 : Nat) (x : Int), (s.portSends p.val = true ∧ s.upstream = p.val ∧ s.isRoot = false) ∧ ((s.port p.val).arrival = some (f.tseq.toNat, t4)) ∧ ((s.port p.val).calStart = none) ∧ (f.pending = false ∧ s.tick.pend = none) ∧ (x = (t4 : Int) - f.t3.toNat - ((s.pf p.val ITA_P_DELAY_d : Int) + signed16 (s.pf p.val ITA_P_ASYM_a))) :=
  ⟨{ st [(0, ITA_P_STAT_state 3, 4), (0, ITA_ID_upstream, 3)] with tick := { base.tick with sync := true }, ita := { base.ita with port := [(3, { arrival := some (9, 10000) })] } }, 3, { tseq := 9, calib := true, root := true, holdover := false, pending := false, test := false, epoch := 0, t2 := 7100, t3 := 7500, num := 5, bnd := 10240, p := 2048, q := 256, at_ := 0, pNext := 0, qNext := 0, h := 0, rUp := 9 }, 10000, 2500, by decide⟩

theorem witness_RoutesEventsAndRemoteFramesFindTheirWay_1 : ∃ (s : State) (p : Fin 8) (id : BitVec 14), (s.portSends p.val = true ∧ s.portRole p.val = 1) ∧ ((s.routeSlot id.toNat).isSome = true) :=
  ⟨st [(1, ITA_P_STAT_state 3, 4), (1, ITA_P_CFG_role 3, 1), (0, ITA_ID_upstream, 2), (0, ITA_P_STAT_state 2, 4)], 7, 0x3FC0, by decide⟩

theorem witness_RoutesEventsAndRemoteFramesFindTheirWay_2 : ∃ (s : State) (p : Fin 8) (id : BitVec 14), (s.portSends p.val = true ∧ s.portRole p.val = 1) ∧ ((s.routeSlot id.toNat).isSome = true) ∧ (s.routeEntry id.toNat = some p.val) :=
  ⟨{ st [(1, ITA_P_STAT_state 3, 4), (1, ITA_P_CFG_role 3, 1), (0, ITA_ID_upstream, 2), (0, ITA_P_STAT_state 2, 4)] with ita := { base.ita with cluster := [(255, 8)] } }, 7, 0x3FC0, by decide⟩

theorem witness_RoutesEventsAndRemoteFramesFindTheirWay_3 : ∃ (s : State) (p : Fin 8) (r : Word), (s.portSends p.val = true ∧ s.portRole p.val = 1) ∧ (s.hasUpPort = false) :=
  ⟨st [(1, ITA_P_STAT_state 3, 4), (1, ITA_P_CFG_role 3, 1), (0, ITA_ID_upstream, 8)], 7, 1000, by decide⟩

theorem witness_RoutesEventsAndRemoteFramesFindTheirWay_4 : ∃ (s : State), (s.hasUpPort = true ∧ s.portSends s.upstream = true) :=
  ⟨st [(0, ITA_ID_upstream, 3), (0, ITA_P_STAT_state 3, 4), (0, ⟨ITA_WORST, 0, 32⟩, 77)], by decide⟩

theorem witness_RoutesEventsAndRemoteFramesFindTheirWay_5 : ∃ (s : State) (p : Fin 8) (m : EvMsg) (w : Nat), (s.portState p.val = 4 ∧ s.portRole p.val ≤ 1) ∧ ((s.ertEntry m.num.toNat).1 = w ∧ nbit w 31 = true ∧ (m.src.toNat ^^^ nbits w 0 14) &&& nbits w 14 14 = 0) ∧ (s.time.num < m.act.toNat ∧ m.act.toNat ≤ s.time.num + 65535 ∧ s.time.count + 64 ≤ s.boundaryCount m.act.toNat) ∧ (s.ita.pend.length < 1024) :=
  ⟨{ st [(1, ITA_P_STAT_state 3, 4), (1, ITA_P_CFG_role 3, 1)] with ita := { base.ita with ert := [(0x3FFF, 0x0000FFFF_B0000000)] } }, 7, { src := 5, be := false, cluster := true, num := 0x3FFF, act := 7, arg := 9 }, 0xB0000000, by decide⟩

theorem witness_RoutesEventsAndRemoteFramesFindTheirWay_6 : ∃ (s : State) (p : Fin 8) (m : EvMsg) (w : Nat), (s.portState p.val = 4 ∧ s.portRole p.val ≤ 1) ∧ ((s.ertEntry m.num.toNat).1 = w ∧ nbit w 31 = true ∧ (m.src.toNat ^^^ nbits w 0 14) &&& nbits w 14 14 = 0) ∧ (m.act.toNat ≤ s.time.num) ∧ (s.ita.pend.length < 1024) :=
  ⟨{ st [(1, ITA_P_STAT_state 3, 4), (1, ITA_P_CFG_role 3, 1)] with ita := { base.ita with ert := [(0x3FFF, 0x0000FFFF_B0000000)] } }, 7, { src := 5, be := true, cluster := true, num := 0x3FFF, act := 5, arg := 9 }, 0xB0000000, by decide⟩

theorem witness_RoutesEventsAndRemoteFramesFindTheirWay_7 : ∃ (s : State) (v : Word) (w : Nat), (s.ita.localEv < 64) ∧ ((s.ertEntry (bitsOf v 0 14)).1 = w ∧ nbit w 31 = true ∧ (s.devId ^^^ nbits w 0 14) &&& nbits w 14 14 = 0) ∧ (0 < s.f 0 ITA_HORIZON_h + bitsOf v 16 16 ∧ s.f 0 ITA_HORIZON_h + bitsOf v 16 16 ≤ 65535) ∧ (s.time.num + s.f 0 ITA_HORIZON_h + bitsOf v 16 16 < 2 ^ 64) ∧ (s.time.count + 64 ≤ s.boundaryCount (s.time.num + s.f 0 ITA_HORIZON_h + bitsOf v 16 16)) ∧ (s.ita.pend.length < 1024) :=
  ⟨{ st [(0, ITA_HORIZON_h, 3)] with ita := { base.ita with localEv := 63, ert := [(0x3FFF, 0x0000FFFF_B0000000)] } }, 0x00023FFF, 0xB0000000, by decide⟩

theorem witness_RoutesEventsAndRemoteFramesFindTheirWay_8 : ∃ (s : State) (r : Fin 192) (num : BitVec 14) (arg : Word) (be cluster : Bool), (s.regionState (regionDie r.val) (regionLocal r.val) = 5) ∧ (64 ≤ s.ita.localEv) :=
  ⟨{ st [(9, REGIONS_STATE_state 23, 5)] with ita := { base.ita with localEv := 64 } }, 191, 5, 6, true, false, by decide⟩

theorem witness_RoutesEventsAndRemoteFramesFindTheirWay_9 : ∃ (s : State) (r : Fin 192) (num : BitVec 14) (arg : Word) (be cluster : Bool) (w : Nat), (s.regionState (regionDie r.val) (regionLocal r.val) = 5) ∧ (s.ita.localEv < 64) ∧ ((s.ertEntry num.toNat).1 = w ∧ nbit w 31 = true ∧ (s.devId ^^^ nbits w 0 14) &&& nbits w 14 14 = 0) ∧ (0 < s.f 0 ITA_HORIZON_h) ∧ (s.time.num + s.f 0 ITA_HORIZON_h < 2 ^ 64) ∧ (s.time.count + 64 ≤ s.boundaryCount (s.time.num + s.f 0 ITA_HORIZON_h)) ∧ (s.ita.pend.length < 1024) :=
  ⟨{ st [(9, REGIONS_STATE_state 23, 5), (0, ITA_HORIZON_h, 3)] with ita := { base.ita with localEv := 63, ert := [(5, 0x0000FFFF_B0000000)] } }, 191, 5, 6, true, false, 0xB0000000, by decide⟩

theorem witness_RoutesEventsAndRemoteFramesFindTheirWay_10 : ∃ (s : State) (m : EvMsg) (l : List EvMsg), (s.ita.hev = m :: l) :=
  ⟨{ st [] with ita := { base.ita with hev := [{ src := 5, be := true, cluster := true, num := 0x3FFF, act := 2 ^ 40 + 5, arg := 9 }] } }, { src := 5, be := true, cluster := true, num := 0x3FFF, act := 2 ^ 40 + 5, arg := 9 }, [], by decide⟩

theorem witness_RoutesEventsAndRemoteFramesFindTheirWay_11 : ∃ (s : State) (p : Fin 8) (m : MemFrame) (q : Nat), (s.portState p.val = 4) ∧ (m.target.toNat ≠ s.devId ∧ s.routePort m.target.toNat true = some q) ∧ (q ≠ p.val ∧ s.portState q = 4 ∧ nth (s.port q).used 1 < 64 ∧ (s.port q).unacked.length < 128) :=
  ⟨{ st [(1, ITA_P_STAT_state 3, 4), (0, ITA_P_STAT_state 0, 4), (0, ITA_ID_upstream, 8)] with ita := { base.ita with cluster := [(255, 1)] } }, 7, { target := 0x3FC5, source := 1, src := 5, dbg := false, opcode := 0, queue := 3, addr := 5, count := 3, tag := 63, status := 0, lines := [] }, 0, by decide⟩

theorem witness_RoutesEventsAndRemoteFramesFindTheirWay_12 : ∃ (s : State) (p : Fin 8) (m : MemFrame) (r : Remote), (s.portState p.val = 4) ∧ (m.target.toNat = s.devId) ∧ (s.ita.remote = [r] ∧ r.port = p.val ∧ r.tag = m.tag.val) :=
  ⟨{ st [(1, ITA_P_STAT_state 3, 4)] with ita := { base.ita with remote := [⟨7, 63, { dstX := 12, dstEp := 0x63 }⟩] } }, 7, { target := 0, source := 1, src := 5, dbg := false, opcode := 2, queue := 3, addr := 5, count := 3, tag := 63, status := 0, lines := [⟨15, 7⟩] }, ⟨7, 63, { dstX := 12, dstEp := 0x63 }⟩, by decide⟩

theorem witness_NoCommandIsAcceptedTwice_1a : ∃ (s : State) (i : Init) (v : Word) (n : Nat), (s.live 0 = true) ∧ (n = bitsOf v 0 7) ∧ (s.hostPath i = false ∨ s.cmd.held = none ∧ (n < 28 ∨ 92 < n)) :=
  ⟨st [(0, ITA_ID_upstream, 8)], 0x018, 93, 93, by decide⟩

theorem witness_NoCommandIsAcceptedTwice_1b : ∃ (s : State) (i : Init) (v : Word) (n : Nat), (s.live 0 = true) ∧ (n = bitsOf v 0 7) ∧ (s.hostPath i = false ∨ s.cmd.held = none ∧ (n < 28 ∨ 92 < n)) :=
  ⟨st [(0, ITA_ID_upstream, 3)], 0x018, 28, 28, by decide⟩

theorem witness_NoCommandIsAcceptedTwice_2a : ∃ (s : State) (i : Init) (v : Word) (n : Nat) (w : CmdWait), (s.live 0 = true) ∧ (n = bitsOf v 0 7 ∧ 28 ≤ n ∧ n ≤ 92) ∧ (s.hostPath i = true ∧ s.cmd.held = none) ∧ (w = { frame := BitVec.ofNat 768 (s.hostFrame.toNat % 2 ^ (8 * n)), up := false, len := n }) :=
  ⟨{ st [(0, ITA_ID_upstream, 8)] with cmd := { base.cmd with hbuf := [(0, 0x01)], fifo := List.replicate 4 ⟨5, true, 28⟩ } }, 0x018, 28, 28, ⟨1, false, 28⟩, by decide +kernel⟩

theorem witness_NoCommandIsAcceptedTwice_2b : ∃ (s : State) (i : Init) (v : Word) (n : Nat) (w : CmdWait), (s.live 0 = true) ∧ (n = bitsOf v 0 7 ∧ 28 ≤ n ∧ n ≤ 92) ∧ (s.hostPath i = true ∧ s.cmd.held = none) ∧ (w = { frame := BitVec.ofNat 768 (s.hostFrame.toNat % 2 ^ (8 * n)), up := false, len := n }) :=
  ⟨{ st [(0, ITA_ID_upstream, 8)] with cmd := { base.cmd with hbuf := [(0, 0x01)], fifo := List.replicate 3 ⟨5, true, 28⟩ } }, 0x018, 92, 92, ⟨1, false, 92⟩, by decide +kernel⟩

theorem witness_NoCommandIsAcceptedTwice_3 : ∃ (s : State) (p : Fin 8) (f : CmdFrame), (s.portState p.val = 4) ∧ (s.hasUpPort = false ∨ s.upstream ≠ p.val) :=
  ⟨st [(1, ITA_P_STAT_state 3, 4), (0, ITA_ID_upstream, 8)], 7, 5, by decide⟩

theorem witness_NoCommandIsAcceptedTwice_4 : ∃ (s : State) (p : Fin 8) (f : CmdFrame), (s.portState p.val = 4) ∧ (s.hasUpPort = true ∧ s.upstream = p.val) ∧ (s.cmd.held = none ∧ s.cmd.port = [] ∧ s.cmd.fifo.length < 4) :=
  ⟨st [(0, ITA_P_STAT_state 3, 4), (0, ITA_ID_upstream, 3)], 3, 5, by decide⟩

theorem witness_NoCommandIsAcceptedTwice_5a : ∃ (s : State) (w : CmdWait) (l : List CmdWait), (s.live 0 = true ∧ s.tbRuns = true ∧ s.cmd.rekey = false ∧ s.f 0 CMD_STAT_ticked < 16) ∧ (s.cmd.fifo = w :: l) ∧ (headOk w = false ∨ s.forMe w.frame = false ∧ s.frameRoute w.frame = none) :=
  ⟨{ st [] with cmd := { base.cmd with fifo := [⟨0, true, 96⟩] } }, ⟨0, true, 96⟩, [], by decide +kernel⟩

theorem witness_NoCommandIsAcceptedTwice_5b : ∃ (s : State) (w : CmdWait) (l : List CmdWait), (s.live 0 = true ∧ s.tbRuns = true ∧ s.cmd.rekey = false ∧ s.f 0 CMD_STAT_ticked < 16) ∧ (s.cmd.fifo = w :: l) ∧ (headOk w = false ∨ s.forMe w.frame = false ∧ s.frameRoute w.frame = none) :=
  ⟨{ st [(0, ITA_ID_upstream, 8)] with cmd := { base.cmd with fifo := [⟨0x0000010A, true, 96⟩] } }, ⟨0x0000010A, true, 96⟩, [], by decide +kernel⟩

theorem witness_NoCommandIsAcceptedTwice_6 : ∃ (s : State) (w : CmdWait) (l : List CmdWait), (s.live 0 = true ∧ s.tbRuns = true ∧ s.cmd.rekey = false ∧ s.f 0 CMD_STAT_ticked < 16) ∧ (s.cmd.fifo = w :: l) ∧ (headOk w = true ∧ s.forMe w.frame = true) :=
  ⟨{ st [(0, ITA_ID_valid, 1)] with cmd := { base.cmd with fifo := [⟨0x0000000A, true, 96⟩] } }, ⟨0x0000000A, true, 96⟩, [], by decide +kernel⟩

theorem witness_NoCommandIsAcceptedTwice_7 : ∃ (s : State) (v : Nat), (s.live 0 = true) ∧ (s.cmd.ckpt = some v) ∧ (s.jour.buf.any (fun r => decide (r.kind = 1)) = false) :=
  ⟨{ st [(0, CMD_STAT_busy, 1)] with cmd := { base.cmd with ckpt := some (2 ^ 40 + 5), rekey := true } }, 2 ^ 40 + 5, by decide⟩

theorem witness_CommittedKeyAndLifeCycleCommandsTakeEffect_1 : ∃ (s : State) (x : Fin 5), (s.live 0 = true ∧ s.cmd.ended = none) ∧ (lcMove s.keys.lc x.val s.fuses.moves = true) :=
  ⟨{ st [] with keys := { base.keys with lc := 2 }, fuses := { base.fuses with lc := 2, moves := 31 } }, 3, by decide⟩

theorem witness_CommittedKeyAndLifeCycleCommandsTakeEffect_2 : ∃ (s : State) (a b : BitVec 128), (s.live 0 = true ∧ s.cmd.burn = none ∧ s.fuses.rows.length < 8) :=
  ⟨st [(0, CMD_STAT_guard, 1)], 5, 6, by decide⟩

theorem witness_CommittedKeyAndLifeCycleCommandsTakeEffect_3a : ∃ (s : State) (slot : Fin 64) (clear : Bool) (key : KeySlot), (s.live 0 = true ∧ slot ≠ 0) :=
  ⟨base, 63, false, { mix := 1, pad := 2, h := 3 }, by decide⟩

theorem witness_CommittedKeyAndLifeCycleCommandsTakeEffect_3b : ∃ (s : State) (slot : Fin 64) (clear : Bool) (key : KeySlot), (s.live 0 = true ∧ slot ≠ 0) :=
  ⟨st [(0, ⟨MIU_SLOT_HI, 31, 1⟩, 1)], 63, false, { mix := 1, pad := 2, h := 3 }, by decide⟩

theorem witness_CommittedKeyAndLifeCycleCommandsTakeEffect_4 : ∃ (s : State) (skipper hold : Bool) (expiry : BitVec 64), (s.live 0 = true) :=
  ⟨{ st [(0, KEYS_STAT_skipper_dbg, 1)] with keys := { base.keys with lc := 2 } }, false, true, 0xFFFFFFFFFFFFFFFF, by decide⟩

theorem witness_CommittedKeyAndLifeCycleCommandsTakeEffect_5 : ∃ (s : State) (root : Bool), (s.live 0 = true) :=
  ⟨st [(0, ITA_ID_upstream, 3)], true, by decide⟩

theorem witness_CommittedKeyAndLifeCycleCommandsTakeEffect_6 : ∃ (s : State) (i : Init) (v : Word), (s.live 0 = true ∧ s.keys.lc = 0 ∧ isDebugMaster i = true) ∧ (s.f 0 KEYS_PROV_SEL_word < provWords (s.f 0 KEYS_PROV_SEL_item)) :=
  ⟨st [(0, KEYS_PROV_SEL_word, 11)], 0x004, 7, by decide⟩

theorem witness_CommittedKeyAndLifeCycleCommandsTakeEffect_7 : ∃ (s : State) (i : Init) (v : Word), (s.live 0 = true) ∧ (s.keys.lc ≠ 0 ∨ isDebugMaster i = false) :=
  ⟨base, 0x001, 7, by decide⟩

theorem witness_CommittedKeyAndLifeCycleCommandsTakeEffect_8a : ∃ (s : State) (i : Init) (r : Nat), (s.live 0 = true) ∧ (s.keys.lc ≠ 0 ∧ r = 1 ∨ s.keys.lc = 0 ∧ isDebugMaster i = false ∧ r = 2 ∨ s.keys.lc = 0 ∧ isDebugMaster i = true ∧ s.cmd.burn = none ∧ s.f 0 KEYS_PROV_STAT_written ≠ 15 ∧ r = 3) :=
  ⟨st [(0, KEYS_PROV_STAT_written, 14)], 0x004, 3, by decide⟩

theorem witness_CommittedKeyAndLifeCycleCommandsTakeEffect_8b : ∃ (s : State) (i : Init) (r : Nat), (s.live 0 = true) ∧ (s.keys.lc ≠ 0 ∧ r = 1 ∨ s.keys.lc = 0 ∧ isDebugMaster i = false ∧ r = 2 ∨ s.keys.lc = 0 ∧ isDebugMaster i = true ∧ s.cmd.burn = none ∧ s.f 0 KEYS_PROV_STAT_written ≠ 15 ∧ r = 3) :=
  ⟨base, 0x001, 2, by decide⟩

theorem witness_CommittedKeyAndLifeCycleCommandsTakeEffect_9 : ∃ (s : State) (i : Init), (s.live 0 = true) ∧ (s.keys.lc = 0 ∧ isDebugMaster i = true ∧ s.cmd.burn = none ∧ s.f 0 KEYS_PROV_STAT_written = 15) :=
  ⟨st [(0, KEYS_PROV_STAT_written, 15)], 0x004, by decide⟩

theorem witness_DdrChannelsTrainServeAndRepair_1 : ∃ (s : State) (i : Init) (c : Fin 8), (s.live (c.val / 4) = true) ∧ (isHawkmoth i = false ∧ isMemAgentOf i (c.val / 4) = false) :=
  ⟨base, 0x018, 7, by decide⟩

theorem witness_DdrChannelsTrainServeAndRepair_2a : ∃ (s : State) (i : Init) (c : Fin 8) (r : Nat), (s.live (c.val / 4) = true) ∧ (isHawkmoth i = true ∨ isMemAgentOf i (c.val / 4) = true) ∧ (s.ddrState c.val = 0 ∧ r = 5 ∨ (s.ddrState c.val = 1 ∨ s.ddrState c.val = 3) ∧ r = 3) :=
  ⟨base, 0x001, 7, 5, by decide⟩

theorem witness_DdrChannelsTrainServeAndRepair_2b : ∃ (s : State) (i : Init) (c : Fin 8) (r : Nat), (s.live (c.val / 4) = true) ∧ (isHawkmoth i = true ∨ isMemAgentOf i (c.val / 4) = true) ∧ (s.ddrState c.val = 0 ∧ r = 5 ∨ (s.ddrState c.val = 1 ∨ s.ddrState c.val = 3) ∧ r = 3) :=
  ⟨st [(1, DDR_STAT_state 3, 1)], 0x103, 7, 3, by decide⟩

theorem witness_DdrChannelsTrainServeAndRepair_3 : ∃ (s : State) (i : Init) (c : Fin 8), (s.live (c.val / 4) = true) ∧ (isHawkmoth i = true ∨ isMemAgentOf i (c.val / 4) = true) ∧ (s.ddrState c.val = 2 ∨ s.ddrState c.val = 4) :=
  ⟨{ st [(1, DDR_STAT_state 3, 4)] with ddr := { base.ddr with grade := 3 } }, 0x001, 7, by decide⟩

theorem witness_DdrChannelsTrainServeAndRepair_4a : ∃ (s : State) (c : Fin 8) (y : Spd) (ok : Bool) (g r : Nat), (s.ddrState c.val = 1) ∧ ((s.ddrChan c.val).spd = none) ∧ ((s.ddrChan c.val).ppr = none) ∧ (y.dimms ≠ 0) ∧ (g = (if y.dimms = 2 ∧ (s.ddrChan c.val).grade < 4 then 4 else (s.ddrChan c.val).grade)) ∧ (g < 8) ∧ (r = (if y.supported = false then 2 else if ok = false then 4 else 0)) :=
  ⟨{ st [(1, DDR_STAT_state 3, 1)] with ddr := { base.ddr with chan := [(7, { grade := 2, s11 := true })] } }, 7, ⟨2, 2, false, 2, 656, true, 0xFFFF⟩, true, 4, 0, by decide⟩

theorem witness_DdrChannelsTrainServeAndRepair_4b : ∃ (s : State) (c : Fin 8) (y : Spd) (ok : Bool) (g r : Nat), (s.ddrState c.val = 1) ∧ ((s.ddrChan c.val).spd = none) ∧ ((s.ddrChan c.val).ppr = none) ∧ (y.dimms ≠ 0) ∧ (g = (if y.dimms = 2 ∧ (s.ddrChan c.val).grade < 4 then 4 else (s.ddrChan c.val).grade)) ∧ (g < 8) ∧ (r = (if y.supported = false then 2 else if ok = false then 4 else 0)) :=
  ⟨{ st [(1, DDR_STAT_state 3, 1)] with ddr := { base.ddr with chan := [(7, { grade := 2, s11 := true })] } }, 7, ⟨1, 1, true, 2, 656, true, 0xFFFF⟩, false, 2, 4, by decide⟩

theorem witness_DdrChannelsTrainServeAndRepair_5 : ∃ (s : State) (c : Fin 8) (ok : Bool), (s.ddrState c.val = 1) ∧ ((s.ddrChan c.val).spd = none) :=
  ⟨st [(1, DDR_STAT_state 3, 1)], 7, true, by decide⟩

theorem witness_DdrChannelsTrainServeAndRepair_6 : ∃ (s : State) (c : Fin 8), (s.ddrState c.val = 2) ∧ ((match (s.ddrChan c.val).alert with | some n => decide (n + 1600000 < s.time.count) | none => true) = true) :=
  ⟨{ st [(1, DDR_STAT_state 3, 2)] with time := ⟨1700001, 829, 1699840, 2048, 256⟩, ddr := { base.ddr with chan := [(7, { alert := some 100000 })] } }, 7, by decide⟩

theorem witness_DdrChannelsTrainServeAndRepair_7 : ∃ (s : State) (c : Fin 8) (n : Nat), (s.ddrState c.val = 2) ∧ ((s.ddrChan c.val).alert = some n) ∧ (s.time.count ≤ n + 1600000) :=
  ⟨{ st [(1, DDR_STAT_state 3, 2)] with time := ⟨1700000, 829, 1699840, 2048, 256⟩, ddr := { base.ddr with chan := [(7, { alert := some 100000 })] } }, 7, 100000, by decide⟩

theorem witness_DdrChannelsTrainServeAndRepair_8a : ∃ (s : State) (c : Fin 8) (h : Hdr) (l : List Line) (x : DramIn), (s.live (c.val / 4) = true) ∧ (s.ddrState c.val ≠ 2 ∧ s.ddrState c.val < 5) :=
  ⟨st [(1, DDR_STAT_state 3, 3)], 7, {}, [], {}, by decide⟩

theorem witness_DdrChannelsTrainServeAndRepair_8b : ∃ (s : State) (c : Fin 8) (h : Hdr) (l : List Line) (x : DramIn), (s.live (c.val / 4) = true) ∧ (s.ddrState c.val ≠ 2 ∧ s.ddrState c.val < 5) :=
  ⟨st [(1, DDR_STAT_state 3, 4)], 7, {}, [], {}, by decide⟩

theorem witness_DdrChannelsTrainServeAndRepair_9 : ∃ (s : State) (c : Fin 8) (h : Hdr) (v : BitVec 512) (x : DramIn) (a : Nat), (s.live (c.val / 4) = true) ∧ (s.ddrState c.val = 2) ∧ (dramDecode s.ddr.sets h.addr = some (c.val, a)) ∧ (s.rangeAt h.addr = none) ∧ (h.opcode = 1) :=
  ⟨{ st [(1, DDR_STAT_state 3, 2)] with ddr := { base.ddr with sets := [none, some ⟨1, 8, 2, 14, 8, [0, 7]⟩] } }, 7, { opcode := 1, addr := 2 ^ 30 + 3 * 2 ^ 14 + 128 }, 7, {}, 2 ^ 30 + 2 ^ 14 + 128, by decide⟩

theorem witness_DdrChannelsTrainServeAndRepair_10 : ∃ (s : State) (c : Fin 8) (h : Hdr) (l : List Line) (x : DramIn) (a : Nat), (s.live (c.val / 4) = true) ∧ (s.ddrState c.val = 2) ∧ (dramDecode s.ddr.sets h.addr = some (c.val, a)) ∧ (s.rangeAt h.addr = none) ∧ (h.opcode = 0) ∧ (h.readLines = 1) ∧ ((s.dramLine c.val (a / 64)).known = true ∧ (s.dramLine c.val (a / 64)).bad = false ∧ (x.line 0).err = .none) :=
  ⟨{ st [(1, DDR_STAT_state 3, 2)] with ddr := { base.ddr with sets := [none, some ⟨1, 8, 2, 14, 8, [0, 7]⟩], line := [(lineKey 7 ((2 ^ 30 + 2 ^ 14 + 128) / 64), ⟨77, true, false⟩)] } }, 7, { opcode := 0, addr := 2 ^ 30 + 3 * 2 ^ 14 + 128, count := 63 }, [], { svc := 3 }, 2 ^ 30 + 2 ^ 14 + 128, by decide⟩

theorem witness_DdrChannelsTrainServeAndRepair_11 : ∃ (s : State) (c : Fin 8) (h : Hdr) (l : List Line) (x : DramIn) (a : Nat), (s.live (c.val / 4) = true) ∧ (s.ddrState c.val = 2) ∧ (dramDecode s.ddr.sets h.addr = some (c.val, a)) ∧ (s.rangeAt h.addr = none) ∧ (h.opcode = 0) ∧ (h.readLines = 1) ∧ ((s.dramLine c.val (a / 64)).bad = true) :=
  ⟨{ st [(1, DDR_STAT_state 3, 2)] with ddr := { base.ddr with sets := [none, some ⟨1, 8, 2, 14, 8, [0, 7]⟩], line := [(lineKey 7 ((2 ^ 30 + 2 ^ 14 + 128) / 64), ⟨77, true, true⟩)] } }, 7, { opcode := 0, addr := 2 ^ 30 + 3 * 2 ^ 14 + 128, count := 63 }, [], { svc := 3 }, 2 ^ 30 + 2 ^ 14 + 128, by decide⟩

theorem witness_DdrChannelsTrainServeAndRepair_12a : ∃ (s : State), (s.refreshes = true) :=
  ⟨st [(1, DDR_STAT_state 3, 2), (0, DDR_REF_STAT_quiet, 1)], by decide⟩

theorem witness_DdrChannelsTrainServeAndRepair_12b : ∃ (s : State), (s.refreshes = true) :=
  ⟨st [(1, DDR_STAT_state 3, 2), (0, DDR_REF_CNT_value, 0xFFFFFFFF)], by decide⟩

theorem witness_DdrChannelsTrainServeAndRepair_13 : ∃ (s : State) (c : Fin 8) (y : Spd) (v : Byte), (s.live (c.val / 4) = true) ∧ ((s.ddrChan c.val).spd = some y) ∧ (y.dimms ≠ 0) :=
  ⟨{ st [(1, DDR_STAT_state 3, 2)] with ddr := { base.ddr with chan := [(7, { spd := some ⟨1, 1, true, 2, 656, true, 0xFFFF⟩ })] } }, 7, ⟨1, 1, true, 2, 656, true, 0xFFFF⟩, 96, by decide⟩

theorem witness_DdrChannelsTrainServeAndRepair_14 : ∃ (s : State) (i : Init), (s.live 0 = true) ∧ (isHawkmoth i = false) :=
  ⟨base, 0x003, by decide⟩

theorem witness_DdrChannelsTrainServeAndRepair_15 : ∃ (s : State) (n r : Nat), (s.live 0 = true) ∧ (s.firstBadSet s.stagedSets 8 0 = some (n, r)) ∧ (n < 8 ∧ r < 16) :=
  ⟨{ base with regs := [(DDR_SET_A 7, 0x80010000), (DDR_SET_B 7, 0x000000E0), (DDR_SET_C 7, 7)] }, 7, 4, by decide⟩

theorem witness_DdrChannelsTrainServeAndRepair_16 : ∃ (s : State), (s.live 0 = true) ∧ (s.firstBadSet s.stagedSets 8 0 = none) :=
  ⟨{ st [(1, DDR_STAT_state 3, 2), (1, DDR_STAT_capacity 3, 64)] with regs := (st [(1, DDR_STAT_state 3, 2), (1, DDR_STAT_capacity 3, 64)]).regs ++ [] }, by decide⟩

theorem witness_DdrChannelsTrainServeAndRepair_17 : ∃ (s : State) (c : Fin 8) (r : DdrRec) (l : List DdrRec), (KMap.look s.ddr.fifo c.val = r :: l) :=
  ⟨{ base with ddr := { base.ddr with fifo := [(7, [⟨1, 77, 15, 0x3F, 9⟩])] } }, 7, ⟨1, 77, 15, 0x3F, 9⟩, [], by decide⟩

theorem witness_DdrChannelsTrainServeAndRepair_18 : ∃ (s : State) (c : Fin 8) (row : PprRow), (s.live 0 = true) :=
  ⟨{ st [(1, DDR_STAT_state 3, 2), (1, ⟨DDR_PPR_AVAIL 3, 15, 1⟩, 1)] with ddr := { base.ddr with chan := [(7, { spd := some ⟨1, 2, true, 2, 656, true, 0xFFFF⟩ })] } }, 7, ⟨1, 7, 3, 5⟩, by decide⟩

theorem witness_DdrChannelsTrainServeAndRepair_19 : ∃ (s : State) (c : Fin 8) (p : PprRow) (ok left : Bool), ((s.ddrChan c.val).ppr = some p) ∧ (s.ddrState c.val = 3) :=
  ⟨{ st [(1, DDR_STAT_state 3, 3)] with ddr := { base.ddr with chan := [(7, { ppr := some ⟨3, 7, 3, 5⟩ })] } }, 7, ⟨3, 7, 3, 5⟩, false, true, by decide⟩

theorem witness_MixedLinesReadBack_1 : ∃ (k : BitVec 256) (a : Nat) (v : BitVec 512) (s : State) (c : Fin 8) (r : Fin 16) (h : Hdr) (x : DimmLine) (w : Word) (l0 : Nat), (s.live (c.val / 4) = true) ∧ (s.ddrState c.val = 2) ∧ (s.localLine c.val h.addr = some l0) ∧ (s.rangeAt h.addr = some r.val) ∧ (s.rangeState r.val = 2 ∧ nbit (s.f 0 (MIU_R_STAT_fault_ch r.val)) c.val = false) ∧ (h.dbg = false ∧ h.key = s.f 0 (MIU_R_CFG_slot r.val)) ∧ (s.f 0 (MIU_R_CFG_integ r.val) = 0 ∧ s.f 0 (MIU_R_CFG_mix r.val) = 1) ∧ (h.opcode = 0 ∧ h.readLines = 1) ∧ ((s.dramLine c.val l0).known = true ∧ (s.dramLine c.val l0).bad = false) ∧ (k = (KMap.look s.keys.slot h.key).mix ∧ a = h.addr / 64 * 64) ∧ (x.got = some (mixLine k a v, w) ∧ x.err = .none ∧ x.tagLost = false) :=
  ⟨0xFEDCBA9876543210FFFFFFFFFFFFFFFF0123456789ABCDEF8000000000000001, 2 ^ 30 + 64, 0x8000000000000000000000000000000000000000000000000000000000000000FFFFFFFFFFFFFFFF0000000000000001FEDCBA98765432100123456789ABCDEF, { st [(1, DDR_STAT_state 3, 2), (0, MIU_R_STAT_state 15, 2), (0, MIU_R_BASE_base 15, 262144), (0, MIU_R_SIZE_size 15, 8), (0, MIU_R_CFG_slot 15, 3), (0, MIU_R_CFG_mix 15, 1)] with ddr := { base.ddr with sets := [none, some ⟨1, 8, 1, 14, 8, [7]⟩], line := [(lineKey 7 (2 ^ 24 + 1), ⟨77, true, false⟩)] }, keys := { base.keys with slot := [(3, { mix := 0xFEDCBA9876543210FFFFFFFFFFFFFFFF0123456789ABCDEF8000000000000001, pad := 2, h := 3 })] } }, 7, 15, { addr := 2 ^ 30 + 64, count := 63, key := 3 }, { got := some (mixLine 0xFEDCBA9876543210FFFFFFFFFFFFFFFF0123456789ABCDEF8000000000000001 (2 ^ 30 + 64) 0x8000000000000000000000000000000000000000000000000000000000000000FFFFFFFFFFFFFFFF0000000000000001FEDCBA98765432100123456789ABCDEF, 9) }, 9, 2 ^ 24 + 1, by decide +kernel⟩

theorem witness_ProtectedRangesAdmitCountAndFault_1 : ∃ (s : State) (i : Init) (r : Fin 16), (s.live 0 = true) ∧ (isHawkmoth i = false) :=
  ⟨base, 0x003, 15, by decide⟩

theorem witness_ProtectedRangesAdmitCountAndFault_2 : ∃ (s : State) (r : Fin 16) (k : Nat), (s.live 0 = true) ∧ (s.rangeState r.val = 0) ∧ (s.enableReason r.val = k ∧ k ≠ 0) :=
  ⟨{ st [(0, MIU_R_BASE_base 15, 262144), (0, MIU_R_SIZE_size 15, 8)] with ddr := { base.ddr with sets := [none, some ⟨1, 8, 2, 14, 8, [0, 7]⟩] } }, 15, 7, by decide⟩

theorem witness_ProtectedRangesAdmitCountAndFault_3 : ∃ (s : State) (r : Fin 16), (s.live 0 = true) ∧ (s.rangeState r.val = 0) ∧ (s.enableReason r.val = 0) :=
  ⟨{ st [(0, MIU_R_BASE_base 15, 262144), (0, MIU_R_SIZE_size 15, 8), (0, MIU_R_CFG_slot 15, 63)] with ddr := { base.ddr with sets := [none, some ⟨1, 8, 2, 14, 8, [0, 7]⟩] }, keys := { base.keys with slot := [(63, { mix := 1, pad := 2, h := 3 })] } }, 15, by decide⟩

theorem witness_ProtectedRangesAdmitCountAndFault_4a : ∃ (s : State) (r : Fin 16), (s.live 0 = true) ∧ (s.rangeState r.val ≠ 0) :=
  ⟨st [(0, MIU_R_STAT_state 15, 3)], 15, by decide⟩

theorem witness_ProtectedRangesAdmitCountAndFault_4b : ∃ (s : State) (r : Fin 16), (s.live 0 = true) ∧ (s.rangeState r.val ≠ 0) :=
  ⟨{ st [(0, MIU_R_STAT_state 15, 3)] with miu := { base.miu with sweep := some (3, true) } }, 15, by decide⟩

theorem witness_ProtectedRangesAdmitCountAndFault_5a : ∃ (s : State) (r : Fin 16) (e : Bool) (x : DdrSet) (c : Fin 8) (l : Nat), (s.miu.sweep = some (r.val, e)) ∧ (e = true ∨ s.miu.wait = []) ∧ (s.rangeSet r.val = some x) ∧ (c.val ∈ x.chans) ∧ ((s.rangeLines r.val x).1 ≤ l ∧ l < (s.rangeLines r.val x).1 + (s.rangeLines r.val x).2 ∧ l < 2 ^ 33) ∧ (l < (s.rangeMetaSpan r.val x).1 * 2 ^ 21 ∨ (s.rangeMetaSpan r.val x).2 * 2 ^ 21 ≤ l) :=
  ⟨{ st [(0, MIU_R_BASE_base 15, 262144), (0, MIU_R_SIZE_size 15, 8), (0, MIU_R_CFG_slot 15, 63), (0, MIU_R_STAT_state 15, 1)] with ddr := { base.ddr with sets := [none, some ⟨1, 8, 2, 14, 8, [0, 7]⟩], line := [(lineKey 7 (2 ^ 24 + 9), ⟨77, true, true⟩)] }, miu := { base.miu with sweep := some (15, true) } }, 15, true, ⟨1, 8, 2, 14, 8, [0, 7]⟩, 7, 2 ^ 24 + 9, by decide⟩

theorem witness_ProtectedRangesAdmitCountAndFault_5b : ∃ (s : State) (r : Fin 16) (e : Bool) (x : DdrSet) (c : Fin 8) (l : Nat), (s.miu.sweep = some (r.val, e)) ∧ (e = true ∨ s.miu.wait = []) ∧ (s.rangeSet r.val = some x) ∧ (c.val ∈ x.chans) ∧ ((s.rangeLines r.val x).1 ≤ l ∧ l < (s.rangeLines r.val x).1 + (s.rangeLines r.val x).2 ∧ l < 2 ^ 33) ∧ (l < (s.rangeMetaSpan r.val x).1 * 2 ^ 21 ∨ (s.rangeMetaSpan r.val x).2 * 2 ^ 21 ≤ l) :=
  ⟨{ st [(0, MIU_R_BASE_base 15, 262144), (0, MIU_R_SIZE_size 15, 8), (0, MIU_R_CFG_slot 15, 63), (0, MIU_R_STAT_state 15, 1)] with ddr := { base.ddr with sets := [none, some ⟨1, 8, 2, 14, 8, [0, 7]⟩], line := [(lineKey 7 (2 ^ 24 + 9), ⟨77, true, true⟩)] }, miu := { base.miu with sweep := some (15, false) } }, 15, false, ⟨1, 8, 2, 14, 8, [0, 7]⟩, 0, 2 ^ 24 + 255, by decide⟩

theorem witness_ProtectedRangesAdmitCountAndFault_6a : ∃ (s : State) (c : Fin 8) (r : Fin 16) (h : Hdr) (l : List Line) (x : DramIn) (l0 : Nat), (s.live (c.val / 4) = true) ∧ (s.ddrState c.val = 2) ∧ (s.localLine c.val h.addr = some l0) ∧ (s.rangeAt h.addr = some r.val) ∧ (s.rangeState r.val = 1 ∨ s.rangeState r.val = 3) :=
  ⟨{ st [(1, DDR_STAT_state 3, 2), (0, MIU_R_STAT_state 15, 3), (0, MIU_R_BASE_base 15, 262144), (0, MIU_R_SIZE_size 15, 8), (0, MIU_R_CFG_slot 15, 3)] with ddr := { base.ddr with sets := [none, some ⟨1, 8, 1, 14, 8, [7]⟩] } }, 7, 15, { addr := 2 ^ 30 + 64, count := 63, key := 3 }, [], {}, 2 ^ 24 + 1, by decide⟩

theorem witness_ProtectedRangesAdmitCountAndFault_6b : ∃ (s : State) (c : Fin 8) (r : Fin 16) (h : Hdr) (l : List Line) (x : DramIn) (l0 : Nat), (s.live (c.val / 4) = true) ∧ (s.ddrState c.val = 2) ∧ (s.localLine c.val h.addr = some l0) ∧ (s.rangeAt h.addr = some r.val) ∧ (s.rangeState r.val = 1 ∨ s.rangeState r.val = 3) :=
  ⟨{ st [(1, DDR_STAT_state 3, 2), (0, MIU_R_STAT_state 15, 1), (0, MIU_R_BASE_base 15, 262144), (0, MIU_R_SIZE_size 15, 8), (0, MIU_R_CFG_slot 15, 3)] with ddr := { base.ddr with sets := [none, some ⟨1, 8, 1, 14, 8, [7]⟩] } }, 7, 15, { addr := 2 ^ 30 + 64, count := 63, key := 3 }, [], {}, 2 ^ 24 + 1, by decide⟩

theorem witness_ProtectedRangesAdmitCountAndFault_7 : ∃ (s : State) (c : Fin 8) (r : Fin 16) (h : Hdr) (l : List Line) (x : DramIn) (l0 : Nat), (s.live (c.val / 4) = true) ∧ (s.ddrState c.val = 2) ∧ (s.localLine c.val h.addr = some l0) ∧ (s.rangeAt h.addr = some r.val) ∧ (s.rangeState r.val = 2 ∧ nbit (s.f 0 (MIU_R_STAT_fault_ch r.val)) c.val = false) ∧ (h.dbg = true ∨ h.key ≠ s.f 0 (MIU_R_CFG_slot r.val)) :=
  ⟨{ st [(1, DDR_STAT_state 3, 2), (0, MIU_R_STAT_state 15, 2), (0, MIU_R_BASE_base 15, 262144), (0, MIU_R_SIZE_size 15, 8), (0, MIU_R_CFG_slot 15, 3)] with ddr := { base.ddr with sets := [none, some ⟨1, 8, 1, 14, 8, [7]⟩] } }, 7, 15, { addr := 2 ^ 30 + 64, count := 63, key := 3, dbg := true }, [], {}, 2 ^ 24 + 1, by decide⟩

theorem witness_ProtectedRangesAdmitCountAndFault_8a : ∃ (s : State) (c : Fin 8) (r : Fin 16) (h : Hdr) (v : BitVec 512) (x : DramIn) (l0 n : Nat) (ct : BitVec 512), (s.live (c.val / 4) = true) ∧ (s.ddrState c.val = 2) ∧ (s.localLine c.val h.addr = some l0) ∧ (s.rangeAt h.addr = some r.val) ∧ (s.rangeState r.val = 2 ∧ nbit (s.f 0 (MIU_R_STAT_fault_ch r.val)) c.val = false) ∧ (h.dbg = false ∧ h.key = s.f 0 (MIU_R_CFG_slot r.val) ∧ h.opcode = 1) ∧ (s.f 0 (MIU_R_CFG_integ r.val) = 1) ∧ (s.cached (metaKey c.val r.val 0 (s.miuLine r.val c.val l0 h 0).page) = true) ∧ (s.cached (metaKey c.val r.val 15 ((s.miuLine r.val c.val l0 h 0).page * 4 + (s.miuLine r.val c.val l0 h 0).m / 16)) = true) ∧ ((x.line 0).tagLost = false) ∧ (ct = s.ctrLine r.val c.val (s.miuLine r.val c.val l0 h 0).page) ∧ (n = ctrMinor ct (s.miuLine r.val c.val l0 h 0).m) :=
  ⟨{ st [(1, DDR_STAT_state 3, 2), (0, MIU_R_STAT_state 15, 2), (0, MIU_R_BASE_base 15, 262144), (0, MIU_R_SIZE_size 15, 8), (0, MIU_R_CFG_slot 15, 3), (0, MIU_R_CFG_integ 15, 1)] with ddr := { base.ddr with sets := [none, some ⟨1, 8, 1, 14, 8, [7]⟩] }, miu := { base.miu with ctr := [(ctrKey 15 7 0, mkCtr (2 ^ 64 - 1) (fun m => 126 + m % 2))], cache := [(metaKey 7 15 0 0, 1), (metaKey 7 15 15 0, 1)] } }, 7, 15, { addr := 2 ^ 30 + 128, opcode := 1, count := 63, key := 3 }, 7, {}, 2 ^ 24 + 2, 126, mkCtr (2 ^ 64 - 1) (fun m => 126 + m % 2), by decide⟩

theorem witness_ProtectedRangesAdmitCountAndFault_8b : ∃ (s : State) (c : Fin 8) (r : Fin 16) (h : Hdr) (v : BitVec 512) (x : DramIn) (l0 n : Nat) (ct : BitVec 512), (s.live (c.val / 4) = true) ∧ (s.ddrState c.val = 2) ∧ (s.localLine c.val h.addr = some l0) ∧ (s.rangeAt h.addr = some r.val) ∧ (s.rangeState r.val = 2 ∧ nbit (s.f 0 (MIU_R_STAT_fault_ch r.val)) c.val = false) ∧ (h.dbg = false ∧ h.key = s.f 0 (MIU_R_CFG_slot r.val) ∧ h.opcode = 1) ∧ (s.f 0 (MIU_R_CFG_integ r.val) = 1) ∧ (s.cached (metaKey c.val r.val 0 (s.miuLine r.val c.val l0 h 0).page) = true) ∧ (s.cached (metaKey c.val r.val 15 ((s.miuLine r.val c.val l0 h 0).page * 4 + (s.miuLine r.val c.val l0 h 0).m / 16)) = true) ∧ ((x.line 0).tagLost = false) ∧ (ct = s.ctrLine r.val c.val (s.miuLine r.val c.val l0 h 0).page) ∧ (n = ctrMinor ct (s.miuLine r.val c.val l0 h 0).m) :=
  ⟨{ st [(1, DDR_STAT_state 3, 2), (0, MIU_R_STAT_state 15, 2), (0, MIU_R_BASE_base 15, 262144), (0, MIU_R_SIZE_size 15, 8), (0, MIU_R_CFG_slot 15, 3), (0, MIU_R_CFG_integ 15, 1)] with ddr := { base.ddr with sets := [none, some ⟨1, 8, 1, 14, 8, [7]⟩] }, miu := { base.miu with ctr := [(ctrKey 15 7 0, mkCtr 5 (fun m => 126 + m % 2))], cache := [(metaKey 7 15 0 0, 1), (metaKey 7 15 15 0, 1)] } }, 7, 15, { addr := 2 ^ 30 + 64, opcode := 1, count := 63, key := 3 }, 7, {}, 2 ^ 24 + 1, 127, mkCtr 5 (fun m => 126 + m % 2), by decide⟩

theorem witness_ProtectedRangesAdmitCountAndFault_9 : ∃ (s : State) (c : Fin 8) (r : Fin 16) (h : Hdr) (x : DramIn) (l0 : Nat), (s.live (c.val / 4) = true) ∧ (s.ddrState c.val = 2) ∧ (s.localLine c.val h.addr = some l0) ∧ (s.rangeAt h.addr = some r.val) ∧ (s.rangeState r.val = 2 ∧ nbit (s.f 0 (MIU_R_STAT_fault_ch r.val)) c.val = false) ∧ (h.dbg = false ∧ h.key = s.f 0 (MIU_R_CFG_slot r.val) ∧ h.opcode = 0 ∧ h.readLines = 1) ∧ (s.f 0 (MIU_R_CFG_integ r.val) = 1) ∧ (s.cached (metaKey c.val r.val 0 (s.miuLine r.val c.val l0 h 0).page) = true) ∧ (ctrMinor (s.ctrLine r.val c.val (s.miuLine r.val c.val l0 h 0).page) (s.miuLine r.val c.val l0 h 0).m = 127) :=
  ⟨{ st [(1, DDR_STAT_state 3, 2), (0, MIU_R_STAT_state 15, 2), (0, MIU_R_BASE_base 15, 262144), (0, MIU_R_SIZE_size 15, 8), (0, MIU_R_CFG_slot 15, 3), (0, MIU_R_CFG_integ 15, 1)] with ddr := { base.ddr with sets := [none, some ⟨1, 8, 1, 14, 8, [7]⟩] }, miu := { base.miu with ctr := [(ctrKey 15 7 0, mkCtr 5 (fun m => 126 + m % 2))], cache := [(metaKey 7 15 0 0, 1), (metaKey 7 15 15 0, 1)] } }, 7, 15, { addr := 2 ^ 30 + 64, count := 63, key := 3 }, {}, 2 ^ 24 + 1, by decide⟩

theorem witness_ProtectedRangesAdmitCountAndFault_10 : ∃ (s : State) (c : Fin 8) (r : Fin 16) (h : Hdr) (l : List Line) (x : DramIn) (l0 : Nat), (s.live (c.val / 4) = true) ∧ (s.ddrState c.val = 2) ∧ (s.localLine c.val h.addr = some l0) ∧ (s.rangeAt h.addr = some r.val) ∧ (s.rangeState r.val = 2 ∧ nbit (s.f 0 (MIU_R_STAT_fault_ch r.val)) c.val = false) ∧ (h.dbg = false ∧ h.key = s.f 0 (MIU_R_CFG_slot r.val)) ∧ (s.f 0 (MIU_R_CFG_integ r.val) = 1) ∧ (s.cached (metaKey c.val r.val 0 (s.miuLine r.val c.val l0 h 0).page) = false) :=
  ⟨{ st [(1, DDR_STAT_state 3, 2), (0, MIU_R_STAT_state 15, 2), (0, MIU_R_BASE_base 15, 262144), (0, MIU_R_SIZE_size 15, 8), (0, MIU_R_CFG_slot 15, 3), (0, MIU_R_CFG_integ 15, 1)] with ddr := { base.ddr with sets := [none, some ⟨1, 8, 1, 14, 8, [7]⟩] } }, 7, 15, { addr := 2 ^ 30 + 64, count := 63, key := 3 }, [], {}, 2 ^ 24 + 1, by decide⟩

theorem witness_ProtectedRangesAdmitCountAndFault_11 : ∃ (s : State) (c : Fin 8) (r : Fin 16) (h : Hdr) (v : BitVec 512) (x : DramIn) (l0 p : Nat), (s.live (c.val / 4) = true) ∧ (s.miu.wait = [⟨c.val, h, [⟨BitVec.allOnes 64, v⟩], x⟩]) ∧ (s.localLine c.val h.addr = some l0) ∧ (s.rangeAt h.addr = some r.val) ∧ (s.rangeState r.val = 2 ∧ nbit (s.f 0 (MIU_R_STAT_fault_ch r.val)) c.val = false) ∧ (s.f 0 (MIU_R_STAT_levels r.val) = 0) ∧ (h.opcode = 1) ∧ (p = (s.miuLine r.val c.val l0 h 0).page) ∧ (s.cached (metaKey c.val r.val 0 p) = false) :=
  ⟨{ st [(1, DDR_STAT_state 3, 2), (0, MIU_R_STAT_state 15, 2), (0, MIU_R_BASE_base 15, 262144), (0, MIU_R_SIZE_size 15, 8), (0, MIU_R_CFG_slot 15, 3), (0, MIU_R_CFG_integ 15, 1)] with ddr := { base.ddr with sets := [none, some ⟨1, 8, 1, 14, 8, [7]⟩] }, miu := { base.miu with wait := [⟨7, { addr := 2 ^ 30 + 4096 + 64, opcode := 1, key := 3 }, [⟨BitVec.allOnes 64, 7⟩], {}⟩] } }, 7, 15, { addr := 2 ^ 30 + 4096 + 64, opcode := 1, key := 3 }, 7, {}, 2 ^ 24 + 65, 1, by decide +kernel⟩

theorem witness_ProtectedRangesAdmitCountAndFault_12 : ∃ (s : State) (c : Fin 8) (r : Fin 16) (h : Hdr) (l : List Line) (x : DramIn) (l0 p : Nat) (got : Option (Option (BitVec 512))), (s.live (c.val / 4) = true) ∧ (s.miu.wait = [⟨c.val, h, l, x⟩]) ∧ (s.localLine c.val h.addr = some l0) ∧ (s.rangeAt h.addr = some r.val) ∧ (s.f 0 (MIU_R_STAT_levels r.val) = 0) ∧ (nbit (s.f 0 (MIU_R_STAT_fault_ch r.val)) c.val = false) ∧ (p = (s.miuLine r.val c.val l0 h 0).page) ∧ (s.cached (metaKey c.val r.val 0 p) = false) ∧ (got ≠ some none) :=
  ⟨{ st [(1, DDR_STAT_state 3, 2), (0, MIU_R_STAT_state 15, 2), (0, MIU_R_BASE_base 15, 262144), (0, MIU_R_SIZE_size 15, 8), (0, MIU_R_CFG_slot 15, 3), (0, MIU_R_CFG_integ 15, 1)] with ddr := { base.ddr with sets := [none, some ⟨1, 8, 1, 14, 8, [7]⟩] }, miu := { base.miu with wait := [⟨7, { addr := 2 ^ 30 + 4096 + 64, opcode := 1, key := 3 }, [⟨BitVec.allOnes 64, 7⟩], {}⟩] } }, 7, 15, { addr := 2 ^ 30 + 4096 + 64, opcode := 1, key := 3 }, [⟨BitVec.allOnes 64, 7⟩], {}, 2 ^ 24 + 65, 1, none, by decide +kernel⟩

theorem witness_ProtectedRangesAdmitCountAndFault_13 : ∃ (s : State) (d : IoDie) (r : MiuRec) (l : List MiuRec), (KMap.look s.miu.fifo d.val = r :: l) ∧ (r.kind < 5 ∧ r.range < 16 ∧ r.chan < 8 ∧ r.hdr.key < 64) :=
  ⟨{ base with miu := { base.miu with fifo := [(1, [⟨4, 15, 7, { addr := 0x123456789ABC, key := 63, dbg := true }, 9⟩])] } }, 1, ⟨4, 15, 7, { addr := 0x123456789ABC, key := 63, dbg := true }, 9⟩, [], by decide⟩

theorem witness_RecordPortsStoreDropAndFail_1 : ∃ (s : State) (i : Init) (e : IoDie) (p : Fin 16) (seg : BitVec 16), (s.live e.val = true) ∧ (isHawkmoth i = false ∧ isMemAgentOf i e.val = false) :=
  ⟨base, 0x003, 1, 15, 3, by decide⟩

theorem witness_RecordPortsStoreDropAndFail_2 : ∃ (s : State) (e : IoDie) (p : Fin 16) (seg : BitVec 16), (s.live e.val = true) ∧ (s.f e.val (RECORD_P_CFG_en p.val) = 1) ∧ ((s.recPort e.val p.val).open_ = none ∧ (s.recPort e.val p.val).entry = none) :=
  ⟨{ st [(1, RECORD_P_CFG_en 15, 1), (1, RECORD_P_CFG_key 15, 9)] with rec_ := { base.rec_ with dir := [(3, { base := 3072, size := 10, state := 1, engine := true, key := 9, next := 65535, oldest := 5, commit := 8 })] } }, 1, 15, 3, by decide⟩

theorem witness_RecordPortsStoreDropAndFail_3 : ∃ (s : State) (e : IoDie) (p : Fin 16) (seg : BitVec 16) (k : Nat), (s.live e.val = true) ∧ (s.f e.val (RECORD_P_CFG_en p.val) = 1) ∧ ((s.recPort e.val p.val).open_ = none ∧ (s.recPort e.val p.val).entry = some k ∧ (s.recPort e.val p.val).recs = []) ∧ (s.rec_.port.all (fun y => y.1 == e.val * 16 + p.val || (y.2.entry != some k && y.2.recs.all (fun r => r.entry != k))) = true) ∧ ((s.dirEnt k).state = 2) :=
  ⟨{ st [(1, RECORD_P_CFG_en 15, 1)] with rec_ := { base.rec_ with dir := [(3, { base := 3072, size := 10, state := 2, engine := true })], port := [(31, { entry := some 3 })] } }, 1, 15, 3, 3, by decide⟩

theorem witness_RecordPortsStoreDropAndFail_4 : ∃ (s : State) (e : IoDie) (p : Fin 16) (data : BitVec 256) (sb : BitVec 16) (last : Bool), (s.f e.val (RECORD_P_CFG_en p.val) = 0) :=
  ⟨base, 1, 15, 7, 3, true, by decide⟩

theorem witness_RecordPortsStoreDropAndFail_5 : ∃ (s : State) (e : IoDie) (p : Fin 16) (data : BitVec 256) (sb : BitVec 16) (k : Nat) (x : RecPort), (s.live e.val = true) ∧ (s.f e.val (RECORD_P_CFG_en p.val) = 1 ∧ s.portSt e.val p.val = 1) ∧ (x = s.recPort e.val p.val) ∧ (x.open_ = none ∧ x.want = none ∧ x.entry = some k ∧ x.sent = []) ∧ (x.at_ < (s.dirEnt k).oldest + (s.dirEnt k).cap) ∧ (sb.getLsbD 1 = false) :=
  ⟨{ st [(1, RECORD_P_CFG_en 15, 1), (1, RECORD_P_STAT_state 15, 1)] with rec_ := { base.rec_ with dir := [(3, { base := 3072, size := 0, state := 2, engine := true, oldest := 7, commit := 9 })], port := [(31, { entry := some 3, at_ := 16390, next := 4, cont := true })] } }, 1, 15, 7, 0xFFFD, 3, { entry := some 3, at_ := 16390, next := 4, cont := true }, by decide⟩

theorem witness_RecordPortsStoreDropAndFail_6 : ∃ (s : State) (e : IoDie) (p : Fin 16) (data : BitVec 256) (sb : BitVec 16) (k : Nat) (x : RecPort), (s.live e.val = true) ∧ (s.f e.val (RECORD_P_CFG_en p.val) = 1 ∧ s.portSt e.val p.val = 1) ∧ (x = s.recPort e.val p.val) ∧ (x.open_ = none ∧ x.want = none ∧ x.entry = some k ∧ x.sent = [] ∧ x.recs = []) ∧ (x.at_ < (s.dirEnt k).oldest + (s.dirEnt k).cap) ∧ (sb.getLsbD 1 = false) :=
  ⟨{ st [(1, RECORD_P_CFG_en 15, 1), (1, RECORD_P_STAT_state 15, 1), (1, RECORD_P_SEQ_value 15, 0xFFFFFFFF)] with rec_ := { base.rec_ with dir := [(3, { base := 3072, size := 0, state := 2, engine := true, oldest := 7, commit := 9 })], port := [(31, { entry := some 3, at_ := 16390, next := 4, cont := true })] } }, 1, 15, 7, 0xFFFD, 3, { entry := some 3, at_ := 16390, next := 4, cont := true }, by decide⟩

theorem witness_RecordPortsStoreDropAndFail_7 : ∃ (s : State) (e : IoDie) (p : Fin 16) (data : BitVec 256) (sb : BitVec 16) (last : Bool), (s.portSt e.val p.val ≠ 0) ∧ ((s.recPort e.val p.val).open_ = none ∧ (s.recPort e.val p.val).want = none) ∧ (sb.getLsbD 1 = true) :=
  ⟨{ st [(1, RECORD_P_CFG_en 15, 1), (1, RECORD_P_STAT_state 15, 1)] with rec_ := { base.rec_ with dir := [(3, { base := 3072, size := 0, state := 2, engine := true, oldest := 7, commit := 9 })], port := [(31, { entry := some 3, at_ := 16390, next := 4, cont := true })] } }, 1, 15, 7, 0x0002, true, by decide⟩

theorem witness_RecordPortsStoreDropAndFail_8a : ∃ (s : State) (e : IoDie) (p : Fin 16) (data : BitVec 256) (sb : BitVec 16) (last : Bool), (s.live e.val = true) ∧ (s.f e.val (RECORD_P_CFG_en p.val) = 1) ∧ (s.portSt e.val p.val = 2 ∨ s.portSt e.val p.val = 3) ∧ ((s.recPort e.val p.val).open_ = none ∧ (s.recPort e.val p.val).want = none) ∧ (sb.getLsbD 1 = false) :=
  ⟨st [(1, RECORD_P_CFG_en 15, 1), (1, RECORD_P_STAT_state 15, 3)], 1, 15, 7, 0, true, by decide⟩

theorem witness_RecordPortsStoreDropAndFail_8b : ∃ (s : State) (e : IoDie) (p : Fin 16) (data : BitVec 256) (sb : BitVec 16) (last : Bool), (s.live e.val = true) ∧ (s.f e.val (RECORD_P_CFG_en p.val) = 1) ∧ (s.portSt e.val p.val = 2 ∨ s.portSt e.val p.val = 3) ∧ ((s.recPort e.val p.val).open_ = none ∧ (s.recPort e.val p.val).want = none) ∧ (sb.getLsbD 1 = false) :=
  ⟨st [(1, RECORD_P_CFG_en 15, 1), (1, RECORD_P_STAT_state 15, 2)], 1, 15, 7, 0, false, by decide⟩

theorem witness_RecordPortsStoreDropAndFail_9 : ∃ (s : State) (e : IoDie) (p : Fin 16) (id n : Nat) (l : List (Nat × Nat)), ((s.recPort e.val p.val).sent = (id, n) :: l) :=
  ⟨{ base with rec_ := { base.rec_ with port := [(31, { sent := [(4, 8), (5, 1)], recs := [{ id := 4, entry := 3, start := 9, left := 3 }] })] } }, 1, 15, 4, 8, [(5, 1)], by decide⟩

theorem witness_RecordPortsStoreDropAndFail_10 : ∃ (s : State) (e : IoDie) (p : Fin 16) (id n : Nat) (l : List (Nat × Nat)) (status : Byte) (r : RecRef), ((s.recPort e.val p.val).sent = (id, n) :: l) ∧ (status ≠ 0) ∧ ((s.recPort e.val p.val).recs.find? (fun y => decide (y.id = id)) = some r) :=
  ⟨{ base with rec_ := { base.rec_ with port := [(31, { sent := [(4, 8), (5, 1)], entry := some 3, recs := [{ id := 3, entry := 3, start := 5 }, { id := 4, entry := 3, start := 9, left := 3 }, { id := 5, entry := 3, start := 19, left := 3 }] })] } }, 1, 15, 4, 8, [(5, 1)], 0xD, { id := 4, entry := 3, start := 9, left := 3 }, by decide⟩

theorem witness_DirectoryIsDefinedMirroredAndFlushed_1 : ∃ (s : State) (i : Init), (s.live 0 = true) ∧ (isHawkmoth i = false ∧ isMemAgentOf i 0 = false) :=
  ⟨base, 0x103, by decide⟩

theorem witness_DirectoryIsDefinedMirroredAndFlushed_2a : ∃ (s : State) (i : Init) (k r : Nat) (x : DirEnt), (s.live 0 = true) ∧ (isHawkmoth i = true ∨ isMemAgentOf i 0 = true) ∧ (k = s.f 0 RECORD_DIR_IDX_index) ∧ (x = { base := bitsOf s.rec_.stage0 0 28, size := bitsOf s.rec_.stage0 28 4, state := 1, fill := bitsOf s.rec_.stage1 3 1 = 1, engine := bitsOf s.rec_.stage1 4 1 = 1, key := bitsOf s.rec_.stage1 9 6, next := bitsOf s.rec_.stage1 16 16 }) ∧ (r = (if (s.dirEnt k).state ≠ 0 then 2 else if 10 < x.size then 3 else if x.base % 2 ^ x.size ≠ 0 then 4 else if setOver s.ddr.sets (x.base * 2 ^ 20) (2 ^ (20 + x.size)) = none then 5 else 0)) :=
  ⟨{ st [(0, RECORD_DIR_IDX_index, 65535)] with rec_ := { base.rec_ with stage0 := 0xA0000C00, stage1 := 0xFFFF0619 }, ddr := { base.ddr with sets := [some ⟨0, 1016, 8, 14, 0, [0, 1, 2, 3, 4, 5, 6, 7]⟩] } }, 0x003, 65535, 0, { base := 3072, size := 10, state := 1, fill := true, engine := true, key := 3, next := 0xFFFF }, by decide⟩

theorem witness_DirectoryIsDefinedMirroredAndFlushed_2b : ∃ (s : State) (i : Init) (k r : Nat) (x : DirEnt), (s.live 0 = true) ∧ (isHawkmoth i = true ∨ isMemAgentOf i 0 = true) ∧ (k = s.f 0 RECORD_DIR_IDX_index) ∧ (x = { base := bitsOf s.rec_.stage0 0 28, size := bitsOf s.rec_.stage0 28 4, state := 1, fill := bitsOf s.rec_.stage1 3 1 = 1, engine := bitsOf s.rec_.stage1 4 1 = 1, key := bitsOf s.rec_.stage1 9 6, next := bitsOf s.rec_.stage1 16 16 }) ∧ (r = (if (s.dirEnt k).state ≠ 0 then 2 else if 10 < x.size then 3 else if x.base % 2 ^ x.size ≠ 0 then 4 else if setOver s.ddr.sets (x.base * 2 ^ 20) (2 ^ (20 + x.size)) = none then 5 else 0)) :=
  ⟨{ st [(0, RECORD_DIR_IDX_index, 65535)] with rec_ := { base.rec_ with stage0 := 0xA0000C01, stage1 := 0xFFFF0619 }, ddr := { base.ddr with sets := [some ⟨0, 1016, 8, 14, 0, [0, 1, 2, 3, 4, 5, 6, 7]⟩] } }, 0x003, 65535, 4, { base := 3073, size := 10, state := 1, fill := true, engine := true, key := 3, next := 0xFFFF }, by decide⟩

theorem witness_DirectoryIsDefinedMirroredAndFlushed_3 : ∃ (s : State) (i : Init) (k : Nat), (s.live 0 = true) ∧ (isHawkmoth i = true ∨ isMemAgentOf i 0 = true) ∧ (k = s.f 0 RECORD_DIR_IDX_index) :=
  ⟨{ st [(0, RECORD_DIR_IDX_index, 65535)] with rec_ := { base.rec_ with dir := [(65535, { base := 3072, size := 10, state := 2 })] } }, 0x003, 65535, by decide⟩

theorem witness_DirectoryIsDefinedMirroredAndFlushed_4 : ∃ (s : State) (i : Init) (k : Nat), (s.live 0 = true) ∧ (isHawkmoth i = true ∨ isMemAgentOf i 0 = true) ∧ (k = s.f 0 RECORD_DIR_IDX_index) :=
  ⟨{ st [(0, RECORD_DIR_IDX_index, 65535)] with rec_ := { base.rec_ with dir := [(65535, { base := 3072, size := 10, state := 2, oldest := 3, commit := 9, records := 1, held := [(6, 7)], tOld := 7, tNew := 7 })] } }, 0x003, 65535, by decide⟩

theorem witness_DirectoryIsDefinedMirroredAndFlushed_5 : ∃ (s : State), (s.dieFenced 1 = false) :=
  ⟨{ st [(0, RECORD_STAT_mirror_ok, 0)] with rec_ := { base.rec_ with dir := [(65535, { base := 3072, size := 10, state := 2 })] } }, by decide⟩

theorem witness_DirectoryIsDefinedMirroredAndFlushed_6 : ∃ (s : State), (s.f 0 RECORD_CTRL_pf_flush = 0) :=
  ⟨st [(0, RECORD_CTRL_pf_flush, 0)], by decide⟩

theorem witness_DirectoryIsDefinedMirroredAndFlushed_7 : ∃ (s : State) (e : IoDie) (p : Fin 16), (s.live 0 = true ∧ s.live e.val = true) ∧ (s.f 0 RECORD_CTRL_pf_flush = 1) ∧ (s.f e.val (RECORD_P_CFG_en p.val) = 1) :=
  ⟨{ st [(1, RECORD_P_CFG_en 15, 1), (1, RECORD_P_STAT_state 15, 1)] with rec_ := { base.rec_ with dir := [(3, { base := 3072, size := 0, state := 2, engine := true, oldest := 7, commit := 9 })], port := [(31, { entry := some 3, at_ := 9, next := 4, open_ := some { id := 3, drop := true, n := 7 } })] } }, 1, 15, by decide⟩

theorem witness_DirectoryIsDefinedMirroredAndFlushed_8 : ∃ (s : State) (inTime : Bool) (e : IoDie) (p : Fin 16) (x : RecPort) (r : RecRef), (s.rec_.flush = true) ∧ (s.rec_.port = [(e.val * 16 + p.val, x)]) ∧ (x.sent = [] ∧ x.recs = [r]) ∧ (r.closed = true ∧ r.left = 0) ∧ ((s.dirEnt r.entry).state ≠ 0 ∧ (s.dirEnt r.entry).state ≠ 4) ∧ (s.dieFenced 1 = false ∧ s.lateDuty 0 2 = false ∧ s.lateDuty 1 2 = false ∧ 80 ≤ s.time.p) :=
  ⟨{ base with rec_ := { base.rec_ with flush := true, dir := [(3, { base := 3072, size := 10, state := 2, oldest := 3, commit := 9, records := 1, held := [(6, 7)], tOld := 7, tNew := 7 })], port := [(31, { recs := [{ id := 4, entry := 3, start := 9, lines := 301, tick := 9, closed := true }] })] } }, true, 1, 15, { recs := [{ id := 4, entry := 3, start := 9, lines := 301, tick := 9, closed := true }] }, { id := 4, entry := 3, start := 9, lines := 301, tick := 9, closed := true }, by decide⟩

theorem witness_QueriesStartInOrderAndAnswer_1 : ∃ (s : State) (e : IoDie) (slot key : Fin 64), (s.querySt e.val slot.val ≠ 0) :=
  ⟨st [(1, RECORD_QS_STAT_state 63, 3)], 1, 63, 7, by decide⟩

theorem witness_QueriesStartInOrderAndAnswer_2a : ∃ (s : State) (e : IoDie) (slot key : Fin 64) (q : QueryDesc) (r : Nat), (s.live e.val = true) ∧ (s.querySt e.val slot.val = 0) ∧ (q = s.query e.val slot.val) ∧ (q.msix = false) ∧ (q.legal = false ∧ r = 1 ∨ q.legal = true ∧ ((s.dirEnt q.seg).state = 0 ∨ (s.dirEnt q.seg).state = 4) ∧ r = 2 ∨ q.legal = true ∧ (s.dirEnt q.seg).state ≠ 0 ∧ (s.dirEnt q.seg).state ≠ 4 ∧ (s.dirEnt q.seg).key ≠ 0 ∧ (s.dirEnt q.seg).key ≠ key.val ∧ nbit (s.rd64 e.val RECORD_QTRUST_LO RECORD_QTRUST_HI) slot.val = false ∧ r = 3) :=
  ⟨(((((((base.wr 1 (RECORD_QS_D 63 0) 0x00030101).wr 1 (RECORD_QS_D 63 4) 100).wr 1 (RECORD_QS_D 63 6) 0x1000).wr 1 (RECORD_QS_D 63 8) 96).wr 1 (RECORD_QS_D 63 11) 0x100).setF 0 PCIE_STAT_up 1)), 1, 63, 7, { op := 1, kind := 1, seg := 3, peer := 0, byCount := false, falling := false, msix := false, rsv := 0, vector := 0, lo := 0, hi := 100, dest := 0x1000, limit := 96, n := 0, thr := 0, fmt := 0, k := 1, l := 0, period := 0, skip := 0, tag := 0 }, 2, by decide⟩

theorem witness_QueriesStartInOrderAndAnswer_2b : ∃ (s : State) (e : IoDie) (slot key : Fin 64) (q : QueryDesc) (r : Nat), (s.live e.val = true) ∧ (s.querySt e.val slot.val = 0) ∧ (q = s.query e.val slot.val) ∧ (q.msix = false) ∧ (q.legal = false ∧ r = 1 ∨ q.legal = true ∧ ((s.dirEnt q.seg).state = 0 ∨ (s.dirEnt q.seg).state = 4) ∧ r = 2 ∨ q.legal = true ∧ (s.dirEnt q.seg).state ≠ 0 ∧ (s.dirEnt q.seg).state ≠ 4 ∧ (s.dirEnt q.seg).key ≠ 0 ∧ (s.dirEnt q.seg).key ≠ key.val ∧ nbit (s.rd64 e.val RECORD_QTRUST_LO RECORD_QTRUST_HI) slot.val = false ∧ r = 3) :=
  ⟨{ (((((((base.wr 1 (RECORD_QS_D 63 0) 0x00030101).wr 1 (RECORD_QS_D 63 4) 100).wr 1 (RECORD_QS_D 63 6) 0x1000).wr 1 (RECORD_QS_D 63 8) 96).wr 1 (RECORD_QS_D 63 11) 0x100).setF 0 PCIE_STAT_up 1)) with rec_ := { base.rec_ with dir := [(3, { state := 2, key := 3 })] } }, 1, 63, 7, { op := 1, kind := 1, seg := 3, peer := 0, byCount := false, falling := false, msix := false, rsv := 0, vector := 0, lo := 0, hi := 100, dest := 0x1000, limit := 96, n := 0, thr := 0, fmt := 0, k := 1, l := 0, period := 0, skip := 0, tag := 0 }, 3, by decide⟩

theorem witness_QueriesStartInOrderAndAnswer_3 : ∃ (s : State) (e : IoDie) (slot key : Fin 64) (q : QueryDesc) (x : DirEnt), (s.live e.val = true) ∧ (s.querySt e.val slot.val = 0) ∧ (q = s.query e.val slot.val) ∧ (x = s.dirEnt q.seg) ∧ (q.legal = true ∧ x.state ≠ 0 ∧ x.state ≠ 4) ∧ (x.key = 0 ∨ x.key = key.val ∨ nbit (s.rd64 e.val RECORD_QTRUST_LO RECORD_QTRUST_HI) slot.val = true) ∧ (s.queryQueue e.val = []) :=
  ⟨{ (((((((base.wr 1 (RECORD_QS_D 63 0) 0x00030101).wr 1 (RECORD_QS_D 63 4) 100).wr 1 (RECORD_QS_D 63 6) 0x1000).wr 1 (RECORD_QS_D 63 8) 96).wr 1 (RECORD_QS_D 63 11) 0x100).wr 1 RECORD_QTRUST_HI 0x80000000)) with rec_ := { base.rec_ with dir := [(3, { state := 2, key := 3, held := [(1, 7)], oldest := 9 })] } }, 1, 63, 7, { op := 1, kind := 1, seg := 3, peer := 0, byCount := false, falling := false, msix := false, rsv := 0, vector := 0, lo := 0, hi := 100, dest := 0x1000, limit := 96, n := 0, thr := 0, fmt := 0, k := 1, l := 0, period := 0, skip := 0, tag := 0 }, { state := 2, key := 3, held := [(1, 7)], oldest := 9 }, by decide⟩

theorem witness_QueriesStartInOrderAndAnswer_4 : ∃ (s : State) (e : IoDie) (slot : Fin 64) (q : QueryDesc) (c k ch a low : Nat) (w : BitVec 256), (s.live e.val = true) ∧ (s.querySt e.val slot.val = 2) ∧ (q = s.query e.val slot.val) ∧ (q.op = 1 ∧ q.kind = 1 ∧ q.byCount = false ∧ q.msix = false ∧ 96 ≤ q.limit) ∧ (s.queryQueue e.val = []) ∧ (KMap.look s.rec_.span (e.val * 64 + slot.val) = (c, [(1, k)])) ∧ ((s.dirEnt q.seg).oldest ≤ c) ∧ (dramDecode s.ddr.sets ((s.dirEnt q.seg).addr c) = some (ch, a)) ∧ (low < 2 ^ 224 ∧ nbits low 96 32 = 1 ∧ q.lo ≤ nbits low 128 64 ∧ nbits low 128 64 < q.hi) ∧ (s.dramLine ch (a / 64) = { data := recLine (recHead low [w]) [w] 0, known := true }) ∧ (s.f 0 PCIE_STAT_up = 1) :=
  ⟨{ ((((((((base.wr 1 (RECORD_QS_D 63 0) 0x00030101).wr 1 (RECORD_QS_D 63 4) 100).wr 1 (RECORD_QS_D 63 6) 0x1000).wr 1 (RECORD_QS_D 63 8) 96).wr 1 (RECORD_QS_D 63 11) 0x100).setF 1 (RECORD_QS_STAT_state 63) 2).setF 0 PCIE_STAT_up 1)) with rec_ := { base.rec_ with dir := [(3, { base := 3072, size := 10, state := 2, key := 3, held := [(1, 7)], oldest := 9, commit := 10 })], span := [(127, (9, [(1, 7)]))] }, ddr := { base.ddr with sets := [some ⟨0, 1016, 8, 14, 0, [0, 1, 2, 3, 4, 5, 6, 7]⟩], line := [(lineKey 0 6291465, { data := recLine (recHead (1 * 2 ^ 96 + 7 * 2 ^ 128 + 0x1234 * 2 ^ 192) [0xABCDEF]) [0xABCDEF] 0, known := true })] } }, 1, 63, { op := 1, kind := 1, seg := 3, peer := 0, byCount := false, falling := false, msix := false, rsv := 0, vector := 0, lo := 0, hi := 100, dest := 0x1000, limit := 96, n := 0, thr := 0, fmt := 0, k := 1, l := 0, period := 0, skip := 0, tag := 0 }, 9, 7, 0, 402653760, 1 * 2 ^ 96 + 7 * 2 ^ 128 + 0x1234 * 2 ^ 192, 0xABCDEF, by decide +kernel⟩

theorem witness_QueriesStartInOrderAndAnswer_5 : ∃ (s : State) (e : IoDie) (slot : Fin 64) (status : Byte), (s.live e.val = true) ∧ (s.querySt e.val slot.val = 2) ∧ ((s.query e.val slot.val).kind = 0 ∧ (s.query e.val slot.val).msix = false) ∧ (s.queryQueue e.val = []) ∧ (status ≠ 0) :=
  ⟨st [(1, RECORD_QS_STAT_state 63, 2)], 1, 63, 0xFF, by decide⟩

theorem witness_QueriesStartInOrderAndAnswer_6 : ∃ (s : State) (e : IoDie) (slot : Fin 64) (units : Nat), (s.live e.val = true) ∧ (s.querySt e.val slot.val = 1) ∧ ((s.query e.val slot.val).msix = false) ∧ (s.queryQueue e.val = [slot.val]) :=
  ⟨{ st [(1, RECORD_QS_STAT_state 63, 1)] with rec_ := { base.rec_ with queue := [(1, [63])] } }, 1, 63, 3, by decide⟩

theorem witness_QueriesStartInOrderAndAnswer_7 : ∃ (s : State) (e : IoDie) (slot : Fin 64), (s.live e.val = true) :=
  ⟨st [(1, RECORD_QS_STAT_state 63, 4)], 1, 63, by decide⟩

theorem witness_CoresLoadResetAndAreWatched_1a : ∃ (s : State) (i : Init) (core : Fin 16) (r : Nat), (s.live 0 = true) ∧ (r = (if isHawkmoth i = false then 1 else if s.core.loading ≠ none then 7 else if core = 0 ∨ 12 < core.val then 2 else if s.coreSeg core.val = none then 3 else if s.dieFenced (coreDie core.val) = true then 4 else 0)) ∧ (r ≠ 0) :=
  ⟨base, 0x018, 10, 1, by decide⟩

theorem witness_CoresLoadResetAndAreWatched_1b : ∃ (s : State) (i : Init) (core : Fin 16) (r : Nat), (s.live 0 = true) ∧ (r = (if isHawkmoth i = false then 1 else if s.core.loading ≠ none then 7 else if core = 0 ∨ 12 < core.val then 2 else if s.coreSeg core.val = none then 3 else if s.dieFenced (coreDie core.val) = true then 4 else 0)) ∧ (r ≠ 0) :=
  ⟨base, 0x001, 13, 2, by decide⟩

theorem witness_CoresLoadResetAndAreWatched_1c : ∃ (s : State) (i : Init) (core : Fin 16) (r : Nat), (s.live 0 = true) ∧ (r = (if isHawkmoth i = false then 1 else if s.core.loading ≠ none then 7 else if core = 0 ∨ 12 < core.val then 2 else if s.coreSeg core.val = none then 3 else if s.dieFenced (coreDie core.val) = true then 4 else 0)) ∧ (r ≠ 0) :=
  ⟨base, 0x001, 12, 3, by decide⟩

theorem witness_CoresLoadResetAndAreWatched_1d : ∃ (s : State) (i : Init) (core : Fin 16) (r : Nat), (s.live 0 = true) ∧ (r = (if isHawkmoth i = false then 1 else if s.core.loading ≠ none then 7 else if core = 0 ∨ 12 < core.val then 2 else if s.coreSeg core.val = none then 3 else if s.dieFenced (coreDie core.val) = true then 4 else 0)) ∧ (r ≠ 0) :=
  ⟨{ base with core := { base.core with loading := some 3 } }, 0x001, 12, 7, by decide⟩

theorem witness_CoresLoadResetAndAreWatched_2 : ∃ (s : State) (c : Core) (k : Fin 0x10000), (s.live 0 = true) ∧ (s.core.loading = none) ∧ (c ≠ 0) ∧ (s.coreSeg c.val ≠ none) ∧ (s.dieFenced (coreDie c.val) = false) :=
  ⟨{ base with start := { base.start with skip := some { hdrOf 3 [segOf 4 0 255 32768 64] with area := .skipper 1 (List.replicate 12 (0, 16)) } }, core := { base.core with isram := [(10 * 0x10000 + 5, 7)], dsram := [(10 * 0x10000 + 5, 7), (11 * 0x10000, 9)], mail := [(10, [(3, 4, true)])] } }, 10, 5, by decide⟩

theorem witness_CoresLoadResetAndAreWatched_3 : ∃ (s : State) (c : Core) (stored : Option (List Byte)) (x : Seg), (s.core.loading = some c.val) ∧ (c ≠ 0) ∧ (s.dieFenced (coreDie c.val) = false) ∧ (s.coreSeg c.val = some x) ∧ (s.kf c.val CORE_CTRL_reset = 0 ∧ s.kf c.val DBG_C_CTRL_halt_on_reset = 0 ∧ s.kf c.val CORE_STAT_state = 3) :=
  ⟨{ st [(7, CORE_STAT_state 0, 3)] with start := { base.start with skip := some { hdrOf 3 [segOf 4 0 255 32768 64] with area := .skipper 1 (List.replicate 12 (0, 16)) } }, core := { base.core with loading := some 10 } }, 10, none, segOf 4 0 255 32768 64, by decide⟩

theorem witness_CoresLoadResetAndAreWatched_4 : ∃ (s : State) (i : Init) (c : Core) (v : Bool), (s.live (coreDie c.val) = true) ∧ (isHawkmoth i = false) :=
  ⟨base, 0x201, 5, true, by decide⟩

theorem witness_CoresLoadResetAndAreWatched_5 : ∃ (s : State) (c : Core), (s.live (coreDie c.val) = true) ∧ (c ≠ 0) ∧ (s.kf c.val CORE_CTRL_reset = 0 ∧ s.kf c.val CORE_STAT_state ≠ 3) :=
  ⟨{ st [(7, CORE_STAT_state 0, 1), (7, CORE_WDOG_CFG_en 0, 1)] with core := { base.core with mail := [(10, [(3, 4, true)])] } }, 10, by decide⟩

theorem witness_CoresLoadResetAndAreWatched_6 : ∃ (s : State) (c : Core), (s.live (coreDie c.val) = true) ∧ (c ≠ 0) ∧ (s.kf c.val CORE_CTRL_reset = 1 ∧ s.kf c.val CORE_STAT_state = 0 ∧ s.kf c.val DBG_C_CTRL_halt_on_reset = 0) :=
  ⟨st [(1, CORE_CTRL_reset 2, 1), (1, CORE_STAT_loaded 2, 1)], 4, by decide⟩

theorem witness_CoresLoadResetAndAreWatched_7 : ∃ (s : State) (c : Core) (v : Word), (s.live (coreDie c.val) = true) :=
  ⟨base, 12, 0x80000000, by decide⟩

theorem witness_CoresLoadResetAndAreWatched_8 : ∃ (s : State) (c : Core) (v : Word), (s.live (coreDie c.val) = true) :=
  ⟨st [(9, CORE_WDOG_CFG_en 0, 1), (9, CORE_WDOG_CFG_timeout 0, 7)], 12, 0xA5A5, by decide⟩

theorem witness_CoresLoadResetAndAreWatched_9 : ∃ (s : State) (c : Core), (s.wdogLeft c.val ≠ 0 ∨ s.kf c.val CORE_STAT_wdog = 0) :=
  ⟨{ st [(9, CORE_STAT_wdog 0, 1), (9, CORE_STAT_state 0, 1)] with core := { base.core with wdog := [(12, (1, 10240))] } }, 12, by decide⟩

theorem witness_CoresLoadResetAndAreWatched_10 : ∃ (s : State) (c : Core), (s.live (coreDie c.val) = true) ∧ (c ≠ 0) ∧ (s.wdogLeft c.val = 0 ∧ s.kf c.val CORE_STAT_wdog = 1 ∧ s.kf c.val CORE_STAT_state = 1) ∧ (s.kf c.val CORE_STAT_loaded = 1 ∧ s.kf c.val CORE_CTRL_reset = 0 ∧ s.kf c.val DBG_C_CTRL_halt_on_reset = 0) :=
  ⟨{ st [(9, CORE_STAT_wdog 0, 1), (9, CORE_STAT_state 0, 1), (9, CORE_STAT_loaded 0, 1)] with core := { base.core with wdog := [(12, (2560, 0))] } }, 12, by decide⟩

theorem witness_CoresLoadResetAndAreWatched_11a : ∃ (s : State), (s.live 0 = true) ∧ (s.wdogLeft 0 = 0 ∧ s.kf 0 CORE_STAT_wdog = 1 ∧ s.kf 0 CORE_STAT_state = 1 ∧ s.kf 0 DBG_C_CTRL_halt_on_reset = 0) ∧ (s.pwr.safe = false) :=
  ⟨{ st [(0, CORE_STAT_wdog 0, 1), (0, CORE_STAT_state 0, 1), (0, CORE_HB_STAT_faults, 3)] with core := { base.core with wdog := [(0, (3200, 0))] } }, by decide⟩

theorem witness_CoresLoadResetAndAreWatched_11b : ∃ (s : State), (s.live 0 = true) ∧ (s.wdogLeft 0 = 0 ∧ s.kf 0 CORE_STAT_wdog = 1 ∧ s.kf 0 CORE_STAT_state = 1 ∧ s.kf 0 DBG_C_CTRL_halt_on_reset = 0) ∧ (s.pwr.safe = false) :=
  ⟨{ st [(0, CORE_STAT_wdog 0, 1), (0, CORE_STAT_state 0, 1), (0, CORE_HB_STAT_faults, 2)] with core := { base.core with wdog := [(0, (3200, 0))] } }, by decide⟩

theorem witness_CoresLoadResetAndAreWatched_12 : ∃ (s : State) (i : Init), (s.live 0 = true) :=
  ⟨base, 0x001, by decide⟩

theorem witness_CoresLoadResetAndAreWatched_13 : ∃ (s : State), (s.live 0 = true) ∧ (s.kf 0 CORE_STAT_state ≠ 0) ∧ (s.pwr.safe = false) :=
  ⟨st [(0, CORE_STAT_state 0, 1)], by decide⟩

theorem witness_CoresLoadResetAndAreWatched_14 : ∃ (s : State) (i : Init) (v : Word), (s.live 0 = true) :=
  ⟨st [(0, PCIE_STAT_up, 1), (0, ⟨PCIE_MSIX_TBL 15, 0, 1⟩, 0)], 0x001, 3, by decide⟩

theorem witness_MailboxesPortsAndMemoryMap_1a : ∃ (s : State) (c : Core) (w : Word) (i : Init) (dbg : Bool), (s.live (coreDie c.val) = true) :=
  ⟨{ base with core := { base.core with mail := [(10, List.replicate 32 (3, 4, true))] } }, 10, 7, 0x001, true, by decide⟩

theorem witness_MailboxesPortsAndMemoryMap_1b : ∃ (s : State) (c : Core) (w : Word) (i : Init) (dbg : Bool), (s.live (coreDie c.val) = true) :=
  ⟨{ base with core := { base.core with mail := [(10, List.replicate 31 (3, 4, true))] } }, 10, 7, 0x001, true, by decide⟩

theorem witness_MailboxesPortsAndMemoryMap_2 : ∃ (s : State) (c : Core) (w : Word) (src : Nat) (dbg : Bool) (l : List (Word × Nat × Bool)), (s.live (coreDie c.val) = true) ∧ (s.mailbox c.val = (w, src, dbg) :: l) ∧ (src < 4096) :=
  ⟨{ base with core := { base.core with mail := [(10, [(3, 4095, true), (5, 0x001, false)])] } }, 10, 3, 4095, true, [(5, 0x001, false)], by decide⟩

theorem witness_MailboxesPortsAndMemoryMap_3 : ∃ (s : State) (c : Core), (s.live (coreDie c.val) = true) ∧ (s.mailbox c.val = []) :=
  ⟨st [(7, CORE_MB_SRC_valid 0, 1)], 10, by decide⟩

theorem witness_MailboxesPortsAndMemoryMap_4 : ∃ (s : State) (c : Core) (n : Nat), (s.live (coreDie c.val) = true) ∧ (s.tick.tb ≠ .off) ∧ (n = s.rd64 (coreDie c.val) (CORE_MTIMECMP_LO (coreSlot c.val)) (CORE_MTIMECMP_HI (coreSlot c.val))) :=
  ⟨(base.wr 7 (CORE_MTIMECMP_LO 0) 10240).wr 7 (CORE_MTIMECMP_HI 0) 0, 10, 10240, by decide⟩

theorem witness_MailboxesPortsAndMemoryMap_5 : ∃ (s : State) (w : Word) (pins : BitVec 64), (s.coreRuns 0 = true) :=
  ⟨{ st [(0, CORE_STAT_state 0, 1)] with gpio := { base.gpio with portOut := [(0, 0x123456789)] } }, 0x80000001, 7, by decide⟩

theorem witness_MailboxesPortsAndMemoryMap_6 : ∃ (s : State) (k : Fin 16) (pins : BitVec 64), (s.coreRuns 4 = true) ∧ (k.val % 2 = 1) :=
  ⟨st [(1, CORE_STAT_state 2, 1)], 1, 7, by decide⟩

theorem witness_MailboxesPortsAndMemoryMap_7 : ∃ (s : State) (c : Core) (k : Fin 16) (wr : Option Word) (pins : BitVec 64) (op : CoreOp) (a : Word) (err : SramErr), (s.coreRuns c.val = false) :=
  ⟨base, 4, 1, none, 7, .fetch, 0, .none, by decide⟩

theorem witness_MailboxesPortsAndMemoryMap_8a : ∃ (s : State) (c : Core) (op : CoreOp) (a : Word) (err : SramErr) (pins : BitVec 64) (code : Nat), (s.coreRuns c.val = true ∧ s.coreWaits c.val = false) ∧ ((match op with | .load n => decide (a.toNat % 2 ^ n.val ≠ 0 ∧ code = 4) | .store n _ => decide (a.toNat % 2 ^ n.val ≠ 0 ∧ code = 6) || decide (a.toNat % 2 ^ n.val = 0 ∧ a.toNat < 0x20000000 ∧ code = 7) | .fetch => decide (0x20000000 ≤ a.toNat ∧ code = 1) | .fence => false) = true) :=
  ⟨st [(9, CORE_STAT_state 0, 1)], 12, .load 2, 0x20000002, .none, 0, 4, by decide⟩

theorem witness_MailboxesPortsAndMemoryMap_8b : ∃ (s : State) (c : Core) (op : CoreOp) (a : Word) (err : SramErr) (pins : BitVec 64) (code : Nat), (s.coreRuns c.val = true ∧ s.coreWaits c.val = false) ∧ ((match op with | .load n => decide (a.toNat % 2 ^ n.val ≠ 0 ∧ code = 4) | .store n _ => decide (a.toNat % 2 ^ n.val ≠ 0 ∧ code = 6) || decide (a.toNat % 2 ^ n.val = 0 ∧ a.toNat < 0x20000000 ∧ code = 7) | .fetch => decide (0x20000000 ≤ a.toNat ∧ code = 1) | .fence => false) = true) :=
  ⟨st [(9, CORE_STAT_state 0, 1)], 12, .store 1 7, 0x1000FFFE, .none, 0, 7, by decide⟩

theorem witness_MailboxesPortsAndMemoryMap_8c : ∃ (s : State) (c : Core) (op : CoreOp) (a : Word) (err : SramErr) (pins : BitVec 64) (code : Nat), (s.coreRuns c.val = true ∧ s.coreWaits c.val = false) ∧ ((match op with | .load n => decide (a.toNat % 2 ^ n.val ≠ 0 ∧ code = 4) | .store n _ => decide (a.toNat % 2 ^ n.val ≠ 0 ∧ code = 6) || decide (a.toNat % 2 ^ n.val = 0 ∧ a.toNat < 0x20000000 ∧ code = 7) | .fetch => decide (0x20000000 ≤ a.toNat ∧ code = 1) | .fence => false) = true) :=
  ⟨st [(9, CORE_STAT_state 0, 1)], 12, .fetch, 0x20000000, .none, 0, 1, by decide⟩

theorem witness_MailboxesPortsAndMemoryMap_9 : ∃ (s : State) (c : Core) (k : Fin 0x4000) (w : Word) (pins : BitVec 64), (s.coreRuns c.val = true ∧ s.coreWaits c.val = false) :=
  ⟨st [(9, CORE_STAT_state 0, 1)], 12, 0x3FFF, 7, 0, by decide⟩

theorem witness_MailboxesPortsAndMemoryMap_10 : ∃ (s : State) (c : Core) (a : Word) (err : SramErr) (pins : BitVec 64), (s.coreRuns c.val = true ∧ s.coreWaits c.val = false) ∧ (0x80000000 ≤ a.toNat ∧ a.toNat < 0xC0000000) ∧ (bitsOf (s.rd (coreDie c.val) (CORE_WIN0 (coreSlot c.val))) 31 1 = 0) :=
  ⟨st [(9, CORE_STAT_state 0, 1)], 12, 0x80000001, .none, 0, by decide⟩

theorem witness_ErrorsScrubbingAndSpares_1 : ∃ (s : State) (d : Die) (src : Fin 16) (c : ErrClass) (region : Fin 32) (detail : BitVec 16), (s.live d.val = true) ∧ (c ≠ .dieFatal) :=
  ⟨base, 9, 15, .regionFatal, 31, 0xFFFF, by decide⟩

theorem witness_ErrorsScrubbingAndSpares_2 : ∃ (s : State) (d : Die) (e : Nat × Nat) (l : List (Nat × Nat)), (KMap.look s.err.log d.val = e :: l) :=
  ⟨{ base with err := { base.err with log := [(9, [(5, 6), (7, 8)])] } }, 9, (5, 6), [(7, 8)], by decide⟩

theorem witness_ErrorsScrubbingAndSpares_3a : ∃ (s : State) (i : Init) (d : FabDie) (r : Fin 32) (k : Nat), (k = (if isHawkmoth i = false ∧ isSkipperOf i (d.val + 2) = false then 1 else if 24 ≤ r.val then 3 else if s.regionState (d.val + 2) r.val ≠ 5 then 2 else 0)) :=
  ⟨st [(9, REGIONS_STATE_state 23, 5)], 0x901, 7, 23, 0, by decide⟩

theorem witness_ErrorsScrubbingAndSpares_3b : ∃ (s : State) (i : Init) (d : FabDie) (r : Fin 32) (k : Nat), (k = (if isHawkmoth i = false ∧ isSkipperOf i (d.val + 2) = false then 1 else if 24 ≤ r.val then 3 else if s.regionState (d.val + 2) r.val ≠ 5 then 2 else 0)) :=
  ⟨st [(9, REGIONS_STATE_state 23, 5)], 0x801, 7, 23, 1, by decide⟩

theorem witness_ErrorsScrubbingAndSpares_4a : ∃ (s : State) (d : FabDie) (e : FrameErr) (n : Nat), (s.live (d.val + 2) = true) ∧ (n = s.f (d.val + 2) SCRUB_POS_frame) ∧ (n < 57599) ∧ (s.regionState (d.val + 2) (n / 2400) ≠ 2) ∧ (e.bits ≤ 3) :=
  ⟨st [(9, SCRUB_POS_frame, 57598)], 7, ⟨199, 255, 3⟩, 57598, by decide⟩

theorem witness_ErrorsScrubbingAndSpares_4b : ∃ (s : State) (d : FabDie) (e : FrameErr) (n : Nat), (s.live (d.val + 2) = true) ∧ (n = s.f (d.val + 2) SCRUB_POS_frame) ∧ (n < 57599) ∧ (s.regionState (d.val + 2) (n / 2400) ≠ 2) ∧ (e.bits ≤ 3) :=
  ⟨st [(9, SCRUB_POS_frame, 57598)], 7, ⟨199, 255, 2⟩, 57598, by decide⟩

theorem witness_ErrorsScrubbingAndSpares_5 : ∃ (s : State) (d : Die) (i : Fin 24) (x : BitVec 16) (b v : Nat), (s.live d.val = true) ∧ (2 ≤ d.val ∨ i.val < 21) ∧ (b = s.f d.val (SPARE_AGEB_baseline i.val)) ∧ (v = min (if b ≤ x.toNat then 0 else (b - x.toNat) * 10000 / b) 4095) :=
  ⟨st [(9, SPARE_AGEB_baseline 23, 10000), (9, SPARE_CFG_age_thr, 30)], 9, 23, 9700, 10000, 300, by decide⟩

theorem witness_ErrorsScrubbingAndSpares_6 : ∃ (s : State) (b : BitVec 128), (spareDetail b s ≠ 0) :=
  ⟨base, 0x0068013A03010103, by decide⟩

theorem witness_ErrorsScrubbingAndSpares_7a : ∃ (s : State) (b : BitVec 128), (spareDetail b s = 0) ∧ (spareByte b 0 = 1 ∨ spareByte b 0 = 3) :=
  ⟨base, 0x0068003A03010303, by decide⟩

theorem witness_ErrorsScrubbingAndSpares_7b : ∃ (s : State) (b : BitVec 128), (spareDetail b s = 0) ∧ (spareByte b 0 = 1 ∨ spareByte b 0 = 3) :=
  ⟨base, 0x27040901, by decide⟩

theorem witness_ErrorsScrubbingAndSpares_8a : ∃ (s : State) (e : BitVec 128) (l : List (BitVec 128)) (first second : Bool), (s.err.queue = e :: l) :=
  ⟨{ base with err := { base.err with queue := [1, 2] }, nv := { base.nv with wear0 := some ⟨7, [5]⟩, wear1 := some ⟨8, [5, 6]⟩ } }, 1, [2], true, true, by decide⟩

theorem witness_ErrorsScrubbingAndSpares_8b : ∃ (s : State) (e : BitVec 128) (l : List (BitVec 128)) (first second : Bool), (s.err.queue = e :: l) :=
  ⟨{ base with err := { base.err with queue := [1, 2] }, nv := { base.nv with wear0 := some ⟨7, [5]⟩, wear1 := some ⟨8, [5, 6]⟩ } }, 1, [2], false, false, by decide⟩

theorem witness_PinsTimersAndTriggerLines_1 : ∃ (s : State) (i : Init) (d : IoDie) (j : Fin 64) (v : Word), (s.live d.val = true) ∧ (j.val < 32 ∨ d = 0) ∧ (portOwner d.val i = false) :=
  ⟨base, 0x001, 1, 31, 1, by decide⟩

theorem witness_PinsTimersAndTriggerLines_2 : ∃ (s : State) (i : Init) (d : IoDie) (j : Fin 64) (v : Word), (s.live d.val = true) ∧ (j.val < 32 ∨ d = 0) ∧ (portOwner d.val i = true) ∧ (3 < bitsOf v 0 4 ∨ v.getLsbD 6 = true ∧ bitsOf v 0 4 ≠ 0) :=
  ⟨base, 0x001, 0, 63, 0x41, by decide⟩

theorem witness_PinsTimersAndTriggerLines_3a : ∃ (s : State) (i : Init) (d : IoDie) (j : Fin 64) (v : Word), (s.live d.val = true) ∧ (j.val < 32 ∨ d = 0) ∧ (portOwner d.val i = true) ∧ (v.getLsbD 6 = false ∧ 1 ≤ bitsOf v 0 4 ∧ bitsOf v 0 4 ≤ 3) ∧ (s.f d.val (GPIO_P_CFG_func j.val) ≠ 0 ∧ s.f d.val (GPIO_P_CFG_func j.val) ≠ bitsOf v 0 4 ∨ s.f d.val (GPIO_P_CFG_func j.val) = 0 ∧ bitsOf v 0 4 = 3 ∧ s.timerOwned d.val (j.val % 8) = true) :=
  ⟨st [(0, GPIO_TMR_CFG_by_trig 7, 1)], 0x001, 0, 63, 3, by decide⟩

theorem witness_PinsTimersAndTriggerLines_3b : ∃ (s : State) (i : Init) (d : IoDie) (j : Fin 64) (v : Word), (s.live d.val = true) ∧ (j.val < 32 ∨ d = 0) ∧ (portOwner d.val i = true) ∧ (v.getLsbD 6 = false ∧ 1 ≤ bitsOf v 0 4 ∧ bitsOf v 0 4 ≤ 3) ∧ (s.f d.val (GPIO_P_CFG_func j.val) ≠ 0 ∧ s.f d.val (GPIO_P_CFG_func j.val) ≠ bitsOf v 0 4 ∨ s.f d.val (GPIO_P_CFG_func j.val) = 0 ∧ bitsOf v 0 4 = 3 ∧ s.timerOwned d.val (j.val % 8) = true) :=
  ⟨st [(1, GPIO_P_CFG_func 31, 2)], 0x103, 1, 31, 1, by decide⟩

theorem witness_PinsTimersAndTriggerLines_4a : ∃ (s : State) (i : Init) (d : IoDie) (j : Fin 64) (v : Word), (s.live d.val = true) ∧ (j.val < 32 ∨ d = 0) ∧ (portOwner d.val i = true) ∧ (v.getLsbD 6 = false ∧ bitsOf v 0 4 ≤ 3) ∧ (s.f d.val (GPIO_P_CFG_func j.val) = 0 ∧ bitsOf v 0 4 ≠ 0 ∨ s.f d.val (GPIO_P_CFG_func j.val) ≠ 0 ∧ bitsOf v 0 4 = 0) ∧ (bitsOf v 0 4 = 3 → s.timerOwned d.val (j.val % 8) = false) :=
  ⟨base, 0x001, 0, 63, 3, by decide⟩

theorem witness_PinsTimersAndTriggerLines_4b : ∃ (s : State) (i : Init) (d : IoDie) (j : Fin 64) (v : Word), (s.live d.val = true) ∧ (j.val < 32 ∨ d = 0) ∧ (portOwner d.val i = true) ∧ (v.getLsbD 6 = false ∧ bitsOf v 0 4 ≤ 3) ∧ (s.f d.val (GPIO_P_CFG_func j.val) = 0 ∧ bitsOf v 0 4 ≠ 0 ∨ s.f d.val (GPIO_P_CFG_func j.val) ≠ 0 ∧ bitsOf v 0 4 = 0) ∧ (bitsOf v 0 4 = 3 → s.timerOwned d.val (j.val % 8) = false) :=
  ⟨st [(1, GPIO_P_CFG_func 31, 3), (1, GPIO_TMR_CFG_owned 7, 1)], 0x103, 1, 31, 0, by decide⟩

theorem witness_PinsTimersAndTriggerLines_5 : ∃ (s : State) (d : IoDie) (j : Fin 64), (j.val < 32 ∨ d = 0) :=
  ⟨st [(1, GPIO_P_CFG_switching 31, 1)], 1, 31, by decide⟩

theorem witness_PinsTimersAndTriggerLines_6 : ∃ (s : State) (d : IoDie) (j : Fin 64) (steps : Nat), (s.f d.val GPIO_ADC_CTRL_en = 1 ∧ s.f d.val (GPIO_P_CFG_analog j.val) = 1) ∧ (j.val < 32 ∨ d = 0) :=
  ⟨st [(0, GPIO_ADC_CTRL_en, 1), (0, GPIO_P_CFG_analog 63, 1)], 0, 63, 4097, by decide⟩

theorem witness_PinsTimersAndTriggerLines_7 : ∃ (s : State) (d : IoDie) (u : Fin 8) (rising : Bool) (count : Nat), (s.f d.val (GPIO_TMR_CFG_owned u.val) = 1) ∧ (s.f d.val (GPIO_TMR_CFG_mode u.val) = 2 ∨ s.f d.val (GPIO_TMR_CFG_mode u.val) = (if rising then 0 else 1)) ∧ (160 ≤ count ∧ count < 2 ^ 64) :=
  ⟨st [(1, GPIO_TMR_CFG_owned 7, 1), (1, GPIO_TMR_CFG_pin 7, 31), (1, GPIO_P_CFG_filt 31, 3), (1, GPIO_TMR_CFG_mode 7, 1)], 1, 7, false, 0x123456789, by decide⟩

theorem witness_PinsTimersAndTriggerLines_8 : ∃ (s : State) (d : IoDie) (u : Fin 8), (KMap.look s.gpio.timerOn (d.val * 8 + u.val) = true) :=
  ⟨{ base with gpio := { base.gpio with timerOn := [(15, true)] } }, 1, 7, by decide⟩

theorem witness_PinsTimersAndTriggerLines_9a : ∃ (s : State) (i : Init) (l : Fin 8) (v : Word) (o : Nat), (s.live 0 = true) ∧ (isHawkmoth i = true) ∧ (o = bitsOf v 0 3 ∧ o ≤ 4 ∧ o ≠ 0) :=
  ⟨st [(0, GPIO_TRIG_OWN_owner 7, 2)], 0x001, 7, 0x74, 4, by decide⟩

theorem witness_PinsTimersAndTriggerLines_9b : ∃ (s : State) (i : Init) (l : Fin 8) (v : Word) (o : Nat), (s.live 0 = true) ∧ (isHawkmoth i = true) ∧ (o = bitsOf v 0 3 ∧ o ≤ 4 ∧ o ≠ 0) :=
  ⟨base, 0x001, 7, 0x74, 4, by decide⟩

theorem witness_PinsTimersAndTriggerLines_10 : ∃ (s : State) (l : Fin 8), (s.live 0 = true) :=
  ⟨st [(0, GPIO_TRIG_OWN_owner 7, 4), (0, GPIO_TRIG_OWN_unit 7, 7), (0, GPIO_TMR_CFG_by_trig 7, 1)], 7, by decide⟩

theorem witness_PinsTimersAndTriggerLines_11 : ∃ (s : State) (l : Fin 8) (v : Word), (s.live 0 = true) :=
  ⟨st [(0, GPIO_TRIG_OWN_owner 7, 2)], 7, 0xFFFFFFFF, by decide⟩

theorem witness_PinsTimersAndTriggerLines_12 : ∃ (s : State) (l : Fin 8) (stamp : BitVec 72) (ext : Byte) (n : Nat), (s.live 0 = true) ∧ (s.f 0 (GPIO_TRIG_CTRL_ev_en l.val) = 0) :=
  ⟨base, 7, 0x44AA203E828, 0x80, 0, by decide⟩

theorem witness_PinsTimersAndTriggerLines_13 : ∃ (s : State) (l : Fin 8), (s.gpio.pulse.any (fun e => e.1 == l.val) = true) :=
  ⟨{ st [(0, GPIO_TRIG_OWN_owner 7, 1)] with gpio := { base.gpio with pulse := [(5, 9, 9), (7, 3, 4)] } }, 7, by decide⟩

theorem witness_PinsTimersAndTriggerLines_14 : ∃ (s : State) (l : Fin 8), (s.gpio.active = [l.val]) ∧ (s.f 0 (GPIO_TRIG_OWN_owner l.val) = 1) :=
  ⟨{ st [(0, GPIO_TRIG_OWN_owner 7, 1)] with gpio := { base.gpio with active := [7] } }, 7, by decide⟩

theorem witness_OneDebugPathOwnsTheBusMaster_1 : ∃ (s : State) (p : DbgPath), (s.f 0 DBG_OWN_owner = 0 ∨ s.f 0 DBG_OWN_owner = p.code) :=
  ⟨base, .host, by decide⟩

theorem witness_OneDebugPathOwnsTheBusMaster_2 : ∃ (s : State) (p : DbgPath) (consume : Bool) (env : CtlEnv), (s.f 0 DBG_OWN_owner ≠ 0 ∧ s.f 0 DBG_OWN_owner ≠ p.code) :=
  ⟨st [(0, DBG_OWN_owner, 1)], .host, true, {}, by decide⟩

theorem witness_OneDebugPathOwnsTheBusMaster_3 : ∃ (s : State) (p : DbgPath) (a : Nat) (env : CtlEnv), (s.f 0 DBG_OWN_owner = 0 ∨ s.f 0 DBG_OWN_owner = p.code) ∧ (s.f 0 DBG_BM_STAT_busy = 0 ∧ s.f 0 DBG_RIGHTS_bm_write = 0 ∧ env.opened = false) ∧ (a = s.rd64 0 DBG_BM_ADDR_LO DBG_BM_ADDR_HI) ∧ (a < 0xF00000000000 ∨ a / 0x10000 % 0x100 ≠ 0x0A) :=
  ⟨(base.wr 0 DBG_BM_ADDR_HI 0xF000).wr 0 DBG_BM_ADDR_LO 0x00FB0000, .jtag, 0xF00000FB0000, {}, by decide⟩

theorem witness_OneDebugPathOwnsTheBusMaster_4 : ∃ (s : State) (p : DbgPath) (consume : Bool) (env : CtlEnv), (s.f 0 DBG_OWN_owner = 0 ∨ s.f 0 DBG_OWN_owner = p.code) ∧ (s.f 0 DBG_BM_STAT_busy = 1) :=
  ⟨st [(0, DBG_BM_STAT_busy, 1)], .jtag, true, {}, by decide⟩

theorem witness_OneDebugPathOwnsTheBusMaster_5 : ∃ (s : State) (p : DbgPath) (consume : Bool) (env : CtlEnv), (s.f 0 DBG_OWN_owner = 0 ∨ s.f 0 DBG_OWN_owner = p.code) ∧ (s.f 0 DBG_BM_STAT_busy = 0) ∧ (s.pwr.safe = false) :=
  ⟨st [(0, DBG_RIGHTS_bm_write, 0)], .jtag, true, {}, by decide⟩

theorem witness_OneDebugPathOwnsTheBusMaster_6 : ∃ (s : State) (p : DbgPath) (a : Nat) (consume : Bool) (env : CtlEnv), (s.f 0 DBG_OWN_owner = 0 ∨ s.f 0 DBG_OWN_owner = p.code) ∧ (s.f 0 DBG_BM_STAT_busy = 0) ∧ (s.pwr.safe = true ∧ s.pwr.factory = false) ∧ (a = s.rd64 0 DBG_BM_ADDR_LO DBG_BM_ADDR_HI) ∧ (a < 0xF00000000000 ∨ 0xF00001000000 ≤ a ∨ (a / 0x10000 % 0x100 ≠ 0 ∧ a / 0x10000 % 0x100 ≠ 2 ∧ a / 0x10000 % 0x100 ≠ 3 ∧ a / 0x10000 % 0x100 ≠ 7 ∧ a / 0x10000 % 0x100 ≠ 0x70)) :=
  ⟨{ ((base.wr 0 DBG_BM_ADDR_HI 0xF000).wr 0 DBG_BM_ADDR_LO 0x00010000) with pwr := { base.pwr with safe := true } }, .jtag, 0xF00000010000, false, {}, by decide⟩

theorem witness_OneDebugPathOwnsTheBusMaster_7 : ∃ (s : State) (w c : Bool) (status : Byte) (v : Word), (s.dbg.bm = some (w, c) ∧ s.dbg.bmDone = some (status.toNat, v)) :=
  ⟨{ st [(0, DBG_BM_STAT_busy, 1)] with dbg := { base.dbg with bm := some (false, true), bmDone := some (0x0D, 77) } }, false, true, 0x0D, 77, by decide⟩

theorem witness_OneDebugPathOwnsTheBusMaster_8 : ∃ (s : State) (dr : BitVec 48) (env : CtlEnv), (s.pwr.railsGood = true) ∧ (11 ≤ dr.toNat % 64) :=
  ⟨base, 0x7FFFFFFFCB, {}, by decide⟩

theorem witness_OneDebugPathOwnsTheBusMaster_9 : ∃ (s : State) (dr : BitVec 48) (env : CtlEnv), (s.pwr.railsGood = true) ∧ (dr.toNat % 64 < 11 ∧ dr.getLsbD 6 = true) ∧ (s.f 0 DBG_OWN_owner = 2 ∨ s.f 0 DBG_OWN_owner = 3) :=
  ⟨st [(0, DBG_OWN_owner, 2)], 0x7FFFFFFFCA, {}, by decide⟩

theorem witness_DebuggersHaltStepFeedAndTalk_1 : ∃ (s : State) (i : Init) (c : Core) (a w : Word) (o : FeedOut) (err : SramErr), (s.live (coreDie c.val) = true) ∧ (isDebugMaster i = false) :=
  ⟨base, 0x001, 12, 4, 5, .done none, .none, by decide⟩

theorem witness_DebuggersHaltStepFeedAndTalk_2 : ∃ (s : State) (c : Core) (a w : Word) (o : FeedOut), (s.live (coreDie c.val) = true) ∧ (s.coreRight c.val = false) :=
  ⟨base, 12, 4, 5, .done none, by decide⟩

theorem witness_DebuggersHaltStepFeedAndTalk_3 : ∃ (s : State) (c : Core) (a : Word), (s.coreRight c.val = true) ∧ (s.coreFree c.val = true) :=
  ⟨{ st [(0, DBG_RIGHTS_skipper, 1), (9, CORE_STAT_state 0, 1)] with core := { base.core with wdog := [(12, (5000, 10000))] } }, 12, 0x10000010, by decide⟩

theorem witness_DebuggersHaltStepFeedAndTalk_4 : ∃ (s : State) (c : Core), (s.coreRight c.val = true) ∧ (s.coreHalted c.val = true) :=
  ⟨{ st [(0, DBG_RIGHTS_skipper, 1), (9, CORE_STAT_state 0, 2), (9, CORE_STAT_wdog 0, 1)] with core := { base.core with wdog := [(12, (500, 10000))] } }, 12, by decide⟩

theorem witness_DebuggersHaltStepFeedAndTalk_5 : ∃ (s : State) (c : Core) (w a : Word), (s.coreRight c.val = true) ∧ (s.coreHalted c.val = true) :=
  ⟨st [(0, DBG_RIGHTS_skipper, 1), (9, CORE_STAT_state 0, 2)], 12, 5, 0x10000014, by decide⟩

theorem witness_DebuggersHaltStepFeedAndTalk_6a : ∃ (s : State) (c : Core) (w v : Word) (o : FeedOut), (s.coreRight c.val = true) ∧ (s.coreHalted c.val = true) ∧ (s.kf c.val DBG_C_STAT_fed_busy = 0) :=
  ⟨st [(0, DBG_RIGHTS_skipper, 1), (9, CORE_STAT_state 0, 2)], 12, 0x00100073, 7, .done (some 7), by decide⟩

theorem witness_DebuggersHaltStepFeedAndTalk_6b : ∃ (s : State) (c : Core) (w v : Word) (o : FeedOut), (s.coreRight c.val = true) ∧ (s.coreHalted c.val = true) ∧ (s.kf c.val DBG_C_STAT_fed_busy = 0) :=
  ⟨st [(0, DBG_RIGHTS_skipper, 1), (9, CORE_STAT_state 0, 2)], 12, 0x00000013, 7, .done (some 7), by decide⟩

theorem witness_DebuggersHaltStepFeedAndTalk_7 : ∃ (s : State) (c : Core) (a : Word), (s.coreFree c.val = true) :=
  ⟨st [(9, DBG_C_CTRL_ebreak_halt 0, 1), (9, CORE_STAT_state 0, 1)], 12, 0x10000014, by decide⟩

theorem witness_DebuggersHaltStepFeedAndTalk_8 : ∃ (s : State) (c : Core) (w : Word), (s.coreRuns c.val = true ∨ s.coreHalted c.val = true) :=
  ⟨st [(9, DBG_C_TSTAT_dtx_full 0, 1), (9, CORE_STAT_state 0, 1)], 12, 7, by decide⟩

theorem witness_DebuggersHaltStepFeedAndTalk_9 : ∃ (s : State) (c : Core), (s.coreRuns c.val = true ∨ s.coreHalted c.val = true) :=
  ⟨(st [(9, DBG_C_TSTAT_drx_full 0, 1), (9, CORE_STAT_state 0, 2)]).wr 9 (DBG_C_DRX 0) 77, 12, by decide⟩

theorem witness_DebuggersHaltStepFeedAndTalk_10 : ∃ (s : State) (c : Core) (w : Word), (s.live (coreDie c.val) = true) :=
  ⟨st [(9, DBG_C_TSTAT_drx_full 0, 1)], 12, 7, by decide⟩

theorem witness_DebuggersHaltStepFeedAndTalk_11 : ∃ (s : State) (c : Core) (v : Word), (s.live (coreDie c.val) = true) :=
  ⟨st [(9, DBG_C_TSTAT_dtx_full 0, 1), (9, DBG_C_TSTAT_dtx_lost 0, 1), (9, DBG_C_TSTAT_drx_full 0, 1)], 12, 0xFFFFFFFF, by decide⟩

theorem witness_DebuggersHaltStepFeedAndTalk_12 : ∃ (s : State) (i : Init) (c : Core) (k : Nat) (w : Word), (s.live (coreDie c.val) = true) ∧ (c ≠ 0 ∧ s.coreRight c.val = true) ∧ (k = s.kf c.val DBG_C_MADDR_word ∧ k < 0x4000) ∧ (s.kf c.val DBG_C_MADDR_inc = 0 ∧ s.kf c.val DBG_C_MADDR_isram = 1) :=
  ⟨st [(0, DBG_RIGHTS_skipper, 1), (9, DBG_C_MADDR_word 0, 0x3FFF), (9, DBG_C_MADDR_isram 0, 1), (9, CORE_STAT_loaded 0, 1)], 0x018, 12, 0x3FFF, 7, by decide⟩

theorem witness_SelfTestRunsInTurnAndResets_1 : ∃ (s : State) (mask : BitVec 16) (set last : Byte) (d : Die), (s.live 0 = true) :=
  ⟨st [(0, BIST_D_STAT_fails 9, 3)], 0x3FE, 6, 0, 9, by decide⟩

theorem witness_SelfTestRunsInTurnAndResets_2 : ∃ (s : State) (i : Init), (s.live 0 = true) ∧ (s.lifeCycle ≠ 0 ∨ isDebugMaster i = false) :=
  ⟨base, 0x001, by decide⟩

theorem witness_SelfTestRunsInTurnAndResets_3 : ∃ (s : State), (s.live 0 = true) ∧ (s.lifeCycle = 0) ∧ (s.bistDetail (s.f 0 BIST_REQ_mask) (s.f 0 BIST_REQ_set) 0 = 0) :=
  ⟨st [(0, BIST_REQ_mask, 0x201), (0, BIST_REQ_set, 4)], by decide⟩

theorem witness_SelfTestRunsInTurnAndResets_4 : ∃ (s : State) (d : Die), (s.live 0 = true) :=
  ⟨st [(0, BIST_STAT_state, 1), (0, BIST_STAT_queued, 0x200), (0, BIST_REQ_set, 6)], 9, by decide⟩

theorem witness_SelfTestRunsInTurnAndResets_5a : ∃ (s : State) (d : Die) (r : BistOut) (bad : Nat), (nbit (s.f 0 BIST_STAT_running) d.val = true) ∧ (s.f 0 BIST_STAT_state = 1) ∧ (bad = r.fails.toNat &&& setMask (s.f 0 BIST_REQ_set)) :=
  ⟨st [(0, BIST_STAT_state, 1), (0, BIST_STAT_running, 0x200), (0, BIST_REQ_set, 3)], 9, { fails := 6, memFails := 70000, memCol := 3 }, 2, by decide⟩

theorem witness_SelfTestRunsInTurnAndResets_5b : ∃ (s : State) (d : Die) (r : BistOut) (bad : Nat), (nbit (s.f 0 BIST_STAT_running) d.val = true) ∧ (s.f 0 BIST_STAT_state = 1) ∧ (bad = r.fails.toNat &&& setMask (s.f 0 BIST_REQ_set)) :=
  ⟨st [(0, BIST_STAT_state, 1), (0, BIST_STAT_running, 0x1), (0, BIST_REQ_set, 4)], 0, { fails := 3 }, 0, by decide⟩

theorem witness_SelfTestRunsInTurnAndResets_6 : ∃ (s : State) (d : Die), (s.live 0 = true) ∧ (s.f 0 BIST_STAT_state = 1 ∧ s.f 0 BIST_STAT_running = 2 ^ d.val ∧ s.f 0 BIST_STAT_queued = 0) :=
  ⟨st [(0, BIST_STAT_state, 1), (0, BIST_STAT_running, 0x200), (0, BIST_REQ_set, 3)], 9, by decide⟩

end Sys2Proof.Tests
end

section
/-! SUPPORT. The scope statements: the register file, the state at reset, unoccupied offsets, the resets of a die, and the begin of a start. -/

namespace Sys2Proof.Machine

/-! ### Around a command -/

/-- A command whose effect is f answers the state that f leaves, with the queue, the time and the fuses as they were. -/
theorem exec_answers {c : Instr} {f : State → State} {s : State} {P : State → Prop} (hc : exec c s = run f s)
    (hP : P (s.ended (f s.fresh))) : ∃ t, exec c s = .next t ∧ P t := ⟨_, hc, hP⟩

/-- A command ends with the registers that its effect leaves. -/
@[simp] theorem State.ended_rd (s u : State) (d r : Nat) : (s.ended u).rd d r = u.rd d r := State.rd_congr (State.ended_regs s u) d r

/-- A command ends with the fields that its effect leaves. -/
@[simp] theorem State.ended_f (s u : State) (d : Nat) (x : Fld) : (s.ended u).f d x = u.f d x := State.f_congr (State.ended_regs s u) d x

/-- A command ends with the dies out of reset that its effect leaves. -/
@[simp] theorem State.ended_live (s u : State) (d : Nat) : (s.ended u).live d = u.live d := by simp [State.live]

/-- A command begins with the registers as they are. -/
@[simp] theorem State.fresh_rd (s : State) (d r : Nat) : s.fresh.rd d r = s.rd d r := State.rd_congr (State.fresh_regs s) d r

/-- A command begins with the fields as they are. -/
@[simp] theorem State.fresh_f (s : State) (d : Nat) (x : Fld) : s.fresh.f d x = s.f d x := State.f_congr (State.fresh_regs s) d x

/-! ### The register file -/

/-- A saturating counter holds the sum, or all ones where that is less. -/
theorem State.f_inc_same (s : State) (d : Nat) (x : Fld) (n : Nat) (h : x.lo + x.len ≤ 32) :
    (s.inc d x n).f d x = min (s.f d x + n) (2 ^ x.len - 1) := by
  have hpos : 0 < 2 ^ x.len := Nat.two_pow_pos _
  exact State.f_setF_fits s d x _ h (by omega)

/-- An increment never lowers a counter. -/
theorem State.f_le_f_inc (s : State) (d : Nat) (x : Fld) (n : Nat) (h : x.lo + x.len ≤ 32) : s.f d x ≤ (s.inc d x n).f d x := by
  rw [State.f_inc_same s d x n h]
  have := State.f_lt s d x
  omega

/-- The die of a register's key. -/
theorem regKey_die {d r : Nat} (h : r < 0x1000000) : regKey d r / 0x1000000 = d := by unfold regKey; omega

/-- The place of a register's key. -/
theorem regKey_place {d r : Nat} (h : r < 0x1000000) : regKey d r % 0x1000000 = r := by unfold regKey; omega

/-- The reset value of a register, by its key. -/
def keyReset (k : Nat) : Word := resetVal (k / 0x1000000) (k % 0x1000000)

/-- A register's key gives the register's reset value. -/
theorem keyReset_regKey {d r : Nat} (h : r < 0x1000000) : keyReset (regKey d r) = resetVal d r := by
  unfold keyReset; rw [regKey_die h, regKey_place h]

/-- A store of a register keeps the register file canonical. -/
theorem State.wr_keeps_wfD (s : State) (d r : Nat) (v : Word) (hr : r < 0x1000000) (h : KMap.wfD s.regs keyReset = true) :
    KMap.wfD (s.wr d r v).regs keyReset = true := by
  rw [State.wr_regs, fileWr, ← keyReset_regKey hr]
  exact KMap.wfD_putD s.regs (regKey d r) v keyReset h

/-- Settles O6: the laws of a store (read-after-write, frame, canonical form) and of a saturating count. -/
theorem registerFileReadsBack : Obligations.RegisterFileReadsBack := by
  unfold Obligations.RegisterFileReadsBack
  refine ⟨fun s d x v h => ?_, fun s d r v hr h => State.wr_keeps_wfD s d r v hr h, fun s d x n h => ?_⟩
  all_goals have hfit : x.lo + x.len ≤ 32 := by simp only [placed, Bool.and_eq_true, decide_eq_true_eq] at h; exact h.2
  · exact ⟨State.f_setF_same s d x v hfit, State.onlyFields_setF (State.onlyFields_refl s _) d x v h (by simp),
      State.setF_rest s d x v, State.setF_out s d x v⟩
  · exact ⟨State.f_le_f_inc s d x n hfit, State.f_inc_same s d x n hfit⟩

/-! ### Stores of several fields -/

/-- A field that shares no bit with any of those stored reads as before. -/
theorem State.f_setFs_clear (s : State) (d : Nat) (l : List (Fld × Nat)) {d' : Nat} {y : Fld} (hy : placed (d', y) = true)
    (hl : ∀ e ∈ l, placed (d, e.1) = true ∧ apart (d, e.1) (d', y) = true) : (s.setFs d l).f d' y = s.f d' y := by
  induction l generalizing s with
  | nil => rw [State.setFs_nil]
  | cons e l ih =>
    obtain ⟨hplaced, hapart⟩ := hl e (by simp)
    rw [State.setFs_cons, ih _ (fun x hx => hl x (by simp [hx])), State.f_setF_clear s d d' e.1 y e.2 hplaced hy hapart]

/-- A field that is stored, and shares no bit with those stored after it, reads back cut to its length. -/
theorem State.f_setFs_cons (s : State) (d : Nat) (x : Fld) (v : Nat) (l : List (Fld × Nat)) (hx : placed (d, x) = true)
    (hl : ∀ e ∈ l, placed (d, e.1) = true ∧ apart (d, e.1) (d, x) = true) :
    (s.setFs d ((x, v) :: l)).f d x = v % 2 ^ x.len := by
  rw [State.setFs_cons, State.f_setFs_clear _ d l hx hl]
  simp only [placed, Bool.and_eq_true, decide_eq_true_eq] at hx
  exact State.f_setF_same s d x v hx.2

/-- A register none of whose fields is stored reads as before. -/
theorem State.rd_setFs_ne (s : State) (d : Nat) (l : List (Fld × Nat)) {r : Nat} (hl : ∀ e ∈ l, r ≠ e.1.reg) :
    (s.setFs d l).rd d r = s.rd d r := by
  induction l generalizing s with
  | nil => rw [State.setFs_nil]
  | cons e l ih =>
    have hne : regKey d r ≠ regKey d e.1.reg := by
      have := hl e (by simp)
      unfold regKey; omega
    rw [State.setFs_cons, ih _ (fun x hx => hl x (by simp [hx])), State.rd_setF_ne s d d e.1 r e.2 hne]

/-! ### Reset -/

/-- At reset every register reads its reset value. -/
theorem State.rd_reset (d r : Nat) : State.reset.rd d r = resetVal d r := KMap.lookD_nil _ _

/-- At reset no die is out of reset. -/
theorem State.live_reset (d : Nat) : State.reset.live d = false := KMap.look_nil d

/-- Settles O4: the empty tables read as their defaults, and the manufactured P and Q are legal. -/
theorem resetTimeIsSound : Obligations.ResetTimeIsSound := by
  unfold Obligations.ResetTimeIsSound
  exact ⟨by decide, rfl, rfl, rfl, State.live_reset, State.rd_reset⟩

/-! ### Unoccupied offsets (R8) -/

/-- Every word of the access registers of the DEBUG page is a register. -/
theorem accessReg_occupied : ∀ k < 11, (regRow 0 (0x0A0000 + 4 * k)).isSome = true := by decide

/-- An access that the page takes is at a word of the page. -/
theorem ctlStatus_zero_aligned {d r bytes : Nat} (h : ctlStatus d r bytes = 0) : r % 4 = 0 := by
  unfold ctlStatus at h
  split at h
  · omega
  · split at h <;> omega

/-- An aligned place that no register occupies is no access register. -/
theorem isAccessReg_of_unoccupied {d r : Nat} (ha : r % 4 = 0) (hn : (regRow d r).isNone = true) : isAccessReg d r = false := by
  by_contra hc
  simp only [isAccessReg, Bool.not_eq_false, Bool.and_eq_true, decide_eq_true_eq] at hc
  obtain ⟨⟨rfl, hpage⟩, hoff⟩ := hc
  have hocc := accessReg_occupied (r % 0x10000 / 4) (by omega)
  have hr : 0x0A0000 + 4 * (r % 0x10000 / 4) = r := by omega
  rw [hr, Option.isNone_iff_eq_none.mp hn] at hocc
  exact absurd hocc (by decide)

/-- A write to a place that no register occupies has no effect (R8). -/
theorem regWrite_unoccupied (a : Acc) {d r : Nat} (v hw : Word) (s : State) (hacc : isAccessReg d r = false)
    (hsh : sharedWord d r = none) (hn : (regRow d r).isNone = true) : regWrite a d r v hw s = some s := by
  simp [regWrite, ctlWrite, hacc, hsh, hn]

/-- A read of a place that no register occupies gives 0 (R8). -/
theorem regRead_unoccupied (a : Acc) (peek : Bool) {d r : Nat} (hw : Word) (s : State) (hacc : isAccessReg d r = false)
    (hsh : sharedWord d r = none) (hn : (regRow d r).isNone = true) : regRead a peek d r hw s = (s, 0, 0) := by
  simp [regRead, ctlRead, hacc, hsh, hn]

/-- A command that only puts something out changes nothing. -/
theorem State.ended_fresh_emit (s : State) (o : Out) : s.ended (s.fresh.emit o) = s.fresh.emit o := by
  simp only [State.ended, State.fresh, State.emit]

/-- A command that only puts two things out changes nothing. -/
theorem State.ended_fresh_emit_emit (s : State) (o o' : Out) : s.ended ((s.fresh.emit o).emit o') = (s.fresh.emit o).emit o' := by
  simp only [State.ended, State.fresh, State.emit]

/-- Settles O18: such a place is no access register either, so the access falls through to R8's answer. -/
theorem unoccupiedOffsetsReadZero : Obligations.UnoccupiedOffsetsReadZero := by
  unfold Obligations.UnoccupiedOffsetsReadZero
  intro s d a hlive hst hn hsh
  have hacc := isAccessReg_of_unoccupied (ctlStatus_zero_aligned hst) hn
  have hlive' : s.fresh.live d.val = true := hlive
  have hwrite : registerWrite d.val a s.fresh = s.fresh.emit (.access 0) := by
    simp [registerWrite, hlive', hst, regWrite_unoccupied _ _ _ _ hacc hsh hn]
  have hread : registerRead d.val a s.fresh = (s.fresh.emit (.access 0)).emit (.value 0) := by
    simp [registerRead, hlive', hst, regRead_unoccupied _ _ _ _ hacc hsh hn]
  refine ⟨s.fresh.emit (.access 0), ?_, rfl, ?_⟩
  · rw [exec_registerWrite, run, hwrite, State.ended_fresh_emit]
  · rw [exec_readClearRegister, run, hread, State.ended_fresh_emit_emit]

/-! ### The fabric of a die through a reset -/

/-- The fabric of the device: loads and engines, CMBs, memories. -/
def State.fabric (s : State) : FabSt × CmbSt × MemSt := (s.fab, s.cmb, s.mem)

/-- Die d holds no CMB record and no memory record, and its engine accepts no frame. -/
def State.fabricEmpty (s : State) (d : Nat) : Prop :=
  KMap.look s.cmb.fifo d = [] ∧ KMap.look s.mem.fifo d = [] ∧ KMap.look s.fab.engReady d = false

/-- The fabric decides it. -/
theorem State.fabricEmpty_congr {s t : State} {d : Nat} (h : t.fabric = s.fabric) (hs : s.fabricEmpty d) : t.fabricEmpty d := by
  simp only [State.fabric, Prod.mk.injEq] at h
  obtain ⟨hfab, hcmb, hmem⟩ := h
  simpa only [State.fabricEmpty, hfab, hcmb, hmem] using hs

/-- The reset of a die's fabric empties it (R99, R146, R166). -/
theorem resetFabric_fabricEmpty (d : Nat) (s : State) : (resetFabric d s).fabricEmpty d := by
  simp [State.fabricEmpty, resetFabric]

/-- A store of a field leaves the fabric. -/
@[simp] theorem State.setF_fabric (s : State) (d : Nat) (x : Fld) (v : Nat) : (s.setF d x v).fabric = s.fabric := by
  simp [State.fabric]

/-- Stores of several fields leave the fabric. -/
@[simp] theorem State.setFs_fabric (s : State) (d : Nat) (l : List (Fld × Nat)) : (s.setFs d l).fabric = s.fabric := by
  simp [State.fabric]

/-- A meter that loses its clock leaves the fabric. -/
@[simp] theorem meterLost_fabric (d : Nat) (s : State) : (meterLost d s).fabric = s.fabric := rfl

/-- A swap that no longer waits for a die leaves the fabric. -/
@[simp] theorem resetSwap_fabric (d : Nat) (s : State) : (resetSwap d s).fabric = s.fabric := by
  unfold resetSwap swapCheckEnd
  split
  · dsimp only; split
    · rw [State.setF_fabric, State.setF_fabric]; rfl
    · rfl
  · rfl

/-- The reset of a die's mesh leaves the fabric. -/
@[simp] theorem resetMesh_fabric (d : Nat) (s : State) : (resetMesh d s).fabric = s.fabric := rfl

/-- The reset of a die's Corug ports leaves the fabric. -/
@[simp] theorem resetPorts_fabric (d : Nat) (s : State) : (resetPorts d s).fabric = s.fabric := rfl

/-- The reset of a die's cores leaves the fabric. -/
@[simp] theorem resetCores_fabric (d : Nat) (s : State) : (resetCores d s).fabric = s.fabric := by
  unfold resetCores
  apply State.each_keeps (fun t => t.fabric = s.fabric)
  · intro t c _ h; exact h
  · split
    · split
      · rw [State.setFs_fabric]; rfl
      · rfl
    · rfl

/-- A fabric die that is reset holds nothing of its fabric (R99, R146, R166). -/
theorem dieReset_fabricEmpty {d : Nat} (hd : 2 ≤ d) (s : State) : (dieReset d s).fabricEmpty d := by
  have h0 : d ≠ 0 := by omega
  have h1 : d ≠ 1 := by omega
  have hfab : (dieReset d s).fabric = (resetFabric d s).fabric := by
    unfold dieReset
    rw [if_neg h0, if_neg h1]
    calc _ = (resetCores d (resetPorts d (resetMesh d (resetSwap d (meterLost d (resetFabric d s)))))).fabric := rfl
      _ = _ := by simp
  exact State.fabricEmpty_congr hfab (resetFabric_fabricEmpty d s)

/-- A die that is reset is in reset (R497). -/
theorem dieReset_live {d : Nat} (hd : d ≠ 0) (s : State) : (dieReset d s).live d = false := by
  unfold dieReset
  simp [hd, State.live]

/-! ### The supply through a release -/

/-- An end-of-stream marker leaves the supply. -/
@[simp] theorem presentEos_pwr (d m ch : Nat) (s : State) : (presentEos d m ch s).pwr = s.pwr := rfl

/-- The state of a channel leaves the supply. -/
@[simp] theorem setChanState_pwr (d m ch rx st : Nat) (s : State) : (setChanState d m ch rx st s).pwr = s.pwr := by
  simp [setChanState]

/-- A change that keeps the supply keeps it where it is made or left out. -/
theorem State.when_pwr (s : State) (c : Bool) {f : State → State} (hf : (f s).pwr = s.pwr) : (s.when c f).pwr = s.pwr := by
  cases c
  · rfl
  · exact hf

/-- Changes that keep the supply one by one keep it over a list. -/
theorem State.each_pwr {α : Type} (s : State) (l : List α) {f : State → α → State} (hf : ∀ t a, (f t a).pwr = t.pwr) :
    (s.each l f).pwr = s.pwr :=
  State.each_keeps (fun t => t.pwr = s.pwr) f l (fun t a _ h => (hf t a).trans h) s rfl

/-- The ports of an edge leave the supply. -/
@[simp] theorem setPorts_pwr (d e : Nat) (on : Bool) (s : State) : (setPorts d e on s).pwr = s.pwr :=
  State.each_pwr s _ fun _ _ => rfl

/-- The channels of an edge that is fenced leave the supply. -/
@[simp] theorem fenceChannels_pwr (d e : Nat) (s : State) : (fenceChannels d e s).pwr = s.pwr := by
  refine State.each_pwr s _ fun t k => ?_
  dsimp only
  split
  · rfl
  · refine State.each_pwr t _ fun u ch => ?_
    rw [setChanState_pwr, setChanState_pwr]
    exact State.when_pwr u _ (presentEos_pwr d _ ch u)

/-- The edges of a die that leaves reset keep the supply. -/
@[simp] theorem edgesAfterReset_pwr (d : Nat) (s : State) : (edgesAfterReset d s).pwr = s.pwr := by
  refine State.each_pwr _ _ fun t e => ?_
  dsimp only
  split
  · rfl
  · simp [State.when_pwr]

/-- A spare shift or row that is assigned keeps the supply. -/
theorem spareAssign_pwr (b : BitVec 128) (s : State) (hb : spareByte b 0 ≤ 3) : (spareAssign b true s).pwr = s.pwr := by
  unfold spareAssign
  dsimp only
  split
  · simp [activateLogic, poolTaken]
  · simp [activateCmb, poolTaken]
  · simp [State.setBlk]
  · omega
  · omega
  · rfl

/-- A lane that takes its spare leaves the supply. -/
@[simp] theorem laneSpare_pwr (d l : Nat) (s : State) : (laneSpare d l s).pwr = s.pwr := by simp [laneSpare]

/-- The wear entries that apply again keep the supply. -/
@[simp] theorem wearReapply_pwr (d : Nat) (s : State) : (wearReapply d s).pwr = s.pwr := by
  refine State.each_pwr s _ fun t b => ?_
  dsimp only
  split
  · rfl
  · split
    · next hb =>
      split
      · exact spareAssign_pwr b t hb
      · rfl
    · split
      · rw [apply_ite State.pwr, skipWire_pwr, ite_self]
      · rw [apply_ite State.pwr, laneSpare_pwr, ite_self]

/-- A die that leaves reset changes, of the supply, only that the die is out of reset (R115). -/
theorem dieRelease_pwr {d : Nat} {s : State} (hd : d ≠ 0) (hl : s.live d = false) (h0 : s.live 0 = true)
    (hh : KMap.look s.pwr.held d = false) : (dieRelease d s).pwr = { s.pwr with live := KMap.put s.pwr.live d true } := by
  simp [dieRelease, hd, hl, h0, hh]

/-- A die that leaves reset is out of reset. -/
theorem dieRelease_live {d : Nat} {s : State} (hd : d ≠ 0) (hl : s.live d = false) (h0 : s.live 0 = true)
    (hh : KMap.look s.pwr.held d = false) : (dieRelease d s).live d = true := by
  simp [State.live, dieRelease_pwr hd hl h0 hh]

/-- The rail of die d no longer holds it in reset. -/
def State.unheld (s : State) (d : Nat) : State := { s with pwr := { s.pwr with held := KMap.put s.pwr.held d false } }

/-- A die whose rail no longer holds it is not held. -/
theorem State.unheld_held (s : State) (d : Nat) : KMap.look (s.unheld d).pwr.held d = false := by
  simp [State.unheld]

/-- The core rail of a held die recovers: the hold ends, and the die leaves reset (R541). -/
theorem railRecover_released {d : Nat} {s : State} (hd : d ≠ 0) (hl : s.live d = false) (h0 : s.live 0 = true)
    (hh : KMap.look s.pwr.held d = true) :
    (railRecover d s).live d = true ∧ KMap.look (railRecover d s).pwr.held d = false := by
  have hrel : railRecover d s = dieRelease d (s.unheld d) := if_pos hh
  have hfree := s.unheld_held d
  rw [hrel]
  refine ⟨dieRelease_live (s := s.unheld d) hd hl h0 hfree, ?_⟩
  rw [dieRelease_pwr (s := s.unheld d) hd hl h0 hfree]
  exact hfree

/-- Settles O10: a die's reset ends with the die in reset and its fabric empty, and a release keeps all of the supply but the die's reset. -/
theorem dieResetsAndReleases : Obligations.DieResetsAndReleases := by
  unfold Obligations.DieResetsAndReleases
  refine ⟨fun s d hd hl => ?_, fun s d hd hl h0 hh => ?_, fun s d hd hl h0 hh => ?_⟩
  all_goals have hd' : d.val ≠ 0 := fun h => hd (Fin.ext h)
  · have hcommit : dieResetCommit d.val s.fresh = dieReset d.val (dieNotices d.val 1 1 s.fresh) := by
      have hl' : s.fresh.live d.val = true := hl
      simp [dieResetCommit, hd', hl']
    refine exec_answers (exec_dieReset d s) ?_
    simp only [State.ended_live, State.ended_cmb, State.ended_mem, State.ended_fab, hcommit]
    exact ⟨dieReset_live hd' _, fun h2 => dieReset_fabricEmpty h2 _⟩
  · refine exec_answers (exec_dieResetRelease d s) ?_
    rw [State.ended_live]
    exact dieRelease_live (s := s.fresh) hd' hl h0 hh
  · refine exec_answers (exec_coreRailRecover d s) ?_
    rw [State.ended_live, State.ended_pwr]
    exact railRecover_released (s := s.fresh) hd' hl h0 hh

/-! ### The cold state (R541, R549) -/

/-- The supply after a power-on reset: the fuses that apply leave it. -/
theorem powerOnReset_pwr (s : State) : (powerOnReset s).pwr = (coldState [] s).pwr := fusedAll_pwr _

/-- A power-on reset leaves no die out of reset (R549). -/
theorem powerOnReset_live (s : State) (d : Nat) : (powerOnReset s).live d = false := by
  rw [State.live, powerOnReset_pwr]
  rfl

/-- A power-on reset leaves whether the rails are good. -/
@[simp] theorem powerOnReset_railsGood (s : State) : (powerOnReset s).pwr.railsGood = s.pwr.railsGood := by
  rw [powerOnReset_pwr]
  rfl

/-- A power-on reset leaves whether SafeOsc is ready. -/
@[simp] theorem powerOnReset_oscReady (s : State) : (powerOnReset s).pwr.oscReady = s.pwr.oscReady := by
  rw [powerOnReset_pwr]
  rfl

/-- A power-on reset leaves a reset that a double clock fault holds. -/
@[simp] theorem powerOnReset_clkHeld (s : State) : (powerOnReset s).pwr.clkHeld = s.pwr.clkHeld := by
  rw [powerOnReset_pwr]
  rfl

/-- A power-on reset leaves the dies that are hot. -/
@[simp] theorem powerOnReset_hot (s : State) : (powerOnReset s).pwr.hot = s.pwr.hot := by
  rw [powerOnReset_pwr]
  rfl

/-- A key that a filter leaves out reads as the default. -/
theorem lookD_filter_out {α : Type} (m : KMap α) (p : Nat × α → Bool) (k : Nat) (d : α) (hp : ∀ v, p (k, v) = false) :
    KMap.lookD (m.filter p : KMap α) k d = d := by
  induction m with
  | nil => rfl
  | cons e t ih =>
    obtain ⟨a, v⟩ := e
    by_cases ha : a = k
    · subst ha; simpa [List.filter_cons, hp v] using ih
    · by_cases hv : p (a, v) = true
      · simpa [List.filter_cons, hv, KMap.lookD, ha] using ih
      · simpa [List.filter_cons, hv] using ih

/-- What a loss of VAUX keeps of the register file: the entries of registers without sticky bits. -/
def unsticky (e : Nat × Word) : Bool :=
  match regRow (e.1 / 0x1000000) (e.1 % 0x1000000) with
  | some x => x.sticky == 0
  | none => true

/-- A loss of VAUX keeps just those. -/
theorem clearSticky_eq (m : KMap Word) : clearSticky m = m.filter unsticky := rfl

/-- An entry of a register with sticky bits is not kept. -/
theorem unsticky_of_sticky {k : Nat} {x : RegRow} (v : Word) (hx : regRow (k / 0x1000000) (k % 0x1000000) = some x) (hs : x.sticky ≠ 0) :
    unsticky (k, v) = false := by
  simp only [unsticky, hx]
  simpa using hs

/-- After a loss of VAUX a register with sticky bits reads its reset value (R541). -/
theorem vauxLoss_rd_sticky (s : State) {d r : Nat} {x : RegRow} (hr : r < 0x1000000) (hx : regRow d r = some x) (hs : x.sticky ≠ 0) :
    (vauxLoss s).rd d r = resetVal d r := by
  unfold State.rd vauxLoss
  dsimp only
  rw [clearSticky_eq]
  have hrow : regRow (regKey d r / 0x1000000) (regKey d r % 0x1000000) = some x := by rw [regKey_die hr, regKey_place hr, hx]
  exact lookD_filter_out _ _ _ _ fun v => unsticky_of_sticky v hrow hs

/-- After a loss of VAUX the rails are not good (R541). -/
theorem vauxLoss_railsGood (s : State) : (vauxLoss s).pwr.railsGood = false := rfl

/-! ### A start begins (R438) -/

/-- A start begins at S0: it runs. -/
theorem beginStart_running (s : State) : (beginStart s).f 0 JOURNAL_STAT_running = 1 := by
  rw [beginStart, State.f_setFs_cons _ _ _ _ _ (by decide) (by decide)]
  rfl

/-- A start begins at S0: it shows step 0. -/
theorem beginStart_step (s : State) : (beginStart s).f 0 JOURNAL_STAT_step = 0 := by
  simp only [beginStart, State.setFs_cons, State.setFs_nil]
  exact State.f_setF_fits _ 0 _ 0 (by decide) (by decide)

/-- A start begins at S0. -/
theorem beginStart_atStep (s : State) : (beginStart s).atStep 0 = true := by
  simp [State.atStep, State.on, beginStart_running, beginStart_step]

/-- The begin of a start leaves the supply. -/
@[simp] theorem beginStart_pwr (s : State) : (beginStart s).pwr = s.pwr := by simp [beginStart]

/-! ### The end of S0 (R438, R460) -/

/-- The dies out of reset once die d has left the asynchronous reset, unless its rail holds it. -/
def dieOut (held m : KMap Bool) (d : Nat) : KMap Bool := if KMap.look held d then m else KMap.put m d true

/-- A die that no rail holds is out of reset once its turn has come, and stays so. -/
theorem look_foldl_dieOut (held : KMap Bool) (l : List Nat) (m : KMap Bool) (d : Nat)
    (h : (d ∈ l ∧ KMap.look held d = false) ∨ KMap.look m d = true) : KMap.look (l.foldl (dieOut held) m) d = true := by
  induction l generalizing m with
  | nil => simpa using h
  | cons a t ih =>
    refine ih _ ?_
    by_cases had : d = a
    · subst had
      right
      by_cases hh : KMap.look held d = true
      · simpa [dieOut, hh] using h
      · simp [dieOut, hh]
    · have hkeep : KMap.look (dieOut held m a) d = KMap.look m d := by
        unfold dieOut
        split
        · rfl
        · exact KMap.look_put_ne m a d true had
      rw [hkeep]
      simpa [had] using h

/-- The dies leave the asynchronous reset, and IOS shows SafeOsc and the REFSEL code. -/
def diesLeaveReset (s : State) : State :=
  ({ s with pwr := { s.pwr with
      live := allDies.foldl (dieOut s.pwr.held) [], safe := false, factory := false, faultLow := false } }).setFs 0
    [(CLK_REF_safeosc_ready, 1), (CLK_REF_refsel, s.pwr.refselPin)]

/-- Once S0 is over, every die whose core rail is not low is out of reset (R460). -/
theorem diesLeaveReset_live (s : State) {d : Nat} (hd : d < 10) (hh : KMap.look s.pwr.held d = false) :
    (diesLeaveReset s).live d = true := by
  have hmem : d ∈ allDies := by unfold allDies; simp; omega
  simpa [diesLeaveReset, State.live] using look_foldl_dieOut s.pwr.held allDies [] d (Or.inl ⟨hmem, hh⟩)

/-- A device that leaves S0 is not in the safe state. -/
theorem diesLeaveReset_safe (s : State) : (diesLeaveReset s).pwr.safe = false := by simp [diesLeaveReset]

/-- Whether the device is cool enough does not change as the dies leave reset. -/
theorem diesLeaveReset_coolEnough (s : State) : (diesLeaveReset s).coolEnough = s.coolEnough := by
  have hrd : (diesLeaveReset s).rd 0 THERM_TRIPLOG = s.rd 0 THERM_TRIPLOG := by
    unfold diesLeaveReset
    rw [State.rd_setFs_ne _ _ _ (by simp)]
    exact State.rd_congr rfl _ _
  rw [State.coolEnough, State.coolEnough, hrd]
  simp [diesLeaveReset]

/-- S0 ends in a device that is cool: the dies leave reset, the record of S0 is made, and S1 begins. -/
theorem endS0_cool {s : State} (hstep : s.atStep 0 = true) (hrails : s.pwr.railsGood = true) (hosc : s.pwr.oscReady = true)
    (hheld : s.pwr.clkHeld = false) (hcool : s.coolEnough = true) :
    endS0 s = beginStep 1 (record 0 0 0 0 (diesLeaveReset s)) := by
  have hgo : (s.atStep 0 && s.pwr.railsGood && s.pwr.oscReady && !s.pwr.clkHeld) = true := by simp [hstep, hrails, hosc, hheld]
  calc endS0 s = if (diesLeaveReset s).coolEnough then beginStep 1 (record 0 0 0 0 (diesLeaveReset s)) else diesLeaveReset s := by
        unfold endS0
        rw [if_pos hgo]
        rfl
    _ = _ := by rw [diesLeaveReset_coolEnough, if_pos hcool]

/-- The begin of a step leaves the supply. -/
@[simp] theorem beginStep_pwr (k : Nat) (s : State) : (beginStep k s).pwr = s.pwr := by simp [beginStep]

/-- The begin of a step leaves the journal. -/
@[simp] theorem beginStep_jour (k : Nat) (s : State) : (beginStep k s).jour = s.jour := by simp [beginStep]

/-- The step that begins is shown. -/
theorem beginStep_step (s : State) {k : Nat} (hk : k < 16) : (beginStep k s).f 0 JOURNAL_STAT_step = k :=
  State.f_setF_fits _ 0 _ k (by decide) hk

/-- The begin of a step leaves the fields apart from the step's. -/
theorem beginStep_clear (k : Nat) (s : State) (y : Fld) (hy : placed (0, y) = true)
    (ha : apart (0, JOURNAL_STAT_step) (0, y) = true) : (beginStep k s).f 0 y = s.f 0 y :=
  (State.f_setF_clear _ 0 0 JOURNAL_STAT_step y k (by decide) hy ha).trans (State.f_congr rfl 0 y)

/-- A record that is made leaves the supply. -/
@[simp] theorem record_pwr (k o v d : Nat) (s : State) : (record k o v d s).pwr = s.pwr := by
  unfold record pushRecord
  refine (State.when_pwr _ _ (State.evt_pwr _ _ _)).trans ?_
  split <;> rfl

/-- A record of a step that did not fail leaves the register file. -/
theorem record_regs (k v d : Nat) (s : State) : (record k 0 v d s).regs = s.regs := by
  unfold record pushRecord
  split <;> rfl

/-- A record of a step that did not fail enters the buffer of a journal that is not frozen (R456). -/
theorem record_buf (k v d : Nat) (s : State) (hf : s.frozen = false) :
    (record k 0 v d s).jour.buf = s.jour.buf ++ [s.stepRec k 0 v d] := by
  simp [record, pushRecord, hf]

/-! ### POWER_GOOD, SAFEOSC_READY, VAUX_LOSS, SYSRST_ASSERT -/

/-- What POWER_GOOD leaves (R529, R540). -/
theorem powerGood_begins (refsel : Nat) (s : State) :
    (powerGood refsel s).pwr.railsGood = true ∧ (powerGood refsel s).pwr.oscReady = false ∧
    (powerGood refsel s).pwr.refselPin = refsel ∧ (powerGood refsel s).f 0 JOURNAL_STAT_running = 1 ∧
    (powerGood refsel s).f 0 JOURNAL_STAT_step = 0 := by
  unfold powerGood
  exact ⟨by rw [beginStart_pwr], by rw [beginStart_pwr], by rw [beginStart_pwr], beginStart_running _, beginStart_step _⟩

/-- The record of S0 enters the buffer as the dies leave reset. -/
theorem diesLeaveReset_record (s : State) (hf : s.frozen = false) :
    ∃ r : JRec, r.step = 0 ∧ r.kind = 0 ∧ r.outcome = 0 ∧ (record 0 0 0 0 (diesLeaveReset s)).jour.buf = s.jour.buf ++ [r] := by
  have hf' : (diesLeaveReset s).frozen = false := by
    rw [State.frozen, State.on, diesLeaveReset, State.f_setFs_clear _ _ _ (by decide) (by simp [CLK_REF, placed, apart])]
    exact hf
  refine ⟨(diesLeaveReset s).stepRec 0 0 0 0, rfl, rfl, rfl, ?_⟩
  rw [record_buf _ _ _ _ hf']
  simp [diesLeaveReset]

/-- SafeOsc is shown ready as the dies leave reset. -/
theorem diesLeaveReset_safeosc (s : State) : (diesLeaveReset s).f 0 CLK_REF_safeosc_ready = 1 := by
  rw [diesLeaveReset, State.f_setFs_cons _ _ _ _ _ (by decide) (by simp [CLK_REF, placed, apart])]
  rfl

/-- The REFSEL code is shown as the dies leave reset. -/
theorem diesLeaveReset_refsel (s : State) : (diesLeaveReset s).f 0 CLK_REF_refsel = s.pwr.refselPin % 8 := by
  rw [diesLeaveReset, State.setFs_cons, State.f_setFs_cons _ _ _ _ _ (by decide) (by simp)]
  rfl

/-- What the end of S0 leaves in a device that is cool (R438, R460). -/
theorem endS0_ends {s : State} (hstep : s.atStep 0 = true) (hrails : s.pwr.railsGood = true) (hosc : s.pwr.oscReady = true)
    (hheld : s.pwr.clkHeld = false) (hcool : s.coolEnough = true) :
    (endS0 s).pwr = (diesLeaveReset s).pwr ∧ (endS0 s).f 0 JOURNAL_STAT_step = 1 ∧
    (endS0 s).f 0 CLK_REF_safeosc_ready = 1 ∧ (endS0 s).f 0 CLK_REF_refsel = s.pwr.refselPin % 8 ∧
    (endS0 s).jour = (record 0 0 0 0 (diesLeaveReset s)).jour := by
  rw [endS0_cool hstep hrails hosc hheld hcool]
  have hrec (x : Fld) : (record 0 0 0 0 (diesLeaveReset s)).f 0 x = (diesLeaveReset s).f 0 x := State.f_congr (record_regs 0 0 0 _) 0 x
  refine ⟨by rw [beginStep_pwr, record_pwr], beginStep_step _ (by decide), ?_, ?_, beginStep_jour 1 _⟩
  · rw [beginStep_clear _ _ _ (by decide) (by decide), hrec, diesLeaveReset_safeosc]
  · rw [beginStep_clear _ _ _ (by decide) (by decide), hrec, diesLeaveReset_refsel]

/-- SafeOsc is ready. -/
def State.oscOn (s : State) : State := { s with pwr := { s.pwr with oscReady := true } }

/-- What SAFEOSC_READY leaves where it ends S0 (R438, R535). -/
theorem safeoscReady_ends {s : State} (hrails : s.pwr.railsGood = true) (hstep : s.atStep 0 = true) (hheld : s.pwr.clkHeld = false)
    (htrip : s.rd 0 THERM_TRIPLOG = 0) (hf : s.frozen = false) :
    (∀ d < 10, KMap.look s.pwr.held d = false → (safeoscReady s).live d = true) ∧
    (safeoscReady s).f 0 CLK_REF_safeosc_ready = 1 ∧ (safeoscReady s).f 0 CLK_REF_refsel = s.pwr.refselPin % 8 ∧
    (safeoscReady s).f 0 JOURNAL_STAT_step = 1 ∧
    ∃ r : JRec, r.step = 0 ∧ r.kind = 0 ∧ r.outcome = 0 ∧ (safeoscReady s).jour.buf = s.jour.buf ++ [r] := by
  have hrun : safeoscReady s = endS0 s.oscOn := if_pos hrails
  have hcool : s.oscOn.coolEnough = true := by
    have htrip' : s.oscOn.rd 0 THERM_TRIPLOG = 0 := (State.rd_congr rfl _ _).trans htrip
    simp [State.coolEnough, htrip']
  have hstep' : s.oscOn.atStep 0 = true := by
    have hregs : s.oscOn.regs = s.regs := rfl
    rw [State.atStep, State.on_congr hregs, State.f_congr hregs]
    exact hstep
  have hf' : s.oscOn.frozen = false := (State.on_congr rfl _ _).trans hf
  obtain ⟨hpwr, hst, hosc, hrefsel, hjour⟩ := endS0_ends hstep' hrails rfl hheld hcool
  rw [hrun]
  refine ⟨fun d hd hh => ?_, hosc, hrefsel, hst, ?_⟩
  · rw [State.live, hpwr]
    exact diesLeaveReset_live s.oscOn hd hh
  · rw [hjour]
    exact diesLeaveReset_record s.oscOn hf'

/-- What SYSRST# leaves where the supply is good and no die is hot (R549). -/
theorem sysrst_restarts {s : State} (hrails : s.pwr.railsGood = true) (hosc : s.pwr.oscReady = true) (hheld : s.pwr.clkHeld = false)
    (hhot : s.pwr.hot = []) :
    (endS0 (beginStart (powerOnReset s))).pwr.safe = false ∧ (endS0 (beginStart (powerOnReset s))).f 0 JOURNAL_STAT_step = 1 := by
  have hcool : (beginStart (powerOnReset s)).coolEnough = true := by simp [State.coolEnough, hhot]
  obtain ⟨hpwr, hstep, -⟩ := endS0_ends (beginStart_atStep (powerOnReset s)) (by simpa using hrails) (by simpa using hosc)
    (by simpa using hheld) hcool
  exact ⟨by rw [hpwr, diesLeaveReset_safe], hstep⟩

/-- Settles O8: POWER_GOOD begins a start, the end of S0 (by SafeOsc, or by SYSRST# in a good supply) begins S1, and a power-on reset, which a
loss of VAUX runs too, leaves no die out of reset. -/
theorem powerAndStartBegin : Obligations.PowerAndStartBegin := by
  unfold Obligations.PowerAndStartBegin
  refine ⟨fun s refsel => ?_, fun s hrails hstep hheld htrip hf => ?_, fun s => ?_, fun s hrails => ?_, fun s hrails hosc hheld hhot => ?_⟩
  · refine exec_answers (exec_powerGood refsel s) ?_
    simpa only [State.ended_pwr, State.ended_f] using powerGood_begins refsel.val s.fresh
  · refine exec_answers (exec_safeoscReady s) ?_
    simp only [State.ended_live, State.ended_f, State.ended_jour]
    exact safeoscReady_ends (s := s.fresh) hrails (by simpa [State.atStep, State.on] using hstep) hheld (by simpa using htrip)
      (by simpa [State.frozen, State.on] using hf)
  · refine exec_answers (exec_vauxLoss s) ?_
    simp only [State.ended_pwr, State.ended_rd]
    exact ⟨vauxLoss_railsGood _, fun d r x hr hx hs => vauxLoss_rd_sticky _ hr hx hs⟩
  · refine exec_answers (exec_sysrstAssert s) ?_
    simp only [State.ended_live, State.fresh_pwr, hrails]
    exact powerOnReset_live s.fresh
  · refine exec_answers (exec_sysrstAssert s) ?_
    simp only [State.ended_pwr, State.ended_f, State.fresh_pwr, hrails]
    exact sysrst_restarts (s := s.fresh) hrails hosc hheld hhot

end Sys2Proof.Machine
end

section
/-! SUPPORT. The time statements: what each command leaves of the queue, the time and the fuses, and that every step keeps the time sound. -/

namespace Sys2Proof.Machine

/-! ### The queue, the time and the fuses -/

/-- The time that a command leaves. -/
def timeAfter (c : Instr) (s : State) : Time :=
  match c with
  | .timebaseLock _ => s.lockTime
  | .tickBoundary _ => s.boundaryTime
  | .quietWindowOpen _ => s.quietTime
  | .segmentCommit _ _ => s.commitTime
  | .heartbeatCheck => s.checkTime
  | .joinLoad k => s.joinTime k
  | _ => s.time

/-- The fuses that a command leaves. -/
def fusesAfter (c : Instr) (s : State) : Fuses :=
  match c with
  | .fuseBurnDone ok => s.burnt ok
  | _ => s.fuses

/-- What every command leaves of the queue, the time and the fuses: the runner of each of the seven special commands says it, and the others run
with `run`. -/
theorem exec_leaves {c : Instr} {s t : State} (ht : exec c s = .next t) :
    t.pending = s.pending ∧ t.time = timeAfter c s ∧ t.fuses = fusesAfter c s := by
  by_cases hc : special c = true
  · cases c
    case timebaseLock l => exact runTime_next _ _ s t ((exec_timebaseLock l s).symm.trans ht)
    case tickBoundary b => exact runTime_next _ _ s t ((exec_tickBoundary b s).symm.trans ht)
    case quietWindowOpen q => exact runTime_next _ _ s t ((exec_quietWindowOpen q s).symm.trans ht)
    case segmentCommit p l => exact runTime_next _ _ s t ((exec_segmentCommit p l s).symm.trans ht)
    case heartbeatCheck => exact runTime_next _ _ s t ((exec_heartbeatCheck s).symm.trans ht)
    case joinLoad k => exact runTime_next _ _ s t ((exec_joinLoad k s).symm.trans ht)
    case fuseBurnDone ok => exact runFuse_next _ _ s t ((exec_fuseBurnDone ok s).symm.trans ht)
    all_goals exact absurd hc Bool.false_ne_true
  · have hc' : special c = false := by simpa using hc
    have htime : timeAfter c s = s.time := by
      unfold timeAfter
      split
      case h_7 => rfl
      all_goals exact absurd rfl hc
    have hfuses : fusesAfter c s = s.fuses := by
      unfold fusesAfter
      split
      · exact absurd rfl hc
      · rfl
    rw [htime, hfuses]
    exact exec_run_frame c hc' s t ht

/-- Settles O2. -/
theorem commandsLeaveQueueTimeAndFuses : Obligations.CommandsLeaveQueueTimeAndFuses := by
  unfold Obligations.CommandsLeaveQueueTimeAndFuses
  intro c s t ht
  obtain ⟨hqueue, htime, hfuses⟩ := exec_leaves ht
  refine ⟨hqueue, fun hlock hboundary hquiet hcommit hcheck hload => htime.trans ?_, fun hburn => hfuses.trans ?_⟩
  · unfold timeAfter
    split
    · next l => exact absurd rfl (hlock l)
    · next b => exact absurd rfl (hboundary b)
    · next q => exact absurd rfl (hquiet q)
    · next p l => exact absurd rfl (hcommit p l)
    · exact absurd rfl hcheck
    · next k => exact absurd rfl (hload k)
    · rfl
  · unfold fusesAfter
    split
    · next ok => exact absurd rfl (hburn ok)
    · rfl

/-! ### The time of each command that moves it -/

/-- The time is sound: P and Q are legal (R52, R53), and the count lies in the current tick (R51). -/
def Time.sound (t : Time) : Bool := t.inTick && periodOk t.p t.q

/-- A state's timebase is sound when its time is. -/
theorem State.timeSound_eq (s : State) : s.timeSound = s.time.sound := rfl

/-- What a sound time says of its numbers. -/
theorem Time.sound_iff (t : Time) : t.sound = true ↔
    (t.bnd ≤ t.count ∧ t.count < t.bnd + t.p) ∧ (16 ≤ t.p ∧ t.p ≤ 2 ^ 24) ∧ (t.p < 80 ∨ 64 ≤ t.q ∧ t.q + 16 ≤ t.p) := by
  simp [Time.sound, Time.inTick, periodOk]

/-- A tick that starts at its boundary with a legal P and Q is sound. -/
theorem Time.sound_start {b n p q : Nat} (h : periodOk p q = true) : Time.sound ⟨b, n, b, p, q⟩ = true := by
  have hp : 16 ≤ p := by simp only [periodOk, Bool.and_eq_true, decide_eq_true_eq] at h; exact h.1.1
  have ht : Time.inTick ⟨b, n, b, p, q⟩ = true := by simp [Time.inTick]; omega
  simp only [Time.sound, ht, h, Bool.and_self]

/-- A sound time has a legal P and Q. -/
theorem Time.sound_period {t : Time} (h : t.sound = true) : periodOk t.p t.q = true := by
  simp only [Time.sound, Bool.and_eq_true] at h; exact h.2

/-- A place in the tick to which the count moves on leaves a sound time sound. -/
theorem Time.sound_max {t : Time} (h : t.sound = true) {n : Nat} (hn : n < t.bnd + t.p) :
    ({ t with count := max t.count n } : Time).sound = true := by
  rw [Time.sound_iff] at h ⊢
  obtain ⟨⟨hlo, hhi⟩, hperiod⟩ := h
  exact ⟨⟨by show t.bnd ≤ max t.count n; omega, by show max t.count n < t.bnd + t.p; omega⟩, hperiod⟩

/-- Outside a test period the quiet window of a sound time starts at least 64 tb before the boundary (R52). -/
theorem State.qs_le {s : State} (h : s.time.sound = true) (hp : s.testPeriod = false) : s.qs + 64 ≤ s.time.bnd + s.time.p := by
  obtain ⟨-, -, hq⟩ := (Time.sound_iff _).mp h
  simp only [State.testPeriod, decide_eq_false_iff_not] at hp
  simp only [State.qs]
  omega

/-- The lock sets the time that S1 gives (R45, R54). -/
theorem State.lockTime_sound {s : State} (h : s.time.sound = true) : s.lockTime.sound = true := by
  unfold State.lockTime
  split
  · decide
  · exact h

/-- A change that the next boundary brings is legal (R52, R53). -/
theorem State.dueChange_period {s : State} {c : Change} (h : s.dueChange = some c) : periodOk c.p c.q = true := by
  unfold State.dueChange at h
  split at h
  · split at h
    · next hc =>
      obtain rfl := Option.some.inj h
      simp only [Bool.and_eq_true] at hc
      exact hc.2
    · cases h
  · cases h

/-- The next boundary starts a sound tick, with the old period or that of a change due (R51, R71). -/
theorem State.nextTime_sound {s : State} (h : s.time.sound = true) : s.nextTime.sound = true := by
  unfold State.nextTime
  split
  · next c hc => exact Time.sound_start (State.dueChange_period hc)
  · exact Time.sound_start (Time.sound_period h)

/-- TICK_BOUNDARY keeps the time sound. -/
theorem State.boundaryTime_sound {s : State} (h : s.time.sound = true) : s.boundaryTime.sound = true := by
  unfold State.boundaryTime
  split
  · exact State.nextTime_sound h
  · exact h

/-- QUIET_WINDOW_OPEN keeps the time sound (R4). -/
theorem State.quietTime_sound {s : State} (h : s.time.sound = true) : s.quietTime.sound = true := by
  unfold State.quietTime
  split
  · next hm =>
    simp only [State.mayOpen, Bool.and_eq_true, Bool.not_eq_true'] at hm
    have := State.qs_le h hm.1.2
    exact Time.sound_max h (by omega)
  · exact h

/-- SEGMENT_COMMIT keeps the time sound (R396). -/
theorem State.commitTime_sound {s : State} (h : s.time.sound = true) : s.commitTime.sound = true := by
  unfold State.commitTime
  split
  · next hm =>
    simp only [State.mayCommit, Bool.and_eq_true, Bool.not_eq_true'] at hm
    have := State.qs_le h hm.1.2
    exact Time.sound_max h (by omega)
  · exact h

/-- HEARTBEAT_CHECK keeps the time sound (R477). -/
theorem State.checkTime_sound {s : State} (h : s.time.sound = true) : s.checkTime.sound = true := by
  unfold State.checkTime
  split
  · obtain ⟨-, ⟨hp, -⟩, -⟩ := (Time.sound_iff _).mp h
    exact Time.sound_max h (by omega)
  · exact h

/-- What the upstream last reported, or else the device's own, is legal (R52, R53). -/
theorem State.upPeriod_ok {s : State} (h : s.time.sound = true) : periodOk s.upPeriod.1 s.upPeriod.2 = true := by
  unfold State.upPeriod
  split
  · split
    · assumption
    · exact Time.sound_period h
  · exact Time.sound_period h

/-- A time that JOIN_LOAD loads starts a tick of the upstream's period (R74, R77). -/
theorem State.loadsTime_start {s : State} {k : Nat} {t : Time} (h : s.loadsTime k = some t) :
    ∃ b n, t = ⟨b, n, b, s.upPeriod.1, s.upPeriod.2⟩ := by
  unfold State.loadsTime at h
  split at h
  · cases h
  · split at h
    · split at h
      · cases h
      · exact ⟨_, _, (Option.some.inj h).symm⟩
    · split at h
      · exact ⟨_, _, (Option.some.inj h).symm⟩
      · cases h
    · cases h

/-- JOIN_LOAD keeps the time sound. -/
theorem State.joinTime_sound {s : State} (h : s.time.sound = true) (k : Nat) : (s.joinTime k).sound = true := by
  unfold State.joinTime
  cases hl : s.loadsTime k with
  | none => exact h
  | some t =>
    obtain ⟨b, n, rfl⟩ := State.loadsTime_start hl
    exact Time.sound_start (State.upPeriod_ok h)

/-- With no command waiting the count goes on within the tick (R45, R51). -/
theorem idle_timeSound {s : State} (h : s.timeSound = true) : (idle s).timeSound = true := by
  unfold idle
  split
  · next hc =>
    simp only [Bool.and_eq_true, decide_eq_true_eq] at hc
    rw [State.timeSound_eq, Time.sound_iff] at h ⊢
    obtain ⟨⟨hlo, -⟩, hperiod⟩ := h
    exact ⟨⟨by show s.time.bnd ≤ s.time.count + 1; omega, hc.2⟩, hperiod⟩
  · exact h

/-- The time that a command leaves is sound where the time that it found is. -/
theorem timeAfter_sound (c : Instr) {s : State} (h : s.time.sound = true) : (timeAfter c s).sound = true := by
  unfold timeAfter
  split
  · exact State.lockTime_sound h
  · exact State.boundaryTime_sound h
  · exact State.quietTime_sound h
  · exact State.commitTime_sound h
  · exact State.checkTime_sound h
  · next k => exact State.joinTime_sound h k
  · exact h

/-- Every command keeps the time sound. -/
theorem exec_timeSound {c : Instr} {s t : State} (h : s.timeSound = true) (ht : exec c s = .next t) : t.timeSound = true := by
  obtain ⟨-, htime, -⟩ := exec_leaves ht
  rw [State.timeSound_eq, htime]
  exact timeAfter_sound c h

/-- Settles O3: six commands move the time, each by a clock that keeps it sound; every other command leaves it, and idling counts on within the
tick. -/
theorem timeStaysSound : Obligations.TimeStaysSound := by
  unfold Obligations.TimeStaysSound
  intro s t h ht
  unfold step at ht
  split at ht
  · obtain rfl := Host.Outcome.next.inj ht
    exact idle_timeSound h
  · next c l hqueue =>
    have h' : ({ s with pending := l } : State).timeSound = true := h
    exact exec_timeSound h' ht

end Sys2Proof.Machine
end

section
/-! SUPPORT. Arming and cancelling a period change (R52, R53, R69, R70, R73). -/

namespace Sys2Proof.Machine

/-! ### The pending change -/

/-- The change that is pending becomes this one. -/
def State.setPend (s : State) (c : Option Change) : State := { s with tick := { s.tick with pend := c } }

/-- A command that stores the pending change and its flag shows both, and changes nothing else. -/
theorem setPend_ends (s : State) (c : Option Change) (v : Nat) (hv : v < 2) :
    (s.ended ((s.fresh.setPend c).setF 0 TICK_ARMSTAT_pending v)).tick.pend = c ∧
    (s.ended ((s.fresh.setPend c).setF 0 TICK_ARMSTAT_pending v)).f 0 TICK_ARMSTAT_pending = v ∧
    s.onlyFields (s.ended ((s.fresh.setPend c).setF 0 TICK_ARMSTAT_pending v)) [(0, TICK_ARMSTAT_pending)] ∧
    (s.ended ((s.fresh.setPend c).setF 0 TICK_ARMSTAT_pending v)).rest =
      { s.rest with tick := (s.ended ((s.fresh.setPend c).setF 0 TICK_ARMSTAT_pending v)).tick } := by
  have hregs : (s.fresh.setPend c).regs = s.regs := rfl
  have hfields : s.onlyFields ((s.fresh.setPend c).setF 0 TICK_ARMSTAT_pending v) [(0, TICK_ARMSTAT_pending)] :=
    State.onlyFields_setF (State.onlyFields_regs (State.onlyFields_refl s _) hregs) 0 _ v (by decide) (by simp)
  refine ⟨?_, ?_, State.onlyFields_regs hfields (State.ended_regs s _), ?_⟩
  · rw [State.ended_tick, State.setF_tick]
    rfl
  · rw [State.ended_f]
    exact State.f_setF_fits _ 0 _ v (by decide) hv
  · rfl

/-- A refused arm or cancel shows its reason and its event, and changes nothing else (R69, R70). -/
theorem armRefuse_ends (s : State) (r : Nat) (hr : r < 2 ^ TICK_ARMSTAT_reason.len) :
    (s.ended (armRefuse r s.fresh)).f 0 TICK_ARMSTAT_reason = r ∧ (s.ended (armRefuse r s.fresh)).f 0 TICK_EVT_arm_refused = 1 ∧
    s.regsOnly (s.ended (armRefuse r s.fresh)) [(0, TICK_ARMSTAT_reason), (0, TICK_EVT_arm_refused)] := by
  refine ⟨?_, ?_, State.ended_regsOnly ?_⟩
  · rw [State.ended_f, armRefuse, State.evt, State.f_setF_clear _ _ _ _ _ _ (by decide) (by decide) (by decide)]
    exact State.f_setF_fits _ 0 _ r (by decide) hr
  · rw [State.ended_f]
    exact State.f_setF_fits _ 0 _ 1 (by decide) (by decide)
  · exact State.regsOnly_setF (State.regsOnly_setF (State.regsOnly_refl _ _) 0 _ r (by decide) (by simp)) 0 _ 1 (by decide) (by simp)

/-! ### The reason that refuses an arm -/

/-- A pending change is nearer than 17 ticks (R69, R70). -/
def State.pendNear (s : State) : Bool := s.tick.pend.any (fun c => decide (c.tick < s.time.num + 17))

/-- A change at least 17 ticks ahead is not near. -/
theorem State.pendNear_of_all {s : State} (h : s.tick.pend.all (fun c => decide (s.time.num + 17 ≤ c.tick)) = true) :
    s.pendNear = false := by
  unfold State.pendNear
  cases hp : s.tick.pend with
  | none => rfl
  | some c => simpa [hp] using h

/-- The reason that refuses an arm, in the order of R69. -/
theorem armReason_eq (both : Bool) (s : State) : armReason both s =
    if both then 7 else if s.isRoot = false then 5 else if s.rd64 0 TICK_AT_LO TICK_AT_HI < s.time.num + 17 then 1
    else if s.f 0 TICK_NEXT_P_value < 16 ∨ 2 ^ 24 < s.f 0 TICK_NEXT_P_value then 2
    else if 80 ≤ s.f 0 TICK_NEXT_P_value ∧ (s.f 0 TICK_NEXT_Q_value < 64 ∨ s.f 0 TICK_NEXT_P_value < s.f 0 TICK_NEXT_Q_value + 16) then 3
    else if s.f 0 TICK_NEXT_P_value < 80 ∧ s.lifeCycle ≠ 0 ∧ s.lifeCycle ≠ 3 then 4
    else if s.pendNear then 6 else 0 := by
  unfold armReason State.pendNear
  cases s.tick.pend <;> simp

/-- Every reason fits its field. -/
theorem armReason_lt (both : Bool) (s : State) : armReason both s < 2 ^ TICK_ARMSTAT_reason.len := by
  rw [armReason_eq]
  split_ifs <;> decide

/-- The four conditions leave no reason to refuse (R69). -/
theorem armReason_zero {s : State} (hroot : s.isRoot = true) (hat : s.time.num + 17 ≤ s.rd64 0 TICK_AT_LO TICK_AT_HI)
    (hp : 16 ≤ s.f 0 TICK_NEXT_P_value ∧ s.f 0 TICK_NEXT_P_value ≤ 2 ^ 24)
    (hq : 80 ≤ s.f 0 TICK_NEXT_P_value ∧ 64 ≤ s.f 0 TICK_NEXT_Q_value ∧ s.f 0 TICK_NEXT_Q_value + 16 ≤ s.f 0 TICK_NEXT_P_value ∨
      s.f 0 TICK_NEXT_P_value < 80 ∧ (s.lifeCycle = 0 ∨ s.lifeCycle = 3))
    (hnear : s.pendNear = false) : armReason false s = 0 := by
  rw [armReason_eq, if_neg Bool.false_ne_true, if_neg (by simp [hroot]), if_neg (by omega), if_neg (by omega), if_neg (by omega),
    if_neg (by omega), if_neg (by simp [hnear])]

/-! ### The two commands -/

/-- A cancel away from the time root is refused (R73). -/
theorem tickCancel_notRoot {s : State} (hlive : s.live 0 = true) (hroot : s.isRoot = false) : tickCancel s = armRefuse 5 s := by
  simp [tickCancel, hlive, hroot]

/-- A cancel with nothing pending does nothing (R70). -/
theorem tickCancel_none {s : State} (hlive : s.live 0 = true) (hroot : s.isRoot = true) (hnone : s.tick.pend = none) : tickCancel s = s := by
  simp [tickCancel, hlive, hroot, hnone]

/-- A cancel of a near change is refused (R70). -/
theorem tickCancel_near {s : State} (hlive : s.live 0 = true) (hroot : s.isRoot = true) (hnear : s.pendNear = true) :
    tickCancel s = armRefuse 6 s := by
  cases hp : s.tick.pend with
  | none => simp [State.pendNear, hp] at hnear
  | some c =>
    have hc : c.tick < s.time.num + 17 := by simpa [State.pendNear, hp] using hnear
    simp [tickCancel, hlive, hroot, hp, hc]

/-- A cancel of a change that is not near withdraws it (R70). -/
theorem tickCancel_withdraws {s : State} (hlive : s.live 0 = true) (hroot : s.isRoot = true)
    (hfar : s.tick.pend.any (fun c => decide (s.time.num + 17 ≤ c.tick)) = true) :
    tickCancel s = (s.setPend none).setF 0 TICK_ARMSTAT_pending 0 := by
  cases hp : s.tick.pend with
  | none => simp [hp] at hfar
  | some c =>
    have hc : ¬ c.tick < s.time.num + 17 := by
      have : s.time.num + 17 ≤ c.tick := by simpa [hp] using hfar
      omega
    simp [tickCancel, hlive, hroot, hp, hc, State.setPend]

/-- An arm that no reason refuses is pending (R69). -/
theorem tickArm_accepts {s : State} {both : Bool} (hlive : s.live 0 = true) (hr : armReason both s = 0) : tickArm both s =
    (s.setPend (some ⟨s.rd64 0 TICK_AT_LO TICK_AT_HI, s.f 0 TICK_NEXT_P_value, s.f 0 TICK_NEXT_Q_value⟩)).setF 0 TICK_ARMSTAT_pending 1 := by
  simp [tickArm, hlive, hr, State.setPend]

/-- An arm with a reason against it is refused (R69). -/
theorem tickArm_refuses {s : State} {both : Bool} (hlive : s.live 0 = true) (hr : armReason both s ≠ 0) :
    tickArm both s = armRefuse (armReason both s) s := by
  simp [tickArm, hlive, hr]

/-- Settles O14: R69's reasons decide an arm, and R70's a cancel. -/
theorem armingAndCancellingAPeriodChange : Obligations.ArmingAndCancellingAPeriodChange := by
  unfold Obligations.ArmingAndCancellingAPeriodChange
  refine ⟨fun s hlive hroot hat hp hq hfar => ?_, fun s both r hlive hr hne => ?_, fun s hlive hroot hfar => ?_, fun s r hlive hr => ?_,
    fun s hlive hroot hnone => ?_⟩
  · have hreason : armReason false s.fresh = 0 := armReason_zero (s := s.fresh) hroot hat hp hq (State.pendNear_of_all (s := s.fresh) hfar)
    refine exec_answers (exec_tickArm false s) ?_
    rw [tickArm_accepts (s := s.fresh) hlive hreason]
    exact setPend_ends s _ 1 (by decide)
  · have hreason : armReason both s.fresh = r := (armReason_eq both s.fresh).trans hr.symm
    refine exec_answers (exec_tickArm both s) ?_
    rw [tickArm_refuses (s := s.fresh) hlive (hreason ▸ hne), hreason]
    exact armRefuse_ends s r (hreason ▸ armReason_lt both s.fresh)
  · refine exec_answers (exec_tickCancel s) ?_
    rw [tickCancel_withdraws (s := s.fresh) hlive hroot hfar]
    exact setPend_ends s none 0 (by decide)
  · refine exec_answers (exec_tickCancel s) ?_
    obtain ⟨hroot, rfl⟩ | ⟨hroot, hnear, rfl⟩ := hr
    · rw [tickCancel_notRoot (s := s.fresh) hlive hroot]
      exact armRefuse_ends s 5 (by decide)
    · rw [tickCancel_near (s := s.fresh) hlive hroot hnear]
      exact armRefuse_ends s 6 (by decide)
  · refine exec_answers (exec_tickCancel s) ?_
    rw [tickCancel_none (s := s.fresh) hlive hroot hnone]
    exact State.ended_fresh s

end Sys2Proof.Machine
end

section
/-! SUPPORT. The quiet window: what its duties (the commits, the scrub steps, the refreshes) leave of the tick and of core 0's interrupts.
One lemma for each function f that they reach, named f_quiet, says that f keeps both; a caller's proof cites those of its callees. -/

namespace Sys2Proof.Machine

/-! ### An open quiet window and the interrupts of core 0 -/

/-- The register in which core 0's interrupts pend, as the register file holds it. -/
@[simp] abbrev State.irq (s : State) : Word := fileRd s.regs 0 (CORE_IRQ_PEND 0)

/-- Whether the quiet window has opened, and which interrupts of core 0 pend, is in t as in s. -/
@[simp] abbrev State.sameQuiet (s t : State) : Prop := t.tick.quietOpen = s.tick.quietOpen ∧ t.irq = s.irq

/-- Nothing changes. -/
theorem State.sameQuiet_refl (s : State) : s.sameQuiet s := ⟨rfl, rfl⟩

/-- One change after another. -/
theorem State.sameQuiet_trans {s t u : State} (h : s.sameQuiet t) (h' : t.sameQuiet u) : s.sameQuiet u :=
  ⟨h'.1.trans h.1, h'.2.trans h.2⟩

/-- A change for each element of a list. -/
theorem State.sameQuiet_each {α : Type} {s t : State} (h : s.sameQuiet t) (l : List α) {f : State → α → State}
    (hf : ∀ u : State, ∀ a ∈ l, u.sameQuiet (f u a)) : s.sameQuiet (t.each l f) :=
  State.each_keeps (fun u => s.sameQuiet u) f l (fun u a ha hu => State.sameQuiet_trans hu (hf u a ha)) t h

/-- A change that may be left out. -/
theorem State.sameQuiet_when {s t : State} (h : s.sameQuiet t) (c : Bool) {f : State → State} (hf : t.sameQuiet (f t)) :
    s.sameQuiet (t.when c f) := by
  cases c
  · exact h
  · exact State.sameQuiet_trans h hf

/-! ### Stores -/

/-- Only a store of the register itself changes it. -/
@[simp] theorem State.wr_irq (s : State) (d r : Nat) (v : Word) (h : d ≠ 0 ∨ r ≠ CORE_IRQ_PEND 0) : (s.wr d r v).irq = s.irq := by
  have hk : regKey 0 (CORE_IRQ_PEND 0) ≠ regKey d r := by grind [regKey]
  rw [State.irq, State.irq, State.wr_regs, fileWr, fileRd, KMap.lookD_putD_ne _ _ _ _ _ _ hk, fileRd]

@[simp] theorem State.setF_irq (s : State) (d : Nat) (x : Fld) (v : Nat) (h : d ≠ 0 ∨ x.reg ≠ CORE_IRQ_PEND 0) :
    (s.setF d x v).irq = s.irq := State.wr_irq s d x.reg _ h

@[simp] theorem State.setB_irq (s : State) (d : Nat) (x : Fld) (b : Bool) (h : d ≠ 0 ∨ x.reg ≠ CORE_IRQ_PEND 0) :
    (s.setB d x b).irq = s.irq := State.setF_irq s d x _ h

@[simp] theorem State.evt_irq (s : State) (d : Nat) (x : Fld) (h : d ≠ 0 ∨ x.reg ≠ CORE_IRQ_PEND 0) :
    (s.evt d x).irq = s.irq := State.setF_irq s d x _ h

@[simp] theorem State.inc_irq (s : State) (d : Nat) (x : Fld) (n : Nat) (h : d ≠ 0 ∨ x.reg ≠ CORE_IRQ_PEND 0) :
    (s.inc d x n).irq = s.irq := State.setF_irq s d x _ h

@[simp] theorem State.wr64_irq (s : State) (d lo hi v : Nat) (hlo : d ≠ 0 ∨ lo ≠ CORE_IRQ_PEND 0) (hhi : d ≠ 0 ∨ hi ≠ CORE_IRQ_PEND 0) :
    (s.wr64 d lo hi v).irq = s.irq := by
  rw [State.wr64, State.wr_irq _ _ _ _ hhi, State.wr_irq _ _ _ _ hlo]

@[simp] theorem State.setFs_irq (s : State) (d : Nat) (l : List (Fld × Nat)) (h : d ≠ 0 ∨ ∀ e ∈ l, e.1.reg ≠ CORE_IRQ_PEND 0) :
    (s.setFs d l).irq = s.irq := by
  induction l generalizing s with
  | nil => rw [State.setFs_nil]
  | cons e l ih =>
    have he : d ≠ 0 ∨ e.1.reg ≠ CORE_IRQ_PEND 0 := h.imp_right fun h => h e List.mem_cons_self
    have hl : d ≠ 0 ∨ ∀ e ∈ l, e.1.reg ≠ CORE_IRQ_PEND 0 := h.imp_right fun h e he => h e (List.mem_cons_of_mem _ he)
    rw [State.setFs_cons, ih _ hl, State.setF_irq _ _ _ _ he]

@[simp] theorem State.setPf_irq (s : State) (p : Nat) (x : Nat → Fld) (v : Nat) (h : (x (p % 4)).reg ≠ CORE_IRQ_PEND 0) :
    (s.setPf p x v).irq = s.irq := State.setF_irq s _ _ _ (.inr h)

@[simp] theorem State.setPf_tick (s : State) (p : Nat) (x : Nat → Fld) (v : Nat) : (s.setPf p x v).tick = s.tick := State.setF_tick ..

@[simp] theorem State.incPf_irq (s : State) (p : Nat) (x : Nat → Fld) (n : Nat) (h : (x (p % 4)).reg ≠ CORE_IRQ_PEND 0) :
    (s.incPf p x n).irq = s.irq := State.inc_irq s _ _ _ (.inr h)

@[simp] theorem State.incPf_tick (s : State) (p : Nat) (x : Nat → Fld) (n : Nat) : (s.incPf p x n).tick = s.tick := State.inc_tick ..

@[simp] theorem State.setKf_irq (s : State) (c : Nat) (x : Nat → Fld) (v : Nat) (h : (x (coreSlot c)).reg ≠ CORE_IRQ_PEND 0) :
    (s.setKf c x v).irq = s.irq := State.setF_irq s _ _ _ (.inr h)

@[simp] theorem State.setKf_tick (s : State) (c : Nat) (x : Nat → Fld) (v : Nat) : (s.setKf c x v).tick = s.tick := State.setF_tick ..

/-- A store of another register's field. -/
theorem State.sameQuiet_setF {s t : State} (h : s.sameQuiet t) (d : Nat) (x : Fld) (v : Nat) (hx : d ≠ 0 ∨ x.reg ≠ CORE_IRQ_PEND 0) :
    s.sameQuiet (t.setF d x v) := State.sameQuiet_trans h (by simp [hx])

/-- An event bit whose location is latched with it. -/
theorem State.evtLatch_quiet (s : State) (d : Nat) (x : Fld) {f : State → State} (h : d ≠ 0 ∨ x.reg ≠ CORE_IRQ_PEND 0)
    (hf : s.sameQuiet (f s)) : s.sameQuiet (s.evtLatch d x f) := by
  unfold State.evtLatch
  split
  · simp [h]
  · simpa [h] using hf

/-! ### Loads -/

@[simp] theorem State.setLoad_quiet (s : State) (l : Option Load) : s.sameQuiet (s.setLoad l) := by simp [State.setLoad]

@[simp] theorem closeStaging_quiet (s : State) : s.sameQuiet (closeStaging s) := by simp (disch := grind) [closeStaging]

@[simp] theorem openStaging_quiet (s : State) : s.sameQuiet (openStaging s) := by simp (disch := grind) [openStaging]

@[simp] theorem endLoad_quiet (s : State) : s.sameQuiet (endLoad s) := by simp (disch := grind) [endLoad]

@[simp] theorem rejectLoad_quiet (reason : Nat) (s : State) : s.sameQuiet (rejectLoad reason s) := by
  simp (disch := grind) [rejectLoad]

@[simp] theorem beginLoad_quiet (l : Load) (s : State) : s.sameQuiet (beginLoad l s) := by
  unfold beginLoad
  dsimp only [State.when]
  split
  · simp (disch := grind)
  · split <;> simp (disch := grind)

@[simp] theorem loadCommand_quiet (kind src addr : Nat) (digest : BitVec 384) (s : State) :
    s.sameQuiet (loadCommand kind src addr digest s).1 := by
  unfold loadCommand
  split <;> simp (disch := grind)

/-! ### Keys and the life cycle -/

@[simp] theorem setLifecycle_quiet (target : Nat) (s : State) : s.sameQuiet (setLifecycle target s) := by
  unfold setLifecycle
  split <;> simp (disch := grind)

@[simp] theorem rekey_quiet (cmd bc : BitVec 128) (s : State) : s.sameQuiet (rekey cmd bc s) := by simp (disch := grind) [rekey]

@[simp] theorem showSlots_quiet (s : State) : s.sameQuiet (showSlots s) := by simp (disch := grind) [showSlots]

@[simp] theorem keyLoad_quiet (slot : Nat) (clear : Bool) (key : KeySlot) (s : State) : s.sameQuiet (keyLoad slot clear key s).1 := by
  unfold keyLoad
  split <;> simp (disch := grind)

/-! ### The record service -/

@[simp] theorem State.setRecPort_quiet (s : State) (e p : Nat) (x : RecPort) : s.sameQuiet (s.setRecPort e p x) := by
  simp [State.setRecPort]

@[simp] theorem putDir_quiet (k : Nat) (x : DirEnt) (s : State) : s.sameQuiet (putDir k x s) := by
  unfold putDir
  dsimp only
  split <;> simp (disch := grind)

@[simp] theorem settleEntry_quiet (k : Nat) (s : State) : s.sameQuiet (settleEntry k s) := by
  unfold settleEntry
  dsimp only
  split <;> simp

@[simp] theorem portShow_quiet (e p st reason : Nat) (s : State) : s.sameQuiet (portShow e p st reason s) := by
  simp (disch := grind) [portShow]

@[simp] theorem portDrops_quiet (e p reason : Nat) (s : State) : s.sameQuiet (portDrops e p reason s) := by
  unfold portDrops
  dsimp only
  split <;> simp

@[simp] theorem portBinds_quiet (e p k refused : Nat) (s : State) : s.sameQuiet (portBinds e p k refused s) := by
  unfold portBinds
  split <;> simp

@[simp] theorem portBoundary_quiet (e p : Nat) (s : State) : s.sameQuiet (portBoundary e p s) := by
  unfold portBoundary
  dsimp only
  split
  · simp
  · split <;> simp

@[simp] theorem recIonReset_quiet (s : State) : s.sameQuiet (recIonReset s) := by
  unfold recIonReset
  dsimp only
  refine State.sameQuiet_each ?_ _ fun t p _ => ?drops
  · refine State.sameQuiet_each ?_ _ fun t k _ => by simp (disch := grind)
    refine State.sameQuiet_setF (State.sameQuiet_each (State.sameQuiet_refl s) _ fun t p _ => ?_) 0 _ 0 (by decide)
    have hports := State.sameQuiet_each (State.setRecPort_quiet t 1 p {}) ((t.recPort 1 p).recs.map (·.entry))
      fun u k _ => settleEntry_quiet k u
    split
    · exact State.sameQuiet_trans hports (settleEntry_quiet _ _)
    · exact hports
  · split
    · split <;> simp
    · exact State.sameQuiet_refl _

/-! ### Answers of the network -/

@[simp] theorem statAnswer_quiet (d ep id lat bytes : Nat) (write : Bool) (a : Answered) (s : State) :
    s.sameQuiet (statAnswer d ep id lat bytes write a s) := by simp [statAnswer, State.setStat]

@[simp] theorem setRetryFlag_quiet (h : Hdr) (b : Bool) (s : State) : s.sameQuiet (setRetryFlag h b s) := by simp [setRetryFlag]

@[simp] theorem answered_quiet (h : Hdr) (a : Answered) (s : State) : s.sameQuiet (answered h a s) := by
  unfold answered
  cases KMap.look s.net.taken (takenKey h) <;> (dsimp only; split_ifs <;> simp)

@[simp] theorem answerAck_quiet (h : Hdr) (s : State) : s.sameQuiet (answerAck h s) := by simp [answerAck]

@[simp] theorem answerData_quiet (h : Hdr) (l : List Line) (s : State) : s.sameQuiet (answerData h l s) := by simp [answerData]

@[simp] theorem answerError_quiet (h : Hdr) (status : Nat) (s : State) : s.sameQuiet (answerError h status s) := by
  unfold answerError
  dsimp only [State.when]
  split <;> simp (disch := grind)

/-! ### Itastea -/

@[simp] theorem State.setPort_quiet (s : State) (p : Nat) (x : ItaPort) : s.sameQuiet (s.setPort p x) := by simp [State.setPort]

@[simp] theorem setRoute_quiet (id : Nat) (p : Option Nat) (s : State) : s.sameQuiet (setRoute id p s) := by
  unfold setRoute
  dsimp only
  split <;> simp

@[simp] theorem itaSend_quiet (p : Nat) (m : ItaMsg) (s : State) : s.sameQuiet (itaSend p m s) := by
  unfold itaSend
  dsimp only
  split_ifs <;> simp

@[simp] theorem sendUp_quiet (m : Mgmt) (s : State) : s.sameQuiet (sendUp m s) := by
  unfold sendUp
  split <;> simp

@[simp] theorem dropRoutes_quiet (p : Nat) (s : State) : s.sameQuiet (dropRoutes p s) := by
  refine State.sameQuiet_each (State.sameQuiet_refl _) _ fun t id _ => ?_
  dsimp only
  split <;> simp

@[simp] theorem roleUpdate_quiet (cfgChanged : Bool) (s : State) : s.sameQuiet (roleUpdate cfgChanged s) := by
  unfold roleUpdate
  split
  · exact ⟨rfl, rfl⟩
  · refine State.sameQuiet_when ?_ _ (by simp (disch := grind))
    split <;> simp (disch := grind)

@[simp] theorem upstreamLost_quiet (s : State) : s.sameQuiet (upstreamLost s) := by
  unfold upstreamLost
  dsimp only
  split <;> simp (disch := grind)

@[simp] theorem dbgPathLost_quiet (p : Nat) (s : State) : s.sameQuiet (dbgPathLost p s) := by
  unfold dbgPathLost
  split <;> simp (disch := grind)

/-- The registers in which a port shows that it is DOWN. -/
theorem portDownShown_quiet (p reason lost : Nat) (s : State) : s.sameQuiet
    ((((s.setPf p ITA_P_STAT_state 5).setPf p ITA_P_STAT_reason reason).evt 0 ITA_EVT_port_down).incPf p ITA_P_DROP_events lost) := by
  simp (disch := grind)

@[simp] theorem portDown_quiet (p reason : Nat) (s : State) : s.sameQuiet (portDown p reason s) := by
  unfold portDown
  split
  · exact ⟨rfl, rfl⟩
  · have hup (t : State) (ht : s.sameQuiet t) : s.sameQuiet (if t.upstream = p then upstreamLost (dbgPathLost 3 t) else t) := by
      split
      · exact State.sameQuiet_trans ht (by simp)
      · exact ht
    refine hup _ (State.sameQuiet_trans (State.sameQuiet_trans ?_ (State.setPort_quiet _ p {})) (dropRoutes_quiet p _))
    exact State.sameQuiet_each (portDownShown_quiet p reason _ s) _ fun u r _ => answerError_quiet r.hdr 8 u

@[simp] theorem sayGoodbye_quiet (p cause : Nat) (s : State) : s.sameQuiet (sayGoodbye p cause s) := by
  unfold sayGoodbye
  split
  · exact State.sameQuiet_each (State.sameQuiet_refl _) _ fun t _ _ => ⟨rfl, rfl⟩
  · exact ⟨rfl, rfl⟩

@[simp] theorem startCalibration_quiet (p : Nat) (s : State) : s.sameQuiet (startCalibration p s) := by simp [startCalibration]

@[simp] theorem portLinkUp_quiet (p : Nat) (s : State) : s.sameQuiet (portLinkUp p s) := by
  unfold portLinkUp
  dsimp only
  split_ifs <;> simp (disch := grind)

end Sys2Proof.Machine
end

section
/-! SUPPORT. The quiet window, continued: error reports, memories, fences, resets and lanes. -/

namespace Sys2Proof.Machine

/-! ### Notices and error reports -/

@[simp] theorem raiseMsix_quiet (v : Nat) (s : State) (hv : v < 64) : s.sameQuiet (raiseMsix v s) := by
  unfold raiseMsix
  split
  · simp
  · split <;> simp (disch := grind)

@[simp] theorem eventOverflow_quiet (s : State) : s.sameQuiet (eventOverflow s) := by simp (disch := grind) [eventOverflow]

@[simp] theorem eventQueue_quiet (act w0 : Nat) (w1 : Word) (m : EvMsg) (s : State) : s.sameQuiet (eventQueue act w0 w1 m s) := by
  unfold eventQueue
  split <;> simp

@[simp] theorem eventForward_quiet (src : Nat) (m : EvMsg) (s : State) : s.sameQuiet (eventForward src m s) := by
  refine State.sameQuiet_each (State.sameQuiet_refl s) _ fun t p _ => ?_
  split <;> simp

@[simp] theorem eventLookup_quiet (m : EvMsg) (s : State) : s.sameQuiet (eventLookup m s) := by
  have hlate := State.sameQuiet_trans (s := s) (t := s.inc 0 ITA_EV_LATE_value 1) (by simp (disch := grind))
    (State.evtLatch_quiet _ 0 ITA_EVT_late (f := fun s => s.setFs 0 [(ITA_EV_LATELOC_source, m.src.toNat),
      (ITA_EV_LATELOC_event, m.num.toNat), (ITA_EV_LATELOC_be, m.be.toNat)]) (by decide) (by simp (disch := grind)))
  unfold eventLookup
  dsimp only
  split_ifs
  · exact State.sameQuiet_refl s
  · exact eventOverflow_quiet s
  · exact eventQueue_quiet ..
  · exact State.sameQuiet_trans hlate (eventQueue_quiet ..)
  · exact hlate

@[simp] theorem localEvent_quiet (num : BitVec 14) (arg : Word) (be cluster : Bool) (extra drained : Nat) (s : State) :
    s.sameQuiet (localEvent num arg be cluster extra drained s) := by
  unfold localEvent
  dsimp only
  split <;> simp

@[simp] theorem iosReport_quiet (d : Nat) (c : ErrClass) (s : State) : s.sameQuiet (iosReport d c s) := by
  unfold iosReport
  cases c
  case dieFatal =>
    refine State.sameQuiet_when (State.sameQuiet_when ?_ _ (raiseMsix_quiet _ _ (State.f_lt ..))) _ (localEvent_quiet ..)
    simp (disch := grind)
  case corrected => exact State.sameQuiet_refl s
  all_goals simp (disch := grind)

@[simp] theorem dieReport_quiet (d src : Nat) (c : ErrClass) (region detail : Nat) (s : State) :
    s.sameQuiet (dieReport d src c region detail s) := by
  have hcounter : c.counter.reg ≠ CORE_IRQ_PEND 0 := by cases c <;> decide
  unfold dieReport
  dsimp only
  split_ifs <;> simp (disch := grind)

@[simp] theorem errReport_quiet (d src : Nat) (c : ErrClass) (region detail : Nat) (s : State) :
    s.sameQuiet (errReport d src c region detail s) := by
  unfold errReport
  dsimp only
  split_ifs <;> simp

/-! ### DRAM and its protection -/

@[simp] theorem dramReport_quiet (c kind l device pin : Nat) (s : State) : s.sameQuiet (dramReport c kind l device pin s) := by
  unfold dramReport
  dsimp only
  split_ifs <;> simp (disch := grind)

@[simp] theorem State.setLine_quiet (s : State) (c l : Nat) (x : DramLine) : s.sameQuiet (s.setLine c l x) := by simp [State.setLine]

@[simp] theorem writeLine_quiet (c l : Nat) (v : BitVec 512) (s : State) : s.sameQuiet (writeLine c l v s) := by simp [writeLine]

@[simp] theorem readLine_quiet (c l kind : Nat) (err : DimmErr) (s : State) : s.sameQuiet (readLine c l kind err s).1 := by
  unfold readLine
  dsimp only
  split
  · split_ifs <;> simp
  · split
    · simp
    · split <;> simp

@[simp] theorem putLine_quiet (c l : Nat) (x : Line) (err : DimmErr) (s : State) : s.sameQuiet (putLine c l x err s).1 := by
  unfold putLine
  dsimp only
  split_ifs <;> simp

@[simp] theorem miuReport_quiet (c r kind : Nat) (h : Hdr) (s : State) : s.sameQuiet (miuReport c r kind h s) := by
  have hevent : (miuEvent kind).reg ≠ CORE_IRQ_PEND 0 := by unfold miuEvent; split_ifs <;> decide
  unfold miuReport
  dsimp only
  split_ifs <;> simp (disch := grind)

@[simp] theorem setCache_quiet (k v : Nat) (s : State) : s.sameQuiet (setCache k v s) := by simp [setCache]

@[simp] theorem tagFresh_quiet (x : MiuLine) (s : State) : s.sameQuiet (tagFresh x s) := by simp [tagFresh]

@[simp] theorem setCtr_quiet (x : MiuLine) (v : BitVec 512) (s : State) : s.sameQuiet (setCtr x v s) := by simp [setCtr]

@[simp] theorem poison_quiet (x : MiuLine) (s : State) : s.sameQuiet (poison x s) := by simp [poison]

@[simp] theorem verifyLine_quiet (x : MiuLine) (kind : Nat) (dimm : DimmLine) (s : State) : s.sameQuiet (verifyLine x kind dimm s).1 := by
  unfold verifyLine
  dsimp only
  split_ifs <;> simp

@[simp] theorem miuReadLine_quiet (x : MiuLine) (dimm : DimmLine) (s : State) : s.sameQuiet (miuReadLine x dimm s).1 := by
  unfold miuReadLine
  split
  · exact verifyLine_quiet ..
  · dsimp only
    split <;> simp

@[simp] theorem miuStore_quiet (x : MiuLine) (v : BitVec 512) (stale : List (Fin 64)) (s : State) :
    s.sameQuiet (miuStore x v stale s) := by
  unfold miuStore
  dsimp only
  split_ifs <;> simp (disch := grind)

@[simp] theorem miuWriteLine_quiet (x : MiuLine) (w : Line) (dimm : DimmLine) (s : State) : s.sameQuiet (miuWriteLine x w dimm s).1 := by
  unfold miuWriteLine
  dsimp only
  split
  · split
    · split <;> simp
    · simp
  · split_ifs <;> simp

/-- The lines of a request are read one by one. -/
theorem readEach_quiet (n i : Nat) {f : Nat → State → State × Nat × BitVec 512} (hf : ∀ i, ∀ t : State, t.sameQuiet (f i t).1) (s : State) :
    s.sameQuiet (readEach n i f s).1 := by
  induction n generalizing i s with
  | zero => exact State.sameQuiet_refl s
  | succ n ih => exact State.sameQuiet_trans (hf i s) (ih (i + 1) _)

/-- The lines of a request are written one by one. -/
theorem writeEach_quiet (l : List Line) (i : Nat) {f : Nat → Line → State → State × Nat}
    (hf : ∀ i x, ∀ t : State, t.sameQuiet (f i x t).1) (s : State) : s.sameQuiet (writeEach l i f s).1 := by
  induction l generalizing i s with
  | nil => exact State.sameQuiet_refl s
  | cons x l ih => exact State.sameQuiet_trans (hf i x s) (ih (i + 1) _)

/-- A request is served a line at a time and answered. -/
theorem serveLines_quiet (h : Hdr) (lines : List Line) {rd : Nat → State → State × Nat × BitVec 512} {wr : Nat → Line → State → State × Nat}
    (hrd : ∀ i, ∀ t : State, t.sameQuiet (rd i t).1) (hwr : ∀ i x, ∀ t : State, t.sameQuiet (wr i x t).1) (s : State) :
    s.sameQuiet (serveLines h lines rd wr s) := by
  unfold serveLines
  dsimp only
  split
  · refine State.sameQuiet_trans (writeEach_quiet lines 0 hwr s) ?_
    split <;> simp
  · refine State.sameQuiet_trans (readEach_quiet h.readLines 0 hrd s) ?_
    split <;> simp

@[simp] theorem miuServe_quiet (r c l0 : Nat) (h : Hdr) (lines : List Line) (x : DramIn) (s : State) :
    s.sameQuiet (miuServe r c l0 h lines x s) := by
  refine serveLines_quiet h lines (fun i t => ?_) (fun i w t => ?_) s
  · exact State.sameQuiet_trans (State.sameQuiet_when (State.sameQuiet_refl t) _ (State.sameQuiet_refl _)) (miuReadLine_quiet ..)
  · exact State.sameQuiet_trans (State.sameQuiet_when (State.sameQuiet_refl t) _ (State.sameQuiet_refl _)) (miuWriteLine_quiet ..)

@[simp] theorem retake_quiet (l : List MiuWait) (c : Nat) (s : State) : s.sameQuiet (retake l c s) := by
  induction l generalizing s with
  | nil => exact State.sameQuiet_refl s
  | cons w l ih =>
    unfold retake
    refine State.sameQuiet_trans ?_ (ih _)
    dsimp only
    split
    · exact State.sameQuiet_refl s
    · split
      · split_ifs <;> simp (disch := grind)
      · simp

@[simp] theorem retakeAll_quiet (c : Nat) (s : State) : s.sameQuiet (retakeAll c s) := by simp [retakeAll]

@[simp] theorem sweepEnds_quiet (s : State) : s.sameQuiet (sweepEnds s) := by simp (disch := grind) [sweepEnds]

@[simp] theorem dropMeta_quiet (r : Nat) (s : State) : s.sameQuiet (dropMeta r s) := by simp [dropMeta]

@[simp] theorem rangeFault_quiet (r : Nat) (s : State) : s.sameQuiet (rangeFault r s) := by
  unfold rangeFault
  split
  · exact State.sameQuiet_refl s
  · extract_lets lost out swept
    have hlost : s.sameQuiet lost := by
      subst lost
      split
      · refine State.sameQuiet_setF (State.sameQuiet_each (State.sameQuiet_refl s) _ fun t c _ => ?_) 0 _ _ (by grind)
        exact State.sameQuiet_refl t
      · exact State.sameQuiet_refl s
    have hout : s.sameQuiet out :=
      State.sameQuiet_trans (State.sameQuiet_setF hlost 0 _ 3 (by grind)) (dropMeta_quiet r _)
    have hswept : out.sameQuiet swept := by
      subst swept
      split
      · split_ifs <;> simp
      · exact State.sameQuiet_refl out
    exact State.sameQuiet_each (State.sameQuiet_trans hout hswept) _ fun t c _ => retakeAll_quiet c t

@[simp] theorem miuDieLost_quiet (d : Nat) (s : State) : s.sameQuiet (miuDieLost d s) := by
  unfold miuDieLost
  refine State.sameQuiet_each (State.sameQuiet_refl s) _ fun t r _ => ?_
  split
  · split <;> simp
  · exact State.sameQuiet_refl t

/-! ### Fences -/

@[simp] theorem linkFence_quiet (d : Nat) (s : State) : s.sameQuiet (linkFence d s) := by
  unfold linkFence
  split
  · exact State.sameQuiet_refl s
  · refine State.sameQuiet_when (State.sameQuiet_trans ?_ (errReport_quiet ..)) _ ?_
    · exact State.sameQuiet_refl s
    · simp (disch := grind)

@[simp] theorem fenceEnds_quiet (d e : Nat) (s : State) : s.sameQuiet (fenceEnds d e s) := by
  unfold fenceEnds
  dsimp only
  refine State.sameQuiet_each ?_ _ fun t k _ => ?_
  all_goals split <;> simp (disch := grind)

@[simp] theorem presentEos_quiet (d m ch : Nat) (s : State) : s.sameQuiet (presentEos d m ch s) := by simp [presentEos, State.setChan]

/-- A module that exists is one of 32. -/
theorem moduleExists_lt {d m : Nat} (h : moduleExists d m = true) : m < 32 := by
  have hedge : (edgeFar d (m / 8)).isSome = true := by
    simp only [moduleExists, Bool.and_eq_true] at h
    exact h.1
  have : m / 8 < 4 := by
    by_contra hm
    have hfar (e : Nat) (he : 4 ≤ e) : edgeFar d e = none := by
      unfold edgeFar
      split
      · rw [if_neg (by omega)]
      · dsimp only
        split
        case h_5 => rfl
        all_goals omega
    simp [hfar (m / 8) (by omega)] at hedge
  omega

theorem setChanState_quiet (d m ch rx st : Nat) (s : State) (hm : m < 32) : s.sameQuiet (setChanState d m ch rx st s) := by
  simp (disch := grind) [setChanState]

@[simp] theorem fenceChannels_quiet (d e : Nat) (s : State) : s.sameQuiet (fenceChannels d e s) := by
  refine State.sameQuiet_each (State.sameQuiet_refl s) _ fun t k _ => ?_
  dsimp only
  split
  · exact State.sameQuiet_refl t
  · next hm =>
    have hm' : 8 * e + k < 32 := moduleExists_lt (d := d) (by simpa using hm)
    refine State.sameQuiet_each (State.sameQuiet_refl t) _ fun u ch _ => ?_
    refine State.sameQuiet_trans (State.sameQuiet_trans ?_ (setChanState_quiet d _ ch 1 chFenced _ hm')) (setChanState_quiet d _ ch 0 chFenced _ hm')
    exact State.sameQuiet_when (State.sameQuiet_refl u) _ (presentEos_quiet ..)

@[simp] theorem setPorts_quiet (d e : Nat) (on : Bool) (s : State) : s.sameQuiet (setPorts d e on s) :=
  State.sameQuiet_each (State.sameQuiet_refl s) _ fun t _ _ => State.sameQuiet_refl t

@[simp] theorem fenceEdge_quiet (d e cause : Nat) (s : State) : s.sameQuiet (fenceEdge d e cause s) := by
  unfold fenceEdge
  split
  · exact State.sameQuiet_refl s
  · refine State.sameQuiet_trans (State.sameQuiet_trans (State.sameQuiet_trans (State.sameQuiet_trans ?_
      (State.evtLatch_quiet _ d CORUG_EVT_fence (by grind) ?_)) (setPorts_quiet d e true _)) (fenceChannels_quiet d e _)) (errReport_quiet ..)
    all_goals simp (disch := grind)

@[simp] theorem fenceDie_quiet (d cause : Nat) (s : State) : s.sameQuiet (fenceDie d cause s) := by
  unfold fenceDie
  refine State.sameQuiet_trans (State.sameQuiet_each (State.sameQuiet_refl s) _ fun t e _ => ?_) (linkFence_quiet d _)
  cases edgeFar d e with
  | none => exact State.sameQuiet_refl t
  | some f => exact fenceEdge_quiet f (edgeBack d e) cause t

/-! ### Regions -/

@[simp] theorem setRegion_quiet (d i st : Nat) (s : State) : s.sameQuiet (setRegion d i st s) := by simp (disch := grind) [setRegion]

@[simp] theorem dropWaiting_quiet (d i : Nat) (s : State) : s.sameQuiet (dropWaiting d i s) := by simp [dropWaiting]

/-- What a drain that is cut shows. -/
theorem drainCut_quiet (d i n : Nat) (s : State) :
    s.sameQuiet (((dropWaiting d i s).inc d (REGIONS_ABORT_drained i) n).evt d REGIONS_EVT_drain_timeout) := by
  simp (disch := grind)

@[simp] theorem cutDrain_quiet (d i : Nat) (s : State) : s.sameQuiet (cutDrain d i s) := by
  unfold cutDrain
  exact State.sameQuiet_trans (State.sameQuiet_each (State.sameQuiet_refl s) _ fun t h _ => answerError_quiet h 4 t) (drainCut_quiet d i _ _)

@[simp] theorem failRegion_quiet (d i : Nat) (s : State) : s.sameQuiet (failRegion d i s) := by simp [failRegion]

@[simp] theorem unloadRegion_quiet (d i : Nat) (s : State) : s.sameQuiet (unloadRegion d i s) := by
  simp (disch := grind) [unloadRegion, clearFrames]

/-- What a load that aborts shows. -/
theorem abortShown_quiet (reason : Nat) (s : State) : s.sameQuiet
    (endLoad (({ s with start := { s.start with abort := reason } }.setF 0 CFG_STAT_abort reason).evt 0 CFG_EVT_aborted)) := by
  simp (disch := grind)

@[simp] theorem abortLoad_quiet (reason : Nat) (s : State) : s.sameQuiet (abortLoad reason s) := by
  unfold abortLoad
  split
  · exact State.sameQuiet_refl s
  · refine State.sameQuiet_trans ?_ (abortShown_quiet reason _)
    refine State.sameQuiet_each (State.sameQuiet_each (State.sameQuiet_refl s) _ fun t x _ => ?_) _ fun t r _ => ?_
    · dsimp only
      split_ifs <;> simp (disch := grind)
    · dsimp only
      split <;> simp

@[simp] theorem loadDieLost_quiet (d : Nat) (s : State) : s.sameQuiet (loadDieLost d s) := by
  unfold loadDieLost
  split
  · split <;> simp
  · exact State.sameQuiet_refl s

end Sys2Proof.Machine
end

section
/-! SUPPORT. The quiet window, continued: resets, lanes, spares and the other committed commands. -/

namespace Sys2Proof.Machine

/-! ### A die that is lost, and its reset -/

@[simp] theorem dieLost_quiet (d cause : Nat) (s : State) : s.sameQuiet (dieLost d cause s) :=
  State.sameQuiet_trans (fenceDie_quiet d cause s) (loadDieLost_quiet d _)

@[simp] theorem dieNotices_quiet (d cause goodbye : Nat) (s : State) : s.sameQuiet (dieNotices d cause goodbye s) := by
  unfold dieNotices
  refine State.sameQuiet_trans ?_ (dieLost_quiet d cause _)
  split
  · exact State.sameQuiet_each (State.sameQuiet_refl s) _ fun t p _ => sayGoodbye_quiet p goodbye t
  · exact State.sameQuiet_refl s

@[simp] theorem meterLost_quiet (d : Nat) (s : State) : s.sameQuiet (meterLost d s) := by simp [meterLost]

@[simp] theorem dramLost_quiet (c : Nat) (s : State) : s.sameQuiet (dramLost c s) := by simp [dramLost]

@[simp] theorem State.setDdrChan_quiet (s : State) (c : Nat) (x : DdrChan) : s.sameQuiet (s.setDdrChan c x) := by simp [State.setDdrChan]

@[simp] theorem resetIo_quiet (s : State) : s.sameQuiet (resetIo s) := by
  unfold resetIo
  extract_lets ports chans out _ miu _ rec_ _ ddr _ gpio cleared
  have hports : s.sameQuiet ports := by
    subst ports
    refine State.sameQuiet_trans ?_ (recIonReset_quiet _)
    refine State.sameQuiet_each (State.sameQuiet_refl s) _ fun t p _ => ?_
    split <;> simp
  have hchans : s.sameQuiet chans := State.sameQuiet_each hports _ fun t c _ =>
    State.sameQuiet_trans (dramLost_quiet c t) (State.setDdrChan_quiet _ c {})
  have hcleared : s.sameQuiet cleared := State.sameQuiet_each hchans _ fun t p _ => State.setPort_quiet t p {}
  clear_value cleared
  exact hcleared

@[simp] theorem resetFabric_quiet (d : Nat) (s : State) : s.sameQuiet (resetFabric d s) := by simp [resetFabric]

@[simp] theorem resetCores_quiet (d : Nat) (s : State) : s.sameQuiet (resetCores d s) := by
  unfold resetCores
  extract_lets _ loaded
  have hloaded : s.sameQuiet loaded := by
    subst loaded
    split
    · split <;> simp (disch := grind)
    · exact State.sameQuiet_refl s
  exact State.sameQuiet_each hloaded _ fun t c _ => ⟨rfl, rfl⟩

@[simp] theorem resetPorts_quiet (d : Nat) (s : State) : s.sameQuiet (resetPorts d s) := by simp [resetPorts]

@[simp] theorem resetMesh_quiet (d : Nat) (s : State) : s.sameQuiet (resetMesh d s) := by simp [resetMesh]

@[simp] theorem swapCheckEnd_quiet (s : State) : s.sameQuiet (swapCheckEnd s) := by simp (disch := grind) [swapCheckEnd]

@[simp] theorem resetSwap_quiet (d : Nat) (s : State) : s.sameQuiet (resetSwap d s) := by
  unfold resetSwap
  dsimp only
  split_ifs <;> simp (disch := grind)

/-- A reset of other registers leaves a register as it was. -/
theorem lookD_resetRegs (hit keep : Nat → Bool) (m : KMap Word) (k : Nat) (v : Word) (hk : hit k = false) :
    KMap.lookD (resetRegs hit keep m) k v = KMap.lookD m k v := by
  induction m with
  | nil => rfl
  | cons e m ih =>
    obtain ⟨j, w⟩ := e
    by_cases hj : hit j
    · have hne : ¬ j = k := fun h => by simp [← h, hj] at hk
      simp only [resetRegs, hj, if_true]
      split_ifs <;> simp [KMap.lookD, hne, ih]
    · simp [resetRegs, hj, KMap.lookD, ih]

@[simp] theorem dieReset_quiet (d : Nat) (s : State) : s.sameQuiet (dieReset d s) := by
  unfold dieReset
  split
  · exact State.sameQuiet_refl s
  · next hd =>
    extract_lets blocks rest err tick pwr hold regs
    have hblocks : s.sameQuiet blocks := by
      subst blocks
      split <;> exact State.sameQuiet_trans (by simp) (meterLost_quiet d _)
    have hrest : s.sameQuiet rest := State.sameQuiet_trans hblocks (by simp [rest])
    refine State.sameQuiet_trans hrest ⟨rfl, ?_⟩
    exact lookD_resetRegs _ _ _ _ _ (by simp [regKey, CORE_IRQ_PEND]; omega)

@[simp] theorem dieResetCommit_quiet (d : Nat) (s : State) : s.sameQuiet (dieResetCommit d s) := by
  unfold dieResetCommit
  split
  · exact State.sameQuiet_refl s
  · exact State.sameQuiet_trans (dieNotices_quiet d 1 1 s) (dieReset_quiet d _)

/-! ### The built-in test -/

@[simp] theorem bistBegin_quiet (mask set : Nat) (s : State) : s.sameQuiet (bistBegin mask set s) := by
  unfold bistBegin
  dsimp only
  refine State.sameQuiet_each (by simp (disch := grind)) _ fun t d hd => ?_
  have hd' : d < 10 := by simp [allDies] at hd; omega
  split <;> simp (disch := grind)

@[simp] theorem bistEnter_quiet (mask set last : Nat) (s : State) : s.sameQuiet (bistEnter mask set last s).1 := by
  unfold bistEnter
  dsimp only
  split <;> simp

/-! ### Lanes -/

@[simp] theorem State.setLane_quiet (s : State) (d l : Nat) (x : LaneSt) : s.sameQuiet (s.setLane d l x) := by simp [State.setLane]

@[simp] theorem portLost_quiet (d l : Nat) (s : State) : s.sameQuiet (portLost d l s) := by
  unfold portLost
  split
  · split <;> simp
  · exact State.sameQuiet_refl s

@[simp] theorem laneError_quiet (d : Nat) (s : State) : s.sameQuiet (laneError d s) := by simp [laneError]

@[simp] theorem bundleStop_quiet (d l : Nat) (s : State) : s.sameQuiet (bundleStop d l s) := by
  unfold bundleStop
  extract_lets b stopped
  have hstopped : s.sameQuiet stopped := State.sameQuiet_each (State.sameQuiet_refl s) _ fun t k _ => by
    simp (disch := grind) [lf]
  split
  · refine State.sameQuiet_trans (State.sameQuiet_trans (State.sameQuiet_trans hstopped ?_) (laneError_quiet d _)) (portLost_quiet d l _)
    simp (disch := grind) [laneEvt]
  · exact hstopped

@[simp] theorem setLaneState_quiet (d l st : Nat) (s : State) : s.sameQuiet (setLaneState d l st s) := by
  unfold setLaneState
  dsimp only
  split <;> simp (disch := grind) [lf]

@[simp] theorem laneFail_quiet (d l reason : Nat) (s : State) : s.sameQuiet (laneFail d l reason s) := by
  simp (disch := grind) [laneFail, laneEvt, lf]

@[simp] theorem laneEq_quiet (d l : Nat) (cfg : Word) (s : State) : s.sameQuiet (laneEq d l cfg s) := by
  unfold laneEq
  extract_lets rate codes coded
  have hcoded : s.sameQuiet coded := by simp (disch := grind) [coded, lf]
  split
  · refine State.sameQuiet_trans hcoded ?_
    split
    · refine ⟨by simp, State.setFs_irq _ _ _ (.inr ?_)⟩
      simp only [List.forall_mem_cons, lf]
      refine ⟨?_, ?_, ?_, ?_, ?_, ?_, ?_, ?_, ?_⟩ <;> grind
    · simp (disch := grind) [laneEvt]
  · exact hcoded

@[simp] theorem bundleStart_quiet (d l : Nat) (s : State) : s.sameQuiet (bundleStart d l s) := by
  unfold bundleStart
  split
  · exact State.sameQuiet_refl s
  · extract_lets up
    have hup : s.sameQuiet up := State.sameQuiet_each (State.sameQuiet_refl s) _ fun t k _ => by
      simp (disch := grind) [lf]
    split
    · exact State.sameQuiet_trans hup (portLinkUp_quiet _ _)
    · exact hup

@[simp] theorem bundleCheck_quiet (d l : Nat) (s : State) : s.sameQuiet (bundleCheck d l s) := by
  unfold bundleCheck
  dsimp only
  split <;> simp

@[simp] theorem laneHunt_quiet (d l : Nat) (s : State) : s.sameQuiet (laneHunt d l s) := by
  unfold laneHunt
  dsimp only
  split <;> simp

@[simp] theorem laneStart_quiet (d l : Nat) (s : State) : s.sameQuiet (laneStart d l s) := by
  unfold laneStart
  extract_lets stopped cfg latched shown tuned board pre post
  have hlatched : s.sameQuiet latched := State.sameQuiet_trans (bundleStop_quiet d l s) (State.setLane_quiet _ d l _)
  have hshown : s.sameQuiet shown := State.sameQuiet_trans hlatched (by simp (disch := grind) [shown, lf])
  have htuned : s.sameQuiet tuned := State.sameQuiet_trans hshown (laneEq_quiet d l cfg _)
  split
  · exact State.sameQuiet_setF (State.sameQuiet_trans hshown (setLaneState_quiet d l lOff _)) d _ _ (by grind [lf])
  · split
    · exact State.sameQuiet_trans hshown (laneFail_quiet d l 3 _)
    · split
      · exact State.sameQuiet_trans htuned (State.sameQuiet_trans (State.setLane_quiet _ d l _) (setLaneState_quiet d l lTraining _))
      · exact State.sameQuiet_trans htuned (laneHunt_quiet d l _)

@[simp] theorem laneSpare_quiet (d l : Nat) (s : State) : s.sameQuiet (laneSpare d l s) := by simp (disch := grind) [laneSpare]

@[simp] theorem laneMove_quiet (d l : Nat) (s : State) : s.sameQuiet (laneMove d l s) := by
  unfold laneMove
  dsimp only
  split <;> simp

/-! ### Spares -/

@[simp] theorem poolTaken_quiet (d bit : Nat) (s : State) : s.sameQuiet (poolTaken d bit s) := by simp (disch := grind) [poolTaken]

@[simp] theorem activateLogic_quiet (d g : Nat) (s : State) : s.sameQuiet (activateLogic d g s) := by
  simp (disch := grind) [activateLogic]

@[simp] theorem markShiftWait_quiet (d : Nat) (s : State) : s.sameQuiet (markShiftWait d s) :=
  State.sameQuiet_each (State.sameQuiet_refl s) _ fun t i _ => by simp (disch := grind)

@[simp] theorem activateCmb_quiet (d : Nat) (s : State) : s.sameQuiet (activateCmb d s) := by simp (disch := grind) [activateCmb]

@[simp] theorem State.setBlk_quiet (s : State) (b : Blk) (x : BlkSt) : s.sameQuiet (s.setBlk b x) := by simp [State.setBlk]

@[simp] theorem corugOut_quiet (d : Nat) (s : State) : s.sameQuiet (corugOut d s) := by simp (disch := grind) [corugOut]

@[simp] theorem skipEnd_quiet (wire d m : Nat) (rx : Bool) (s : State) : s.sameQuiet (skipEnd wire d m rx s) := by
  unfold skipEnd
  dsimp only
  split
  · exact State.sameQuiet_refl s
  · cases rx <;> simp (disch := grind) [mapReg]

@[simp] theorem skipWire_quiet (d m : Nat) (rx : Bool) (wire : Nat) (s : State) : s.sameQuiet (skipWire d m rx wire s) := by
  unfold skipWire
  split <;> simp

@[simp] theorem spareAssign_quiet (b : BitVec 128) (now : Bool) (s : State) : s.sameQuiet (spareAssign b now s) := by
  unfold spareAssign
  dsimp only
  split
  · split <;> simp (disch := grind)
  · split <;> simp (disch := grind)
  · split <;> simp
  · simp
  · simp
  · exact State.sameQuiet_refl s

@[simp] theorem swapStart_quiet (d m : Nat) (s : State) : s.sameQuiet (swapStart d m s) := by
  unfold swapStart
  split <;> simp

@[simp] theorem wearShow_quiet (s : State) : s.sameQuiet (wearShow s) := by simp (disch := grind) [wearShow]

@[simp] theorem wearPush_quiet (b : BitVec 128) (s : State) : s.sameQuiet (wearPush b s) := by
  unfold wearPush
  split <;> simp

@[simp] theorem spareCommit_quiet (b : BitVec 128) (s : State) : s.sameQuiet (spareCommit b s).1 := by
  unfold spareCommit
  dsimp only
  split
  · exact State.sameQuiet_refl s
  · refine State.sameQuiet_trans (State.sameQuiet_when (State.sameQuiet_when (spareAssign_quiet b false s) _ ?_) _ ?_) (wearPush_quiet b _)
    · exact swapStart_quiet ..
    · simp (disch := grind)

/-! ### The other commands -/

@[simp] theorem pprCommit_quiet (c : Nat) (p : PprRow) (s : State) : s.sameQuiet (pprCommit c p s).1 := by
  unfold pprCommit
  dsimp only
  split <;> simp [pprStart]

@[simp] theorem pushRecord_quiet (r : JRec) (s : State) : s.sameQuiet (pushRecord r s) := by
  unfold pushRecord
  split <;> simp

@[simp] theorem ckptStart_quiet (v : Nat) (s : State) : s.sameQuiet (ckptStart v s) := by
  unfold ckptStart
  exact State.sameQuiet_setF (State.sameQuiet_trans (pushRecord_quiet _ s) ⟨rfl, rfl⟩) 0 _ 1 (by grind)

@[simp] theorem eraseCommit_quiet (s : State) : s.sameQuiet (eraseCommit s).1 := by
  unfold eraseCommit
  split <;> simp (disch := grind)

@[simp] theorem holdUpdate_quiet (s : State) : s.sameQuiet (holdUpdate s) := by
  unfold holdUpdate
  refine State.sameQuiet_when ?_ _ ?_ <;> simp (disch := grind)

@[simp] theorem resumeCore_quiet (c : Nat) (s : State) : s.sameQuiet (resumeCore c s) := by
  unfold resumeCore
  dsimp only
  split <;> simp (disch := grind)

@[simp] theorem skipperGrantEnds_quiet (s : State) : s.sameQuiet (skipperGrantEnds s) := by
  unfold skipperGrantEnds
  refine State.sameQuiet_setF (State.sameQuiet_each (State.sameQuiet_refl s) _ fun t c _ => ?_) 0 _ _ (by grind)
  dsimp only
  split_ifs <;> simp (disch := grind)

@[simp] theorem setGrants_quiet (skipper hold : Bool) (expiry : Nat) (s : State) : s.sameQuiet (setGrants skipper hold expiry s) := by
  unfold setGrants
  refine State.sameQuiet_trans (State.sameQuiet_when ?_ _ (skipperGrantEnds_quiet _)) (holdUpdate_quiet _)
  split <;> simp (disch := grind)

@[simp] theorem setTimeRoot_quiet (root : Bool) (s : State) : s.sameQuiet (setTimeRoot root s) := by
  simp (disch := grind) [setTimeRoot]

@[simp] theorem commitEffect_quiet (f : CmdFrame) (key : BitVec 128) (s : State) : s.sameQuiet (commitEffect f key s).1 := by
  unfold commitEffect
  extract_lets y
  split
  · exact loadCommand_quiet ..
  · exact loadCommand_quiet ..
  · exact setLifecycle_quiet ..
  · exact rekey_quiet ..
  · exact keyLoad_quiet ..
  · exact dieResetCommit_quiet ..
  · exact bistEnter_quiet ..
  · exact spareCommit_quiet ..
  · exact pprCommit_quiet ..
  · exact eraseCommit_quiet s
  · exact setGrants_quiet ..
  · exact setTimeRoot_quiet ..
  · exact State.sameQuiet_refl s

@[simp] theorem logResult_quiet (w : CmdWait) (reason : Nat) (consumed : Bool) (detail : Nat) (s : State) :
    s.sameQuiet (logResult w reason consumed detail s) := by
  unfold logResult
  refine State.sameQuiet_when ?_ _ ?_ <;> simp (disch := grind)

@[simp] theorem commitOne_quiet (e : CmdWait × BitVec 128) (s : State) : s.sameQuiet (commitOne e s) := by
  unfold commitOne
  dsimp only
  split_ifs
  · exact State.sameQuiet_refl s
  · exact logResult_quiet ..
  · exact commitEffect_quiet ..
  · exact State.sameQuiet_trans (commitEffect_quiet ..) (logResult_quiet ..)

theorem commitCommands_quiet (s : State) : s.sameQuiet (commitCommands s) :=
  State.sameQuiet_each (State.sameQuiet_refl s) _ fun t e _ =>
    State.sameQuiet_trans (t := { t with cmd := { t.cmd with acc := t.cmd.acc.drop 1 } }) ⟨rfl, rfl⟩ (commitOne_quiet e _)

end Sys2Proof.Machine
end

section
/-! SUPPORT. The quiet window, continued: the scrub steps and the refreshes, and the opening itself. -/

namespace Sys2Proof.Machine

/-! ### Scrub steps -/

@[simp] theorem State.setScrub_quiet (s : State) (d : Nat) (x : ScrubSt) : s.sameQuiet (s.setScrub d x) := by simp [State.setScrub]

@[simp] theorem scrubMove_quiet (d n : Nat) (s : State) : s.sameQuiet (scrubMove d n s) := by
  unfold scrubMove
  split
  · simp (disch := grind)
  · refine State.sameQuiet_trans (State.sameQuiet_when ?_ _ ?_) (State.setScrub_quiet _ d _) <;> simp (disch := grind)

@[simp] theorem scrubSkip_quiet (n d : Nat) (s : State) : s.sameQuiet (scrubSkip n d s) := by
  induction n generalizing s with
  | zero => exact State.sameQuiet_refl s
  | succ n ih =>
    unfold scrubSkip
    dsimp only
    split
    · exact State.sameQuiet_trans (scrubMove_quiet d _ s) (ih _)
    · exact State.sameQuiet_refl s

@[simp] theorem scrubColumn_quiet (d c : Nat) (s : State) : s.sameQuiet (scrubColumn d c s) := by
  unfold scrubColumn
  split
  · exact State.sameQuiet_refl s
  · have hcount : s.sameQuiet (s.inc d ⟨SPARE_COLCNT c, 0, 32⟩ 1) := by simp (disch := grind)
    dsimp only
    split
    · refine State.sameQuiet_trans hcount (State.evtLatch_quiet _ d _ (by grind) ?_)
      simp (disch := grind)
    · exact hcount

@[simp] theorem scrubFixed_quiet (d : Nat) (e : FrameErr) (s : State) : s.sameQuiet (scrubFixed d e s) := by
  simp (disch := grind) [scrubFixed]

@[simp] theorem scrubBad_quiet (d i : Nat) (e : FrameErr) (s : State) : s.sameQuiet (scrubBad d i e s) := by
  unfold scrubBad
  dsimp only
  split <;> simp (disch := grind)

@[simp] theorem scrubCheck_quiet (d i : Nat) (e : FrameErr) (s : State) : s.sameQuiet (scrubCheck d i e s) := by
  unfold scrubCheck
  split
  · exact State.sameQuiet_refl s
  · split
    · exact scrubFixed_quiet d e s
    · split
      · exact scrubBad_quiet d i e s
      · extract_lets pick key wrong drawn t
        have hdrawn : s.sameQuiet drawn := ⟨rfl, rfl⟩
        clear_value drawn
        split
        · exact hdrawn
        · split
          · exact State.sameQuiet_trans hdrawn (scrubFixed_quiet d e { drawn with fab := _ })
          · exact State.sameQuiet_trans hdrawn (scrubBad_quiet d i e drawn)

@[simp] theorem scrubOne_quiet (d : Nat) (e : Nat → FrameErr) (s : State) : s.sameQuiet (scrubOne d e s) := by
  unfold scrubOne
  dsimp only
  split <;> simp

@[simp] theorem scrubMany_quiet (n d : Nat) (e : Nat → FrameErr) (s : State) : s.sameQuiet (scrubMany n d e s) := by
  induction n generalizing s with
  | zero => exact State.sameQuiet_refl s
  | succ n ih => exact State.sameQuiet_trans (scrubOne_quiet d e s) (ih _)

@[simp] theorem scrubQuietDie_quiet (q : QuietIn) (d : Nat) (s : State) : s.sameQuiet (scrubQuietDie q d s) := by
  unfold scrubQuietDie
  split <;> simp

theorem scrubQuiet_quiet (q : QuietIn) (s : State) : s.sameQuiet (scrubQuiet q s) := by
  unfold scrubQuiet
  refine State.sameQuiet_each (State.sameQuiet_refl s) _ fun t d _ => ?_
  split <;> simp

/-! ### Refreshes -/

@[simp] theorem issueRefresh_quiet (n : Nat) (s : State) : s.sameQuiet (issueRefresh n s) := by simp (disch := grind) [issueRefresh]

@[simp] theorem refreshOwed_quiet (s : State) : s.sameQuiet (refreshOwed s) := by
  unfold refreshOwed
  split <;> simp

theorem refreshQuiet_quiet (s : State) : s.sameQuiet (refreshQuiet s) := by
  unfold refreshQuiet
  split <;> simp

/-! ### The opening -/

/-- A bit of the register of core 0's interrupts is as the register is. -/
theorem State.f_of_irq {s t : State} (h : s.sameQuiet t) {i n : Nat} :
    t.f 0 ⟨CORE_IRQ_PEND 0, i, n⟩ = s.f 0 ⟨CORE_IRQ_PEND 0, i, n⟩ := by
  rw [State.f_file, State.f_file]
  exact congrArg (bitsOf · i n) h.2

@[simp] theorem coreIrq_tick (x : Nat → Fld) (s : State) : (coreIrq x s).tick = s.tick := by
  refine State.each_keeps (fun t => t.tick = s.tick) _ _ (fun t c _ ht => ?_) s rfl
  split
  · exact (State.setF_tick ..).trans ht
  · exact ht

/-- The cores other than core 0 are on other dies or in other slots. -/
theorem otherCore {c : Nat} (hc : c ∈ List.range' 1 12) : coreDie c ≠ 0 ∨ coreSlot c ≠ 0 := by
  have : 1 ≤ c ∧ c < 13 := by simpa using hc
  unfold coreDie coreSlot
  split_ifs <;> omega

/-- The interrupts of the other cores pend in other registers, so core 0 has its own where it runs (R482). -/
theorem coreIrq_quiet (s : State) (h : s.live 0 = true) : (coreIrq CORE_IRQ_PEND_quiet s).f 0 (CORE_IRQ_PEND_quiet 0) = 1 := by
  have hcores : allCores = 0 :: List.range' 1 12 := rfl
  have hlive : s.live (coreDie 0) = true := h
  have hothers : (s.setKf 0 CORE_IRQ_PEND_quiet 1).sameQuiet (coreIrq CORE_IRQ_PEND_quiet s) := by
    rw [coreIrq, hcores, State.each_cons, if_pos hlive]
    refine State.sameQuiet_each (State.sameQuiet_refl _) _ fun t c hc => ?_
    have := otherCore hc
    split
    · exact State.sameQuiet_setF (State.sameQuiet_refl t) _ _ _ (by grind)
    · exact State.sameQuiet_refl t
  rw [State.f_of_irq hothers]
  exact State.f_setF_fits s 0 (CORE_IRQ_PEND_quiet 0) 1 (by decide) (by decide)

/-- The duties of a quiet window leave it open and core 0's interrupts pending. -/
theorem quietDuties_quiet (q : QuietIn) (s : State) :
    s.sameQuiet (refreshQuiet (scrubQuiet q (if s.lateDuty 0 1 then s else commitCommands s))) := by
  refine State.sameQuiet_trans (State.sameQuiet_trans ?_ (scrubQuiet_quiet q _)) (refreshQuiet_quiet _)
  split
  · exact State.sameQuiet_refl s
  · exact commitCommands_quiet s

/-- A quiet window opens in a tick that has one and in which none has opened (R482). -/
theorem quietWindowOpen_opens (q : QuietIn) {s : State} (hm : s.mayOpen = true) :
    (quietWindowOpen q s).tick.quietOpen = true ∧
    (s.live 0 = true → (quietWindowOpen q s).f 0 (CORE_IRQ_PEND_quiet 0) = 1) := by
  unfold quietWindowOpen
  rw [if_neg (by simp [hm])]
  extract_lets _ opened told
  have hduties := quietDuties_quiet q told
  have htold : told.tick = opened.tick := coreIrq_tick _ _
  refine ⟨?_, fun hlive => ?_⟩
  · rw [hduties.1, htold]
  · rw [State.f_of_irq hduties]
    exact coreIrq_quiet opened hlive

end Sys2Proof.Machine
end

section
/-! SUPPORT. The boundary, the commits of the records and the heartbeat check (R51, R71, R396, R477). -/

namespace Sys2Proof.Machine

/-! ### A command of the timebase -/

/-- A command of the timebase whose effect is f answers the state that f leaves, at the time that its clock says. -/
theorem exec_answersAt {c : Instr} {clock : State → Time} {f : State → State} {s : State} {P : State → Prop}
    (hc : exec c s = runTime clock f s) {u : State} (hu : f s.fresh = u) (hP : P { s.ended u with time := clock s }) :
    ∃ t, exec c s = .next t ∧ P t := ⟨_, hc, hu ▸ hP⟩

/-- A running timebase runs. -/
theorem State.tbRuns_of {s : State} (h : s.tick.tb = .running) : s.tbRuns = true := by simp [State.tbRuns, h]

/-- A tick of 80 tb or more is no test period (R53). -/
theorem State.testPeriod_of {s : State} (h : 80 ≤ s.time.p) : s.testPeriod = false := by
  simp [State.testPeriod]; omega

/-! ### The boundary -/

/-- What comes before the move of the time leaves the commands as they were. -/
theorem beforeBoundary_cmd (x : BoundaryIn) (s : State) :
    (nextTick (xfifoErrors x.xfifo (lateDuties x.lateDuties (s.each x.offsets (fun s e => slackOffset e.1 e.2 s))))).cmd = s.cmd := by
  have hoffset (m : Monitor) (off : Nat) (t : State) : (slackOffset m off t).cmd = t.cmd := by
    unfold slackOffset
    cases m with
    | router a b => exact State.setF_cmd ..
    | region d i =>
      dsimp only [State.largest]
      split <;> simp
    | duty d k => exact State.setF_cmd ..
  have hlate (l : List (Die × Nat)) (t : State) : (lateDuties l t).cmd = t.cmd := by
    unfold lateDuties
    refine State.each_keeps (fun u => u.cmd = t.cmd) _ _ (fun u e _ hu => ?_) _ rfl
    split
    · exact (State.evt_cmd ..).trans hu
    · exact hu
  have hxfifo (l : List (FabDie × Fin 24 × BitVec 16)) (t : State) : (xfifoErrors l t).cmd = t.cmd := by
    unfold xfifoErrors
    refine State.each_keeps (fun u => u.cmd = t.cmd) _ _ (fun u e _ hu => ?_) t rfl
    dsimp only
    split
    · simp [hu]
    · exact hu
  have hnext (t : State) : (nextTick t).cmd = t.cmd := by
    unfold nextTick
    dsimp only
    split
    · exact State.setF_cmd ..
    · rfl
  rw [hnext, hxfifo, hlate]
  exact State.each_keeps (fun u => u.cmd = s.cmd) _ _ (fun u e _ hu => (hoffset e.1 e.2 u).trans hu) s rfl

/-- Where no restart is due, a boundary ends with the tick's commands not yet taken (R500). -/
theorem tickBoundary_ticked (x : BoundaryIn) {s : State} (htb : s.tbRuns = true) (hend : s.cmd.ended = none) :
    (tickBoundary x s).f 0 CMD_STAT_ticked = 0 := by
  unfold tickBoundary
  rw [if_neg (by simp [htb])]
  extract_lets wasTest offsets late moved changed _ begun
  have hcmd : begun.cmd = s.cmd := beforeBoundary_cmd x s
  have hgo : begun.endsNow = false := by simp [State.endsNow, hcmd, hend]
  rw [if_neg (by simp [hgo])]
  exact State.f_setF_fits _ 0 CMD_STAT_ticked 0 (by decide) (by decide)

/-- With no change due the next tick keeps P and Q (R51). -/
theorem State.boundaryTime_none {s : State} (htb : s.tbRuns = true) (h : s.dueChange = none) :
    s.boundaryTime = ⟨s.time.bnd + s.time.p, s.time.num + 1, s.time.bnd + s.time.p, s.time.p, s.time.q⟩ := by
  simp [State.boundaryTime, State.nextTime, htb, h]

/-- A change that is due gives the next tick its P and Q (R71). -/
theorem State.boundaryTime_some {s : State} {c : Change} (htb : s.tbRuns = true) (h : s.dueChange = some c) :
    s.boundaryTime = ⟨s.time.bnd + s.time.p, s.time.num + 1, s.time.bnd + s.time.p, c.p, c.q⟩ := by
  simp [State.boundaryTime, State.nextTime, htb, h]

/-- A legal change pending for the next tick is due at its boundary (R71). -/
theorem State.dueChange_of {s : State} {c : Change} (h : s.tick.pend = some c) (ht : c.tick = s.time.num + 1)
    (hp : periodOk c.p c.q = true) : s.dueChange = some c := by
  simp [State.dueChange, h, ht, hp]

/-! ### The commits of the records -/

/-- From s to t nothing changes but the record service, and registers of its page and of the error page of IOS. -/
abbrev State.recordsOnly (s t : State) : Prop :=
  s.onlyPages t [(0, 0x20), (0, 0x70)] ∧ t.rest = { s.rest with rec_ := t.rec_ }

/-- Nothing changes. -/
theorem State.recordsOnly_refl (s : State) : s.recordsOnly s := ⟨State.onlyPages_refl s _, rfl⟩

/-- One change after another. -/
theorem State.recordsOnly_trans {s t u : State} (h : s.recordsOnly t) (h' : t.recordsOnly u) : s.recordsOnly u :=
  ⟨State.onlyPages_trans h.1 h'.1, by rw [h'.2, h.2]⟩

/-- A change for each element of a list. -/
theorem State.recordsOnly_each {α : Type} {s t : State} (h : s.recordsOnly t) (l : List α) {f : State → α → State}
    (hf : ∀ u : State, ∀ a ∈ l, u.recordsOnly (f u a)) : s.recordsOnly (t.each l f) :=
  State.each_keeps (fun u => s.recordsOnly u) f l (fun u a ha hu => State.recordsOnly_trans hu (hf u a ha)) t h

/-- A store into one of the two pages. -/
theorem State.recordsOnly_setF (s : State) (x : Fld) (v : Nat) (hr : x.reg < 0x1000000)
    (hm : (0, x.reg / 0x10000) ∈ [(0, 0x20), (0, 0x70)]) : s.recordsOnly (s.setF 0 x v) :=
  ⟨State.onlyPages_setF (State.onlyPages_refl s _) 0 x v hr hm, rfl⟩

/-- The record service changes on its own. -/
theorem State.recordsOnly_rec (s : State) (x : RecSt) : s.recordsOnly { s with rec_ := x } :=
  ⟨State.onlyPages_regs (State.onlyPages_refl s _) rfl, rfl⟩

theorem putDir_recordsOnly (k : Nat) (x : DirEnt) (s : State) : s.recordsOnly (putDir k x s) := by
  unfold putDir
  extract_lets _ stored
  have hstored : s.recordsOnly stored := State.recordsOnly_rec s _
  clear_value stored
  split
  · exact State.recordsOnly_trans hstored (State.recordsOnly_rec stored _)
  · exact State.recordsOnly_trans hstored (State.recordsOnly_setF stored _ 0 (by decide) (by decide))

theorem settleEntry_recordsOnly (k : Nat) (s : State) : s.recordsOnly (settleEntry k s) := by
  unfold settleEntry
  dsimp only
  split
  · exact putDir_recordsOnly ..
  · exact State.recordsOnly_refl s

theorem commitRecs_recordsOnly (l : List RecRef) (held : List Nat) (s : State) : s.recordsOnly (commitRecs l held s).1 := by
  induction l generalizing held s with
  | nil => exact State.recordsOnly_refl s
  | cons r l ih =>
    unfold commitRecs
    dsimp only
    split
    · exact ih ..
    · refine State.recordsOnly_trans ?_ (ih held _)
      split
      · exact State.recordsOnly_refl s
      · exact putDir_recordsOnly ..

theorem commitEngine_recordsOnly (e : Nat) (s : State) : s.recordsOnly (commitEngine e s) := by
  unfold commitEngine
  refine State.recordsOnly_each (State.recordsOnly_refl s) _ fun t p _ => ?_
  unfold commitPort
  dsimp only
  refine State.recordsOnly_each ?_ _ fun u k _ => settleEntry_recordsOnly k u
  exact State.recordsOnly_trans (commitRecs_recordsOnly _ [] t) (State.recordsOnly_rec _ _)

/-- A contained error of IOS shows in its error page only. -/
theorem errReport_recordsOnly (s : State) : s.recordsOnly (errReport 0 10 .contained 0x1F 0 s) := by
  have hdie (t : State) : t.recordsOnly (dieReport 0 10 .contained 0x1F 0 t) :=
    State.recordsOnly_trans (State.recordsOnly_setF t ErrClass.contained.counter _ (by decide) (by decide))
      (State.recordsOnly_setF _ ⟨ERR_SRC, 10, 1⟩ 1 (by decide) (by decide))
  unfold errReport
  split
  · exact State.recordsOnly_refl s
  · rw [if_pos (.inl rfl)]
    exact State.recordsOnly_trans (hdie s) (State.recordsOnly_setF _ ⟨ERR_DIES, 0, 1⟩ 1 (by decide) (by decide))

theorem dirBad_recordsOnly (k : Nat) (both : Bool) (s : State) : s.recordsOnly (dirBad k both s) := by
  unfold dirBad
  dsimp only
  split
  · have hevents (t : State) : t.recordsOnly ((t.evt 0 RECORD_EVT_dir_fault).evt 0 RECORD_EVT_seg_lost) :=
      State.recordsOnly_trans (State.recordsOnly_setF t RECORD_EVT_dir_fault 1 (by decide) (by decide))
        (State.recordsOnly_setF _ RECORD_EVT_seg_lost 1 (by decide) (by decide))
    exact State.recordsOnly_trans (State.recordsOnly_trans (putDir_recordsOnly ..) (hevents _)) (errReport_recordsOnly _)
  · exact State.recordsOnly_rec s _

theorem commitAll_recordsOnly (passes : Bool) (s : State) : s.recordsOnly (commitAll passes s) := by
  unfold commitAll
  extract_lets own
  have hown : s.recordsOnly own := by
    subst own
    split
    · exact State.recordsOnly_refl s
    · exact commitEngine_recordsOnly 0 s
  split
  · exact State.recordsOnly_trans hown (commitEngine_recordsOnly 1 own)
  · exact hown

/-- A commit in an open quiet window commits records and nothing else (R396). -/
theorem segmentCommit_recordsOnly (p : Bool) (l : List (BitVec 16 × Bool)) {s : State} (hm : s.mayCommit = true) :
    State.recordsOnly { s with time := s.commitTime } (segmentCommit p l s) := by
  unfold segmentCommit
  rw [if_neg (by simp [hm])]
  extract_lets moved
  refine State.recordsOnly_trans (State.recordsOnly_each (State.recordsOnly_refl moved) _ fun t k _ => ?_) (commitAll_recordsOnly p _)
  exact dirBad_recordsOnly ..

/-- A command of the timebase that changes only the records leaves the tick, and what it leaves of the rest. -/
theorem recordsOnly_ends {s u : State} {x : Time} (h : State.recordsOnly { s.fresh with time := x } u) :
    ({ s.ended u with time := x } : State).tick = s.tick ∧
    s.onlyPages { s.ended u with time := x } [(0, 0x20), (0, 0x70)] ∧
    ({ s.ended u with time := x } : State).rest = { s.rest with time := x, rec_ := u.rec_ } := by
  obtain ⟨hpages, hrest⟩ := h
  have htick : u.rest.tick = s.rest.tick := by rw [hrest]; rfl
  exact ⟨htick, hpages, congrArg (fun r => ({ s.ended r with time := x } : State).rest) hrest⟩

/-! ### The heartbeat check -/

/-- A check that finds a kick clears the misses and the kick (R477). -/
theorem heartbeatCheck_kicked {s : State} (hlive : s.live 0 = true) (hactive : s.f 0 CORE_HB_CFG_active = 1)
    (hkick : s.core.kicked = true) :
    heartbeatCheck s = ({ s with core := { s.core with kicked := false } }).setF 0 CORE_HB_STAT_misses 0 := by
  simp [heartbeatCheck, State.on, hlive, hactive, hkick]

/-- A check that finds no kick counts a miss below the limit (R477). -/
theorem heartbeatCheck_missed {s : State} (hlive : s.live 0 = true) (hactive : s.f 0 CORE_HB_CFG_active = 1)
    (hkick : s.core.kicked = false) (hhold : s.f 0 CORE_HB_CFG_hold = 0)
    (hlimit : s.f 0 CORE_HB_STAT_misses + 1 < s.f 0 CORE_HB_CFG_period) :
    heartbeatCheck s = s.setF 0 CORE_HB_STAT_misses (s.f 0 CORE_HB_STAT_misses + 1) := by
  simp [heartbeatCheck, State.on, hlive, hactive, hkick, hhold, Nat.not_le.mpr hlimit]

/-- The heartbeat of a tick of 80 tb or more is checked once. -/
theorem heartbeatTick_checks {s : State} (hm : s.mayCheck = true) :
    heartbeatTick s = heartbeatCheck { s with time := s.checkTime, tick := { s.tick with hbDone := true } } := by
  simp [heartbeatTick, hm]

/-- A state of the same registers with the misses stored reads them back, and no other field changes. -/
theorem missesStored {s t u : State} (hu : u.regs = s.regs) (v : Nat) (hv : v < 2 ^ CORE_HB_STAT_misses.len)
    (ht : t.regs = (u.setF 0 CORE_HB_STAT_misses v).regs) :
    t.f 0 CORE_HB_STAT_misses = v ∧ s.onlyFields t [(0, CORE_HB_STAT_misses)] := by
  refine ⟨(State.f_congr ht 0 _).trans (State.f_setF_fits u 0 _ v (by decide) hv), State.onlyFields_regs ?_ ht⟩
  exact State.onlyFields_setF (State.onlyFields_regs (State.onlyFields_refl s _) hu) 0 _ v (by decide) (by simp)

/-- Settles O15: each of the four commands moves the count by its own clock, and what it does besides keeps what is claimed of the rest. -/
theorem theTickAndItsDuties : Obligations.TheTickAndItsDuties := by
  unfold Obligations.TheTickAndItsDuties
  refine ⟨fun s b htb hnone => ?_, fun s b c htb hpend htick hok => ?_, fun s q htb hp hopen => ?_, fun s p l htb hp hopen => ?_,
    fun s htb hp hdone hlive hactive hkick => ?_, fun s htb hp hdone hlive hactive hkick hhold hlimit => ?_⟩
  · refine exec_answersAt (exec_tickBoundary b s) rfl ⟨State.boundaryTime_none (State.tbRuns_of htb) hnone, fun hend => ?_⟩
    exact tickBoundary_ticked b (s := s.fresh) (State.tbRuns_of (s := s.fresh) htb) hend
  · refine exec_answersAt (exec_tickBoundary b s) rfl ?_
    exact State.boundaryTime_some (State.tbRuns_of htb) (State.dueChange_of hpend htick hok)
  · have hm : s.mayOpen = true := by simp [State.mayOpen, State.tbRuns_of htb, State.testPeriod_of hp, hopen]
    obtain ⟨hopened, hirq⟩ := quietWindowOpen_opens q (s := s.fresh) hm
    refine exec_answersAt (exec_quietWindowOpen q s) rfl ⟨if_pos hm, hopened, hirq⟩
  · have hm : s.mayCommit = true := by simp [State.mayCommit, State.tbRuns_of htb, State.testPeriod_of hp, hopen]
    obtain ⟨htick, hpages, hrest⟩ := recordsOnly_ends (segmentCommit_recordsOnly p l (s := s.fresh) hm)
    exact exec_answersAt (exec_segmentCommit p l s) rfl ⟨if_pos hm, htick, hpages, hrest⟩
  · have hm : s.mayCheck = true := by simp [State.mayCheck, State.tbRuns_of htb, State.testPeriod_of hp, hdone]
    have htick := (heartbeatTick_checks (s := s.fresh) hm).trans (heartbeatCheck_kicked hlive hactive hkick)
    refine exec_answersAt (exec_heartbeatCheck s) htick ?_
    obtain ⟨hmisses, honly⟩ := missesStored (s := s) rfl 0 (by decide) rfl
    exact ⟨if_pos hm, hmisses, rfl, rfl, honly, rfl⟩
  · have hm : s.mayCheck = true := by simp [State.mayCheck, State.tbRuns_of htb, State.testPeriod_of hp, hdone]
    have hfits := hlimit.trans (State.f_lt s 0 CORE_HB_CFG_period)
    have htick := (heartbeatTick_checks (s := s.fresh) hm).trans (heartbeatCheck_missed hlive hactive hkick hhold hlimit)
    refine exec_answersAt (exec_heartbeatCheck s) htick ?_
    obtain ⟨hmisses, honly⟩ := missesStored (s := s) rfl (s.f 0 CORE_HB_STAT_misses + 1) hfits rfl
    exact ⟨if_pos hm, hmisses, rfl, honly, rfl⟩

end Sys2Proof.Machine
end

section
/-! SUPPORT. Checked arithmetic (04): residues and wraps, the four modes keep the result checks, and a cycle without an upset (R126 to R140). -/

namespace Sys2Proof.Machine

/-! ### Residues (R132) -/

/-- A residue stands for its integer modulo 255. -/
theorem residue_modEq (x : Int) : (residue x : Int) ≡ x [ZMOD 255] := by
  rw [residue, Int.toNat_of_nonneg (Int.emod_nonneg x (by decide))]
  exact Int.mod_modEq x 255

/-- Congruent integers have one residue. -/
theorem residue_congr {x y : Int} (h : x ≡ y [ZMOD 255]) : residue x = residue y := congrArg Int.toNat h

/-- Taking the residue twice is taking it once. -/
theorem residue_residue (x : Int) : residue (residue x) = residue x := residue_congr (residue_modEq x)

/-- A residue fits its register. -/
theorem residue_lt (x : Int) : residue x < 2 ^ 8 := by
  have := Int.emod_lt_of_pos x (by decide : (0 : Int) < 255)
  unfold residue
  omega

/-- Sum and difference respect residues. -/
theorem addSub_modEq (neg : Bool) {z z' p p' : Int} (hz : z ≡ z' [ZMOD 255]) (hp : p ≡ p' [ZMOD 255]) :
    addSub neg z p ≡ addSub neg z' p' [ZMOD 255] := by
  unfold addSub
  split
  · exact hz.sub hp
  · exact hz.add hp

/-- The multiplier's rule of R134. -/
theorem residue_mul_modEq (a b : Int) : ((residue a * residue b : Nat) : Int) ≡ a * b [ZMOD 255] := by
  push_cast
  exact (residue_modEq a).mul (residue_modEq b)

/-- A reduced number stands for what the number stands for. -/
theorem natMod_modEq {m : Nat} {p : Int} (h : (m : Int) ≡ p [ZMOD 255]) : ((m % 255 : Nat) : Int) ≡ p [ZMOD 255] := by
  push_cast
  exact (Int.mod_modEq _ _).trans h

/-- The multiplier's rule of R134, with the product reduced. -/
theorem residue_mul_mod_modEq (a b : Int) : ((residue a * residue b % 255 : Nat) : Int) ≡ a * b [ZMOD 255] :=
  natMod_modEq (residue_mul_modEq a b)

/-! ### Registers and their wraps (R128, R129) -/

/-- A register of n bits reads its low n bits only. -/
theorem numOf_mod (signed : Bool) {n m : Nat} (h : n ≤ m) (x : Nat) : numOf signed n (x % 2 ^ m) = numOf signed n x := by
  rw [numOf, numOf, Nat.mod_mod_of_dvd x (pow_dvd_pow 2 h)]

/-- A field inside the low m bits reads the low m bits only. -/
theorem nbits_mod {lo n m : Nat} (h : lo + n ≤ m) (x : Nat) : nbits (x % 2 ^ m) lo n = nbits x lo n := by
  obtain ⟨j, rfl⟩ := Nat.exists_eq_add_of_le h
  unfold nbits
  rw [add_assoc, pow_add, Nat.mod_mul_right_div_self, Nat.mod_mod_of_dvd _ (pow_dvd_pow 2 (Nat.le_add_right n j))]

/-- A field at bit 0 is the low bits. -/
theorem nbits_zero (x n : Nat) : nbits x 0 n = x % 2 ^ n := by simp [nbits]

/-- Half the range of a register. -/
theorem two_pow_eq_double {n : Nat} (hn : 0 < n) : (2 : Int) ^ n = 2 * 2 ^ (n - 1) := by
  rw [← pow_succ', Nat.sub_add_cancel hn]

/-- A number below 2 h read as signed: the upper half stands for the negative numbers. -/
theorem signed_of_half {h y : Int} (h0 : 0 ≤ y) (h1 : y < 2 * h) : (if h ≤ y then y - 2 * h else y) = (y + h) % (2 * h) - h := by
  split
  · rw [show y + h = y - h + 2 * h by ring, Int.add_emod_right, Int.emod_eq_of_lt (by omega) (by omega)]
    ring
  · rw [Int.emod_eq_of_lt (by omega) (by omega)]
    ring

/-- What n bits hold of x is its remainder. -/
theorem lowBits_cast (n : Nat) (x : Int) : (lowBits n x : Int) = x % 2 ^ n := Int.toNat_of_nonneg (Int.emod_nonneg x (by positivity))

/-- What n bits hold of x fits n bits. -/
theorem lowBits_lt (n : Nat) (x : Int) : lowBits n x < 2 ^ n := by
  have h := Int.emod_lt_of_pos x (by positivity : (0 : Int) < 2 ^ n)
  rw [← lowBits_cast] at h
  exact_mod_cast h

/-- What n bits hold of x, read as signed, is x without the wraps that `wrapDir` counts. -/
theorem numOf_lowBits {n : Nat} (hn : 0 < n) (x : Int) : numOf true n (lowBits n x) = x - wrapDir n x * 2 ^ n := by
  have hhalf : 2 ^ (n - 1) ≤ lowBits n x ↔ (2 : Int) ^ (n - 1) ≤ x % 2 ^ n := by
    rw [← lowBits_cast]
    norm_cast
  have hwrap : x - wrapDir n x * 2 ^ n = (x + 2 ^ (n - 1)) % 2 ^ n - 2 ^ (n - 1) := by
    rw [wrapDir, Int.emod_def]
    ring
  simp only [numOf, true_and, Nat.mod_eq_of_lt (lowBits_lt n x), hhalf, lowBits_cast]
  rw [hwrap, ← Int.emod_add_emod, two_pow_eq_double hn]
  exact signed_of_half (Int.emod_nonneg x (by positivity)) (Int.emod_lt_of_pos x (by positivity))

/-- The accumulator's rule of R134: the carried residue is that of what the register holds, wraps included. -/
theorem accumulate_residue {n : Nat} (hn : 0 < n) (neg : Bool) {z : Int × Nat} {p : Int} {rp : Nat}
    (hz : (z.2 : Int) ≡ z.1 [ZMOD 255]) (hp : (rp : Int) ≡ p [ZMOD 255]) :
    residue (numOf true n (accumulate n neg z p rp).1) = (accumulate n neg z p rp).2.1 := by
  simp only [accumulate, numOf_lowBits hn]
  exact residue_congr ((addSub_modEq neg hz hp).sub ((Int.mod_modEq _ _).mul_left _)).symm

/-- The result of an accumulation fits its register. -/
theorem accumulate_lt (n : Nat) (neg : Bool) (z : Int × Nat) (p : Int) (rp : Nat) : (accumulate n neg z p rp).1 < 2 ^ n := lowBits_lt ..

/-! ### The result checks (R136) -/

/-- The checks of kinds 1, 3 and 4 pass on what a block of mode m holds. -/
structure CmbBlk.agrees (m : Nat) (k : CmbBlk) : Prop where
  lane0 : valueResidue m false k.acc.toNat = k.r0.toNat
  lane1 : m = 1 → valueResidue m true k.acc.toNat = k.r1.toNat
  copies : m = 3 → nbits k.acc.toNat 23 9 = k.dup.toNat

/-- The check of kind 2 passes on the cascade value that arrives at a block of mode m. -/
def CmbIn.agrees (m : Nat) (x : CmbIn) : Prop :=
  x.zsel = 3 → valueResidue m false x.cin.toNat = x.cinR0.toNat ∧ (m = 1 → valueResidue m true x.cin.toNat = x.cinR1.toNat)

/-- The residues of an operation's result in mode m are those of its value. -/
structure CmbOut.agrees (m : Nat) (o : CmbOut) : Prop where
  lane0 : valueResidue m false o.acc = o.r0
  lane1 : m = 1 → valueResidue m true o.acc = o.r1

/-- No check fails exactly when the block and the cascade agree with their residues. -/
theorem cmbChecks_eq_nil_iff (g : CmbCfg) (x : CmbIn) (k : CmbBlk) :
    cmbChecks g x k = [] ↔ k.agrees g.mode.val ∧ x.agrees g.mode.val := by
  simp only [cmbChecks, List.append_eq_nil_iff, ite_eq_right_iff, List.cons_ne_nil, imp_false, Bool.and_eq_true, Bool.or_eq_true,
    decide_eq_true_eq, ne_eq, not_and, not_or, not_not]
  exact ⟨fun ⟨⟨⟨h1, h2⟩, h3⟩, h4⟩ => ⟨⟨h1, h4, h3⟩, h2⟩, fun ⟨⟨h1, h4, h3⟩, h2⟩ => ⟨⟨⟨h1, h2⟩, h3⟩, h4⟩⟩

/-- A result goes into the registers of a block, with the second copy of sign and exponent in F32. -/
def CmbBlk.load (g : CmbCfg) (o : CmbOut) (k : CmbBlk) : CmbBlk :=
  { k with acc := BitVec.ofNat 80 o.acc, r0 := BitVec.ofNat 8 o.r0, r1 := BitVec.ofNat 8 o.r1,
           dup := if g.mode = 3 then BitVec.ofNat 9 (o.acc / 2 ^ 23) else 0, ovf := o.ovf, flags := BitVec.ofNat 4 o.flags }

/-- The residues of a value are those of the 80 bits that a register keeps of it. -/
theorem valueResidue_mod (m : Nat) (lane1 : Bool) (v : Nat) : valueResidue m lane1 (v % 2 ^ 80) = valueResidue m lane1 v := by
  have hlane : (if lane1 then 40 else 0) + 40 ≤ 80 := by split <;> omega
  rw [valueResidue, valueResidue, nbits_mod (by decide), nbits_mod hlane, numOf_mod true (by decide)]

/-- A residue of a value fits its register. -/
theorem valueResidue_lt (m : Nat) (lane1 : Bool) (v : Nat) : valueResidue m lane1 v < 2 ^ 8 := by
  unfold valueResidue
  split_ifs <;> exact residue_lt _

/-- The result checks pass on a result once it is in the registers. -/
theorem CmbOut.agrees.load {g : CmbCfg} {o : CmbOut} (h : o.agrees g.mode.val) (k : CmbBlk) : (k.load g o).agrees g.mode.val where
  lane0 := by
    rw [CmbBlk.load, BitVec.toNat_ofNat, BitVec.toNat_ofNat, valueResidue_mod, ← h.lane0, Nat.mod_eq_of_lt (valueResidue_lt ..)]
  lane1 hm := by
    rw [CmbBlk.load, BitVec.toNat_ofNat, BitVec.toNat_ofNat, valueResidue_mod, ← h.lane1 hm, Nat.mod_eq_of_lt (valueResidue_lt ..)]
  copies hm := by
    rw [CmbBlk.load, if_pos (Fin.ext hm), BitVec.toNat_ofNat, BitVec.toNat_ofNat, nbits_mod (by decide), nbits]

/-! ### The modes of whole numbers (R127 to R129, R134) -/

/-- In M27 and Q8 the residue is that of the 64-bit accumulator. -/
theorem valueResidue_wide {m : Nat} (h1 : m ≠ 1) (h3 : m ≠ 3) (lane1 : Bool) (v : Nat) :
    valueResidue m lane1 v = residue (numOf true 64 v) := by
  rw [valueResidue, if_neg h3, if_neg h1]

/-- In D18 each lane has its own residue. -/
theorem valueResidue_lane (lane1 : Bool) (v : Nat) :
    valueResidue 1 lane1 v = residue (numOf true 40 (nbits v (if lane1 then 40 else 0) 40)) := rfl

/-- The addend of a lane comes with its own residue. -/
theorem addend_modEq {x : CmbIn} {k : CmbBlk} {zsel lo n : Nat} {rOwn rCin : Byte}
    (hown : residue (numOf true n (nbits k.acc.toNat lo n)) = rOwn.toNat)
    (hcin : zsel = 3 → residue (numOf true n (nbits x.cin.toNat lo n)) = rCin.toNat) :
    ((addend x k zsel lo n rOwn rCin).2 : Int) ≡ (addend x k zsel lo n rOwn rCin).1 [ZMOD 255] := by
  unfold addend
  split_ifs with h1 h2 h3
  · exact hown ▸ residue_modEq _
  · exact residue_modEq _
  · exact hcin h3 ▸ residue_modEq _
  · rfl

/-- In M27 and Q8 the addend comes with its own residue. -/
theorem addend_wide_modEq {m : Nat} {x : CmbIn} {k : CmbBlk} (h1 : m ≠ 1) (h3 : m ≠ 3) (hk : k.agrees m) (hx : x.agrees m) :
    ((addend x k x.zsel 0 64 k.r0 x.cinR0).2 : Int) ≡ (addend x k x.zsel 0 64 k.r0 x.cinR0).1 [ZMOD 255] := by
  refine addend_modEq ?_ (fun hz => ?_) <;> rw [nbits_zero, numOf_mod true le_rfl, ← valueResidue_wide h1 h3 false]
  · exact hk.lane0
  · exact (hx (Fin.ext hz)).1

/-- The pre-adder's rule of R134: 2^27 leaves 8 modulo 255. -/
theorem preAdder_modEq (presub : Bool) (a d w : Int) :
    (residue (addSub presub (residue a) (residue d) - 8 * w) : Int) ≡ addSub presub a d - w * 2 ^ 27 [ZMOD 255] := by
  have hw : 8 * w ≡ w * 2 ^ 27 [ZMOD 255] := by
    rw [mul_comm]
    exact Int.ModEq.mul_left w (by decide)
  exact (residue_modEq _).trans ((addSub_modEq presub (residue_modEq a) (residue_modEq d)).sub hw)

/-- M27, with and without the pre-adder. -/
theorem cmbM27_agrees (g : CmbCfg) {x : CmbIn} {k : CmbBlk} (hk : k.agrees 0) (hx : x.agrees 0) : (cmbM27 g x k).agrees 0 where
  lane0 := by
    rw [valueResidue_wide (by decide) (by decide), cmbM27]
    refine accumulate_residue (by decide) _ (addend_wide_modEq (by decide) (by decide) hk hx) (natMod_modEq ?_)
    push_cast
    refine Int.ModEq.mul ?_ (residue_modEq _)
    split
    · exact preAdder_modEq ..
    · exact residue_modEq _
  lane1 h := absurd h (by decide)

/-- Q8, the four products together. -/
theorem cmbQ8_agrees (g : CmbCfg) {x : CmbIn} {k : CmbBlk} (hk : k.agrees 2) (hx : x.agrees 2) : (cmbQ8 g x k).agrees 2 where
  lane0 := by
    rw [valueResidue_wide (by decide) (by decide), cmbQ8]
    refine accumulate_residue (by decide) _ (addend_wide_modEq (by decide) (by decide) hk hx) (natMod_modEq ?_)
    rw [Nat.cast_add, Nat.cast_add, Nat.cast_add]
    exact (((residue_mul_modEq ..).add (residue_mul_modEq ..)).add (residue_mul_modEq ..)).add (residue_mul_modEq ..)
  lane1 h := absurd h (by decide)

/-- The lanes of D18 lie side by side in the accumulator. -/
theorem nbits_lanes {p0 p1 : Nat} (h0 : p0 < 2 ^ 40) (h1 : p1 < 2 ^ 40) :
    nbits (p0 + p1 * 2 ^ 40) 0 40 = p0 ∧ nbits (p0 + p1 * 2 ^ 40) 40 40 = p1 := by
  unfold nbits
  omega

/-- The addend select of D18, where ZSEL = 2 acts as 0, names CIN only where ZSEL does (R127). -/
theorem zsel_of_lanes {x : CmbIn} (h : (if x.zsel = 2 then 0 else x.zsel.val) = 3) : x.zsel = 3 := by
  split at h
  · contradiction
  · exact Fin.ext h

/-- D18, lane by lane. -/
theorem cmbD18_agrees (g : CmbCfg) {x : CmbIn} {k : CmbBlk} (hk : k.agrees 1) (hx : x.agrees 1) : (cmbD18 g x k).agrees 1 where
  lane0 := by
    rw [valueResidue_lane, cmbD18, if_neg Bool.false_ne_true, (nbits_lanes (accumulate_lt ..) (accumulate_lt ..)).1]
    refine accumulate_residue (by decide) _ (addend_modEq hk.lane0 fun hz => ?_) (residue_mul_mod_modEq ..)
    exact (hx (zsel_of_lanes hz)).1
  lane1 _ := by
    rw [valueResidue_lane, cmbD18, if_pos rfl, (nbits_lanes (accumulate_lt ..) (accumulate_lt ..)).2]
    refine accumulate_residue (by decide) _ (addend_modEq (hk.lane1 rfl) fun hz => ?_) (residue_mul_mod_modEq ..)
    exact (hx (zsel_of_lanes hz)).2 rfl

/-! ### F32 (R130, R134) -/

/-- A stored value of 32 bits that is no subnormal. -/
def notSubnormal (v : Nat) : Prop := fExp (v % 2 ^ 32) = 0 → fFrac (v % 2 ^ 32) = 0

/-- The significand that the adder takes of an addend: a subnormal counts as zero (R130). -/
def fAligned (z : Nat) : Int := if fExp z = 0 then 0 else fCarried z

/-- Of a stored value that is no subnormal the adder takes the significand whose residue is carried. -/
theorem fAligned_of_notSubnormal {v : Nat} (h : notSubnormal v) : fAligned (nbits v 0 32) = fCarried (nbits v 0 32) := by
  rw [nbits_zero, fAligned]
  split
  next he => rw [fCarried, if_pos he, h he, Nat.cast_zero]
  next => rfl

/-- NEG keeps the exponent. -/
@[simp] theorem fExp_neg (z : Nat) : fExp (z ^^^ 0x80000000) = fExp z := by
  rw [fExp, nbits, Nat.xor_div_two_pow, Nat.xor_mod_two_pow, Nat.xor_zero, fExp, nbits]

/-- NEG keeps the fraction. -/
@[simp] theorem fFrac_neg (z : Nat) : fFrac (z ^^^ 0x80000000) = fFrac z := by
  rw [fFrac, nbits_zero, Nat.xor_mod_two_pow, Nat.xor_zero, fFrac, nbits_zero]

/-- NEG changes the sign alone, not what the adder takes. -/
theorem fAligned_neg (neg : Bool) (z : Nat) : fAligned (if neg then z ^^^ 0x80000000 else z) = fAligned z := by
  cases neg <;> simp [fAligned, fCarried]

/-- The addend of F32 comes with the residue of the significand that the adder takes. -/
theorem fAddend_residue {x : CmbIn} {k : CmbBlk} (hk : k.agrees 3) (hx : x.agrees 3) (hacc : x.zsel = 1 → notSubnormal k.acc.toNat)
    (hcin : x.zsel = 3 → notSubnormal x.cin.toNat) : (fAddend x k).2 = residue (fAligned (fAddend x k).1) := by
  unfold fAddend
  split_ifs with h1 h2 h3
  · rw [fAligned_of_notSubnormal (hacc h1)]
    exact hk.lane0.symm
  · simp only [fAligned]
  · rw [fAligned_of_notSubnormal (hcin h3)]
    exact (hx h3).1.symm
  · rfl

/-- The exponent lies in the low 32 bits. -/
theorem fExp_word (v : Nat) : fExp (v % 2 ^ 32) = fExp v := nbits_mod (by decide) v

/-- The fraction lies in the low 32 bits. -/
theorem fFrac_word (v : Nat) : fFrac (v % 2 ^ 32) = fFrac v := nbits_mod (by decide) v

/-- In F32 the residue is that of the significand with its hidden bit. -/
theorem valueResidue_f32 (lane1 : Bool) (v : Nat) : valueResidue 3 lane1 v = residue (fCarried v) := by
  simp only [valueResidue, fCarried, nbits_zero, fExp_word, fFrac_word, if_pos]

/-- F32: the addend's residue has no error to carry along, so what is left is the residue of the rounded significand. -/
theorem cmbF32_agrees {x : CmbIn} {k : CmbBlk} (open_ : Bool) (hk : k.agrees 3) (hx : x.agrees 3)
    (hacc : x.zsel = 1 → notSubnormal k.acc.toNat) (hcin : x.zsel = 3 → notSubnormal x.cin.toNat) :
    (cmbF32 x k open_).agrees 3 where
  lane0 := by
    have hz := fAddend_residue hk hx hacc hcin
    rw [valueResidue_f32]
    unfold cmbF32
    generalize fAddend x k = a at hz ⊢
    obtain ⟨z0, rz⟩ := a
    dsimp only at hz ⊢
    generalize fma _ _ _ open_ = f
    have hzero : (rz : Int) - residue (fAligned (if x.neg then z0 ^^^ 0x80000000 else z0)) = 0 := by
      rw [fAligned_neg, hz, sub_self]
    rw [fAligned] at hzero
    cases f.lsb with
    | none => rfl
    | some l => simp only [hzero, zero_mul, add_zero, sub_zero, ite_self, residue_residue]
  lane1 h := absurd h (by decide)

/-! ### A cycle of a block (R126) -/

/-- The residues of 0 are 0. -/
theorem valueResidue_zero (m : Nat) (lane1 : Bool) : valueResidue m lane1 0 = 0 := by
  have hlane : nbits 0 (if lane1 then 40 else 0) 40 = 0 := by simp [nbits]
  rw [valueResidue, hlane]
  split_ifs <;> decide

/-- Cleared registers agree in every mode. -/
theorem cmbOut_clear_agrees (m : Nat) : CmbOut.agrees m {} := ⟨valueResidue_zero m false, fun _ => valueResidue_zero m true⟩

section Cycle
variable {g : CmbCfg} {x : CmbIn} {k : CmbBlk} {open_ : Bool}

/-- With CE = 0 a block holds. -/
theorem cmbCycle_held (h : x.ce = false) : cmbCycle g x open_ k = k := by simp [cmbCycle, h]

/-- CLR puts 0 into the registers. -/
theorem cmbCycle_clear (h : x.ce = true) (hc : x.clr = true) : cmbCycle g x open_ k = k.load g {} := by
  simp [cmbCycle, CmbBlk.load, h, hc]

/-- A cycle in M27. -/
theorem cmbCycle_m27 (h : x.ce = true) (hc : x.clr = false) (hm : g.mode = 0) :
    cmbCycle g x open_ k = k.load g (cmbM27 g x k) := by simp [cmbCycle, CmbBlk.load, h, hc, hm]

/-- A cycle in D18. -/
theorem cmbCycle_d18 (h : x.ce = true) (hc : x.clr = false) (hm : g.mode = 1) :
    cmbCycle g x open_ k = k.load g (cmbD18 g x k) := by simp [cmbCycle, CmbBlk.load, h, hc, hm]

/-- A cycle in Q8. -/
theorem cmbCycle_q8 (h : x.ce = true) (hc : x.clr = false) (hm : g.mode = 2) :
    cmbCycle g x open_ k = k.load g (cmbQ8 g x k) := by simp [cmbCycle, CmbBlk.load, h, hc, hm]

/-- A cycle in F32. -/
theorem cmbCycle_f32 (h : x.ce = true) (hc : x.clr = false) (hm : g.mode = 3) :
    cmbCycle g x open_ k = k.load g (cmbF32 x k open_) := by simp [cmbCycle, CmbBlk.load, h, hc, hm]

/-- A block has one of the four modes. -/
theorem mode_cases (m : Fin 4) : m = 0 ∨ m = 1 ∨ m = 2 ∨ m = 3 := by omega

/-- Every cycle keeps the result checks: held, cleared, or in the mode's operation. -/
theorem cmbCycle_agrees (hk : k.agrees g.mode.val) (hx : x.agrees g.mode.val)
    (hacc : g.mode = 3 → x.zsel = 1 → notSubnormal k.acc.toNat) (hcin : g.mode = 3 → x.zsel = 3 → notSubnormal x.cin.toNat) :
    (cmbCycle g x open_ k).agrees g.mode.val := by
  cases h : x.ce with
  | false => exact cmbCycle_held h ▸ hk
  | true =>
    cases hc : x.clr with
    | true => exact cmbCycle_clear h hc ▸ (cmbOut_clear_agrees _).load k
    | false =>
      obtain hm | hm | hm | hm := mode_cases g.mode
      · rw [cmbCycle_m27 h hc hm]
        rw [hm] at hk hx
        exact CmbOut.agrees.load (hm ▸ cmbM27_agrees g hk hx) k
      · rw [cmbCycle_d18 h hc hm]
        rw [hm] at hk hx
        exact CmbOut.agrees.load (hm ▸ cmbD18_agrees g hk hx) k
      · rw [cmbCycle_q8 h hc hm]
        rw [hm] at hk hx
        exact CmbOut.agrees.load (hm ▸ cmbQ8_agrees g hk hx) k
      · rw [cmbCycle_f32 h hc hm]
        have hacc' := hacc hm
        have hcin' := hcin hm
        rw [hm] at hk hx
        exact CmbOut.agrees.load (hm ▸ cmbF32_agrees open_ hk hx hacc' hcin') k

end Cycle

/-! ### A cycle without an upset (R136, R140) -/

/-- No upset leaves the registers as they are. -/
@[simp] theorem CmbBlk.upset_none (k : CmbBlk) : k.upset {} = k := by simp [CmbBlk.upset]

/-- What a cycle that raises no suspicion leaves: the block's next value, put out without SUSPECT. -/
def State.quietCycle (s : State) (key : Nat) (n : CmbBlk) : State :=
  { s.freeNext with cmb := { s.cmb with blk := KMap.put s.cmb.blk key n } }.emit (.cmb n.acc n.r0 n.r1 false n.ovf n.flags)

/-- A clocked block whose checks pass after its cycle puts its value out and does nothing else (R136, R140). -/
theorem cmbRun_quiet {d col row i : Nat} {g : CmbCfg} {x : CmbIn} {u : CmbUpset} {s : State} {n : CmbBlk}
    (hregion : s.cmbRegion d col row = some i) (hlive : s.live d = true) (hclocked : s.regionState d i = 5 ∨ s.regionState d i = 1)
    (hn : (cmbCycle g x (s.free.getLsbD 0) (KMap.look s.cmb.blk (cmbKey d col row))).upset u = n) (hpass : cmbChecks g x n = []) :
    cmbRun d col row g x u s = s.quietCycle (cmbKey d col row) n := by
  have hclk : (!s.live d || (decide (s.regionState d i ≠ 5) && decide (s.regionState d i ≠ 1))) = false := by
    obtain h | h := hclocked <;> simp [hlive, h]
  simp only [cmbRun, hregion, hclk, hn, hpass, State.quietCycle]
  rfl

/-- Settles O26: every cycle keeps the result checks (`cmbCycle_agrees`), so without an upset it is a quiet cycle. -/
theorem faultFreeArithmeticNeverReports : Obligations.FaultFreeArithmeticNeverReports := by
  unfold Obligations.FaultFreeArithmeticNeverReports
  intro s d col row g x i k hregion hlive hclocked hk hpass hacc hcin
  obtain ⟨hagrees, hcascade⟩ := (cmbChecks_eq_nil_iff g x k).1 hpass
  set n := cmbCycle g x (s.free.getLsbD 0) k with hn
  have hnext : n.agrees g.mode.val := cmbCycle_agrees hagrees hcascade hacc hcin
  have hrun : cmbRun (d.val + 2) col.val row.val g x {} s.fresh = s.fresh.quietCycle (cmbKey (d.val + 2) col.val row.val) n :=
    cmbRun_quiet hregion hlive hclocked (by rw [CmbBlk.upset_none, hn, hk]; rfl) ((cmbChecks_eq_nil_iff g x n).2 ⟨hnext, hcascade⟩)
  refine exec_answers (exec_cmbResidueMismatch ..) ?_
  rw [hrun]
  refine ⟨rfl, rfl, n, KMap.look_put_same .., rfl, cmbCycle_held, fun hce hclr => ?_, fun y hy => ?_⟩
  · rw [hn, cmbCycle_clear hce hclr]
    exact ⟨rfl, rfl⟩
  · exact (cmbChecks_eq_nil_iff g y n).2 ⟨hnext, fun hz => (hy hz).imp_right fun h1 hm => h1 (Fin.ext hm)⟩

end Sys2Proof.Machine
end

section
/-! SUPPORT. Fabric memories (05): the sparse tables, a block's words and reports, reads and writes of a port, and retention
(R154 to R170). -/

namespace Sys2Proof

/-! ### Sparse tables -/

/-- A write of what an unlisted key reads as removes the entry. -/
theorem KMap.put_default {α : Type} [DecidableEq α] [Inhabited α] (m : KMap α) (k : Nat) : KMap.put m k default = KMap.del m k := if_pos rfl

/-- Settles O7: the laws of a table's writes, of leaving entries out, and of the empty table. -/
theorem sparseTablesReadBack : Obligations.SparseTablesReadBack := by
  unfold Obligations.SparseTablesReadBack
  refine ⟨fun m k j v => ⟨KMap.look_put_same m k v, KMap.look_put_ne m k j v, ?_, KMap.wf_put m k v⟩,
    fun m lo hi d => KMap.wfD_dropRange m lo hi d, fun _ => rfl⟩
  rw [KMap.put_default]
  exact KMap.del_not_mem m k

end Sys2Proof

namespace Sys2Proof.Machine

/-! ### What an effect on the memories leaves alone -/

/-- From s to t nothing but the memories, the registers and what is put out changes. -/
def State.memFrame (s t : State) : Prop := t.rest = { s.rest with mem := t.mem }

/-- Nothing changes. -/
theorem State.memFrame_refl (s : State) : s.memFrame s := rfl

/-- One change after another. -/
theorem State.memFrame_trans {s t u : State} (h : s.memFrame t) (hu : t.memFrame u) : s.memFrame u := by
  rw [State.memFrame, hu, h]

/-- An effect that leaves all but registers and outputs keeps the frame. -/
theorem State.memFrame_rest {s t u : State} (h : s.memFrame t) (hu : u.rest = t.rest) : s.memFrame u := by
  have hmem : u.mem = t.mem := (congrArg State.mem hu :)
  rw [State.memFrame, hu, hmem]
  exact h

/-- A command keeps the frame that its effect keeps. -/
theorem State.ended_memFrame {s u : State} (h : s.fresh.memFrame u) : s.memFrame (s.ended u) := by
  have hpend : u.pending = s.pending := (congrArg State.pending h :)
  have htime : u.time = s.time := (congrArg State.time h :)
  have hfuses : u.fuses = s.fuses := (congrArg State.fuses h :)
  rw [State.ended, ← hpend, ← htime, ← hfuses]
  exact h

/-- What leaves the register file as it is changes no field. -/
theorem State.onlyFields_of_regs {s t : State} {l : List (Nat × Fld)} (h : t.regs = s.regs) : s.onlyFields t l :=
  State.onlyFields_regs (State.onlyFields_refl s l) h

/-- What a conditional store of fields changes. -/
theorem State.regsOnly_when {s t : State} {l : List (Nat × Fld)} (c : Bool) {f : State → State} (h : s.regsOnly t l)
    (hf : s.regsOnly (f t) l) : s.regsOnly (t.when c f) l := by
  cases c with
  | true => exact hf
  | false => exact h

/-- What is put out changes no register. -/
theorem State.regsOnly_emit {s t : State} {l : List (Nat × Fld)} (h : s.regsOnly t l) (o : Out) : s.regsOnly (t.emit o) l := by
  obtain ⟨hfields, hrest⟩ := h
  exact ⟨State.onlyFields_regs hfields (State.emit_regs t o), (State.emit_rest t o).trans hrest⟩

/-- A largest-value field holds the larger value, or all ones where that is less. -/
theorem State.f_largest_same (s : State) (d : Nat) (x : Fld) (v : Nat) (h : x.lo + x.len ≤ 32) :
    (s.largest d x v).f d x = min (max (s.f d x) v) (2 ^ x.len - 1) := by
  have hpos : 0 < 2 ^ x.len := Nat.two_pow_pos _
  exact State.f_setF_fits s d x _ h (by omega)

/-! ### A block's words -/

section Words
variable (s : State) (b : Blk) (a : Nat) (w : MemWord)

@[simp] theorem State.setMemWord_regs : (s.setMemWord b a w).regs = s.regs := rfl
@[simp] theorem State.setMemWord_out : (s.setMemWord b a w).out = s.out := rfl
@[simp] theorem State.setMemWord_report : (s.setMemWord b a w).mem.report = s.mem.report := rfl
@[simp] theorem State.setMemWord_word : (s.setMemWord b a w).mem.word = KMap.put s.mem.word (b.wordKey a) w := rfl

/-- A stored word reads back. -/
@[simp] theorem State.memWord_setMemWord : (s.setMemWord b a w).memWord b a = w := KMap.look_put_same ..

/-- A store of a word keeps the frame. -/
theorem State.memFrame_setMemWord {s t : State} {b : Blk} {a : Nat} {w : MemWord} (h : s.memFrame t) :
    s.memFrame (t.setMemWord b a w) := State.memFrame_trans h rfl

@[simp] theorem State.fresh_memWord : s.fresh.memWord b a = s.memWord b a := rfl
@[simp] theorem State.emit_memWord (o : Out) : (s.emit o).memWord b a = s.memWord b a := rfl
@[simp] theorem State.ended_memWord (u : State) : (s.ended u).memWord b a = u.memWord b a := rfl

end Words

/-! ### What a block holds beside its words -/

section Blocks
variable (s : State) (b : Blk) (x : BlkSt)

@[simp] theorem State.setBlk_regs : (s.setBlk b x).regs = s.regs := rfl
@[simp] theorem State.setBlk_word : (s.setBlk b x).mem.word = s.mem.word := rfl

/-- What a block is given is what it holds. -/
@[simp] theorem State.blk_setBlk : (s.setBlk b x).blk b = x := KMap.look_put_same ..

/-- What a block holds is part of the memories. -/
theorem State.blk_congr {s t : State} (h : t.mem = s.mem) : t.blk b = s.blk b := by rw [State.blk, State.blk, h]

@[simp] theorem State.ended_blk (u : State) : (s.ended u).blk b = u.blk b := rfl

/-- A store of what a block holds keeps the frame. -/
theorem State.memFrame_setBlk {s t : State} {b : Blk} {x : BlkSt} (h : s.memFrame t) : s.memFrame (t.setBlk b x) :=
  State.memFrame_trans h rfl

end Blocks

/-! ### Reports (R173) -/

section Reports
variable (b : Blk) (kind source word bit : Nat) (s : State)

@[simp] theorem memReport_regs : (memReport b kind source word bit s).regs = s.regs := rfl
@[simp] theorem memReport_out : (memReport b kind source word bit s).out = s.out := rfl
@[simp] theorem memReport_word : (memReport b kind source word bit s).mem.word = s.mem.word := rfl
@[simp] theorem memReport_memWord (c : Blk) (a : Nat) : (memReport b kind source word bit s).memWord c a = s.memWord c a := rfl

/-- A report joins the queue of the block's die. -/
@[simp] theorem memReport_queue : KMap.look (memReport b kind source word bit s).mem.report b.di =
    KMap.look s.mem.report b.di ++ [⟨b.deep, b.col, b.row, kind, source, b.region, word, bit, s.tick32⟩] := KMap.look_put_same ..

/-- A report keeps the frame. -/
theorem memFrame_memReport {s t : State} {b : Blk} {kind source word bit : Nat} (h : s.memFrame t) :
    s.memFrame (memReport b kind source word bit t) := State.memFrame_trans h rfl

end Reports

/-! ### The check of a stored word (R161) -/

section Check
variable {w : MemWord} (free : BitVec 64) (s : State)

/-- No bit is wrong: the word is clean. -/
theorem secded_clean (h : popcount 72 w.err.toNat = 0) : secded w free = .clean w.data := by simp [secded, h]

/-- One bit is wrong: it is found and corrected. -/
theorem secded_fixed (h : popcount 72 w.err.toNat = 1) : secded w free = .fixed w.data (lowBit 72 w.err.toNat) := by
  simp [secded, h]

/-- Two bits are wrong: the word is uncorrectable. -/
theorem secded_bad (h : popcount 72 w.err.toNat = 2) : secded w free = .bad (w.data ^^^ BitVec.ofNat 64 w.err.toNat) := by
  simp [secded, h]

/-- Up to two wrong bits leave nothing to chance. -/
theorem freeIf_of_le {n : Nat} (h : popcount 72 w.err.toNat = n) (hn : n ≤ 2) : freeIf w s = s := by
  rw [freeIf, decide_eq_false (by omega), State.when_false]

end Check

/-! ### Reads (R161 to R164) -/

section Read
variable {b : Blk} {a : Nat} (source : Nat) (superseded : Bool) {s : State}

/-- A clean word is read as it is. -/
theorem readWord_clean (h : popcount 72 (s.memWord b a).err.toNat = 0) :
    readWord b a source superseded s = (s, (s.memWord b a).data, 0) := by
  have hcheck := secded_clean s.free h
  have hfree := freeIf_of_le s h (by decide)
  unfold readWord
  dsimp only
  rw [hcheck, hfree]

/-- The corrected word goes back into the memory unless a user write supersedes it (R162, R163). -/
def State.writeBack (s : State) (b : Blk) (a : Nat) (d : BitVec 64) (superseded : Bool) : State :=
  if superseded then s else s.setMemWord b a ⟨d, 0⟩

/-- A word with one wrong bit is corrected, reported and written back. -/
theorem readWord_fixed (h : popcount 72 (s.memWord b a).err.toNat = 1) : readWord b a source superseded s =
    ((memReport b 0 source a (lowBit 72 (s.memWord b a).err.toNat) s).writeBack b a (s.memWord b a).data superseded,
      (s.memWord b a).data, 1) := by
  have hcheck := secded_fixed s.free h
  have hfree := freeIf_of_le s h (by decide)
  unfold readWord
  dsimp only
  rw [hcheck, hfree]
  rfl

/-- A word with two wrong bits is reported. -/
theorem readWord_bad (h : popcount 72 (s.memWord b a).err.toNat = 2) : readWord b a source superseded s =
    (memReport b 1 source a 0x7F s, (s.memWord b a).data ^^^ BitVec.ofNat 64 (s.memWord b a).err.toNat, 2) := by
  have hcheck := secded_bad s.free h
  have hfree := freeIf_of_le s h (by decide)
  unfold readWord
  dsimp only
  rw [hcheck, hfree]

end Read

/-- Stored bits of a word flip. -/
def State.upsetWord (s : State) (b : Blk) (a : Nat) (upset : BitVec 72) : State :=
  s.setMemWord b a { s.memWord b a with err := (s.memWord b a).err ^^^ upset }

/-- An upset of a word without errors leaves its bits wrong. -/
theorem State.upsetWord_of_clean {s : State} {b : Blk} {a : Nat} (upset : BitVec 72) (h : (s.memWord b a).err = 0) :
    s.upsetWord b a upset = s.setMemWord b a ⟨(s.memWord b a).data, upset⟩ := by
  simp [State.upsetWord, h]

/-- What a port presents of a word it reads: the word rotated, or its lane (R155, R157). -/
def MemPort.presents (p : MemPort) (deep : Bool) (k : Nat) (d : BitVec 64) : BitVec 64 :=
  if deep then rotLanes d k else BitVec.ofNat 64 (d.toNat / 2 ^ (p.width * k) % 2 ^ p.width)

section PortRead
variable {s : State} {b : Blk} {p : MemPort} {a w k : Nat} (upset : BitVec 72) (sup : Bool)
  (hawake : (s.blk b).asleep = false) (hplace : p.place b.deep a = (w, k)) (hclean : (s.memWord b w).err = 0)
include hawake hplace

/-- A port reads an awake block's word with the bits that flipped since it was written. -/
theorem memPortRead_awake {t : State} {d : BitVec 64} {e : Nat}
    (hread : readWord b w p.portB.toNat sup (s.upsetWord b w upset) = (t, d, e)) :
    memPortRead b p a upset sup s = t.emit (.memRead (p.presents b.deep k d) e false) := by
  rw [State.upsetWord] at hread
  simp only [memPortRead, hawake, hplace, hread]
  rfl

include hclean

/-- A read of a word with no bit wrong. -/
theorem memPortRead_clean : memPortRead b p a 0 sup s =
    (s.setMemWord b w (s.memWord b w)).emit (.memRead (p.presents b.deep k (s.memWord b w).data) 0 false) := by
  refine memPortRead_awake _ _ hawake hplace ?_
  have hsame : s.upsetWord b w 0 = s.setMemWord b w (s.memWord b w) := by simp [State.upsetWord]
  rw [hsame, readWord_clean _ _ (by rw [State.memWord_setMemWord, hclean]; decide), State.memWord_setMemWord]

/-- A read of a word with one bit wrong. -/
theorem memPortRead_fixed (hu : popcount 72 upset.toNat = 1) : memPortRead b p a upset sup s =
    ((memReport b 0 p.portB.toNat w (lowBit 72 upset.toNat) (s.setMemWord b w ⟨(s.memWord b w).data, upset⟩)).writeBack b w
      (s.memWord b w).data sup).emit (.memRead (p.presents b.deep k (s.memWord b w).data) 1 false) := by
  refine memPortRead_awake _ _ hawake hplace ?_
  rw [State.upsetWord_of_clean _ hclean, readWord_fixed _ _ (by rwa [State.memWord_setMemWord]), State.memWord_setMemWord]

/-- A read of a word with two bits wrong. -/
theorem memPortRead_bad (hu : popcount 72 upset.toNat = 2) : memPortRead b p a upset sup s =
    (memReport b 1 p.portB.toNat w 0x7F (s.setMemWord b w ⟨(s.memWord b w).data, upset⟩)).emit
      (.memRead (p.presents b.deep k ((s.memWord b w).data ^^^ BitVec.ofNat 64 upset.toNat)) 2 false) := by
  refine memPortRead_awake _ _ hawake hplace ?_
  rw [State.upsetWord_of_clean _ hclean, readWord_bad _ _ (by rwa [State.memWord_setMemWord]), State.memWord_setMemWord]

end PortRead

/-! ### The word after a write-back -/

section WriteBack
variable (s : State) (b : Blk) (a : Nat) (d : BitVec 64) (sup : Bool)

@[simp] theorem State.writeBack_regs : (s.writeBack b a d sup).regs = s.regs := by cases sup <;> rfl
@[simp] theorem State.writeBack_out : (s.writeBack b a d sup).out = s.out := by cases sup <;> rfl
@[simp] theorem State.writeBack_report : (s.writeBack b a d sup).mem.report = s.mem.report := by cases sup <;> rfl

/-- A word with errors is without them after the write-back, and is as it was where a user write supersedes that. -/
theorem State.memWord_writeBack {e : BitVec 72} (h : s.memWord b a = ⟨d, e⟩) :
    (s.writeBack b a d sup).memWord b a = ⟨d, if sup then e else 0⟩ := by
  cases sup with
  | true => exact h
  | false => exact State.memWord_setMemWord ..

/-- A write-back keeps the frame. -/
theorem State.memFrame_writeBack {s t : State} {b : Blk} {a : Nat} {d : BitVec 64} {sup : Bool} (h : s.memFrame t) :
    s.memFrame (t.writeBack b a d sup) := by
  cases sup with
  | true => exact h
  | false => exact State.memFrame_setMemWord h

end WriteBack

/-! ### Writes (R155 to R160, R164) -/

/-- Byte enables that give one mask agree in their bits. -/
theorem beMask_inj {n x y : Nat} (h : beMask n x = beMask n y) : x % 2 ^ n = y % 2 ^ n := by
  induction n generalizing x y with
  | zero => rw [pow_zero, Nat.mod_one, Nat.mod_one]
  | succ n ih =>
    simp only [beMask] at h
    have hhigh := ih (x := x / 2) (y := y / 2) (by omega)
    rw [pow_succ', Nat.mod_mul, Nat.mod_mul, hhigh]
    omega

/-- A mask has 8 bits for each byte enable. -/
theorem beMask_lt (n x : Nat) : beMask n x < 256 ^ n := by
  induction n generalizing x with
  | zero => exact Nat.one_pos
  | succ n ih =>
    have := ih (x / 2)
    rw [beMask, pow_succ']
    omega

/-- The bits of a 64-bit word that byte enables name (R156). -/
def byteMask (be : Byte) : BitVec 64 := BitVec.ofNat 64 (beMask 8 be.toNat)

/-- Different byte enables name different bits. -/
theorem byteMask_inj {be be' : Byte} (h : byteMask be = byteMask be') : be = be' := by
  have hmask := congrArg BitVec.toNat h
  simp only [byteMask, BitVec.toNat_ofNat] at hmask
  have hbits := beMask_inj ((Nat.mod_eq_of_lt (beMask_lt 8 _)).symm.trans (hmask.trans (Nat.mod_eq_of_lt (beMask_lt 8 _))))
  rw [Nat.mod_eq_of_lt be.isLt, Nat.mod_eq_of_lt be'.isLt] at hbits
  exact BitVec.eq_of_toNat_eq hbits

/-- All byte enables name all bits. -/
theorem byteMask_full : byteMask 0xFF = BitVec.allOnes 64 := by decide

/-- No byte enable names no bit. -/
theorem byteMask_none : byteMask 0 = 0 := by decide

/-- What a port writes into a word: the data in their places, and the bits they replace (R155 to R157). -/
def MemPort.lanes (p : MemPort) (deep : Bool) (k : Nat) (data : BitVec 64) (be : Byte) : BitVec 64 × BitVec 64 :=
  if deep then (unrotLanes data k, unrotLanes (byteMask be) k)
  else if p.width = 64 then (data, byteMask be)
  else (BitVec.ofNat 64 (data.toNat % 2 ^ p.width * 2 ^ (p.width * k)), BitVec.ofNat 64 ((2 ^ p.width - 1) * 2 ^ (p.width * k)))

/-- Lane 0 is where it is. -/
@[simp] theorem unrotLanes_zero (d : BitVec 64) : unrotLanes d 0 = d := by
  simp [unrotLanes, BitVec.rotateLeft_def, BitVec.ushiftRight_eq_zero]

/-- A port of a whole word names the word by its address. -/
theorem MemPort.place_whole {p : MemPort} {deep : Bool} (h : deep = true ∧ p.rotate = false ∨ deep = false ∧ p.width = 64) (a : Nat) :
    p.place deep a = (a, 0) := by
  obtain ⟨hd, hr⟩ | ⟨hd, hw⟩ := h
  · simp [MemPort.place, hd, hr]
  · simp [MemPort.place, hd, hw, Nat.mod_one]

/-- A port of a whole word writes the bits enabled. -/
theorem MemPort.lanes_whole {p : MemPort} {deep : Bool} (h : deep = true ∧ p.rotate = false ∨ deep = false ∧ p.width = 64)
    (data : BitVec 64) (be : Byte) : p.lanes deep 0 data be = (data, byteMask be) := by
  obtain ⟨hd, -⟩ | ⟨hd, hw⟩ := h
  · simp [MemPort.lanes, hd]
  · simp [MemPort.lanes, hd, hw]

/-- A byte lane is neither all nor none of a word. -/
theorem byteLane_partial : ∀ k < 8, BitVec.ofNat 64 ((2 ^ 8 - 1) * 2 ^ (8 * k)) ≠ BitVec.allOnes 64 ∧
    BitVec.ofNat 64 ((2 ^ 8 - 1) * 2 ^ (8 * k)) ≠ 0 := by decide

/-- A write of some of the bytes, or of a byte lane, is partial (R156). -/
theorem MemPort.lanes_partial {p : MemPort} {deep : Bool} {a w k : Nat} {be : Byte} (hplace : p.place deep a = (w, k))
    (h : deep = true ∧ be ≠ 0xFF ∧ be ≠ 0 ∧ p.rotate = false ∨ deep = false ∧ p.width = 8) (data : BitVec 64) :
    (p.lanes deep k data be).2 ≠ BitVec.allOnes 64 ∧ (p.lanes deep k data be).2 ≠ 0 := by
  obtain ⟨hd, hfull, hnone, hrot⟩ | ⟨hd, hw⟩ := h
  · have hwhole : deep = true ∧ p.rotate = false ∨ deep = false ∧ p.width = 64 := .inl ⟨hd, hrot⟩
    obtain ⟨-, rfl⟩ := Prod.mk.inj ((MemPort.place_whole hwhole a).symm.trans hplace)
    rw [MemPort.lanes_whole hwhole, ← byteMask_full, ← byteMask_none]
    exact ⟨fun hc => hfull (byteMask_inj hc), fun hc => hnone (byteMask_inj hc)⟩
  · have hlane : a % 8 = k := by
      simp only [MemPort.place, hd, hw] at hplace
      exact (Prod.mk.inj hplace).2
    have hmask : (p.lanes deep k data be).2 = BitVec.ofNat 64 ((2 ^ 8 - 1) * 2 ^ (8 * k)) := by simp [MemPort.lanes, hd, hw]
    rw [hmask]
    exact byteLane_partial k (by omega)

/-- A store with no injection armed gives good check bits. -/
theorem storeWord_unarmed {b : Blk} {s : State} (a : Nat) (d : BitVec 64) (h : s.injArmed b = false) :
    storeWord b a d s = s.setMemWord b a ⟨d, 0⟩ := by simp [storeWord, h]

/-- A write of every bit stores the data. -/
theorem writeWord_full (b : Blk) (a source : Nat) (d : BitVec 64) (s : State) :
    writeWord b a source d (BitVec.allOnes 64) s = (storeWord b a d s, false) := if_pos rfl

/-- A partial write over an uncorrectable word is refused and reported. -/
theorem writeWord_bad {b : Blk} {a : Nat} (source : Nat) (d : BitVec 64) {mask : BitVec 64} {s : State}
    (hmask : mask ≠ BitVec.allOnes 64 ∧ mask ≠ 0) (h : popcount 72 (s.memWord b a).err.toNat = 2) :
    writeWord b a source d mask s = (memReport b 2 source a 0x7F s, true) := by
  have hcheck := secded_bad s.free h
  have hfree := freeIf_of_le s h (by decide)
  simp only [writeWord, if_neg hmask.1, if_neg hmask.2, hcheck, hfree]

section PortWrite
variable {s : State} {b : Blk} {p : MemPort} {a : Nat} (data : BitVec 64) (be : Byte) (hawake : (s.blk b).asleep = false)
include hawake

/-- A port writes an awake block's word where the writes of two ports do not collide. -/
theorem memPortWrite_awake {w k : Nat} (hplace : p.place b.deep a = (w, k)) {t : State} {refused : Bool}
    (hwrite : writeWord b w p.portB.toNat (p.lanes b.deep k data be).1 (p.lanes b.deep k data be).2 s = (t, refused)) :
    memPortWrite b p a data be false s = t.emit (.memWrite refused) := by
  have hstep : memPortWrite b p a data be false s =
      (writeWord b w p.portB.toNat (p.lanes b.deep k data be).1 (p.lanes b.deep k data be).2 s).1.emit (.memWrite
        (writeWord b w p.portB.toNat (p.lanes b.deep k data be).1 (p.lanes b.deep k data be).2 s).2) := by
    simp only [memPortWrite, hawake, hplace]
    rfl
  rw [hstep, hwrite]

/-- A full write of a whole word with no injection armed. -/
theorem memPortWrite_full (hwhole : b.deep = true ∧ p.rotate = false ∨ b.deep = false ∧ p.width = 64) (hinj : s.injArmed b = false) :
    memPortWrite b p a data 0xFF false s = (s.setMemWord b a ⟨data, 0⟩).emit (.memWrite false) := by
  refine memPortWrite_awake data _ hawake (MemPort.place_whole hwhole a) ?_
  rw [MemPort.lanes_whole hwhole, byteMask_full, writeWord_full, storeWord_unarmed a data hinj]

/-- A partial write over an uncorrectable word. -/
theorem memPortWrite_bad {w k : Nat} (hplace : p.place b.deep a = (w, k))
    (hpart : b.deep = true ∧ be ≠ 0xFF ∧ be ≠ 0 ∧ p.rotate = false ∨ b.deep = false ∧ p.width = 8)
    (hbad : popcount 72 (s.memWord b w).err.toNat = 2) :
    memPortWrite b p a data be false s = (memReport b 2 p.portB.toNat w 0x7F s).emit (.memWrite true) :=
  memPortWrite_awake data be hawake hplace (writeWord_bad _ _ (MemPort.lanes_partial hplace hpart data) hbad)

/-- Port B's write that meets port A's is lost (R160). -/
theorem memPortWrite_collides (hport : p.portB = true) :
    memPortWrite b p a data be true s = (s.evt b.di MECC_EVT_wcollide).emit (.memWrite false) := by
  simp [memPortWrite, hawake, hport]

end PortWrite

/-! ### Retention (R168 to R170) -/

/-- The registers after a wake of `took` tb: the event of a delayed one, and the longest (R169). -/
def State.wakeRecord (s : State) (d took : Nat) : State :=
  (s.when (decide (3200 < took)) fun s => s.evt d MECC_EVT_wake_delayed).largest d MECC_WAKE_MAX_value took

section WakeRecord
variable (s : State) (d took : Nat)

/-- The event of a delayed wake is all that comes before the record of its time. -/
theorem wakeDelayed_regsOnly :
    s.regsOnly (s.when (decide (3200 < took)) fun s => s.evt d MECC_EVT_wake_delayed) [(d, MECC_EVT_wake_delayed)] :=
  State.regsOnly_when _ (State.regsOnly_refl s _) (State.regsOnly_setF (State.regsOnly_refl s _) d MECC_EVT_wake_delayed 1 rfl (by simp))

/-- The longest wake is recorded. -/
theorem State.wakeRecord_max : (s.wakeRecord d took).f d MECC_WAKE_MAX_value =
    min (max (s.f d MECC_WAKE_MAX_value) took) (2 ^ MECC_WAKE_MAX_value.len - 1) := by
  obtain ⟨hfields, -⟩ := wakeDelayed_regsOnly s d took
  have hmax := hfields (d, MECC_WAKE_MAX_value) rfl (by simp [apart])
  rw [State.wakeRecord, State.f_largest_same _ _ _ _ (by decide), hmax]

/-- A wake of more than 3,200 tb is a delayed one. -/
theorem State.wakeRecord_delayed (h : 3200 < took) : (s.wakeRecord d took).f d MECC_EVT_wake_delayed = 1 := by
  rw [State.wakeRecord, State.largest, State.f_setF_clear _ _ _ _ _ _ rfl rfl (by simp [apart]), decide_eq_true h, State.when_true]
  exact State.f_setF_fits s d MECC_EVT_wake_delayed 1 (by decide) (by decide)

/-- The record of a wake changes the event and the longest wake. -/
theorem State.wakeRecord_regsOnly : s.regsOnly (s.wakeRecord d took) [(d, MECC_WAKE_MAX_value), (d, MECC_EVT_wake_delayed)] := by
  obtain ⟨hfields, hrest⟩ := wakeDelayed_regsOnly s d took
  exact State.regsOnly_setF ⟨State.onlyFields_mono hfields (by simp), hrest⟩ d MECC_WAKE_MAX_value _ rfl (by simp)

/-- The record of a wake leaves the memories. -/
@[simp] theorem State.wakeRecord_mem : (s.wakeRecord d took).mem = s.mem := by
  rw [State.wakeRecord, State.largest_mem]
  cases decide (3200 < took) with
  | true => exact State.evt_mem s d MECC_EVT_wake_delayed
  | false => rfl

end WakeRecord

section Asleep
variable {s : State} {b : Blk} (p : MemPort) (a : Nat) (h : (s.blk b).asleep = true)
include h

/-- A block in retention refuses writes. -/
theorem memPortWrite_asleep (data : BitVec 64) (be : Byte) (c : Bool) : memPortWrite b p a data be c s = s.emit (.memWrite true) := by
  simp [memPortWrite, h]

/-- A block in retention is not ready for reads. -/
theorem memPortRead_asleep (upset : BitVec 72) (sup : Bool) : memPortRead b p a upset sup s = s.emit (.memRead 0 0 true) := by
  simp [memPortRead, h]

/-- A wake ends the retention and is recorded. -/
theorem memWakeDone_asleep (took : Nat) :
    memWakeDone b took s = (s.setBlk b { s.blk b with asleep := false }).wakeRecord b.di took := by
  simp [memWakeDone, State.wakeRecord, h]

end Asleep

/-- SLEEP takes hold of a block of a RUNNING region. -/
theorem memSleep_running {s : State} {b : Blk} (h : s.regionState b.di b.region = 5) :
    memSleep b s = s.setBlk b { s.blk b with asleep := true } := if_pos h

/-- SLEEP does nothing in a region in another state. -/
theorem memSleep_other {s : State} {b : Blk} (h : s.regionState b.di b.region ≠ 5) : memSleep b s = s := if_neg h

/-! ### The ports' commands -/

/-- A command that puts one thing out ends with the frame that its effect keeps. -/
theorem State.ended_emit_memFrame {s u : State} (o : Out) (h : s.fresh.memFrame u) : s.memFrame (s.ended (u.emit o)) :=
  State.ended_memFrame (State.memFrame_rest h (State.emit_rest u o))

/-- Settles O28: each access of an awake block is one write-back, one store or one report, a block in retention answers at once, and the sleep
and the wake change the block's own state. -/
theorem memoryPortsCorrectAndDetect : Obligations.MemoryPortsCorrectAndDetect := by
  unfold Obligations.MemoryPortsCorrectAndDetect
  refine ⟨?_, ?_, ?_, ?_, ?_, ?_, ?_, ?_, ?_, ?_⟩
  · -- one wrong bit is corrected and written back
    intro s b p a w k upset sup hawake hplace hclean hu
    refine exec_answers (exec_memoryPortRead ..) ?_
    rw [memPortRead_fixed (s := s.fresh) upset sup hawake hplace hclean hu]
    refine ⟨by simp [MemPort.presents], ?_, by simp, by simp, by simp, ?_⟩
    · exact State.memWord_writeBack _ b w _ sup (State.memWord_setMemWord ..)
    · exact State.ended_emit_memFrame _
        (State.memFrame_writeBack (memFrame_memReport (State.memFrame_setMemWord (State.memFrame_refl _))))
  · -- two wrong bits are detected and stay
    intro s b p a w k upset sup hawake hplace hclean hu
    refine exec_answers (exec_memoryPortRead ..) ?_
    rw [memPortRead_bad (s := s.fresh) upset sup hawake hplace hclean hu]
    refine ⟨by simp, by simp, by simp, by simp, State.onlyFields_of_regs (by simp), ?_⟩
    exact State.ended_emit_memFrame _ (memFrame_memReport (State.memFrame_setMemWord (State.memFrame_refl _)))
  · -- a word without errors reads as it is
    intro s b p a w k sup hawake hplace hclean
    refine exec_answers (exec_memoryPortRead ..) ?_
    rw [memPortRead_clean (s := s.fresh) sup hawake hplace hclean]
    exact ⟨by simp [MemPort.presents], by simp, by simp,
      State.ended_emit_memFrame _ (State.memFrame_setMemWord (State.memFrame_refl _))⟩
  · -- a full write stores
    intro s b p a data hawake hwhole hinj
    refine exec_answers (exec_memoryPortWrite ..) ?_
    rw [memPortWrite_full (s := s.fresh) data hawake hwhole hinj]
    exact ⟨by simp, by simp, by simp, by simp, State.ended_emit_memFrame _ (State.memFrame_setMemWord (State.memFrame_refl _))⟩
  · -- a partial write over an uncorrectable word is refused
    intro s b p a w k data be hawake hplace hpart hbad
    refine exec_answers (exec_memoryPortWrite ..) ?_
    rw [memPortWrite_bad (s := s.fresh) data be hawake hplace hpart hbad]
    exact ⟨by simp, by simp, by simp, by simp, State.onlyFields_of_regs (by simp),
      State.ended_emit_memFrame _ (memFrame_memReport (State.memFrame_refl _))⟩
  · -- port B's write collides
    intro s b p a data be hawake hport
    refine exec_answers (exec_memoryPortWrite ..) ?_
    rw [memPortWrite_collides (s := s.fresh) data be hawake hport]
    refine ⟨?_, by simp, State.ended_regsOnly ?_⟩
    · rw [State.ended_f, State.f_congr (State.emit_regs _ _)]
      exact State.f_setF_fits _ b.di MECC_EVT_wcollide 1 (by decide) (by decide)
    · exact State.regsOnly_emit (State.regsOnly_setF (State.regsOnly_refl _ _) b.di MECC_EVT_wcollide 1 rfl (by simp)) _
  · -- a block in retention answers at once
    intro s b p a data be c sup upset hasleep
    refine exec_answers (exec_memoryPortWrite ..) ⟨?_, ?_⟩
    · rw [memPortWrite_asleep (s := s.fresh) p a hasleep data be c, State.ended_fresh_emit]
    · rw [exec_memoryPortRead, run, memPortRead_asleep (s := s.fresh) p a hasleep upset sup, State.ended_fresh_emit]
  · -- SLEEP in a RUNNING region
    intro s b hrunning
    refine exec_answers (exec_memorySleep ..) ?_
    rw [memSleep_running (s := s.fresh) hrunning]
    exact ⟨by simp, by simp, by simp, State.ended_memFrame (State.memFrame_setBlk (State.memFrame_refl _))⟩
  · -- SLEEP in another region
    intro s b hother
    refine exec_answers (exec_memorySleep ..) ?_
    rw [memSleep_other (s := s.fresh) hother, State.ended_fresh]
  · -- a wake is done
    intro s b took hasleep
    refine exec_answers (exec_memoryWakeDone ..) ?_
    rw [memWakeDone_asleep (s := s.fresh) hasleep took]
    obtain ⟨hfields, hrest⟩ := (s.fresh.setBlk b { s.blk b with asleep := false }).wakeRecord_regsOnly b.di took
    refine ⟨?_, ?_, ?_, ?_, State.onlyFields_regs (State.onlyFields_trans (State.onlyFields_of_regs (by simp)) hfields) (State.ended_regs _ _),
      State.ended_memFrame (State.memFrame_rest (State.memFrame_setBlk (State.memFrame_refl _)) hrest)⟩
    · rw [State.ended_blk, State.blk_congr b (State.wakeRecord_mem ..)]
      simp
    · rw [State.ended_f, State.wakeRecord_max]
      rfl
    · intro hdelayed
      rw [State.ended_f]
      exact State.wakeRecord_delayed _ _ _ hdelayed
    · simp

end Sys2Proof.Machine
end

section
/-! SUPPORT. Failures of the mesh that are counted, and located once (R209): the counter, the event bit and the location of a failure, and the
report of a CRC failure. -/

namespace Sys2Proof.Machine

/-! ### Registers, pages and the rest -/

/-- A field reads as before where only other pages change. -/
theorem State.f_onlyPages {s t : State} {l : List (Nat × Nat)} (h : s.onlyPages t l) {d : Nat} {x : Fld} (hr : x.reg < 0x1000000)
    (hx : (d, x.reg / 0x10000) ∉ l) : t.f d x = s.f d x := by
  rw [State.f, State.f, h d x.reg hr hx]

/-- What changes a few fields changes the pages of their registers. -/
theorem State.onlyPages_of_onlyFields {s t : State} {l : List (Nat × Fld)} {pages : List (Nat × Nat)} (h : s.onlyFields t l)
    (hl : ∀ e ∈ l, (e.1, e.2.reg / 0x10000) ∈ pages) : s.onlyPages t pages := by
  intro d r hr hout
  have hapart : ∀ e ∈ l, apart e (whole d r) = true := by
    intro e he
    have hne : e.1 ≠ d ∨ e.2.reg ≠ r := by
      by_contra hsame
      obtain ⟨rfl, rfl⟩ : e.1 = d ∧ e.2.reg = r := by tauto
      exact hout (hl e he)
    rcases hne with hne | hne <;> simp [apart, whole, hne]
  have hword : bitsOf (t.rd d r) 0 32 = bitsOf (s.rd d r) 0 32 := h (whole d r) (by simp [placed, whole, hr]) hapart
  have hbits (w : Word) : bitsOf w 0 32 = w.toNat := by
    rw [bitsOf, Nat.pow_zero, Nat.div_one, Nat.mod_eq_of_lt w.isLt]
  exact BitVec.eq_of_toNat_eq (by rw [← hbits, ← hbits, hword])

/-- Stores of several fields of a listed register. -/
theorem State.onlyFields_setFs_whole {s t : State} {l : List (Nat × Fld)} {d r : Nat} (hm : whole d r ∈ l) (k : List (Fld × Nat))
    (h : s.onlyFields t l) (hk : ∀ e ∈ k, e.1.reg = r ∧ placed (d, e.1) = true) : s.onlyFields (t.setFs d k) l := by
  induction k generalizing t with
  | nil => exact h
  | cons e k ih =>
    obtain ⟨hreg, hplaced⟩ := hk e (by simp)
    have hfit : e.1.lo + e.1.len ≤ 32 := by
      simp only [placed, Bool.and_eq_true, decide_eq_true_eq] at hplaced
      exact hplaced.2
    rw [State.setFs_cons]
    refine ih (State.onlyFields_setF_in h d e.1 ⟨r, 0, 32⟩ e.2 hplaced hm hreg (Nat.zero_le _) (by simpa using hfit)) ?_
    exact fun x hx => hk x (List.mem_cons_of_mem _ hx)

/-- What leaves all but registers and outputs leaves the interfaces. -/
theorem State.net_of_rest {s t : State} (h : t.rest = s.rest) : t.net = s.net := (congrArg State.net h :)

/-- What leaves all but registers and outputs leaves the count of free values. -/
theorem State.freeCtr_of_rest {s t : State} (h : t.rest = s.rest) : t.freeCtr = s.freeCtr := (congrArg State.freeCtr h :)

/-- Stores of fields, one list after another. -/
theorem State.setFs_append (s : State) (d : Nat) (l k : List (Fld × Nat)) : s.setFs d (l ++ k) = (s.setFs d l).setFs d k := by
  induction l generalizing s with
  | nil => rw [State.setFs_nil, List.nil_append]
  | cons e l ih => rw [List.cons_append, State.setFs_cons, State.setFs_cons, ih]

/-! ### An event bit with its location -/

/-- While the event bit is clear, the location is latched with it. -/
theorem State.evtLatch_clear {s : State} {d : Nat} {x : Fld} (h : s.f d x = 0) (loc : State → State) :
    s.evtLatch d x loc = (loc s).evt d x := by
  simp [State.evtLatch, State.on, h]

/-- While the event bit is set, the location stays. -/
theorem State.evtLatch_held {s : State} {d : Nat} {x : Fld} (h : s.f d x ≠ 0) (loc : State → State) :
    s.evtLatch d x loc = s.evt d x := by
  simp [State.evtLatch, State.on, h]

/-- In both cases the event bit is set last. -/
theorem State.evtLatch_evt (s : State) (d : Nat) (x : Fld) (loc : State → State) :
    ∃ t, (t = s ∨ t = loc s) ∧ s.evtLatch d x loc = t.evt d x := by
  by_cases h : s.f d x = 0
  · exact ⟨_, .inr rfl, State.evtLatch_clear h loc⟩
  · exact ⟨_, .inl rfl, State.evtLatch_held h loc⟩

/-! ### Failures that are counted, and located once (R209) -/

/-- A failure on die d: its counter, and its event bit with the fields of its location. -/
def State.failure (s : State) (d : Nat) (cnt evt : Fld) (loc : List (Fld × Nat)) : State :=
  (s.inc d cnt 1).evtLatch d evt fun s => s.setFs d loc

/-- The counter, the event bit and the location of a failure lie in three registers, the location's being r. -/
structure FailureRegs (cnt evt : Fld) (r : Nat) (loc : List (Fld × Nat)) : Prop where
  cnt_placed (d : Nat) : placed (d, cnt) = true
  evt_placed (d : Nat) : placed (d, evt) = true
  evt_pos : 0 < evt.len
  cnt_ne_evt : cnt.reg ≠ evt.reg
  cnt_ne_loc : cnt.reg ≠ r
  evt_ne_loc : evt.reg ≠ r
  loc_reg (d : Nat) : ∀ e ∈ loc, e.1.reg = r ∧ placed (d, e.1) = true

section Failure
variable {s : State} {d : Nat} {cnt evt : Fld} {r : Nat} {loc : List (Fld × Nat)}

@[simp] theorem State.failure_rest : (s.failure d cnt evt loc).rest = s.rest := by
  obtain ⟨t, rfl | rfl, he⟩ := (s.inc d cnt 1).evtLatch_evt d evt fun s => s.setFs d loc <;> simp [State.failure, he]

@[simp] theorem State.failure_out : (s.failure d cnt evt loc).out = s.out := by
  obtain ⟨t, rfl | rfl, he⟩ := (s.inc d cnt 1).evtLatch_evt d evt fun s => s.setFs d loc <;> simp [State.failure, he]

@[simp] theorem State.failure_net : (s.failure d cnt evt loc).net = s.net := State.net_of_rest State.failure_rest

variable (hregs : FailureRegs cnt evt r loc)
include hregs

/-- The fields of the location are apart from any field of another register. -/
theorem FailureRegs.loc_apart (d : Nat) {y : Fld} (hy : y.reg ≠ r) :
    ∀ e ∈ loc, placed (d, e.1) = true ∧ apart (d, e.1) (d, y) = true := by
  intro e he
  obtain ⟨hreg, hplaced⟩ := hregs.loc_reg d e he
  exact ⟨hplaced, by simp [apart, hreg, hy.symm]⟩

/-- A failure is counted. -/
theorem State.failure_count : (s.failure d cnt evt loc).f d cnt = min (s.f d cnt + 1) (2 ^ cnt.len - 1) := by
  have hcnt := hregs.cnt_placed d
  have hfit : cnt.lo + cnt.len ≤ 32 := by
    simp only [placed, Bool.and_eq_true, decide_eq_true_eq] at hcnt
    exact hcnt.2
  obtain ⟨t, ht, he⟩ := (s.inc d cnt 1).evtLatch_evt d evt fun s => s.setFs d loc
  rw [State.failure, he, State.evt,
    State.f_setF_clear t d d evt cnt 1 (hregs.evt_placed d) hcnt (by simp [apart, hregs.cnt_ne_evt.symm]), ← State.f_inc_same s d cnt 1 hfit]
  rcases ht with rfl | rfl
  · rfl
  · exact State.f_setFs_clear _ d loc hcnt (hregs.loc_apart d hregs.cnt_ne_loc)

/-- Its event bit is set. -/
theorem State.failure_event : (s.failure d cnt evt loc).f d evt = 1 := by
  have hevt := hregs.evt_placed d
  simp only [placed, Bool.and_eq_true, decide_eq_true_eq] at hevt
  obtain ⟨t, -, he⟩ := (s.inc d cnt 1).evtLatch_evt d evt fun s => s.setFs d loc
  rw [State.failure, he]
  exact State.f_setF_fits t d evt 1 hevt.2 (Nat.one_lt_two_pow hregs.evt_pos.ne')

/-- The count leaves the event bit. -/
theorem FailureRegs.event_inc (s : State) (d : Nat) : (s.inc d cnt 1).f d evt = s.f d evt :=
  State.f_setF_clear s d d cnt evt _ (hregs.cnt_placed d) (hregs.evt_placed d) (by simp [apart, hregs.cnt_ne_evt])

/-- While the event bit is clear, each field of the location is latched. -/
theorem State.failure_located (hclear : s.f d evt = 0) (l : List (Fld × Nat)) {k : List (Fld × Nat)} {x : Fld} {v : Nat}
    (hloc : loc = l ++ (x, v) :: k) (hv : v < 2 ^ x.len) (hk : ∀ e ∈ k, apart (d, e.1) (d, x) = true) :
    (s.failure d cnt evt loc).f d x = v := by
  rw [← hregs.event_inc s d] at hclear
  obtain ⟨hreg, hx⟩ := hregs.loc_reg d (x, v) (by simp [hloc])
  have hlater : ∀ e ∈ k, placed (d, e.1) = true ∧ apart (d, e.1) (d, x) = true :=
    fun e he => ⟨(hregs.loc_reg d e (by simp [hloc, he])).2, hk e he⟩
  have hne : evt.reg ≠ x.reg := fun h => hregs.evt_ne_loc (h.trans hreg)
  rw [State.failure, State.evtLatch_clear hclear, State.evt, State.f_setF_clear _ d d evt x 1 (hregs.evt_placed d) hx (by simp [apart, hne]),
    hloc, State.setFs_append, State.f_setFs_cons _ d x v k hx hlater, Nat.mod_eq_of_lt hv]

/-- While the event bit is set, the location stays. -/
theorem State.failure_held (hset : s.f d evt ≠ 0) : (s.failure d cnt evt loc).rd d r = s.rd d r := by
  rw [← hregs.event_inc s d] at hset
  have hkey {x : Fld} (hx : x.reg ≠ r) : regKey d r ≠ regKey d x.reg := by unfold regKey; omega
  rw [State.failure, State.evtLatch_held hset, State.evt, State.rd_setF_ne _ d d evt r 1 (hkey hregs.evt_ne_loc), State.inc,
    State.rd_setF_ne s d d cnt r _ (hkey hregs.cnt_ne_loc)]

/-- Nothing but the counter, the event bit and the register of the location changes. -/
theorem State.failure_onlyFields : s.onlyFields (s.failure d cnt evt loc) [(d, cnt), (d, evt), whole d r] := by
  have hcount : s.onlyFields (s.inc d cnt 1) [(d, cnt), (d, evt), whole d r] :=
    State.onlyFields_setF (State.onlyFields_refl s _) d cnt _ (hregs.cnt_placed d) (by simp)
  obtain ⟨t, ht, he⟩ := (s.inc d cnt 1).evtLatch_evt d evt fun s => s.setFs d loc
  rw [State.failure, he]
  refine State.onlyFields_setF ?_ d evt 1 (hregs.evt_placed d) (by simp)
  rcases ht with rfl | rfl
  · exact hcount
  · exact State.onlyFields_setFs_whole (by simp) loc hcount (hregs.loc_reg d)

end Failure

/-! ### A CRC failure (R197, R209) -/

/-- What the error block of die d notes of a contained error: its class is counted, and its source marked (R509). -/
def State.containedNoted (s : State) (d src : Nat) : State := (s.inc d ErrClass.contained.counter 1).setF d ⟨ERR_SRC, src, 1⟩ 1

/-- A contained error is noted at its die, unless that is in reset, and at IOS, unless the die's status link is fenced (R509 to R511). -/
theorem errReport_contained (d src region detail : Nat) (s : State) :
    errReport d src .contained region detail s = s ∨ errReport d src .contained region detail s = s.containedNoted d src ∨
    errReport d src .contained region detail s = (s.containedNoted d src).setF 0 ⟨ERR_DIES, d, 1⟩ 1 := by
  unfold errReport
  dsimp only
  split_ifs
  · exact .inl rfl
  · exact .inr (.inr rfl)
  · exact .inr (.inl rfl)

/-- A contained error shows in the error pages of its die and of IOS. -/
theorem errReport_onlyPages (d src region detail : Nat) (s : State) :
    s.onlyPages (errReport d src .contained region detail s) [(d, 0x70), (0, 0x70)] := by
  have hcounted := State.onlyPages_inc (State.onlyPages_refl s [(d, 0x70), (0, 0x70)]) d ErrClass.contained.counter 1 (by decide) (.head _)
  have hdie : s.onlyPages (s.containedNoted d src) [(d, 0x70), (0, 0x70)] :=
    State.onlyPages_setF hcounted d ⟨ERR_SRC, src, 1⟩ 1 (by simp [ERR_SRC]) (by simp [ERR_SRC])
  obtain he | he | he := errReport_contained d src region detail s <;> rw [he]
  · exact State.onlyPages_refl s _
  · exact hdie
  · exact State.onlyPages_setF hdie 0 ⟨ERR_DIES, d, 1⟩ 1 (by simp [ERR_DIES]) (by simp [ERR_DIES])

/-- A contained error changes registers alone. -/
@[simp] theorem errReport_rest (d src region detail : Nat) (s : State) : (errReport d src .contained region detail s).rest = s.rest := by
  obtain he | he | he := errReport_contained d src region detail s <;> simp [he, State.containedNoted]

/-- The location of a CRC failure. -/
def crcLoc (src ep flit : Nat) (read notified : Bool) : List (Fld × Nat) :=
  [(NOC_CRC_LOC_src_id, src), (NOC_CRC_LOC_endpoint, ep), (NOC_CRC_LOC_flit, flit), (NOC_CRC_LOC_dir, read.toNat),
    (NOC_CRC_LOC_notified, notified.toNat)]

section CrcFail
variable (d src ep flit : Nat) (read notified : Bool) (s : State)

/-- A CRC failure is counted and located, and reported as a contained error. -/
theorem crcFail_eq : crcFail d src ep flit read notified s =
    errReport d 2 .contained 0x1F 0 (s.failure d NOC_CRC_CNT_value NOC_EVT_crc_fail (crcLoc src ep flit read notified)) := rfl

/-- Its counter, its event bit and its location lie in registers of their own. -/
theorem crcLoc_regs : FailureRegs NOC_CRC_CNT_value NOC_EVT_crc_fail NOC_CRC_LOC (crcLoc src ep flit read notified) where
  cnt_placed _ := rfl
  evt_placed _ := rfl
  evt_pos := by decide
  cnt_ne_evt := by decide
  cnt_ne_loc := by decide
  evt_ne_loc := by decide
  loc_reg _ := by simp [crcLoc, placed, NOC_CRC_LOC]

@[simp] theorem crcFail_rest : (crcFail d src ep flit read notified s).rest = s.rest := by simp [crcFail_eq]

/-- The report leaves the registers of the mesh as the failure left them. -/
theorem crcFail_f {x : Fld} (hx : x.reg / 0x10000 = 0x58) : (crcFail d src ep flit read notified s).f d x =
    (s.failure d NOC_CRC_CNT_value NOC_EVT_crc_fail (crcLoc src ep flit read notified)).f d x :=
  State.f_onlyPages (errReport_onlyPages d 2 0x1F 0 _) (by omega) (by simp [hx])

/-- A CRC failure shows in the pages of the mesh and of the errors. -/
theorem crcFail_onlyPages : s.onlyPages (crcFail d src ep flit read notified s) [(d, 0x58), (d, 0x70), (0, 0x70)] := by
  refine State.onlyPages_trans (State.onlyPages_of_onlyFields (State.failure_onlyFields (crcLoc_regs src ep flit read notified)) ?_)
    (State.onlyPages_mono (errReport_onlyPages d 2 0x1F 0 _) (by simp))
  simp [whole, NOC_CRC_CNT, NOC_EVT, NOC_CRC_LOC]

/-- It is counted. -/
theorem crcFail_count : (crcFail d src ep flit read notified s).f d NOC_CRC_CNT_value = min (s.f d NOC_CRC_CNT_value + 1) (2 ^ 32 - 1) := by
  rw [crcFail_f _ _ _ _ _ _ _ rfl, State.failure_count (crcLoc_regs src ep flit read notified)]

/-- Its event bit is set. -/
theorem crcFail_event : (crcFail d src ep flit read notified s).f d NOC_EVT_crc_fail = 1 := by
  rw [crcFail_f _ _ _ _ _ _ _ rfl, State.failure_event (crcLoc_regs src ep flit read notified)]

/-- While the event bit is clear, the initiator, the endpoint and who noticed it are latched. -/
theorem crcFail_located (hclear : s.f d NOC_EVT_crc_fail = 0) (hsrc : src < 2 ^ 12) (hep : ep < 2 ^ 8) :
    (crcFail d src ep flit read notified s).f d NOC_CRC_LOC_src_id = src ∧
    (crcFail d src ep flit read notified s).f d NOC_CRC_LOC_endpoint = ep ∧
    (crcFail d src ep flit read notified s).f d NOC_CRC_LOC_notified = notified.toNat := by
  have hregs := crcLoc_regs src ep flit read notified
  refine ⟨?_, ?_, ?_⟩ <;> rw [crcFail_f _ _ _ _ _ _ _ rfl]
  · exact State.failure_located hregs hclear [] rfl hsrc (by simp [apart])
  · exact State.failure_located hregs hclear [_] rfl hep (by simp [apart])
  · exact State.failure_located hregs hclear [_, _, _, _] rfl (Bool.toNat_lt notified) (by simp)

end CrcFail

end Sys2Proof.Machine
end

section
/-! SUPPORT. Network interfaces (06): headers that pass, and the answers to the only request that is held (R196 to R209). A function that
starts with the check of a header is unfolded by its name alone, in a hypothesis, so that the kernel never computes the check of a header that
is not given. -/

namespace Sys2Proof.Machine

/-! ### Headers -/

/-- A clean header is read off its bits as they are. -/
theorem hamCheck_clean {x : Nat} {h : Hdr} (hc : hamCheck x = .clean h) : h = Hdr.unpack (nbits x 0 247) := by
  unfold hamCheck at hc
  dsimp only at hc
  split_ifs at hc
  exact (HdrCheck.clean.inj hc).symm

/-- Some bits of a number are fewer than 2 to their count. -/
theorem nbits_lt (x lo len : Nat) : nbits x lo len < 2 ^ len := Nat.mod_lt _ (Nat.two_pow_pos _)

/-- A clean header's source ID has 12 bits. -/
theorem hamCheck_srcId_lt {x : Nat} {h : Hdr} (hc : hamCheck x = .clean h) : h.srcId < 2 ^ 12 := by
  rw [hamCheck_clean hc]
  exact nbits_lt _ 24 12

/-- A clean header's endpoint has 8 bits. -/
theorem hamCheck_dstEp_lt {x : Nat} {h : Hdr} (hc : hamCheck x = .clean h) : h.dstEp < 2 ^ 8 := by
  rw [hamCheck_clean hc]
  exact nbits_lt _ 8 8

section Clean
variable {raw : BitVec 256} {h : Hdr} (hc : hamCheck raw.toNat = .clean h) (hl : h.legal = true)
include hc hl

/-- A clean and legal header passes as it is. -/
theorem takeHeader_clean (x y port : Nat) (atNi : Bool) (s : State) : takeHeader x y port atNi raw s = (s, some h) := by
  generalize hf : takeHeader = f
  delta takeHeader at hf
  subst hf
  beta_reduce
  rw [hc]
  exact if_pos hl

/-- A destination interface takes it as it is. -/
theorem takeAtNi_clean (port : Nat) (s : State) : takeAtNi port raw s = (s, some h) := by
  generalize hf : takeAtNi = f
  delta takeAtNi at hf
  subst hf
  beta_reduce
  rw [hc]
  exact takeHeader_clean hc hl _ _ _ true s

/-- An answer of no request that is held there is discarded, but at the router of the partner (R206, R263). -/
theorem niResponse_discarded {s : State} (flits : List Flit) (port : Nat)
    (hnone : s.niPart (dieIndex h.dstX h.dstY * 256 + h.dstEp) h.queue h.seq = none) (hrouter : h.dstX ≠ 15 ∨ h.dstY ≠ 0) :
    niResponse raw flits port s = s := by
  have hpartner : ¬ (h.dstX = 15 ∧ h.dstY = 0 ∧ s.f 0 UCIE_STAT_state = 3) := by tauto
  generalize hf : niResponse = f
  delta niResponse at hf
  subst hf
  beta_reduce
  rw [takeAtNi_clean hc hl]
  dsimp only
  rw [hnone]
  dsimp only
  rw [if_neg hpartner, ite_self]

/-- An answer without data to a packet in flight (R198, R202, R205). -/
theorem niResponse_dataless {s : State} {p : NiPart} (flits : List Flit) (port : Nat) (hlive : s.live (dieIndex h.dstX h.dstY) = true)
    (hpart : s.niPart (dieIndex h.dstX h.dstY * 256 + h.dstEp) h.queue h.seq = some p) (hflight : p.phase = .flight) (hop : h.opcode ≠ 2) :
    niResponse raw flits port s =
      if h.opcode = 5 then retryPart p s
      else if h.opcode = 4 then finishPart p h.status [] s
      else if h.opcode = 3 then finishPart p 0 [] s else s := by
  generalize hf : niResponse = f
  delta niResponse at hf
  subst hf
  beta_reduce
  rw [takeAtNi_clean hc hl]
  dsimp only
  rw [hpart]
  simp [hlive, hflight, hop]

/-- A NOTIFY records a CRC failure at the die of its responder, with a free flit (R197). -/
theorem notify_records {s : State} (port : Nat) (hlive : s.live (dieIndex h.dstX h.dstY) = true) (hop : h.opcode = 6) :
    notify raw port s = crcFail (dieIndex h.dstX h.dstY) h.srcId h.dstEp (s.free.toNat % 8) true true s.freeNext := by
  generalize hf : notify = f
  delta notify at hf
  subst hf
  beta_reduce
  rw [takeAtNi_clean hc hl]
  simp [hlive, hop]

/-- A request at a live die goes to its target, or is answered where there is none (R198, R199). -/
theorem targetRequest_clean (flits : List Flit) (port : Nat) (x : TargetIn) (s : State) : targetRequest raw flits port x s =
    if s.live (dieIndex h.dstX h.dstY) = true then
      if epRouter (dieIndex h.dstX h.dstY) h.dstEp = some (h.dstX, h.dstY) ∧ isTarget (dieIndex h.dstX h.dstY) h.dstEp = true then
        targetTake (dieIndex h.dstX h.dstY) h.dstEp h flits x s
      else answerError h 1 s
    else s := by
  generalize hf : targetRequest = f
  delta targetRequest at hf
  subst hf
  beta_reduce
  rw [takeAtNi_clean hc hl]
  dsimp only
  split_ifs <;> simp_all

/-- A request to a target of its router, at a live die. -/
theorem targetRequest_takes {s : State} (flits : List Flit) (port : Nat) (x : TargetIn) (hlive : s.live (dieIndex h.dstX h.dstY) = true)
    (hto : epRouter (dieIndex h.dstX h.dstY) h.dstEp = some (h.dstX, h.dstY) ∧ isTarget (dieIndex h.dstX h.dstY) h.dstEp = true) :
    targetRequest raw flits port x s = targetTake (dieIndex h.dstX h.dstY) h.dstEp h flits x s := by
  rw [targetRequest_clean hc hl, if_pos hlive, if_pos hto]

end Clean

/-! ### The only request of the interfaces -/

/-- The interfaces hold the requests l. -/
def State.withEnts (s : State) (l : List NiEnt) : State := { s with net := { s.net with ents := l } }

@[simp] theorem State.withEnts_ents (s : State) (l : List NiEnt) : (s.withEnts l).net.ents = l := rfl
@[simp] theorem State.withEnts_f (s : State) (l : List NiEnt) (d : Nat) (x : Fld) : (s.withEnts l).f d x = s.f d x := State.f_congr rfl d x
@[simp] theorem State.withEnts_out (s : State) (l : List NiEnt) : (s.withEnts l).out = s.out := rfl

/-- The interfaces hold one request, e, of one packet, p. -/
def State.holdsOne (s : State) (e : NiEnt) (p : NiPart) : Prop := s.net.ents = [e] ∧ e.parts = [p]

/-- The request with its one packet replaced. -/
def NiEnt.withPart (e : NiEnt) (p : NiPart) : NiEnt := { e with parts := [p] }

/-- The packet when it is done, with a status and data. -/
def NiPart.finished (p : NiPart) (status : Nat) (data : List Line) : NiPart := { p with phase := .done, status := status, data := data }

/-- The packet when it is on its way again, by best effort. -/
def NiPart.reissued (p : NiPart) : NiPart := { p with hdr := { p.hdr with cls := false, slot := 0, reissue := true }, phase := .flight }

/-- The request is then held with that packet. -/
theorem State.holdsOne_withPart (s : State) (e : NiEnt) (p : NiPart) : (s.withEnts [e.withPart p]).holdsOne (e.withPart p) p := ⟨rfl, rfl⟩

/-- The key of a packet, field by field. -/
theorem NiPart.is_iff {p : NiPart} {src q seq : Nat} : p.is src q seq = true ↔ p.hdr.srcId = src ∧ p.hdr.queue = q ∧ p.hdr.seq = seq := by
  simp [NiPart.is, and_assoc]

/-- A packet has its own key. -/
@[simp] theorem NiPart.is_self (p : NiPart) : p.is p.hdr.srcId p.hdr.queue p.hdr.seq = true := NiPart.is_iff.mpr ⟨rfl, rfl, rfl⟩

section HoldsOne
variable {s : State} {e : NiEnt} {p : NiPart} (hone : s.holdsOne e p)
include hone

/-- That packet is all there is. -/
theorem State.niParts_one : s.niParts = [p] := by
  obtain ⟨hents, hparts⟩ := hone
  simp [State.niParts, hents, hparts]

/-- The packet is found by its key until it is done. -/
theorem State.niPart_one {src q seq : Nat} (hkey : p.is src q seq = true) (hopen : p.phase ≠ .done) : s.niPart src q seq = some p := by
  simp [State.niPart, State.niParts_one hone, hkey, hopen]

/-- A packet that is done is in no stream. -/
theorem State.stream_done (hdone : p.phase = .done) (h : Hdr) : s.stream h = [] := by
  simp [State.stream, State.niParts_one hone, hdone]

/-- A packet that is not done is all of its stream. -/
theorem State.stream_one {h : Hdr} (hstream : sameStream p.hdr h = true) (hopen : p.phase ≠ .done) : s.stream h = [p] := by
  simp [State.stream, State.niParts_one hone, hstream, hopen]

/-- A change of the packet by its key. -/
theorem modPart_one {src q seq : Nat} (hkey : p.is src q seq = true) (hopen : p.phase ≠ .done) (f : NiPart → NiPart) :
    modPart src q seq f s = s.withEnts [e.withPart (f p)] := by
  obtain ⟨hents, hparts⟩ := hone
  simp [modPart, State.withEnts, NiEnt.withPart, hents, hparts, hkey, hopen]

/-- With the packet done, the request leaves its interface. -/
theorem pumpInit_done (hstarted : e.started = true) (hdone : p.phase = .done) (src : Nat) :
    pumpInit src s = deliverOne e (s.withEnts []) := by
  obtain ⟨hents, hparts⟩ := hone
  have hall : e.done = true := by simp [NiEnt.done, hstarted, hparts, hdone]
  have hstart : startEnts 1 0 src [] s = s := by simp [startEnts, hents, hstarted]
  rw [pumpInit, hents, List.length_singleton, hstart, deliver, hents]
  simp [deliverEnts, hall, State.withEnts]

/-- The packet completes, and with it the request (R202). -/
theorem finishPart_one (hstarted : e.started = true) (hopen : p.phase ≠ .done) (hretries : p.retries = 0) (status : Nat) (data : List Line) :
    finishPart p status data s = deliverOne (e.withPart (p.finished status data)) (s.withEnts []) := by
  have hdone := s.holdsOne_withPart e (p.finished status data)
  have hmod : modPart p.hdr.srcId p.hdr.queue p.hdr.seq (fun p => { p with phase := .done, status := status, data := data }) s =
      s.withEnts [e.withPart (p.finished status data)] := modPart_one hone p.is_self hopen _
  unfold finishPart
  dsimp only
  rw [hmod, decide_eq_false (by simp [hretries]), State.when_false, pumpStream, State.stream_done hdone rfl, State.each_nil,
    pumpInit_done hdone hstarted rfl]
  rfl

end HoldsOne

/-- The result of an initiator that is no host, debug master, core or bridge is a completion (R198). -/
theorem deliverOne_plain {e : NiEnt} {s : State} (hdead : e.dead = false)
    (hplain : isHost e.req.src = false ∧ isDebugMaster e.req.src = false ∧ initCore e.req.src.toNat = none ∧ e.req.serve = none) :
    deliverOne e s = s.emit (.completion e.req.src.toNat e.req.queue.val e.result e.lines) := by
  obtain ⟨hhost, hmaster, hcore, hserve⟩ := hplain
  simp [deliverOne, hdead, hhost, hmaster, hcore, hserve]

/-- The status of a request of one packet is the packet's. -/
theorem NiEnt.result_withPart {e : NiEnt} (hstatus : e.status = 0) (p : NiPart) : (e.withPart p).result = p.status := by
  by_cases h : p.status = 0 <;> simp [NiEnt.result, NiEnt.withPart, h, hstatus]

/-- A packet that ends without data delivers no line that holds anything (R198). -/
theorem NiEnt.lines_withPart_zero (e : NiEnt) {p : NiPart} (hdata : p.data = []) : (e.withPart p).lines.all (fun l => l.data == 0) = true := by
  unfold NiEnt.lines
  dsimp only
  split_ifs
  · rfl
  · simp [NiEnt.withPart, hdata]
  · simp

/-- The only request ends with a status and without data: it leaves with a completion (R198, R202). -/
theorem finishPart_completes {s : State} {e : NiEnt} {p : NiPart} (hone : s.holdsOne e p)
    (hent : e.started = true ∧ e.status = 0 ∧ e.dead = false ∧ e.fence = false)
    (hpart : p.phase = .flight ∧ p.retries = 0 ∧ p.status = 0)
    (hplain : isHost e.req.src = false ∧ isDebugMaster e.req.src = false ∧ initCore e.req.src.toNat = none ∧ e.req.serve = none)
    (status : Nat) : ∃ l : List Line, l.all (fun x => x.data == 0) = true ∧
      finishPart p status [] s = (s.withEnts []).emit (.completion e.req.src.toNat e.req.queue.val status l) := by
  obtain ⟨hstarted, hstatus, hdead, -⟩ := hent
  obtain ⟨hflight, hretries, -⟩ := hpart
  refine ⟨_, e.lines_withPart_zero (p := p.finished status []) rfl, ?_⟩
  rw [finishPart_one hone hstarted (by simp [hflight]) hretries, deliverOne_plain (e := e.withPart _) hdead hplain,
    NiEnt.result_withPart hstatus]
  rfl

/-- An answer RETRY below the limit is counted, and leaves the packet waiting (R205). -/
theorem retryPart_waits {s : State} {e : NiEnt} {p : NiPart} (hone : s.holdsOne e p) (hopen : p.phase ≠ .done)
    (hmax : s.f (p.hdr.srcId / 256) NOC_CTRL_retry_max = 0 ∨ p.retries + 1 < s.f (p.hdr.srcId / 256) NOC_CTRL_retry_max) :
    retryPart p s = (s.inc (p.hdr.srcId / 256) NOC_RETRY_CNT_value 1).withEnts
      [e.withPart { p with phase := .retry, retries := p.retries + 1 }] := by
  have hkeeps : (s.inc (p.hdr.srcId / 256) NOC_RETRY_CNT_value 1).f (p.hdr.srcId / 256) NOC_CTRL_retry_max =
      s.f (p.hdr.srcId / 256) NOC_CTRL_retry_max := State.f_setF_clear _ _ _ _ _ _ rfl rfl (by simp [apart, NOC_RETRY_CNT, NOC_CTRL])
  have hone' : (s.inc (p.hdr.srcId / 256) NOC_RETRY_CNT_value 1).holdsOne e p := by
    obtain ⟨hents, hparts⟩ := hone
    exact ⟨by simp [hents], hparts⟩
  unfold retryPart
  dsimp only
  rw [if_neg (by rw [hkeeps]; omega), modPart_one hone' p.is_self hopen]

/-- The packet that waits after RETRY is reissued by best effort (R205, R210). -/
theorem reissueNext_best {s : State} {e : NiEnt} {p : NiPart} {h : Hdr} (hone : s.holdsOne e p) (hphase : p.phase = .retry)
    (hstream : sameStream p.hdr h = true) (hbest : s.admission p.hdr = .best) :
    reissueNext h s = sendPart p none s := by
  have hlist := State.stream_one hone hstream (by simp [hphase])
  simp [reissueNext, hlist, hphase, launch, hbest]

/-- A repeat goes out with reissue set, and is in flight again (R205). -/
theorem sendPart_repeat {s : State} {e : NiEnt} {p : NiPart} (hone : s.holdsOne e p) (hopen : p.phase ≠ .done) (hrepeat : p.retries ≠ 0) :
    sendPart p none s = (State.withEnts { s with net := { s.net with force := KMap.put s.net.force (streamKey p.hdr) false } }
      [e.withPart p.reissued]).emit (.packet p.reissued.hdr (if p.hdr.opcode = 1 then mkFlits p.lines else [])) := by
  have hforced : State.holdsOne { s with net := { s.net with force := KMap.put s.net.force (streamKey p.hdr) false } } e p := hone
  unfold sendPart
  dsimp only [Option.isSome, Option.getD]
  rw [decide_eq_true hrepeat, Bool.true_or, modPart_one hforced p.is_self hopen]
  rfl

/-! ### An answer that does not come (R206, R209) -/

/-- The location of a loss. -/
def lostLoc (src q : Nat) (h : Hdr) : List (Fld × Nat) :=
  [(NOC_LOST_LOC_endpoint, src % 256), (NOC_LOST_LOC_queue, q), (NOC_LOST_LOC_dst_x, h.dstX), (NOC_LOST_LOC_dst_y, h.dstY),
    (NOC_LOST_LOC_dst_ep, h.dstEp)]

/-- The counter, the event bit and the location of a loss lie in registers of their own. -/
theorem lostLoc_regs (src q : Nat) (h : Hdr) : FailureRegs NOC_LOST_CNT_value NOC_EVT_lost NOC_LOST_LOC (lostLoc src q h) where
  cnt_placed _ := rfl
  evt_placed _ := rfl
  evt_pos := by decide
  cnt_ne_evt := by decide
  cnt_ne_loc := by decide
  evt_ne_loc := by decide
  loc_reg _ := by simp [lostLoc, placed, NOC_LOST_LOC]

/-- A packet in flight that gets no answer is counted and located as lost, and ends with status 9. -/
theorem noResponse_lost {s : State} {p : NiPart} {src q seq : Nat} (hpart : s.niPart src q seq = some p) (hflight : p.phase = .flight) :
    noResponse src q seq s = finishPart p 9 [] (s.failure (src / 256) NOC_LOST_CNT_value NOC_EVT_lost (lostLoc src q p.hdr)) := by
  unfold noResponse
  rw [hpart]
  exact if_neg (by simp [hflight])

/-! ### The answers' commands -/

/-- Settles O32: an answer that ends the only packet ends its request, one that is RETRY leaves it waiting for its reissue, and a loss or a
CRC failure is counted, and located once. -/
theorem answersCompleteRetryOrAreLost : Obligations.AnswersCompleteRetryOrAreLost := by
  unfold Obligations.AnswersCompleteRetryOrAreLost
  refine ⟨?_, ?_, ?_, ?_, ?_, ?_⟩
  · -- WRITE_ACK and ERROR
    intro s raw flits port h e p r hc hl hlive hents hparts hent hpart hkey hplain hop
    have hone : s.fresh.holdsOne e p := ⟨hents, hparts⟩
    have hfound := State.niPart_one hone hkey (by simp [hpart.1])
    obtain ⟨l, hzero, hdone⟩ := finishPart_completes hone hent hpart hplain r
    have hends : niResponse raw flits port.val s.fresh = finishPart p r [] s.fresh := by
      rw [niResponse_dataless hc hl (s := s.fresh) flits port.val hlive hfound hpart.1 (by omega)]
      obtain ⟨hop, -, rfl⟩ | ⟨hop, rfl⟩ := hop <;> simp [hop]
    refine exec_answers (exec_niResponse ..) ?_
    rw [hends, hdone]
    refine ⟨?_, rfl, rfl⟩
    have hdata : (if r = 0 then (if e.req.write then true else p.data.all fun _ => true) else true) = true := by split_ifs <;> simp
    rw [hdata, ← hzero]
    rfl
  · -- RETRY below the limit
    intro s raw flits port h e p hc hl hlive hents hparts hflight hkey hop hmax
    have hone : s.fresh.holdsOne e p := ⟨hents, hparts⟩
    have hopen : p.phase ≠ .done := by simp [hflight]
    refine exec_answers (exec_niResponse ..) ?_
    rw [niResponse_dataless hc hl (s := s.fresh) flits port.val hlive (State.niPart_one hone hkey hopen) hflight (by omega), if_pos hop,
      retryPart_waits hone hopen hmax]
    refine ⟨rfl, ?_, ?_, ?_⟩
    · simp
    · rw [State.ended_f, State.withEnts_f, State.f_inc_same _ _ _ 1 (by decide), State.fresh_f]
    · have hfresh : s.onlyFields s.fresh [whole (p.hdr.srcId / 256) NOC_RETRY_CNT] := State.onlyFields_of_regs rfl
      exact State.onlyFields_regs (State.onlyFields_setF hfresh _ NOC_RETRY_CNT_value _ rfl (.head _)) rfl
  · -- no request is held
    intro s raw flits port h hc hl hnone hrouter
    refine exec_answers (exec_niResponse ..) ?_
    rw [niResponse_discarded hc hl (s := s.fresh) flits port.val hnone hrouter, State.ended_fresh]
  · -- the reissue
    intro s i q die ep e p b hents hparts hphase hrouter hto hbest hrepeat
    have hone : s.fresh.holdsOne e p := ⟨hents, hparts⟩
    obtain ⟨hsrc, hqueue, hx, hy, hep⟩ := hto
    refine exec_answers (exec_retryReissue ..) ?_
    rw [retryReissue, hrouter]
    dsimp only
    rw [reissueNext_best hone hphase (by simp [sameStream, *]) hbest, sendPart_repeat hone (by simp [hphase]) hrepeat]
    exact ⟨rfl, rfl, rfl⟩
  · -- no answer
    intro s i q seq e p hents hparts hent hpart hkey hplain
    have hone : s.fresh.holdsOne e p := ⟨hents, hparts⟩
    have hregs := lostLoc_regs i.toNat q.val p.hdr
    have hone' : (s.fresh.failure (i.toNat / 256) NOC_LOST_CNT_value NOC_EVT_lost (lostLoc i.toNat q.val p.hdr)).holdsOne e p :=
      ⟨by simp [hents], hparts⟩
    obtain ⟨l, hzero, hdone⟩ := finishPart_completes hone' hent hpart hplain 9
    refine exec_answers (exec_nocResponseTimeout ..) ?_
    rw [noResponse_lost (State.niPart_one hone hkey (by simp [hpart.1])) hpart.1, hdone]
    have hfinal {x : State} : (s.ended ((x.withEnts []).emit (.completion e.req.src.toNat e.req.queue.val 9 l))).regs = x.regs := rfl
    simp only [State.f_congr hfinal, State.rd_congr hfinal]
    refine ⟨?_, by simp, ?_, State.failure_event hregs, fun hclear => ?_, fun hset => ?_, ?_⟩
    · rw [State.ended_out, State.emit_out, State.withEnts_out, State.failure_out, State.fresh_out, ← hzero]
      rfl
    · rw [State.failure_count hregs, State.fresh_f]
    · rw [← State.fresh_f] at hclear
      exact ⟨State.failure_located hregs hclear [_] rfl q.isLt (by simp [apart]),
        State.failure_located hregs hclear [] rfl (Nat.mod_lt _ (by decide)) (by simp [apart])⟩
    · rw [← State.fresh_f] at hset
      rw [State.failure_held hregs hset, State.fresh_rd]
    · have hfresh : s.onlyFields s.fresh [whole (i.toNat / 256) NOC_LOST_CNT, (i.toNat / 256, NOC_EVT_lost), whole (i.toNat / 256) NOC_LOST_LOC] :=
        State.onlyFields_of_regs rfl
      exact State.onlyFields_regs (State.onlyFields_trans hfresh (State.failure_onlyFields hregs)) hfinal
  · -- NOTIFY
    intro s raw port h hc hl hop hlive
    refine exec_answers (exec_notify ..) ?_
    rw [notify_records hc hl (s := s.fresh) port.val hlive hop]
    simp only [State.ended_f, State.ended_net, State.ended_freeCtr]
    have hfield (x : Fld) : s.fresh.freeNext.f (dieIndex h.dstX h.dstY) x = s.f (dieIndex h.dstX h.dstY) x := State.f_congr rfl _ _
    refine ⟨?_, crcFail_event .., fun hclear => ?_, ?_, ?_⟩
    · rw [← hfield]
      exact crcFail_count ..
    · rw [← hfield] at hclear
      exact crcFail_located _ _ _ _ _ _ _ hclear (hamCheck_srcId_lt hc) (hamCheck_dstEp_lt hc)
    · rw [State.net_of_rest (crcFail_rest ..), State.freeNext_net, State.fresh_net]
    · rw [State.freeCtr_of_rest (crcFail_rest ..), State.freeNext_freeCtr, State.fresh_freeCtr]

end Sys2Proof.Machine
end

section
/-! SUPPORT. A request at its target (06): what it leaves alone, and the checks in their order (R193 to R199, R204). -/

namespace Sys2Proof.Machine

/-! ### What a request leaves alone at its target -/

/-- From s to t nothing changes but the interfaces and the statistics. -/
def State.meshOnly (s t : State) : Prop := t = { s with net := t.net, stats := t.stats }

/-- From s to t nothing changes but the interfaces, the statistics, the registers and what is put out. -/
def State.meshFrame (s t : State) : Prop := t.rest = { s.rest with net := t.net, stats := t.stats }

section MeshOnly
variable {s t u : State} (h : s.meshOnly t)
include h

theorem State.meshOnly_trans (hu : t.meshOnly u) : s.meshOnly u := by
  rw [State.meshOnly, hu, h]

theorem State.meshOnly_regs : t.regs = s.regs := (congrArg State.regs h :)
theorem State.meshOnly_out : t.out = s.out := (congrArg State.out h :)
theorem State.meshOnly_frame : s.meshFrame t := (congrArg State.rest h :)

end MeshOnly

section MeshFrame
variable {s t u : State}

/-- What keeps the frame leaves the memories. -/
theorem State.meshFrame_mem {s t : State} (h : s.meshFrame t) : t.mem = s.mem := (congrArg State.mem h :)

theorem State.meshFrame_trans (h : s.meshFrame t) (hu : t.meshFrame u) : s.meshFrame u := by
  rw [State.meshFrame, hu, h]

/-- Registers and outputs are left out of account. -/
theorem State.meshFrame_rest (h : s.meshFrame t) (hu : u.rest = t.rest) : s.meshFrame u := by
  have hnet : u.net = t.net := (congrArg State.net hu :)
  have hstats : u.stats = t.stats := (congrArg State.stats hu :)
  rw [State.meshFrame, hu, hnet, hstats]
  exact h

/-- A command keeps the frame that its effect keeps. -/
theorem State.ended_meshFrame (h : s.fresh.meshFrame u) : s.meshFrame (s.ended u) := by
  have hpend : u.pending = s.pending := (congrArg State.pending h :)
  have htime : u.time = s.time := (congrArg State.time h :)
  have hfuses : u.fuses = s.fuses := (congrArg State.fuses h :)
  rw [State.ended, ← hpend, ← htime, ← hfuses]
  exact h

end MeshFrame

/-! ### What taking and answering a request leaves (R199, R204, R236) -/

/-- A request that is taken is noted at the interfaces and in the statistics (R236). -/
theorem takeRequest_meshOnly (h : Hdr) (lat bytes : Nat) (s : State) : s.meshOnly (takeRequest h lat bytes s) := rfl

/-- So is its answer. -/
theorem answered_meshOnly (h : Hdr) (a : Answered) (s : State) : s.meshOnly (answered h a s) := by
  unfold answered
  cases KMap.look s.net.taken (takenKey h) <;> (dsimp only; split_ifs <;> rfl)

/-- A retry flag reads back what was stored. -/
theorem retryFlag_setRetryFlag (h : Hdr) (b : Bool) (s : State) : (setRetryFlag h b s).retryFlag h = b := by
  unfold State.retryFlag setRetryFlag
  exact KMap.look_put_same ..

/-- RETRY to a first issue sets the retry flag of its pair (R204). -/
theorem answered_retryFlag {h : Hdr} (hfirst : h.reissue = false) (s : State) : (answered h .retry s).retryFlag h = true := by
  unfold answered
  dsimp only
  rw [if_pos rfl, if_neg (by simp [hfirst])]
  exact retryFlag_setRetryFlag h true _

/-- An error of another status than 0x0B. -/
theorem answerError_plain {status : Nat} (hstatus : status ≠ 0x0B) (h : Hdr) (s : State) :
    answerError h status s = (answered h .error s).emit (.packet (h.answer 4 status 0) []) := by
  simp [answerError, hstatus]

/-- An error of status 0x0B sets the event bit of malformed requests (R209). -/
theorem answerError_malformed (h : Hdr) (s : State) : answerError h 0x0B s =
    ((answered h .error s).evt (dieIndex h.dstX h.dstY) NOC_EVT_malformed).emit (.packet (h.answer 4 0x0B 0) []) := by
  simp [answerError]

/-- An error puts out its packet. -/
theorem answerError_out (h : Hdr) (status : Nat) (s : State) :
    (answerError h status s).out = s.out ++ [.packet (h.answer 4 status 0) []] := by
  have hout := State.meshOnly_out (answered_meshOnly h .error s)
  by_cases hstatus : status = 0x0B
  · rw [hstatus, answerError_malformed, State.emit_out, State.evt_out, hout]
  · rw [answerError_plain hstatus, State.emit_out, hout]

/-- An error keeps the frame. -/
theorem answerError_meshFrame (h : Hdr) (status : Nat) (s : State) : s.meshFrame (answerError h status s) := by
  have hframe := State.meshOnly_frame (answered_meshOnly h .error s)
  by_cases hstatus : status = 0x0B
  · rw [hstatus, answerError_malformed]
    exact State.meshFrame_rest hframe (by rw [State.emit_rest, State.evt_rest])
  · rw [answerError_plain hstatus]
    exact State.meshFrame_rest hframe (State.emit_rest ..)

/-- An error of another status than 0x0B changes no register. -/
theorem answerError_regs {status : Nat} (hstatus : status ≠ 0x0B) (h : Hdr) (s : State) : (answerError h status s).regs = s.regs := by
  rw [answerError_plain hstatus, State.emit_regs, State.meshOnly_regs (answered_meshOnly h .error s)]

/-- A malformed request is an event at the endpoint's die (R209). -/
theorem answerError_malformed_event (h : Hdr) (s : State) :
    (answerError h 0x0B s).f (dieIndex h.dstX h.dstY) NOC_EVT_malformed = 1 ∧
    s.onlyFields (answerError h 0x0B s) [(dieIndex h.dstX h.dstY, NOC_EVT_malformed)] := by
  have hregs := State.meshOnly_regs (answered_meshOnly h .error s)
  rw [answerError_malformed]
  have hevent := State.onlyFields_setF
    (State.onlyFields_of_regs (l := [(dieIndex h.dstX h.dstY, NOC_EVT_malformed)]) hregs)
    (dieIndex h.dstX h.dstY) NOC_EVT_malformed 1 rfl (.head _)
  refine ⟨?_, State.onlyFields_regs hevent (State.emit_regs ..)⟩
  rw [State.f_congr (State.emit_regs ..)]
  exact State.f_setF_fits _ _ NOC_EVT_malformed 1 (by decide) (by decide)

/-! ### The checks in their order -/

/-- The endpoint answers RETRY: a first issue while the flag of its pair stands, a closed clock gate, or a region that is mapped and does not
run (R106, R204, R538). -/
def State.holdsOff (s : State) (d ep : Nat) (h : Hdr) : Bool := (s.retryFlag h && !h.reissue) || s.epGated d ep || s.regionHolds d ep

/-- A reissue, or a request of a pair whose flag does not stand, to an open endpoint is not held off. -/
theorem State.holdsOff_eq_false {s : State} {d ep : Nat} {h : Hdr} (hflag : s.retryFlag h = false ∨ h.reissue = true)
    (hopen : s.epGated d ep = false ∧ s.regionHolds d ep = false) : s.holdsOff d ep h = false := by
  obtain hflag | hflag := hflag <;> simp [State.holdsOff, hopen, hflag]

/-- The retry flags, the clock gates and the regions decide. -/
theorem State.holdsOff_congr {s t : State} {l : List (Nat × Nat)} {d : Nat} (hpages : s.onlyPages t l) (hnet : t.net = s.net)
    (hclk : (d, 0x02) ∉ l) (hregion : (d, 0x90) ∉ l) (ep : Nat) (h : Hdr) : t.holdsOff d ep h = s.holdsOff d ep h := by
  have hflag : t.retryFlag h = s.retryFlag h := by rw [State.retryFlag, State.retryFlag, hnet]
  have hgated : t.epGated d ep = s.epGated d ep := by
    have hb (b : Nat) : t.gated d b = s.gated d b := by
      rw [State.gated, State.gated, hpages d CLK_GATE (by decide) hclk, hpages d CLK_GATE_STAT (by decide) hclk]
    simp only [State.epGated, hb]
  have hholds : t.regionHolds d ep = s.regionHolds d ep := by
    by_cases hep : ep < 0x58
    · have hreg : REGIONS_STATE (ep - 0x40) < 0x1000000 ∧ REGIONS_STATE (ep - 0x40) / 0x10000 = 0x90 := by
        unfold REGIONS_STATE; omega
      have hf (x : Fld) (hx : x.reg = REGIONS_STATE (ep - 0x40)) : t.f d x = s.f d x :=
        State.f_onlyPages hpages (hx ▸ hreg.1) (by rw [hx, hreg.2]; exact hregion)
      have hclass := hf (REGIONS_STATE_class (ep - 0x40)) rfl
      have hstate := hf (REGIONS_STATE_state (ep - 0x40)) rfl
      unfold State.regionHolds State.on State.regionState
      rw [hclass, hstate]
    · simp [State.regionHolds, hep]
  rw [State.holdsOff, State.holdsOff, hflag, hgated, hholds]

section Target
variable {d ep : Nat} {h : Hdr} {flits : List Flit} {s : State} (x : TargetIn)

/-- A request whose flits were cut short is taken and gets no answer. -/
theorem targetTake_truncated (hcut : flits.any (fun f => f.truncated) = true) :
    targetTake d ep h flits x s = takeRequest h x.lat (h.asked flits) s := if_pos hcut

variable (hwhole : flits.any (fun f => f.truncated) = false)
include hwhole

/-- A request with good data is held off, or fails for its form, or is served. -/
theorem targetTake_good (hdata : h.opcode = 0 ∨ firstBadFlit flits = none) : targetTake d ep h flits x s =
    if s.holdsOff d ep h then answerRetry h (takeRequest h x.lat (h.asked flits) s)
    else if h.formed flits then endpointServe d ep h flits x (takeRequest h x.lat (h.asked flits) s)
    else answerError h (if (ep = 0 ∨ ep = 0x10) ∧ h.opcode ≤ 1 ∧ h.ctlAddr flits = none then 2 else 0x0B)
      (takeRequest h x.lat (h.asked flits) s) := by
  have hbad : (if h.opcode = 1 then firstBadFlit flits else none) = none := by
    obtain hop | hnone := hdata <;> simp [*]
  unfold targetTake
  dsimp only
  rw [hwhole, hbad, if_neg Bool.false_ne_true]
  change (if s.holdsOff d ep h then _ else if !h.formed flits then _ else _) = _
  cases h.formed flits <;> rfl

/-- A WRITE with bad data is noted, and fails with status 7 unless it is held off (R197). -/
theorem targetTake_bad {i : Nat} (hop : h.opcode = 1) (hbad : firstBadFlit flits = some i) (hoff : s.holdsOff d ep h = false) :
    targetTake d ep h flits x s = answerError h 7 (crcFail d h.srcId ep i false false (takeRequest h x.lat (h.asked flits) s)) := by
  have hstill : (crcFail d h.srcId ep i false false (takeRequest h x.lat (h.asked flits) s)).holdsOff d ep h = false := by
    rw [State.holdsOff_congr (crcFail_onlyPages d h.srcId ep i false false _) (State.net_of_rest (crcFail_rest ..)) (by simp) (by simp)]
    exact hoff
  unfold targetTake
  dsimp only
  rw [hwhole, if_pos hop, hbad]
  rw [State.holdsOff] at hstill
  simp only [hstill, Option.isSome_some, if_true, Bool.false_eq_true, if_false]

end Target

/-- A read of an on-chip memory window waits for the window's word. -/
theorem endpointServe_window (d : Nat) (h : Hdr) (flits : List Flit) (x : TargetIn) (s : State) :
    endpointServe d 0x70 h flits x s = { s with mem := { s.mem with
      window := KMap.put s.mem.window d (KMap.look s.mem.window d ++ [(h, flits.map (·.line))]) } } := rfl

/-! ### The command -/

/-- Settles O33: at its target a request is answered at the first of the checks that it fails: for the target, the flag, the data, the form. -/
theorem targetsCheckBeforeTheyAnswer : Obligations.TargetsCheckBeforeTheyAnswer := by
  unfold Obligations.TargetsCheckBeforeTheyAnswer
  refine ⟨?_, ?_, ?_, ?_, ?_⟩
  · -- no target
    intro s raw flits port x h hc hl hlive hno
    refine exec_answers (exec_targetRequest ..) ?_
    rw [targetRequest_clean hc hl, if_pos (show s.fresh.live _ = true from hlive), if_neg (not_and_or.mpr (by simpa using hno))]
    have hframe := State.ended_meshFrame (answerError_meshFrame h 1 s.fresh)
    refine ⟨?_, ?_, State.meshFrame_mem hframe, hframe⟩
    · rw [State.ended_out, answerError_out, State.fresh_out, List.nil_append]
    · rw [State.ended_regs, answerError_regs (by decide), State.fresh_regs]
  · -- RETRY
    intro s raw flits port x h hc hl hlive hto hwhole hdata hflag
    have hoff : s.fresh.holdsOff (dieIndex h.dstX h.dstY) h.dstEp h = true := by
      have hfresh : s.fresh.retryFlag h = true := hflag.1
      simp [State.holdsOff, hfresh, hflag.2]
    have hmesh := State.meshOnly_trans (takeRequest_meshOnly h x.lat (h.asked flits) s.fresh) (answered_meshOnly h .retry _)
    have hframe := State.ended_meshFrame (State.meshFrame_rest (State.meshOnly_frame hmesh)
      (State.emit_rest _ (.packet (h.answer 5 0 0) [])))
    refine exec_answers (exec_targetRequest ..) ?_
    rw [targetRequest_takes hc hl (s := s.fresh) flits port.val x hlive hto, targetTake_good x hwhole hdata, if_pos hoff, answerRetry]
    refine ⟨?_, answered_retryFlag hflag.2 _, ?_, State.meshFrame_mem hframe, hframe⟩
    · rw [State.ended_out, State.emit_out, State.meshOnly_out hmesh, State.fresh_out, List.nil_append]
    · rw [State.ended_regs, State.emit_regs, State.meshOnly_regs hmesh, State.fresh_regs]
  · -- bad data, or a bad form
    intro s raw flits port x h i r hc hl hlive hto hwhole hflag hopen hfails
    have hoff := State.holdsOff_eq_false (s := s.fresh) hflag hopen
    have htaken := takeRequest_meshOnly h x.lat (h.asked flits) s.fresh
    refine exec_answers (exec_targetRequest ..) ?_
    rw [targetRequest_takes hc hl (s := s.fresh) flits port.val x hlive hto]
    obtain ⟨hop, hbad, rfl⟩ | ⟨hdata, -, hform, hr⟩ := hfails
    · rw [targetTake_bad x hwhole hop hbad hoff]
      have hframe := State.ended_meshFrame (State.meshFrame_trans (State.meshFrame_rest (State.meshOnly_frame htaken)
        (crcFail_rest (dieIndex h.dstX h.dstY) h.srcId h.dstEp i false false _)) (answerError_meshFrame h 7 _))
      have hfield (y : Fld) : (takeRequest h x.lat (h.asked flits) s.fresh).f (dieIndex h.dstX h.dstY) y = s.f (dieIndex h.dstX h.dstY) y :=
        State.f_congr (State.meshOnly_regs htaken) _ _
      refine ⟨?_, congrArg MemSt.window (State.meshFrame_mem hframe), fun _ => ⟨?_, ?_⟩, by simp, by simp, hframe⟩
      · rw [State.ended_out, answerError_out, List.getLast?_concat]
      · rw [State.ended_f, State.f_congr (answerError_regs (by decide) h _), crcFail_event]
      · rw [State.ended_f, State.f_congr (answerError_regs (by decide) h _), crcFail_count, hfield]
    · rw [targetTake_good x hwhole hdata, if_neg (Bool.eq_false_iff.mp hoff), if_neg (Bool.eq_false_iff.mp hform), ← hr]
      have hframe := State.ended_meshFrame (State.meshFrame_trans (State.meshOnly_frame htaken) (answerError_meshFrame h r _))
      refine ⟨?_, congrArg MemSt.window (State.meshFrame_mem hframe), ?_, ?_, ?_, hframe⟩
      · rw [State.ended_out, answerError_out, List.getLast?_concat]
      · intro h7
        split_ifs at hr <;> omega
      · rintro rfl
        obtain ⟨hevent, hfields⟩ := answerError_malformed_event h (takeRequest h x.lat (h.asked flits) s.fresh)
        refine ⟨(State.ended_f ..).trans hevent, State.onlyFields_regs (State.onlyFields_trans (State.onlyFields_of_regs ?_) hfields)
          (State.ended_regs ..)⟩
        rw [State.meshOnly_regs htaken, State.fresh_regs]
      · rintro rfl
        rw [State.ended_regs, answerError_regs (by decide), State.meshOnly_regs htaken, State.fresh_regs]
  · -- cut short
    intro s raw flits port x h hc hl hto hcut
    have hmesh : s.fresh.meshOnly (targetRequest raw flits port.val x s.fresh) := by
      rw [targetRequest_clean hc hl, if_pos hto, targetTake_truncated x hcut]
      split_ifs
      · exact takeRequest_meshOnly ..
      · rfl
    have hframe := State.ended_meshFrame (State.meshOnly_frame hmesh)
    refine exec_answers (exec_targetRequest ..) ⟨?_, ?_, State.meshFrame_mem hframe, hframe⟩
    · rw [State.ended_out, State.meshOnly_out hmesh, State.fresh_out]
    · rw [State.ended_regs, State.meshOnly_regs hmesh, State.fresh_regs]
  · -- a read of the window
    intro s raw port x h hc hl hlive hto hflag hgate hread
    obtain ⟨hop, hform, hep⟩ := hread
    have hholds : s.regionHolds (dieIndex h.dstX h.dstY) h.dstEp = false := by simp [State.regionHolds, hep]
    have hoff := State.holdsOff_eq_false (s := s.fresh) hflag ⟨hgate, hholds⟩
    have htaken := takeRequest_meshOnly h x.lat (h.asked []) s.fresh
    refine exec_answers (exec_targetRequest ..) ?_
    rw [targetRequest_takes hc hl (s := s.fresh) [] port.val x hlive hto, targetTake_good x rfl (.inl hop), if_neg (Bool.eq_false_iff.mp hoff),
      if_pos hform, hep, endpointServe_window, htaken]
    exact ⟨KMap.look_put_same .., rfl, rfl, rfl⟩

end Sys2Proof.Machine
end

section
/-! SUPPORT. Schedule swaps (07): the locks of the shadow banks, and what an arm, a cancel and the end of a bank's check do (R219 to R221). -/

namespace Sys2Proof.Machine

/-! ### The state of the swaps -/

/-- The reservation banks and their swaps become these. -/
def State.setSch (s : State) (c : SchSt) : State := { s with sch := c }

@[simp] theorem State.setSch_rest (s : State) (c : SchSt) : (s.setSch c).rest = { s.rest with sch := c } := rfl

/-- What leaves all but registers and outputs leaves the swaps. -/
theorem State.sch_of_rest {s t : State} (h : t.rest = s.rest) : t.sch = s.sch := (congrArg State.sch h :)

/-- A command whose effect leaves all but the swaps, the registers and the outputs ends with those swaps, and leaves the same. -/
theorem State.ended_setSch {s u : State} {c : SchSt} (h : u.rest = { s.rest with sch := c }) :
    (s.ended u).sch = c ∧ (s.ended u).rest = { s.rest with sch := (s.ended u).sch } := by
  have hsch : u.sch = c := (congrArg State.sch h :)
  have hpend : u.pending = s.pending := (congrArg State.pending h :)
  have htime : u.time = s.time := (congrArg State.time h :)
  have hfuses : u.fuses = s.fuses := (congrArg State.fuses h :)
  subst hsch
  rw [State.ended, ← hpend, ← htime, ← hfuses]
  exact ⟨rfl, h⟩

@[simp] theorem State.fresh_swapDies (s : State) : s.fresh.swapDies = s.swapDies := rfl
@[simp] theorem State.fresh_activeBank (s : State) (d : Nat) : s.fresh.activeBank d = s.activeBank d := rfl
@[simp] theorem State.fresh_bankReason (s : State) (d bank : Nat) : s.fresh.bankReason d bank = s.bankReason d bank := rfl

/-- The reasons of a bank's check are at most 4 (R219). -/
theorem State.bankReason_le (s : State) (d bank : Nat) : s.bankReason d bank ≤ 4 := by
  unfold State.bankReason
  dsimp only
  split_ifs <;> decide

/-- Stores of listed fields change no other. -/
theorem State.onlyFields_setFs {s t : State} {l : List (Nat × Fld)} {d : Nat} (k : List (Fld × Nat)) (h : s.onlyFields t l)
    (hk : ∀ e ∈ k, placed (d, e.1) = true ∧ (d, e.1) ∈ l) : s.onlyFields (t.setFs d k) l := by
  induction k generalizing t with
  | nil => exact h
  | cons e k ih =>
    obtain ⟨hplaced, hlisted⟩ := hk e (by simp)
    rw [State.setFs_cons]
    exact ih (State.onlyFields_setF h d e.1 e.2 hplaced hlisted) fun x hx => hk x (List.mem_cons_of_mem _ hx)

/-! ### The locks of the shadow banks -/

section Locks
variable (l : List Nat) (b : Bool) (s : State)

@[simp] theorem lockBanks_rest : (lockBanks l b s).rest = s.rest :=
  State.each_keeps (fun t => t.rest = s.rest) _ l (fun t d _ h => (State.setB_rest t d _ b).trans h) s rfl

/-- A field of another register than the schedulers' states reads as before. -/
theorem lockBanks_f_clear (d : Nat) {x : Fld} (hx : placed (d, x) = true) (hreg : PROBES_SCH_STATE ≠ x.reg) :
    (lockBanks l b s).f d x = s.f d x :=
  State.each_keeps (fun t => t.f d x = s.f d x) _ l
    (fun t k _ h => (State.f_setF_clear t k d _ x _ rfl hx (by simp [apart, hreg])).trans h) s rfl

/-- Each die of the list is locked, or unlocked. -/
theorem lockBanks_locked {d : Nat} (hd : d ∈ l) : (lockBanks l b s).f d PROBES_SCH_STATE_locked = if b then 1 else 0 := by
  have hfits : (if b then 1 else 0) < 2 := by cases b <;> decide
  have hstore (t : State) : (t.setB d PROBES_SCH_STATE_locked b).f d PROBES_SCH_STATE_locked = if b then 1 else 0 :=
    State.f_setF_fits t d PROBES_SCH_STATE_locked _ (by decide) hfits
  have hlater (k : List Nat) (t : State) (ht : t.f d PROBES_SCH_STATE_locked = if b then 1 else 0) :
      (lockBanks k b t).f d PROBES_SCH_STATE_locked = if b then 1 else 0 := by
    refine State.each_keeps (fun t => t.f d PROBES_SCH_STATE_locked = if b then 1 else 0) _ k (fun t j _ h => ?_) t ht
    by_cases hj : j = d
    · subst hj
      exact hstore t
    · exact (State.f_setF_clear t j d _ _ _ rfl rfl (by simp [apart, hj])).trans h
  obtain ⟨before, after, rfl⟩ := List.append_of_mem hd
  have hsplit : lockBanks (before ++ d :: after) b s =
      lockBanks after b ((lockBanks before b s).setB d PROBES_SCH_STATE_locked b) := by
    simp [lockBanks, State.each]
  rw [hsplit]
  exact hlater after _ (hstore _)

variable {l s}

/-- Only the locks of the list's dies change. -/
theorem lockBanks_onlyFields {t : State} {k : List (Nat × Fld)} (h : s.onlyFields t k) (hl : ∀ d ∈ l, (d, PROBES_SCH_STATE_locked) ∈ k) :
    s.onlyFields (lockBanks l b t) k :=
  State.each_keeps (fun u => s.onlyFields u k) _ l
    (fun _ d hd hu => State.onlyFields_setF hu d PROBES_SCH_STATE_locked _ rfl (hl d hd)) t h

end Locks

/-! ### A change of the swaps -/

/-- The banks and their swaps become c, with the fields k of `PROBES_SCH_SWSTAT`; the shadow banks of the dies l are locked, or unlocked. -/
def State.swapped (s : State) (c : SchSt) (k : List (Fld × Nat)) (l : List Nat) (b : Bool) : State := lockBanks l b ((s.setSch c).setFs 0 k)

section Swapped
variable {s : State} {c : SchSt} {k : List (Fld × Nat)} {l : List Nat} {b : Bool}

theorem State.swapped_rest : (s.swapped c k l b).rest = { s.rest with sch := c } := by
  rw [State.swapped, lockBanks_rest, State.setFs_rest, State.setSch_rest]

/-- A command that changes the swaps ends with them. -/
theorem State.ended_swapped_sch : (s.ended (s.fresh.swapped c k l b)).sch = c := (State.ended_setSch State.swapped_rest).1

/-- It leaves all else but registers and outputs. -/
theorem State.ended_swapped_rest :
    (s.ended (s.fresh.swapped c k l b)).rest = { s.rest with sch := (s.ended (s.fresh.swapped c k l b)).sch } :=
  (State.ended_setSch State.swapped_rest).2

/-- A field that is stored, and shares no bit with those stored after it, reads back. -/
theorem State.swapped_swstat (before : List (Fld × Nat)) {after : List (Fld × Nat)} {x : Fld} {v : Nat} (hk : k = before ++ (x, v) :: after)
    (hx : placed (0, x) = true) (hreg : x.reg = PROBES_SCH_SWSTAT) (hv : v < 2 ^ x.len)
    (hafter : ∀ e ∈ after, placed (0, e.1) = true ∧ apart (0, e.1) (0, x) = true) : (s.swapped c k l b).f 0 x = v := by
  rw [State.swapped, lockBanks_f_clear _ _ _ 0 hx (by simp [hreg]), hk, State.setFs_append, State.f_setFs_cons _ 0 x v after hx hafter,
    Nat.mod_eq_of_lt hv]

/-- The dies of the list are locked, or unlocked. -/
theorem State.swapped_locked {d : Nat} (hd : d ∈ l) : (s.swapped c k l b).f d PROBES_SCH_STATE_locked = if b then 1 else 0 :=
  lockBanks_locked l b _ hd

/-- Only the fields stored and the locks of the list change. -/
theorem State.swapped_onlyFields {t : State} {m : List (Nat × Fld)} (hk : s.onlyFields ((t.setSch c).setFs 0 k) m) :
    s.onlyFields (t.swapped c k l b) (m ++ l.map (fun d => (d, PROBES_SCH_STATE_locked))) :=
  lockBanks_onlyFields b (State.onlyFields_mono hk fun _ he => List.mem_append_left _ he)
    fun _ hd => List.mem_append_right _ (List.mem_map_of_mem hd)

end Swapped

/-! ### A refused arm -/

section Refuse
variable (r : Nat) (s : State)

@[simp] theorem swapRefuse_rest : (swapRefuse r s).rest = s.rest := by simp [swapRefuse]

/-- A refused arm leaves the fields of `PROBES_SCH_SWSTAT` but for the reason. -/
theorem swapRefuse_swstat {x : Fld} (hx : placed (0, x) = true) (hreg : x.reg = PROBES_SCH_SWSTAT)
    (hapart : apart (0, PROBES_SCH_SWSTAT_reason) (0, x) = true) : (swapRefuse r s).f 0 x = s.f 0 x := by
  rw [swapRefuse, State.evt, State.f_setF_clear _ 0 0 _ x _ (by decide) hx (by simp [apart, hreg]),
    lockBanks_f_clear _ _ _ 0 hx (by simp [hreg]), State.f_setF_clear _ 0 0 _ x _ (by decide) hx hapart]

/-- A refused arm shows its reason. -/
theorem swapRefuse_reason (hr : r < 16) : (swapRefuse r s).f 0 PROBES_SCH_SWSTAT_reason = r := by
  rw [swapRefuse, State.evt, State.f_setF_clear _ 0 0 _ _ _ (by decide) (by decide) (by decide),
    lockBanks_f_clear _ _ _ 0 (by decide) (by decide)]
  exact State.f_setF_fits s 0 PROBES_SCH_SWSTAT_reason r (by decide) hr

/-- A refused arm sets its event bit. -/
theorem swapRefuse_event : (swapRefuse r s).f 0 PROBES_SCH_EVT_swap_refused = 1 :=
  State.f_setF_fits _ 0 PROBES_SCH_EVT_swap_refused 1 (by decide) (by decide)

/-- A refused arm unlocks the shadow banks. -/
theorem swapRefuse_unlocks {d : Nat} (hd : d ∈ allDies) : (swapRefuse r s).f d PROBES_SCH_STATE_locked = 0 := by
  rw [swapRefuse, State.evt, State.f_setF_clear _ 0 d _ _ _ rfl rfl (by simp [apart])]
  exact lockBanks_locked allDies false _ hd

/-- A refused arm changes nothing else. -/
theorem swapRefuse_regsOnly : s.regsOnly (swapRefuse r s)
    ([(0, PROBES_SCH_SWSTAT_reason), (0, PROBES_SCH_EVT_swap_refused)] ++ allDies.map (fun d => (d, PROBES_SCH_STATE_locked))) := by
  refine ⟨State.onlyFields_setF (lockBanks_onlyFields false (State.onlyFields_setF (State.onlyFields_refl s _) 0 _ r (by decide) ?_) ?_)
    0 _ 1 (by decide) ?_, swapRefuse_rest r s⟩
  · simp
  · exact fun d hd => List.mem_append_right _ (List.mem_map_of_mem hd)
  · simp

end Refuse

/-! ### What the three commands do -/

section Commands
variable {s : State}

/-- An arm is refused for the first of cancel written with it, a tick closer than two ahead, and a test period (R220). -/
theorem swapArm_refuses {both : Bool} {r : Nat} (hlive : s.live 0 = true)
    (hr : both = true ∧ r = 7 ∨ both = false ∧ s.rd64 0 PROBES_SCH_AT_LO PROBES_SCH_AT_HI < s.time.num + 2 ∧ r = 1 ∨
      both = false ∧ s.time.num + 2 ≤ s.rd64 0 PROBES_SCH_AT_LO PROBES_SCH_AT_HI ∧ s.testPeriod = true ∧ r = 6) :
    swapArm both s = swapRefuse r s := by
  obtain ⟨rfl, rfl⟩ | ⟨rfl, hnear, rfl⟩ | ⟨rfl, hfar, htest, rfl⟩ := hr
  · simp [swapArm, hlive]
  · simp [swapArm, hlive, hnear]
  · simp [swapArm, hlive, Nat.not_lt.mpr hfar, htest]

/-- Any other arm is under check, and locks the shadow banks of the dies not fenced (R220). -/
theorem swapArm_accepts (hlive : s.live 0 = true) (hfar : s.time.num + 2 ≤ s.rd64 0 PROBES_SCH_AT_LO PROBES_SCH_AT_HI)
    (htest : s.testPeriod = false) : swapArm false s =
      s.swapped { s.sch with arm := some (s.rd64 0 PROBES_SCH_AT_LO PROBES_SCH_AT_HI), checking := s.swapDies }
        [(PROBES_SCH_SWSTAT_checking, 1), (PROBES_SCH_SWSTAT_reason, 0), (PROBES_SCH_SWSTAT_die, 0)] s.swapDies true := by
  simp [swapArm, hlive, Nat.not_lt.mpr hfar, htest, State.swapped, State.setSch]

/-- A cancel withdraws the swap that is pending or under check, and unlocks the shadow banks (R220). -/
theorem swapCancel_withdraws (hlive : s.live 0 = true) : swapCancel s =
    s.swapped { s.sch with pend := none, arm := none, checking := [] }
      [(PROBES_SCH_SWSTAT_checking, 0), (PROBES_SCH_SWSTAT_pending, 0)] allDies false := by
  rw [swapCancel, if_neg (by simp [hlive])]
  rfl

variable {d : Nat} (hchecks : s.sch.arm.isSome = true ∧ s.sch.checking.contains d = true)
include hchecks

/-- The end of a check is by the bank's reason, and by whether others still check. -/
theorem bankCheckDone_eq : bankCheckDone d s =
    if s.bankReason d (1 - s.activeBank d) ≠ 0 then
      swapRefuse (s.bankReason d (1 - s.activeBank d)) (swapCheckEnd (s.setF 0 PROBES_SCH_SWSTAT_die d))
    else if (s.sch.checking.erase d).isEmpty then
      (swapCheckEnd (s.setSch { s.sch with pend := s.sch.arm })).setF 0 PROBES_SCH_SWSTAT_pending 1
    else s.setSch { s.sch with checking := s.sch.checking.erase d } := by
  obtain ⟨harm, hin⟩ := hchecks
  rw [bankCheckDone, if_neg (by rw [hin]; simp [Option.isSome_iff_ne_none.mp harm])]
  rfl

/-- A bank that fails its check refuses the arm, and shows the die (R219, R220). -/
theorem bankCheckDone_fails (hfails : s.bankReason d (1 - s.activeBank d) ≠ 0) : bankCheckDone d s =
    swapRefuse (s.bankReason d (1 - s.activeBank d)) (s.swapped { s.sch with arm := none, checking := [] }
      [(PROBES_SCH_SWSTAT_die, d), (PROBES_SCH_SWSTAT_checking, 0)] [] false) := by
  rw [bankCheckDone_eq hchecks, if_pos hfails]
  rfl

/-- The last bank to pass makes the swap pending (R220). -/
theorem bankCheckDone_last (hpasses : s.bankReason d (1 - s.activeBank d) = 0) (hlast : s.sch.checking.erase d = []) :
    bankCheckDone d s = s.swapped { s.sch with arm := none, checking := [], pend := s.sch.arm }
      [(PROBES_SCH_SWSTAT_checking, 0), (PROBES_SCH_SWSTAT_pending, 1)] [] false := by
  rw [bankCheckDone_eq hchecks, if_neg (not_not.mpr hpasses), if_pos (by simp [hlast])]
  rfl

/-- A bank that passes while others still check is taken off (R220). -/
theorem bankCheckDone_more (hpasses : s.bankReason d (1 - s.activeBank d) = 0) (hmore : s.sch.checking.erase d ≠ []) :
    bankCheckDone d s = s.setSch { s.sch with checking := s.sch.checking.erase d } := by
  rw [bankCheckDone_eq hchecks, if_neg (not_not.mpr hpasses), if_neg (by simpa using hmore)]

end Commands

/-! ### The obligation -/

/-- Settles O34: each of the three commands is one refusal, one change of the swaps with its locks, or one step of the check. -/
theorem scheduleSwapsAreArmedCheckedAndRefused : Obligations.ScheduleSwapsAreArmedCheckedAndRefused := by
  unfold Obligations.ScheduleSwapsAreArmedCheckedAndRefused
  refine ⟨fun s both r hlive hr => ?_, fun s hlive hfar htest => ?_, fun s hlive => ?_, fun s d a harm hin => ?_⟩
  · -- a refused arm
    have hlt : r < 16 := by omega
    refine exec_answers (exec_scheduleSwapArm both s) ?_
    rw [swapArm_refuses (s := s.fresh) hlive hr]
    have hregs := State.ended_regsOnly (swapRefuse_regsOnly r s.fresh)
    simp only [State.ended_f]
    exact ⟨swapRefuse_reason r _ hlt, swapRefuse_event r _, fun d hd => swapRefuse_unlocks r _ hd, State.sch_of_rest hregs.2, hregs⟩
  · -- an accepted arm
    refine exec_answers (exec_scheduleSwapArm false s) ?_
    rw [swapArm_accepts (s := s.fresh) hlive hfar htest, State.fresh_swapDies]
    refine ⟨congrArg SchSt.arm State.ended_swapped_sch, congrArg SchSt.checking State.ended_swapped_sch,
      (congrArg SchSt.pend State.ended_swapped_sch).trans rfl, (congrArg SchSt.active State.ended_swapped_sch).trans rfl,
      (State.ended_f ..).trans ?_, (State.ended_f ..).trans ?_, fun d hd => (State.ended_f ..).trans (State.swapped_locked hd),
      State.onlyFields_regs (State.swapped_onlyFields ?_) (State.ended_regs ..), State.ended_swapped_rest⟩
    · exact State.swapped_swstat [] rfl rfl rfl (by decide) (by decide)
    · exact State.swapped_swstat [_] rfl rfl rfl (by decide) (by decide)
    · exact State.onlyFields_setFs_whole (.head _) _ (State.onlyFields_of_regs rfl) (by decide)
  · -- a cancel
    refine exec_answers (exec_scheduleSwapCancel s) ?_
    rw [swapCancel_withdraws (s := s.fresh) hlive]
    refine ⟨State.ended_swapped_sch, (State.ended_f ..).trans ?_, (State.ended_f ..).trans ?_,
      fun d hd => (State.ended_f ..).trans (State.swapped_locked hd),
      State.onlyFields_regs (State.swapped_onlyFields ?_) (State.ended_regs ..), State.ended_swapped_rest⟩
    · exact State.swapped_swstat [] rfl rfl rfl (by decide) (by decide)
    · exact State.swapped_swstat [_] rfl rfl rfl (by decide) (by decide)
    · exact State.onlyFields_setFs _ (State.onlyFields_of_regs rfl) (by decide)
  · -- the end of a check
    have hchecks : s.fresh.sch.arm.isSome = true ∧ s.fresh.sch.checking.contains d.val = true := ⟨by simp [harm], hin⟩
    refine exec_answers (exec_scheduleBankCheckDone d s) ?_
    by_cases hreason : s.bankReason d.val (1 - s.activeBank d.val) = 0
    · by_cases hlast : s.sch.checking.erase d.val = []
      · -- the last bank passes
        rw [bankCheckDone_last (s := s.fresh) hchecks hreason hlast, State.fresh_sch, harm]
        refine ⟨fun h => absurd hreason h, fun _ _ => ⟨State.ended_swapped_sch, (State.ended_f ..).trans ?_, (State.ended_f ..).trans ?_,
          State.onlyFields_regs (State.swapped_onlyFields (m := [_, _]) ?_) (State.ended_regs ..)⟩, fun _ h => absurd hlast h,
          (congrArg SchSt.active State.ended_swapped_sch).trans rfl, State.ended_swapped_rest⟩
        · exact State.swapped_swstat [] rfl rfl rfl (by decide) (by decide)
        · exact State.swapped_swstat [_] rfl rfl rfl (by decide) (by decide)
        · exact State.onlyFields_setFs _ (State.onlyFields_of_regs rfl) (by decide)
      · -- a bank passes while others still check
        rw [bankCheckDone_more (s := s.fresh) hchecks hreason hlast]
        exact ⟨fun h => absurd hreason h, fun _ h => absurd h hlast, fun _ _ => ⟨rfl, rfl⟩, rfl, rfl⟩
    · -- a bank fails
      rw [bankCheckDone_fails (s := s.fresh) hchecks hreason, State.fresh_bankReason, State.fresh_activeBank, State.fresh_sch]
      have hlt : s.bankReason d.val (1 - s.activeBank d.val) < 16 := Nat.lt_of_le_of_lt (s.bankReason_le _ _) (by decide)
      obtain ⟨hsch, hrest⟩ := State.ended_setSch (s := s) ((swapRefuse_rest (s.bankReason d.val (1 - s.activeBank d.val)) _).trans
        (State.swapped_rest (s := s.fresh) (c := { s.sch with arm := none, checking := [] })
          (k := [(PROBES_SCH_SWSTAT_die, d.val), (PROBES_SCH_SWSTAT_checking, 0)]) (l := []) (b := false)))
      refine ⟨fun _ => ⟨?_, ?_, ?_, ?_, hsch, fun k hk => ?_⟩, fun h => absurd h hreason, fun h => absurd h hreason,
        (congrArg SchSt.active hsch).trans rfl, hrest⟩
      · exact (State.ended_f ..).trans (swapRefuse_reason _ _ hlt)
      · rw [State.ended_f, swapRefuse_swstat _ _ (by decide) rfl (by decide)]
        exact State.swapped_swstat [] rfl rfl rfl (Nat.lt_trans d.isLt (by decide)) (by decide)
      · rw [State.ended_f, swapRefuse_swstat _ _ (by decide) rfl (by decide)]
        exact State.swapped_swstat [_] rfl rfl rfl (by decide) (by decide)
      · exact (State.ended_f ..).trans (swapRefuse_event ..)
      · exact (State.ended_f ..).trans (swapRefuse_unlocks _ _ hk)

end Sys2Proof.Machine
end

section
/-! SUPPORT. Corug links (08): fields of the links' registers, what a command of the links leaves alone, and the geometry of modules (R17, R20,
R240). -/

namespace Sys2Proof.Machine

/-! ### Fields -/

/-- A field that lies in a register of a die. -/
theorem placed_iff {d : Nat} {x : Fld} : placed (d, x) = true ↔ x.reg < 0x1000000 ∧ x.lo + x.len ≤ 32 := by simp [placed]

/-- Fields that share no bit. -/
theorem apart_iff {a b : Nat × Fld} : apart a b = true ↔
    a.1 ≠ b.1 ∨ a.2.reg ≠ b.2.reg ∨ a.2.lo + a.2.len ≤ b.2.lo ∨ b.2.lo + b.2.len ≤ a.2.lo := by simp [apart, or_assoc]

/-- The field e lies in the field w. -/
def fieldIn (e w : Nat × Fld) : Prop := e.1 = w.1 ∧ e.2.reg = w.2.reg ∧ w.2.lo ≤ e.2.lo ∧ e.2.lo + e.2.len ≤ w.2.lo + w.2.len

/-- A change of some fields is a change of the larger ones that they lie in. -/
theorem State.onlyFields_within {s t : State} {l l' : List (Nat × Fld)} (h : s.onlyFields t l)
    (hl : ∀ e ∈ l, ∃ w ∈ l', fieldIn e w) : s.onlyFields t l' := by
  refine fun a ha hk => h a ha fun e he => ?_
  obtain ⟨w, hw, hdie, hreg, hlo, hhi⟩ := hl e he
  have := hk w hw
  rw [apart_iff] at this ⊢
  omega

/-- An event is counted, and its bit set. -/
def State.counted (s : State) (d : Nat) (cnt evt : Fld) : State := (s.inc d cnt 1).evt d evt

section Counted
variable {s : State} {d : Nat} {cnt evt : Fld} (hcnt : placed (d, cnt) = true) (hevt : placed (d, evt) = true)
include hcnt hevt

/-- The counter holds the sum, where the event bit lies in another register. -/
theorem State.counted_count (hne : evt.reg ≠ cnt.reg) : (s.counted d cnt evt).f d cnt = min (s.f d cnt + 1) (2 ^ cnt.len - 1) := by
  rw [State.counted, State.evt, State.f_setF_clear _ d d evt cnt 1 hevt hcnt (by simp [apart_iff, hne])]
  exact State.f_inc_same s d cnt 1 (placed_iff.mp hcnt).2

omit hcnt in
/-- The event bit is set. -/
theorem State.counted_event (hpos : 0 < evt.len) : (s.counted d cnt evt).f d evt = 1 :=
  State.f_setF_fits _ d evt 1 (placed_iff.mp hevt).2 (Nat.one_lt_two_pow hpos.ne')

theorem State.counted_regsOnly : s.regsOnly (s.counted d cnt evt) [(d, cnt), (d, evt)] :=
  State.regsOnly_setF (State.regsOnly_setF (State.regsOnly_refl s _) d cnt _ hcnt (by simp)) d evt 1 hevt (by simp)

omit hcnt hevt in
@[simp] theorem State.counted_out : (s.counted d cnt evt).out = s.out := by simp [State.counted]

omit hcnt hevt in
@[simp] theorem State.counted_corug : (s.counted d cnt evt).corug = s.corug := by simp [State.counted]

end Counted

section Modules
variable {m : Nat} (hm : m < 32) (d : Nat)
include hm

theorem moduleErr_placed : placed (d, CORUG_M_ERR_crc m) = true := placed_iff.mpr ⟨by simp [CORUG_M_ERR]; omega, by simp⟩

theorem moduleDrop_placed : placed (d, CORUG_M_SDROP_value m) = true := placed_iff.mpr ⟨by simp [CORUG_M_SDROP]; omega, by simp⟩

theorem moduleMargin_placed : placed (d, CORUG_M_MARGIN_margin m) = true ∧ placed (d, CORUG_M_MARGIN_wire m) = true := by
  simp [placed_iff, CORUG_M_MARGIN]
  omega

theorem chanSt_placed {k : Nat} (hk : k < 4) : placed (d, CORUG_M_CHAN_st m k) = true :=
  placed_iff.mpr ⟨by simp [CORUG_M_CHAN]; omega, by simp; omega⟩

end Modules

theorem edge_placed {e : Nat} (he : e < 4) (d : Nat) : placed (d, CORUG_EDGE_fenced e) = true :=
  placed_iff.mpr ⟨by simp [CORUG_EDGE], by simp; omega⟩

/-- The state codes of different ends share no bit. -/
theorem chanSt_apart {d d' m m' k k' : Nat} (h : d ≠ d' ∨ k ≠ k') : apart (d, CORUG_M_CHAN_st m k) (d', CORUG_M_CHAN_st m' k') = true := by
  rw [apart_iff]
  simp
  omega

/-! The event bits lie below the registers of the modules. -/

theorem evt_ne_moduleErr (m : Nat) : CORUG_EVT ≠ CORUG_M_ERR m := by simp only [CORUG_EVT, CORUG_M_ERR]; omega

theorem evt_ne_moduleDrop (m : Nat) : CORUG_EVT ≠ CORUG_M_SDROP m := by simp only [CORUG_EVT, CORUG_M_SDROP]; omega

theorem evt_ne_moduleMargin (m : Nat) : CORUG_EVT ≠ CORUG_M_MARGIN m := by simp only [CORUG_EVT, CORUG_M_MARGIN]; omega

theorem evt_ne_moduleChan (m : Nat) : CORUG_EVT ≠ CORUG_M_CHAN m := by simp only [CORUG_EVT, CORUG_M_CHAN]; omega

/-! ### What an effect on the links leaves alone -/

/-- From s to t nothing changes but the listed fields of registers, what the links hold, and what is put out. -/
def State.linkOnly (s t : State) (l : List (Nat × Fld)) : Prop := s.onlyFields t l ∧ t.rest = { s.rest with corug := t.corug }

/-- From s to t nothing but the links, the routers, the registers and what is put out changes. -/
def State.linkFrame (s t : State) : Prop := t.rest = { s.rest with corug := t.corug, rtr := t.rtr }

section LinkOnly
variable {s t u : State} {l l' : List (Nat × Fld)}

theorem State.linkOnly_refl (s : State) (l : List (Nat × Fld)) : s.linkOnly s l := ⟨State.onlyFields_refl s l, rfl⟩

theorem State.linkOnly_trans (h : s.linkOnly t l) (hu : t.linkOnly u l) : s.linkOnly u l :=
  ⟨State.onlyFields_trans h.1 hu.1, by rw [hu.2, h.2]⟩

/-- What leaves all but registers and outputs leaves the links. -/
theorem State.corug_of_rest (h : t.rest = s.rest) : t.corug = s.corug := (congrArg State.corug h :)

theorem State.regsOnly.linkOnly (h : s.regsOnly t l) : s.linkOnly t l :=
  ⟨h.1, by rw [h.2, State.corug_of_rest h.2]; rfl⟩

theorem State.linkOnly_mono (h : s.linkOnly t l) (hl : ∀ e ∈ l, e ∈ l') : s.linkOnly t l' := ⟨State.onlyFields_mono h.1 hl, h.2⟩

theorem State.linkOnly_within (h : s.linkOnly t l) (hl : ∀ e ∈ l, ∃ w ∈ l', fieldIn e w) : s.linkOnly t l' :=
  ⟨State.onlyFields_within h.1 hl, h.2⟩

theorem State.linkOnly_corug (h : s.linkOnly t l) (c : CorugSt) : s.linkOnly { t with corug := c } l :=
  ⟨State.onlyFields_regs h.1 rfl, by obtain ⟨-, hrest⟩ := h; exact congrArg (fun r : State => { r with corug := c }) hrest⟩

theorem State.linkOnly_setF (h : s.linkOnly t l) (d : Nat) (x : Fld) (v : Nat) (hx : placed (d, x) = true) (hm : (d, x) ∈ l) :
    s.linkOnly (t.setF d x v) l :=
  State.linkOnly_trans h (State.regsOnly_setF (State.regsOnly_refl t l) d x v hx hm).linkOnly

/-- Stores of fields of listed registers. -/
theorem State.linkOnly_setFs {d : Nat} (k : List (Fld × Nat)) (h : s.linkOnly t l)
    (hk : ∀ e ∈ k, placed (d, e.1) = true ∧ whole d e.1.reg ∈ l) : s.linkOnly (t.setFs d k) l := by
  induction k generalizing t with
  | nil => exact h
  | cons e k ih =>
    obtain ⟨hplaced, hlisted⟩ := hk e (.head _)
    have hset : t.onlyFields (t.setF d e.1 e.2) l := State.onlyFields_setF_in (State.onlyFields_refl t l) d e.1 ⟨e.1.reg, 0, 32⟩ e.2 hplaced
      hlisted rfl (Nat.zero_le _) (by simpa using (placed_iff.mp hplaced).2)
    rw [State.setFs_cons]
    refine ih (State.linkOnly_trans h ⟨hset, ?_⟩) fun x hx => hk x (List.mem_cons_of_mem _ hx)
    rw [State.setF_rest, State.setF_corug]
    rfl

theorem State.linkOnly_emit (h : s.linkOnly t l) (o : Out) : s.linkOnly (t.emit o) l :=
  State.linkOnly_trans h (State.regsOnly_emit (State.regsOnly_refl t l) o).linkOnly

theorem State.linkOnly_when (c : Bool) {f : State → State} (h : s.linkOnly t l) (hf : s.linkOnly (f t) l) : s.linkOnly (t.when c f) l := by
  cases c with
  | true => exact hf
  | false => exact h

theorem State.linkFrame_trans (h : s.linkFrame t) (hu : t.linkFrame u) : s.linkFrame u := by
  rw [State.linkFrame, hu, h]

/-- An effect that leaves all but registers and outputs keeps the frame. -/
theorem State.linkFrame_rest (h : s.linkFrame t) (hu : u.rest = t.rest) : s.linkFrame u := by
  have hcorug : u.corug = t.corug := (congrArg State.corug hu :)
  have hrtr : u.rtr = t.rtr := (congrArg State.rtr hu :)
  rw [State.linkFrame, hu, hcorug, hrtr]
  exact h

theorem State.linkOnly.linkFrame (h : s.linkOnly t l) : s.linkFrame t := by
  obtain ⟨-, hrest⟩ := h
  have hrtr : t.rtr = s.rtr := (congrArg State.rtr hrest :)
  rw [State.linkFrame, hrest, hrtr]
  rfl

end LinkOnly

/-- A command whose effect stays within the links, the routers and the registers ends with what its effect leaves. -/
theorem exec_links {c : Instr} {f : State → State} {s u : State} {P : State → Prop} (hc : exec c s = run f s) (hu : f s.fresh = u)
    (hframe : s.linkFrame u) (hP : P u) : ∃ t, exec c s = .next t ∧ P t := by
  have hpend : u.pending = s.pending := (congrArg State.pending hframe :)
  have htime : u.time = s.time := (congrArg State.time hframe :)
  have hfuses : u.fuses = s.fuses := (congrArg State.fuses hframe :)
  refine exec_answers hc ?_
  rw [hu, State.ended, ← hpend, ← htime, ← hfuses]
  exact hP

/-! ### Geometry (R17, R20, R240) -/

section Geometry
variable {d m f n : Nat}

/-- An edge leads to another die. -/
theorem edgeFar_ne {e : Nat} (h : edgeFar d e = some f) : f ≠ d := by
  unfold edgeFar at h
  grind

theorem edgeBack_lt (d e : Nat) : edgeBack d e < 4 := by
  unfold edgeBack
  grind

theorem moduleFar_eq_some : moduleFar d m = some (f, n) ↔ edgeFar d (m / 8) = some f ∧ n = 8 * edgeBack d (m / 8) + m % 8 := by
  simp [moduleFar, eq_comm]

/-- The far end of a module lies on another die. -/
theorem moduleFar_ne (h : moduleFar d m = some (f, n)) : f ≠ d := edgeFar_ne (moduleFar_eq_some.mp h).1

/-- The far end is one of 32 modules. -/
theorem moduleFar_lt (h : moduleFar d m = some (f, n)) : n < 32 := by
  obtain ⟨-, rfl⟩ := moduleFar_eq_some.mp h
  have := edgeBack_lt d (m / 8)
  omega

theorem moduleExists_edge (h : moduleExists d m = true) : (edgeFar d (m / 8)).isSome = true := by
  simp only [moduleExists, Bool.and_eq_true] at h
  exact h.1

/-- A module that exists has a far end. -/
theorem moduleExists_far (h : moduleExists d m = true) : ∃ f n, moduleFar d m = some (f, n) := by
  obtain ⟨f, hf⟩ := Option.isSome_iff_exists.mp (moduleExists_edge h)
  exact ⟨f, _, moduleFar_eq_some.mpr ⟨hf, rfl⟩⟩

end Geometry

end Sys2Proof.Machine
end

section
/-! SUPPORT. Stream channels of the Corug links (08): the ends of a channel, slots, and resync (R244 to R248). -/

namespace Sys2Proof.Machine

/-! ### The ends of a channel (R244) -/

section Ends
variable {s t : State} {d m ch rx d' m' ch' rx' : Nat} {x : ChanSt}

@[simp] theorem State.setChan_out : (s.setChan d m ch rx x).out = s.out := rfl
@[simp] theorem State.setChan_f (y : Fld) : (s.setChan d m ch rx x).f d' y = s.f d' y := State.f_congr rfl d' y
@[simp] theorem State.chan_setChan : (s.setChan d m ch rx x).chan d m ch rx = x := KMap.look_put_same ..

/-- The two directions of a channel have ends of their own. -/
theorem State.chan_setChan_ne (hrx : rx < 2) (hrx' : rx' < 2) (h : rx' ≠ rx) :
    (s.setChan d m ch rx x).chan d' m' ch' rx' = s.chan d' m' ch' rx' := by
  refine KMap.look_put_ne _ _ _ _ ?_
  unfold chanKey
  omega

/-- The links hold the channels. -/
theorem State.chan_congr (h : t.corug = s.corug) : t.chan d m ch rx = s.chan d m ch rx := by rw [State.chan, State.chan, h]

theorem State.linkOnly_setChan {l : List (Nat × Fld)} (h : s.linkOnly t l) : s.linkOnly (t.setChan d m ch rx x) l := State.linkOnly_corug h _

theorem setChanState_same {st : Nat} (hm : m < 32) (hk : ch + 2 * rx < 4) (hst : st < 4) :
    (setChanState d m ch rx st s).chanState d m ch rx = st :=
  State.f_setF_fits s d _ st (placed_iff.mp (chanSt_placed hm d hk)).2 hst

theorem State.regsOnly_setChanState {l : List (Nat × Fld)} (h : s.regsOnly t l) {st : Nat} (hm : m < 32) (hk : ch + 2 * rx < 4)
    (hl : (d, CORUG_M_CHAN_st m (ch + 2 * rx)) ∈ l) : s.regsOnly (setChanState d m ch rx st t) l :=
  State.regsOnly_setF h d _ st (chanSt_placed hm d hk) hl

end Ends

/-! ### A slot whose crc fails (R248) -/

/-- An end that is open closes. -/
def shutEnd (d m ch rx : Nat) (s : State) : State := if s.chanState d m ch rx = chOpen then setChanState d m ch rx chClosed s else s

/-- A die's ends of a channel close; an open receive end presents the end-of-stream marker. -/
def closeEnds (d m ch : Nat) (s : State) : State :=
  shutEnd d m ch 0 (shutEnd d m ch 1 (s.when (decide (s.chanState d m ch 1 = chOpen)) (presentEos d m ch)))

/-- The channel closes at the end that counts, and then at the far one. -/
theorem closeChannel_far {d m f n : Nat} (hfar : moduleFar d m = some (f, n)) (ch : Nat) (s : State) :
    closeChannel d m ch s = closeEnds f n ch (closeEnds d m ch (s.counted d (CORUG_M_ERR_crc m) CORUG_EVT_stream_closed)) := by
  unfold closeChannel
  rw [hfar]
  rfl

section Close
variable {d m ch : Nat} (hm : m < 32) (hch : ch < 2) (s : State)
include hm hch

theorem shutEnd_regsOnly {rx : Nat} (hrx : rx < 2) : s.regsOnly (shutEnd d m ch rx s) [(d, CORUG_M_CHAN_st m (ch + 2 * rx))] := by
  unfold shutEnd
  split
  · exact State.regsOnly_setChanState (State.regsOnly_refl s _) hm (by omega) (.head _)
  · exact State.regsOnly_refl s _

/-- An open end closes, another stays as it is. -/
theorem shutEnd_chanState {rx : Nat} (hrx : rx < 2) :
    (shutEnd d m ch rx s).chanState d m ch rx = if s.chanState d m ch rx = 1 then 2 else s.chanState d m ch rx := by
  unfold shutEnd
  split
  · next h => exact (setChanState_same hm (by omega) (by decide)).trans (if_pos h).symm
  · next h => exact (if_neg h).symm

/-- The end of the other direction stays as it is. -/
theorem shutEnd_chanState_other {rx rx' : Nat} (hrx : rx < 2) (hrx' : rx' < 2) (h : rx ≠ rx') :
    (shutEnd d m ch rx s).chanState d m ch rx' = s.chanState d m ch rx' :=
  (shutEnd_regsOnly hm hch s hrx).1 (d, _) (chanSt_placed hm d (by omega)) (by simpa using chanSt_apart (.inr (by omega)))

omit hm hch in
@[simp] theorem presented_chanState (c : Bool) (rx : Nat) :
    (s.when c (presentEos d m ch)).chanState d m ch rx = s.chanState d m ch rx := by
  cases c with
  | true => exact State.f_congr rfl _ _
  | false => rfl

/-- The receive end closes when it is open. -/
theorem closeEnds_rx (hopen : s.chanState d m ch 1 = 1) : (closeEnds d m ch s).chanState d m ch 1 = 2 := by
  rw [closeEnds, shutEnd_chanState_other hm hch _ (by decide) (by decide) (by decide), shutEnd_chanState hm hch _ (by decide),
    presented_chanState, if_pos hopen]

/-- The sending end is not open any more. -/
theorem closeEnds_tx : (closeEnds d m ch s).chanState d m ch 0 ≠ 1 := by
  rw [closeEnds, shutEnd_chanState hm hch _ (by decide)]
  split <;> omega

/-- Only the state codes of the channel change, and what the links hold. -/
theorem closeEnds_linkOnly : s.linkOnly (closeEnds d m ch s) [(d, CORUG_M_CHAN_st m (ch + 2 * 1)), (d, CORUG_M_CHAN_st m (ch + 2 * 0))] := by
  have heos : s.linkOnly (s.when (decide (s.chanState d m ch 1 = chOpen)) (presentEos d m ch))
      [(d, CORUG_M_CHAN_st m (ch + 2 * 1)), (d, CORUG_M_CHAN_st m (ch + 2 * 0))] :=
    State.linkOnly_when _ (State.linkOnly_refl s _) (State.linkOnly_emit (State.linkOnly_setChan (State.linkOnly_refl s _)) _)
  have hrx := (shutEnd_regsOnly (d := d) (rx := 1) hm hch
    (s.when (decide (s.chanState d m ch 1 = chOpen)) (presentEos d m ch)) (by decide)).linkOnly
  exact State.linkOnly_trans (State.linkOnly_trans heos (State.linkOnly_mono hrx (by simp)))
    (State.linkOnly_mono (shutEnd_regsOnly hm hch _ (by decide)).linkOnly (by simp))

/-- A field of another die or register reads as before. -/
theorem closeEnds_f {d' : Nat} {x : Fld} (hx : placed (d', x) = true) (h : d ≠ d' ∨ CORUG_M_CHAN m ≠ x.reg) :
    (closeEnds d m ch s).f d' x = s.f d' x :=
  (closeEnds_linkOnly hm hch s).1 (d', x) hx (by simp [apart_iff]; omega)

omit hm hch in
/-- A marker is put out for an open receive end, and nothing else. -/
theorem closeEnds_out : (closeEnds d m ch s).out = s.out ++ if s.chanState d m ch 1 = 1 then [Out.stream d m ch eosMarker] else [] := by
  have hshut (rx : Nat) (t : State) : (shutEnd d m ch rx t).out = t.out := by
    unfold shutEnd
    split
    · exact State.setF_out ..
    · rfl
  rw [closeEnds, hshut, hshut]
  by_cases hopen : s.chanState d m ch 1 = 1
  · rw [if_pos hopen, decide_eq_true (show s.chanState d m ch 1 = chOpen from hopen)]
    rfl
  · rw [if_neg hopen, decide_eq_false (show s.chanState d m ch 1 ≠ chOpen from hopen), List.append_nil]
    rfl

/-- The count of a failed crc leaves the channels' state codes. -/
theorem counted_chanState {rx : Nat} (hrx : rx < 2) :
    (s.counted d (CORUG_M_ERR_crc m) CORUG_EVT_stream_closed).chanState d m ch rx = s.chanState d m ch rx :=
  (State.counted_regsOnly (moduleErr_placed hm d) rfl).1 (d, _) (chanSt_placed hm d (by omega))
    (by simp [apart_iff, CORUG_M_ERR, CORUG_M_CHAN, CORUG_EVT]; omega)

section Far
variable {f n : Nat} (hfar : moduleFar d m = some (f, n))
include hfar

/-- A field of the near die outside the channel's register is left as the count leaves it. -/
theorem closeChannel_f {x : Fld} (hx : placed (d, x) = true) (h : CORUG_M_CHAN m ≠ x.reg) :
    (closeChannel d m ch s).f d x = (s.counted d (CORUG_M_ERR_crc m) CORUG_EVT_stream_closed).f d x := by
  rw [closeChannel_far hfar, closeEnds_f (moduleFar_lt hfar) hch _ hx (.inl (moduleFar_ne hfar)), closeEnds_f hm hch _ hx (.inr h)]

/-- The near ends are left as they close. -/
theorem closeChannel_chanState {rx : Nat} (hrx : rx < 2) :
    (closeChannel d m ch s).chanState d m ch rx =
      (closeEnds d m ch (s.counted d (CORUG_M_ERR_crc m) CORUG_EVT_stream_closed)).chanState d m ch rx := by
  rw [closeChannel_far hfar]
  exact closeEnds_f (moduleFar_lt hfar) hch _ (chanSt_placed hm d (by omega)) (.inl (moduleFar_ne hfar))

/-- The receive end closes when it is open. -/
theorem closeChannel_rx (hopen : s.chanState d m ch 1 = 1) : (closeChannel d m ch s).chanState d m ch 1 = 2 := by
  rw [closeChannel_chanState hm hch s hfar (by decide)]
  exact closeEnds_rx hm hch _ ((counted_chanState hm hch s (by decide)).trans hopen)

/-- The sending end is not open any more. -/
theorem closeChannel_tx : (closeChannel d m ch s).chanState d m ch 0 ≠ 1 := by
  rw [closeChannel_chanState hm hch s hfar (by decide)]
  exact closeEnds_tx hm hch _

/-- The marker of an open receive end is put out first. -/
theorem closeChannel_out (hopen : s.chanState d m ch 1 = 1) : ∃ l, (closeChannel d m ch s).out = s.out ++ Out.stream d m ch eosMarker :: l := by
  have hcounted := (counted_chanState hm hch s (rx := 1) (by decide)).trans hopen
  rw [closeChannel_far hfar, closeEnds_out, closeEnds_out, if_pos hcounted, List.append_assoc, List.singleton_append, State.counted_out]
  exact ⟨_, rfl⟩

/-- The counter, the event bit and the two ends' registers change, and what the links hold. -/
theorem closeChannel_linkOnly : s.linkOnly (closeChannel d m ch s)
    [(d, CORUG_M_ERR_crc m), (d, CORUG_EVT_stream_closed), (d, CORUG_M_CHAN_st m (ch + 2 * 1)), (d, CORUG_M_CHAN_st m (ch + 2 * 0)),
      (f, CORUG_M_CHAN_st n (ch + 2 * 1)), (f, CORUG_M_CHAN_st n (ch + 2 * 0))] := by
  rw [closeChannel_far hfar]
  have hcounted := (State.counted_regsOnly (s := s) (moduleErr_placed hm d) (evt := CORUG_EVT_stream_closed) rfl).linkOnly
  have hnear := closeEnds_linkOnly (d := d) hm hch (s.counted d (CORUG_M_ERR_crc m) CORUG_EVT_stream_closed)
  have haway := closeEnds_linkOnly (d := f) (moduleFar_lt hfar) hch
    (closeEnds d m ch (s.counted d (CORUG_M_ERR_crc m) CORUG_EVT_stream_closed))
  exact State.linkOnly_trans (State.linkOnly_trans (State.linkOnly_mono hcounted (by simp)) (State.linkOnly_mono hnear (by simp)))
    (State.linkOnly_mono haway (by simp))

end Far

end Close

/-! ### Slots (R245, R246) -/

/-- The sending end takes the credit count that a slot carries. -/
def State.slotAcked (s : State) (d m ch a : Nat) : State := s.setChan d m ch 0 { s.chan d m ch 0 with acked := a }

/-- The word that a slot carries: DATA, SB and LAST, in its low 273 bits (R245). -/
def slotWord (raw : Nat) : BitVec 273 := BitVec.ofNat 273 (raw % 2 ^ 273)

/-- The word of a slot joins those that wait, `n` being the new count of words taken; with 48 waiting it is dropped and counted. -/
def slotStored (d m ch raw n : Nat) (s : State) : State :=
  if nbit raw 273 = false then s
  else if 48 ≤ (s.chan d m ch 1).fifo.length then s.counted d (CORUG_M_SDROP_value m) CORUG_EVT_stream_drop
  else s.setChan d m ch 1 { s.chan d m ch 1 with fifo := (s.chan d m ch 1).fifo ++ [slotWord raw], taken := n }

section Slot
variable {s : State} {d m ch raw : Nat}

/-- A slot is taken at an open receive end of a stream module of a live die. -/
structure State.takesSlot (s : State) (d m ch : Nat) : Prop where
  live : s.live d = true
  module : moduleExists d m = true
  kind : moduleKind d m ≠ 0
  rx_open : s.chanState d m ch 1 = 1

theorem State.takesSlot.guard (h : s.takesSlot d m ch) :
    ¬ (!s.live d || !moduleExists d m || decide (moduleKind d m = 0) || decide (s.chanState d m ch 1 ≠ chOpen)) = true := by
  simp [h.live, h.module, h.kind, h.rx_open, chOpen]

/-- A slot whose crc fails closes its channel. -/
theorem streamSlot_bad (h : s.takesSlot d m ch) (hcrc : crc8 (bytesOf 35 (raw % 2 ^ 280)) ≠ nbits raw 280 8) (took : Nat) :
    streamSlot d m ch raw took s = closeChannel d m ch s := by
  rw [streamSlot, if_neg h.guard, if_pos hcrc]

/-- A good slot brings its credit count and its word. -/
theorem streamSlot_good (h : s.takesSlot d m ch) (hcrc : crc8 (bytesOf 35 (raw % 2 ^ 280)) = nbits raw 280 8) :
    ∃ n, streamSlot d m ch raw 0 s = slotStored d m ch raw n (s.slotAcked d m ch (nbits raw 274 6)) := by
  rw [streamSlot, if_neg h.guard, if_neg (not_not_intro hcrc)]
  simp only [takeWords, ite_self, Bool.not_eq_true']
  exact ⟨_, rfl⟩

@[simp] theorem State.slotAcked_acked (a : Nat) : ((s.slotAcked d m ch a).chan d m ch 0).acked = a := by simp [State.slotAcked]

@[simp] theorem State.slotAcked_rx (a : Nat) : (s.slotAcked d m ch a).chan d m ch 1 = s.chan d m ch 1 :=
  State.chan_setChan_ne (by decide) (by decide) (by decide)

@[simp] theorem State.slotAcked_f (a d' : Nat) (x : Fld) : (s.slotAcked d m ch a).f d' x = s.f d' x := State.f_congr rfl d' x

theorem State.slotAcked_linkOnly (a : Nat) (l : List (Nat × Fld)) : s.linkOnly (s.slotAcked d m ch a) l :=
  State.linkOnly_setChan (State.linkOnly_refl s l)

variable (n : Nat)

@[simp] theorem slotStored_out : (slotStored d m ch raw n s).out = s.out := by
  unfold slotStored
  split_ifs <;> simp

/-- The sending end stays as it is. -/
@[simp] theorem slotStored_tx : (slotStored d m ch raw n s).chan d m ch 0 = s.chan d m ch 0 := by
  unfold slotStored
  split_ifs
  · rfl
  · exact State.chan_congr (by simp)
  · exact State.chan_setChan_ne (by decide) (by decide) (by decide)

/-- A word joins those that wait while fewer than 48 do. -/
theorem slotStored_fifo : ((slotStored d m ch raw n s).chan d m ch 1).fifo = (s.chan d m ch 1).fifo ++
    (if nbit raw 273 ∧ (s.chan d m ch 1).fifo.length < 48 then [slotWord raw] else []) := by
  unfold slotStored
  split_ifs with hempty hfull hstored hstored hstored
  · simp_all
  · simp
  · omega
  · rw [List.append_nil]
    exact congrArg ChanSt.fifo (State.chan_congr (by simp))
  · simp
  · simp_all

/-- A word that meets 48 waiting is counted. -/
theorem slotStored_drops (hm : m < 32) (hword : nbit raw 273 = true) (hfull : 48 ≤ (s.chan d m ch 1).fifo.length) :
    (slotStored d m ch raw n s).f d (CORUG_M_SDROP_value m) = min (s.f d (CORUG_M_SDROP_value m) + 1) (2 ^ 32 - 1) ∧
    (slotStored d m ch raw n s).f d CORUG_EVT_stream_drop = 1 := by
  rw [slotStored, if_neg (by simp [hword]), if_pos hfull]
  exact ⟨State.counted_count (moduleDrop_placed hm d) rfl (evt_ne_moduleDrop m), State.counted_event rfl (by decide)⟩

/-- Only the count of dropped words changes, and what the links hold. -/
theorem slotStored_linkOnly (hm : m < 32) :
    s.linkOnly (slotStored d m ch raw n s) [(d, CORUG_M_SDROP_value m), (d, CORUG_EVT_stream_drop)] := by
  unfold slotStored
  split_ifs
  · exact State.linkOnly_refl s _
  · exact (State.counted_regsOnly (moduleDrop_placed hm d) rfl).linkOnly
  · exact State.linkOnly_setChan (State.linkOnly_refl s _)

end Slot

/-! ### Resync (R244, R248) -/

/-- A channel end loses its words and its credit counts. -/
def State.emptied (s : State) (d m ch rx : Nat) : State :=
  s.setChan d m ch rx { s.chan d m ch rx with fifo := [], taken := 0, acked := 0, atLast := true }

/-- The state codes and event bits of the two ends of a direction of a channel. -/
def matchFields (d m f n ch rx : Nat) : List (Nat × Fld) :=
  [(d, CORUG_M_CHAN_st m (ch + 2 * rx)), (f, CORUG_M_CHAN_st n (ch + 2 * (1 - rx))), (d, CORUG_EVT_stream_closed), (f, CORUG_EVT_stream_closed)]

/-- A resync matches the receive direction and then the sending one. -/
def rematched (d m ch : Nat) (s : State) : State := matchChannel d m ch 0 (matchChannel d m ch 1 s)

section Resync
variable {s : State} {d m f n ch rx d' m' ch' rx' : Nat}

@[simp] theorem State.emptied_fifo : ((s.emptied d m ch rx).chan d m ch rx).fifo = [] := by simp [State.emptied]

/-- An end that is empty stays empty when an end is emptied. -/
theorem State.emptied_fifo_keeps (h : (s.chan d' m' ch' rx').fifo = []) : ((s.emptied d m ch rx).chan d' m' ch' rx').fifo = [] := by
  by_cases hkey : chanKey d' m' ch' rx' = chanKey d m ch rx
  · have hsame : (s.emptied d m ch rx).chan d' m' ch' rx' = (s.emptied d m ch rx).chan d m ch rx := by rw [State.chan, State.chan, hkey]
    rw [hsame, State.emptied_fifo]
  · rwa [State.emptied, State.chan, State.setChan, KMap.look_put_ne _ _ _ _ hkey]

/-- The fields of a match lie in the registers of the two ends, but for the event bits. -/
theorem matchFields_within (hch : ch < 2) (hrx : rx < 2) : ∀ e ∈ matchFields d m f n ch rx,
    ∃ w ∈ [whole d (CORUG_M_CHAN m), whole f (CORUG_M_CHAN n), (d, CORUG_EVT_stream_closed), (f, CORUG_EVT_stream_closed)],
      fieldIn e w := by
  simp [matchFields, whole, fieldIn]
  omega

variable (hfar : moduleFar d m = some (f, n))
include hfar

/-- Two ends of an unfenced edge that hold the same link ID open. -/
theorem matchChannel_opens (hnear : s.f d (CORUG_EDGE_fenced (m / 8)) = 0) (haway : s.f f (CORUG_EDGE_fenced (n / 8)) = 0)
    (hlink : (s.chan d m ch rx).link = (s.chan f n ch (1 - rx)).link) (hbound : (s.chan d m ch rx).link.isSome = true) :
    matchChannel d m ch rx s =
      setChanState d m ch rx chOpen (setChanState f n ch (1 - rx) chOpen ((s.emptied d m ch rx).emptied f n ch (1 - rx))) := by
  unfold matchChannel
  rw [hfar]
  dsimp only
  rw [if_neg (by simp [State.on, hnear, haway])]
  split
  · next hx _ => simp [hx] at hbound
  · next hx hy => simp [hx, hy] at hlink
  · next hx _ => simp [hx] at hbound
  · next hx hy => rw [if_pos (by simpa [hx, hy] using hlink)]; rfl

variable (hm : m < 32) (hch : ch < 2)
include hm hch

section Match
variable (hrx : rx < 2)
include hrx

/-- A match empties both ends; then it changes their state codes, and event bits. -/
theorem matchChannel_regsOnly :
    ((s.emptied d m ch rx).emptied f n ch (1 - rx)).regsOnly (matchChannel d m ch rx s) (matchFields d m f n ch rx) := by
  have hnear {t u : State} (st : Nat) (h : t.regsOnly u (matchFields d m f n ch rx)) :
      t.regsOnly (setChanState d m ch rx st u) (matchFields d m f n ch rx) :=
    State.regsOnly_setChanState h hm (by omega) (by simp [matchFields])
  have haway {t u : State} (st : Nat) (h : t.regsOnly u (matchFields d m f n ch rx)) :
      t.regsOnly (setChanState f n ch (1 - rx) st u) (matchFields d m f n ch rx) :=
    State.regsOnly_setChanState h (moduleFar_lt hfar) (by omega) (by simp [matchFields])
  have hrefl := State.regsOnly_refl ((s.emptied d m ch rx).emptied f n ch (1 - rx)) (matchFields d m f n ch rx)
  unfold matchChannel
  rw [hfar]
  dsimp only
  split
  · exact hrefl
  · split
    · exact hnear _ (haway _ hrefl)
    · exact hnear _ hrefl
    · exact haway _ hrefl
    · split
      · exact hnear _ (haway _ hrefl)
      · exact State.regsOnly_setF (State.regsOnly_setF (hnear _ (haway _ hrefl)) d _ 1 rfl (by simp [matchFields])) f _ 1 rfl
          (by simp [matchFields])

theorem matchChannel_linkOnly : s.linkOnly (matchChannel d m ch rx s) (matchFields d m f n ch rx) :=
  State.linkOnly_trans (State.linkOnly_setChan (State.linkOnly_setChan (State.linkOnly_refl s _)))
    (matchChannel_regsOnly hfar hm hch hrx).linkOnly

/-- What the ends hold after a match. -/
theorem matchChannel_chan : (matchChannel d m ch rx s).chan d' m' ch' rx' =
    ((s.emptied d m ch rx).emptied f n ch (1 - rx)).chan d' m' ch' rx' :=
  State.chan_congr (State.corug_of_rest (matchChannel_regsOnly hfar hm hch hrx).2)

/-- A match empties the near end. -/
theorem matchChannel_fifo_near : ((matchChannel d m ch rx s).chan d m ch rx).fifo = [] := by
  rw [matchChannel_chan hfar hm hch hrx]
  exact State.emptied_fifo_keeps State.emptied_fifo

/-- A match empties the far end. -/
theorem matchChannel_fifo_far : ((matchChannel d m ch rx s).chan f n ch (1 - rx)).fifo = [] := by
  rw [matchChannel_chan hfar hm hch hrx]
  exact State.emptied_fifo

/-- A match leaves an empty end empty. -/
theorem matchChannel_fifo_keeps (h : (s.chan d' m' ch' rx').fifo = []) : ((matchChannel d m ch rx s).chan d' m' ch' rx').fifo = [] := by
  rw [matchChannel_chan hfar hm hch hrx]
  exact State.emptied_fifo_keeps (State.emptied_fifo_keeps h)

end Match

/-- The two matches change the registers of the channel's ends, event bits, and what the links hold. -/
theorem rematched_linkOnly : s.linkOnly (rematched d m ch s)
    [whole d (CORUG_M_CHAN m), whole f (CORUG_M_CHAN n), (d, CORUG_EVT_stream_closed), (f, CORUG_EVT_stream_closed)] :=
  State.linkOnly_trans (State.linkOnly_within (matchChannel_linkOnly hfar hm hch (rx := 1) (by decide)) (matchFields_within hch (by decide)))
    (State.linkOnly_within (matchChannel_linkOnly hfar hm hch (rx := 0) (by decide)) (matchFields_within hch (by decide)))

/-- The four ends of the channel are empty. -/
theorem rematched_fifo : ((rematched d m ch s).chan d m ch 1).fifo = [] ∧ ((rematched d m ch s).chan d m ch 0).fifo = [] ∧
    ((rematched d m ch s).chan f n ch 0).fifo = [] ∧ ((rematched d m ch s).chan f n ch 1).fifo = [] :=
  ⟨matchChannel_fifo_keeps hfar hm hch (by decide) (matchChannel_fifo_near hfar hm hch (by decide)),
    matchChannel_fifo_near hfar hm hch (by decide),
    matchChannel_fifo_keeps hfar hm hch (by decide) (matchChannel_fifo_far hfar hm hch (rx := 1) (by decide)),
    matchChannel_fifo_far hfar hm hch (rx := 0) (by decide)⟩

/-- The receive direction opens when its ends hold the same link ID. -/
theorem rematched_opens (hnear : s.f d (CORUG_EDGE_fenced (m / 8)) = 0) (haway : s.f f (CORUG_EDGE_fenced (n / 8)) = 0)
    (hlink : (s.chan d m ch 1).link = (s.chan f n ch 0).link) (hbound : (s.chan d m ch 1).link.isSome = true) :
    (rematched d m ch s).chanState d m ch 1 = 1 ∧ (rematched d m ch s).chanState f n ch 0 = 1 := by
  have hn := moduleFar_lt hfar
  have hne := moduleFar_ne hfar
  have hsend := (matchChannel_linkOnly (s := matchChannel d m ch 1 s) hfar hm hch (rx := 0) (by decide)).1
  have hrx : (rematched d m ch s).chanState d m ch 1 = (matchChannel d m ch 1 s).chanState d m ch 1 :=
    hsend (d, _) (chanSt_placed hm d (by omega)) (by simp [matchFields, apart_iff, CORUG_M_CHAN, CORUG_EVT]; omega)
  have htx : (rematched d m ch s).chanState f n ch 0 = (matchChannel d m ch 1 s).chanState f n ch 0 :=
    hsend (f, _) (chanSt_placed hn f (by omega)) (by simp [matchFields, apart_iff, CORUG_M_CHAN, CORUG_EVT]; omega)
  rw [hrx, htx, matchChannel_opens hfar hnear haway hlink hbound]
  refine ⟨setChanState_same hm (by omega) (by decide), ?_⟩
  -- the store of the near end's code, the last one, is on another die
  exact (State.f_setF_clear _ _ _ _ _ _ (chanSt_placed hm d (by omega)) (chanSt_placed hn f (by omega)) (chanSt_apart (.inl hne.symm))).trans
    (setChanState_same hn (by omega) (by decide))

end Resync

/-! ### Operations (R265) -/

/-- `CORUG_CMDSTAT` shows an operation and its reason. -/
def opShown (d op r : Nat) (s : State) : State := s.setFs d [(CORUG_CMDSTAT_op, op), (CORUG_CMDSTAT_reason, r)]

/-- An operation that nothing refuses starts (R265). -/
theorem corugOp_starts {op : Nat} {i : Init} {d e m ch : Nat} {s : State} (hlive : s.live d = true) (h : corugReason op i d e m ch s = 0)
    (f : State → State) : corugOp op i d e m ch f s = f (opShown d op 0 s) := by
  simp [corugOp, opShown, hlive, h]

theorem opShown_linkOnly (d op r : Nat) (s : State) : s.linkOnly (opShown d op r s) [whole d CORUG_CMDSTAT] :=
  State.linkOnly_setFs _ (State.linkOnly_refl s _) (by simp [placed_iff, CORUG_CMDSTAT])

theorem opShown_op {d op r : Nat} {s : State} (hop : op < 8) : (opShown d op r s).f d CORUG_CMDSTAT_op = op :=
  (State.f_setFs_cons s d _ op _ rfl (by simp [placed_iff, apart_iff, CORUG_CMDSTAT])).trans (Nat.mod_eq_of_lt hop)

theorem opShown_reason {d op r : Nat} {s : State} (hr : r < 16) : (opShown d op r s).f d CORUG_CMDSTAT_reason = r := by
  rw [opShown, State.setFs_cons]
  exact (State.f_setFs_cons _ d _ r _ rfl (by simp)).trans (Nat.mod_eq_of_lt hr)

/-- A resync that nothing refuses: its operation shows, and the channel is matched anew. -/
def resynced (d m ch : Nat) (s : State) : State := rematched d m ch (opShown d 3 0 s)

section Resynced
variable {s : State} {d m f n ch : Nat} (hfar : moduleFar d m = some (f, n)) (hm : m < 32) (hch : ch < 2)
include hfar hm hch

/-- It changes the registers of the operation and of the channel's ends, event bits, and what the links hold. -/
theorem resynced_linkOnly : s.linkOnly (resynced d m ch s) [whole d CORUG_CMDSTAT, whole d (CORUG_M_CHAN m), whole f (CORUG_M_CHAN n),
    (d, CORUG_EVT_stream_closed), (f, CORUG_EVT_stream_closed)] :=
  State.linkOnly_trans (State.linkOnly_mono (opShown_linkOnly d 3 0 s) (by simp)) (State.linkOnly_mono (rematched_linkOnly hfar hm hch) (by simp))

/-- The receive direction of an unfenced edge opens when its ends hold the same link ID. -/
theorem resynced_opens (hnear : s.f d (CORUG_EDGE_fenced (m / 8)) = 0) (haway : s.f f (CORUG_EDGE_fenced (n / 8)) = 0)
    (hlink : (s.chan d m ch 1).link = (s.chan f n ch 0).link) (hbound : (s.chan d m ch 1).link.isSome = true) :
    (resynced d m ch s).chanState d m ch 1 = 1 ∧ (resynced d m ch s).chanState f n ch 0 = 1 := by
  have hn := moduleFar_lt hfar
  have hchan (d' m' rx : Nat) : (opShown d 3 0 s).chan d' m' ch rx = s.chan d' m' ch rx := State.chan_congr (State.setFs_corug ..)
  have hfence (d' : Nat) {e : Nat} (he : e < 4) : (opShown d 3 0 s).f d' (CORUG_EDGE_fenced e) = s.f d' (CORUG_EDGE_fenced e) :=
    (opShown_linkOnly d 3 0 s).1 (d', _) (edge_placed he d') (by simp [whole, apart_iff, CORUG_CMDSTAT, CORUG_EDGE])
  exact rematched_opens hfar hm hch ((hfence d (by omega)).trans hnear) ((hfence f (by omega)).trans haway)
    (by rw [hchan, hchan, hlink]) (by rw [hchan, hbound])

/-- The operation shows, without a reason. -/
theorem resynced_cmdstat : (resynced d m ch s).f d CORUG_CMDSTAT_op = 3 ∧ (resynced d m ch s).f d CORUG_CMDSTAT_reason = 0 := by
  have hkeeps (x : Fld) (hx : placed (d, x) = true) (hreg : x.reg = CORUG_CMDSTAT) :
      (resynced d m ch s).f d x = (opShown d 3 0 s).f d x :=
    (rematched_linkOnly hfar hm hch).1 (d, x) hx (by simp [whole, apart_iff, hreg, CORUG_CMDSTAT, CORUG_M_CHAN, CORUG_EVT]; omega)
  exact ⟨(hkeeps _ rfl rfl).trans (opShown_op (by decide)), (hkeeps _ rfl rfl).trans (opShown_reason (by decide))⟩

end Resynced

end Sys2Proof.Machine
end

section
/-! SUPPORT. Tunnel frames, fences, margins and spare swaps of the Corug links (08), and what frames and slots do by their codes (R242, R243, R251,
R253 to R257). -/

namespace Sys2Proof.Machine

/-! ### The flits of a tunnel frame (R242) -/

/-- The slots of a frame that carry a flit. -/
def flitSlots (raw : Nat) : List Nat := [0, 1, 2].filter fun i => decide (nbits raw (616 * i + 512) 2 ≠ 0)

/-- The flit of slot i of a frame that module m of die d receives. -/
def slotFlit (d m raw i : Nat) : Out := .tunnel d m i (BitVec.ofNat 616 (nbits raw (616 * i) 616))

/-- The flits of a frame go out. -/
def State.emitFlits (s : State) (d m raw : Nat) : State := (flitSlots raw).foldl (fun t i => t.emit (slotFlit d m raw i)) s

/-- A field of a field. -/
theorem nbits_nbits {x a n lo len : Nat} (h : lo + len ≤ n) : nbits (nbits x a n) lo len = nbits x (a + lo) len := by
  refine (nbits_mod h (x / 2 ^ a)).trans ?_
  rw [nbits, nbits, Nat.div_div_eq_div_mul, ← Nat.pow_add]

/-- The slots are looked at in order, and those that hold a flit put it out. -/
theorem emitFlits_each (d m raw : Nat) (s : State) : s.each [0, 1, 2] (fun s i =>
      if nbits (nbits raw (616 * i) 616) 512 2 = 0 then s else s.emit (.tunnel d m i (BitVec.ofNat 616 (nbits raw (616 * i) 616)))) =
    s.emitFlits d m raw := by
  have hkind (i : Nat) : nbits (nbits raw (616 * i) 616) 512 2 = nbits raw (616 * i + 512) 2 := nbits_nbits (by decide)
  simp only [hkind, State.emitFlits, flitSlots, List.foldl_filter, State.each, slotFlit, ite_not, decide_eq_true_eq, ne_eq]

@[simp] theorem State.emitFlits_out (s : State) (d m raw : Nat) :
    (s.emitFlits d m raw).out = s.out ++ (flitSlots raw).map (slotFlit d m raw) := by
  unfold State.emitFlits
  induction flitSlots raw generalizing s with
  | nil => simp
  | cons i l ih => simp [ih]

@[simp] theorem State.emitFlits_regs (s : State) (d m raw : Nat) : (s.emitFlits d m raw).regs = s.regs := by
  unfold State.emitFlits
  induction flitSlots raw generalizing s with
  | nil => rfl
  | cons i l ih => exact (ih _).trans (State.emit_regs ..)

@[simp] theorem State.emitFlits_rest (s : State) (d m raw : Nat) : (s.emitFlits d m raw).rest = s.rest := by
  unfold State.emitFlits
  induction flitSlots raw generalizing s with
  | nil => rfl
  | cons i l ih => exact (ih _).trans (State.emit_rest ..)

theorem State.regsOnly_emitFlits {s t : State} {l : List (Nat × Fld)} (h : s.regsOnly t l) (d m raw : Nat) :
    s.regsOnly (t.emitFlits d m raw) l :=
  ⟨State.onlyFields_regs h.1 (State.emitFlits_regs ..), (State.emitFlits_rest ..).trans h.2⟩

/-! ### A fence of an edge (R253, R254, R257) -/

/-- An edge is marked as fenced, once its training and swaps have ended. -/
def fenceMarked (d e : Nat) (s : State) : State :=
  (fenceEnds d e s).setFs d [(CORUG_EDGE_fenced e, 1), (CORUG_EDGE_trained e, 0), (CORUG_EDGE_reset_seen e, 0)]

/-- The fence log with its event bit, once the edge is marked. -/
def fenceLogged (d e cause : Nat) (s : State) : State :=
  (fenceMarked d e s).evtLatch d CORUG_EVT_fence fun s =>
    s.setFs d [(CORUG_FENCE_LOG_edge, e), (CORUG_FENCE_LOG_cause, cause), (CORUG_FENCE_LOG_tick, s.tick16)]

/-- The registers of a die's edges and operations. -/
def edgeRegs (d : Nat) : List (Nat × Fld) := [whole d CORUG_EDGE, whole d CORUG_EVT, whole d CORUG_CMDSTAT, whole d CORUG_FENCE_LOG]

/-- The registers of the channels of an edge. -/
def chanRegs (d e : Nat) : List (Nat × Fld) := streamKs.map fun k => whole d (CORUG_M_CHAN (8 * e + k))

section Fence
variable {s : State} {d e : Nat}

/-- A fence marks the edge and logs its cause, fences the ports and the channels, and is reported. -/
theorem fenceEdge_eq (hlive : s.live d = true) (hedge : (edgeFar d e).isSome = true) (cause : Nat) : fenceEdge d e cause s =
    errReport d 3 .contained 0x1F 0 (fenceChannels d e (setPorts d e true (fenceLogged d e cause s))) := by
  rw [fenceEdge, if_neg (by simp [hlive, Option.isSome_iff_ne_none.mp hedge])]
  rfl

/-- A training or swap that a fence ends shows in `CORUG_CMDSTAT` alone. -/
theorem fenceEnds_linkOnly (d e : Nat) (s : State) : s.linkOnly (fenceEnds d e s) [whole d CORUG_CMDSTAT] := by
  refine State.each_keeps (fun t => s.linkOnly t [whole d CORUG_CMDSTAT]) _ _ (fun t k _ h => ?_) _ ?_
  · dsimp only
    split
    · exact State.linkOnly_setFs [(CORUG_CMDSTAT_reason, 9)] (State.linkOnly_corug h _) (by simp [placed_iff, CORUG_CMDSTAT])
    · exact h
  · split
    · exact State.linkOnly_setFs _ (State.linkOnly_corug (State.linkOnly_refl s _) _) (by simp [placed_iff, CORUG_CMDSTAT])
    · exact State.linkOnly_refl s _

/-- The ports of an edge are fenced in its routers. -/
theorem setPorts_eq (d e : Nat) (on : Bool) (s : State) : ∃ r, setPorts d e on s = { s with rtr := r } := by
  refine State.each_keeps (fun t => ∃ r, t = { s with rtr := r }) _ _ (fun t k _ h => ?_) s ⟨_, rfl⟩
  obtain ⟨r, rfl⟩ := h
  exact ⟨_, rfl⟩

/-- The channels of a fenced edge change in their state codes, and in what the links hold. -/
theorem fenceChannels_linkOnly (d e : Nat) (s : State) : s.linkOnly (fenceChannels d e s) (chanRegs d e) := by
  refine State.each_keeps (fun t => s.linkOnly t (chanRegs d e)) _ _ (fun t k hk h => ?_) s (State.linkOnly_refl s _)
  dsimp only
  split
  · exact h
  · next hexists =>
    have hm : 8 * e + k < 32 := moduleExists_lt (d := d) (by simpa using hexists)
    have hmem : whole d (CORUG_M_CHAN (8 * e + k)) ∈ chanRegs d e := List.mem_map_of_mem hk
    refine State.each_keeps (fun t => s.linkOnly t (chanRegs d e)) _ _ (fun u ch hch hu => ?_) t h
    have hch' : ch < 2 := by
      have : ch = 0 ∨ ch = 1 := by simpa using hch
      omega
    have hstate {w : State} {rx : Nat} (hrx : rx < 2) (hw : s.linkOnly w (chanRegs d e)) :
        s.linkOnly (setChanState d (8 * e + k) ch rx chFenced w) (chanRegs d e) :=
      State.linkOnly_setFs [(CORUG_M_CHAN_st (8 * e + k) (ch + 2 * rx), chFenced)] hw
        (by simp [chanSt_placed hm d (show ch + 2 * rx < 4 by omega), hmem])
    exact hstate (by decide) (hstate (by decide)
      (State.linkOnly_when _ hu (State.linkOnly_emit (State.linkOnly_setChan hu) _)))

/-- The mark changes the registers of the edges and operations. -/
theorem fenceMarked_linkOnly (he : e < 4) : s.linkOnly (fenceMarked d e s) (edgeRegs d) := by
  refine State.linkOnly_setFs _ (State.linkOnly_mono (fenceEnds_linkOnly d e s) (by simp [edgeRegs])) ?_
  simp [placed_iff, edgeRegs, CORUG_EDGE]
  omega

/-- The edge is fenced. -/
theorem fenceMarked_fenced (he : e < 4) : (fenceMarked d e s).f d (CORUG_EDGE_fenced e) = 1 := by
  refine State.f_setFs_cons _ d _ 1 _ (edge_placed he d) ?_
  simp [placed_iff, apart_iff, CORUG_EDGE]
  omega

/-- The event bits are not touched by the mark. -/
theorem fenceMarked_event (he : e < 4) : (fenceMarked d e s).f d CORUG_EVT_fence = s.f d CORUG_EVT_fence := by
  rw [fenceMarked, State.f_setFs_clear _ d _ rfl (by simp [placed_iff, apart_iff, CORUG_EDGE]; omega)]
  exact (fenceEnds_linkOnly d e s).1 (d, CORUG_EVT_fence) rfl (by simp [whole, apart_iff])

/-- The log of a fence changes the registers of the edges and operations. -/
theorem fenceLogged_linkOnly (he : e < 4) (cause : Nat) : s.linkOnly (fenceLogged d e cause s) (edgeRegs d) := by
  obtain ⟨t, ht, heq⟩ := State.evtLatch_evt (fenceMarked d e s) d CORUG_EVT_fence _
  rw [fenceLogged, heq]
  refine State.linkOnly_setFs [(CORUG_EVT_fence, 1)] ?_ (by simp [placed_iff, edgeRegs, CORUG_EVT])
  rcases ht with rfl | rfl
  · exact fenceMarked_linkOnly he
  · exact State.linkOnly_setFs _ (fenceMarked_linkOnly he) (by simp [placed_iff, edgeRegs, CORUG_FENCE_LOG])

theorem fenceLogged_fenced (he : e < 4) (cause : Nat) : (fenceLogged d e cause s).f d (CORUG_EDGE_fenced e) = 1 := by
  obtain ⟨t, ht, heq⟩ := State.evtLatch_evt (fenceMarked d e s) d CORUG_EVT_fence _
  rw [fenceLogged, heq, State.evt, State.f_setF_clear _ _ _ _ _ _ rfl (edge_placed he d) (by simp [apart_iff])]
  rcases ht with rfl | rfl
  · exact fenceMarked_fenced he
  · rw [State.f_setFs_clear _ d _ (edge_placed he d) (by simp [placed_iff, apart_iff, CORUG_FENCE_LOG, CORUG_EDGE])]
    exact fenceMarked_fenced he

/-- While the event bit is clear, the edge and the cause are latched. -/
theorem fenceLogged_log (he : e < 4) {cause : Nat} (hcause : cause < 16) (hclear : s.f d CORUG_EVT_fence = 0) :
    (fenceLogged d e cause s).f d CORUG_FENCE_LOG_edge = e ∧ (fenceLogged d e cause s).f d CORUG_FENCE_LOG_cause = cause := by
  have hevent (t : State) (x : Fld) (hx : placed (d, x) = true) (hreg : x.reg = CORUG_FENCE_LOG) : (t.evt d CORUG_EVT_fence).f d x = t.f d x :=
    State.f_setF_clear t d d _ x 1 rfl hx (by simp [apart_iff, hreg])
  rw [fenceLogged, State.evtLatch_clear ((fenceMarked_event he).trans hclear), hevent _ _ rfl rfl, hevent _ _ rfl rfl]
  constructor
  · exact (State.f_setFs_cons _ d _ e _ rfl (by simp [placed_iff, apart_iff, CORUG_FENCE_LOG])).trans (Nat.mod_eq_of_lt he)
  · rw [State.setFs_cons]
    exact (State.f_setFs_cons _ d _ cause _ rfl (by simp [placed_iff, apart_iff, CORUG_FENCE_LOG])).trans (Nat.mod_eq_of_lt hcause)

variable (hlive : s.live d = true) (hedge : (edgeFar d e).isSome = true)
include hlive hedge

/-- The registers below those of the modules are left as the log leaves them. -/
theorem fenceEdge_f (cause : Nat) {x : Fld} (hx : placed (d, x) = true) (hpage : x.reg / 0x10000 = 0x68) (hreg : x.reg < 0x680100) :
    (fenceEdge d e cause s).f d x = (fenceLogged d e cause s).f d x := by
  obtain ⟨r, hr⟩ := setPorts_eq d e true (fenceLogged d e cause s)
  have hchan := (fenceChannels_linkOnly d e (setPorts d e true (fenceLogged d e cause s))).1 (d, x) hx
    (by simp [chanRegs, streamKs, whole, apart_iff, CORUG_M_CHAN]; omega)
  rw [fenceEdge_eq hlive hedge, State.f_onlyPages (errReport_onlyPages d 3 0x1F 0 _) (placed_iff.mp hx).1 (by simp [hpage]), hchan, hr]
  rfl

/-- The edge is fenced. -/
theorem fenceEdge_fenced (he : e < 4) (cause : Nat) : (fenceEdge d e cause s).f d (CORUG_EDGE_fenced e) = 1 :=
  (fenceEdge_f hlive hedge cause (edge_placed he d) (by simp [CORUG_EDGE]) (by simp [CORUG_EDGE])).trans (fenceLogged_fenced he cause)

/-- While the event bit is clear, the edge and the cause are latched. -/
theorem fenceEdge_log (he : e < 4) {cause : Nat} (hcause : cause < 16) (hclear : s.f d CORUG_EVT_fence = 0) :
    (fenceEdge d e cause s).f d CORUG_FENCE_LOG_edge = e ∧ (fenceEdge d e cause s).f d CORUG_FENCE_LOG_cause = cause := by
  rw [fenceEdge_f hlive hedge cause rfl rfl (by simp [CORUG_FENCE_LOG]), fenceEdge_f hlive hedge cause rfl rfl (by simp [CORUG_FENCE_LOG])]
  exact fenceLogged_log he hcause hclear

/-- A fence shows in the pages of the links and of the errors. -/
theorem fenceEdge_onlyPages (he : e < 4) (cause : Nat) : s.onlyPages (fenceEdge d e cause s) [(d, 0x68), (d, 0x70), (0, 0x70)] := by
  obtain ⟨r, hr⟩ := setPorts_eq d e true (fenceLogged d e cause s)
  have hlog : s.onlyPages (setPorts d e true (fenceLogged d e cause s)) [(d, 0x68), (d, 0x70), (0, 0x70)] := by
    rw [hr]
    exact State.onlyPages_regs (State.onlyPages_of_onlyFields (fenceLogged_linkOnly he cause).1
      (by simp [edgeRegs, whole, CORUG_EDGE, CORUG_EVT, CORUG_CMDSTAT, CORUG_FENCE_LOG])) rfl
  have hchan := State.onlyPages_of_onlyFields (pages := [(d, 0x68), (d, 0x70), (0, 0x70)])
    (fenceChannels_linkOnly d e (setPorts d e true (fenceLogged d e cause s))).1
    (by simp [chanRegs, streamKs, whole, CORUG_M_CHAN]; omega)
  rw [fenceEdge_eq hlive hedge]
  exact State.onlyPages_trans (State.onlyPages_trans hlog hchan) (State.onlyPages_mono (errReport_onlyPages d 3 0x1F 0 _) (by simp))

/-- A fence changes registers, the links and the routers alone. -/
theorem fenceEdge_linkFrame (he : e < 4) (cause : Nat) : s.linkFrame (fenceEdge d e cause s) := by
  have hlog : s.linkFrame (fenceLogged d e cause s) := (fenceLogged_linkOnly he cause).linkFrame
  have hports : (fenceLogged d e cause s).linkFrame (setPorts d e true (fenceLogged d e cause s)) := by
    obtain ⟨r, hr⟩ := setPorts_eq d e true (fenceLogged d e cause s)
    rw [hr]
    rfl
  have hchan := (fenceChannels_linkOnly d e (setPorts d e true (fenceLogged d e cause s))).linkFrame
  rw [fenceEdge_eq hlive hedge]
  exact State.linkFrame_rest (State.linkFrame_trans (State.linkFrame_trans hlog hports) hchan) (errReport_rest ..)

end Fence

/-! ### Tunnel frames (R242, R243) -/

/-- The flits of a good control code's frame go out, and its credit word is kept. -/
def State.credited (s : State) (d m raw : Nat) : State :=
  let t := s.emitFlits d m raw
  { t with corug := { t.corug with credit := KMap.put t.corug.credit (d * 32 + m) (BitVec.ofNat 32 (nbits raw 1848 32)) } }

/-- A frame with a bad control code is counted, and its flits go out. -/
def ctlFailed (d m raw : Nat) (s : State) : State := (s.counted d (CORUG_M_ERR_crc m) CORUG_EVT_ctl_crc).emitFlits d m raw

section Tunnel
variable {s : State} {d m raw : Nat}

/-- A frame is taken on an open edge of a live die, by a tunnel module. -/
structure State.takesFrame (s : State) (d m : Nat) : Prop where
  live : s.live d = true
  module : moduleExists d m = true
  kind : moduleKind d m = 0
  unfenced : s.f d (CORUG_EDGE_fenced (m / 8)) = 0

theorem State.takesFrame.guard (h : s.takesFrame d m) : ¬ (!s.live d || !moduleExists d m || decide (moduleKind d m ≠ 0)) = true := by
  simp [h.live, h.module, h.kind]

theorem tunnelFrame_bad (h : s.takesFrame d m) (hcrc : crc16 (bytesOf 6 (nbits raw 1848 48)) ≠ nbits raw 1896 16) :
    tunnelFrame d m raw s = ctlFailed d m raw s := by
  have hm := moduleExists_lt h.module
  have hopen : (s.counted d (CORUG_M_ERR_crc m) CORUG_EVT_ctl_crc).f d (CORUG_EDGE_fenced (m / 8)) = 0 := by
    rw [(State.counted_regsOnly (moduleErr_placed hm d) rfl).1 (d, _) (edge_placed (by omega) d)
      (by simp [apart_iff, CORUG_M_ERR, CORUG_EVT, CORUG_EDGE]; omega)]
    exact h.unfenced
  rw [tunnelFrame, if_neg h.guard]
  simp only [hcrc, decide_false, Bool.false_and, State.when_false, Bool.not_false, if_true, emitFlits_each, Bool.false_eq_true, if_false]
  exact if_neg (by simpa [State.on, State.counted] using hopen)

theorem ctlFailed_regsOnly (hm : m < 32) : s.regsOnly (ctlFailed d m raw s) [(d, CORUG_M_ERR_crc m), (d, CORUG_EVT_ctl_crc)] :=
  State.regsOnly_emitFlits (State.counted_regsOnly (moduleErr_placed hm d) rfl) d m raw

theorem ctlFailed_f (x : Fld) : (ctlFailed d m raw s).f d x = (s.counted d (CORUG_M_ERR_crc m) CORUG_EVT_ctl_crc).f d x :=
  State.f_congr (State.emitFlits_regs ..) d x

theorem ctlFailed_out : (ctlFailed d m raw s).out = s.out ++ (flitSlots raw).map (slotFlit d m raw) := by
  rw [ctlFailed, State.emitFlits_out, State.counted_out]

/-- A good frame that does not unfence the edge puts its flits out, updates the credit word, and fences the edge with its notice. -/
theorem tunnelFrame_good (h : s.takesFrame d m) (hcrc : crc16 (bytesOf 6 (nbits raw 1848 48)) = nbits raw 1896 16)
    (hborn : nbits raw 1888 8 ≠ 0 ∨ KMap.look s.corug.born (d * 4 + m / 8) = false) : tunnelFrame d m raw s =
    if nbits raw 1888 8 = 1 then fenceEdge d (m / 8) 1 (s.credited d m raw) else s.credited d m raw := by
  have hstays : (decide (nbits raw 1888 8 = 0) && KMap.look s.corug.born (d * 4 + m / 8)) = false := by
    rcases hborn with hborn | hborn <;> simp [hborn]
  rw [tunnelFrame, if_neg h.guard]
  simp only [hcrc, decide_true, Bool.true_and, if_true, hstays, Bool.false_and, State.when_false, State.on, h.unfenced, bne_self_eq_false,
    Bool.false_eq_true, if_false, emitFlits_each, Bool.not_true]
  rfl

@[simp] theorem State.credited_out : (s.credited d m raw).out = s.out ++ (flitSlots raw).map (slotFlit d m raw) := State.emitFlits_out s d m raw
@[simp] theorem State.credited_regs : (s.credited d m raw).regs = s.regs := State.emitFlits_regs s d m raw

theorem State.credited_rest : (s.credited d m raw).rest = { s.rest with corug := (s.credited d m raw).corug } :=
  congrArg (fun r : State => { r with corug := (s.credited d m raw).corug }) (State.emitFlits_rest s d m raw)

theorem State.credited_credit : KMap.look (s.credited d m raw).corug.credit (d * 32 + m) = BitVec.ofNat 32 (nbits raw 1848 32) :=
  KMap.look_put_same ..

theorem State.credited_linkOnly (l : List (Nat × Fld)) : s.linkOnly (s.credited d m raw) l :=
  ⟨State.onlyFields_of_regs State.credited_regs, State.credited_rest⟩

theorem State.credited_live (d' : Nat) : (s.credited d m raw).live d' = s.live d' := by
  have hpwr : (s.credited d m raw).pwr = s.pwr := (congrArg State.pwr (State.credited_rest (s := s) (d := d) (m := m) (raw := raw)) :)
  rw [State.live, State.live, hpwr]

end Tunnel

/-! ### Margins and spare swaps (R251) -/

/-- The swap of a module ends at one end. -/
def swapEnded (d m : Nat) (s : State) : State :=
  ({ s with corug := { s.corug with swap := KMap.put s.corug.swap (d * 32 + m) false } }).evt d CORUG_EVT_swap_done

/-- A swap that is under way at one end ends there. -/
def swapEnd (d m : Nat) (s : State) : State := if KMap.look s.corug.swap (d * 32 + m) then swapEnded d m s else s

section Swap
variable {s : State} {d m f n : Nat}

/-- The near end is looked at before the far one. -/
theorem swapDone_far (hfar : moduleFar d m = some (f, n)) : swapDone d m s = swapEnd f n (swapEnd d m s) := by
  unfold swapDone
  rw [hfar]
  rfl

theorem swapEnded_linkOnly (d m : Nat) (s : State) : s.linkOnly (swapEnded d m s) [(d, CORUG_EVT_swap_done)] :=
  State.linkOnly_setF (State.linkOnly_corug (State.linkOnly_refl s _) _) d _ 1 rfl (.head _)

theorem swapsEnded_linkOnly (d m f n : Nat) (s : State) :
    s.linkOnly (swapEnded f n (swapEnded d m s)) [(d, CORUG_EVT_swap_done), (f, CORUG_EVT_swap_done)] :=
  State.linkOnly_trans (State.linkOnly_mono (swapEnded_linkOnly d m s) (by simp)) (State.linkOnly_mono (swapEnded_linkOnly f n _) (by simp))

theorem swapEnded_look (d m : Nat) (s : State) : KMap.look (swapEnded d m s).corug.swap (d * 32 + m) = false := by simp [swapEnded]

theorem swapEnded_look_ne {k : Nat} (hk : k ≠ d * 32 + m) : KMap.look (swapEnded d m s).corug.swap k = KMap.look s.corug.swap k := by
  simp [swapEnded, KMap.look_put_ne _ _ _ _ hk]

theorem swapEnded_event (d m : Nat) (s : State) : (swapEnded d m s).f d CORUG_EVT_swap_done = 1 :=
  State.f_setF_fits _ d _ 1 (by decide) (by decide)

variable (hfar : moduleFar d m = some (f, n)) (hm : m < 32)
include hfar

include hm in
/-- The ends of a module have keys of their own. -/
theorem swapKeys_ne : f * 32 + n ≠ d * 32 + m := by
  have := moduleFar_ne hfar
  have := moduleFar_lt hfar
  omega

include hm in
/-- A swap under way at both ends of a module ends at both. -/
theorem swapDone_ends (hnear : KMap.look s.corug.swap (d * 32 + m) = true) (haway : KMap.look s.corug.swap (f * 32 + n) = true) :
    swapDone d m s = swapEnded f n (swapEnded d m s) := by
  rw [swapDone_far hfar, show swapEnd d m s = swapEnded d m s from if_pos hnear]
  exact if_pos ((swapEnded_look_ne (swapKeys_ne hfar hm)).trans haway)

/-- Both ends report it. -/
theorem swapEnded_events : (swapEnded f n (swapEnded d m s)).f d CORUG_EVT_swap_done = 1 ∧
    (swapEnded f n (swapEnded d m s)).f f CORUG_EVT_swap_done = 1 := by
  refine ⟨?_, swapEnded_event f n _⟩
  rw [(swapEnded_linkOnly f n _).1 (d, CORUG_EVT_swap_done) rfl (by simp [apart_iff, moduleFar_ne hfar])]
  exact swapEnded_event d m s

end Swap

/-- A low margin is recorded with its wire. -/
def marginRecorded (d m wire margin : Nat) (s : State) : State :=
  (s.setFs d [(CORUG_M_MARGIN_margin m, margin), (CORUG_M_MARGIN_wire m, wire)]).evt d CORUG_EVT_margin_low

section Margin
variable {s : State} {d m : Nat} (wire margin : Nat)

theorem marginLow_records (hlive : s.live d = true) (hexists : moduleExists d m = true) :
    marginLow d m wire margin s = marginRecorded d m wire margin s := by
  simp [marginLow, marginRecorded, hlive, hexists]

variable (hm : m < 32)
include hm

omit hm in
/-- The event leaves the record. -/
theorem marginRecorded_f {x : Fld} (hx : placed (d, x) = true) (hreg : x.reg = CORUG_M_MARGIN m) : (marginRecorded d m wire margin s).f d x =
    (s.setFs d [(CORUG_M_MARGIN_margin m, margin), (CORUG_M_MARGIN_wire m, wire)]).f d x :=
  State.f_setF_clear _ d d _ x 1 rfl hx (by simpa [apart_iff, hreg] using .inl (evt_ne_moduleMargin m))

theorem marginRecorded_margin (h : margin < 64) : (marginRecorded d m wire margin s).f d (CORUG_M_MARGIN_margin m) = margin := by
  obtain ⟨hmargin, hwire⟩ := moduleMargin_placed hm d
  rw [marginRecorded_f wire margin hmargin rfl, State.f_setFs_cons _ _ _ _ _ hmargin (by simp [hwire, apart_iff])]
  exact Nat.mod_eq_of_lt h

theorem marginRecorded_wire (h : wire < 128) : (marginRecorded d m wire margin s).f d (CORUG_M_MARGIN_wire m) = wire := by
  obtain ⟨hmargin, hwire⟩ := moduleMargin_placed hm d
  rw [marginRecorded_f wire margin hwire rfl, State.setFs_cons, State.f_setFs_cons _ _ _ _ _ hwire (by simp)]
  exact Nat.mod_eq_of_lt h

theorem marginRecorded_regsOnly : s.regsOnly (marginRecorded d m wire margin s)
    [(d, CORUG_M_MARGIN_margin m), (d, CORUG_M_MARGIN_wire m), (d, CORUG_EVT_margin_low)] := by
  have hplaced := moduleMargin_placed hm d
  exact State.regsOnly_setF ⟨State.onlyFields_setFs _ (State.onlyFields_refl s _) (by simp [hplaced]), State.setFs_rest ..⟩ d _ 1 rfl (by simp)

end Margin

/-! ### The obligation -/

/-- Settles O38, command by command: what each effect is under the clause's premises, and then what that effect leaves. -/
theorem linkFramesAndSlotsAreTakenByTheirCodes : Obligations.LinkFramesAndSlotsAreTakenByTheirCodes := by
  unfold Obligations.LinkFramesAndSlotsAreTakenByTheirCodes
  refine ⟨fun s d m raw hlive hmod hcrc hty hopen => ?_, fun s d m raw hlive hmod hcrc hopen => ?_, fun s d m raw hlive hmod hcrc hty hopen => ?_,
    fun s d m ch raw took hlive hmod hopen hcrc => ?_, fun s d m ch raw x hlive hmod hopen hcrc hx => ?_,
    fun s i d e k ch f n hlive hreason hfar hfenced hlink hbound => ?_, fun s d m wire margin hlive hexists => ?_, fun s d m f n hfar hswap => ?_⟩
  · -- a good frame without a notice
    have htakes : s.fresh.takesFrame d m := ⟨hlive, hmod.1, hmod.2, hopen⟩
    have hborn : nbits raw.toNat 1888 8 ≠ 0 ∨ KMap.look s.fresh.corug.born (d.val * 4 + m.val / 8) = false :=
      hty.imp (fun h => by omega) And.right
    refine exec_links (exec_tunnelFrame ..) ((tunnelFrame_good htakes hcrc hborn).trans (if_neg (by omega)))
      (State.credited_linkOnly (s := s.fresh) []).linkFrame ?_
    exact ⟨State.credited_out, State.credited_credit, State.credited_regs, State.credited_rest⟩
  · -- a frame with a bad control code
    have htakes : s.fresh.takesFrame d m := ⟨hlive, hmod.1, hmod.2, hopen⟩
    have honly := ctlFailed_regsOnly (s := s.fresh) (d := d) (raw := raw.toNat) m.isLt
    exact exec_links (exec_tunnelFrame ..) (tunnelFrame_bad htakes hcrc) honly.linkOnly.linkFrame
      ⟨ctlFailed_out, (ctlFailed_f _).trans (State.counted_count (moduleErr_placed m.isLt d) rfl (evt_ne_moduleErr m)),
        (ctlFailed_f _).trans (State.counted_event rfl (by decide)), honly⟩
  · -- a good frame with a notice
    have htakes : s.fresh.takesFrame d m := ⟨hlive, hmod.1, hmod.2, hopen⟩
    have he : m.val / 8 < 4 := by omega
    have hedge := moduleExists_edge hmod.1
    have hlive' : (s.fresh.credited d m raw.toNat).live d = true := (State.credited_live _).trans hlive
    have hcredited : s.linkOnly (s.fresh.credited d m raw.toNat) [] := State.credited_linkOnly (s := s.fresh) []
    have hframe := State.linkFrame_trans hcredited.linkFrame (fenceEdge_linkFrame hlive' hedge he 1)
    have hpages := State.onlyPages_trans (State.onlyPages_of_onlyFields hcredited.1 (by simp)) (fenceEdge_onlyPages hlive' hedge he 1)
    refine exec_links (exec_tunnelFrame ..) ((tunnelFrame_good htakes hcrc (.inl (by omega))).trans (if_pos hty)) hframe
      ⟨fenceEdge_fenced hlive' hedge he 1, fun hclear => ?_, hpages, hframe⟩
    exact fenceEdge_log hlive' hedge he (by decide) ((State.f_congr State.credited_regs ..).trans hclear)
  · -- a slot whose crc fails
    have htakes : s.fresh.takesSlot d m ch.toNat := ⟨hlive, hmod.1, hmod.2, hopen⟩
    obtain ⟨f, n, hfar⟩ := moduleExists_far hmod.1
    have honly := closeChannel_linkOnly m.isLt ch.toNat_lt s.fresh hfar
    refine exec_links (exec_streamSlot ..) (streamSlot_bad htakes hcrc took) honly.linkFrame ⟨?_, ?_, ?_, ?_, ?_, ?_, honly.2⟩
    · exact closeChannel_rx m.isLt ch.toNat_lt _ hfar hopen
    · exact closeChannel_tx m.isLt ch.toNat_lt _ hfar
    · rw [closeChannel_f m.isLt ch.toNat_lt _ hfar (moduleErr_placed m.isLt d) (by simp [CORUG_M_CHAN, CORUG_M_ERR])]
      exact State.counted_count (moduleErr_placed m.isLt d) rfl (evt_ne_moduleErr m)
    · rw [closeChannel_f m.isLt ch.toNat_lt _ hfar rfl (evt_ne_moduleChan m).symm]
      exact State.counted_event rfl (by decide)
    · obtain ⟨l, hout⟩ := closeChannel_out m.isLt ch.toNat_lt s.fresh hfar hopen
      rw [hout]
      rfl
    · have hn := moduleFar_lt hfar
      refine State.onlyPages_of_onlyFields honly.1 ?_
      simp [hfar, CORUG_M_ERR, CORUG_M_CHAN, CORUG_EVT]
      omega
  · -- a good slot
    have htakes : s.fresh.takesSlot d m ch.toNat := ⟨hlive, hmod.1, hmod.2, hopen⟩
    obtain ⟨n, hstored⟩ := streamSlot_good htakes hcrc
    have honly : s.linkOnly (slotStored d m ch.toNat raw.toNat n (s.fresh.slotAcked d m ch.toNat (nbits raw.toNat 274 6)))
        [(d.val, CORUG_M_SDROP_value m.val), (d.val, CORUG_EVT_stream_drop)] :=
      State.linkOnly_trans (State.slotAcked_linkOnly _ _) (slotStored_linkOnly n m.isLt)
    subst hx
    refine exec_links (exec_streamSlot ..) hstored honly.linkFrame ⟨?_, ?_, fun hword hfull => ?_, honly.1, ?_, honly.2⟩
    · rw [slotStored_tx, State.slotAcked_acked]
    · rw [slotStored_fifo, State.slotAcked_rx]
      rfl
    · have hdrops := slotStored_drops n m.isLt hword (s := s.fresh.slotAcked d m ch.toNat (nbits raw.toNat 274 6)) (by rwa [State.slotAcked_rx])
      rwa [State.slotAcked_f] at hdrops
    · rw [slotStored_out]
      rfl
  · -- a resync of a closed channel
    have hm : 8 * e.val + k.val < 32 := by omega
    have hedge : (8 * e.val + k.val) / 8 = e.val := by omega
    obtain ⟨hnear, haway⟩ := hfenced
    rw [← hedge] at hnear
    have honly : s.linkOnly (resynced d (8 * e + k) ch.toNat s.fresh) _ := resynced_linkOnly (s := s.fresh) hfar hm ch.toNat_lt
    obtain ⟨hrx, htx⟩ := resynced_opens (s := s.fresh) hfar hm ch.toNat_lt hnear haway hlink hbound
    obtain ⟨hrxNear, htxNear, htxFar, hrxFar⟩ := rematched_fifo (s := opShown d 3 0 s.fresh) hfar hm ch.toNat_lt
    obtain ⟨hop, hnone⟩ := resynced_cmdstat (s := s.fresh) hfar hm ch.toNat_lt
    exact exec_links (exec_corugResync ..) (corugOp_starts (s := s.fresh) hlive hreason _) honly.linkFrame
      ⟨hrx, htx, hrxNear, htxNear, htxFar, hrxFar, hop, hnone, honly.1, honly.2⟩
  · -- a low margin
    have honly := marginRecorded_regsOnly (s := s.fresh) (d := d) wire margin m.isLt
    exact exec_links (exec_corugMarginLow ..) (marginLow_records wire margin hlive hexists) honly.linkOnly.linkFrame
      ⟨marginRecorded_margin _ _ m.isLt margin.isLt, marginRecorded_wire _ _ m.isLt (by omega), State.f_setF_fits _ _ _ 1 (by decide) (by decide),
        honly⟩
  · -- the end of a swap
    have honly := swapsEnded_linkOnly d m f n s.fresh
    have hkeys := (swapKeys_ne hfar m.isLt).symm
    have hevents := swapEnded_events (s := s.fresh) hfar
    exact exec_links (exec_corugSwapDone ..) (swapDone_ends hfar m.isLt hswap.1 hswap.2) honly.linkFrame
      ⟨(swapEnded_look_ne hkeys).trans (swapEnded_look ..), swapEnded_look .., hevents.1, hevents.2, honly.1, honly.2⟩

end Sys2Proof.Machine
end

section
/-! SUPPORT. DDR5 channels (11): fields of a channel's page, what a command of the channels leaves alone, retrains, training and ALERT#
(R340 to R345). -/

namespace Sys2Proof.Machine

/-! ### Fields of a channel's page (R339) -/

section Page
variable {s t : State} {c : Nat} {x y : Nat → Fld} (v : Nat)

/-- An event of a channel is a store of 1. -/
theorem State.cevt_eq (s : State) (c : Nat) (x : Nat → Fld) : s.cevt c x = s.setCf c x 1 := rfl

@[simp] theorem State.setCf_ddr : (s.setCf c x v).ddr = s.ddr := State.setF_ddr ..

@[simp] theorem State.setCf_ddrChan (c' : Nat) : (s.setCf c x v).ddrChan c' = s.ddrChan c' := by
  simp only [State.ddrChan, State.setCf_ddr]

@[simp] theorem State.setDdrChan_cf (c' : Nat) (z : DdrChan) : (s.setDdrChan c' z).cf c x = s.cf c x :=
  State.f_congr rfl ..

@[simp] theorem State.setDdrChan_ddrChan (z : DdrChan) : (s.setDdrChan c z).ddrChan c = z := KMap.look_put_same ..

/-- A field of a channel's page reads back what was stored, cut to its length. The bits of the field are settled for the four channels of a
die at once. -/
theorem State.cf_setCf_same (hx : ∀ k < 4, (x k).lo + (x k).len ≤ 32) : (s.setCf c x v).cf c x = v % 2 ^ (x (c % 4)).len :=
  State.f_setF_same s _ _ v (hx _ (Nat.mod_lt c (by decide)))

/-- A field of a channel's page that shares no bit with the one stored reads as before. -/
theorem State.cf_setCf_apart (hxy : ∀ k < 4, placed (0, x k) = true ∧ placed (0, y k) = true ∧ apart (0, x k) (0, y k) = true) :
    (s.setCf c x v).cf c y = s.cf c y := by
  obtain ⟨hx, hy, hapart⟩ := hxy (c % 4) (Nat.mod_lt c (by decide))
  exact State.f_setF_clear s _ _ _ _ v hx hy (by simpa [apart] using hapart)

/-- A store of a listed field of a channel's page. -/
theorem State.onlyFields.setCf {l : List (Nat × Fld)} (h : s.onlyFields t l) (hx : ∀ k < 4, placed (0, x k) = true := by decide)
    (hm : (chanDie c, x (c % 4)) ∈ l := by simp [chanDie]) : s.onlyFields (t.setCf c x v) l :=
  State.onlyFields_setF h _ _ v (hx _ (Nat.mod_lt c (by decide))) hm

/-- A store of a field of a listed channel's page. -/
theorem State.onlyPages.setCf {l : List (Nat × Nat)} (h : s.onlyPages t l)
    (hx : ∀ k < 4, (x k).reg < 0x1000000 ∧ (x k).reg / 0x10000 = 0x10 + k := by decide)
    (hm : (chanDie c, 0x10 + c % 4) ∈ l := by simp [chanDie]) : s.onlyPages (t.setCf c x v) l := by
  obtain ⟨hreg, hpage⟩ := hx (c % 4) (Nat.mod_lt c (by decide))
  exact State.onlyPages_setF h _ _ v hreg (hpage ▸ hm)

end Page

/-! ### What a command of the channels leaves alone -/

/-- From s to t nothing changes but the channels, the registers and what is put out. -/
def State.ddrFrame (s t : State) : Prop := t.rest = { s.rest with ddr := t.ddr }

/-- From s to t nothing changes but the channels, the interfaces, the statistics, the registers and what is put out. -/
def State.dramFrame (s t : State) : Prop := t.rest = { s.rest with ddr := t.ddr, net := t.net, stats := t.stats }

section DramFrame
variable {s t u : State}

theorem State.ddrFrame.dramFrame (h : s.ddrFrame t) : s.dramFrame t := by
  have hnet : t.net = s.net := (congrArg State.net h :)
  have hstats : t.stats = s.stats := (congrArg State.stats h :)
  rw [State.dramFrame, hnet, hstats]
  exact h

theorem State.ddrFrame_trans (h : s.ddrFrame t) (hu : t.ddrFrame u) : s.ddrFrame u := by
  rw [State.ddrFrame, hu, h]

theorem State.ddrFrame_emit (h : s.ddrFrame t) (o : Out) : s.ddrFrame (t.emit o) := by
  rw [State.ddrFrame, State.emit_rest, State.emit_ddr]
  exact h

theorem State.dramFrame_trans (h : s.dramFrame t) (hu : t.dramFrame u) : s.dramFrame u := by
  rw [State.dramFrame, hu, h]

/-- What a request leaves alone at its target leaves the channels alone. -/
theorem State.meshFrame.dramFrame (h : s.meshFrame t) : s.dramFrame t := by
  have hddr : t.ddr = s.ddr := (congrArg State.ddr h :)
  rw [State.dramFrame, hddr]
  exact h

/-- What leaves all but registers and outputs leaves all but the channels. -/
theorem State.regsOnly.ddrFrame {l : List (Nat × Fld)} (h : s.regsOnly t l) : s.ddrFrame t := by
  have hddr : t.ddr = s.ddr := (congrArg State.ddr h.2 :)
  rw [State.ddrFrame, hddr, h.2]
  rfl

/-- A command whose effect stays within the channels, the interfaces and the registers ends with what its effect leaves. -/
theorem exec_dram {i : Instr} {f : State → State} {P : State → Prop} (hi : exec i s = run f s) (hu : f s.fresh = u)
    (hframe : s.dramFrame u) (hP : P u) : ∃ t, exec i s = .next t ∧ P t := by
  have hpend : u.pending = s.pending := (congrArg State.pending hframe :)
  have htime : u.time = s.time := (congrArg State.time hframe :)
  have hfuses : u.fuses = s.fuses := (congrArg State.fuses hframe :)
  refine exec_answers hi ?_
  rw [hu, State.ended, ← hpend, ← htime, ← hfuses]
  exact hP

end DramFrame

/-- From s to t nothing changes but what channel c holds beside its lines and records, the registers of its page, and what is put out. -/
structure State.chanOnly (c : Nat) (s t : State) : Prop where
  rest : t.rest = { s.rest with ddr := { s.ddr with chan := t.ddr.chan } }
  pages : s.onlyPages t [(chanDie c, 0x10 + c % 4)]

section ChanOnly
variable {s t u : State} {c : Nat}

theorem State.chanOnly.refl (s : State) : State.chanOnly c s s := ⟨rfl, State.onlyPages_refl s _⟩

theorem State.chanOnly.trans (h : State.chanOnly c s t) (hu : State.chanOnly c t u) : State.chanOnly c s u :=
  ⟨by rw [hu.rest, h.rest, show t.ddr = { s.ddr with chan := t.ddr.chan } from (congrArg State.ddr h.rest :)],
    State.onlyPages_trans h.pages hu.pages⟩

theorem State.chanOnly_setCf (s : State) (c : Nat) (x : Nat → Fld) (v : Nat)
    (hx : ∀ k < 4, (x k).reg < 0x1000000 ∧ (x k).reg / 0x10000 = 0x10 + k := by decide) : State.chanOnly c s (s.setCf c x v) :=
  ⟨State.setF_rest .., (State.onlyPages_refl s _).setCf v hx⟩

theorem State.chanOnly_setDdrChan (s : State) (c : Nat) (z : DdrChan) : State.chanOnly c s (s.setDdrChan c z) :=
  ⟨rfl, State.onlyPages_regs (State.onlyPages_refl s _) rfl⟩

theorem State.chanOnly_when (s : State) (b : Bool) {f : State → State} (h : State.chanOnly c s (f s)) : State.chanOnly c s (s.when b f) := by
  cases b with
  | true => exact h
  | false => exact .refl s

section
variable (h : State.chanOnly c s t)
include h

theorem State.chanOnly.ddr : t.ddr = { s.ddr with chan := t.ddr.chan } := (congrArg State.ddr h.rest :)
theorem State.chanOnly.line : t.ddr.line = s.ddr.line := (congrArg DdrSt.line h.ddr :)
theorem State.chanOnly.fill : t.ddr.fill = s.ddr.fill := (congrArg DdrSt.fill h.ddr :)

theorem State.chanOnly.ddrFrame : s.ddrFrame t := by
  rw [State.ddrFrame, h.ddr]
  exact h.rest

theorem State.chanOnly.dramFrame : s.dramFrame t := h.ddrFrame.dramFrame

/-- A further store of a field of the channel's page. -/
theorem State.chanOnly.setCf {x : Nat → Fld} (v : Nat) (hx : ∀ k < 4, (x k).reg < 0x1000000 ∧ (x k).reg / 0x10000 = 0x10 + k := by decide) :
    State.chanOnly c s (t.setCf c x v) := h.trans (State.chanOnly_setCf t c x v hx)

/-- A further change of what the channel holds. -/
theorem State.chanOnly.setDdrChan (z : DdrChan) : State.chanOnly c s (t.setDdrChan c z) := h.trans (State.chanOnly_setDdrChan t c z)

end
end ChanOnly

/-! ### Retrains (R344, R345) -/

section BeginTraining
variable {s t : State} {c : Nat} (g : Nat) (s11 : Bool)

theorem beginTraining_ddrState : (beginTraining c g s11 s).ddrState c = 1 := State.cf_setCf_same 1 (by decide)

theorem beginTraining_ddrChan : (beginTraining c g s11 s).ddrChan c = { s.ddrChan c with grade := g, s11 := s11 } :=
  State.setDdrChan_ddrChan _

/-- Of the channel's page it stores the state alone. -/
theorem beginTraining_cf {x : Nat → Fld}
    (hx : ∀ k < 4, placed (0, DDR_STAT_state k) = true ∧ placed (0, x k) = true ∧ apart (0, DDR_STAT_state k) (0, x k) = true) :
    (beginTraining c g s11 s).cf c x = s.cf c x := by
  rw [beginTraining, State.cf_setCf_apart 1 hx, State.setDdrChan_cf]

theorem beginTraining_chanOnly : State.chanOnly c s (beginTraining c g s11 s) := (State.chanOnly_setDdrChan ..).setCf 1

theorem State.onlyFields.beginTraining {l : List (Nat × Fld)} (h : s.onlyFields t l)
    (hm : (chanDie c, DDR_STAT_state (c % 4)) ∈ l := by simp [chanDie]) : s.onlyFields (Machine.beginTraining c g s11 t) l :=
  State.onlyFields.setCf (t := t.setDdrChan c _) 1 (State.onlyFields_regs h rfl) (by decide) hm

/-- A retrain is at the grade of the start, where there is one. -/
theorem State.retrainGrade_start (h : s.ddr.grade ≠ 0) : s.retrainGrade c = s.ddr.grade := if_pos h

end BeginTraining

/-- A retrain that is refused for its initiator. -/
def retrainDenied (c : Nat) (s : State) : State :=
  ((s.setCf c DDR_CMDSTAT_op 1).setCf c DDR_EVT_refused 1).setCf c DDR_CMDSTAT_reason 1

/-- A retrain that ends at once with a reason. -/
def retrainEnds (c r : Nat) (s : State) : State := (s.setCf c DDR_CMDSTAT_op 1).setCf c DDR_CMDSTAT_reason r

/-- A retrain that starts, at a grade. -/
def retrainStarts (c g : Nat) (s : State) : State :=
  beginTraining c g false (((s.setCf c DDR_CMDSTAT_op 1).setCf c DDR_CMDSTAT_busy 1).setCf c DDR_CMDSTAT_reason 0)

section Retrain
variable {s : State} {i : Init} {c : Nat}

theorem ddrRetrain_denied (hlive : s.live (chanDie c) = true) (hhawk : isHawkmoth i = false) (hagent : isMemAgentOf i (chanDie c) = false) :
    ddrRetrain i c s = retrainDenied c s := by
  simp [ddrRetrain, retrainDenied, hlive, hhawk, hagent, State.cevt_eq]

/-- By an initiator that has the right, the channel's state decides. -/
theorem ddrRetrain_allowed (hlive : s.live (chanDie c) = true) (hwho : isHawkmoth i = true ∨ isMemAgentOf i (chanDie c) = true) :
    ddrRetrain i c s = if s.ddrState c = 0 then retrainEnds c 5 s else if s.ddrState c = 1 ∨ s.ddrState c = 3 then retrainEnds c 3 s
    else retrainStarts c (s.retrainGrade c) s := by
  have hstate : (s.setCf c DDR_CMDSTAT_op 1).ddrState c = s.ddrState c := State.cf_setCf_apart 1 (by decide)
  have hgrade : (s.setCf c DDR_CMDSTAT_op 1).retrainGrade c = s.retrainGrade c := rfl
  have hdenied : (!isHawkmoth i && !isMemAgentOf i (chanDie c)) = false := by
    obtain hwho | hwho := hwho <;> simp [hwho]
  simp [ddrRetrain, retrainEnds, retrainStarts, hlive, hdenied, hstate, hgrade]

theorem retrainDenied_cf : (retrainDenied c s).cf c DDR_CMDSTAT_reason = 1 ∧ (retrainDenied c s).cf c DDR_EVT_refused = 1 := by
  simp (disch := decide) [retrainDenied, State.cf_setCf_same, State.cf_setCf_apart]

/-- An OFF channel gives reason 5, one that trains or repairs reason 3. -/
theorem ddrRetrain_ends {r : Nat} (hlive : s.live (chanDie c) = true) (hwho : isHawkmoth i = true ∨ isMemAgentOf i (chanDie c) = true)
    (hstate : s.ddrState c = 0 ∧ r = 5 ∨ (s.ddrState c = 1 ∨ s.ddrState c = 3) ∧ r = 3) : ddrRetrain i c s = retrainEnds c r s := by
  rw [ddrRetrain_allowed hlive hwho]
  obtain ⟨h0, rfl⟩ | ⟨hbusy, rfl⟩ := hstate
  · rw [if_pos h0]
  · rw [if_neg (by omega), if_pos hbusy]

/-- A READY or FAILED channel begins to train. -/
theorem ddrRetrain_starts (hlive : s.live (chanDie c) = true) (hwho : isHawkmoth i = true ∨ isMemAgentOf i (chanDie c) = true)
    (hstate : s.ddrState c = 2 ∨ s.ddrState c = 4) : ddrRetrain i c s = retrainStarts c (s.retrainGrade c) s := by
  rw [ddrRetrain_allowed hlive hwho, if_neg (by omega), if_neg (by omega)]

theorem retrainEnds_reason {r : Nat} (hr : r < 16) : (retrainEnds c r s).cf c DDR_CMDSTAT_reason = r :=
  (State.cf_setCf_same r (by decide)).trans (Nat.mod_eq_of_lt hr)

theorem retrainStarts_cf (g : Nat) : (retrainStarts c g s).cf c DDR_CMDSTAT_busy = 1 ∧ (retrainStarts c g s).cf c DDR_CMDSTAT_reason = 0 := by
  simp (disch := decide) [retrainStarts, beginTraining_cf, State.cf_setCf_same, State.cf_setCf_apart]

theorem retrainDenied_regsOnly : s.regsOnly (retrainDenied c s)
    [(chanDie c, DDR_CMDSTAT_op (c % 4)), (chanDie c, DDR_CMDSTAT_reason (c % 4)), (chanDie c, DDR_EVT_refused (c % 4))] :=
  ⟨(((State.onlyFields_refl s _).setCf 1).setCf 1).setCf 1, by simp [retrainDenied, State.setCf]⟩

theorem retrainEnds_regsOnly (r : Nat) : s.regsOnly (retrainEnds c r s)
    [(chanDie c, DDR_CMDSTAT_op (c % 4)), (chanDie c, DDR_CMDSTAT_reason (c % 4))] :=
  ⟨((State.onlyFields_refl s _).setCf 1).setCf r, by simp [retrainEnds, State.setCf]⟩

theorem retrainStarts_onlyFields (g : Nat) : s.onlyFields (retrainStarts c g s)
    [(chanDie c, DDR_CMDSTAT_op (c % 4)), (chanDie c, DDR_CMDSTAT_reason (c % 4)), (chanDie c, DDR_CMDSTAT_busy (c % 4)),
      (chanDie c, DDR_STAT_state (c % 4))] :=
  ((((State.onlyFields_refl s _).setCf 1).setCf 1).setCf 0).beginTraining g false

theorem retrainStarts_chanOnly (g : Nat) : State.chanOnly c s (retrainStarts c g s) :=
  (((State.chanOnly_setCf s c DDR_CMDSTAT_op 1).setCf 1).setCf 0).trans (beginTraining_chanOnly ..)

end Retrain

/-- A first ALERT#, or one more than 1 ms after the last. -/
theorem ddrAlert_first {s : State} {c : Nat} (hstate : s.ddrState c = 2)
    (hfirst : ∀ n, (s.ddrChan c).alert = some n → n + 1600000 < s.time.count) :
    ddrAlert c s = s.setDdrChan c { s.ddrChan c with alert := some s.time.count } := by
  cases halert : (s.ddrChan c).alert with
  | none => simp [ddrAlert, hstate, halert]
  | some n => simp [ddrAlert, hstate, halert, Nat.not_le.mpr (hfirst n halert)]

/-- A second ALERT# within 1 ms. -/
theorem ddrAlert_second {s : State} {c n : Nat} (hstate : s.ddrState c = 2) (halert : (s.ddrChan c).alert = some n)
    (hsecond : s.time.count ≤ n + 1600000) :
    ddrAlert c s = beginTraining c (s.retrainGrade c) false (s.setDdrChan c { s.ddrChan c with alert := none }) := by
  simp [ddrAlert, hstate, halert, hsecond]

/-! ### Training (R340 to R343) -/

/-- The SPD that training reads shows in the channel's page, and decides its grade (R340, R341). -/
def identified (c : Nat) (y : Spd) (s : State) : State :=
  (s.setDdrChan c { s.ddrChan c with spd := some y, grade := spdGrade (s.ddrChan c).grade y }).setFs (chanDie c)
    [(DDR_STAT_dimms (c % 4), y.dimms.val), (DDR_STAT_ranks (c % 4), y.dimms.val * y.ranks.val), (DDR_STAT_width (c % 4), y.x8.toNat),
      (DDR_STAT_density (c % 4), y.density.val), (DDR_STAT_capacity (c % 4), y.capacity)]

/-- A training that ends well, at a grade (R343); the first one of a start shows the resources of the DIMMs. -/
def trained (c : Nat) (avail : Word) (s11 : Bool) (g : Nat) (s : State) : State :=
  let s := s.when s11 fun s => s.setCf c DDR_PPR_AVAIL_avail avail.toNat
  let s := s.setDdrChan c { s.ddrChan c with ppr := none, s11 := false }
  let s := s.when (!s11) fun s => s.cevt c DDR_EVT_retrain_done
  ((ddrCmdEnds c 0 s).setCf c DDR_STAT_state 2).setCf c DDR_STAT_grade g

section Training
variable {s : State} {c : Nat} {y : Spd}

theorem trainingDone_absent (hstate : s.ddrState c = 1) (hspd : (s.ddrChan c).spd = none) (ok : Bool) :
    trainingDone c none ok s = (s.setDdrChan c {}).setCf c DDR_STAT_state 0 := by
  simp [trainingDone, hstate, hspd]

/-- The first training of a channel ends by its SPD. -/
theorem trainingDone_fitted (hstate : s.ddrState c = 1) (hspd : (s.ddrChan c).spd = none) (hdimms : y.dimms ≠ 0) (ok : Bool) :
    trainingDone c (some y) ok s = if !y.supported then trainFails c 2 (identified c y s)
      else if !ok then trainFails c 4 (identified c y s)
      else trained c y.avail (s.ddrChan c).s11 (spdGrade (s.ddrChan c).grade y) (identified c y s) := by
  unfold trainingDone
  rw [if_neg (by simp [hstate])]
  simp only [hspd, Option.isSome_none, Bool.false_eq_true, if_false, hdimms, Option.isNone_none, and_true]
  rfl

/-- The stores of the SPD, one by one. -/
theorem identified_eq : identified c y s =
    (((((s.setDdrChan c { s.ddrChan c with spd := some y, grade := spdGrade (s.ddrChan c).grade y }).setCf c DDR_STAT_dimms y.dimms.val).setCf
      c DDR_STAT_ranks (y.dimms.val * y.ranks.val)).setCf c DDR_STAT_width y.x8.toNat).setCf c DDR_STAT_density y.density.val).setCf
      c DDR_STAT_capacity y.capacity := by
  simp only [identified, State.setFs_cons, State.setFs_nil, State.setCf]

/-- The DIMMs hold at most 256 GiB. -/
theorem Spd.capacity_lt (y : Spd) : y.capacity < 512 := by
  have hdimms : y.dimms.val * y.ranks.val ≤ 2 * 2 := Nat.mul_le_mul (by omega) (by omega)
  have hrank : y.rankGib ≤ 16 * 4 := Nat.mul_le_mul (by split <;> omega) (by omega)
  have hcapacity : y.capacity ≤ 2 * 2 * (16 * 4) := Nat.mul_le_mul hdimms hrank
  omega

theorem identified_shows : (identified c y s).cf c DDR_STAT_dimms = y.dimms.val ∧ (identified c y s).cf c DDR_STAT_capacity = y.capacity := by
  have hdimms : y.dimms.val % 4 = y.dimms.val := by omega
  have hcapacity : y.capacity % 512 = y.capacity := Nat.mod_eq_of_lt y.capacity_lt
  rw [identified_eq]
  simp (disch := decide) [State.cf_setCf_same, State.cf_setCf_apart, hdimms, hcapacity]

theorem identified_ppr : ((identified c y s).ddrChan c).ppr = (s.ddrChan c).ppr := by simp [identified_eq]

/-- A training that fails where no row is under repair. -/
theorem trainFails_plain (hppr : (s.ddrChan c).ppr = none) (r : Nat) : trainFails c r s =
    (((ddrCmdEnds c r (s.setDdrChan c { s.ddrChan c with ppr := none, s11 := false })).setCf c DDR_EVT_train_fail 1).setCf
      c DDR_STAT_state 4).setCf c DDR_STAT_grade 0 := by
  simp [trainFails, hppr, State.cevt_eq]

/-- How a training ends: what the registers show of the state, the grade and the running command, and that the organization stays. -/
structure TrainingEnds (c st g r : Nat) (s t : State) : Prop where
  state : t.ddrState c = st
  grade : t.cf c DDR_STAT_grade = g
  reason : t.cf c DDR_CMDSTAT_reason = r
  busy : t.cf c DDR_CMDSTAT_busy = 0
  dimms : t.cf c DDR_STAT_dimms = s.cf c DDR_STAT_dimms
  capacity : t.cf c DDR_STAT_capacity = s.cf c DDR_STAT_capacity

theorem trainFails_ends (hppr : (s.ddrChan c).ppr = none) {r : Nat} (hr : r < 16) :
    TrainingEnds c 4 0 r s (trainFails c r s) ∧ (trainFails c r s).cf c DDR_EVT_train_fail = 1 := by
  rw [trainFails_plain hppr]
  constructor
  · constructor <;>
      simp (disch := decide) [State.ddrState, ddrCmdEnds, State.cf_setCf_same, State.cf_setCf_apart, Nat.mod_eq_of_lt hr]
  · simp (disch := decide) [State.cf_setCf_same, State.cf_setCf_apart]

theorem trained_ends (avail : Word) (s11 : Bool) {g : Nat} (hg : g < 8) : TrainingEnds c 2 g 0 s (trained c avail s11 g s) := by
  cases s11 with
  | true | false => constructor <;>
    simp (disch := decide) [trained, State.ddrState, ddrCmdEnds, State.cevt_eq, State.cf_setCf_same, State.cf_setCf_apart, Nat.mod_eq_of_lt hg]

theorem identified_chanOnly : State.chanOnly c s (identified c y s) := by
  rw [identified_eq]
  exact (((((State.chanOnly_setDdrChan ..).setCf _).setCf _).setCf _).setCf _).setCf _

theorem ddrCmdEnds_chanOnly (r : Nat) (s : State) : State.chanOnly c s (ddrCmdEnds c r s) := (State.chanOnly_setCf ..).setCf _

theorem trainFails_chanOnly (hppr : (s.ddrChan c).ppr = none) (r : Nat) : State.chanOnly c s (trainFails c r s) := by
  rw [trainFails_plain hppr]
  exact ((((State.chanOnly_setDdrChan ..).trans (ddrCmdEnds_chanOnly ..)).setCf _).setCf _).setCf _

theorem trained_chanOnly (avail : Word) (s11 : Bool) (g : Nat) : State.chanOnly c s (trained c avail s11 g s) := by
  have havail := State.chanOnly_when s s11 (f := fun u => u.setCf c DDR_PPR_AVAIL_avail avail.toNat) (State.chanOnly_setCf ..)
  have hevent (u : State) := State.chanOnly_when u (!s11) (f := fun u => u.cevt c DDR_EVT_retrain_done) (State.chanOnly_setCf ..)
  exact ((((havail.setDdrChan _).trans (hevent _)).trans (ddrCmdEnds_chanOnly ..)).setCf _).setCf _

/-- How the first training of a channel ends (R341, R343): READY at the grade, or FAILED with the reason. -/
theorem trainingDone_ends (hstate : s.ddrState c = 1) (hspd : (s.ddrChan c).spd = none) (hppr : (s.ddrChan c).ppr = none)
    (hdimms : y.dimms ≠ 0) (ok : Bool) {g r : Nat} (hg : g = spdGrade (s.ddrChan c).grade y) (hg8 : g < 8)
    (hr : r = if y.supported = false then 2 else if ok = false then 4 else 0) :
    TrainingEnds c (if r = 0 then 2 else 4) (if r = 0 then g else 0) r (identified c y s) (trainingDone c (some y) ok s) ∧
    (r ≠ 0 → (trainingDone c (some y) ok s).cf c DDR_EVT_train_fail = 1) ∧ State.chanOnly c s (trainingDone c (some y) ok s) := by
  have hppr' := (identified_ppr (y := y)).trans hppr
  rw [trainingDone_fitted hstate hspd hdimms ok]
  cases hsupported : y.supported with
  | false =>
    obtain rfl : r = 2 := by simpa [hsupported] using hr
    obtain ⟨hends, hevent⟩ := trainFails_ends hppr' (r := 2) (by decide)
    exact ⟨hends, fun _ => hevent, identified_chanOnly.trans (trainFails_chanOnly hppr' 2)⟩
  | true =>
    cases ok with
    | false =>
      obtain rfl : r = 4 := by simpa [hsupported] using hr
      obtain ⟨hends, hevent⟩ := trainFails_ends hppr' (r := 4) (by decide)
      exact ⟨hends, fun _ => hevent, identified_chanOnly.trans (trainFails_chanOnly hppr' 4)⟩
    | true =>
      obtain rfl : r = 0 := by simpa [hsupported] using hr
      rw [← hg]
      exact ⟨trained_ends _ _ hg8, fun h => absurd rfl h, identified_chanOnly.trans (trained_chanOnly _ _ g)⟩

end Training

end Sys2Proof.Machine
end

section
/-! SUPPORT. Requests at a DDR5 channel that no protected range covers (11): the channel's state, a plain line, and a line with an uncorrectable
error (R344, R352, R353). -/

namespace Sys2Proof.Machine

/-! ### Answers -/

/-- An answer other than a failure puts out its packet and is noted at the interfaces and in the statistics. -/
theorem answered_emit (h : Hdr) (a : Answered) (o : Out) (s : State) :
    ((answered h a s).emit o).out = s.out ++ [o] ∧ ((answered h a s).emit o).regs = s.regs ∧ s.meshFrame ((answered h a s).emit o) := by
  have hmesh := answered_meshOnly h a s
  refine ⟨?_, ?_, State.meshFrame_rest (State.meshOnly_frame hmesh) (State.emit_rest ..)⟩
  · rw [State.emit_out, State.meshOnly_out hmesh]
  · rw [State.emit_regs, State.meshOnly_regs hmesh]

/-- What a request leaves alone at its target leaves the channels. -/
theorem State.meshFrame_ddr {s t : State} (h : s.meshFrame t) : t.ddr = s.ddr := (congrArg State.ddr h :)

/-- The lines of flits. -/
theorem mkFlits_lines (l : List Line) (i : Nat) : (mkFlits l i).map (fun y => y.line) = l := by
  induction l generalizing i with
  | nil => rfl
  | cons x l ih => rw [mkFlits, List.map_cons, ih, mkFlit]

/-- A line has a flit. -/
theorem mkFlits_length (l : List Line) (i : Nat) : (mkFlits l i).length = l.length := by
  rw [← List.length_map, mkFlits_lines]

/-! ### The place of a request -/

/-- The ranges in effect lie in a page of their own. -/
theorem State.rangeAt_congr {s t : State} {l : List (Nat × Nat)} (hpages : s.onlyPages t l) (hl : (0, 0x18) ∉ l) (a : Nat) :
    t.rangeAt a = s.rangeAt a := by
  refine List.find?_congr fun r hr => ?_
  have hr16 : r < 16 := by
    simp only [allRanges, List.mem_cons, List.not_mem_nil, or_false] at hr
    omega
  have hpage (x : Fld) (hx : x.reg / 0x10000 = 0x18) : t.f 0 x = s.f 0 x :=
    State.f_onlyPages hpages (by omega) (by rwa [hx])
  have hstate := hpage (MIU_R_STAT_state r) (by simp only [MIU_R_STAT]; omega)
  have hbase := hpage (MIU_R_BASE_base r) (by simp only [MIU_R_BASE]; omega)
  have hsize := hpage (MIU_R_SIZE_size r) (by simp only [MIU_R_SIZE]; omega)
  rw [State.rangeState, State.rangeState, State.rangeBase, State.rangeBase, State.rangeSize, State.rangeSize, hstate, hbase, hsize]

/-- The longest service of the channel is noted (R350). -/
def serviceNoted (c svc : Nat) (s : State) : State := s.largest (chanDie c) (DDR_SVC_MAX_value (c % 4)) svc

section Noted
variable {s : State} {c : Nat} (svc : Nat)

theorem serviceNoted_eq : serviceNoted c svc s =
    s.setCf c DDR_SVC_MAX_value (min (max (s.cf c DDR_SVC_MAX_value) svc) (2 ^ (DDR_SVC_MAX_value (c % 4)).len - 1)) := rfl

theorem serviceNoted_chanOnly : State.chanOnly c s (serviceNoted c svc s) := by
  rw [serviceNoted_eq]
  exact State.chanOnly_setCf s c DDR_SVC_MAX_value _

theorem serviceNoted_ddr : (serviceNoted c svc s).ddr = s.ddr := State.largest_ddr ..

/-- What noting the longest service leaves; the state after it stands as a variable, so that what is served from it stays small. -/
theorem serviceNoted_leaves {t : State} (ht : t = serviceNoted c svc s) :
    t.out = s.out ∧ t.ddr = s.ddr ∧ s.meshFrame t ∧ s.onlyFields t [(chanDie c, DDR_SVC_MAX_value (c % 4))] := by
  have honly : s.onlyFields (serviceNoted c svc s) [(chanDie c, DDR_SVC_MAX_value (c % 4))] := by
    rw [serviceNoted_eq]
    exact (State.onlyFields_refl s _).setCf _
  subst ht
  exact ⟨State.largest_out .., State.largest_ddr .., State.meshFrame_rest (t := s) rfl (State.largest_rest ..), honly⟩

end Noted

section Serve
variable {s : State} {c : Nat} {h : Hdr} {lines : List Line} {x : DramIn}

/-- Outside every protected range a request is served plain (R363). -/
theorem miuTake_plain {l0 : Nat} (hlocal : s.localLine c h.addr = some l0) (hrange : s.rangeAt h.addr = none) :
    miuTake c h lines x s = servePlain c l0 h lines x s := by
  unfold miuTake
  simp only [hlocal, hrange]

variable (hlive : s.live (chanDie c) = true)
include hlive

/-- A channel that is not READY answers by its state (R344, R360). -/
theorem dramServe_unready (hstate : s.ddrState c ≠ 2) : dramServe c h lines x s =
    if s.ddrState c = 1 ∨ s.ddrState c = 3 then answerRetry h s else answerError h 3 s := by
  simp [dramServe, hlive, hstate]

/-- Outside every protected range a READY channel serves a request plain (R352, R363). -/
theorem dramServe_plain (hstate : s.ddrState c = 2) {a : Nat} (hdecode : dramDecode s.ddr.sets h.addr = some (c, a))
    (hrange : s.rangeAt h.addr = none) : dramServe c h lines x s = servePlain c (a / 64) h lines x (serviceNoted c x.svc s) := by
  have hlocal : (serviceNoted c x.svc s).localLine c h.addr = some (a / 64) := by
    simp only [State.localLine, serviceNoted_ddr, hdecode, if_true]
  have hout : (0, 0x18) ∉ [(chanDie c, 0x10 + c % 4)] := by
    simp only [List.mem_singleton, Prod.mk.injEq, not_and]
    omega
  have hrange' : (serviceNoted c x.svc s).rangeAt h.addr = none :=
    (State.rangeAt_congr (serviceNoted_chanOnly x.svc).pages hout _).trans hrange
  have htake : dramServe c h lines x s = miuTake c h lines x (serviceNoted c x.svc s) := by
    simp [dramServe, hlive, hstate, serviceNoted]
  rw [htake, miuTake_plain hlocal hrange']

end Serve

/-! ### Plain lines (R352) -/

section Lines
variable {s t : State} (c l : Nat)

theorem State.dramLine_congr (h : t.ddr = s.ddr) : t.dramLine c l = s.dramLine c l := by rw [State.dramLine, State.dramLine, h]

/-- A line that is written reads back. -/
theorem writeLine_dramLine (v : BitVec 512) : (writeLine c l v s).dramLine c l = { data := v, known := true } := KMap.lookD_putD_same ..

theorem writeLine_ddrFrame (v : BitVec 512) : s.ddrFrame (writeLine c l v s) := rfl

end Lines

section Plain
variable {s : State} {c l0 : Nat} {h : Hdr} {x : DramIn}

/-- A full line is stored and acknowledged. -/
theorem servePlain_write (hop : h.opcode = 1) (v : BitVec 512) :
    servePlain c l0 h [⟨BitVec.allOnes 64, v⟩] x s = answerAck h (writeLine c l0 v s) := by
  simp [servePlain, serveLines, hop, writeEach, putLine, Line.full]

/-- One line is read, and answered by its status. -/
theorem servePlain_read {lines : List Line} (hop : h.opcode = 0) (hone : h.readLines = 1) {t : State} {st : Nat} {v : BitVec 512}
    (hread : readLine c l0 1 (x.line 0).err s = (t, st, v)) :
    servePlain c l0 h lines x s = if st = 0 then answerData h (h.dataLines v.toNat) t else answerError h st t := by
  simp only [servePlain, serveLines, hop, hone, readEach, Nat.add_zero, hread, Nat.mul_zero]
  by_cases hst : st = 0 <;> simp only [hst, zero_ne_one, if_false, if_true, ne_eq, not_true_eq_false, not_false_eq_true]

/-- A written line without an error reads as it was stored. -/
theorem readLine_clean {l kind : Nat} {err : DimmErr} (hknown : (s.dramLine c l).known = true) (hgood : (s.dramLine c l).bad = false)
    (herr : err = .none) : readLine c l kind err s = (s, 0, (s.dramLine c l).data) := by
  simp [readLine, hknown, hgood, herr]

/-- A line with an uncorrectable error is reported and has no data. -/
theorem readLine_bad {l kind : Nat} {err : DimmErr} (hbad : (s.dramLine c l).bad = true) :
    readLine c l kind err s = (dramReport c kind l 0xF 0x3F s, 6, 0) := by
  simp [readLine, hbad]

end Plain

section Served
variable {s : State} {c l svc : Nat} {h : Hdr}

/-- What a served write leaves. -/
theorem answerAck_written {t : State} (v : BitVec 512) (ht : t = serviceNoted c svc s) :
    (answerAck h (writeLine c l v t)).out = s.out ++ [.packet (h.answer 3 0 0) []] ∧
    (answerAck h (writeLine c l v t)).ddr.line =
      KMap.putD s.ddr.line (lineKey c l) { data := v, known := true } (fillDefault s.ddr.fill c l) ∧
    (answerAck h (writeLine c l v t)).dramLine c l = { data := v, known := true } ∧
    s.onlyFields (answerAck h (writeLine c l v t)) [(chanDie c, DDR_SVC_MAX_value (c % 4))] ∧
    s.dramFrame (answerAck h (writeLine c l v t)) := by
  obtain ⟨hout, hddr, hframe, honly⟩ := serviceNoted_leaves _ ht
  obtain ⟨hanswer, hregs, hmesh⟩ := answered_emit h .ok (.packet (h.answer 3 0 0) []) (writeLine c l v t)
  refine ⟨?_, ?_, ?_, State.onlyFields_regs honly hregs, ?_⟩
  · rw [answerAck, hanswer, ← hout]
    rfl
  · rw [answerAck, State.meshFrame_ddr hmesh, ← hddr]
    rfl
  · exact (State.dramLine_congr _ _ (State.meshFrame_ddr hmesh)).trans (writeLine_dramLine ..)
  · exact State.dramFrame_trans (State.dramFrame_trans hframe.dramFrame (writeLine_ddrFrame c l v).dramFrame) hmesh.dramFrame

/-- What a served read leaves. -/
theorem answerData_read {t : State} (lines : List Line) (ht : t = serviceNoted c svc s) :
    (answerData h lines t).out = s.out ++ [.packet (h.answer 2 0 lines.length) (mkFlits lines)] ∧ (answerData h lines t).ddr = s.ddr ∧
    s.onlyFields (answerData h lines t) [(chanDie c, DDR_SVC_MAX_value (c % 4))] ∧ s.meshFrame (answerData h lines t) := by
  obtain ⟨hout, hddr, hframe, honly⟩ := serviceNoted_leaves _ ht
  obtain ⟨hanswer, hregs, hmesh⟩ := answered_emit h .ok (.packet (h.answer 2 0 lines.length) (mkFlits lines)) t
  refine ⟨?_, (State.meshFrame_ddr hmesh).trans hddr, State.onlyFields_regs honly hregs, State.meshFrame_trans hframe hmesh⟩
  rw [answerData, hanswer, hout]

end Served

/-! ### Uncorrectable errors (R353) -/

theorem errReport_contained_out (d src region detail : Nat) (s : State) : (errReport d src .contained region detail s).out = s.out := by
  obtain he | he | he := errReport_contained d src region detail s <;> simp [he, State.containedNoted]

/-- Count in a counter of a channel's page. -/
def State.incCf (s : State) (c : Nat) (x : Nat → Fld) (n : Nat) : State := s.setCf c x (min (s.cf c x + n) (2 ^ (x (c % 4)).len - 1))

/-- A record joins the channel's record FIFO, or counts as dropped where 32 wait. -/
def recorded (c : Nat) (r : DdrRec) (s : State) : State :=
  if 32 ≤ (KMap.look s.ddr.fifo c).length then
    (s.incCf c DDR_FIFO_STAT_dropped 1).setCf c DDR_EVT_dropped 1
  else { s with ddr := { s.ddr with fifo := KMap.put s.ddr.fifo c (KMap.look s.ddr.fifo c ++ [r]) } }

section Recorded
variable (s : State) (c : Nat) (r : DdrRec)

theorem recorded_fifo : KMap.look (recorded c r s).ddr.fifo c =
    KMap.look s.ddr.fifo c ++ (if (KMap.look s.ddr.fifo c).length < 32 then [r] else []) := by
  by_cases hfull : 32 ≤ (KMap.look s.ddr.fifo c).length
  · simp [recorded, hfull, Nat.not_lt.mpr hfull, State.incCf]
  · rw [recorded, if_neg hfull, if_pos (by omega)]
    exact KMap.look_put_same ..

/-- A record changes, beside registers, the record FIFOs alone. -/
theorem recorded_rest : (recorded c r s).rest = { s.rest with ddr := { s.ddr with fifo := (recorded c r s).ddr.fifo } } := by
  unfold recorded
  split
  · rw [State.setCf_ddr, State.incCf, State.setCf_ddr, State.setCf, State.setF_rest, State.setCf, State.setF_rest]
    rfl
  · rfl

theorem recorded_out : (recorded c r s).out = s.out := by
  unfold recorded
  split
  · simp only [State.incCf, State.setCf, State.setF_out]
  · rfl

theorem recorded_ue : (recorded c r s).cf c DDR_EVT_ue = s.cf c DDR_EVT_ue := by
  unfold recorded
  split
  · rw [State.cf_setCf_apart _ (by decide), State.incCf, State.cf_setCf_apart _ (by decide)]
  · exact State.f_congr rfl ..

theorem recorded_pages : s.onlyPages (recorded c r s) [(chanDie c, 0x10 + c % 4)] := by
  unfold recorded
  split
  · exact (State.chanOnly_setCf s c DDR_FIFO_STAT_dropped _).pages.setCf 1
  · exact State.onlyPages_regs (State.onlyPages_refl s _) rfl

end Recorded

section Ue
variable (s : State) (c l device pin : Nat)

/-- An uncorrectable error is counted and sets its event; then it is recorded, and reported as contained. -/
def ueCounted : State := (s.incCf c DDR_UE_CNT_value 1).setCf c DDR_EVT_ue 1

theorem dramReport_ue : dramReport c 1 l device pin s =
    errReport (chanDie c) 8 .contained 0x1F 0 (recorded c ⟨1, l, device, pin, s.tick32⟩ (ueCounted s c)) := by
  have hcounted : (s.inc (chanDie c) (DDR_UE_CNT_value (c % 4)) 1).setF (chanDie c) ⟨DDR_EVT (c % 4), 1, 1⟩ 1 = ueCounted s c := rfl
  have htick : (ueCounted s c).tick32 = s.tick32 := by simp [State.tick32, ueCounted, State.incCf, State.setCf]
  unfold dramReport
  simp only [one_ne_zero, if_false]
  rw [hcounted, htick]
  generalize ueCounted s c = u
  rfl

theorem ueCounted_chanOnly : State.chanOnly c s (ueCounted s c) := (State.chanOnly_setCf s c DDR_UE_CNT_value _).setCf 1

theorem dramReport_ue_event : (dramReport c 1 l device pin s).cf c DDR_EVT_ue = 1 := by
  have hreg : (DDR_EVT_ue (c % 4)).reg = 0x100004 + c % 4 * 0x10000 := rfl
  rw [dramReport_ue, State.cf, State.f_onlyPages (errReport_onlyPages _ _ _ _ _) (by omega) (by rw [hreg]; simp; omega)]
  exact (recorded_ue ..).trans (State.cf_setCf_same 1 (by decide))

/-- What is recorded of it stays beside the report. -/
theorem dramReport_ue_ddr : (dramReport c 1 l device pin s).ddr = (recorded c ⟨1, l, device, pin, s.tick32⟩ (ueCounted s c)).ddr := by
  rw [dramReport_ue]
  exact (congrArg State.ddr (errReport_rest ..) :)

/-- The record names the line, and the tick of the error. -/
theorem dramReport_ue_fifo : KMap.look (dramReport c 1 l device pin s).ddr.fifo c = KMap.look s.ddr.fifo c ++
    (if (KMap.look s.ddr.fifo c).length < 32 then [⟨1, l, device, pin, s.tick32⟩] else []) := by
  have hddr : (ueCounted s c).ddr = s.ddr := by rw [ueCounted, State.setCf_ddr, State.incCf, State.setCf_ddr]
  rw [dramReport_ue_ddr, recorded_fifo, hddr]

theorem dramReport_ue_rest : (dramReport c 1 l device pin s).rest =
    { s.rest with ddr := { s.ddr with fifo := (dramReport c 1 l device pin s).ddr.fifo } } := by
  have hddr : (ueCounted s c).ddr = s.ddr := by rw [ueCounted, State.setCf_ddr, State.incCf, State.setCf_ddr]
  rw [dramReport_ue_ddr, dramReport_ue, errReport_rest, recorded_rest, hddr, ueCounted, State.setCf, State.setF_rest, State.incCf, State.setCf,
    State.setF_rest]

theorem dramReport_ue_pages : s.onlyPages (dramReport c 1 l device pin s) [(chanDie c, 0x10 + c % 4), (chanDie c, 0x70), (0, 0x70)] := by
  have hrecorded := State.onlyPages_trans (ueCounted_chanOnly s c).pages (recorded_pages (ueCounted s c) c ⟨1, l, device, pin, s.tick32⟩)
  rw [dramReport_ue]
  exact State.onlyPages_trans (State.onlyPages_mono hrecorded (by simp)) (State.onlyPages_mono (errReport_onlyPages _ _ _ _ _) (by simp))

theorem dramReport_ue_out : (dramReport c 1 l device pin s).out = s.out := by
  have hcounted : (ueCounted s c).out = s.out := by simp only [ueCounted, State.incCf, State.setCf, State.setF_out]
  rw [dramReport_ue, errReport_contained_out, recorded_out, hcounted]

/-- What a read of a line with an uncorrectable error leaves. -/
theorem answerError_ue {h : Hdr} {svc : Nat} {t u : State} (ht : t = serviceNoted c svc s)
    (hu : u = answerError h 6 (dramReport c 1 l device pin t)) :
    u.out = s.out ++ [.packet (h.answer 4 6 0) []] ∧ u.cf c DDR_EVT_ue = 1 ∧ u.ddr = { s.ddr with fifo := u.ddr.fifo } ∧
    KMap.look u.ddr.fifo c = KMap.look s.ddr.fifo c ++
      (if (KMap.look s.ddr.fifo c).length < 32 then [⟨1, l, device, pin, s.tick32⟩] else []) ∧
    s.onlyPages u [(chanDie c, 0x10 + c % 4), (chanDie c, 0x70), (0, 0x70)] ∧ s.dramFrame u := by
  obtain ⟨hout, hddr, hframe, -⟩ := serviceNoted_leaves _ ht
  have hmesh := answerError_meshFrame h 6 (dramReport c 1 l device pin t)
  have hregs := answerError_regs (status := 6) (by decide) h (dramReport c 1 l device pin t)
  have hrest := dramReport_ue_rest t c l device pin
  have hfifo := dramReport_ue_fifo t c l device pin
  have htick : t.tick32 = s.tick32 := congrArg (· % 0x100000000) (congrArg (fun x : State => x.time.num) hframe :)
  rw [← hu] at hmesh hregs
  have hreport : t.ddrFrame (dramReport c 1 l device pin t) := by
    have hfifos : (dramReport c 1 l device pin t).ddr = { t.ddr with fifo := (dramReport c 1 l device pin t).ddr.fifo } :=
      (congrArg State.ddr hrest :)
    exact hrest.trans (congrArg (fun d => { t.rest with ddr := d }) hfifos.symm)
  have hpages : s.onlyPages t [(chanDie c, 0x10 + c % 4)] := ht ▸ (serviceNoted_chanOnly svc).pages
  refine ⟨?_, ?_, ?_, ?_, ?_, ?_⟩
  · rw [hu, answerError_out, dramReport_ue_out, hout]
  · exact (State.f_congr hregs ..).trans (dramReport_ue_event ..)
  · rw [State.meshFrame_ddr hmesh, ← hddr]
    exact (congrArg State.ddr hrest :)
  · rw [State.meshFrame_ddr hmesh, hfifo, hddr, htick]
  · exact State.onlyPages_regs (State.onlyPages_trans (State.onlyPages_mono hpages (by simp)) (dramReport_ue_pages t c l device pin)) hregs
  · exact State.dramFrame_trans (State.dramFrame_trans hframe.dramFrame hreport.dramFrame) hmesh.dramFrame

end Ue

end Sys2Proof.Machine
end

section
/-! SUPPORT. Refreshes, temperatures, interleave sets, records and row repair of the DDR5 channels (R346 to R362). -/

namespace Sys2Proof.Machine

/-! ### Refreshes (R354, R355) -/

section Refresh
variable {s : State} (hrefreshes : s.refreshes = true)
include hrefreshes

theorem refreshPoint_quiet (hquiet : s.f 0 DDR_REF_STAT_quiet ≠ 0) :
    refreshPoint s = { s with ddr := { s.ddr with owed := s.ddr.owed + 1 } } := by
  simp [refreshPoint, hrefreshes, State.on, hquiet]

theorem refreshPoint_fixed (hquiet : s.f 0 DDR_REF_STAT_quiet = 0) : refreshPoint s = s.inc 0 DDR_REF_CNT_value 1 := by
  simp [refreshPoint, hrefreshes, State.on, hquiet, issueRefresh]

end Refresh

theorem inc_refreshes_regsOnly (s : State) : s.regsOnly (s.inc 0 DDR_REF_CNT_value 1) [(0, DDR_REF_CNT_value)] :=
  State.regsOnly_setF (State.regsOnly_refl s _) 0 DDR_REF_CNT_value _ rfl (by simp)

/-! ### Temperatures (R357) -/

/-- The first DIMM's reading stands, and sets the events of its height. -/
def firstReading (c : Nat) (v : Byte) (s : State) : State :=
  let s := s.setDdrChan c { s.ddrChan c with temp := (s.ddrChan c).temp.set 0 v.toNat, fails := (s.ddrChan c).fails.set 0 0 }
  let s := s.setCf c DDR_TEMP_t0 v.toNat
  let s := s.when (decide (85 < v.toNat)) fun s => s.setCf c DDR_EVT_hot 1
  s.when (decide (95 < v.toNat)) fun s => s.setCf c DDR_EVT_overheat 1

section Reading
variable {s : State} {c : Nat} (v : Byte)

theorem dimmReading_first {y : Spd} (hspd : (s.ddrChan c).spd = some y) (hdimms : y.dimms ≠ 0) :
    dimmReading c 0 (some v) s = firstReading c v s := by
  have hfitted : ¬ y.dimms.val ≤ 0 := by
    rw [Nat.le_zero]
    exact fun h => hdimms (Fin.ext h)
  unfold dimmReading firstReading
  simp only [hspd, hfitted, if_false, if_true, State.cevt_eq]

theorem firstReading_t0 : (firstReading c v s).cf c DDR_TEMP_t0 = v.toNat := by
  have hv : v.toNat % 256 = v.toNat := Nat.mod_eq_of_lt v.isLt
  by_cases hhot : 85 < v.toNat <;> by_cases hover : 95 < v.toNat <;>
    simp (disch := decide) [firstReading, hhot, hover, State.cf_setCf_same, State.cf_setCf_apart, hv]

theorem firstReading_hot (hhot : 85 < v.toNat) : (firstReading c v s).cf c DDR_EVT_hot = 1 := by
  by_cases hover : 95 < v.toNat <;> simp (disch := decide) [firstReading, hhot, hover, State.cf_setCf_same, State.cf_setCf_apart]

theorem firstReading_overheat (hover : 95 < v.toNat) : (firstReading c v s).cf c DDR_EVT_overheat = 1 := by
  simp (disch := decide) [firstReading, hover, State.cf_setCf_same]

theorem firstReading_ddrChan : (firstReading c v s).ddrChan c =
    { s.ddrChan c with temp := (s.ddrChan c).temp.set 0 v.toNat, fails := (s.ddrChan c).fails.set 0 0 } := by
  by_cases hhot : 85 < v.toNat <;> by_cases hover : 95 < v.toNat <;> simp [firstReading, hhot, hover]

theorem firstReading_chanOnly : State.chanOnly c s (firstReading c v s) := by
  have hevent (u : State) (x : Nat → Fld) (b : Bool)
      (hx : ∀ k < 4, (x k).reg < 0x1000000 ∧ (x k).reg / 0x10000 = 0x10 + k) : State.chanOnly c u (u.when b fun s => s.setCf c x 1) :=
    State.chanOnly_when u b (f := fun s => s.setCf c x 1) (State.chanOnly_setCf u c x 1 hx)
  exact (((State.chanOnly_setDdrChan ..).setCf _).trans (hevent _ _ _ (by decide))).trans (hevent _ _ _ (by decide))

theorem State.onlyFields_when {s t : State} {l : List (Nat × Fld)} (b : Bool) {f : State → State} (h : s.onlyFields t l)
    (hf : s.onlyFields (f t) l) : s.onlyFields (t.when b f) l := by
  cases b with
  | true => exact hf
  | false => exact h

theorem firstReading_onlyFields : s.onlyFields (firstReading c v s)
    [(chanDie c, DDR_TEMP_t0 (c % 4)), (chanDie c, DDR_EVT_hot (c % 4)), (chanDie c, DDR_EVT_overheat (c % 4)), (0, DDR_REF_STAT_stale)] := by
  refine State.onlyFields_when _ ?hot (State.onlyFields.setCf 1 ?hot)
  case hot =>
    have ht0 := (State.onlyFields_of_regs (s := s) (t := s.setDdrChan c { s.ddrChan c with
      temp := (s.ddrChan c).temp.set 0 v.toNat, fails := (s.ddrChan c).fails.set 0 0 })
      (l := [(chanDie c, DDR_TEMP_t0 (c % 4)), (chanDie c, DDR_EVT_hot (c % 4)), (chanDie c, DDR_EVT_overheat (c % 4)), (0, DDR_REF_STAT_stale)])
      rfl).setCf (c := c) (x := DDR_TEMP_t0) v.toNat
    exact State.onlyFields_when _ ht0 (ht0.setCf 1)

/-- A failed read of the second DIMM leaves the first one's reading. -/
theorem dimmReading_failed (s : State) (c : Nat) : dimmReading c 1 none s = s ∨
    ∃ z, z.temp[0]? = (s.ddrChan c).temp[0]? ∧ dimmReading c 1 none s = s.setDdrChan c z := by
  unfold dimmReading
  dsimp only
  split_ifs with habsent hfails
  · exact .inl rfl
  · refine .inr ⟨_, ?_, rfl⟩
    simp
  · refine .inr ⟨_, ?_, rfl⟩
    rfl

theorem dimmReading_failed_chanOnly (s : State) (c : Nat) : State.chanOnly c s (dimmReading c 1 none s) := by
  obtain he | ⟨z, -, he⟩ := dimmReading_failed s c <;> rw [he]
  · exact .refl s
  · exact State.chanOnly_setDdrChan s c z

theorem dimmReading_failed_regs (s : State) (c : Nat) : (dimmReading c 1 none s).regs = s.regs := by
  obtain he | ⟨z, -, he⟩ := dimmReading_failed s c <;> rw [he]
  rfl

theorem dimmReading_failed_first (s : State) (c : Nat) :
    ((dimmReading c 1 none s).ddrChan c).temp[0]? = (s.ddrChan c).temp[0]? := by
  obtain he | ⟨z, hz, he⟩ := dimmReading_failed s c <;> rw [he]
  rw [State.setDdrChan_ddrChan, hz]

end Reading

/-- IOS decides the hot state on the readings that stand; a change waits for its boundary. -/
def hotDecided (s : State) : State :=
  let last := match s.ddr.hotAt.getLast? with | some (_, b) => b | none => s.hot
  let d := s.hotDecision last
  if d = last then s else { s with ddr := { s.ddr with hotAt := s.ddr.hotAt ++ [(s.time.num + 2, d)] } }

section Hot
variable {s : State}

theorem hotDecided_regs : (hotDecided s).regs = s.regs := by
  unfold hotDecided
  dsimp only
  split_ifs <;> rfl

theorem hotDecided_ddrFrame : s.ddrFrame (hotDecided s) := by
  unfold hotDecided
  dsimp only
  split_ifs <;> rfl

/-- A reading above 85 °C decides for hot. -/
theorem State.hotDecision_hot {c t : Nat} (hc : c < 8) (ht : t ∈ (s.ddrChan c).temp) (hhot : 85 < t) (now : Bool) : s.hotDecision now = true := by
  have hmem : t ∈ allChans.flatMap fun c => (s.ddrChan c).temp := by
    refine List.mem_flatMap.mpr ⟨c, ?_, ht⟩
    simp only [allChans, List.mem_cons, List.not_mem_nil, or_false]
    omega
  have hany : (allChans.flatMap fun c => (s.ddrChan c).temp).any (fun t => decide (85 < t)) = true :=
    List.any_eq_true.mpr ⟨t, hmem, decide_eq_true hhot⟩
  unfold State.hotDecision
  simp only [hany, Bool.or_true, if_true]

/-- While no decision waits, a first decision for hot waits for the second boundary. -/
theorem hotDecided_first (hnone : s.ddr.hotAt = []) (hcold : s.hot = false) (hhot : s.hotDecision false = true) :
    (hotDecided s).ddr.hotAt = [(s.time.num + 2, true)] := by
  simp [hotDecided, hnone, hcold, hhot]

end Hot

/-- What stands after a reading of the first DIMM and a failed read of the second, before the hot state is decided. -/
def secondFailed (c : Nat) (v : Byte) (b : Bool) (s : State) : State :=
  (dimmReading c 1 none (firstReading c v s)).setB 0 DDR_REF_STAT_stale b

section SecondFailed
variable {s : State} {c : Nat} (v : Byte) (b : Bool)

theorem secondFailed_ddr : (secondFailed c v b s).ddr = (dimmReading c 1 none (firstReading c v s)).ddr := State.setB_ddr ..

/-- The stale bit lies in a register of its own. -/
theorem secondFailed_cf {x : Nat → Fld} (hx : ∀ k < 4, placed (0, x k) = true ∧ (x k).reg ≠ DDR_REF_STAT) :
    (secondFailed c v b s).cf c x = (firstReading c v s).cf c x := by
  obtain ⟨hplaced, hne⟩ := hx (c % 4) (Nat.mod_lt c (by decide))
  have hstale := State.f_setF_clear (dimmReading c 1 none (firstReading c v s)) 0 (chanDie c) DDR_REF_STAT_stale (x (c % 4)) (if b then 1 else 0) rfl
    hplaced (apart_iff.mpr (.inr (.inl hne.symm)))
  exact hstale.trans (State.f_congr (dimmReading_failed_regs ..) ..)

theorem secondFailed_onlyFields : s.onlyFields (secondFailed c v b s)
    [(chanDie c, DDR_TEMP_t0 (c % 4)), (chanDie c, DDR_EVT_hot (c % 4)), (chanDie c, DDR_EVT_overheat (c % 4)), (0, DDR_REF_STAT_stale)] :=
  State.onlyFields_setF (State.onlyFields_regs (firstReading_onlyFields v) (dimmReading_failed_regs ..)) 0 DDR_REF_STAT_stale _ rfl (by simp)

/-- The registers of the readings are apart from the hot state in effect. -/
theorem secondFailed_hot (hcold : s.f 0 DDR_REF_STAT_hot = 0) : (secondFailed c v b s).hot = false := by
  have hsame : (secondFailed c v b s).f 0 DDR_REF_STAT_hot = s.f 0 DDR_REF_STAT_hot := by
    refine secondFailed_onlyFields v b (0, DDR_REF_STAT_hot) rfl fun e he => apart_iff.mpr ?_
    simp only [List.mem_cons, List.not_mem_nil, or_false] at he
    obtain rfl | rfl | rfl | rfl := he
    · simp only [DDR_TEMP, DDR_REF_STAT]; omega
    · simp only [DDR_EVT, DDR_REF_STAT]; omega
    · simp only [DDR_EVT, DDR_REF_STAT]; omega
    · simp
  rw [State.hot, State.on, hsame, hcold]
  rfl

theorem secondFailed_chanOnly : State.chanOnly c s (dimmReading c 1 none (firstReading c v s)) :=
  (firstReading_chanOnly v).trans (dimmReading_failed_chanOnly ..)

theorem secondFailed_ddrFrame : s.ddrFrame (secondFailed c v b s) := by
  have hframe : s.ddrFrame (dimmReading c 1 none (firstReading c v s)) := (secondFailed_chanOnly v).ddrFrame
  rw [State.ddrFrame, secondFailed_ddr, secondFailed, State.setB_rest]
  exact hframe

/-- The first reading stands among the channel's. -/
theorem secondFailed_temp (htwo : (s.ddrChan c).temp.length = 2) : v.toNat ∈ ((secondFailed c v b s).ddrChan c).temp := by
  have hfirst : ((secondFailed c v b s).ddrChan c).temp[0]? = some v.toNat := by
    rw [State.ddrChan, secondFailed_ddr, ← State.ddrChan, dimmReading_failed_first, firstReading_ddrChan]
    simp [htwo]
  exact List.mem_of_getElem? hfirst

/-- A hot reading decides for hot, to apply at the second boundary from now. -/
theorem secondFailed_hotAt (hc : c < 8) (hnone : s.ddr.hotAt = []) (hcold : s.f 0 DDR_REF_STAT_hot = 0) (hhot : 85 < v.toNat)
    (htwo : (s.ddrChan c).temp.length = 2) : (hotDecided (secondFailed c v b s)).ddr.hotAt = [(s.time.num + 2, true)] := by
  have hwait : (secondFailed c v b s).ddr.hotAt = [] := by
    rw [secondFailed_ddr, (secondFailed_chanOnly v).ddr, hnone]
  have htime : (secondFailed c v b s).time = s.time := (congrArg State.time (secondFailed_ddrFrame v b) :)
  rw [hotDecided_first hwait (secondFailed_hot v b hcold) (State.hotDecision_hot hc (secondFailed_temp v b htwo) hhot false), htime]

end SecondFailed

theorem dimmTemp_read {s : State} {c : Nat} (hlive : s.live (chanDie c) = true) {y : Spd} (hspd : (s.ddrChan c).spd = some y)
    (hdimms : y.dimms ≠ 0) (v : Byte) : ∃ b, dimmTemp c (some v) none s = hotDecided (secondFailed c v b s) := by
  refine ⟨(dimmReading c 1 none (firstReading c v s)).tempStale, ?_⟩
  unfold dimmTemp
  simp only [hlive, Bool.not_true, Bool.false_eq_true, if_false, dimmReading_first v hspd hdimms]
  rfl

/-! ### Interleave sets (R347, R348) -/

/-- A commit that is refused for its initiator. -/
def commitDenied (s : State) : State := (s.evt 0 (DDR_EVT_refused 0)).setF 0 DDR_SET_STAT_reason 1

/-- A commit that is refused for its set n, with a reason. -/
def commitRefused (n r : Nat) (s : State) : State := s.setFs 0 [(DDR_SET_STAT_set, n), (DDR_SET_STAT_reason, r)]

section Refused
variable {s : State} {n r : Nat}

theorem commitDenied_reads : (commitDenied s).f 0 (DDR_EVT_refused 0) = 1 ∧ (commitDenied s).f 0 DDR_SET_STAT_reason = 1 := by
  refine ⟨?_, State.f_setF_fits _ _ _ _ (by decide) (by decide)⟩
  rw [commitDenied, State.f_setF_clear _ _ _ _ _ _ rfl rfl rfl]
  exact State.f_setF_fits _ _ _ _ (by decide) (by decide)

theorem commitDenied_regsOnly : s.regsOnly (commitDenied s) [(0, DDR_EVT_refused 0), (0, DDR_SET_STAT_reason)] :=
  State.regsOnly_setF (State.regsOnly_setF (State.regsOnly_refl s _) 0 _ 1 rfl (by simp)) 0 _ 1 rfl (by simp)

theorem commitRefused_reads (hn : n < 8) (hr : r < 16) :
    (commitRefused n r s).f 0 DDR_SET_STAT_set = n ∧ (commitRefused n r s).f 0 DDR_SET_STAT_reason = r := by
  refine ⟨?_, ?_⟩
  · rw [commitRefused, State.f_setFs_cons _ 0 DDR_SET_STAT_set n _ rfl (by simp [placed, apart, DDR_SET_STAT])]
    exact Nat.mod_eq_of_lt hn
  · rw [commitRefused, State.setFs_cons, State.f_setFs_cons _ 0 DDR_SET_STAT_reason r _ rfl (by simp)]
    exact Nat.mod_eq_of_lt hr

theorem commitRefused_regsOnly : s.regsOnly (commitRefused n r s) [(0, DDR_SET_STAT_set), (0, DDR_SET_STAT_reason)] :=
  ⟨State.onlyFields_setFs _ (State.onlyFields_refl s _) (by simp [placed, DDR_SET_STAT]), State.setFs_rest ..⟩

end Refused

section Sets
variable {s : State} (hlive : s.live 0 = true)
include hlive

theorem setCommit_denied {i : Init} (hwho : isHawkmoth i = false) : setCommit i s = commitDenied s := by
  simp [setCommit, commitDenied, hlive, hwho]

/-- A table with a failing set is not committed. -/
theorem setCommit_bad {n r : Nat} (hbad : s.firstBadSet s.stagedSets 8 0 = some (n, r)) :
    setCommit 0x001 s = commitRefused n r s := by
  have hwho : isHawkmoth 0x001 = true := by decide
  unfold setCommit
  simp only [hlive, hwho, Bool.not_true, Bool.false_eq_true, if_false, hbad]
  rfl

theorem setCommit_good (hgood : s.firstBadSet s.stagedSets 8 0 = none) : setCommit 0x001 s = commitSets s.stagedSets s := by
  have hwho : isHawkmoth 0x001 = true := by decide
  unfold setCommit
  simp only [hlive, hwho, Bool.not_true, Bool.false_eq_true, if_false, hgood]

end Sets

/-- Outputs do not decide whether a set passes. -/
theorem State.fresh_firstBadSet (s : State) (l : List (Option DdrSet)) (k n : Nat) : s.fresh.firstBadSet l k n = s.firstBadSet l k n := by
  have hreason (x : DdrSet) (others : List DdrSet) (before : Option DdrSet) :
      s.fresh.setReason x others before = s.setReason x others before := rfl
  induction k generalizing n with
  | zero => rfl
  | succ k ih => simp only [State.firstBadSet, ih, hreason, State.fresh_ddr]

theorem State.fresh_stagedSets (s : State) : s.fresh.stagedSets = s.stagedSets := rfl

/-! ### Records (R361, R362) -/

/-- A record that is read leaves the FIFO, and its other words are captured. -/
def popped (c : Nat) (r : DdrRec) (l : List DdrRec) (s : State) : State :=
  (({ s with ddr := { s.ddr with fifo := KMap.put s.ddr.fifo c l } }).wr (chanDie c) (DDR_REC_ROW (c % 4))
    (r.words (s.ddrChan c).spd).2.1).wr (chanDie c) (DDR_REC_TICK (c % 4)) (BitVec.ofNat 32 r.tick)

section Records
variable {s : State} {c : Nat} {r : DdrRec} {l : List DdrRec}

theorem ddrPop_oldest (hfifo : KMap.look s.ddr.fifo c = r :: l) (peek : Bool) :
    ddrPop c peek s = (if peek then s else popped c r l s, (r.words (s.ddrChan c).spd).1) := by
  unfold ddrPop
  simp only [hfifo]
  rfl

theorem popped_row : (popped c r l s).rd (chanDie c) (DDR_REC_ROW (c % 4)) = (r.words (s.ddrChan c).spd).2.1 := by
  rw [popped, State.rd_wr_ne _ _ _ _ _ _ (by simp [regKey]), State.rd_wr_same]

theorem popped_tick : (popped c r l s).rd (chanDie c) (DDR_REC_TICK (c % 4)) = BitVec.ofNat 32 r.tick := State.rd_wr_same ..

theorem popped_fifo : KMap.look (popped c r l s).ddr.fifo c = l := KMap.look_put_same ..

theorem popped_out : (popped c r l s).out = s.out := by rw [popped, State.wr_out, State.wr_out]

theorem popped_onlyFields : s.onlyFields (popped c r l s)
    [whole (chanDie c) (DDR_REC_ROW (c % 4)), whole (chanDie c) (DDR_REC_TICK (c % 4))] := by
  refine State.onlyFields_wr (State.onlyFields_wr (State.onlyFields_of_regs rfl) _ _ _ ?_ (by simp)) _ _ _ ?_ (by simp)
  all_goals simp only [DDR_REC_ROW, DDR_REC_TICK]; omega

theorem popped_ddrFrame : s.ddrFrame (popped c r l s) := by
  rw [State.ddrFrame, popped, State.wr_rest, State.wr_rest, State.wr_ddr, State.wr_ddr]
  rfl

end Records

/-! ### Row repair (R359, R360) -/

/-- The bit of a channel's page that shows whether a resource is left for the bank group of a row. -/
def pprLeft (p : PprRow) (k : Nat) : Fld := ⟨DDR_PPR_AVAIL k, 8 * p.rank + p.bg, 1⟩

theorem pprCommit_by_detail (c : Nat) (p : PprRow) (s : State) :
    (pprCommit c p s).1 = if s.pprDetail c p = 0 then s.setDdrChan c { s.ddrChan c with ppr := some p } else s := by
  unfold pprCommit
  dsimp only
  split_ifs <;> rfl

section Repair
variable {s : State} {c : Nat} {p : PprRow} (left : Bool)

/-- The bit lies in the page of the channel. -/
theorem pprLeft_page (p : PprRow) : ∀ k < 4, (pprLeft p k).reg < 0x1000000 ∧ (pprLeft p k).reg / 0x10000 = 0x10 + k := by
  intro k hk
  simp only [pprLeft, DDR_PPR_AVAIL]
  omega

/-- For a bank group of the channel it lies in a register of its own. -/
theorem pprLeft_apart (hrank : p.rank < 4) (hbg : p.bg < 8) {x : Nat → Fld}
    (hx : ∀ k < 4, placed (0, x k) = true ∧ (x k).reg ≠ DDR_PPR_AVAIL k) :
    ∀ k < 4, placed (0, x k) = true ∧ placed (0, pprLeft p k) = true ∧ apart (0, x k) (0, pprLeft p k) = true := by
  intro k hk
  obtain ⟨hplaced, hne⟩ := hx k hk
  refine ⟨hplaced, placed_iff.mpr ?_, apart_iff.mpr (.inr (.inl hne))⟩
  simp only [pprLeft, DDR_PPR_AVAIL]
  omega

theorem pprLeft_stored (hrank : p.rank < 4) (hbg : p.bg < 8) : (s.setCf c (pprLeft p) left.toNat).cf c (pprLeft p) = left.toNat := by
  rw [State.cf_setCf_same _ (fun k hk => by simp only [pprLeft]; omega)]
  exact Nat.mod_eq_of_lt left.toNat_lt

/-- A repair that ends well. -/
def repaired (c : Nat) (p : PprRow) (left : Bool) (s : State) : State :=
  (((s.setCf c (pprLeft p) left.toNat).setDdrChan c { s.ddrChan c with ppr := none }).setCf c DDR_STAT_state 2).setCf c DDR_EVT_ppr_done 1

/-- A repair that fails: a row q stays under repair, and the channel retrains at a grade. -/
def repairFailed (c : Nat) (p q : PprRow) (g : Nat) (left : Bool) (s : State) : State :=
  beginTraining c g false (((s.setCf c (pprLeft p) left.toNat).setDdrChan c { s.ddrChan c with ppr := some q }).setCf c DDR_EVT_ppr_fail 1)

theorem repaired_reads : (repaired c p left s).ddrState c = 2 ∧ (repaired c p left s).cf c DDR_EVT_ppr_done = 1 ∧
    ((repaired c p left s).ddrChan c).ppr = none := by
  simp (disch := decide) [repaired, State.ddrState, State.cf_setCf_same, State.cf_setCf_apart]

theorem repaired_left (hrank : p.rank < 4) (hbg : p.bg < 8) : (repaired c p left s).cf c (pprLeft p) = left.toNat := by
  rw [repaired, State.cf_setCf_apart _ (pprLeft_apart hrank hbg (by decide)), State.cf_setCf_apart _ (pprLeft_apart hrank hbg (by decide)),
    State.setDdrChan_cf, pprLeft_stored left hrank hbg]

theorem repaired_chanOnly : State.chanOnly c s (repaired c p left s) :=
  (((State.chanOnly_setCf s c (pprLeft p) _ (pprLeft_page p)).setDdrChan _).setCf 2).setCf 1

variable (q : PprRow) (g : Nat)

theorem repairFailed_reads : (repairFailed c p q g left s).ddrState c = 1 ∧ (repairFailed c p q g left s).cf c DDR_EVT_ppr_fail = 1 ∧
    ((repairFailed c p q g left s).ddrChan c).ppr ≠ none := by
  refine ⟨beginTraining_ddrState .., ?_, ?_⟩
  · rw [repairFailed, beginTraining_cf _ _ (by decide)]
    exact State.cf_setCf_same 1 (by decide)
  · simp [repairFailed, beginTraining_ddrChan]

theorem repairFailed_left (hrank : p.rank < 4) (hbg : p.bg < 8) : (repairFailed c p q g left s).cf c (pprLeft p) = left.toNat := by
  rw [repairFailed, beginTraining_cf _ _ (pprLeft_apart hrank hbg (by decide)), State.cf_setCf_apart _ (pprLeft_apart hrank hbg (by decide)),
    State.setDdrChan_cf, pprLeft_stored left hrank hbg]

theorem repairFailed_chanOnly : State.chanOnly c s (repairFailed c p q g left s) :=
  (((State.chanOnly_setCf s c (pprLeft p) _ (pprLeft_page p)).setDdrChan _).setCf 1).trans (beginTraining_chanOnly ..)

section
variable (hppr : (s.ddrChan c).ppr = some p) (hstate : s.ddrState c = 3)
include hppr hstate

theorem pprDone_repaired : pprDone c true left s = repaired c p left s := by
  unfold pprDone
  simp only [hppr, hstate, ne_eq, not_true_eq_false, if_false, if_true]
  rfl

theorem pprDone_failed : ∃ q g, pprDone c false left s = repairFailed c p q g left s := by
  unfold pprDone
  simp only [hppr, hstate, ne_eq, not_true_eq_false, if_false, Bool.false_eq_true]
  exact ⟨_, _, rfl⟩

/-- How a repair ends (R360): READY, or in a retrain with a row still under repair; the channel shows whether a resource is left. -/
theorem pprDone_leaves (ok : Bool) {u : State} (hu : pprDone c ok left s = u) : State.chanOnly c s u ∧
    (ok = true → u.ddrState c = 2 ∧ u.cf c DDR_EVT_ppr_done = 1 ∧ (u.ddrChan c).ppr = none) ∧
    (ok = false → u.ddrState c = 1 ∧ u.cf c DDR_EVT_ppr_fail = 1 ∧ (u.ddrChan c).ppr ≠ none) ∧
    (p.rank < 4 → p.bg < 8 → u.cf c (pprLeft p) = left.toNat) := by
  cases ok with
  | true =>
    obtain rfl := (pprDone_repaired left hppr hstate).symm.trans hu
    exact ⟨repaired_chanOnly left, fun _ => repaired_reads left, by simp, repaired_left left⟩
  | false =>
    obtain ⟨q, g, hfailed⟩ := pprDone_failed left hppr hstate
    obtain rfl := hfailed.symm.trans hu
    exact ⟨repairFailed_chanOnly left q g, by simp, fun _ => repairFailed_reads left q g, repairFailed_left left q g⟩

end

end Repair

end Sys2Proof.Machine
end

section
/-! SUPPORT. The interleave sets in effect (R348): what a range that enters FAULT does, and so a commit of sets, leaves them. One lemma for
each function f that it reaches, named f_sets. -/

namespace Sys2Proof.Machine

/-! ### Reports and answers -/

/-- A report below die-fatal leaves the channels. -/
theorem errReport_ddr (d src region detail : Nat) {k : ErrClass} (hk : k ≠ .dieFatal) (s : State) :
    (errReport d src k region detail s).ddr = s.ddr := by
  unfold errReport dieReport
  cases k with
  | dieFatal => exact absurd rfl hk
  | corrected | contained | regionFatal => dsimp only [iosReport]; split_ifs <;> simp

theorem answered_ddr (h : Hdr) (a : Answered) (s : State) : (answered h a s).ddr = s.ddr :=
  State.meshFrame_ddr (State.meshOnly_frame (answered_meshOnly h a s))

/-! ### Lines -/

@[simp] theorem dramReport_sets (c kind l device pin : Nat) (s : State) : (dramReport c kind l device pin s).ddr.sets = s.ddr.sets := by
  unfold dramReport
  dsimp only
  rw [errReport_ddr _ _ _ _ (by split_ifs <;> decide)]
  split_ifs <;> simp

@[simp] theorem readLine_sets (c l kind : Nat) (err : DimmErr) (s : State) : (readLine c l kind err s).1.ddr.sets = s.ddr.sets := by
  unfold readLine
  dsimp only
  split_ifs
  · rfl
  · exact dramReport_sets ..
  · exact dramReport_sets ..
  · exact dramReport_sets ..
  · cases err
    · rfl
    · exact dramReport_sets ..
    · exact dramReport_sets ..
    · rfl

@[simp] theorem putLine_sets (c l : Nat) (x : Line) (err : DimmErr) (s : State) : (putLine c l x err s).1.ddr.sets = s.ddr.sets := by
  unfold putLine
  dsimp only
  split_ifs
  · rfl
  · rfl
  · exact readLine_sets c l 2 err s
  · exact readLine_sets c l 2 err s

@[simp] theorem miuReport_sets (c r kind : Nat) (h : Hdr) (s : State) : (miuReport c r kind h s).ddr.sets = s.ddr.sets := by
  unfold miuReport
  dsimp only
  rw [errReport_ddr _ _ _ _ (by decide)]
  split_ifs <;> simp

/-! The metadata of a range lies beside the channels. -/

@[simp] theorem setCache_ddr (k v : Nat) (s : State) : (setCache k v s).ddr = s.ddr := by simp only [setCache]

@[simp] theorem tagFresh_ddr (x : MiuLine) (s : State) : (tagFresh x s).ddr = s.ddr := by simp only [tagFresh, setCache_ddr]

@[simp] theorem setCtr_ddr (x : MiuLine) (v : BitVec 512) (s : State) : (setCtr x v s).ddr = s.ddr := by simp only [setCtr, setCache_ddr]

@[simp] theorem poison_ddr (x : MiuLine) (s : State) : (poison x s).ddr = s.ddr := by simp only [poison, tagFresh_ddr, setCtr_ddr]

@[simp] theorem dropMeta_ddr (r : Nat) (s : State) : (dropMeta r s).ddr = s.ddr := by simp only [dropMeta]

@[simp] theorem sweepEnds_ddr (s : State) : (sweepEnds s).ddr = s.ddr := by simp only [sweepEnds, State.setF_ddr]

@[simp] theorem writeLine_sets (c l : Nat) (v : BitVec 512) (s : State) : (writeLine c l v s).ddr.sets = s.ddr.sets := by
  simp only [writeLine, State.setLine]

@[simp] theorem verifyLine_sets (x : MiuLine) (kind : Nat) (dimm : DimmLine) (s : State) : (verifyLine x kind dimm s).1.ddr.sets = s.ddr.sets := by
  unfold verifyLine
  dsimp only
  split_ifs <;> simp

@[simp] theorem miuReadLine_sets (x : MiuLine) (dimm : DimmLine) (s : State) : (miuReadLine x dimm s).1.ddr.sets = s.ddr.sets := by
  unfold miuReadLine
  split
  · exact verifyLine_sets ..
  · dsimp only
    split <;> simp

@[simp] theorem miuStore_sets (x : MiuLine) (v : BitVec 512) (stale : List (Fin 64)) (s : State) : (miuStore x v stale s).ddr.sets = s.ddr.sets := by
  unfold miuStore
  dsimp only
  split_ifs <;> simp

@[simp] theorem miuWriteLine_sets (x : MiuLine) (w : Line) (dimm : DimmLine) (s : State) : (miuWriteLine x w dimm s).1.ddr.sets = s.ddr.sets := by
  unfold miuWriteLine
  dsimp only
  split
  · split
    · split <;> rfl
    · exact putLine_sets ..
  · split_ifs <;> simp

/-! ### Requests that wait -/

theorem readEach_sets (n i : Nat) {f : Nat → State → State × Nat × BitVec 512} (hf : ∀ i, ∀ t : State, (f i t).1.ddr.sets = t.ddr.sets)
    (s : State) : (readEach n i f s).1.ddr.sets = s.ddr.sets := by
  induction n generalizing i s with
  | zero => rfl
  | succ n ih => exact (ih (i + 1) _).trans (hf i s)

theorem writeEach_sets (l : List Line) (i : Nat) {f : Nat → Line → State → State × Nat}
    (hf : ∀ i x, ∀ t : State, (f i x t).1.ddr.sets = t.ddr.sets) (s : State) : (writeEach l i f s).1.ddr.sets = s.ddr.sets := by
  induction l generalizing i s with
  | nil => rfl
  | cons x l ih => exact (ih (i + 1) _).trans (hf i x s)

@[simp] theorem answerError_sets (h : Hdr) (status : Nat) (s : State) : (answerError h status s).ddr.sets = s.ddr.sets :=
  congrArg DdrSt.sets (State.meshFrame_ddr (answerError_meshFrame h status s))

theorem serveLines_sets (h : Hdr) (lines : List Line) {rd : Nat → State → State × Nat × BitVec 512}
    {wr : Nat → Line → State → State × Nat}
    (hrd : ∀ i, ∀ t : State, (rd i t).1.ddr.sets = t.ddr.sets) (hwr : ∀ i x, ∀ t : State, (wr i x t).1.ddr.sets = t.ddr.sets) (s : State) :
    (serveLines h lines rd wr s).ddr.sets = s.ddr.sets := by
  unfold serveLines
  dsimp only
  split_ifs
  · rw [answerAck, State.emit_ddr, answered_ddr, writeEach_sets lines 0 hwr]
  · rw [answerError_sets, writeEach_sets lines 0 hwr]
  · rw [answerData, State.emit_ddr, answered_ddr, readEach_sets _ 0 hrd]
  · rw [answerError_sets, readEach_sets _ 0 hrd]

theorem miuServe_sets (r c l0 : Nat) (h : Hdr) (lines : List Line) (x : DramIn) (s : State) :
    (miuServe r c l0 h lines x s).ddr.sets = s.ddr.sets := by
  have hlost (t : State) (b : Bool) (f : State → State) (hf : (f t).ddr.sets = t.ddr.sets) : (t.when b f).ddr.sets = t.ddr.sets := by
    cases b
    · rfl
    · exact hf
  refine serveLines_sets h lines (fun i t => ?_) (fun i w t => ?_) s
  · exact (miuReadLine_sets ..).trans (hlost _ _ _ rfl)
  · exact (miuWriteLine_sets ..).trans (hlost _ _ _ rfl)

theorem retake_sets (l : List MiuWait) (c : Nat) (s : State) : (retake l c s).ddr.sets = s.ddr.sets := by
  induction l generalizing s with
  | nil => rfl
  | cons w l ih =>
    unfold retake
    refine (ih _).trans ?_
    dsimp only
    split
    · rfl
    · split
      · split_ifs
        · rw [answerError_sets, State.inc_ddr]
        · exact miuServe_sets ..
        · rfl
      · exact answerError_sets ..

/-! ### Ranges -/

/-- A change for each element of a list. -/
theorem State.each_sets {α : Type} (s : State) (l : List α) {f : State → α → State} (hf : ∀ t a, (f t a).ddr.sets = t.ddr.sets) :
    (s.each l f).ddr.sets = s.ddr.sets :=
  State.each_keeps (fun t => t.ddr.sets = s.ddr.sets) f l (fun t a _ h => (hf t a).trans h) s rfl

theorem retakeAll_sets (c : Nat) (s : State) : (retakeAll c s).ddr.sets = s.ddr.sets := retake_sets _ c _

/-- What a range loses. -/
theorem addFill_sets (f : Fill) (s : State) : (s.addFill f).ddr.sets = s.ddr.sets := rfl

theorem rangeFault_sets (r : Nat) (s : State) : (rangeFault r s).ddr.sets = s.ddr.sets := by
  unfold rangeFault
  split
  · rfl
  · extract_lets lost out swept
    have hlost : lost.ddr.sets = s.ddr.sets := by
      subst lost
      split
      · rw [State.setF_ddr]
        exact State.each_sets s _ fun t c => addFill_sets _ t
      · rfl
    have hout : out.ddr.sets = s.ddr.sets := by
      rw [← hlost]
      simp only [out, dropMeta_ddr, State.setF_ddr]
    have hswept : swept.ddr.sets = out.ddr.sets := by
      subst swept
      split
      · split_ifs
        · rw [sweepEnds_ddr]
        · rfl
      · rfl
    exact ((State.each_sets _ _ fun t c => retakeAll_sets c t).trans hswept).trans hout

/-- A commit pends the table and shows it; the sets in effect stay (R348). -/
theorem commitSets_leaves (l : List (Option DdrSet)) (s : State) :
    (commitSets l s).ddr.next = some l ∧ (commitSets l s).ddr.sets = s.ddr.sets ∧
    (commitSets l s).f 0 DDR_SET_STAT_pending = 1 ∧ (commitSets l s).f 0 DDR_SET_STAT_reason = 0 := by
  unfold commitSets
  extract_lets faulted
  have hsets : faulted.ddr.sets = s.ddr.sets := by
    subst faulted
    refine State.each_sets s _ fun t r => ?_
    split
    · split_ifs
      · exact rangeFault_sets r t
      · rfl
    · rfl
  clear_value faulted
  refine ⟨?_, ?_, ?_, ?_⟩
  · rw [State.setFs_ddr]
  · rw [State.setFs_ddr]
    exact hsets
  · exact State.f_setFs_cons _ 0 DDR_SET_STAT_pending 1 _ rfl (by simp [placed, apart, DDR_SET_STAT])
  · rw [State.setFs_cons, State.setFs_cons]
    exact State.f_setFs_cons _ 0 DDR_SET_STAT_reason 0 _ rfl (by simp)

end Sys2Proof.Machine
end

section
/-! SUPPORT. DDR5 channels (11): that they train, serve, report and repair as chapter 11 says. -/

namespace Sys2Proof.Machine

/-! ### The obligation -/

/-- Settles O48, command by command: what each effect is under the clause's premises, and then what that effect leaves. -/
theorem ddrChannelsTrainServeAndRepair : Obligations.DdrChannelsTrainServeAndRepair := by
  unfold Obligations.DdrChannelsTrainServeAndRepair
  refine ⟨fun s i c hlive hwho => ?_, fun s i c r hlive hwho hstate => ?_, fun s i c hlive hwho hstate => ?_,
    fun s c y ok g r hstate hspd hppr hdimms hg hg8 hr => ?_, fun s c ok hstate hspd => ?_, fun s c hstate hfirst => ?_,
    fun s c n hstate halert hsecond => ?_, fun s c h l x hlive hstate => ?_, fun s c h v x a hlive hstate hdecode hrange hop => ?_,
    fun s c h l x a hlive hstate hdecode hrange hop hone hline => ?_, fun s c h l x a hlive hstate hdecode hrange hop hone hbad => ?_,
    fun s hrefreshes => ?_, fun s c y v hlive hspd hdimms => ?_, fun s i hlive hwho => ?_, fun s n r hlive hbad hnr => ?_,
    fun s hlive hgood => ?_, fun s c r l hfifo => ?_, fun s c row hlive => ?_, fun s c p ok left hppr hstate => ?_⟩
  · -- a retrain by another initiator
    have honly : s.fresh.regsOnly _ _ := retrainDenied_regsOnly (c := c)
    obtain ⟨hreason, hevent⟩ := retrainDenied_cf (s := s.fresh) (c := c)
    exact exec_dram (exec_ddrRetrain ..) (ddrRetrain_denied (s := s.fresh) hlive hwho.1 hwho.2) honly.ddrFrame.dramFrame
      ⟨hreason, hevent, honly⟩
  · -- a retrain that the channel's state does not allow
    have honly : s.fresh.regsOnly _ _ := retrainEnds_regsOnly (c := c) r
    exact exec_dram (exec_ddrRetrain ..) (ddrRetrain_ends (s := s.fresh) hlive hwho hstate) honly.ddrFrame.dramFrame
      ⟨retrainEnds_reason (by omega), honly⟩
  · -- a retrain
    have honly := retrainStarts_chanOnly (s := s.fresh) (c := c) (s.fresh.retrainGrade c)
    obtain ⟨hbusy, hreason⟩ := retrainStarts_cf (s := s.fresh) (c := c) (s.fresh.retrainGrade c)
    refine exec_dram (exec_ddrRetrain ..) (ddrRetrain_starts (s := s.fresh) hlive hwho hstate) honly.dramFrame
      ⟨beginTraining_ddrState .., hbusy, hreason, fun hgrade => ?_, honly.line, honly.fill, retrainStarts_onlyFields (s := s.fresh) _,
        honly.ddrFrame⟩
    rw [retrainStarts, beginTraining_ddrChan]
    exact State.retrainGrade_start (s := s.fresh) hgrade
  · -- a first training
    obtain ⟨hends, hevent, honly⟩ := trainingDone_ends (s := s.fresh) (c := c) hstate hspd hppr hdimms ok hg hg8 hr
    obtain ⟨hshown, hcapacity⟩ := identified_shows (s := s.fresh) (c := c) (y := y)
    refine exec_dram (exec_ddrTrainingDone ..) rfl honly.dramFrame ⟨hends.dimms.trans hshown, hends.capacity.trans hcapacity, hends.reason,
      hends.busy, fun h0 => ?_, fun h0 => ?_, honly.line, honly.fill, honly.pages, honly.ddrFrame⟩
    · have hst := hends.state
      have hgrade := hends.grade
      rw [if_pos h0] at hst hgrade
      exact ⟨hst, hgrade⟩
    · have hst := hends.state
      have hgrade := hends.grade
      rw [if_neg h0] at hst hgrade
      exact ⟨hst, hgrade, hevent h0⟩
  · -- training without a DIMM
    have honly : State.chanOnly c s.fresh _ := State.chanOnly.setCf (x := DDR_STAT_state) (State.chanOnly_setDdrChan s.fresh c {}) 0
    refine exec_dram (exec_ddrTrainingDone ..) (trainingDone_absent (s := s.fresh) hstate hspd ok) honly.dramFrame ⟨?_, ?_, honly.ddrFrame⟩
    · exact State.cf_setCf_same 0 (by decide)
    · exact (State.onlyFields_of_regs (t := s.fresh.setDdrChan c {}) rfl).setCf 0
  · -- a first ALERT#
    have hmarked : ddrAlert c s.fresh = s.fresh.setDdrChan c _ := ddrAlert_first (s := s.fresh) hstate fun n hn => by
      have hn' : (s.ddrChan c).alert = some n := hn
      rw [hn'] at hfirst
      exact of_decide_eq_true hfirst
    have honly := State.chanOnly_setDdrChan s.fresh c { s.ddrChan c with alert := some s.time.count }
    refine exec_dram (exec_ddrAlert ..) hmarked honly.dramFrame ⟨?_, rfl, honly.ddrFrame⟩
    rw [State.setDdrChan_ddrChan]
    rfl
  · -- a second ALERT#
    have honly := (State.chanOnly_setDdrChan s.fresh c { s.ddrChan c with alert := none }).trans (beginTraining_chanOnly (s.retrainGrade c) false)
    refine exec_dram (exec_ddrAlert ..) (ddrAlert_second (s := s.fresh) hstate halert hsecond) honly.dramFrame
      ⟨beginTraining_ddrState .., fun hgrade => ?_, ?_, honly.ddrFrame⟩
    · rw [beginTraining_ddrChan]
      exact State.retrainGrade_start (s := s.fresh) hgrade
    · exact State.onlyFields.beginTraining _ _ (State.onlyFields_of_regs rfl)
  · -- a request at a channel that is not READY
    have hserve := dramServe_unready (s := s.fresh) (c := c) (h := h) (lines := l) (x := x) hlive hstate.1
    by_cases hbusy : s.ddrState c = 1 ∨ s.ddrState c = 3
    · rw [if_pos hbusy]
      rw [if_pos (show s.fresh.ddrState c = 1 ∨ s.fresh.ddrState c = 3 from hbusy)] at hserve
      obtain ⟨hout, hregs, hframe⟩ := answered_emit h .retry (.packet (h.answer 5 0 0) []) s.fresh
      exact exec_dram (exec_ddrRequest ..) hserve (State.meshFrame.dramFrame hframe) ⟨hout, State.meshFrame_ddr hframe, hregs, hframe⟩
    · rw [if_neg hbusy]
      rw [if_neg (show ¬ (s.fresh.ddrState c = 1 ∨ s.fresh.ddrState c = 3) from hbusy)] at hserve
      have hframe := answerError_meshFrame h 3 s.fresh
      exact exec_dram (exec_ddrRequest ..) hserve (State.meshFrame.dramFrame hframe)
        ⟨answerError_out .., State.meshFrame_ddr hframe, answerError_regs (by decide) .., hframe⟩
  · -- a full line is written
    have hserve := dramServe_plain (s := s.fresh) (c := c) (h := h) (lines := [⟨BitVec.allOnes 64, v⟩]) (x := x) hlive hstate hdecode hrange
    rw [servePlain_write hop] at hserve
    obtain ⟨hout, hstored, hread, hfields, hframe⟩ := answerAck_written (s := s.fresh) (c := c) (l := a / 64) (svc := x.svc) (h := h) v rfl
    exact exec_dram (exec_ddrRequest ..) hserve hframe ⟨hout, hstored, hread, hfields, hframe⟩
  · -- a written line is read
    have hserve := dramServe_plain (s := s.fresh) (c := c) (h := h) (lines := l) (x := x) hlive hstate hdecode hrange
    have hsame : (serviceNoted c x.svc s.fresh).dramLine c (a / 64) = s.dramLine c (a / 64) := State.dramLine_congr _ _ (serviceNoted_ddr x.svc)
    obtain ⟨hknown, hgood, herr⟩ := hline
    rw [servePlain_read hop hone (readLine_clean (by rw [hsame, hknown]) (by rw [hsame, hgood]) herr), if_pos rfl, hsame] at hserve
    obtain ⟨hout, hddr, hfields, hframe⟩ := answerData_read (s := s.fresh) (c := c) (svc := x.svc) (h := h)
      (h.dataLines (s.dramLine c (a / 64)).data.toNat) rfl
    refine exec_dram (exec_ddrRequest ..) hserve hframe.dramFrame ⟨?_, hddr, hfields, hframe⟩
    rw [hout]
    simp [mkFlits_lines, mkFlits_length]
  · -- a line with an uncorrectable error
    have hserve := dramServe_plain (s := s.fresh) (c := c) (h := h) (lines := l) (x := x) hlive hstate hdecode hrange
    have hsame : (serviceNoted c x.svc s.fresh).dramLine c (a / 64) = s.dramLine c (a / 64) := State.dramLine_congr _ _ (serviceNoted_ddr x.svc)
    rw [servePlain_read hop hone (readLine_bad (by rw [hsame, hbad])), if_neg (by decide)] at hserve
    obtain ⟨hout, hevent, hddr, hfifo, hpages, hframe⟩ := answerError_ue (s := s.fresh) c (a / 64) 0xF 0x3F (h := h) (svc := x.svc) rfl rfl
    exact exec_dram (exec_ddrRequest ..) hserve hframe
      ⟨hout, hevent, (congrArg DdrSt.line hddr :), (congrArg DdrSt.fill hddr :), hfifo, hpages, hframe⟩
  · -- a refresh point
    by_cases hquiet : s.f 0 DDR_REF_STAT_quiet = 0
    · have honly := inc_refreshes_regsOnly s.fresh
      exact exec_dram (exec_refreshPoint ..) (refreshPoint_fixed (s := s.fresh) hrefreshes hquiet) honly.ddrFrame.dramFrame
        ⟨fun h1 => by omega, fun _ => ⟨State.f_inc_same s.fresh 0 DDR_REF_CNT_value 1 (by decide), honly⟩⟩
    · exact exec_dram (exec_refreshPoint ..) (refreshPoint_quiet (s := s.fresh) hrefreshes hquiet) rfl
        ⟨fun _ => ⟨rfl, rfl⟩, fun h0 => absurd h0 hquiet⟩
  · -- a reading
    obtain ⟨b, hread⟩ := dimmTemp_read (s := s.fresh) (c := c) hlive hspd hdimms v
    have hregs := hotDecided_regs (s := secondFailed c v b s.fresh)
    have hframe : s.fresh.ddrFrame (hotDecided (secondFailed c v b s.fresh)) :=
      State.ddrFrame_trans (secondFailed_ddrFrame v b) hotDecided_ddrFrame
    have hcf {x : Nat → Fld} (hx : ∀ k < 4, placed (0, x k) = true ∧ (x k).reg ≠ DDR_REF_STAT) :
        (hotDecided (secondFailed c v b s.fresh)).cf c x = (firstReading c v s.fresh).cf c x :=
      (State.f_congr hregs ..).trans (secondFailed_cf v b hx)
    refine exec_dram (exec_dimmTempRead ..) hread hframe.dramFrame ⟨?_, fun hhot => ?_, fun hover => ?_, ?_, ?_, hframe⟩
    · exact (hcf (by decide)).trans (firstReading_t0 v)
    · exact (hcf (by decide)).trans (firstReading_hot v hhot)
    · exact (hcf (by decide)).trans (firstReading_overheat v hover)
    · exact State.onlyFields_regs (secondFailed_onlyFields (s := s.fresh) v b) hregs
    · exact fun _ hnone hcold hhot htwo => secondFailed_hotAt (s := s.fresh) v b c.isLt hnone hcold hhot htwo
  · -- a commit of sets by another initiator
    have honly : s.fresh.regsOnly _ _ := commitDenied_regsOnly
    obtain ⟨hevent, hreason⟩ := commitDenied_reads (s := s.fresh)
    exact exec_dram (exec_ddrSetCommit ..) (setCommit_denied (s := s.fresh) hlive hwho) honly.ddrFrame.dramFrame ⟨hevent, hreason, honly⟩
  · -- a table with a failing set
    have hbad' : s.fresh.firstBadSet s.fresh.stagedSets 8 0 = some (n, r) := (State.fresh_firstBadSet ..).trans hbad
    have honly := commitRefused_regsOnly (s := s.fresh) (n := n) (r := r)
    obtain ⟨hset, hreason⟩ := commitRefused_reads (s := s.fresh) hnr.1 hnr.2
    exact exec_dram (exec_ddrSetCommit ..) (setCommit_bad (s := s.fresh) hlive hbad') honly.ddrFrame.dramFrame ⟨hset, hreason, honly⟩
  · -- a table that passes
    have hgood' : s.fresh.firstBadSet s.fresh.stagedSets 8 0 = none := (State.fresh_firstBadSet ..).trans hgood
    obtain ⟨hnext, hsets, hpending, hreason⟩ := commitSets_leaves s.stagedSets s.fresh
    refine exec_answers (exec_ddrSetCommit ..) ?_
    rw [setCommit_good (s := s.fresh) hlive hgood', State.fresh_stagedSets, State.ended_ddr, State.ended_f, State.ended_f]
    exact ⟨hnext, hsets, hpending, hreason⟩
  · -- a record
    have hpop := ddrPop_oldest (s := s.fresh) (c := c) hfifo
    have hframe : s.fresh.ddrFrame (popped c r l s.fresh) := popped_ddrFrame
    have hout : (popped c r l s.fresh).out = [] := popped_out
    have hpeeked : exec (.ddrRecPop c true) s = .next (s.fresh.emit (.value (r.words (s.ddrChan c).spd).1)) := by
      rw [exec_ddrRecPop, run]
      dsimp only
      rw [hpop true, if_pos rfl, State.ended_fresh_emit]
      rfl
    refine exec_dram (u := (popped c r l s.fresh).emit (.value (r.words (s.ddrChan c).spd).1)) (exec_ddrRecPop ..) ?_
      (State.ddrFrame_emit hframe _).dramFrame ⟨?_, ?_, ?_, ?_, hpeeked, ?_, State.ddrFrame_emit hframe _⟩
    · dsimp only
      rw [hpop false]
      rfl
    · rw [State.emit_out, hout]
      rfl
    · rw [State.emit_ddr, popped_fifo]
    · exact (State.rd_congr (State.emit_regs ..) ..).trans popped_row
    · exact (State.rd_congr (State.emit_regs ..) ..).trans popped_tick
    · exact State.onlyFields_regs (popped_onlyFields (s := s.fresh)) (State.emit_regs ..)
  · -- a row for repair
    have hcommit : (if s.fresh.live 0 then (pprCommit c row s.fresh).1 else s.fresh) =
        if s.fresh.pprDetail c row = 0 then s.fresh.setDdrChan c { s.fresh.ddrChan c with ppr := some row } else s.fresh := by
      rw [if_pos (show s.fresh.live 0 = true from hlive), pprCommit_by_detail]
    by_cases hdetail : s.pprDetail c row = 0
    · rw [if_pos (show s.fresh.pprDetail c row = 0 from hdetail)] at hcommit
      have honly := State.chanOnly_setDdrChan s.fresh c { s.fresh.ddrChan c with ppr := some row }
      refine exec_dram (exec_pprCommit ..) hcommit honly.dramFrame ⟨fun _ => ?_, fun h => absurd hdetail h, honly.line, rfl, honly.ddrFrame⟩
      rw [State.setDdrChan_ddrChan]
    · rw [if_neg (show ¬ s.fresh.pprDetail c row = 0 from hdetail)] at hcommit
      exact exec_dram (exec_pprCommit ..) hcommit rfl ⟨fun h => absurd h hdetail, fun _ => rfl, rfl, rfl, rfl⟩
  · -- the end of a repair
    obtain ⟨honly, hok, hfail, hleft⟩ := pprDone_leaves (s := s.fresh) left hppr hstate ok rfl
    exact exec_dram (exec_pprRepairDone ..) rfl honly.dramFrame ⟨hok, hfail, honly.line, honly.fill, hleft, honly.pages, honly.ddrFrame⟩

end Sys2Proof.Machine
end

section
/-! SUPPORT. More laws of the sparse tables: keys that are not listed, and tables with one key listed. -/

namespace Sys2Proof

/-- A table that does not list a key is the same without it. -/
theorem KMap.del_unlisted {α : Type} {m : KMap α} {k : Nat} (h : ∀ y ∈ m, y.1 ≠ k) : KMap.del m k = m := by
  induction m with
  | nil => rfl
  | cons y m ih =>
    obtain ⟨a, v⟩ := y
    rw [KMap.del, if_neg (h (a, v) List.mem_cons_self), ih fun z hz => h z (List.mem_cons_of_mem _ hz)]

/-- A key that is not listed reads as the default. -/
theorem KMap.look_unlisted {α : Type} [Inhabited α] {m : KMap α} {k : Nat} (h : ∀ y ∈ m, y.1 ≠ k) : KMap.look m k = default := by
  rw [← KMap.del_unlisted h]
  exact KMap.lookD_del_same ..

/-- A table with one key listed lists no other once a value is stored there. -/
theorem KMap.put_listed {α : Type} [Inhabited α] [DecidableEq α] {m : KMap α} {k : Nat} (h : ∀ y ∈ m, y.1 = k) (v : α) :
    ∀ y ∈ KMap.put m k v, y.1 = k := by
  unfold KMap.put KMap.putD
  intro y hy
  split at hy
  · exact h y (KMap.del_mem m k y hy)
  · obtain rfl | hy := KMap.ins_mem _ _ _ y hy
    · rfl
    · exact h y (KMap.del_mem m k y hy)

end Sys2Proof
end

section
/-! SUPPORT. What the network and the initiators leave of the record service: a request that enters an interface, and the results that reach
their initiators, change none of its ports and none of its registers. One lemma for each function that they reach, named f_portsOnly. -/

namespace Sys2Proof.Machine

/-! ### Ports and registers of the record service -/

/-- From s to t no die changes its power, and of the record service's ports (by engine * 16 + port) and the registers of its pages only the
listed ones change. -/
structure State.portsOnly (s t : State) (ports : List Nat) (regs : List (Nat × Nat)) : Prop where
  pwr : t.pwr = s.pwr
  port : ∀ j, j ∉ ports → KMap.look t.rec_.port j = KMap.look s.rec_.port j
  rd : ∀ d r, r / 0x10000 = 0x20 → (d, r) ∉ regs → t.rd d r = s.rd d r

section PortsOnly
variable {s t u : State} {ports : List Nat} {regs : List (Nat × Nat)}

/-- Neither the power nor the ports nor the registers change. -/
theorem State.portsOnly_same (hpwr : t.pwr = s.pwr) (hport : t.rec_.port = s.rec_.port) (hregs : t.regs = s.regs) :
    s.portsOnly t ports regs := ⟨hpwr, fun _ _ => by rw [hport], fun d r _ _ => State.rd_congr hregs d r⟩

theorem State.portsOnly_refl (s : State) : s.portsOnly s ports regs := State.portsOnly_same rfl rfl rfl

theorem State.portsOnly_net (s : State) (n : NetSt) : s.portsOnly { s with net := n } ports regs := State.portsOnly_same rfl rfl rfl

theorem State.portsOnly_core (s : State) (c : CoreSt) : s.portsOnly { s with core := c } ports regs := State.portsOnly_same rfl rfl rfl

theorem State.portsOnly.trans (h : s.portsOnly t ports regs) (hu : t.portsOnly u ports regs) : s.portsOnly u ports regs :=
  ⟨hu.pwr.trans h.pwr, fun j hj => (hu.port j hj).trans (h.port j hj), fun d r hr hm => (hu.rd d r hr hm).trans (h.rd d r hr hm)⟩

/-- More ports and registers may change than did. -/
theorem State.portsOnly.mono {ports' : List Nat} {regs' : List (Nat × Nat)} (h : s.portsOnly t ports regs) (hports : ∀ j ∈ ports, j ∈ ports')
    (hregs : ∀ a ∈ regs, a ∈ regs') : s.portsOnly t ports' regs' :=
  ⟨h.pwr, fun j hj => h.port j fun hm => hj (hports j hm), fun d r hr hm => h.rd d r hr fun hx => hm (hregs _ hx)⟩

/-- A change for each element of a list. -/
theorem State.portsOnly.each {α : Type} (h : s.portsOnly t ports regs) (l : List α) {f : State → α → State}
    (hf : ∀ u : State, ∀ a ∈ l, u.portsOnly (f u a) ports regs) : s.portsOnly (t.each l f) ports regs :=
  State.each_keeps (fun u => s.portsOnly u ports regs) f l (fun u a ha hu => hu.trans (hf u a ha)) t h

/-- A change that may be left out. -/
theorem State.portsOnly.when (h : s.portsOnly t ports regs) (c : Bool) {f : State → State} (hf : t.portsOnly (f t) ports regs) :
    s.portsOnly (t.when c f) ports regs := by
  cases c
  · exact h
  · exact h.trans hf

/-- A store of a register of another page, or of a listed one. -/
theorem State.portsOnly.setF (h : s.portsOnly t ports regs) (d : Nat) (x : Fld) (v : Nat) (hr : x.reg < 0x1000000)
    (hx : x.reg / 0x10000 ≠ 0x20 ∨ (d, x.reg) ∈ regs) : s.portsOnly (t.setF d x v) ports regs := by
  refine h.trans ⟨State.setF_pwr .., fun j _ => by rw [State.setF_rec_], fun d' r hpage hm => State.rd_setF_ne t d d' x r v fun hk => ?_⟩
  obtain ⟨rfl, rfl⟩ := regKey_inj (by omega) hr hk
  exact hx.elim (fun hne => hne hpage) hm

/-- A store of a register of another page. -/
theorem State.portsOnly.setOther (h : s.portsOnly t ports regs) (d : Nat) (x : Fld) (v : Nat)
    (hx : x.reg < 0x1000000 ∧ x.reg / 0x10000 ≠ 0x20 := by decide) : s.portsOnly (t.setF d x v) ports regs := h.setF d x v hx.1 (.inl hx.2)

/-- An event bit of another page. -/
theorem State.portsOnly.evtOther (h : s.portsOnly t ports regs) (d : Nat) (x : Fld)
    (hx : x.reg < 0x1000000 ∧ x.reg / 0x10000 ≠ 0x20 := by decide) : s.portsOnly (t.evt d x) ports regs := h.setOther d x 1 hx

/-- A counter of another page. -/
theorem State.portsOnly.incOther (h : s.portsOnly t ports regs) (d : Nat) (x : Fld) (n : Nat)
    (hx : x.reg < 0x1000000 ∧ x.reg / 0x10000 ≠ 0x20 := by decide) : s.portsOnly (t.inc d x n) ports regs := h.setOther d x _ hx

/-- Stores of fields of other pages, or of listed registers. -/
theorem State.portsOnly.setFs (d : Nat) (k : List (Fld × Nat)) (h : s.portsOnly t ports regs)
    (hk : ∀ e ∈ k, e.1.reg < 0x1000000 ∧ (e.1.reg / 0x10000 ≠ 0x20 ∨ (d, e.1.reg) ∈ regs)) :
    s.portsOnly (t.setFs d k) ports regs := by
  induction k generalizing t with
  | nil => rwa [State.setFs_nil]
  | cons e k ih =>
    obtain ⟨hr, hx⟩ := hk e List.mem_cons_self
    rw [State.setFs_cons]
    exact ih (h.setF d e.1 e.2 hr hx) fun x hx => hk x (List.mem_cons_of_mem _ hx)

/-- A die has at most three cores (R466). -/
theorem coreSlot_lt (c : Nat) : coreSlot c < 3 := by
  unfold coreSlot
  split_ifs <;> omega

/-- A core's field, in a page of the cores. -/
theorem State.portsOnly.setKf (h : s.portsOnly t ports regs) (c : Nat) (x : Nat → Fld) (v : Nat)
    (hx : ∀ k < 3, (x k).reg < 0x1000000 ∧ (x k).reg / 0x10000 ≠ 0x20 := by decide) : s.portsOnly (t.setKf c x v) ports regs := by
  obtain ⟨hr, hpage⟩ := hx _ (coreSlot_lt c)
  exact h.setF _ _ _ hr (.inl hpage)

/-- An event bit of another page whose location is latched with it. -/
theorem State.portsOnly.evtLatch (h : s.portsOnly t ports regs) (d : Nat) (x : Fld) {f : State → State}
    (hf : t.portsOnly (f t) ports regs) (hx : x.reg < 0x1000000 ∧ x.reg / 0x10000 ≠ 0x20 := by decide) :
    s.portsOnly (t.evtLatch d x f) ports regs := by
  unfold State.evtLatch
  split
  · exact h.evtOther d x hx
  · exact (h.trans hf).evtOther d x hx

end PortsOnly

section Network
variable {ports : List Nat} {regs : List (Nat × Nat)}

/-! ### Packets that enter the mesh -/

theorem modPart_portsOnly (src q seq : Nat) (f : NiPart → NiPart) (s : State) : s.portsOnly (modPart src q seq f s) ports regs :=
  State.portsOnly_same rfl rfl rfl

theorem sendPart_portsOnly (p : NiPart) (slot : Option Nat) (s : State) : s.portsOnly (sendPart p slot s) ports regs :=
  State.portsOnly_same rfl rfl rfl

theorem schLast_portsOnly (d k ep kind : Nat) (s : State) : s.portsOnly (schLast d k ep kind s) ports regs := by
  unfold schLast
  split
  · exact State.portsOnly_refl s
  · exact (State.portsOnly_refl s).setFs _ _ (by simp [PROBES_SCH_LAST])

theorem launch_portsOnly (p : NiPart) (s : State) : s.portsOnly (launch p s) ports regs := by
  unfold launch
  dsimp only
  cases s.admission p.hdr with
  | best => exact sendPart_portsOnly ..
  | pass k =>
    refine State.portsOnly.trans ?_ (sendPart_portsOnly ..)
    refine State.portsOnly.incOther ?_ _ _ 1
    exact State.portsOnly_same rfl rfl rfl
  | hold k =>
    refine State.portsOnly.trans ?_ (modPart_portsOnly ..)
    exact (State.portsOnly_refl s).when _ ((State.portsOnly_refl s).incOther _ _ 1)
  | demote k =>
    refine State.portsOnly.trans ?_ (sendPart_portsOnly ..)
    exact ((schLast_portsOnly ..).incOther _ _ 1).evtOther ..

theorem pumpPart_portsOnly (p : NiPart) (s : State) : s.portsOnly (pumpPart p s) ports regs := by
  unfold pumpPart
  dsimp only
  split
  · exact State.portsOnly_refl s
  · split_ifs
    · exact State.portsOnly_refl s
    · exact ((State.portsOnly_refl s).incOther _ _ 1).trans (modPart_portsOnly ..)
    · exact launch_portsOnly ..

theorem startEnt_portsOnly (i : Nat) (e : NiEnt) (s : State) : s.portsOnly (startEnt i e s) ports regs := by
  unfold startEnt
  dsimp only
  split
  · exact State.portsOnly_same rfl rfl rfl
  · exact State.portsOnly.each ((State.portsOnly_net s _).trans (State.portsOnly_net _ _)) _ fun u p _ => pumpPart_portsOnly p u

theorem startEnts_portsOnly (n i src : Nat) (wait : List Nat) (s : State) : s.portsOnly (startEnts n i src wait s) ports regs := by
  induction n generalizing i wait s with
  | zero => exact State.portsOnly_refl s
  | succ n ih =>
    unfold startEnts
    dsimp only
    split
    · exact State.portsOnly_refl s
    · split_ifs
      · exact ih ..
      · exact (State.portsOnly_net s _).trans (ih ..)
      · exact ih ..
      · exact State.portsOnly_refl s
      · exact (startEnt_portsOnly ..).trans (ih ..)

/-! ### Results that reach their initiators -/

theorem hostResult_portsOnly (e : NiEnt) (s : State) : s.portsOnly (hostResult e s) ports regs := by
  unfold hostResult
  dsimp only
  split_ifs
  · exact State.portsOnly_refl s
  · exact (State.portsOnly_refl s).evtLatch _ _ ((State.portsOnly_refl s).setFs _ _ (by simp [PCIE_HWERR]))
  all_goals exact State.portsOnly_same rfl rfl rfl

theorem itaSend_portsOnly (p : Nat) (m : ItaMsg) (s : State) : s.portsOnly (itaSend p m s) ports regs := by
  unfold itaSend
  dsimp only
  split_ifs <;> exact State.portsOnly_same rfl rfl rfl

theorem sendFrame_portsOnly (m : MemFrame) (rsp : Bool) (s : State) : s.portsOnly (sendFrame m rsp s) ports regs := by
  unfold sendFrame
  split
  · exact itaSend_portsOnly ..
  · exact (State.portsOnly_refl s).incOther _ _ 1

theorem busError_portsOnly (c status : Nat) (store : Bool) (s : State) : s.portsOnly (busError c status store s) ports regs := by
  have hpage : ∀ k < 3, (CORE_EVT_bus_err k).reg < 0x1000000 ∧ (CORE_EVT_bus_err k).reg / 0x10000 ≠ 0x20 := by decide
  exact (State.portsOnly_refl s).evtLatch _ _ ((((State.portsOnly_refl s).setKf ..).setKf ..).setKf ..) (hpage _ (coreSlot_lt c))

theorem holdUpdate_portsOnly (s : State) : s.portsOnly (holdUpdate s) ports regs := by
  unfold holdUpdate
  extract_lets
  refine State.portsOnly.when ((State.portsOnly_refl s).setOther 0 CORE_HB_CFG_hold _) _ ?_
  exact (State.portsOnly_refl _).setOther 0 CORE_HB_STAT_misses 0

theorem enterHalted_portsOnly (c cause : Nat) (s : State) : s.portsOnly (enterHalted c cause s) ports regs := by
  unfold enterHalted
  extract_lets shown caused
  have hshown : s.portsOnly shown ports regs := ((State.portsOnly_refl s).setKf ..).setKf ..
  have hcaused : s.portsOnly caused ports regs := ((hshown.setKf ..).setKf ..).setKf ..
  clear_value caused
  dsimp only
  exact ((hcaused.trans (State.portsOnly_core caused _)).evtOther 0 DBG_EVT_halted).trans (holdUpdate_portsOnly _)

theorem stepEnds_portsOnly (c : Nat) (s : State) : s.portsOnly (stepEnds c s) ports regs :=
  (((((State.portsOnly_refl s).setKf ..).setKf ..).setKf ..).setKf ..).evtOther ..

theorem feedFails_portsOnly (c code : Nat) (s : State) : s.portsOnly (feedFails c code s) ports regs :=
  ((((State.portsOnly_refl s).setKf ..).setKf ..).setKf ..).evtOther ..

theorem coreResult_portsOnly (c : Nat) (r : NocReq) (status : Nat) (l : List Line) (s : State) :
    s.portsOnly (coreResult c r status l s) ports regs := by
  unfold coreResult
  extract_lets t u
  have ht : s.portsOnly t ports regs := (State.portsOnly_refl s).when _ (busError_portsOnly ..)
  have hu : s.portsOnly u ports regs := ht.trans (State.portsOnly_same rfl rfl rfl)
  split_ifs
  · exact ht
  · exact hu.trans (feedFails_portsOnly ..)
  · exact hu.setKf ..
  · exact hu.trans (stepEnds_portsOnly ..)
  · exact hu.trans (enterHalted_portsOnly ..)
  · exact hu

theorem masterResult_portsOnly (r : NocReq) (status : Nat) (l : List Line) (s : State) :
    s.portsOnly (masterResult r status l s) ports regs := by
  unfold masterResult
  split
  · exact State.portsOnly_refl s
  · exact State.portsOnly_same rfl rfl rfl

theorem deliverOne_portsOnly (e : NiEnt) (s : State) : s.portsOnly (deliverOne e s) ports regs := by
  unfold deliverOne
  split
  · exact State.portsOnly_refl s
  split
  · exact sendFrame_portsOnly ..
  split
  · exact hostResult_portsOnly ..
  split
  · exact masterResult_portsOnly ..
  · extract_lets t
    have ht : s.portsOnly t ports regs := by
      subst t
      split
      · split
        · exact State.portsOnly_refl s
        · exact coreResult_portsOnly ..
      · exact State.portsOnly_refl s
    exact ht.trans (State.portsOnly_same rfl rfl rfl)

theorem deliver_portsOnly (s : State) : s.portsOnly (deliver s) ports regs :=
  (State.portsOnly_net s _).each _ fun u e _ => deliverOne_portsOnly e u

/-- A request that enters an interface leaves the record service alone, with all that it starts and completes there. -/
theorem niIssue_portsOnly (r : NocReq) (fence : Bool) (s : State) : s.portsOnly (niIssue r fence s) ports regs := by
  unfold niIssue
  split
  · exact State.portsOnly_refl s
  · exact ((State.portsOnly_net s _).trans (startEnts_portsOnly ..)).trans (deliver_portsOnly _)

end Network

end Sys2Proof.Machine
end

section
/-! SUPPORT. The flush of the record ports at power fail (R399): what the operations of a port leave of the others, and what they do to its own. -/

namespace Sys2Proof.Machine

/-! ### A record closes (R387, R388) -/

/-- The last lines of an open record are written, unless its words are discarded: of `closeRecord`, what comes before the record ends. -/
def lastLinesWritten (e p : Nat) (o : RecOpen) (trunc : Bool) (seq : Nat) (s : State) : State :=
  if o.drop then s
  else
    let n := recLines o.payload.length
    let hdr := recHead (recHeadLow e p o trunc seq) o.payload
    let s := recIssue e p o hdr 0 1 (recBlocks n e p o hdr o.issued n s)
    let y := s.recPort e p
    let recs := y.recs.map (fun r => if r.id = o.id then { r with closed := true, lines := n } else r)
    s.setRecPort e p { y with recs := recs, at_ := o.start + n }

/-- The port has no open record any more, and its registers show and count that: of `closeRecord`, what comes before the record boundary. -/
def recordEnded (e p : Nat) (cont : Bool) (seq : Nat) (s : State) : State :=
  let s := s.setRecPort e p { s.recPort e p with open_ := none, cont := cont }
  ((s.inc e (RECORD_P_RECS_value p) 1).setF e (RECORD_P_SEQ_value p) (seq + 1)).setFs e
    [(RECORD_P_STAT_open p, 0), (RECORD_P_STAT_words p, 0)]

section Closes
variable {e p : Nat} {trunc cont : Bool} {s : State}

theorem closeRecord_none (h : (s.recPort e p).open_ = none) : closeRecord e p trunc cont s = s := by
  simp [closeRecord, h]

theorem closeRecord_some {o : RecOpen} (h : (s.recPort e p).open_ = some o) : closeRecord e p trunc cont s =
    portBoundary e p (recordEnded e p cont (s.f e (RECORD_P_SEQ_value p))
      (lastLinesWritten e p o trunc (s.f e (RECORD_P_SEQ_value p)) s)) := by
  unfold closeRecord
  dsimp only
  rw [h]
  rfl

end Closes

/-! ### An entry is stored (R393) -/

/-- The directory and its mirror change on their own. -/
def State.withDir (s : State) (dir mirror : KMap DirEnt) : State := { s with rec_ := { s.rec_ with dir := dir, mirror := mirror } }

/-- While ION can be written, an entry is stored in the primary and in the mirror. -/
theorem putDir_mirrored {s : State} (h : s.mirrorReach = true) (k : Nat) (x : DirEnt) :
    putDir k x s = s.withDir (KMap.put s.rec_.dir k x) (KMap.put s.rec_.mirror k x) := if_pos h

/-- While it cannot, the mirror stays behind, and `mirror_ok` says so. -/
theorem putDir_behind {s : State} (h : s.mirrorReach = false) (k : Nat) (x : DirEnt) :
    putDir k x s = (s.withDir (KMap.put s.rec_.dir k x) s.rec_.mirror).setF 0 RECORD_STAT_mirror_ok 0 :=
  if_neg fun hreach => Bool.false_ne_true (h.symm.trans hreach)

/-! ### What the operations of a port leave alone -/

/-- The registers that the operations of port p of engine e change, by die and place: those that show it, its counts, and `RECORD_STAT`. -/
def portRegs (e p : Nat) : List (Nat × Nat) :=
  [(e, RECORD_P_STAT p), (e, RECORD_P_RECS p), (e, RECORD_P_SEQ p), (0, RECORD_STAT)]

/-- From s to t port p of engine e does what it does: no other port and no register of the record service but its own changes. -/
abbrev State.portOnly (s t : State) (e p : Nat) : Prop := s.portsOnly t [e * 16 + p] (portRegs e p)

section PortOnly
variable {e p : Nat}

theorem State.setRecPort_portOnly (s : State) (x : RecPort) : s.portOnly (s.setRecPort e p x) e p :=
  ⟨rfl, fun j hj => KMap.look_put_ne _ _ _ _ (by simpa using hj), fun _ _ _ _ => rfl⟩

theorem State.portsOnly_withDir {ports : List Nat} {regs : List (Nat × Nat)} (s : State) (dir mirror : KMap DirEnt) :
    s.portsOnly (s.withDir dir mirror) ports regs := State.portsOnly_same rfl rfl rfl

/-- A write of the directory shows in `RECORD_STAT` at most, and leaves every port alone (R393). -/
theorem putDir_portsOnly (k : Nat) (x : DirEnt) (s : State) : s.portsOnly (putDir k x s) [] [(0, RECORD_STAT)] := by
  cases hreach : s.mirrorReach with
  | true => rw [putDir_mirrored hreach]; exact s.portsOnly_withDir ..
  | false => rw [putDir_behind hreach]; exact (s.portsOnly_withDir ..).setF _ _ 0 (by decide) (.inr (by simp))

theorem settleEntry_portsOnly (k : Nat) (s : State) : s.portsOnly (settleEntry k s) [] [(0, RECORD_STAT)] := by
  unfold settleEntry
  dsimp only
  split
  · exact putDir_portsOnly ..
  · exact State.portsOnly_refl s

/-- A change of the directory is one that every port may make. -/
theorem State.portsOnly.portOnly {s t : State} (h : s.portsOnly t [] [(0, RECORD_STAT)]) : s.portOnly t e p :=
  h.mono (by simp) (by simp [portRegs])

section Bounded
variable (hp : p < 16)
include hp

theorem portRegs_lt : ∀ a ∈ portRegs e p, a.2 < 0x1000000 := by
  simp only [portRegs, RECORD_P_STAT, RECORD_P_RECS, RECORD_P_SEQ, RECORD_STAT, List.forall_mem_cons]
  exact ⟨by omega, by omega, by omega, by omega, List.forall_mem_nil _⟩

/-- A store of a register of the port's own. -/
theorem State.portOnly.setOwn {s t : State} (h : s.portOnly t e p) (d : Nat) (x : Fld) (v : Nat) (hx : (d, x.reg) ∈ portRegs e p) :
    s.portOnly (t.setF d x v) e p := h.setF d x v (portRegs_lt hp _ hx) (.inr hx)

/-- Stores of fields of the register that shows the port. -/
theorem State.portOnly.setStat {s t : State} (k : List (Fld × Nat)) (h : s.portOnly t e p) (hk : ∀ a ∈ k, a.1.reg = RECORD_P_STAT p) :
    s.portOnly (t.setFs e k) e p := by
  have hstat : (e, RECORD_P_STAT p) ∈ portRegs e p := List.mem_cons_self
  exact h.setFs e k fun a ha => hk a ha ▸ ⟨portRegs_lt hp _ hstat, .inr hstat⟩

theorem portShow_portOnly (st reason : Nat) (s : State) : s.portOnly (portShow e p st reason s) e p :=
  State.portOnly.setStat hp _ (State.portsOnly_refl s) (by simp)

theorem portDrops_portOnly (reason : Nat) (s : State) : s.portOnly (portDrops e p reason s) e p := by
  unfold portDrops
  extract_lets x t
  have ht : s.portOnly t e p := (State.setRecPort_portOnly s _).trans (portShow_portOnly hp ..)
  split
  · exact ht.trans (settleEntry_portsOnly ..).portOnly
  · exact ht

theorem portBinds_portOnly (k refused : Nat) (s : State) : s.portOnly (portBinds e p k refused s) e p := by
  unfold portBinds
  split
  · exact ((putDir_portsOnly ..).portOnly.trans (State.setRecPort_portOnly ..)).trans (portShow_portOnly hp ..)
  · exact portDrops_portOnly hp ..

theorem portBoundary_portOnly (s : State) : s.portOnly (portBoundary e p s) e p := by
  unfold portBoundary
  extract_lets x t
  have ht : s.portOnly t e p := State.setRecPort_portOnly ..
  split
  · exact State.portsOnly_refl s
  · split
    · exact ht
    · exact ht.trans (portDrops_portOnly hp ..)
    · exact ht.trans (portDrops_portOnly hp ..)
    · exact (ht.trans (portDrops_portOnly hp ..)).trans (portBinds_portOnly hp ..)

omit hp in
theorem recIssue_portOnly (o : RecOpen) (hdr : BitVec 256) (a b : Nat) (s : State) : s.portOnly (recIssue e p o hdr a b s) e p := by
  unfold recIssue
  dsimp only
  split
  · exact State.portsOnly_refl s
  · exact (State.setRecPort_portOnly ..).trans (niIssue_portsOnly ..)

omit hp in
theorem recBlocks_portOnly (n : Nat) (o : RecOpen) (hdr : BitVec 256) (a b : Nat) (s : State) :
    s.portOnly (recBlocks n e p o hdr a b s) e p := by
  induction n generalizing a s with
  | zero => exact State.portsOnly_refl s
  | succ n ih =>
    unfold recBlocks
    split
    · exact State.portsOnly_refl s
    · exact (recIssue_portOnly ..).trans (ih ..)

omit hp in
theorem lastLinesWritten_portOnly (o : RecOpen) (trunc : Bool) (seq : Nat) (s : State) :
    s.portOnly (lastLinesWritten e p o trunc seq s) e p := by
  unfold lastLinesWritten
  split
  · exact State.portsOnly_refl s
  · exact ((recBlocks_portOnly ..).trans (recIssue_portOnly ..)).trans (State.setRecPort_portOnly ..)

theorem recordEnded_portOnly (cont : Bool) (seq : Nat) (s : State) : s.portOnly (recordEnded e p cont seq s) e p := by
  refine State.portOnly.setStat hp _ (State.portOnly.setOwn hp (State.portOnly.setOwn hp ?_ _ _ _ ?_) _ _ _ ?_) (by simp)
  · exact State.setRecPort_portOnly s _
  all_goals simp [portRegs]

theorem closeRecord_portOnly (trunc cont : Bool) (s : State) : s.portOnly (closeRecord e p trunc cont s) e p := by
  cases hopen : (s.recPort e p).open_ with
  | none => rw [closeRecord_none hopen]; exact State.portsOnly_refl s
  | some o =>
    rw [closeRecord_some hopen]
    exact ((lastLinesWritten_portOnly ..).trans (recordEnded_portOnly hp ..)).trans (portBoundary_portOnly hp _)

end Bounded
end PortOnly

/-! ### What the operations of a port do to it -/

/-- A field reads in t as in s where its register does. -/
theorem State.f_of_rd {s t : State} {d : Nat} {x : Fld} (h : t.rd d x.reg = s.rd d x.reg) : t.f d x = s.f d x := by
  rw [State.f, State.f, h]

@[simp] theorem State.setRecPort_recPort (s : State) (e p : Nat) (x : RecPort) : (s.setRecPort e p x).recPort e p = x := KMap.look_put_same ..

/-- Stores of registers leave the ports alone. -/
@[simp] theorem State.setFs_recPort (s : State) (d : Nat) (l : List (Fld × Nat)) (e p : Nat) : (s.setFs d l).recPort e p = s.recPort e p := by
  simp [State.recPort]

@[simp] theorem putDir_recPort (k : Nat) (x : DirEnt) (s : State) (e p : Nat) : (putDir k x s).recPort e p = s.recPort e p :=
  (putDir_portsOnly k x s).port _ (by simp)

@[simp] theorem settleEntry_recPort (k : Nat) (s : State) (e p : Nat) : (settleEntry k s).recPort e p = s.recPort e p :=
  (settleEntry_portsOnly k s).port _ (by simp)

section OwnPort
variable {e p : Nat} {s : State}

/-- A port that drops has no entry bound, and nothing else of it changes (R389). -/
@[simp] theorem portDrops_recPort (reason : Nat) : (portDrops e p reason s).recPort e p = { s.recPort e p with entry := none } := by
  unfold portDrops
  dsimp only
  split <;> simp [portShow]

/-- A port that binds, or may not, keeps its open record. -/
theorem portBinds_open (k refused : Nat) : ((portBinds e p k refused s).recPort e p).open_ = (s.recPort e p).open_ := by
  unfold portBinds
  split <;> simp [portShow]

/-- No record opens at a boundary. -/
theorem portBoundary_open : ((portBoundary e p s).recPort e p).open_ = (s.recPort e p).open_ := by
  unfold portBoundary
  extract_lets x t
  split
  · rfl
  · split <;> simp [t, x, portBinds_open]

/-- A record that closes is open no more. -/
theorem closeRecord_open (trunc cont : Bool) : ((closeRecord e p trunc cont s).recPort e p).open_ = none := by
  cases hopen : (s.recPort e p).open_ with
  | none => rw [closeRecord_none hopen, hopen]
  | some o =>
    rw [closeRecord_some hopen, portBoundary_open, recordEnded, State.setFs_recPort]
    simp [State.recPort, State.setRecPort]

end OwnPort

/-! ### A port flushes (R399) -/

/-- Port p of engine e flushes where its engine is out of reset and it is enabled: its open record closes truncated, and it drops. -/
def flushPort (e p : Nat) (s : State) : State :=
  if s.live e && s.on e (RECORD_P_CFG_en p) then
    let s := closeRecord e p true false s
    portDrops e p 6 (s.setRecPort e p { s.recPort e p with want := none })
  else s

/-- Port p of engine e drops with the reason of the power fail, with no open record and no entry bound. -/
def State.flushedPort (s : State) (e p : Nat) : Prop :=
  s.portSt e p = 2 ∧ s.f e (RECORD_P_STAT_reason p) = 6 ∧ (s.recPort e p).open_ = none ∧ (s.recPort e p).entry = none

section FlushPort
variable {e p : Nat} {s t : State} (hp : p < 16)
include hp

theorem flushPort_portOnly (s : State) : s.portOnly (flushPort e p s) e p := by
  unfold flushPort
  split
  · exact ((closeRecord_portOnly hp ..).trans (State.setRecPort_portOnly ..)).trans (portDrops_portOnly hp ..)
  · exact State.portsOnly_refl s

theorem portStat_page : RECORD_P_STAT p / 0x10000 = 0x20 := by
  unfold RECORD_P_STAT
  omega

/-- A field of a register of the port that shows it reads as before where only `RECORD_STAT` changes. -/
theorem State.portsOnly.statField (h : s.portsOnly t [] [(0, RECORD_STAT)]) (lo len : Nat) :
    t.f e ⟨RECORD_P_STAT p, lo, len⟩ = s.f e ⟨RECORD_P_STAT p, lo, len⟩ := by
  refine State.f_of_rd (h.rd _ _ (portStat_page hp) ?_)
  simp [RECORD_P_STAT, RECORD_STAT]
  omega

/-- A port that drops shows so, with the reason (R389). -/
theorem portDrops_shows (reason : Nat) (s : State) : (portDrops e p reason s).portSt e p = 2 ∧
    (portDrops e p reason s).f e (RECORD_P_STAT_reason p) = reason % 16 := by
  unfold portDrops State.portSt
  extract_lets x t
  have hplaced : placed (e, RECORD_P_STAT_state p) = true ∧ placed (e, RECORD_P_STAT_reason p) = true := by
    simp [placed, RECORD_P_STAT]; omega
  obtain ⟨hstate, hreason⟩ := hplaced
  have hshown : t.f e (RECORD_P_STAT_state p) = 2 ∧ t.f e (RECORD_P_STAT_reason p) = reason % 16 := by
    constructor
    · exact State.f_setFs_cons _ e _ 2 _ hstate (by simp [hreason, apart])
    · exact (congrArg (fun u : State => u.f e (RECORD_P_STAT_reason p)) (State.setFs_cons ..)).trans
        (State.f_setFs_cons _ e _ reason [] hreason (by simp))
  split
  · have hsettled := settleEntry_portsOnly ‹_› t
    rw [hsettled.statField hp, hsettled.statField hp]
    exact hshown
  · exact hshown

/-- An enabled port that flushes is flushed. -/
theorem flushPort_flushed (hlive : s.live e = true) (hen : s.f e (RECORD_P_CFG_en p) = 1) : (flushPort e p s).flushedPort e p := by
  unfold flushPort
  rw [if_pos (by simp [hlive, State.on, hen])]
  obtain ⟨hstate, hreason⟩ := portDrops_shows (e := e) hp 6 ((closeRecord e p true false s).setRecPort e p
    { (closeRecord e p true false s).recPort e p with want := none })
  exact ⟨hstate, hreason, by simp [closeRecord_open], by simp⟩

/-- A flushed port stays so while another does what it does. -/
theorem State.flushedPort.other {e' p' : Nat} (hp' : p' < 16) (hne : (e', p') ≠ (e, p)) (h : s.portOnly t e' p')
    (hs : s.flushedPort e p) : t.flushedPort e p := by
  obtain ⟨hstate, hreason, hopen, hentry⟩ := hs
  have hport : t.recPort e p = s.recPort e p := h.port _ (by simp at hne ⊢; omega)
  have hshown : t.rd e (RECORD_P_STAT p) = s.rd e (RECORD_P_STAT p) := by
    refine h.rd _ _ (portStat_page hp) ?_
    simp [portRegs, RECORD_P_STAT, RECORD_P_RECS, RECORD_P_SEQ, RECORD_STAT] at hne ⊢
    omega
  exact ⟨(State.f_of_rd hshown).trans hstate, (State.f_of_rd hshown).trans hreason, by rw [hport, hopen], by rw [hport, hentry]⟩

end FlushPort

/-! ### All ports flush -/

/-- The ports of both engines, in the order of the flush. -/
def enginePorts : List (Nat × Nat) := [0, 1].flatMap fun e => recPorts.map fun p => (e, p)

theorem enginePorts_lt : ∀ a ∈ enginePorts, a.2 < 16 := by decide

theorem mem_enginePorts : ∀ (e : IoDie) (p : Fin 16), (e.val, p.val) ∈ enginePorts := by decide

/-- What every change keeps, and one element's change turns into more that the others' changes keep, is so after a change for each element. -/
theorem State.each_reaches {α : Type} {P Q : State → Prop} {f : State → α → State} {a : α} {l : List α}
    (hP : ∀ s, ∀ b ∈ l, P s → P (f s b)) (ha : ∀ s, P s → Q (f s a)) (hQ : ∀ s, ∀ b ∈ l, b ≠ a → Q s → Q (f s b)) (hl : a ∈ l)
    {s : State} (h : P s) : Q (s.each l f) := by
  induction l generalizing s with
  | nil => simp at hl
  | cons b l ih =>
    have hPl (u : State) : ∀ c ∈ l, P u → P (f u c) := fun c hc => hP u c (List.mem_cons_of_mem _ hc)
    have hQl (u : State) : ∀ c ∈ l, c ≠ a → Q u → Q (f u c) := fun c hc => hQ u c (List.mem_cons_of_mem _ hc)
    have hb : P (f s b) := hP s b List.mem_cons_self h
    rw [State.each_cons]
    obtain rfl | hl := List.mem_cons.mp hl
    · refine (State.each_keeps (fun u => P u ∧ Q u) f l (fun u c hc hu => ⟨hPl u c hc hu.1, ?_⟩) _ ⟨hb, ha s h⟩).2
      by_cases hca : c = a
      · exact hca ▸ ha u hu.1
      · exact hQl u c hc hca hu.2
    · exact ih hPl hQl hl hb

theorem State.each_enginePorts (s : State) (f : Nat → Nat → State → State) :
    s.each [0, 1] (fun s e => s.each recPorts fun s p => f e p s) = s.each enginePorts fun s a => f a.1 a.2 s := rfl

/-- PWRFAIL# is low. -/
def State.failLow (s : State) : State := { s with pwr := { s.pwr with pwrfailLow := true } }

@[simp] theorem State.failLow_live (s : State) (d : Nat) : s.failLow.live d = s.live d := rfl
@[simp] theorem State.failLow_f (s : State) (d : Nat) (x : Fld) : s.failLow.f d x = s.f d x := State.f_congr rfl d x

/-- The flush has begun: its tick is kept, and neither end is shown (R399). -/
def State.flushBegun (s : State) : State :=
  s.failLow.setFs 0 [(RECORD_PF_flushed, 0), (RECORD_PF_incomplete, 0), (RECORD_PF_tick, s.tick16)]

/-- Both engines flush (R399). -/
def State.portsFlushed (s : State) : State := s.flushBegun.each enginePorts fun s a => flushPort a.1 a.2 s

/-- The flush stands open. -/
def State.flushOpen (s : State) : State := { s with rec_ := { s.rec_ with flush := true } }

/-- With `pf_flush` a fall of PWRFAIL# flushes every port, and the flush stands open. -/
theorem pwrFail_flush {s : State} (hlive : s.live 0 = true) (hflush : s.f 0 RECORD_CTRL_pf_flush = 1) :
    pwrFail s = s.portsFlushed.flushOpen := by
  have hguard : (!s.failLow.live 0 || !s.failLow.on 0 RECORD_CTRL_pf_flush) = false := by simp [State.on, hlive, hflush]
  unfold pwrFail
  extract_lets pwr low begun flushed
  have hflushed : flushed = begun.each [0, 1] fun s e => s.each recPorts fun s p => flushPort e p s := rfl
  have hall : flushed = s.portsFlushed := hflushed.trans (State.each_enginePorts begun flushPort)
  rw [if_neg (by rw [show low = s.failLow from rfl, hguard]; decide), ← hall]
  rfl

/-- Without it PWRFAIL# is low and nothing else changes. -/
theorem pwrFail_low {s : State} (hflush : s.f 0 RECORD_CTRL_pf_flush = 0) : pwrFail s = s.failLow :=
  if_pos (c := (!s.failLow.live 0 || !s.failLow.on 0 RECORD_CTRL_pf_flush) = true) (by simp [State.on, hflush])

/-- What the flush keeps of what it began with: the power, `RECORD_PF`, and the configuration of a port. -/
def State.flushKeeps (s t : State) (e p : Nat) : Prop :=
  t.pwr = s.pwr ∧ t.rd 0 RECORD_PF = s.rd 0 RECORD_PF ∧ t.rd e (RECORD_P_CFG p) = s.rd e (RECORD_P_CFG p)

/-- The operations of any port keep that. -/
theorem State.portOnly.flushKeeps {s t u : State} {e p e' p' : Nat} (hp : p < 16) (hp' : p' < 16) (h : t.portOnly u e' p')
    (ht : s.flushKeeps t e p) : s.flushKeeps u e p := by
  obtain ⟨hpwr, hpf, hcfg⟩ := ht
  refine ⟨h.pwr.trans hpwr, (h.rd _ _ (by decide) ?_).trans hpf, (h.rd _ _ (by unfold RECORD_P_CFG; omega) ?_).trans hcfg⟩
  all_goals simp [portRegs, RECORD_P_STAT, RECORD_P_RECS, RECORD_P_SEQ, RECORD_P_CFG, RECORD_STAT, RECORD_PF]; omega

/-- After the flush of both engines an enabled port is flushed, and the flush is shown as it began. -/
theorem State.portsFlushed_leaves {s : State} (e : IoDie) (p : Fin 16) (hlive : s.live e.val = true)
    (hen : s.f e.val (RECORD_P_CFG_en p.val) = 1) :
    s.flushBegun.flushKeeps s.portsFlushed e.val p.val ∧ s.portsFlushed.flushedPort e.val p.val := by
  have hkeeps (u : State) : ∀ b ∈ enginePorts, s.flushBegun.flushKeeps u e.val p.val →
      s.flushBegun.flushKeeps (flushPort b.1 b.2 u) e.val p.val :=
    fun b hb hu => (flushPort_portOnly (enginePorts_lt b hb) u).flushKeeps p.isLt (enginePorts_lt b hb) hu
  have hbegun : s.flushBegun.flushKeeps s.flushBegun e.val p.val := ⟨rfl, rfl, rfl⟩
  unfold State.portsFlushed
  refine ⟨State.each_keeps (fun u => s.flushBegun.flushKeeps u e.val p.val) _ _ hkeeps _ hbegun, ?_⟩
  have hother (u : State) : ∀ b ∈ enginePorts, b ≠ (e.val, p.val) → u.flushedPort e.val p.val →
      (flushPort b.1 b.2 u).flushedPort e.val p.val :=
    fun b hb hne hu => hu.other p.isLt (enginePorts_lt b hb) hne (flushPort_portOnly (enginePorts_lt b hb) u)
  refine State.each_reaches (Q := fun u => u.flushedPort e.val p.val) hkeeps (fun u hu => ?_) hother (mem_enginePorts e p) hbegun
  obtain ⟨hpwr, -, hcfg⟩ := hu
  refine flushPort_flushed p.isLt ?_ ?_
  · rw [State.live, hpwr, State.flushBegun, State.setFs_pwr]
    exact hlive
  · have hbefore : s.flushBegun.f e.val (RECORD_P_CFG_en p.val) = s.f e.val (RECORD_P_CFG_en p.val) :=
      State.f_setFs_clear s.failLow 0 _ (by simp [placed, RECORD_P_CFG]; omega) (by simp [placed, apart, RECORD_P_CFG, RECORD_PF]; omega)
    rw [← hen, ← hbefore, State.f, State.f, hcfg]

/-- The begin of a flush is shown with its tick (R399). -/
theorem State.flushBegun_shows (s : State) : s.flushBegun.f 0 RECORD_PF_tick = s.time.num % 2 ^ 16 ∧
    s.flushBegun.f 0 RECORD_PF_flushed = 0 ∧ s.flushBegun.f 0 RECORD_PF_incomplete = 0 := by
  refine ⟨?_, State.f_setFs_cons _ 0 _ 0 _ (by decide) (by simp [placed, apart, RECORD_PF]), ?_⟩
  · rw [State.flushBegun, State.setFs_cons, State.setFs_cons, State.f_setFs_cons _ 0 _ _ _ (by decide) (by simp)]
    exact Nat.mod_mod ..
  · rw [State.flushBegun, State.setFs_cons, State.f_setFs_cons _ 0 _ _ _ (by decide) (by simp [placed, apart, RECORD_PF])]
    rfl

/-- What a fall of PWRFAIL# with `pf_flush` leaves of an enabled port, and what it shows (R399). -/
theorem pwrFail_leaves {s : State} (e : IoDie) (p : Fin 16) (hlive : s.live 0 = true ∧ s.live e.val = true)
    (hflush : s.f 0 RECORD_CTRL_pf_flush = 1) (hen : s.f e.val (RECORD_P_CFG_en p.val) = 1) :
    (pwrFail s).flushedPort e.val p.val ∧ (pwrFail s).f 0 RECORD_PF_tick = s.time.num % 2 ^ 16 ∧ (pwrFail s).f 0 RECORD_PF_flushed = 0 ∧
    (pwrFail s).f 0 RECORD_PF_incomplete = 0 ∧ (pwrFail s).rec_.flush = true ∧ (pwrFail s).pwr.pwrfailLow = true := by
  obtain ⟨hlive0, hlivee⟩ := hlive
  obtain ⟨⟨hpwr, hpf, -⟩, hport⟩ := State.portsFlushed_leaves e p hlivee hen
  rw [pwrFail_flush hlive0 hflush]
  generalize s.portsFlushed = u at hpwr hpf hport
  obtain ⟨htick, hflushed, hincomplete⟩ := State.flushBegun_shows s
  have hread (x : Fld) (hx : x.reg = RECORD_PF) : u.flushOpen.f 0 x = s.flushBegun.f 0 x :=
    (State.f_congr rfl 0 x).trans (State.f_of_rd (hx ▸ hpf))
  refine ⟨hport, (hread _ rfl).trans htick, (hread _ rfl).trans hflushed, (hread _ rfl).trans hincomplete, rfl, ?_⟩
  exact (congrArg PwrSt.pwrfailLow hpwr).trans (congrArg PwrSt.pwrfailLow (State.setFs_pwr ..))

end Sys2Proof.Machine
end

section
/-! SUPPORT. The directory of the record service and the end of its flush (R391 to R393, R396, R399, R410). -/

namespace Sys2Proof.Machine

/-! ### What an effect on the record service leaves alone -/

/-- From s to t nothing changes but registers, what is put out, and the record service. -/
def State.recFrame (s t : State) : Prop := t.rest = { s.rest with rec_ := t.rec_ }

/-- From s to t nothing changes but the listed fields of registers, what is put out, and the record service. -/
def State.recOnly (s t : State) (l : List (Nat × Fld)) : Prop := s.onlyFields t l ∧ s.recFrame t

section RecFrame
variable {s t u : State} {l : List (Nat × Fld)}

theorem State.recFrame_trans (h : s.recFrame t) (hu : t.recFrame u) : s.recFrame u := by
  unfold State.recFrame at h hu ⊢
  rw [hu, h]

theorem State.recFrame_rest (h : s.recFrame t) (hu : u.rest = t.rest) : s.recFrame u := by
  have hrec : u.rec_ = t.rec_ := (congrArg State.rec_ hu :)
  unfold State.recFrame at h ⊢
  rw [hu, hrec, h]

/-- A command keeps what its effect keeps. -/
theorem State.ended_recFrame (h : s.fresh.recFrame u) : s.recFrame (s.ended u) := congrArg (fun r => (s.ended r).rest) h

theorem State.recFrame.pwr (h : s.recFrame t) : t.pwr = s.pwr := (congrArg State.pwr h :)

theorem State.recOnly_refl (s : State) : s.recOnly s l := ⟨State.onlyFields_refl s l, rfl⟩

theorem State.recOnly_trans (h : s.recOnly t l) (hu : t.recOnly u l) : s.recOnly u l :=
  ⟨State.onlyFields_trans h.1 hu.1, State.recFrame_trans h.2 hu.2⟩

theorem State.recOnly_rec (s : State) (x : RecSt) : s.recOnly { s with rec_ := x } l := ⟨fun _ _ _ => rfl, rfl⟩

theorem State.recOnly_setF (h : s.recOnly t l) (d : Nat) (x : Fld) (v : Nat) (hx : placed (d, x) = true) (hm : (d, x) ∈ l) :
    s.recOnly (t.setF d x v) l := ⟨State.onlyFields_setF h.1 d x v hx hm, State.recFrame_rest h.2 (State.setF_rest ..)⟩

theorem State.ended_recOnly (h : s.fresh.recOnly u l) : s.recOnly (s.ended u) l :=
  ⟨State.onlyFields_regs h.1 (State.ended_regs ..), State.ended_recFrame h.2⟩

end RecFrame

/-! ### An entry is stored (R393) -/

section PutDir
variable {k : Nat} {x : DirEnt} {s : State}

theorem putDir_dirEnt : (putDir k x s).dirEnt k = x := by
  cases hreach : s.mirrorReach with
  | true => rw [putDir_mirrored hreach]; exact KMap.look_put_same ..
  | false => rw [putDir_behind hreach, State.dirEnt, State.setF_rec_]; exact KMap.look_put_same ..

theorem putDir_recOnly {l : List (Nat × Fld)} (hm : (0, RECORD_STAT_mirror_ok) ∈ l) : s.recOnly (putDir k x s) l := by
  cases hreach : s.mirrorReach with
  | true => rw [putDir_mirrored hreach]; exact State.recOnly_rec s _
  | false => rw [putDir_behind hreach]; exact State.recOnly_setF (State.recOnly_rec s _) _ _ 0 (by decide) hm

end PutDir

/-! ### The operations of the directory (R391, R392, R410) -/

/-- A directory operation of an initiator that may not do it is refused (R410). -/
def dirDenied (s : State) : State := (s.evt 0 RECORD_EVT_refused).setF 0 RECORD_DIR_STAT_reason 1

/-- An operation is refused with reason r. -/
def dirRefused (r : Nat) (s : State) : State := s.setF 0 RECORD_DIR_STAT_reason r

/-- An operation stores an entry. -/
def dirStored (k : Nat) (x : DirEnt) (s : State) : State := (putDir k x s).setF 0 RECORD_DIR_STAT_reason 0

/-- The entry that the staged words define (R391, R392). -/
def State.stagedEnt (s : State) : DirEnt :=
  { base := bitsOf s.rec_.stage0 0 28, size := bitsOf s.rec_.stage0 28 4, state := 1, fill := bitsOf s.rec_.stage1 3 1 = 1,
    engine := bitsOf s.rec_.stage1 4 1 = 1, key := bitsOf s.rec_.stage1 9 6, next := bitsOf s.rec_.stage1 16 16 }

/-- The reason that refuses to define entry k as x, in the order of R391. -/
def State.defineReason (s : State) (k : Nat) (x : DirEnt) : Nat :=
  if (s.dirEnt k).state ≠ 0 then 2 else if 10 < x.size then 3 else if x.base % 2 ^ x.size ≠ 0 then 4
  else if setOver s.ddr.sets (x.base * 2 ^ 20) (2 ^ (20 + x.size)) = none then 5 else 0

section DirOps
variable {s : State} {i : Init} {k : Nat} {x : DirEnt}

theorem dirOp_denied (hlive : s.live 0 = true) (hwho : isHawkmoth i = false ∧ isMemAgentOf i 0 = false) (f : Nat → State → State × Nat) :
    dirOp i f s = dirDenied s := by
  simp [dirOp, hlive, dirOwner, hwho, dirDenied]

theorem dirOp_owned (hlive : s.live 0 = true) (hwho : isHawkmoth i = true ∨ isMemAgentOf i 0 = true) (f : Nat → State → State × Nat) :
    dirOp i f s = (f (s.f 0 RECORD_DIR_IDX_index) s).1.setF 0 RECORD_DIR_STAT_reason (f (s.f 0 RECORD_DIR_IDX_index) s).2 := by
  have howner : dirOwner i = true := by simpa [dirOwner] using hwho
  simp [dirOp, hlive, howner]

theorem dirDefine_by_reason (k : Nat) (s : State) : dirDefine k s =
    if s.defineReason k s.stagedEnt = 0 then (putDir k s.stagedEnt s, 0) else (s, s.defineReason k s.stagedEnt) := by
  have hchain : dirDefine k s = if (s.dirEnt k).state ≠ 0 then (s, 2) else if 10 < s.stagedEnt.size then (s, 3)
      else if s.stagedEnt.base % 2 ^ s.stagedEnt.size ≠ 0 then (s, 4)
      else if setOver s.ddr.sets (s.stagedEnt.base * 2 ^ 20) (2 ^ (20 + s.stagedEnt.size)) = none then (s, 5)
      else (putDir k s.stagedEnt s, 0) := by
    simp only [dirDefine, Option.isNone_iff_eq_none]
    rfl
  rw [hchain, State.defineReason]
  split_ifs <;> simp_all

/-- A define by an owner of the directory is refused with its reason, or stores the staged entry (R391). -/
theorem dirOp_define (hlive : s.live 0 = true) (hwho : isHawkmoth i = true ∨ isMemAgentOf i 0 = true)
    (hk : k = s.f 0 RECORD_DIR_IDX_index) : dirOp i dirDefine s =
    if s.defineReason k s.stagedEnt = 0 then dirStored k s.stagedEnt s else dirRefused (s.defineReason k s.stagedEnt) s := by
  rw [dirOp_owned hlive hwho, ← hk, dirDefine_by_reason]
  split <;> rfl

/-- A release of a BOUND entry is refused, of another stores a FREE one (R410). -/
theorem dirOp_release (hlive : s.live 0 = true) (hwho : isHawkmoth i = true ∨ isMemAgentOf i 0 = true)
    (hk : k = s.f 0 RECORD_DIR_IDX_index) : dirOp i dirRelease s =
    if (s.dirEnt k).state = 2 then dirRefused 6 s else dirStored k {} s := by
  rw [dirOp_owned hlive hwho, ← hk, dirRelease]
  split <;> rfl

/-- An empty stores the entry without its records (R410). -/
theorem dirOp_empty (hlive : s.live 0 = true) (hwho : isHawkmoth i = true ∨ isMemAgentOf i 0 = true)
    (hk : k = s.f 0 RECORD_DIR_IDX_index) : dirOp i dirEmpty s =
    dirStored k { s.dirEnt k with oldest := (s.dirEnt k).commit, records := 0, tOld := 0, tNew := 0, held := [] } s := by
  rw [dirOp_owned hlive hwho, ← hk]
  rfl

theorem State.defineReason_lt : s.defineReason k x < 16 := by
  unfold State.defineReason
  split_ifs <;> decide

theorem dirDenied_regsOnly : s.regsOnly (dirDenied s) [(0, RECORD_DIR_STAT_reason), (0, RECORD_EVT_refused)] :=
  State.regsOnly_setF (State.regsOnly_setF (State.regsOnly_refl s _) 0 _ 1 (by decide) (by simp)) 0 _ 1 (by decide) (by simp)

theorem dirDenied_reads : (dirDenied s).f 0 RECORD_DIR_STAT_reason = 1 ∧ (dirDenied s).f 0 RECORD_EVT_refused = 1 :=
  ⟨State.f_setF_same _ _ _ _ (by decide),
    (State.f_setF_clear _ 0 0 _ _ 1 (by decide) (by decide) (by decide)).trans (State.f_setF_same s _ _ _ (by decide))⟩

theorem dirRefused_reason {r : Nat} (hr : r < 16) : (dirRefused r s).f 0 RECORD_DIR_STAT_reason = r :=
  State.f_setF_fits s _ _ _ (by decide) hr

theorem dirRefused_rec (r : Nat) : (dirRefused r s).rec_ = s.rec_ := State.setF_rec_ ..

theorem dirRefused_recOnly {l : List (Nat × Fld)} (r : Nat) (hm : (0, RECORD_DIR_STAT_reason) ∈ l) : s.recOnly (dirRefused r s) l :=
  State.recOnly_setF (State.recOnly_refl s) _ _ r (by decide) hm

theorem dirStored_reason : (dirStored k x s).f 0 RECORD_DIR_STAT_reason = 0 := State.f_setF_same _ _ _ _ (by decide)

theorem dirStored_dirEnt : (dirStored k x s).dirEnt k = x := by
  rw [dirStored, State.dirEnt, State.setF_rec_]
  exact putDir_dirEnt

theorem dirStored_mirror (h : s.mirrorReach = true) : KMap.look (dirStored k x s).rec_.mirror k = x := by
  rw [dirStored, State.setF_rec_, putDir_mirrored h]
  exact KMap.look_put_same ..

theorem dirStored_mirror_behind (h : s.mirrorReach = false) : (dirStored k x s).f 0 RECORD_STAT_mirror_ok = 0 := by
  rw [dirStored, putDir_behind h, State.f_setF_clear _ 0 0 _ _ 0 (by decide) (by decide) (by decide)]
  exact State.f_setF_same _ _ _ _ (by decide)

theorem dirStored_recOnly : s.recOnly (dirStored k x s) [(0, RECORD_DIR_STAT_reason), (0, RECORD_STAT_mirror_ok)] :=
  State.recOnly_setF (putDir_recOnly (by simp)) _ _ 0 (by decide) (by simp)

end DirOps

/-! ### The mirror is rewritten (R393) -/

/-- The mirror is the primary again, and `mirror_ok` says so. -/
def mirrorRewritten (s : State) : State := (s.withDir s.rec_.dir s.rec_.dir).setF 0 RECORD_STAT_mirror_ok 1

section Mirror
variable {s : State}

theorem mirrorDone_reached (h : s.mirrorReach = true) : mirrorDone s = mirrorRewritten s := if_pos h

theorem mirrorRewritten_rec : (mirrorRewritten s).rec_ = { s.rec_ with mirror := s.rec_.dir } := State.setF_rec_ ..

theorem mirrorRewritten_ok : (mirrorRewritten s).f 0 RECORD_STAT_mirror_ok = 1 := State.f_setF_same _ _ _ _ (by decide)

theorem mirrorRewritten_recOnly {l : List (Nat × Fld)} (hm : (0, RECORD_STAT_mirror_ok) ∈ l) : s.recOnly (mirrorRewritten s) l :=
  State.recOnly_setF (State.recOnly_rec s _) _ _ 1 (by decide) hm

end Mirror

/-! ### The commit at the end of the flush (R396, R399) -/

section Commit
variable {s : State} {e p : Nat} {r : RecRef}

/-- The commit of a port that holds nothing does nothing. -/
theorem commitPort_unlisted (h : ∀ y ∈ s.rec_.port, y.1 ≠ e * 16 + p) : commitPort e p s = s := by
  have hlook : s.recPort e p = default := KMap.look_unlisted h
  have hput : s.setRecPort e p default = s := by
    rw [State.setRecPort, KMap.put, KMap.putD, if_pos rfl, KMap.del_unlisted h]
  simp only [commitPort, hlook, show (default : RecPort).recs = [] from rfl, commitRecs, List.map_nil, State.each_nil]
  exact hput

/-- A port's only record is complete, and commits: the entry takes it, and is IDLE where no port has it bound. -/
theorem commitPort_one (hrecs : (s.recPort e p).recs = [r]) (hdone : r.closed = true ∧ r.left = 0)
    (hstate : (s.dirEnt r.entry).state ≠ 0 ∧ (s.dirEnt r.entry).state ≠ 4) : commitPort e p s =
    settleEntry r.entry ((putDir r.entry ((s.dirEnt r.entry).take r) s).setRecPort e p { s.recPort e p with recs := [] }) := by
  obtain ⟨hclosed, hleft⟩ := hdone
  simp [commitPort, hrecs, commitRecs, hclosed, hleft, hstate]

/-- A write of the directory changes the directory and its mirror only. -/
theorem putDir_rec (k : Nat) (x : DirEnt) (s : State) : ∃ dir mirror, (putDir k x s).rec_ = { s.rec_ with dir := dir, mirror := mirror } := by
  cases hreach : s.mirrorReach with
  | true => rw [putDir_mirrored hreach]; exact ⟨_, _, rfl⟩
  | false => rw [putDir_behind hreach, State.setF_rec_]; exact ⟨_, _, rfl⟩

theorem settleEntry_rec (k : Nat) (s : State) : ∃ dir mirror, (settleEntry k s).rec_ = { s.rec_ with dir := dir, mirror := mirror } := by
  unfold settleEntry
  dsimp only
  split
  · exact putDir_rec ..
  · exact ⟨_, _, rfl⟩

/-- An entry that is settled changes its state at most (R394). -/
theorem settleEntry_dirEnt (k : Nat) (s : State) : ∃ st, (settleEntry k s).dirEnt k = { s.dirEnt k with state := st } := by
  unfold settleEntry
  dsimp only
  split
  · exact ⟨1, putDir_dirEnt⟩
  · exact ⟨_, rfl⟩

theorem settleEntry_recOnly {l : List (Nat × Fld)} (hm : (0, RECORD_STAT_mirror_ok) ∈ l) (k : Nat) (s : State) :
    s.recOnly (settleEntry k s) l := by
  unfold settleEntry
  dsimp only
  split
  · exact putDir_recOnly hm
  · exact State.recOnly_refl s

section One
variable (hrecs : (s.recPort e p).recs = [r]) (hdone : r.closed = true ∧ r.left = 0)
  (hstate : (s.dirEnt r.entry).state ≠ 0 ∧ (s.dirEnt r.entry).state ≠ 4)
include hrecs hdone hstate

theorem commitPort_one_dirEnt : ∃ st, (commitPort e p s).dirEnt r.entry = { (s.dirEnt r.entry).take r with state := st } := by
  rw [commitPort_one hrecs hdone hstate]
  obtain ⟨st, hst⟩ := settleEntry_dirEnt r.entry
    ((putDir r.entry ((s.dirEnt r.entry).take r) s).setRecPort e p { s.recPort e p with recs := [] })
  exact ⟨st, hst.trans (congrArg (fun y : DirEnt => { y with state := st }) putDir_dirEnt)⟩

theorem commitPort_one_recs : ((commitPort e p s).recPort e p).recs = [] := by
  rw [commitPort_one hrecs hdone hstate, settleEntry_recPort, State.setRecPort_recPort]

theorem commitPort_one_rec : ∃ dir mirror, (commitPort e p s).rec_ =
    { s.rec_ with port := KMap.put s.rec_.port (e * 16 + p) { s.recPort e p with recs := [] }, dir := dir, mirror := mirror } := by
  rw [commitPort_one hrecs hdone hstate]
  obtain ⟨dir, mirror, hput⟩ := putDir_rec r.entry ((s.dirEnt r.entry).take r) s
  obtain ⟨dir', mirror', hsettled⟩ := settleEntry_rec r.entry
    ((putDir r.entry ((s.dirEnt r.entry).take r) s).setRecPort e p { s.recPort e p with recs := [] })
  exact ⟨dir', mirror', by rw [hsettled, State.setRecPort, hput]⟩

theorem commitPort_one_recOnly {l : List (Nat × Fld)} (hm : (0, RECORD_STAT_mirror_ok) ∈ l) : s.recOnly (commitPort e p s) l := by
  rw [commitPort_one hrecs hdone hstate]
  exact State.recOnly_trans (State.recOnly_trans (putDir_recOnly hm) (State.recOnly_rec _ _)) (settleEntry_recOnly hm ..)

end One

/-- What leaves a state as it is, for each element of a list. -/
theorem State.each_same {α : Type} {f : State → α → State} {l : List α} (h : ∀ a ∈ l, f s a = s) : s.each l f = s :=
  State.each_keeps (fun u => u = s) f l (fun _ a ha hu => hu ▸ h a ha) s rfl

/-- A change for each element of a list, where only one element changes anything. -/
theorem State.each_one {α : Type} {f : State → α → State} {l : List α} {a : α} (ha : a ∈ l) (hnodup : l.Nodup)
    (hother : ∀ b ∈ l, b ≠ a → f s b = s ∧ f (f s a) b = f s a) : s.each l f = f s a := by
  induction l with
  | nil => simp at ha
  | cons b l ih =>
    obtain ⟨hb, hl⟩ := List.nodup_cons.mp hnodup
    rw [State.each_cons]
    obtain rfl | ha := List.mem_cons.mp ha
    · exact State.each_same fun c hc => (hother c (List.mem_cons_of_mem _ hc) fun heq => hb (heq ▸ hc)).2
    · rw [(hother b List.mem_cons_self fun heq => hb (heq ▸ ha)).1]
      exact ih ha hl fun c hc => hother c (List.mem_cons_of_mem _ hc)

theorem recPorts_lt : ∀ q ∈ recPorts, q < 16 := by decide

/-- The commit of an engine none of whose ports is listed does nothing. -/
theorem commitEngine_unlisted {e' : Nat} (h : ∀ y ∈ s.rec_.port, y.1 = e * 16 + p) (hp : p < 16) (he : e' ≠ e) :
    commitEngine e' s = s := by
  refine State.each_same fun q hq => commitPort_unlisted fun y hy => ?_
  have := h y hy
  have := recPorts_lt q hq
  omega

/-- The commit of an engine with one port listed is that of the port. -/
theorem commitEngine_listed (h : ∀ y ∈ s.rec_.port, y.1 = e * 16 + p) (hu : ∀ y ∈ (commitPort e p s).rec_.port, y.1 = e * 16 + p)
    (hp : p ∈ recPorts) : commitEngine e s = commitPort e p s := by
  refine State.each_one hp (by decide) fun q _ hq => ⟨commitPort_unlisted fun y hy => ?_, commitPort_unlisted fun y hy => ?_⟩
  · have := h y hy
    omega
  · have := hu y hy
    omega

/-- Where ION can write and neither engine is late, both engines commit, IOS first (R396). -/
theorem commitAll_both {t : State} (ht : commitEngine 0 s = t) (hreach : s.mirrorReach = true)
    (hlate : s.lateDuty 0 2 = false ∧ s.lateDuty 1 2 = false) : commitAll true s = commitEngine 1 t := by
  obtain ⟨-, hrest⟩ : s.recordsOnly t := ht ▸ commitEngine_recordsOnly 0 s
  have hpwr : t.pwr = s.pwr := (congrArg State.pwr hrest :)
  have hfenced : t.statusFenced = s.statusFenced := (congrArg State.statusFenced hrest :)
  have htick : t.tick = s.tick := (congrArg State.tick hrest :)
  have hreach' : t.mirrorReach = true := by
    rw [← hreach, State.mirrorReach, State.mirrorReach, State.dieFenced, State.dieFenced, State.live, State.live, hpwr, hfenced]
  obtain ⟨hlate0, hlate1⟩ := hlate
  have hlate' : t.lateDuty 1 2 = false := by rw [← hlate1, State.lateDuty, State.lateDuty, htick]
  simp only [commitAll, hlate0, ht, hreach', hlate', Bool.false_eq_true, if_false, Bool.and_true, Bool.not_false, if_true]

/-- The commit of both engines is that of the only port listed (R396). -/
theorem commitAll_listed (h : ∀ y ∈ s.rec_.port, y.1 = e * 16 + p) (hu : ∀ y ∈ (commitPort e p s).rec_.port, y.1 = e * 16 + p)
    (hp : p ∈ recPorts) (he : e < 2) (hreach : s.mirrorReach = true) (hlate : s.lateDuty 0 2 = false ∧ s.lateDuty 1 2 = false) :
    commitAll true s = commitPort e p s := by
  have hp16 : p < 16 := recPorts_lt p hp
  obtain rfl | rfl : e = 0 ∨ e = 1 := by omega
  · rw [commitAll_both (commitEngine_listed h hu hp) hreach hlate]
    exact commitEngine_unlisted hu hp16 (by decide)
  · rw [commitAll_both (commitEngine_unlisted h hp16 (by decide)) hreach hlate]
    exact commitEngine_listed h hu hp

end Commit

/-! ### The end of the flush (R399) -/

/-- The flush no longer stands open. -/
def State.flushClosed (s : State) : State := { s with rec_ := { s.rec_ with flush := false } }

/-- The end of a flush is shown, in time or not, on both engines. -/
def flushShown (inTime : Bool) (s : State) : State :=
  ((if inTime then s.setF 0 RECORD_PF_flushed 1 else s.setF 0 RECORD_PF_incomplete 1).evt 0 RECORD_EVT_flush_done).evt 1 RECORD_EVT_flush_done

section FlushShown
variable {s : State} (inTime : Bool)

theorem flushShown_rest : (flushShown inTime s).rest = s.rest := by
  cases inTime <;> simp [flushShown]

theorem flushShown_rec : (flushShown inTime s).rec_ = s.rec_ := (congrArg State.rec_ (flushShown_rest (s := s) inTime) :)

theorem flushShown_event : (flushShown inTime s).f 0 RECORD_EVT_flush_done = 1 := by
  rw [flushShown, State.evt, State.f_setF_clear _ 1 0 _ _ 1 (by decide) (by decide) (by decide)]
  exact State.f_setF_same _ _ _ _ (by decide)

theorem flushShown_end : if inTime = true then (flushShown inTime s).f 0 RECORD_PF_flushed = 1
    else (flushShown inTime s).f 0 RECORD_PF_incomplete = 1 := by
  have hevents (t : State) (x : Fld) (hx : x.reg = RECORD_PF) (hfit : x.lo + x.len ≤ 32) :
      ((t.evt 0 RECORD_EVT_flush_done).evt 1 RECORD_EVT_flush_done).f 0 x = t.f 0 x := by
    have hne : regKey 0 x.reg ≠ regKey 1 RECORD_EVT ∧ regKey 0 x.reg ≠ regKey 0 RECORD_EVT := by rw [hx]; decide
    exact (State.f_setF_reg _ 1 0 _ x 1 hne.1).trans (State.f_setF_reg t 0 0 _ x 1 hne.2)
  cases inTime
  · exact (hevents _ RECORD_PF_incomplete rfl (by decide)).trans (State.f_setF_same s _ _ _ (by decide))
  · exact (hevents _ RECORD_PF_flushed rfl (by decide)).trans (State.f_setF_same s _ _ _ (by decide))

theorem flushShown_pages : s.onlyPages (flushShown inTime s) [(0, 0x20), (1, 0x20)] := by
  have hend : s.onlyPages (if inTime then s.setF 0 RECORD_PF_flushed 1 else s.setF 0 RECORD_PF_incomplete 1) [(0, 0x20), (1, 0x20)] := by
    cases inTime <;> exact State.onlyPages_setF (State.onlyPages_refl s _) 0 _ 1 (by decide) (by decide)
  exact State.onlyPages_evt (State.onlyPages_evt hend 0 _ (by decide) (by decide)) 1 _ (by decide) (by decide)

end FlushShown

/-- What a commit of one record and the shown end of its flush leave (R396, R399). -/
theorem flushShown_leaves {s t : State} {inTime : Bool} {e p : Nat} {r : RecRef}
    (hheld : (s.flushClosed.recPort e p).recs = [r]) (hdone : r.closed = true ∧ r.left = 0)
    (hstate : (s.dirEnt r.entry).state ≠ 0 ∧ (s.dirEnt r.entry).state ≠ 4) (ht : commitPort e p s.flushClosed = t) :
    (flushShown inTime t).rec_.flush = false ∧
    (∃ st, (flushShown inTime t).dirEnt r.entry = { (s.dirEnt r.entry).take r with state := st }) ∧
    ((flushShown inTime t).recPort e p).recs = [] ∧
    s.onlyPages (flushShown inTime t) [(0, 0x20), (1, 0x20)] ∧ s.recFrame (flushShown inTime t) := by
  obtain ⟨dir, mirror, hrec⟩ := commitPort_one_rec hheld hdone hstate
  obtain ⟨st, hent⟩ := commitPort_one_dirEnt hheld hdone hstate
  have hnone := commitPort_one_recs hheld hdone hstate
  have honly : s.recOnly (commitPort e p s.flushClosed) [(0, RECORD_STAT_mirror_ok)] :=
    State.recOnly_trans (State.recOnly_rec s _) (commitPort_one_recOnly hheld hdone hstate List.mem_cons_self)
  rw [ht] at hrec hent hnone honly
  obtain ⟨hfields, hframe⟩ := honly
  have hshown := flushShown_rec (s := t) inTime
  refine ⟨?_, ⟨st, ?_⟩, ?_, ?_, State.recFrame_rest hframe (flushShown_rest inTime)⟩
  · rw [hshown, hrec]
    rfl
  · rw [State.dirEnt, hshown]
    exact hent
  · rw [State.recPort, hshown]
    exact hnone
  · exact State.onlyPages_trans (State.onlyPages_of_onlyFields hfields (by simp [RECORD_STAT])) (flushShown_pages inTime)

section Flush
variable {s : State} {e p : Nat}

/-- At the end of the flush, with every write answered and no test period, the only port listed commits, and the end is shown. -/
theorem flushDone_listed {inTime : Bool} (hflush : s.rec_.flush = true) (hsent : ∀ e' p', (s.recPort e' p').sent = [])
    (hperiod : s.testPeriod = false) (hreach : s.mirrorReach = true)
    (hcommit : commitAll true s.flushClosed = commitPort e p s.flushClosed) (hpwr : (commitPort e p s.flushClosed).pwr = s.pwr) :
    flushDone inTime s = flushShown inTime (commitPort e p s.flushClosed) := by
  have hlive : s.live 1 = true := by
    simp only [State.mirrorReach, State.dieFenced, Bool.not_or, Bool.not_not, Bool.and_eq_true] at hreach
    exact hreach.2
  unfold flushDone
  extract_lets idle held closed committed shown
  have hidle : idle = true := by simp [idle, hsent]
  have hdue : (idle && !closed.testPeriod) = true := by rw [hidle, show closed.testPeriod = s.testPeriod from rfl, hperiod]; rfl
  have hcommitted : committed = commitPort e p s.flushClosed := (if_pos hdue).trans hcommit
  have hshown : shown.pwr = s.pwr := by
    rw [← hpwr, ← hcommitted]
    simp only [shown]
    split <;> exact State.setF_pwr ..
  rw [if_neg (by simp [hflush]), show shown.live 1 = true from (congrArg (fun y : PwrSt => KMap.look y.live 1) hshown).trans hlive,
    State.when_true, flushShown, ← hcommitted]
  simp only [shown, hidle, Bool.and_true]

end Flush

theorem mem_recPorts : ∀ p : Fin 16, p.val ∈ recPorts := by decide

section OneListed
variable {s : State} {e : IoDie} {p : Fin 16} {x : RecPort} {r : RecRef} (hport : s.rec_.port = [(e.val * 16 + p.val, x)])
include hport

/-- The only port listed. -/
theorem State.recPort_listed : s.recPort e.val p.val = x := by
  rw [State.recPort, hport, KMap.look, KMap.lookD, if_pos rfl]

/-- No write is unanswered where none of the only port listed is. -/
theorem State.sent_listed (hsent : x.sent = []) (e' p' : Nat) : (s.recPort e' p').sent = [] := by
  rw [State.recPort, hport, KMap.look, KMap.lookD]
  split
  · exact hsent
  · rfl

/-- The commit of both engines is that of the only port listed, whose only record is complete (R396). -/
theorem commitAll_one (hrecs : x.recs = [r]) (hdone : r.closed = true ∧ r.left = 0)
    (hstate : (s.dirEnt r.entry).state ≠ 0 ∧ (s.dirEnt r.entry).state ≠ 4) (hreach : s.mirrorReach = true)
    (hlate : s.lateDuty 0 2 = false ∧ s.lateDuty 1 2 = false) : commitAll true s = commitPort e.val p.val s := by
  have hlisted : ∀ y ∈ s.rec_.port, y.1 = e.val * 16 + p.val := by simp [hport]
  have hheld : (s.recPort e.val p.val).recs = [r] := by rw [State.recPort_listed hport, hrecs]
  obtain ⟨dir, mirror, hrec⟩ := commitPort_one_rec hheld hdone hstate
  exact commitAll_listed hlisted (by rw [hrec]; exact KMap.put_listed hlisted _) (mem_recPorts p) e.isLt hreach hlate

/-- The end of the flush with one complete record held, where ION can write and neither engine is late: the record is committed, and the end
is shown (R396, R399). -/
theorem flushDone_one {inTime : Bool} (hflush : s.rec_.flush = true) (hx : x.sent = [] ∧ x.recs = [r])
    (hdone : r.closed = true ∧ r.left = 0) (hstate : (s.dirEnt r.entry).state ≠ 0 ∧ (s.dirEnt r.entry).state ≠ 4)
    (hfenced : s.dieFenced 1 = false) (hlate : s.lateDuty 0 2 = false ∧ s.lateDuty 1 2 = false) (hperiod : 80 ≤ s.time.p) :
    flushDone inTime s = flushShown inTime (commitPort e.val p.val s.flushClosed) := by
  obtain ⟨hsent, hrecs⟩ := hx
  have hreach : s.mirrorReach = true := by rw [State.mirrorReach, hfenced]; rfl
  have hheld : (s.flushClosed.recPort e.val p.val).recs = [r] := by rw [State.recPort_listed (s := s.flushClosed) hport, hrecs]
  have hframe : s.flushClosed.recFrame (commitPort e.val p.val s.flushClosed) :=
    (commitPort_one_recOnly (l := [(0, RECORD_STAT_mirror_ok)]) hheld hdone hstate (by simp)).2
  exact flushDone_listed hflush (State.sent_listed hport hsent) (State.testPeriod_of hperiod) hreach
    (commitAll_one (s := s.flushClosed) hport hrecs hdone hstate hreach hlate) hframe.pwr

end OneListed

end Sys2Proof.Machine
end

section
/-! SUPPORT. The directory of the record service and its flush (13): that entries are defined, released, emptied, mirrored and flushed as chapter
13 says. -/

namespace Sys2Proof.Machine

/-! ### The obligation -/

/-- Settles O52: the operations of the directory by R391, R392 and R410, the rewrite of its mirror by R393, and the flush by R399. -/
theorem directoryIsDefinedMirroredAndFlushed : Obligations.DirectoryIsDefinedMirroredAndFlushed := by
  unfold Obligations.DirectoryIsDefinedMirroredAndFlushed
  refine ⟨fun s i hlive hwho => ?_, fun s i k r x hlive hwho hk hx hr => ?_, fun s i k hlive hwho hk => ?_, fun s i k hlive hwho hk => ?_,
    fun s hfenced => ?_, fun s hflush => ?_, fun s e p hlive hflush hen => ?_,
    fun s inTime e p x r hflush hport hx hdone hstate hready => ?_⟩
  · -- an operation by another initiator
    have hdenied (f : Nat → State → State × Nat) : dirOp i f s.fresh = dirDenied s.fresh := dirOp_denied (s := s.fresh) hlive hwho f
    obtain ⟨hreason, hrefused⟩ := dirDenied_reads (s := s.fresh)
    have hends (f : Nat → State → State × Nat) : run (dirOp i f) s = .next (s.ended (dirDenied s.fresh)) := by rw [run, hdenied]
    exact ⟨_, hends dirDefine, by rw [State.ended_f, hreason], by rw [State.ended_f, hrefused],
      State.ended_regsOnly dirDenied_regsOnly, hends dirRelease, hends dirEmpty⟩
  · -- a define
    subst hx
    refine exec_answers (exec_dirDefine i s) ?_
    rw [dirOp_define (s := s.fresh) hlive hwho (hk.trans (State.fresh_f ..).symm),
      show s.fresh.defineReason k s.fresh.stagedEnt = r from hr.symm]
    by_cases hzero : r = 0
    · rw [if_pos hzero]
      obtain ⟨-, hframe⟩ := State.ended_recOnly (s := s) (dirStored_recOnly (s := s.fresh) (k := k) (x := s.stagedEnt))
      refine ⟨(State.ended_f ..).trans (dirStored_reason.trans hzero.symm), fun hne => absurd hzero hne, fun _ => ?_, hframe⟩
      exact ⟨dirStored_dirEnt (s := s.fresh), fun hreach => dirStored_mirror (s := s.fresh) hreach,
        fun hreach => (State.ended_f ..).trans (dirStored_mirror_behind (s := s.fresh) hreach)⟩
    · rw [if_neg hzero]
      have hfits : r < 16 := hr ▸ State.defineReason_lt (s := s) (k := k) (x := s.stagedEnt)
      obtain ⟨honly, hframe⟩ := State.ended_recOnly (s := s) (dirRefused_recOnly (s := s.fresh) r List.mem_cons_self)
      exact ⟨(State.ended_f ..).trans (dirRefused_reason hfits), fun _ => ⟨dirRefused_rec (s := s.fresh) r, honly⟩,
        fun h => absurd h hzero, hframe⟩
  · -- a release
    refine exec_answers (exec_dirRelease i s) ?_
    rw [dirOp_release (s := s.fresh) hlive hwho (hk.trans (State.fresh_f ..).symm)]
    by_cases hbound : (s.dirEnt k).state = 2
    · rw [if_pos (show (s.fresh.dirEnt k).state = 2 from hbound)]
      obtain ⟨honly, hframe⟩ := State.ended_recOnly (s := s) (dirRefused_recOnly (s := s.fresh) 6 List.mem_cons_self)
      exact ⟨fun _ => ⟨(State.ended_f ..).trans (dirRefused_reason (by decide)), dirRefused_rec (s := s.fresh) 6⟩,
        fun hne => absurd hbound hne, honly, hframe⟩
    · rw [if_neg (show ¬ (s.fresh.dirEnt k).state = 2 from hbound)]
      obtain ⟨honly, hframe⟩ := State.ended_recOnly (s := s) (dirStored_recOnly (s := s.fresh) (k := k) (x := {}))
      exact ⟨fun h => absurd h hbound, fun _ => ⟨(State.ended_f ..).trans dirStored_reason,
        congrArg DirEnt.state (dirStored_dirEnt (s := s.fresh) (k := k) (x := {}))⟩, honly, hframe⟩
  · -- an empty
    refine exec_answers (exec_dirEmpty i s) ?_
    rw [dirOp_empty (s := s.fresh) hlive hwho (hk.trans (State.fresh_f ..).symm)]
    obtain ⟨honly, hframe⟩ := State.ended_recOnly (s := s) (dirStored_recOnly (s := s.fresh) (k := k)
      (x := { s.dirEnt k with oldest := (s.dirEnt k).commit, records := 0, tOld := 0, tNew := 0, held := [] }))
    exact ⟨dirStored_dirEnt (s := s.fresh), (State.ended_f ..).trans dirStored_reason, honly, hframe⟩
  · -- the mirror
    refine exec_answers (exec_dirMirrorRebuildDone s) ?_
    have hreach : s.fresh.mirrorReach = true := congrArg (!·) hfenced
    rw [mirrorDone_reached hreach]
    obtain ⟨honly, hframe⟩ := State.ended_recOnly (s := s) (mirrorRewritten_recOnly (s := s.fresh) List.mem_cons_self)
    exact ⟨mirrorRewritten_rec (s := s.fresh), (State.ended_f ..).trans mirrorRewritten_ok, honly, hframe⟩
  · -- PWRFAIL# without pf_flush
    exact ⟨_, exec_pwrfail s, by rw [pwrFail_low (s := s.fresh) ((State.fresh_f ..).trans hflush)]; rfl⟩
  · -- with it
    refine exec_answers (exec_pwrfail s) ?_
    obtain ⟨⟨hstate, hreason, hopen, hentry⟩, htick, hflushed, hincomplete, hstands, hlow⟩ :=
      pwrFail_leaves (s := s.fresh) e p hlive ((State.fresh_f ..).trans hflush) ((State.fresh_f ..).trans hen)
    generalize pwrFail s.fresh = u at hstate hreason hopen hentry htick hflushed hincomplete hstands hlow
    exact ⟨(State.ended_f ..).trans hstate, (State.ended_f ..).trans hreason, hopen, hentry, (State.ended_f ..).trans htick,
      (State.ended_f ..).trans hflushed, (State.ended_f ..).trans hincomplete, hstands, hlow⟩
  · -- the end of the flush
    obtain ⟨hfenced, hlate0, hlate1, hperiod⟩ := hready
    refine exec_answers (exec_powerFailFlushDone inTime s) ?_
    rw [flushDone_one (s := s.fresh) hport hflush hx hdone hstate hfenced ⟨hlate0, hlate1⟩ hperiod]
    obtain ⟨-, hrecs⟩ := hx
    have hheld : (s.fresh.flushClosed.recPort e.val p.val).recs = [r] := (congrArg RecPort.recs (State.recPort_listed hport)).trans hrecs
    generalize ht : commitPort e.val p.val s.fresh.flushClosed = t
    obtain ⟨hclosed, ⟨st, hent⟩, hnone, hpages, hframe⟩ := flushShown_leaves (inTime := inTime) hheld hdone hstate ht
    have hend : if inTime = true then (s.ended (flushShown inTime t)).f 0 RECORD_PF_flushed = 1
        else (s.ended (flushShown inTime t)).f 0 RECORD_PF_incomplete = 1 := by
      rw [State.ended_f, State.ended_f]
      exact flushShown_end inTime
    exact ⟨hclosed, congrArg DirEnt.commit hent, congrArg DirEnt.records hent, congrArg DirEnt.tNew hent, hnone, hend,
      (State.ended_f ..).trans (flushShown_event inTime), hpages, State.ended_recFrame hframe⟩

end Sys2Proof.Machine
end

section
/-! SUPPORT. Loads and staging (14): what ends and begins a load, and the staging halves (R419, R423, R425, R431, R433 to R435). -/

namespace Sys2Proof.Machine

/-! ### Bits -/

/-- A field that reads 1 is on. -/
theorem State.on_of_one {s : State} {d : Nat} {x : Fld} (h : s.f d x = 1) : s.on d x = true := by simp [State.on, h]

/-- A field that reads 0 is not on. -/
theorem State.on_of_zero {s : State} {d : Nat} {x : Fld} (h : s.f d x = 0) : s.on d x = false := by simp [State.on, h]

/-! ### What an effect on the load leaves alone -/

/-- A command whose effect leaves the queue, the time and the fuses answers the state that its effect leaves. -/
theorem exec_next_self {c : Instr} {f : State → State} {s u : State} (hc : exec c s = run f s) (hu : f s.fresh = u) (hself : s.ended u = u) :
    exec c s = .next u := by rw [hc, run, hu, hself]

/-- From s to t nothing changes but the load, the start, the registers and what is put out. -/
def State.loadFrame (s t : State) : Prop := t.rest = { s.rest with fab := t.fab, start := t.start }

section LoadFrame
variable {s t u : State}

theorem State.loadFrame_trans (h : s.loadFrame t) (hu : t.loadFrame u) : s.loadFrame u := by
  unfold State.loadFrame at h hu ⊢
  rw [hu, h]

/-- An effect that leaves all but registers and outputs keeps the frame. -/
theorem State.loadFrame_rest (h : s.loadFrame t) (hu : u.rest = t.rest) : s.loadFrame u := by
  have hfab : u.fab = t.fab := (congrArg State.fab hu :)
  have hstart : u.start = t.start := (congrArg State.start hu :)
  unfold State.loadFrame at h ⊢
  rw [hu, hfab, hstart, h]

/-- Such an effect leaves the queue, the time and the fuses. -/
theorem State.loadFrame.ended_self (h : s.fresh.loadFrame u) : s.ended u = u := by
  have hpend : u.pending = s.pending := (congrArg State.pending h :)
  have htime : u.time = s.time := (congrArg State.time h :)
  have hfuses : u.fuses = s.fuses := (congrArg State.fuses h :)
  rw [State.ended, ← hpend, ← htime, ← hfuses]

end LoadFrame

/-! ### Staging opens and closes (R431) -/

section Staging
variable {s : State}

/-- Staging opens and closes in the fields of `CFG_STG_STAT` alone. -/
theorem openStaging_f_clear {d : Nat} {x : Fld} (hx : placed (d, x) = true) (hreg : x.reg ≠ CFG_STG_STAT) :
    (openStaging s).f d x = s.f d x := by
  refine (State.f_setFs_clear _ 0 _ hx ?_).trans (State.f_congr rfl d x)
  simp [placed_iff, apart_iff, hreg.symm, CFG_STG_STAT]

theorem openStaging_load : (openStaging s).fab.load = s.fab.load := by simp [openStaging]

theorem openStaging_loadFrame : s.loadFrame (openStaging s) := by
  simp only [openStaging, State.loadFrame, State.setFs_rest, State.setFs_fab, State.setFs_start]
  rfl

theorem openStaging_onlyPages : s.onlyPages (openStaging s) [(0, 0x06)] :=
  State.onlyPages_setFs 0 _ (State.onlyPages_regs (State.onlyPages_refl s _) rfl) (by decide)

theorem closeStaging_f_clear {d : Nat} {x : Fld} (hx : placed (d, x) = true) (hreg : x.reg ≠ CFG_STG_STAT) :
    (closeStaging s).f d x = s.f d x :=
  State.f_setFs_clear _ 0 _ hx (by simp [placed_iff, apart_iff, hreg.symm, CFG_STG_STAT])

theorem closeStaging_open : (closeStaging s).f 0 CFG_STG_STAT_open = 0 := State.f_setFs_cons _ 0 _ _ _ (by decide) (by decide)

/-! ### A load ends (R419, R434) -/

theorem endLoad_load : (endLoad s).fab.load = none := by simp [endLoad, closeStaging, State.setLoad]

theorem endLoad_open : (endLoad s).f 0 CFG_STG_STAT_open = 0 := closeStaging_open

theorem endLoad_busy : (endLoad s).f 0 CFG_STAT_busy = 0 :=
  (closeStaging_f_clear (by decide) (by decide)).trans (State.f_setF_fits _ 0 _ 0 (by decide) (by decide))

/-- A field of IOS beside `CFG_STAT.busy` and `CFG_STG_STAT` reads as before once the load has ended. -/
theorem endLoad_f_clear {x : Fld} (hx : placed (0, x) = true) (hreg : x.reg ≠ CFG_STG_STAT)
    (hbusy : apart (0, CFG_STAT_busy) (0, x) = true) : (endLoad s).f 0 x = s.f 0 x :=
  (closeStaging_f_clear hx hreg).trans ((State.f_setF_clear _ 0 0 _ x 0 (by decide) hx hbusy).trans (State.f_congr rfl 0 x))

/-- A load that ends for a reason, with its event: the reason's field and the event read what was stored. -/
theorem endLoad_shown {x e : Fld} {v : Nat} (hx : placed (0, x) = true ∧ x.reg = CFG_STAT ∧ apart (0, CFG_STAT_busy) (0, x) = true)
    (he : placed (0, e) = true ∧ e.reg = CFG_EVT ∧ 0 < e.len) (hv : v < 2 ^ x.len) :
    (endLoad ((s.setF 0 x v).evt 0 e)).f 0 x = v ∧ (endLoad ((s.setF 0 x v).evt 0 e)).f 0 e = 1 := by
  obtain ⟨hxp, hxreg, hxbusy⟩ := hx
  obtain ⟨hep, hereg, hepos⟩ := he
  constructor
  · rw [endLoad_f_clear hxp (by rw [hxreg]; decide) hxbusy, State.evt,
      State.f_setF_clear _ 0 0 e x 1 hep hxp (by simp [apart_iff, hxreg, hereg]), State.f_setF_fits s 0 x v (placed_iff.mp hxp).2 hv]
  · rw [endLoad_f_clear hep (by rw [hereg]; decide) (by simp [apart_iff, hereg])]
    exact State.f_setF_fits _ 0 e 1 (placed_iff.mp hep).2 (Nat.one_lt_two_pow hepos.ne')

/-- A rejected container ends its load, and its reason is shown (R419). -/
theorem rejectLoad_ends {r : Nat} (hr : r < 16) : (rejectLoad r s).fab.load = none ∧ (rejectLoad r s).f 0 CFG_STAT_reject = r ∧
    (rejectLoad r s).f 0 CFG_STAT_busy = 0 ∧ (rejectLoad r s).f 0 CFG_EVT_rejected = 1 := by
  obtain ⟨hreason, hevent⟩ := endLoad_shown (s := { s with start := { s.start with reject := r } }) (x := CFG_STAT_reject)
    (e := CFG_EVT_rejected) (by decide) (by decide) hr
  exact ⟨endLoad_load, hreason, endLoad_busy, hevent⟩

/-- An abort of a load that runs ends it, and its reason is shown (R434). -/
theorem abortLoad_ends {r : Nat} {l : Load} (hl : s.fab.load = some l) (hr : r < 16) : (abortLoad r s).fab.load = none ∧
    (abortLoad r s).f 0 CFG_STAT_abort = r ∧ (abortLoad r s).f 0 CFG_STG_STAT_open = 0 := by
  obtain ⟨u, hu⟩ : ∃ u : State, abortLoad r s = endLoad ((u.setF 0 CFG_STAT_abort r).evt 0 CFG_EVT_aborted) := by
    unfold abortLoad
    rw [hl]
    exact ⟨_, rfl⟩
  obtain ⟨hreason, -⟩ := endLoad_shown (s := u) (x := CFG_STAT_abort) (e := CFG_EVT_aborted) (by decide) (by decide) hr
  rw [hu]
  exact ⟨endLoad_load, hreason, endLoad_open⟩

/-! ### Pushes and aborts (R431, R434) -/

/-- Where no half has been consumed, none is freed. -/
theorem freeHalves_none : freeHalves false false s = s := by simp [freeHalves]

/-- The half's bytes go to the loader. -/
def State.pushed (s : State) (half : Bool) (len : Nat) : State :=
  { s with fab := { s.fab with staged := s.fab.staged + len } }.setF 0 (stgFree half) 0

theorem stgFree_placed (half : Bool) : placed (0, stgFree half) = true := by cases half <;> decide

theorem State.pushed_fab (half : Bool) (len : Nat) : (s.pushed half len).fab = { s.fab with staged := s.fab.staged + len } :=
  State.setF_fab ..

theorem State.pushed_free (half : Bool) (len : Nat) : (s.pushed half len).f 0 (stgFree half) = 0 :=
  State.f_setF_fits _ 0 _ 0 (placed_iff.mp (stgFree_placed half)).2 (Nat.two_pow_pos _)

theorem State.pushed_onlyFields (half : Bool) (len : Nat) : s.onlyFields (s.pushed half len) [(0, stgFree half)] :=
  State.onlyFields_setF (State.onlyFields_of_regs rfl) 0 _ 0 (stgFree_placed half) List.mem_cons_self

theorem State.pushed_rest (half : Bool) (len : Nat) : (s.pushed half len).rest = { s.rest with fab := (s.pushed half len).fab } := by
  rw [State.pushed, State.setF_rest, State.setF_fab]
  rfl

variable {i : Init} {half : Bool} {len : Nat}

/-- A push of a free half while staging is open, the header not yet read, adds its bytes. -/
theorem stagingPush_takes (hi : mayStage i = true) (hopen : s.f 0 CFG_STG_STAT_open = 1) (hfree : s.f 0 (stgFree half) = 1)
    (hlen : 0 < len ∧ len ≤ 16384) (hhdr : s.fab.load.all (fun l => l.hdr.isNone) = true) :
    stagingPush i half len false false s = s.pushed half len := by
  obtain ⟨hpos, hmax⟩ := hlen
  have hgiven : (!mayStage i || !s.on 0 CFG_STG_STAT_open || !s.on 0 (stgFree half) || decide (len = 0) || decide (16384 < len)) = false := by
    simp [hi, State.on_of_one hopen, State.on_of_one hfree, hpos.ne', hmax]
  simp only [stagingPush, freeHalves_none, hgiven, Bool.false_eq_true, if_false]
  cases hload : s.fab.load with
  | none => simp [hload, State.pushed]
  | some l =>
    have hnone : l.hdr.isSome = false := by simpa [hload] using hhdr
    simp [hload, hnone, State.pushed]

/-- A push that may not be is refused. -/
theorem stagingPush_refused (h : mayStage i = false ∨ s.f 0 CFG_STG_STAT_open = 0) :
    stagingPush i half len false false s = stageRefuse s := by
  unfold stagingPush
  rw [freeHalves_none]
  rcases h with h | h
  · simp [h]
  · simp [State.on_of_zero h]

/-- So is an abort. -/
theorem stagingAbort_refused (h : mayStage i = false ∨ s.f 0 CFG_STG_STAT_open = 0) : stagingAbort i s = stageRefuse s := by
  unfold stagingAbort
  rcases h with h | h
  · simp [h]
  · simp [State.on_of_zero h]

theorem stageRefuse_event : (stageRefuse s).f 0 CFG_EVT_stg_refused = 1 := State.f_setF_fits s 0 _ 1 (by decide) (by decide)

theorem stageRefuse_regsOnly : s.regsOnly (stageRefuse s) [(0, CFG_EVT_stg_refused)] :=
  State.regsOnly_setF (State.regsOnly_refl s _) 0 _ 1 (by decide) List.mem_cons_self

/-- An abort of open staging, and its timeout, end the source. -/
theorem stagingAbort_open (hi : mayStage i = true) (hopen : s.f 0 CFG_STG_STAT_open = 1) : stagingAbort i s = abortLoad 3 s := by
  simp [stagingAbort, hi, State.on_of_one hopen, sourceEnds]

theorem stagingTimeout_open (hopen : s.f 0 CFG_STG_STAT_open = 1) : stagingTimeout s = abortLoad 3 s := by
  simp [stagingTimeout, State.on_of_one hopen, sourceEnds]

end Staging

end Sys2Proof.Machine
end

section
/-! SUPPORT. Loads begin, and their headers are checked (14): the load that starts, the reason of R419, and the regions that an accepted
header takes (R100, R419, R425, R433, R435). -/

namespace Sys2Proof.Machine

/-! ### A load begins (R425, R433, R435) -/

/-- A load runs: busy, its source shown, no progress. -/
def State.loadShown (s : State) (l : Load) : State :=
  ((({ s with start := { s.start with reject := 0, abort := 0 } }).setLoad (some l)).setFs 0
    [(CFG_STAT_busy, 1), (CFG_STAT_src, l.src)]).wr 0 CFG_PROGRESS 0

section Begin
variable {s : State} {l : Load}

/-- A load with a source of its own needs no partition (R423). -/
theorem State.loadRoom_own (hkind : l.kind ≠ 1) (hsrc : 2 ≤ l.src) : s.loadRoom l = some (2 ^ 32 - 1) := by
  rw [State.loadRoom, if_neg hkind, if_neg (by omega)]

/-- Such a load is shown as it begins, and staging may open with it (R431). -/
theorem beginLoad_own (hkind : l.kind ≠ 1) (hsrc : 2 ≤ l.src) :
    beginLoad l s = s.loadShown l ∨ beginLoad l s = openStaging (s.loadShown l) := by
  have hroom : ((s.loadShown l).loadRoom l).isNone = false := by rw [State.loadRoom_own hkind hsrc]; rfl
  have heq : beginLoad l s = if ((s.loadShown l).loadRoom l).isNone then rejectLoad 1 (s.loadShown l)
      else (s.loadShown l).when (decide (l.src = 2) && (s.loadShown l).start.s12) openStaging := rfl
  rw [heq, hroom, if_neg Bool.false_ne_true]
  cases decide (l.src = 2) && (s.loadShown l).start.s12
  · exact .inl rfl
  · exact .inr rfl

theorem State.loadShown_load : (s.loadShown l).fab.load = some l := by simp [State.loadShown, State.setLoad]

theorem State.loadShown_busy : (s.loadShown l).f 0 CFG_STAT_busy = 1 :=
  (State.f_wr_clear _ 0 0 _ _ 0 (by decide) (by decide) (by decide)).trans
    (State.f_setFs_cons _ 0 CFG_STAT_busy 1 _ (by decide) (by simp [placed_iff, apart_iff, CFG_STAT]))

theorem State.loadShown_src (hsrc : l.src < 4) : (s.loadShown l).f 0 CFG_STAT_src = l.src := by
  rw [State.loadShown, State.f_wr_clear _ 0 0 _ _ 0 (by decide) (by decide) (by decide), State.setFs_cons,
    State.f_setFs_cons _ 0 CFG_STAT_src l.src _ (by decide) (by decide)]
  exact Nat.mod_eq_of_lt hsrc

theorem State.loadShown_progress : (s.loadShown l).f 0 CFG_PROGRESS_value = 0 := by
  rw [State.f, State.loadShown, State.rd_wr_same]
  rfl

theorem State.loadShown_onlyPages : s.onlyPages (s.loadShown l) [(0, 0x06)] := by
  unfold State.loadShown
  refine State.onlyPages_wr (State.onlyPages_setFs 0 _ ?_ (by simp [CFG_STAT])) 0 CFG_PROGRESS 0 (by decide) (by decide)
  exact State.onlyPages_regs (State.onlyPages_refl s _) rfl

theorem State.loadShown_loadFrame : s.loadFrame (s.loadShown l) := by
  unfold State.loadShown
  refine State.loadFrame_rest ?_ ((State.wr_rest ..).trans (State.setFs_rest ..))
  rfl

/-- What a load with a source of its own shows once it has begun. -/
theorem beginLoad_shows (hkind : l.kind ≠ 1) (hsrc : 2 ≤ l.src) (hlt : l.src < 4) : (beginLoad l s).fab.load = some l ∧
    (beginLoad l s).f 0 CFG_STAT_busy = 1 ∧ (beginLoad l s).f 0 CFG_STAT_src = l.src ∧ (beginLoad l s).f 0 CFG_PROGRESS_value = 0 := by
  obtain h | h := beginLoad_own (s := s) hkind hsrc
  · rw [h]
    exact ⟨State.loadShown_load, State.loadShown_busy, State.loadShown_src hlt, State.loadShown_progress⟩
  · have hclear {x : Fld} (hx : placed (0, x) = true) (hreg : x.reg ≠ CFG_STG_STAT) :
        (openStaging (s.loadShown l)).f 0 x = (s.loadShown l).f 0 x := openStaging_f_clear hx hreg
    rw [h, openStaging_load, hclear (by decide) (by decide), hclear (by decide) (by decide), hclear (by decide) (by decide)]
    exact ⟨State.loadShown_load, State.loadShown_busy, State.loadShown_src hlt, State.loadShown_progress⟩

/-- What it leaves alone. -/
theorem beginLoad_leaves (hkind : l.kind ≠ 1) (hsrc : 2 ≤ l.src) :
    s.onlyPages (beginLoad l s) [(0, 0x06)] ∧ s.loadFrame (beginLoad l s) := by
  obtain h | h := beginLoad_own (s := s) hkind hsrc
  · rw [h]
    exact ⟨State.loadShown_onlyPages, State.loadShown_loadFrame⟩
  · rw [h]
    exact ⟨State.onlyPages_trans State.loadShown_onlyPages openStaging_onlyPages,
      State.loadFrame_trans State.loadShown_loadFrame openStaging_loadFrame⟩

variable {kind src addr : Nat} {digest : BitVec 384}

/-- A load command that finds a load running shows so, and nothing else (R435). -/
theorem loadCommand_busy (h : s.fab.load ≠ none) : (loadCommand kind src addr digest s).1 = s.evt 0 CFG_EVT_busy := by
  rw [loadCommand, if_pos (Option.isSome_iff_ne_none.mpr h)]

/-- One that finds none begins its load, which is that of S12 where it is a personality before the release. -/
theorem loadCommand_begins (h : s.fab.load = none) {early : Bool} (hearly : early = decide (kind = 5 ∧ !s.start.released)) :
    (loadCommand kind src addr digest s).1 =
      beginLoad { kind := kind, src := src, addr := addr, digest := some digest, atS12 := early } s := by
  rw [loadCommand, if_neg (by simp [h]), hearly]

end Begin

/-! ### The regions that a header takes (R100, R433) -/

/-- From s to t the load stays, and of IOS only registers from the regions' page on change. -/
def State.sameHeader (s t : State) : Prop := t.fab.load = s.fab.load ∧ ∀ r < REGIONS_RUN, t.rd 0 r = s.rd 0 r

section Regions
variable {s t u : State} {d i : Nat}

theorem State.sameHeader_refl (s : State) : s.sameHeader s := ⟨rfl, fun _ _ => rfl⟩

theorem State.sameHeader_trans (h : s.sameHeader t) (hu : t.sameHeader u) : s.sameHeader u :=
  ⟨hu.1.trans h.1, fun r hr => (hu.2 r hr).trans (h.2 r hr)⟩

/-- A change for each element of a list. -/
theorem State.sameHeader_each {α : Type} (s : State) (l : List α) {f : State → α → State}
    (hf : ∀ u : State, ∀ a ∈ l, u.sameHeader (f u a)) : s.sameHeader (s.each l f) :=
  State.each_keeps (fun u => s.sameHeader u) f l (fun u a ha hu => State.sameHeader_trans hu (hf u a ha)) s (State.sameHeader_refl s)

/-- Registers from the regions' page on, of any die, lie beside the first registers of IOS. -/
theorem State.sameHeader_wr (s : State) (d : Nat) {r : Nat} (v : Word) (hr : REGIONS_RUN ≤ r) : s.sameHeader (s.wr d r v) :=
  ⟨State.wr_fab s d r v ▸ rfl, fun r' hr' => State.rd_wr_ne s d r 0 r' v (by simp only [regKey, REGIONS_RUN] at *; omega)⟩

theorem State.sameHeader_setF (s : State) (d : Nat) {x : Fld} (v : Nat) (hx : REGIONS_RUN ≤ x.reg) : s.sameHeader (s.setF d x v) :=
  State.sameHeader_wr s d _ hx

theorem State.sameHeader_setB (s : State) (d : Nat) {x : Fld} (b : Bool) (hx : REGIONS_RUN ≤ x.reg) : s.sameHeader (s.setB d x b) :=
  State.sameHeader_setF s d _ hx

theorem State.sameHeader_evt (s : State) (d : Nat) {x : Fld} (hx : REGIONS_RUN ≤ x.reg) : s.sameHeader (s.evt d x) :=
  State.sameHeader_setF s d 1 hx

theorem State.sameHeader_setFs (s : State) (d : Nat) (l : List (Fld × Nat)) (hl : ∀ e ∈ l, REGIONS_RUN ≤ e.1.reg) :
    s.sameHeader (s.setFs d l) := by
  induction l generalizing s with
  | nil => exact State.sameHeader_refl s
  | cons e l ih =>
    rw [State.setFs_cons]
    exact State.sameHeader_trans (State.sameHeader_setF s d e.2 (hl e List.mem_cons_self)) (ih _ fun x hx => hl x (List.mem_cons_of_mem _ hx))

/-- The registers of a region lie on the regions' page. -/
theorem regionRegs_le (i : Nat) : REGIONS_RUN ≤ REGIONS_STATE i ∧ REGIONS_RUN ≤ REGIONS_ISO i ∧ REGIONS_RUN ≤ REGIONS_ID i ∧
    REGIONS_RUN ≤ REGIONS_REMAP i := by simp only [REGIONS_RUN, REGIONS_STATE, REGIONS_ISO, REGIONS_ID, REGIONS_REMAP]; omega

theorem setRegion_sameHeader (d i st : Nat) (s : State) : s.sameHeader (setRegion d i st s) := by
  obtain ⟨hstate, hiso, -, -⟩ := regionRegs_le i
  exact State.sameHeader_trans (State.sameHeader_setF s d st hstate) (State.sameHeader_wr _ d _ hiso)

/-- The class, the shell flag and the design ID of a region. -/
theorem regionImage_sameHeader (d i : Nat) (mapped shell : Bool) (design : Word) (s : State) : s.sameHeader
    (((s.setB d (REGIONS_STATE_class i) mapped).setB d (REGIONS_STATE_shell i) shell).wr d (REGIONS_ID i) design) := by
  obtain ⟨hstate, -, hid, -⟩ := regionRegs_le i
  exact State.sameHeader_trans (State.sameHeader_trans (State.sameHeader_setB s d mapped hstate) (State.sameHeader_setB _ d shell hstate))
    (State.sameHeader_wr _ d design hid)

theorem enterLoading_sameHeader (mapped shell : Bool) (design : Word) (s : State) : s.sameHeader (enterLoading d i mapped shell design s) :=
  State.sameHeader_trans (State.sameHeader_trans (setRegion_sameHeader d i 2 s) ⟨rfl, fun _ _ => rfl⟩)
    (regionImage_sameHeader d i mapped shell design (memRegionTaken d i (setRegion d i 2 s)))

theorem unloadRegion_sameHeader (s : State) : s.sameHeader (unloadRegion d i s) :=
  State.sameHeader_trans (State.sameHeader_trans (setRegion_sameHeader d i 0 s) ⟨rfl, fun _ _ => rfl⟩)
    (regionImage_sameHeader d i false false 0 (clearFrames d i (setRegion d i 0 s)))

theorem markShiftWait_sameHeader (d : Nat) (s : State) : s.sameHeader (markShiftWait d s) :=
  State.sameHeader_each s _ fun u i _ => State.sameHeader_setB u d (x := REGIONS_STATE_shift_wait i) _ (regionRegs_le i).1

theorem activateLogic_sameHeader (d g : Nat) (s : State) : s.sameHeader (activateLogic d g s) := by
  obtain ⟨-, -, -, hremap⟩ := regionRegs_le g
  exact State.sameHeader_setFs s d _ (by simp only [List.forall_mem_cons, hremap]; simp)

theorem activateCmb_sameHeader (d : Nat) (s : State) : s.sameHeader (activateCmb d s) :=
  State.sameHeader_setFs s d _ (by simp [REGIONS_RUN, REGIONS_CREMAP])

/-- A shift that is applied, with its event. -/
theorem shiftApplied_sameHeader (d : Nat) (h : s.sameHeader t) : s.sameHeader (t.evt d REGIONS_EVT_shift_applied) :=
  State.sameHeader_trans h (State.sameHeader_evt t d (by decide))

theorem applyShifts_sameHeader (d : Nat) (rs : List Nat) (s : State) : s.sameHeader (applyShifts d rs s) := by
  unfold applyShifts
  refine State.sameHeader_trans ?_ (markShiftWait_sameHeader d _)
  generalize hgroups : s.each [0, 1, 2, 3, 4] _ = u
  have hu : s.sameHeader u := by
    rw [← hgroups]
    refine State.sameHeader_each s _ fun v g _ => ?_
    dsimp only
    split
    · exact shiftApplied_sameHeader d (activateLogic_sameHeader d g v)
    · exact State.sameHeader_refl v
  dsimp only
  split
  · exact shiftApplied_sameHeader d (State.sameHeader_trans hu (activateCmb_sameHeader d u))
  · exact hu

/-- Shifts that apply where no region of the load drains on the die any more. -/
theorem shiftsDue_sameHeader (d : Nat) (rs : List Nat) (c : Prop) [Decidable c] (h : s.sameHeader t) :
    s.sameHeader (if c then applyShifts d rs t else t) := by
  split
  · exact State.sameHeader_trans h (applyShifts_sameHeader d rs t)
  · exact h

theorem leaveDrain_sameHeader (d i : Nat) (s : State) : s.sameHeader (leaveDrain d i s) := by
  unfold leaveDrain
  split
  · exact State.sameHeader_refl s
  · refine shiftsDue_sameHeader d _ _ ?_
    split
    · exact State.sameHeader_refl s
    · split
      · exact enterLoading_sameHeader _ _ _ s
      · exact unloadRegion_sameHeader s

/-- Steps 1 to 3 of R100 change of the load and of IOS nothing that a header check shows. -/
theorem takeRegions_sameHeader (s : State) : s.sameHeader (takeRegions s) := by
  have hgo (u : State) (d i : Nat) : u.sameHeader (if u.regionState d i = 5 then setRegion d i 1 u else leaveDrain d i u) := by
    split
    · exact setRegion_sameHeader d i 1 u
    · exact leaveDrain_sameHeader d i u
  unfold takeRegions
  split
  · exact State.sameHeader_refl s
  · exact State.sameHeader_trans (State.sameHeader_each s _ fun u x _ => hgo u x.1 x.2) (State.sameHeader_each _ _ fun u r _ => hgo u _ _)

end Regions

/-! ### The header's check (R419) -/

section Check
variable {s : State} {l : Load} {h : Header}

/-- A choice of two bounded numbers is bounded. -/
theorem ite_bounded {c : Prop} [Decidable c] {a b n : Nat} (ha : a ≤ n) (hb : b ≤ n) : (if c then a else b) ≤ n := by
  split
  · exact ha
  · exact hb

/-- The reasons of R419 are at most 12. -/
theorem hdrReason_le (l : Load) (h : Header) (s : State) : hdrReason l h s ≤ 12 := by
  unfold hdrReason
  split
  · decide
  · iterate 12 refine ite_bounded (by decide) ?_
    decide

/-- The check does not depend on what is put out. -/
theorem hdrReason_fresh (l : Load) (h : Header) (s : State) : hdrReason l h s.fresh = hdrReason l h s := rfl

/-- Without a load, or with one whose header has been read, the check does nothing. -/
theorem headerCheck_idle (hl : s.fab.load = none ∨ s.fab.load.any (fun l => l.hdr.isSome) = true) : headerCheck h s = s := by
  unfold headerCheck
  cases hload : s.fab.load with
  | none => rfl
  | some l =>
    have hread : l.hdr.isSome = true := by simpa [hload] using hl
    exact if_pos hread

variable (hl : s.fab.load = some l) (hunread : l.hdr = none) (hkind : l.kind ≠ 1)
include hl hunread hkind

/-- A container that is no device header's is rejected for the first reason that applies. -/
theorem headerCheck_rejects (hr : hdrReason l h s ≠ 0) : headerCheck h s = rejectLoad (hdrReason l h s) s := by
  simp [headerCheck, hl, hunread, hr, hkind]

/-- One that no reason rejects is accepted: the load keeps its header and enters its next phase, and the length and the header's bytes are shown
before its regions are taken. -/
theorem headerCheck_accepts (hr : hdrReason l h s = 0) : ∃ (clear rs : List Nat), headerCheck h s = takeRegions
    ((setLoadset rs ((s.setLoad (some { l with hdr := some h, phase := 1, clear := clear })).wr 0 CFG_TOTAL h.length)).wr 0 CFG_PROGRESS 32768) := by
  refine ⟨if l.kind = 5 ∧ s.start.released then s.clearList h else [],
    (h.segs.filter (fun x => x.ty == 1#8)).map (fun x => devRegion x.die.toNat x.region.toNat), ?_⟩
  simp [headerCheck, hl, hunread, hr, hkind]

omit hl hunread hkind in
/-- The words of the load's regions are stored beside the load and its length. -/
theorem setLoadset_leaves (rs : List Nat) : (setLoadset rs s).fab = s.fab ∧ (setLoadset rs s).rd 0 CFG_TOTAL = s.rd 0 CFG_TOTAL := by
  unfold setLoadset
  refine State.each_keeps (fun t => t.fab = s.fab ∧ t.rd 0 CFG_TOTAL = s.rd 0 CFG_TOTAL) _ _ (fun t k hk ht => ?_) s ⟨rfl, rfl⟩
  obtain ⟨hfab, htotal⟩ := ht
  have hne : regKey 0 CFG_TOTAL ≠ regKey 0 (CFG_LOADSET k) := by
    have hle : k ≤ 5 := by
      simp only [List.mem_cons, List.not_mem_nil, or_false] at hk
      omega
    simp only [regKey, CFG_TOTAL, CFG_LOADSET]
    omega
  exact ⟨(State.wr_fab ..).trans hfab, (State.rd_wr_ne _ _ _ _ _ _ hne).trans htotal⟩

/-- What an accepted header shows. -/
theorem headerCheck_accepted (hr : hdrReason l h s = 0) :
    (∃ m, (headerCheck h s).fab.load = some m ∧ m.hdr = some h ∧ m.phase = 1 ∧ m.kind = l.kind) ∧
    (headerCheck h s).rd 0 CFG_TOTAL = h.length ∧ (headerCheck h s).rd 0 CFG_PROGRESS = 32768 := by
  obtain ⟨clear, rs, heq⟩ := headerCheck_accepts hl hunread hkind hr
  rw [heq]
  generalize hu : (s.setLoad (some { l with hdr := some h, phase := 1, clear := clear })).wr 0 CFG_TOTAL h.length = u
  have hload : u.fab.load = some { l with hdr := some h, phase := 1, clear := clear } := by rw [← hu, State.wr_fab]; rfl
  have htotal : u.rd 0 CFG_TOTAL = h.length := by rw [← hu, State.rd_wr_same]
  obtain ⟨hfab, hlength⟩ := setLoadset_leaves (s := u) rs
  obtain ⟨hsame, hregs⟩ := takeRegions_sameHeader ((setLoadset rs u).wr 0 CFG_PROGRESS 32768)
  refine ⟨⟨{ l with hdr := some h, phase := 1, clear := clear }, ?_, rfl, rfl, rfl⟩, ?_, ?_⟩
  · rw [hsame, State.wr_fab, hfab, hload]
  · rw [hregs _ (by decide), State.rd_wr_ne _ _ _ _ _ _ (by decide), hlength, htotal]
  · rw [hregs _ (by decide), State.rd_wr_same]

end Check

end Sys2Proof.Machine
end

section
/-! SUPPORT. Loads that begin and the check of their headers (14): the obligation. -/

namespace Sys2Proof.Machine

section Commands
variable {s : State} {c : Instr} {f : State → State}

/-- A load command while a load runs answers its busy event. -/
theorem exec_loadBusy {kind src addr : Nat} {digest : BitVec 384} (hc : exec c s = run f s)
    (hf : f s.fresh = (loadCommand kind src addr digest s.fresh).1)
    (hload : s.fab.load ≠ none) : exec c s = .next (s.fresh.evt 0 CFG_EVT_busy) :=
  exec_next_self hc (hf.trans (loadCommand_busy hload)) (State.loadFrame.ended_self (State.evt_rest ..))

/-- A command that begins a load with a source of its own answers that load begun. -/
theorem exec_loadBegins {l : Load} (hc : exec c s = run f s) (hf : f s.fresh = beginLoad l s.fresh) (hkind : l.kind ≠ 1)
    (hsrc : 2 ≤ l.src) (hlt : l.src < 4) : ∃ t, exec c s = .next t ∧ t.fab.load = some l ∧ t.f 0 CFG_STAT_busy = 1 ∧
      t.f 0 CFG_STAT_src = l.src ∧ t.f 0 CFG_PROGRESS_value = 0 ∧ s.onlyPages t [(0, 0x06)] ∧
      t.rest = { s.rest with fab := t.fab, start := t.start } := by
  obtain ⟨hrun, hbusy, hshown, hprogress⟩ := beginLoad_shows (s := s.fresh) hkind hsrc hlt
  obtain ⟨hpages, hframe⟩ := beginLoad_leaves (s := s.fresh) hkind hsrc
  exact ⟨_, exec_next_self hc hf hframe.ended_self, hrun, hbusy, hshown, hprogress, hpages, hframe⟩

end Commands

/-- Settles O22: a load command either finds a load running or begins its own, and the check of a header rejects it or accepts it. -/
theorem loadsBeginCheckedAndRejected : Obligations.LoadsBeginCheckedAndRejected := by
  unfold Obligations.LoadsBeginCheckedAndRejected
  refine ⟨fun s src addr digest hlive hload => ?_, fun s src addr digest hlive hload hsrc => ?_,
    fun s src addr digest hlive hload hsrc => ?_, fun s h l hl hunread hkind => ?_, fun s h hl => ?_⟩
  · -- a load runs
    refine ⟨_, exec_loadBusy (exec_loadPersonality ..) (if_pos hlive) hload, State.f_setF_fits _ 0 _ 1 (by decide) (by decide),
      State.regsOnly_setF (State.regsOnly_refl s.fresh _) 0 _ 1 (by decide) List.mem_cons_self, fun hsrc => ?_⟩
    exact exec_loadBusy (exec_loadRegion ..) (if_pos ⟨hlive, hsrc⟩) hload
  · -- a personality
    refine exec_loadBegins (exec_loadPersonality ..) ((if_pos hlive).trans ?_) (show 5 ≠ 1 by decide) hsrc src.isLt
    exact loadCommand_begins (s := s.fresh) hload (by simp)
  · -- a region
    refine exec_loadBegins (exec_loadRegion ..) ((if_pos ⟨hlive, hsrc⟩).trans ?_) (show 6 ≠ 1 by decide) hsrc src.isLt
    exact loadCommand_begins (s := s.fresh) hload (by simp)
  · -- a header that has not been read
    refine exec_answers (exec_containerHeaderCheck h s) ⟨fun hr => ?_, fun hr => ?_⟩
    · obtain ⟨⟨m, hm, hhdr, hphase, hsame⟩, htotal, hprogress⟩ := headerCheck_accepted (s := s.fresh) hl hunread hkind hr
      exact ⟨m, hm, hhdr, hphase, hsame, (State.ended_rd ..).trans htotal, (State.ended_rd ..).trans hprogress⟩
    · rw [headerCheck_rejects (s := s.fresh) hl hunread hkind hr, hdrReason_fresh]
      obtain ⟨hnone, hreason, hidle, hevent⟩ := rejectLoad_ends (s := s.fresh) (Nat.lt_of_le_of_lt (hdrReason_le l h s) (by decide : 12 < 16))
      exact ⟨hnone, (State.ended_f ..).trans hreason, (State.ended_f ..).trans hidle, (State.ended_f ..).trans hevent⟩
  · -- no load, or a header that has been read
    exact ⟨_, exec_next_self (exec_containerHeaderCheck h s) (headerCheck_idle hl) (State.ended_fresh s), rfl⟩

end Sys2Proof.Machine
end

section
/-! SUPPORT. Flash transfers (14): when one starts, and the bytes that it moves (R422, R437). -/

namespace Sys2Proof

/-- A key of a range that is dropped reads as the default. -/
theorem KMap.lookD_dropRange_in {α : Type} (m : KMap α) (d : α) {lo hi k : Nat} (hlo : lo ≤ k) (hhi : k < hi) :
    KMap.lookD (KMap.dropRange m lo hi) k d = d := by
  induction m with
  | nil => rfl
  | cons y m ih =>
    obtain ⟨a, v⟩ := y
    unfold KMap.dropRange at ih ⊢
    rw [List.filter_cons]
    split
    · next hkeep =>
      have hne : a ≠ k := by rintro rfl; simp [hlo, hhi] at hkeep
      rw [KMap.lookD, if_neg hne, ih]
    · exact ih

end Sys2Proof

namespace Sys2Proof.Machine

/-! ### What a transfer leaves alone -/

/-- From s to t nothing changes but the flashes, the cores, the free values taken, the registers and what is put out. -/
def State.moveFrame (s t : State) : Prop := t.rest = { s.rest with nv := t.nv, core := t.core, freeCtr := t.freeCtr }

section MoveFrame
variable {s t u : State}

theorem State.moveFrame_trans (h : s.moveFrame t) (hu : t.moveFrame u) : s.moveFrame u := by
  unfold State.moveFrame at h hu ⊢
  rw [hu, h]

/-- An effect that leaves all but registers and outputs keeps the frame. -/
theorem State.moveFrame_of_rest (hu : u.rest = t.rest) : t.moveFrame u := by
  have hnv : u.nv = t.nv := (congrArg State.nv hu :)
  have hcore : u.core = t.core := (congrArg State.core hu :)
  have hfree : u.freeCtr = t.freeCtr := (congrArg State.freeCtr hu :)
  rw [State.moveFrame, hu, hnv, hcore, hfree]
  rfl

/-- Such an effect leaves the queue, the time and the fuses. -/
theorem State.moveFrame.ended_self (h : s.fresh.moveFrame u) : s.ended u = u := by
  have hpend : u.pending = s.pending := (congrArg State.pending h :)
  have htime : u.time = s.time := (congrArg State.time h :)
  have hfuses : u.fuses = s.fuses := (congrArg State.fuses h :)
  rw [State.ended, ← hpend, ← htime, ← hfuses]

/-- A transfer that takes no free value leaves all but the flashes and the cores. -/
theorem State.moveFrame.rest_noFree (h : s.moveFrame t) (hfree : t.freeCtr = s.freeCtr) :
    t.rest = { s.rest with nv := t.nv, core := t.core } := by
  rw [State.moveFrame, hfree] at h
  exact h

/-- One that does not move into the cores either leaves all but the flashes. -/
theorem State.moveFrame.rest_nv (h : s.moveFrame t) (hfree : t.freeCtr = s.freeCtr) (hcore : t.core = s.core) :
    t.rest = { s.rest with nv := t.nv } := by
  rw [h.rest_noFree hfree, hcore]
  rfl

end MoveFrame

/-! ### Bytes of the flashes (R421, R422) -/

/-- A flash and an address give the key of one byte. -/
theorem flashKey_ne {g flash : Bool} {a b : Nat} (ha : a < 2 ^ 30) (hb : b < 2 ^ 30) (h : g ≠ flash ∨ b ≠ a) :
    g.toNat * 2 ^ 30 + b ≠ flash.toNat * 2 ^ 30 + a := by
  cases g <;> cases flash <;> simp at h ⊢ <;> omega

section FlashByte
variable {s t : State} {g flash : Bool} {a b : Nat} {v : Byte}

/-- What is held of the flashes decides their bytes. -/
theorem State.flashByte_congr (h : t.nv = s.nv) : t.flashByte g b = s.flashByte g b := by
  simp only [State.flashByte, State.journalByte, State.sector, h]

/-- A byte outside the journal and the wear map is the flash's own. -/
theorem State.flashByte_plain {lo hi : Nat} (hp : nvmProtected flash lo hi = false) (hlo : lo ≤ a) (hhi : a < hi) :
    s.flashByte flash a = KMap.lookD s.nv.flash (flash.toNat * 2 ^ 30 + a) 0xFF#8 := by
  simp only [nvmProtected, Bool.or_eq_false_iff, Bool.and_eq_false_iff, decide_eq_false_iff_not] at hp
  obtain ⟨hjournal, hwear⟩ := hp
  rw [State.flashByte, if_neg (by rcases hjournal with (h | h) | h <;> simp_all; all_goals omega), if_neg (by omega)]

@[simp] theorem State.setFlash_core : (s.setFlash flash a v).core = s.core := rfl

theorem State.setFlash_moveFrame : s.moveFrame (s.setFlash flash a v) := rfl

/-- A byte stored outside the protected ranges reads back. -/
theorem State.flashByte_setFlash_same {lo hi : Nat} (hp : nvmProtected flash lo hi = false) (hlo : lo ≤ a) (hhi : a < hi) :
    (s.setFlash flash a v).flashByte flash a = v :=
  (State.flashByte_plain hp hlo hhi).trans (KMap.lookD_putD_same ..)

/-- Every other byte reads as before. -/
theorem State.flashByte_setFlash_ne (h : g.toNat * 2 ^ 30 + b ≠ flash.toNat * 2 ^ 30 + a) :
    (s.setFlash flash a v).flashByte g b = s.flashByte g b := by
  simp only [State.flashByte, State.journalByte, State.sector, State.setFlash, KMap.lookD_putD_ne _ _ _ _ _ _ h]

end FlashByte

/-! ### Bytes of a core's data SRAM (R470, R471) -/

section DsramByte
variable {s t : State} {c o p v : Nat}

@[simp] theorem State.setDsramByte_nv : (s.setDsramByte c o v).nv = s.nv := rfl

theorem State.setDsramByte_moveFrame : s.moveFrame (s.setDsramByte c o v) := rfl

/-- What the cores hold decides the bytes of their memories. -/
theorem State.dsramByte_congr (h : t.core = s.core) : t.dsramByte c o = s.dsramByte c o := by
  simp only [State.dsramByte, h]

/-- A byte of a word as a field of it. -/
theorem State.dsramByte_eq : s.dsramByte c o = bitsOf (KMap.look s.core.dsram (c * 0x10000 + o / 4)) (8 * (o % 4)) 8 := rfl

/-- A stored byte reads back. -/
theorem State.dsramByte_setDsramByte (hv : v < 256) : (s.setDsramByte c o v).dsramByte c o = v := by
  rw [State.dsramByte_eq, State.setDsramByte, KMap.look_put_same, bitsOf_putBits_same _ _ _ _ (by omega)]
  exact Nat.mod_eq_of_lt hv

/-- Every other byte of the memory reads as before. -/
theorem State.dsramByte_setDsramByte_ne (h : p ≠ o) : (s.setDsramByte c o v).dsramByte c p = s.dsramByte c p := by
  rw [State.dsramByte_eq, State.dsramByte_eq, State.setDsramByte]
  by_cases hword : p / 4 = o / 4
  · rw [hword, KMap.look_put_same, bitsOf_putBits_apart _ _ _ _ _ _ (by omega) (by omega)]
  · rw [KMap.look_put_ne _ _ _ _ (by omega)]

end DsramByte

/-! ### The bytes that a transfer moves (R437) -/

section Moves
variable {flash : Bool} {n : Nat}

/-- Bytes into the data SRAM leave the registers, the flashes and the free values. -/
theorem flashToSram_leaves {a o : Nat} {s : State} : (flashToSram flash n a o s).regs = s.regs ∧ (flashToSram flash n a o s).nv = s.nv ∧
    (flashToSram flash n a o s).freeCtr = s.freeCtr ∧ s.moveFrame (flashToSram flash n a o s) := by
  induction n generalizing a o s with
  | zero => exact ⟨rfl, rfl, rfl, rfl⟩
  | succ n ih =>
    obtain ⟨hregs, hnv, hfree, hframe⟩ := ih (a := a + 1) (o := o + 1) (s := s.setDsramByte 0 o (s.flashByte flash a).toNat)
    exact ⟨hregs, hnv, hfree, State.moveFrame_trans State.setDsramByte_moveFrame hframe⟩

/-- They leave every byte before the range. -/
theorem flashToSram_before {a o p : Nat} {s : State} (h : p < o) : (flashToSram flash n a o s).dsramByte 0 p = s.dsramByte 0 p := by
  induction n generalizing a o s with
  | zero => rfl
  | succ n ih => exact (ih (by omega)).trans (State.dsramByte_setDsramByte_ne (by omega))

/-- Each byte of the range becomes the flash's. -/
theorem flashToSram_byte {a o k : Nat} {s : State} (hk : k < n) :
    (flashToSram flash n a o s).dsramByte 0 (o + k) = (s.flashByte flash (a + k)).toNat := by
  induction n generalizing a o k s with
  | zero => omega
  | succ n ih =>
    cases k with
    | zero =>
      simp only [flashToSram, Nat.add_zero]
      rw [flashToSram_before (by omega), State.dsramByte_setDsramByte (s.flashByte flash a).isLt]
    | succ k =>
      have hnext := ih (a := a + 1) (o := o + 1) (k := k) (s := s.setDsramByte 0 o (s.flashByte flash a).toNat) (by omega)
      rw [State.flashByte_congr State.setDsramByte_nv, show o + 1 + k = o + (k + 1) by omega, show a + 1 + k = a + (k + 1) by omega] at hnext
      exact hnext

/-- Bytes into a flash leave the registers, the cores and the free values. -/
theorem sramToFlash_leaves {a o : Nat} {s : State} : (sramToFlash flash n a o s).regs = s.regs ∧ (sramToFlash flash n a o s).core = s.core ∧
    (sramToFlash flash n a o s).freeCtr = s.freeCtr ∧ s.moveFrame (sramToFlash flash n a o s) := by
  induction n generalizing a o s with
  | zero => exact ⟨rfl, rfl, rfl, rfl⟩
  | succ n ih =>
    obtain ⟨hregs, hcore, hfree, hframe⟩ := ih (a := a + 1) (o := o + 1)
      (s := s.setFlash flash a (s.flashByte flash a &&& BitVec.ofNat 8 (s.dsramByte 0 o)))
    exact ⟨hregs, hcore, hfree, State.moveFrame_trans State.setFlash_moveFrame hframe⟩

/-- They leave every byte of the flash before the range. -/
theorem sramToFlash_before {a o b : Nat} {s : State} (h : b < a) : (sramToFlash flash n a o s).flashByte flash b = s.flashByte flash b := by
  induction n generalizing a o s with
  | zero => rfl
  | succ n ih => exact (ih (by omega)).trans (State.flashByte_setFlash_ne (by omega))

/-- Each byte of an unprotected range keeps the bits that the flash and the buffer both hold. -/
theorem sramToFlash_byte {lo hi a o k : Nat} {s : State} (hp : nvmProtected flash lo hi = false) (hlo : lo ≤ a) (hhi : a + n ≤ hi) (hk : k < n) :
    (sramToFlash flash n a o s).flashByte flash (a + k) =
      s.flashByte flash (a + k) &&& BitVec.ofNat 8 (s.dsramByte 0 (o + k)) := by
  induction n generalizing a o k s with
  | zero => omega
  | succ n ih =>
    cases k with
    | zero =>
      simp only [sramToFlash, Nat.add_zero]
      rw [sramToFlash_before (by omega), State.flashByte_setFlash_same hp hlo (by omega)]
    | succ k =>
      have hnext := ih (a := a + 1) (o := o + 1) (k := k)
        (s := s.setFlash flash a (s.flashByte flash a &&& BitVec.ofNat 8 (s.dsramByte 0 o))) (by omega) (by omega) (by omega)
      rw [State.flashByte_setFlash_ne (by omega), State.dsramByte_congr State.setFlash_core, show o + 1 + k = o + (k + 1) by omega,
        show a + 1 + k = a + (k + 1) by omega] at hnext
      exact hnext

/-- Free bytes in a flash leave the registers and the cores. -/
theorem freeFlash_leaves {a : Nat} {s : State} : (freeFlash flash n a s).regs = s.regs ∧ (freeFlash flash n a s).core = s.core ∧
    s.moveFrame (freeFlash flash n a s) := by
  induction n generalizing a s with
  | zero => exact ⟨rfl, rfl, rfl⟩
  | succ n ih =>
    obtain ⟨hregs, hcore, hframe⟩ := ih (a := a + 1) (s := (s.setFlash flash a (s.free.setWidth 8)).freeNext)
    exact ⟨hregs, hcore, State.moveFrame_trans rfl hframe⟩

/-- They leave every byte outside the range. -/
theorem freeFlash_outside {g : Bool} {a b : Nat} {s : State} (ha : a + n ≤ 2 ^ 30) (hb : b < 2 ^ 30) (h : g ≠ flash ∨ b < a ∨ a + n ≤ b) :
    (freeFlash flash n a s).flashByte g b = s.flashByte g b := by
  induction n generalizing a s with
  | zero => rfl
  | succ n ih =>
    have hrest : g ≠ flash ∨ b < a + 1 ∨ a + 1 + n ≤ b := h.imp_right (by omega)
    have hkey : g.toNat * 2 ^ 30 + b ≠ flash.toNat * 2 ^ 30 + a := flashKey_ne (by omega) hb (h.imp_right (by omega))
    rw [freeFlash, ih (by omega) hrest, State.flashByte_congr (State.freeNext_nv _), State.flashByte_setFlash_ne hkey]

/-- Free bytes in the data SRAM leave the registers and the flashes. -/
theorem freeDsram_leaves {o : Nat} {s : State} : (freeDsram n o s).regs = s.regs ∧ (freeDsram n o s).nv = s.nv ∧
    s.moveFrame (freeDsram n o s) := by
  induction n generalizing o s with
  | zero => exact ⟨rfl, rfl, rfl⟩
  | succ n ih =>
    obtain ⟨hregs, hnv, hframe⟩ := ih (o := o + 1) (s := (s.setDsramByte 0 o (s.free.toNat % 256)).freeNext)
    exact ⟨hregs, hnv, State.moveFrame_trans rfl hframe⟩

end Moves

/-! ### A transfer starts (R437) -/

/-- A transfer of operation op starts. -/
def State.transferBegun (s : State) (op : Nat) (flash : Bool) : State :=
  let t := s.setFs 0 [(NVM_CMDSTAT_busy, 1), (NVM_CMDSTAT_op, op), (NVM_CMDSTAT_reason, 0)]
  { t with nv := { t.nv with transfer := some (flash, t.f 0 NVM_ADDR_addr, t.f 0 NVM_LEN_len, t.f 0 NVM_BUF_offset) } }

section Start
variable {s : State} {i : Init} {op : Nat} {flash : Bool}

/-- A start for which no reason of R437 stands is a start. -/
theorem nvmStart_begun (h : nvmReason op flash i s = 0) : nvmStart op flash i s = s.transferBegun op flash := by
  simp [nvmStart, h, State.transferBegun]

/-- A start of another initiator is refused. -/
def transferDenied (s : State) : State := (s.setF 0 NVM_CMDSTAT_reason 1).evt 0 NVM_EVT_refused

theorem nvmStart_denied (hi : isHawkmoth i = false) : nvmStart op flash i s = transferDenied s := by
  simp [nvmStart, nvmReason, hi, transferDenied]

theorem transferDenied_reason : (transferDenied s).f 0 NVM_CMDSTAT_reason = 1 :=
  (State.f_setF_clear _ 0 0 _ _ 1 (by decide) (by decide) (by decide)).trans (State.f_setF_fits s 0 _ 1 (by decide) (by decide))

theorem transferDenied_event : (transferDenied s).f 0 NVM_EVT_refused = 1 := State.f_setF_fits _ 0 _ 1 (by decide) (by decide)

theorem transferDenied_regsOnly : s.regsOnly (transferDenied s) [(0, NVM_CMDSTAT_reason), (0, NVM_EVT_refused)] :=
  State.regsOnly_setF (State.regsOnly_setF (State.regsOnly_refl s _) 0 _ 1 (by decide) (by decide)) 0 _ 1 (by decide) (by decide)

/-- A read or a program by the Hawkmoth starts while none runs, of 1 to 65,536 bytes that fit the buffer, inside the flash; a program
outside the protected ranges. -/
theorem nvmReason_range (hop : op ≠ 3) (hi : isHawkmoth i = true) (hidle : s.f 0 NVM_CMDSTAT_busy = 0)
    (hlen : 0 < s.f 0 NVM_LEN_len ∧ s.f 0 NVM_LEN_len ≤ 65536 ∧ s.f 0 NVM_BUF_offset + s.f 0 NVM_LEN_len ≤ 0x40000)
    (hfits : s.f 0 NVM_ADDR_addr + s.f 0 NVM_LEN_len ≤ (if flash then s.f 0 NVM_SIZE_nvm1 else s.f 0 NVM_SIZE_nvm0) * 0x100000)
    (hp : op = 1 ∨ nvmProtected flash (s.f 0 NVM_ADDR_addr) (s.f 0 NVM_ADDR_addr + s.f 0 NVM_LEN_len) = false) :
    nvmReason op flash i s = 0 := by
  obtain ⟨hpos, hmax, hbuf⟩ := hlen
  have hopen : ¬ (op ≠ 1 ∧ nvmProtected flash (s.f 0 NVM_ADDR_addr) (s.f 0 NVM_ADDR_addr + s.f 0 NVM_LEN_len) = true) := by
    rcases hp with h | h <;> simp [h]
  simp only [nvmReason, hi, State.on_of_zero hidle, if_neg hop, if_neg hopen]
  simp only [Bool.not_true, Bool.false_eq_true, if_false]
  rw [if_neg (by omega)]

/-- An erase by the Hawkmoth starts while none runs, of a whole sector inside the flash and outside the protected ranges. -/
theorem nvmReason_erase (hi : isHawkmoth i = true) (hidle : s.f 0 NVM_CMDSTAT_busy = 0) (hsector : s.f 0 NVM_ADDR_addr % 0x10000 = 0)
    (hfits : s.f 0 NVM_ADDR_addr + 0x10000 ≤ (if flash then s.f 0 NVM_SIZE_nvm1 else s.f 0 NVM_SIZE_nvm0) * 0x100000)
    (hp : nvmProtected flash (s.f 0 NVM_ADDR_addr) (s.f 0 NVM_ADDR_addr + 0x10000) = false) : nvmReason 3 flash i s = 0 := by
  have hlo : s.f 0 NVM_ADDR_addr / 0x10000 * 0x10000 = s.f 0 NVM_ADDR_addr := by omega
  simp only [nvmReason, hi, State.on_of_zero hidle, if_true, hlo, hp]
  simp only [Bool.not_true, Bool.false_eq_true, if_false, and_false]
  rw [if_neg (by omega)]

theorem State.transferBegun_shows (hop : op < 4) : (s.transferBegun op flash).f 0 NVM_CMDSTAT_busy = 1 ∧
    (s.transferBegun op flash).f 0 NVM_CMDSTAT_op = op ∧ (s.transferBegun op flash).f 0 NVM_CMDSTAT_reason = 0 := by
  have hfile (x : Fld) : (s.transferBegun op flash).f 0 x =
      (s.setFs 0 [(NVM_CMDSTAT_busy, 1), (NVM_CMDSTAT_op, op), (NVM_CMDSTAT_reason, 0)]).f 0 x := State.f_congr rfl 0 x
  refine ⟨(hfile _).trans ?_, (hfile _).trans ?_, (hfile _).trans ?_⟩
  · exact State.f_setFs_cons s 0 NVM_CMDSTAT_busy 1 _ (by decide) (by simp [placed_iff, apart_iff, NVM_CMDSTAT])
  · rw [State.setFs_cons, State.f_setFs_cons _ 0 NVM_CMDSTAT_op op _ (by decide) (by decide)]
    exact Nat.mod_eq_of_lt hop
  · rw [State.setFs_cons, State.setFs_cons, State.f_setFs_cons _ 0 NVM_CMDSTAT_reason 0 _ (by decide) (by decide), Nat.zero_mod]

/-- The transfer under way is of the range and the buffer that the page names. -/
theorem State.transferBegun_transfer : (s.transferBegun op flash).nv.transfer =
    some (flash, s.f 0 NVM_ADDR_addr, s.f 0 NVM_LEN_len, s.f 0 NVM_BUF_offset) := by
  have hclear {x : Fld} (hx : placed (0, x) = true) (hreg : x.reg ≠ NVM_CMDSTAT) :
      (s.setFs 0 [(NVM_CMDSTAT_busy, 1), (NVM_CMDSTAT_op, op), (NVM_CMDSTAT_reason, 0)]).f 0 x = s.f 0 x :=
    State.f_setFs_clear s 0 _ hx (by simp [placed_iff, apart_iff, hreg.symm, NVM_CMDSTAT])
  simp only [State.transferBegun, hclear (x := NVM_ADDR_addr) (by decide) (by decide),
    hclear (x := NVM_LEN_len) (by decide) (by decide), hclear (x := NVM_BUF_offset) (by decide) (by decide)]

theorem State.transferBegun_onlyFields : s.onlyFields (s.transferBegun op flash)
    [(0, NVM_CMDSTAT_busy), (0, NVM_CMDSTAT_op), (0, NVM_CMDSTAT_reason)] :=
  State.onlyFields_regs (State.onlyFields_setFs _ (State.onlyFields_refl s _) (by simp [placed_iff, NVM_CMDSTAT])) rfl

theorem State.transferBegun_rest : (s.transferBegun op flash).rest = { s.rest with nv := (s.transferBegun op flash).nv } :=
  congrArg (fun r : State => { r with nv := (s.transferBegun op flash).nv }) (State.setFs_rest s 0 _)

end Start

/-! ### A transfer ends (R437) -/

/-- No transfer runs any more, for a reason. -/
def State.transferOver (s : State) (reason : Nat) : State :=
  { s with nv := { s.nv with transfer := none } }.setFs 0 [(NVM_CMDSTAT_busy, 0), (NVM_CMDSTAT_reason, reason)]

section Done
variable {s : State} {reason : Nat} {flash : Bool} {a n o : Nat}

theorem State.transferOver_op : (s.transferOver reason).f 0 NVM_CMDSTAT_op = s.f 0 NVM_CMDSTAT_op :=
  (State.f_setFs_clear _ 0 _ (by decide) (by simp [placed_iff, apart_iff, NVM_CMDSTAT])).trans (State.f_congr rfl 0 _)

theorem State.transferOver_shows (hr : reason < 16) : (s.transferOver reason).f 0 NVM_CMDSTAT_busy = 0 ∧
    (s.transferOver reason).f 0 NVM_CMDSTAT_reason = reason := by
  constructor
  · exact State.f_setFs_cons _ 0 NVM_CMDSTAT_busy 0 _ (by decide) (by simp [placed_iff, apart_iff, NVM_CMDSTAT])
  · rw [State.transferOver, State.setFs_cons, State.f_setFs_cons _ 0 NVM_CMDSTAT_reason reason _ (by decide) (by decide)]
    exact Nat.mod_eq_of_lt hr

theorem State.transferOver_flashByte {g : Bool} {b : Nat} : (s.transferOver reason).flashByte g b = s.flashByte g b := by
  simp only [State.flashByte, State.journalByte, State.sector, State.transferOver, State.setFs_nv]

theorem State.transferOver_core : (s.transferOver reason).core = s.core := State.setFs_core ..

theorem State.transferOver_freeCtr : (s.transferOver reason).freeCtr = s.freeCtr := State.setFs_freeCtr ..

theorem State.transferOver_moveFrame : s.moveFrame (s.transferOver reason) :=
  State.moveFrame_trans (t := { s with nv := { s.nv with transfer := none } }) rfl (State.moveFrame_of_rest (State.setFs_rest ..))

/-- What shows the end of a transfer that left the state u: the status of the end, and its event. -/
theorem State.transferOver_event {u : State} {e : Fld} (hregs : u.regs = (s.transferOver reason).regs) (hr : reason < 16)
    (he : e.reg = NVM_EVT ∧ e.lo + e.len ≤ 32 ∧ 0 < e.len) : (u.evt 0 e).f 0 NVM_CMDSTAT_busy = 0 ∧
    (u.evt 0 e).f 0 NVM_CMDSTAT_reason = reason ∧ (u.evt 0 e).f 0 e = 1 ∧
    s.onlyFields (u.evt 0 e) [(0, NVM_CMDSTAT_busy), (0, NVM_CMDSTAT_reason), (0, e)] := by
  obtain ⟨hreg, hfit, hpos⟩ := he
  obtain ⟨hbusy, hreason⟩ := State.transferOver_shows (s := s) hr
  have hplaced : placed (0, e) = true := placed_iff.mpr ⟨by rw [hreg]; decide, hfit⟩
  have hclear {x : Fld} (hx : placed (0, x) = true) (hxreg : NVM_EVT ≠ x.reg) : (u.evt 0 e).f 0 x = (s.transferOver reason).f 0 x :=
    (State.f_setF_clear u 0 0 e x 1 hplaced hx (by simp [apart_iff, hreg, hxreg])).trans (State.f_congr hregs 0 x)
  refine ⟨(hclear (by decide) (by decide)).trans hbusy, (hclear (by decide) (by decide)).trans hreason,
    State.f_setF_fits u 0 e 1 hfit (Nat.one_lt_two_pow hpos.ne'), ?_⟩
  refine State.onlyFields_setF (State.onlyFields_regs ?_ hregs) 0 e 1 hplaced (by simp)
  exact State.onlyFields_setFs _ (State.onlyFields_of_regs rfl) (by simp [placed_iff, NVM_CMDSTAT])

/-- What a transfer that fails leaves: free bytes where it was to write. -/
def State.transferFailed (s : State) (flash : Bool) (a n o reason : Nat) : State :=
  if s.f 0 NVM_CMDSTAT_op = 1 then freeDsram n o (s.transferOver reason)
  else freeFlash flash (if s.f 0 NVM_CMDSTAT_op = 2 then n else 0x10000) a (s.transferOver reason)

theorem nvmDone_failed (h : s.nv.transfer = some (flash, a, n, o)) (hr : reason ≠ 0) :
    nvmDone reason s = (s.transferFailed flash a n o reason).evt 0 NVM_EVT_error := by
  simp only [nvmDone, h, ← State.transferOver.eq_1, State.transferOver_op, if_pos hr, State.transferFailed]

theorem State.transferFailed_regs : (s.transferFailed flash a n o reason).regs = (s.transferOver reason).regs := by
  unfold State.transferFailed
  split
  · exact freeDsram_leaves.1
  · exact freeFlash_leaves.1

theorem State.transferFailed_moveFrame : s.moveFrame (s.transferFailed flash a n o reason) := by
  refine State.moveFrame_trans (State.transferOver_moveFrame (reason := reason)) ?_
  unfold State.transferFailed
  split
  · exact freeDsram_leaves.2.2
  · exact freeFlash_leaves.2.2

theorem State.transferFailed_core (hop : s.f 0 NVM_CMDSTAT_op ≠ 1) : (s.transferFailed flash a n o reason).core = s.core := by
  rw [State.transferFailed, if_neg hop, freeFlash_leaves.2.1, State.transferOver_core]

/-- Only the bytes that it was to program or erase may change in the flashes. -/
theorem State.transferFailed_outside {g : Bool} {b : Nat} (hrange : a + n + 0x10000 ≤ 2 ^ 30) (hb : b < 2 ^ 30)
    (hout : g ≠ flash ∨ b < a ∨
      a + (if s.f 0 NVM_CMDSTAT_op = 1 then 0 else if s.f 0 NVM_CMDSTAT_op = 2 then n else 0x10000) ≤ b) :
    (s.transferFailed flash a n o reason).flashByte g b = s.flashByte g b := by
  unfold State.transferFailed
  split
  · rw [State.flashByte_congr freeDsram_leaves.2.1, State.transferOver_flashByte]
  · next hop =>
    rw [if_neg hop] at hout
    rw [freeFlash_outside (by split <;> omega) hb hout, State.transferOver_flashByte]

/-- A read that succeeds, and a program, move their bytes; any other operation erases its sector. -/
theorem nvmDone_read (h : s.nv.transfer = some (flash, a, n, o)) (hop : s.f 0 NVM_CMDSTAT_op = 1) :
    nvmDone 0 s = (flashToSram flash n a o (s.transferOver 0)).evt 0 NVM_EVT_done := by
  simp only [nvmDone, h, ← State.transferOver.eq_1, State.transferOver_op, hop, if_true, ne_eq, not_true, if_false]

theorem nvmDone_program (h : s.nv.transfer = some (flash, a, n, o)) (hop : s.f 0 NVM_CMDSTAT_op = 2) :
    nvmDone 0 s = (sramToFlash flash n a o (s.transferOver 0)).evt 0 NVM_EVT_done := by
  simp [nvmDone, h, ← State.transferOver.eq_1, State.transferOver_op, hop]

/-- The 64 KiB from address a of a flash are erased. -/
def State.erased (s : State) (flash : Bool) (a : Nat) : State :=
  let t := KMap.dropRange s.nv.flash (flash.toNat * 2 ^ 30 + a) (flash.toNat * 2 ^ 30 + a + 0x10000)
  { s with nv := { s.nv with flash := t } }

theorem State.erased_core : (s.erased flash a).core = s.core := rfl

theorem State.erased_freeCtr : (s.erased flash a).freeCtr = s.freeCtr := rfl

theorem State.erased_moveFrame : s.moveFrame (s.erased flash a) := rfl

theorem State.erased_byte {k : Nat} (hp : nvmProtected flash a (a + 0x10000) = false) (hk : k < 0x10000) :
    (s.erased flash a).flashByte flash (a + k) = 0xFF := by
  rw [State.flashByte_plain hp (by omega) (by omega)]
  exact KMap.lookD_dropRange_in _ _ (by omega) (by omega)

theorem nvmDone_erase (h : s.nv.transfer = some (flash, a, n, o)) (hop : s.f 0 NVM_CMDSTAT_op = 3) :
    nvmDone 0 s = ((s.transferOver 0).erased flash a).evt 0 NVM_EVT_done := by
  simp [nvmDone, h, ← State.transferOver.eq_1, State.transferOver_op, hop, State.erased]

end Done

end Sys2Proof.Machine
end

section
/-! SUPPORT. Staging and flash transfers (14): the obligation's commands, from what each effect is and leaves. -/

namespace Sys2Proof.Machine

/-! ### A command that starts a transfer, and one that ends it (R437) -/

section Commands
variable {s : State} {c : Instr} {flash : Bool} {a n o : Nat}

/-- A command that starts a transfer ends with it under way. -/
theorem exec_transferBegun {op : Nat} {i : Init} (hc : exec c s = run (nvmStart op flash i) s) (h : nvmReason op flash i s.fresh = 0) :
    exec c s = .next (s.fresh.transferBegun op flash) := by
  refine exec_next_self hc (nvmStart_begun h) (State.moveFrame.ended_self ?_)
  rw [State.moveFrame, State.transferBegun_rest]
  rfl

/-- A transfer that ends in a state u, with its event. -/
theorem exec_transferDone {reason : Fin 6} {u : State} {e : Fld} (hu : nvmDone reason.val s.fresh = u.evt 0 e)
    (hframe : s.fresh.moveFrame u) : exec (.nvmTransferDone reason) s = .next (u.evt 0 e) :=
  exec_next_self (exec_nvmTransferDone reason s) hu
    (State.moveFrame_trans hframe (State.moveFrame_of_rest (State.evt_rest u 0 e))).ended_self

end Commands

/-- Settles O25, command by command: what each effect is under the clause's premises, and then what that effect leaves. -/
theorem stagingAndFlashTransfers : Obligations.StagingAndFlashTransfers := by
  unfold Obligations.StagingAndFlashTransfers
  refine ⟨fun s i half len hi hopen hfree hlen hhdr => ?_, fun s i half len h => ?_, fun s i hi hopen hload => ?_,
    fun s i flash hi hidle hlen hfits => ?_, fun s i flash hi hidle hlen hfits hp => ?_,
    fun s i flash hi hidle hsector hfits hp => ?_, fun s i flash hi => ?_,
    fun s reason flash a n o g b h hr hrange hb hout => ?_, fun s flash a n o k h hop hbuf hp _ hk => ?_,
    fun s flash a n o k h hop hp hk => ?_⟩
  · -- a push that is taken
    have hself : s.ended (s.fresh.pushed half len) = s.fresh.pushed half len := by
      refine State.loadFrame.ended_self ?_
      rw [State.loadFrame, State.pushed_rest]
      rfl
    refine ⟨_, exec_next_self (exec_stagingPush ..) (stagingPush_takes hi ?_ ?_ hlen hhdr) hself, ?_, State.pushed_free half len,
      State.pushed_onlyFields half len, State.pushed_rest half len⟩
    · rw [State.fresh_f, hopen]
    · rw [State.fresh_f, hfree]
    · rw [State.pushed_fab]
      rfl
  · -- a push and an abort that are refused
    have hfresh : mayStage i = false ∨ s.fresh.f 0 CFG_STG_STAT_open = 0 := by rwa [State.fresh_f]
    have honly := stageRefuse_regsOnly (s := s.fresh)
    have hself : s.ended (stageRefuse s.fresh) = stageRefuse s.fresh := State.loadFrame.ended_self honly.2
    exact ⟨_, exec_next_self (exec_stagingPush ..) (stagingPush_refused hfresh) hself, stageRefuse_event, honly,
      exec_next_self (exec_stagingAbort ..) (stagingAbort_refused hfresh) hself⟩
  · -- an abort, and the timeout
    obtain ⟨l, hl⟩ := Option.isSome_iff_exists.mp hload
    have hfresh : s.fresh.f 0 CFG_STG_STAT_open = 1 := by rw [State.fresh_f, hopen]
    obtain ⟨hnone, hreason, hclosed⟩ := abortLoad_ends (s := s.fresh) (r := 3) hl (by decide)
    refine ⟨s.ended (abortLoad 3 s.fresh), ?_, hnone, (State.ended_f ..).trans hreason, (State.ended_f ..).trans hclosed, ?_⟩
    · rw [exec_stagingAbort, run, stagingAbort_open hi hfresh]
    · rw [exec_stagingTimeout, run, stagingTimeout_open hfresh]
  · -- a read starts
    obtain ⟨hbusy, hop, hreason⟩ := State.transferBegun_shows (s := s.fresh) (flash := flash) (op := 1) (by decide)
    exact ⟨_, exec_transferBegun (exec_nvmRead ..) (nvmReason_range (s := s.fresh) (by decide) hi hidle hlen hfits (.inl rfl)),
      hbusy, hop, hreason, State.transferBegun_transfer, State.transferBegun_onlyFields, State.transferBegun_rest⟩
  · -- a program starts
    obtain ⟨hbusy, hop, hreason⟩ := State.transferBegun_shows (s := s.fresh) (flash := flash) (op := 2) (by decide)
    exact ⟨_, exec_transferBegun (exec_nvmProgram ..) (nvmReason_range (s := s.fresh) (by decide) hi hidle hlen hfits (.inr hp)),
      hbusy, hop, hreason, State.transferBegun_onlyFields, State.transferBegun_rest⟩
  · -- an erase starts
    obtain ⟨hbusy, hop, hreason⟩ := State.transferBegun_shows (s := s.fresh) (flash := flash) (op := 3) (by decide)
    exact ⟨_, exec_transferBegun (exec_nvmErase ..) (nvmReason_erase (s := s.fresh) hi hidle hsector hfits hp),
      hbusy, hop, hreason, State.transferBegun_onlyFields, State.transferBegun_rest⟩
  · -- another initiator is refused
    have honly := transferDenied_regsOnly (s := s.fresh)
    have hself : s.ended (transferDenied s.fresh) = transferDenied s.fresh := State.loadFrame.ended_self honly.2
    exact ⟨_, exec_next_self (exec_nvmErase ..) (nvmStart_denied hi) hself, transferDenied_reason, transferDenied_event, honly,
      exec_next_self (exec_nvmRead ..) (nvmStart_denied hi) hself, exec_next_self (exec_nvmProgram ..) (nvmStart_denied hi) hself⟩
  · -- a transfer fails
    have hreason : reason.val ≠ 0 := fun h0 => hr (Fin.ext h0)
    have hframe : s.fresh.moveFrame (s.fresh.transferFailed flash a n o reason.val) := State.transferFailed_moveFrame
    obtain ⟨hbusy, hshown, herror, honly⟩ := State.transferOver_event (s := s.fresh) (reason := reason.val) (e := NVM_EVT_error)
      (State.transferFailed_regs (flash := flash) (a := a) (n := n) (o := o)) (by omega) (by decide)
    refine ⟨_, exec_transferDone (nvmDone_failed (s := s.fresh) h hreason) hframe, ?_, fun hop => ?_, hbusy, hshown, herror, honly,
      State.moveFrame_trans hframe (State.moveFrame_of_rest (State.evt_rest ..))⟩
    · exact (State.flashByte_congr (State.evt_nv ..)).trans (State.transferFailed_outside (s := s.fresh) hrange hb hout)
    · exact (State.evt_core ..).trans (State.transferFailed_core (s := s.fresh) hop)
  · -- a read or a program succeeds
    have hover := State.transferOver_moveFrame (s := s.fresh) (reason := 0)
    rcases hop with hop | hop
    · obtain ⟨hregs, hnv, hfree, hmove⟩ := flashToSram_leaves (flash := flash) (n := n) (a := a) (o := o) (s := s.fresh.transferOver 0)
      have hframe := State.moveFrame_trans hover hmove
      obtain ⟨hbusy, -, hdone, honly⟩ := State.transferOver_event (e := NVM_EVT_done) hregs (by decide) (by decide)
      refine ⟨_, exec_transferDone (reason := 0) (nvmDone_read (s := s.fresh) h hop) hframe, hbusy, hdone, fun _ => ?_,
        fun hprog => absurd (hop.symm.trans hprog) (by decide), honly,
        (State.moveFrame_trans hframe (State.moveFrame_of_rest (State.evt_rest ..))).rest_noFree ?_⟩
      · rw [State.dsramByte_congr (State.evt_core ..), flashToSram_byte hk, State.transferOver_flashByte]
        rfl
      · rw [State.evt_freeCtr, hfree, State.transferOver_freeCtr]
    · obtain ⟨hregs, hcore, hfree, hmove⟩ := sramToFlash_leaves (flash := flash) (n := n) (a := a) (o := o) (s := s.fresh.transferOver 0)
      have hframe := State.moveFrame_trans hover hmove
      obtain ⟨hbusy, -, hdone, honly⟩ := State.transferOver_event (e := NVM_EVT_done) hregs (by decide) (by decide)
      refine ⟨_, exec_transferDone (reason := 0) (nvmDone_program (s := s.fresh) h hop) hframe, hbusy, hdone,
        fun hread => absurd (hop.symm.trans hread) (by decide), fun _ => ?_, honly,
        (State.moveFrame_trans hframe (State.moveFrame_of_rest (State.evt_rest ..))).rest_noFree ?_⟩
      · rw [State.flashByte_congr (State.evt_nv ..), sramToFlash_byte hp le_rfl le_rfl hk, State.transferOver_flashByte,
          State.dsramByte_congr State.transferOver_core]
        rfl
      · rw [State.evt_freeCtr, hfree, State.transferOver_freeCtr]
  · -- an erase succeeds
    have hframe : s.fresh.moveFrame ((s.fresh.transferOver 0).erased flash a) :=
      State.moveFrame_trans State.transferOver_moveFrame State.erased_moveFrame
    obtain ⟨hbusy, -, hdone, honly⟩ := State.transferOver_event (s := s.fresh) (reason := 0) (e := NVM_EVT_done)
      (u := (s.fresh.transferOver 0).erased flash a) rfl (by decide) (by decide)
    refine ⟨_, exec_transferDone (reason := 0) (nvmDone_erase (s := s.fresh) h hop) hframe, hbusy, hdone, ?_, honly,
      (State.moveFrame_trans hframe (State.moveFrame_of_rest (State.evt_rest ..))).rest_nv ?_ ?_⟩
    · rw [State.flashByte_congr (State.evt_nv ..), State.erased_byte hp hk]
    · rw [State.evt_freeCtr, State.erased_freeCtr, State.transferOver_freeCtr]
    · rw [State.evt_core, State.erased_core, State.transferOver_core]

end Sys2Proof.Machine
end

section
/-! SUPPORT. The start sequence and the journal (15): what the begin of a step, the fuses and the wear entries leave of the journal, and what the
flush of its records leaves of the rest. -/

namespace Sys2Proof.Machine

/-! ### What leaves the journal alone -/

/-- From s to t the journal, the registers of its page and the tick stay as they are. -/
structure State.sameJournal (s t : State) : Prop where
  jour : t.jour = s.jour
  tick : t.tick = s.tick
  page : ∀ r : Nat, r / 0x10000 = 7 → t.rd 0 r = s.rd 0 r

section SameJournal
variable {s t u : State}

/-- What leaves the register file, the journal and the tick alone. -/
theorem State.sameJournal_regs (hregs : t.regs = s.regs) (hjour : t.jour = s.jour) (htick : t.tick = s.tick) : s.sameJournal t :=
  ⟨hjour, htick, fun r _ => State.rd_congr hregs 0 r⟩

theorem State.sameJournal.refl (s : State) : s.sameJournal s := State.sameJournal_regs rfl rfl rfl

theorem State.sameJournal.trans (h : s.sameJournal t) (hu : t.sameJournal u) : s.sameJournal u :=
  ⟨hu.jour.trans h.jour, hu.tick.trans h.tick, fun r hr => (hu.page r hr).trans (h.page r hr)⟩

/-- A field of the journal's page reads as before. -/
theorem State.sameJournal.f (h : s.sameJournal t) {x : Fld} (hx : x.reg / 0x10000 = 7) : t.f 0 x = s.f 0 x :=
  State.f_of_rd (h.page x.reg hx)

/-- A change for each element of a list. -/
theorem State.sameJournal_each {α : Type} (s : State) (l : List α) {f : State → α → State}
    (hf : ∀ u : State, ∀ a ∈ l, u.sameJournal (f u a)) : s.sameJournal (s.each l f) :=
  State.each_keeps (fun u => s.sameJournal u) f l (fun u a ha hu => hu.trans (hf u a ha)) s (.refl s)

/-- A change that may be left out. -/
theorem State.sameJournal_when (s : State) (c : Bool) {f : State → State} (hf : s.sameJournal (f s)) : s.sameJournal (s.when c f) := by
  cases c
  · exact .refl s
  · exact hf

/-- One of two changes. -/
theorem State.sameJournal_ite {c : Prop} [Decidable c] (ht : s.sameJournal t) (hu : s.sameJournal u) :
    s.sameJournal (if c then t else u) := by
  split
  · exact ht
  · exact hu

/-- A store of a register of another page. -/
theorem State.sameJournal.wr (h : s.sameJournal t) (d r : Nat) (v : Word) (hr : regKey d r / 0x10000 ≠ 7) : s.sameJournal (t.wr d r v) :=
  h.trans ⟨State.wr_jour .., State.wr_tick .., fun r' hr' => State.rd_wr_ne t d r 0 r' v (by simp only [regKey] at *; omega)⟩

theorem State.sameJournal.setF (h : s.sameJournal t) (d : Nat) (x : Fld) (v : Nat) (hx : regKey d x.reg / 0x10000 ≠ 7) :
    s.sameJournal (t.setF d x v) := h.wr d x.reg _ hx

theorem State.sameJournal.setFs (h : s.sameJournal t) (d : Nat) (l : List (Fld × Nat)) (hl : ∀ e ∈ l, regKey d e.1.reg / 0x10000 ≠ 7) :
    s.sameJournal (t.setFs d l) := by
  induction l generalizing t with
  | nil => exact h
  | cons e l ih =>
    rw [State.setFs_cons]
    exact ih (h.setF d e.1 e.2 (hl e List.mem_cons_self)) fun x hx => hl x (List.mem_cons_of_mem _ hx)

end SameJournal

/-- A place beyond the journal's page, on any die, is none of that page. -/
theorem regKey_page_ne {d r : Nat} (hlo : 0x080000 ≤ r) : regKey d r / 0x10000 ≠ 7 := by simp only [regKey]; omega

/-! ### The wear entries and the fuses (R115, R520, R525) -/

theorem sparePool_ge : 0x080000 ≤ SPARE_POOL := by decide

theorem poolTaken_sameJournal (d bit : Nat) (s : State) : s.sameJournal (poolTaken d bit s) :=
  (State.sameJournal.refl s).setF d _ 0 (regKey_page_ne sparePool_ge)

theorem remapReg_ge (g : Nat) : 0x080000 ≤ REGIONS_REMAP g := by simp only [REGIONS_REMAP]; omega

theorem cremapReg_ge : 0x080000 ≤ REGIONS_CREMAP := by decide

theorem activateLogic_sameJournal (d g : Nat) (s : State) : s.sameJournal (activateLogic d g s) :=
  (State.sameJournal.refl s).setFs d _ (by simp [regKey_page_ne (remapReg_ge g)])

theorem activateCmb_sameJournal (d : Nat) (s : State) : s.sameJournal (activateCmb d s) :=
  (State.sameJournal.refl s).setFs d _ (by simp [regKey_page_ne cremapReg_ge])

theorem laneSpare_sameJournal (d l : Nat) (s : State) : s.sameJournal (laneSpare d l s) := by
  have hphys : 0x080000 ≤ LQ_L_STAT 20 (l / 20) := by simp only [LQ_L_STAT]; omega
  unfold laneSpare
  refine State.sameJournal.setFs ?_ d _ ?_
  · exact State.sameJournal_regs rfl rfl rfl
  · simp [regKey_page_ne hphys, regKey_page_ne sparePool_ge]

theorem skipEnd_sameJournal (wire d m : Nat) (rx : Bool) (s : State) : s.sameJournal (skipEnd wire d m rx s) := by
  have hstat : 0x080000 ≤ CORUG_M_STAT m := by simp only [CORUG_M_STAT]; omega
  have hmap : 0x080000 ≤ mapReg m rx := by
    unfold mapReg
    split <;> simp only [CORUG_M_RXMAP, CORUG_M_TXMAP] <;> omega
  have hspares : 0x080000 ≤ (if rx then CORUG_M_STAT_rx_spares m else CORUG_M_STAT_tx_spares m).reg := by split <;> exact hstat
  exact State.sameJournal_ite (.refl s) ((((State.sameJournal.refl s).wr d _ _ (regKey_page_ne hmap)).setF d _ _
    (regKey_page_ne hspares)).setF d _ _ (regKey_page_ne (by decide)))

theorem skipWire_sameJournal (d m : Nat) (rx : Bool) (wire : Nat) (s : State) : s.sameJournal (skipWire d m rx wire s) := by
  unfold skipWire
  split
  · exact (skipEnd_sameJournal ..).trans (skipEnd_sameJournal ..)
  · exact .refl s

/-- A spare shift or row that is assigned. -/
theorem spareAssign_sameJournal (b : BitVec 128) (s : State) (hb : spareByte b 0 ≤ 3) : s.sameJournal (spareAssign b true s) := by
  unfold spareAssign
  dsimp only
  split
  · exact (((State.sameJournal.refl s).setF _ _ _ (regKey_page_ne (remapReg_ge _))).trans (poolTaken_sameJournal ..)).trans
      (activateLogic_sameJournal ..)
  · exact (((State.sameJournal.refl s).setF _ _ _ (regKey_page_ne cremapReg_ge)).trans (poolTaken_sameJournal ..)).trans
      (activateCmb_sameJournal ..)
  · exact State.sameJournal_regs rfl rfl rfl
  · omega
  · omega
  · exact .refl s

/-- The wear entries of the pools of shifts and rows, applied in order. -/
theorem wearApply_sameJournal {pools : List Nat} (hpools : ∀ p ∈ pools, p ≤ 3) (l : List (BitVec 128)) (s : State) :
    s.sameJournal (wearApply pools l s).1 := by
  induction l generalizing s with
  | nil => exact .refl s
  | cons b l ih =>
    unfold wearApply
    split_ifs with hout hfits
    · exact ih s
    · have hb : spareByte b 0 ≤ 3 := hpools _ (by simpa using (not_or.mp hout).1)
      exact (spareAssign_sameJournal b s hb).trans (ih _)
    · have hcounted := (State.sameJournal.refl s).setF 0 SPARE_STAT_skipped
        (min (s.f 0 SPARE_STAT_skipped + 1) (2 ^ SPARE_STAT_skipped.len - 1)) (by decide)
      exact (hcounted.setF 0 SPARE_EVT_skipped 1 (by decide)).trans (ih _)

theorem startWear_sameJournal {pools : List Nat} (hpools : ∀ p ∈ pools, p ≤ 3) (s : State) : s.sameJournal (startWear pools s) := by
  unfold startWear
  dsimp only
  split
  · exact (wearApply_sameJournal hpools _ s).trans (State.sameJournal_regs rfl rfl rfl)
  · exact wearApply_sameJournal hpools _ s

theorem fusedAssign_sameJournal (b : BitVec 128) (s : State) : s.sameJournal (fusedAssign b s) := by
  unfold fusedAssign
  dsimp only
  split
  · exact ((State.sameJournal.refl s).setFs _ _ (by simp [regKey_page_ne (remapReg_ge _)])).trans (poolTaken_sameJournal ..)
  · exact ((State.sameJournal.refl s).setFs _ _ (by simp [regKey_page_ne cremapReg_ge])).trans
      (poolTaken_sameJournal ..)
  · exact State.sameJournal_regs rfl rfl rfl
  · exact skipWire_sameJournal ..
  · exact laneSpare_sameJournal ..
  · exact .refl s

/-- A register that has its reset value in a fuse lies beyond the journal's page. -/
theorem fuseReset_page {d r : Nat} (h : (fuseReset d r).isSome = true) : 0x080000 ≤ r := by
  by_contra hlt
  have hnone : fuseReset d r = none := by
    unfold fuseReset
    simp only [REGIONS_REMAP, REGIONS_CREMAP, SPARE_AGEB, SPARE_POOL, CORUG_EDGE, CORE_ID]
    rw [if_neg (by omega), if_neg (by omega), if_neg (by omega), if_neg (by omega), if_neg (by omega), if_neg (by omega), if_neg (by omega),
      if_neg (by omega), if_neg (by omega)]
  simp [hnone] at h

theorem fusedDie_sameJournal (d : Nat) (s : State) : s.sameJournal (fusedDie d s) := by
  refine (State.sameJournal_each s _ fun t e he => ?_).trans (State.sameJournal_each _ _ fun t b _ => ?_)
  · have hfuse : (fuseReset d (e.1 % 0x1000000)).isSome = true := by
      simp only [List.mem_filter, Bool.and_eq_true] at he
      exact he.2.2
    exact (State.sameJournal.refl t).wr d _ e.2 (regKey_page_ne (fuseReset_page hfuse))
  · exact State.sameJournal_ite (fusedAssign_sameJournal b t) (.refl t)

/-- The fuses of every die leave the journal, its page and the tick. -/
theorem fusedAll_sameJournal (s : State) : s.sameJournal (fusedAll s) := State.sameJournal_each s _ fun t d _ => fusedDie_sameJournal d t

/-! ### Loads (R428, R431, R433) -/

theorem openStaging_sameJournal (s : State) : s.sameJournal (openStaging s) := by
  unfold openStaging
  refine State.sameJournal.setFs ?_ 0 _ (by decide)
  exact State.sameJournal_regs rfl rfl rfl

theorem endLoad_sameJournal (s : State) : s.sameJournal (endLoad s) := by
  unfold endLoad closeStaging
  refine State.sameJournal.setFs (State.sameJournal.setF ?_ 0 CFG_STAT_busy 0 (by decide)) 0 _ (by decide)
  exact State.sameJournal_regs rfl rfl rfl

theorem rejectLoad_sameJournal (reason : Nat) (s : State) : s.sameJournal (rejectLoad reason s) := by
  unfold rejectLoad
  refine State.sameJournal.trans (State.sameJournal.setF (State.sameJournal.setF ?_ 0 CFG_STAT_reject reason (by decide)) 0 CFG_EVT_rejected 1
    (by decide)) (endLoad_sameJournal _)
  exact State.sameJournal_regs rfl rfl rfl

theorem beginLoad_sameJournal (l : Load) (s : State) : s.sameJournal (beginLoad l s) := by
  unfold beginLoad
  extract_lets _ cleared shown counted
  have hcleared : s.sameJournal (cleared.setLoad (some l)) := State.sameJournal_regs rfl rfl rfl
  have hcounted : s.sameJournal counted := (hcleared.setFs 0 _ (by simp [regKey, CFG_STAT])).wr 0 CFG_PROGRESS 0 (by decide)
  exact State.sameJournal_ite (hcounted.trans (rejectLoad_sameJournal 1 counted))
    (hcounted.trans (State.sameJournal_when counted _ (openStaging_sameJournal counted)))

/-! ### A step begins (R438) -/

theorem beginTraining_sameJournal (c g : Nat) (s11 : Bool) (s : State) : s.sameJournal (beginTraining c g s11 s) := by
  have hpage : 0x080000 ≤ DDR_STAT (c % 4) := by simp only [DDR_STAT]; omega
  unfold beginTraining State.setCf
  refine State.sameJournal.setF ?_ (chanDie c) (DDR_STAT_state (c % 4)) 1 (regKey_page_ne hpage)
  exact State.sameJournal_regs rfl rfl rfl

theorem beginS12_sameJournal (s : State) : s.sameJournal (beginS12 s) := by
  unfold beginS12
  extract_lets _ worn staged _
  have hworn : s.sameJournal worn := by
    refine State.sameJournal.trans ?_ (startWear_sameJournal (pools := [1, 2, 3]) (by decide) _)
    exact State.sameJournal_regs rfl rfl rfl
  have hstaged : s.sameJournal staged := hworn.trans (State.sameJournal_when worn _ (openStaging_sameJournal worn))
  clear_value staged
  split
  · exact State.sameJournal_ite (hstaged.trans (beginLoad_sameJournal _ staged))
      (State.sameJournal_ite (hstaged.trans (State.sameJournal_regs rfl rfl rfl)) hstaged)
  · exact hstaged

/-- S11 begins with the training of every channel, but in a degraded start. -/
theorem beginAt_ddr (s : State) : beginAt 11 s = if (beginStep 11 s).degraded then beginStep 11 s else
    (beginStep 11 s).each (beginStep 11 s).channels fun s c => beginTraining c s.s11Grade true s := rfl

/-- S12 begins with the personality, but in a degraded start. -/
theorem beginAt_pers (s : State) : beginAt 12 s = if (beginStep 12 s).degraded then beginStep 12 s else beginS12 (beginStep 12 s) := rfl

/-- What the steps S4, S11, S12 and S15 begin with leaves the journal, its page and the tick. -/
theorem beginAt_sameJournal {k : Nat} (hk : k ∈ [4, 11, 12, 15]) (s : State) : (beginStep k s).sameJournal (beginAt k s) := by
  simp only [List.mem_cons, List.not_mem_nil, or_false] at hk
  obtain rfl | rfl | rfl | rfl := hk
  · exact .refl _
  · rw [beginAt_ddr]
    exact State.sameJournal_ite (.refl _) (State.sameJournal_each _ _ fun t c _ => beginTraining_sameJournal c _ true t)
  · rw [beginAt_pers]
    exact State.sameJournal_ite (.refl _) (beginS12_sameJournal _)
  · exact .refl _

/-- Such a step that begins shows its number and leaves the journal. -/
theorem beginAt_begins {k : Nat} (hk : k ∈ [4, 11, 12, 15]) (s : State) :
    (beginAt k s).f 0 JOURNAL_STAT_step = k ∧ (beginAt k s).jour = s.jour ∧
    (beginAt k s).f 0 JOURNAL_EVT_step_fail = s.f 0 JOURNAL_EVT_step_fail := by
  have hlt : k < 16 := by
    simp only [List.mem_cons, List.not_mem_nil, or_false] at hk
    omega
  have hsame := beginAt_sameJournal hk s
  exact ⟨(hsame.f (by decide)).trans (beginStep_step s hlt), hsame.jour.trans (beginStep_jour k s),
    (hsame.f (by decide)).trans (beginStep_clear k s _ (by decide) (by decide))⟩

end Sys2Proof.Machine
end

section
/-! SUPPORT. The start sequence (15), continued: the flush of the journal's records, a step that ends, a start that stops, and a restart. -/

namespace Sys2Proof.Machine

/-! ### Records are written (R456 to R458) -/

/-- The fields that the writing of records may store: the journal is frozen, an erase is over, a sector is retired. -/
def sectorMarks : List (Nat × Fld) := [(0, JOURNAL_STAT_frozen), (0, JOURNAL_STAT_erasing), (0, JOURNAL_EVT_sector_retired)]

/-- From s to t no field changes but those marks, and the supply stays as it is. -/
structure State.sectorsOnly (s t : State) : Prop where
  fields : s.onlyFields t sectorMarks
  pwr : t.pwr = s.pwr

section SectorsOnly
variable {s t u : State}

/-- What leaves the register file and the supply alone. -/
theorem State.sectorsOnly_regs (hregs : t.regs = s.regs) (hpwr : t.pwr = s.pwr) : s.sectorsOnly t :=
  ⟨State.onlyFields_regs (State.onlyFields_refl s _) hregs, hpwr⟩

theorem State.sectorsOnly.refl (s : State) : s.sectorsOnly s := State.sectorsOnly_regs rfl rfl

theorem State.sectorsOnly.trans (h : s.sectorsOnly t) (hu : t.sectorsOnly u) : s.sectorsOnly u :=
  ⟨State.onlyFields_trans h.fields hu.fields, hu.pwr.trans h.pwr⟩

theorem State.sectorsOnly.setF (h : s.sectorsOnly t) (x : Fld) (v : Nat) (hm : (0, x) ∈ sectorMarks) : s.sectorsOnly (t.setF 0 x v) := by
  have hplaced : placed (0, x) = true := by
    simp only [sectorMarks, List.mem_cons, Prod.mk.injEq, true_and, List.not_mem_nil, or_false] at hm
    obtain rfl | rfl | rfl := hm <;> decide
  exact ⟨State.onlyFields_setF h.fields 0 x v hplaced hm, (State.setF_pwr ..).trans h.pwr⟩

/-- One of two changes. -/
theorem State.sectorsOnly_ite {c : Prop} [Decidable c] (ht : s.sectorsOnly t) (hu : s.sectorsOnly u) :
    s.sectorsOnly (if c then t else u) := by
  split
  · exact ht
  · exact hu

end SectorsOnly

theorem setSector_sectorsOnly (k : Nat) (x : Sector) (s : State) : s.sectorsOnly (s.setSector k x) := State.sectorsOnly_regs rfl rfl

theorem failSector_sectorsOnly (k : Nat) (s : State) : s.sectorsOnly (failSector k s) :=
  (setSector_sectorsOnly k _ s).setF JOURNAL_EVT_sector_retired 1 (by decide)

theorem eraseSector_sectorsOnly (k seq : Nat) (s : State) : s.sectorsOnly (eraseSector k seq s) := by
  unfold eraseSector State.when
  have hset := setSector_sectorsOnly k { hdr := some ((s.sector k).erases + 1, seq), recs := [], failed := (s.sector k).failed } s
  exact State.sectorsOnly_ite (hset.setF JOURNAL_EVT_sector_retired 1 (by decide)) hset

theorem takeSector_sectorsOnly (bad l : List Nat) (s : State) : s.sectorsOnly (takeSector bad l s) := by
  induction l generalizing s with
  | nil => exact State.sectorsOnly_regs rfl rfl
  | cons k l ih =>
    have herased : s.sectorsOnly ({ eraseSector k (s.topSeq + 1) s with
        jour := { (eraseSector k (s.topSeq + 1) s).jour with cur := some k } }) :=
      (eraseSector_sectorsOnly k (s.topSeq + 1) s).trans (State.sectorsOnly_regs rfl rfl)
    exact State.sectorsOnly_ite (ih s) (State.sectorsOnly_ite ((failSector_sectorsOnly k s).trans (ih _)) herased)

theorem roomSector_sectorsOnly (bad : List Nat) (s : State) : s.sectorsOnly (roomSector bad s) := by
  unfold roomSector
  split
  · exact State.sectorsOnly_ite (takeSector_sectorsOnly ..) (.refl s)
  · exact takeSector_sectorsOnly ..

theorem putRecord_sectorsOnly (r : Option JRec) (s : State) : s.sectorsOnly (putRecord r s) := by
  unfold putRecord
  split
  · exact setSector_sectorsOnly ..
  · exact .refl s

theorem writeRecord_sectorsOnly (p : Prog) (bad : List Nat) (r : JRec) (s : State) : s.sectorsOnly (writeRecord p bad r s) := by
  have hroom := roomSector_sectorsOnly bad s
  unfold writeRecord
  dsimp only
  split
  · exact hroom
  · split
    · exact hroom.trans (putRecord_sectorsOnly ..)
    · exact hroom.trans (putRecord_sectorsOnly ..)
    · exact ((hroom.trans (failSector_sectorsOnly ..)).trans (roomSector_sectorsOnly ..)).trans (putRecord_sectorsOnly ..)

theorem freezeCheck_sectorsOnly (s : State) : s.sectorsOnly (freezeCheck s) := by
  unfold freezeCheck
  refine State.sectorsOnly_ite ?_ (.refl s)
  rw [State.setFs_cons, State.setFs_cons, State.setFs_nil]
  refine State.sectorsOnly.setF (State.sectorsOnly.setF ?_ JOURNAL_STAT_frozen 1 (by decide)) JOURNAL_STAT_erasing 0 (by decide)
  exact State.sectorsOnly_regs rfl rfl

theorem recordWrite_sectorsOnly (p : Prog) (bad : List Nat) (s : State) : s.sectorsOnly (recordWrite p bad s) := by
  unfold recordWrite
  split
  · exact .refl s
  · next r l _ =>
    refine State.sectorsOnly_ite (.refl s) (State.sectorsOnly.trans (State.sectorsOnly.trans ?_ (writeRecord_sectorsOnly p bad r _))
      (freezeCheck_sectorsOnly _))
    exact State.sectorsOnly_regs rfl rfl

theorem writeRecords_sectorsOnly (n : Nat) (s : State) : s.sectorsOnly (writeRecords n s) := by
  induction n generalizing s with
  | zero => exact .refl s
  | succ n ih => exact (recordWrite_sectorsOnly .done [] s).trans (ih _)

/-- The flush of the records leaves the supply and, but for the marks, the registers. -/
theorem flushRecords_sectorsOnly (s : State) : s.sectorsOnly (flushRecords s) := by
  have hbuf : s.sectorsOnly (if s.jour.erase = 2 then { s with jour := { s.jour with buf := [] } } else s) :=
    State.sectorsOnly_ite (State.sectorsOnly_regs rfl rfl) (.refl s)
  exact hbuf.trans (writeRecords_sectorsOnly _ _)

/-! ### A step's record (R444, R454) -/

/-- A record leaves every field but the event of a step that fails. -/
theorem record_f_clear (k o v d : Nat) (s : State) {x : Fld} (hx : placed (0, x) = true)
    (hevt : apart (0, JOURNAL_EVT_step_fail) (0, x) = true) : (record k o v d s).f 0 x = s.f 0 x := by
  have hpush : (pushRecord (s.stepRec k o v d) s).regs = s.regs := by
    unfold pushRecord
    split <;> rfl
  unfold record State.when
  split
  · exact (State.f_setF_clear _ 0 0 _ x 1 (by decide) hx hevt).trans (State.f_congr hpush 0 x)
  · exact State.f_congr hpush 0 x

/-- The record of a failure sets its event. -/
theorem record_step_fail (k v d : Nat) (s : State) : (record k 1 v d s).f 0 JOURNAL_EVT_step_fail = 1 :=
  State.f_setF_fits _ 0 _ 1 (by decide) (by decide)

/-- A record leaves what the sequencer holds. -/
theorem record_start (k o v d : Nat) (s : State) : (record k o v d s).start = s.start := by
  unfold record pushRecord State.when
  split <;> split <;> simp

/-! ### A step ends (R430, R438) -/

/-- After S3 comes S4, after S10 S11, and after S14 a deferred S12, or S15. -/
theorem goNext_begins {k n : Nat} (s : State) (h : k = 3 ∧ n = 4 ∨ k = 10 ∧ n = 11 ∨ k = 14 ∧ n = if s.start.deferred then 12 else 15) :
    goNext k s = beginAt n s ∧ n ∈ [4, 11, 12, 15] := by
  obtain ⟨rfl, rfl⟩ | ⟨rfl, rfl⟩ | ⟨rfl, rfl⟩ := h
  · exact ⟨rfl, by decide⟩
  · exact ⟨rfl, by decide⟩
  · refine ⟨rfl, ?_⟩
    split <;> decide

/-- A step that ends well gives way to the next one, its record behind the others in a journal that is not frozen (R456). -/
theorem endStep_ends {k n : Nat} {s : State} (hf : s.frozen = false)
    (h : k = 3 ∧ n = 4 ∨ k = 10 ∧ n = 11 ∨ k = 14 ∧ n = if s.start.deferred then 12 else 15) :
    (endStep k 0 0 s).f 0 JOURNAL_STAT_step = n ∧ (endStep k 0 0 s).jour.buf = s.jour.buf ++ [s.stepRec k 0 (s.variantOf k) 0] := by
  have hstart := record_start k 0 (s.variantOf k) 0 s
  obtain ⟨hnext, hmem⟩ := goNext_begins (record k 0 (s.variantOf k) 0 s) (by rwa [hstart])
  obtain ⟨hstep, hjour, -⟩ := beginAt_begins hmem (record k 0 (s.variantOf k) 0 s)
  unfold endStep
  rw [hnext]
  exact ⟨hstep, by rw [hjour, record_buf _ _ _ _ hf]⟩

/-- A stop at the step is over (R454). -/
def stopOver (s : State) : State := s.setF 0 JOURNAL_STICKY_stop_valid 0

/-- The end of a stop leaves a step's record as it is. -/
theorem stopOver_stepRec (k o v d : Nat) (s : State) : (stopOver s).stepRec k o v d = s.stepRec k o v d := by
  have hstarts : (stopOver s).rd 0 JOURNAL_STARTS = s.rd 0 JOURNAL_STARTS := State.rd_setF_ne s 0 0 _ _ 0 (by decide)
  unfold State.stepRec
  rw [hstarts]
  rfl

/-- The end of a stop leaves the plan's variants. -/
theorem stopOver_variantOf (k : Nat) (s : State) : (stopOver s).variantOf k = s.variantOf k := by
  unfold State.variantOf State.planAlt stopOver
  rw [State.f_setF_clear _ _ _ _ _ _ (by decide) (by decide) (by decide), State.f_setF_clear _ _ _ _ _ _ (by decide) (by decide) (by decide)]

/-- The end of a stop leaves whether the journal is frozen. -/
theorem stopOver_frozen (s : State) : (stopOver s).frozen = s.frozen := by
  unfold State.frozen State.on stopOver
  rw [State.f_setF_clear _ _ _ _ _ _ (by decide) (by decide) (by decide)]

/-- A step that passes ends well, where a stop at it is over. -/
theorem passStep_eq (k d : Nat) (s : State) : passStep k d s = endStep k 0 d (if s.f 0 JOURNAL_STICKY_stop_step = k then stopOver s else s) := by
  simp only [passStep, State.when, decide_eq_true_eq, stopOver]

/-- A step that passes gives way to the next one with its record. -/
theorem passStep_ends {k n : Nat} {s : State} (hf : s.frozen = false)
    (h : k = 3 ∧ n = 4 ∨ k = 10 ∧ n = 11 ∨ k = 14 ∧ n = if s.start.deferred then 12 else 15) :
    (passStep k 0 s).f 0 JOURNAL_STAT_step = n ∧ (passStep k 0 s).jour.buf = s.jour.buf ++ [s.stepRec k 0 (s.variantOf k) 0] := by
  rw [passStep_eq]
  split
  · have hends := endStep_ends (s := stopOver s) ((stopOver_frozen s).trans hf) h
    rwa [stopOver_variantOf, stopOver_stepRec] at hends
  · exact endStep_ends hf h

/-! ### A start stops (R439, R548) -/

/-- The device with every die reset, but for the registers that the safe-state logic keeps (R548). -/
def coldSafe (s : State) : State := coldState (resetRegs (fun k => !safeKeeps k) (fun _ => false) s.regs) s

/-- Among those are the registers of the journal's page. -/
theorem fusedAll_coldSafe_f (s : State) {x : Fld} (hx : x.reg / 0x10000 = 7) : (fusedAll (coldSafe s)).f 0 x = s.f 0 x := by
  have hkept : safeKeeps (regKey 0 x.reg) = true := by simp [safeKeeps, regKey, hx]
  have hcold : (coldSafe s).rd 0 x.reg = s.rd 0 x.reg := lookD_resetRegs _ _ s.regs _ _ (by simp [hkept])
  exact ((fusedAll_sameJournal _).f hx).trans (State.f_of_rd hcold)

/-- The marks of the safe state come last. -/
theorem enterSafe_marks (c : Nat) {s : State} (hsafe : s.pwr.safe = false) : ∃ (u : State) (n : Nat),
    u.regs = (fusedAll (coldSafe s)).regs ∧ u.pwr.safe = true ∧ enterSafe c s = u.setFs 0
      [(PWR_SAFE_entered, 1), (PWR_SAFE_cause, c), (PWR_SAFE_tick, n), (JOURNAL_STAT_running, 0), (CLK_REF_tb_lock, 0)] := by
  unfold enterSafe
  rw [if_neg (by simp [hsafe])]
  extract_lets n _ fused _ _ _ _ _ _ _ _ _ safe
  have hfused : fused.regs = (fusedAll (coldSafe s)).regs := rfl
  clear_value fused
  have hregs : safe.regs = fused.regs := rfl
  have hin : safe.pwr.safe = true := rfl
  clear_value safe
  exact ⟨safe, n, hregs.trans hfused, hin, rfl⟩

/-- What a device that enters the safe state shows: its cause, no start that runs, and the rest of the journal's page as before (R548). -/
theorem enterSafe_enters {c : Nat} (hc : c < 8) {s : State} (hsafe : s.pwr.safe = false) :
    (enterSafe c s).pwr.safe = true ∧ (enterSafe c s).f 0 PWR_SAFE_cause = c ∧ (enterSafe c s).f 0 JOURNAL_STAT_running = 0 ∧
    ∀ x : Fld, x.reg / 0x10000 = 7 → placed (0, x) = true → apart (0, JOURNAL_STAT_running) (0, x) = true →
      (enterSafe c s).f 0 x = s.f 0 x := by
  obtain ⟨u, n, hregs, hpwr, hu⟩ := enterSafe_marks c hsafe
  rw [hu]
  refine ⟨by rw [State.setFs_pwr, hpwr], ?_, ?_, fun x hx hplaced hrun => ?_⟩
  · rw [State.setFs_cons, State.f_setFs_cons _ _ _ _ _ (by decide) (by simp [placed, apart, PWR_SAFE, JOURNAL_STAT, CLK_REF])]
    exact Nat.mod_eq_of_lt hc
  · rw [State.setFs_cons, State.setFs_cons, State.setFs_cons, State.f_setFs_cons _ _ _ _ _ (by decide) (by decide)]
    rfl
  · have hpwrPage : PWR_SAFE ≠ x.reg := by rintro h; rw [← h] at hx; exact absurd hx (by decide)
    have hclkPage : CLK_REF ≠ x.reg := by rintro h; rw [← h] at hx; exact absurd hx (by decide)
    rw [State.f_setFs_clear _ _ _ hplaced (by simpa [placed, apart_iff, hpwrPage, hclkPage, PWR_SAFE, JOURNAL_STAT, CLK_REF] using apart_iff.mp hrun),
      State.f_congr hregs, fusedAll_coldSafe_f s hx]

/-- The rights shown leave every field of another register. -/
theorem showRights_f_clear (s : State) {x : Fld} (hx : placed (0, x) = true) (hreg : DBG_RIGHTS ≠ x.reg) : (showRights s).f 0 x = s.f 0 x :=
  State.f_setFs_clear s 0 _ hx (by simp [placed_iff, apart_iff, hreg, DBG_RIGHTS])

/-- The rights shown leave the supply. -/
theorem showRights_pwr (s : State) : (showRights s).pwr = s.pwr := State.setFs_pwr ..

/-- The marks of a stop at step k. -/
def stopMarks (k : Nat) (s : State) : State :=
  s.setFs 0 [(JOURNAL_STAT_stopped, 1), (JOURNAL_STAT_cause, k), (JOURNAL_STAT_step, k), (JOURNAL_STICKY_stop_step, k),
    (JOURNAL_STICKY_stop_valid, 1)]

/-- A stop at step k shows it. -/
theorem stopMarks_shown {k : Nat} (hk : k < 16) (s : State) :
    (stopMarks k s).f 0 JOURNAL_STAT_stopped = 1 ∧ (stopMarks k s).f 0 JOURNAL_STAT_step = k ∧
    (stopMarks k s).f 0 JOURNAL_STAT_cause = k ∧ (stopMarks k s).f 0 JOURNAL_STICKY_stop_step = k := by
  unfold stopMarks
  refine ⟨?_, ?_, ?_, ?_⟩
  · rw [State.f_setFs_cons _ _ _ _ _ (by decide) (by simp [placed, apart, JOURNAL_STAT, JOURNAL_STICKY])]
    rfl
  · rw [State.setFs_cons, State.setFs_cons, State.f_setFs_cons _ _ _ _ _ (by decide) (by simp [placed, apart, JOURNAL_STAT, JOURNAL_STICKY])]
    exact Nat.mod_eq_of_lt hk
  · rw [State.setFs_cons, State.f_setFs_cons _ _ _ _ _ (by decide) (by simp [placed, apart, JOURNAL_STAT, JOURNAL_STICKY])]
    exact Nat.mod_eq_of_lt hk
  · rw [State.setFs_cons, State.setFs_cons, State.setFs_cons, State.f_setFs_cons _ _ _ _ _ (by decide) (by simp [placed, apart, JOURNAL_STICKY])]
    exact Nat.mod_eq_of_lt hk

/-- A start that stops at a step other than S5 enters the safe state with the marks of the stop. -/
theorem stopStart_eq {k : Nat} (hk : k ≠ 5) (o v d c : Nat) (s : State) :
    stopStart k o v d c s = showRights (enterSafe c (stopMarks k (flushRecords (record k o v d s)))) := by
  unfold stopStart
  rw [if_neg (by simp [hk])]
  rfl

/-- What a start that stops leaves outside the safe state (R439). -/
theorem stopStart_stops {k c : Nat} (hk : k < 16) (hne : k ≠ 5) (hc : c < 8) (o v d : Nat) {s : State} (hsafe : s.pwr.safe = false) :
    (stopStart k o v d c s).pwr.safe = true ∧ (stopStart k o v d c s).f 0 PWR_SAFE_cause = c ∧
    (stopStart k o v d c s).f 0 JOURNAL_STAT_stopped = 1 ∧ (stopStart k o v d c s).f 0 JOURNAL_STAT_running = 0 ∧
    (stopStart k o v d c s).f 0 JOURNAL_STAT_step = k ∧ (stopStart k o v d c s).f 0 JOURNAL_STAT_cause = k ∧
    (stopStart k o v d c s).f 0 JOURNAL_STICKY_stop_step = k := by
  rw [stopStart_eq hne]
  generalize hflushed : flushRecords (record k o v d s) = u
  have hpwr : (stopMarks k u).pwr.safe = false := by
    rw [stopMarks, State.setFs_pwr, ← hflushed, (flushRecords_sectorsOnly _).pwr, record_pwr, hsafe]
  obtain ⟨hin, hcause, hrun, hkept⟩ := enterSafe_enters hc hpwr
  obtain ⟨hstopped, hstep, hwhy, hsticky⟩ := stopMarks_shown hk u
  have hshown (x : Fld) (hx : x.reg / 0x10000 = 7) (hplaced : placed (0, x) = true) :
      (showRights (enterSafe c (stopMarks k u))).f 0 x = (enterSafe c (stopMarks k u)).f 0 x :=
    showRights_f_clear _ hplaced (by rintro h; rw [← h] at hx; exact absurd hx (by decide))
  refine ⟨by rw [showRights_pwr, hin], ?_, ?_, ?_, ?_, ?_, ?_⟩
  · rw [showRights_f_clear _ (by decide) (by decide), hcause]
  · rw [hshown _ (by decide) (by decide), hkept _ (by decide) (by decide) (by decide), hstopped]
  · rw [hshown _ (by decide) (by decide), hrun]
  · rw [hshown _ (by decide) (by decide), hkept _ (by decide) (by decide) (by decide), hstep]
  · rw [hshown _ (by decide) (by decide), hkept _ (by decide) (by decide) (by decide), hwhy]
  · rw [hshown _ (by decide) (by decide), hkept _ (by decide) (by decide) (by decide), hsticky]

/-! ### A start begins again (R440, R452) -/

/-- A power-on reset stops the timebase. -/
theorem powerOnReset_tb (s : State) : (powerOnReset s).tick.tb = .off := by
  rw [powerOnReset, (fusedAll_sameJournal _).tick]
  rfl

/-- As the dies leave reset, every field of another register than `CLK_REF` reads as before. -/
theorem diesLeaveReset_f_clear (s : State) {x : Fld} (hx : placed (0, x) = true) (hreg : CLK_REF ≠ x.reg) :
    (diesLeaveReset s).f 0 x = s.f 0 x :=
  (State.f_setFs_clear _ 0 _ hx (by simp [placed_iff, apart_iff, hreg, CLK_REF])).trans (State.f_congr rfl 0 x)

/-- The end of S0 in a device that is cool leaves the fields of other registers than `CLK_REF`, but for the step shown, and the tick. -/
theorem endS0_leaves {s : State} (hstep : s.atStep 0 = true) (hrails : s.pwr.railsGood = true) (hosc : s.pwr.oscReady = true)
    (hheld : s.pwr.clkHeld = false) (hcool : s.coolEnough = true) :
    (endS0 s).tick = s.tick ∧ ∀ x : Fld, placed (0, x) = true → CLK_REF ≠ x.reg → apart (0, JOURNAL_STAT_step) (0, x) = true →
      (endS0 s).f 0 x = s.f 0 x := by
  rw [endS0_cool hstep hrails hosc hheld hcool]
  refine ⟨?_, fun x hx hreg hap => ?_⟩
  · simp [beginStep, record, pushRecord, diesLeaveReset, apply_ite State.tick]
  · rw [beginStep_clear _ _ _ hx hap, State.f_congr (record_regs 0 0 0 _), diesLeaveReset_f_clear s hx hreg]

/-- The device after the power-on reset of a restart, with the count of restarts and `JOURNAL_RETRY` given. -/
def coldRestart (n retry : Nat) (s : State) : State :=
  (powerOnReset s).setFs 0 [(JOURNAL_STICKY_restarts, n), (JOURNAL_RETRY_steps, retry)]

/-- A restart begins a start after the reset. -/
theorem restart_eq (s : State) : restart s = endS0 (beginStart (coldRestart (min 4 ((flushRecords s).f 0 JOURNAL_STICKY_restarts + 1))
    ((flushRecords s).f 0 JOURNAL_RETRY_steps) (flushRecords s))) := rfl

/-- The begin of a start leaves the fields of other registers than `JOURNAL_STAT`. -/
theorem beginStart_f_clear (s : State) {x : Fld} (hx : placed (0, x) = true) (hreg : JOURNAL_STAT ≠ x.reg) :
    (beginStart s).f 0 x = s.f 0 x := State.f_setFs_clear s 0 _ hx (by simp [placed_iff, apart_iff, hreg, JOURNAL_STAT])

/-- What a restart leaves where the supply is good and no die is hot: it is counted, and S0 has passed at once (R440, R452). -/
theorem restart_begins {s : State} (hn : s.f 0 JOURNAL_STICKY_restarts < 4) (hrails : s.pwr.railsGood = true) (hosc : s.pwr.oscReady = true)
    (hheld : s.pwr.clkHeld = false) (hhot : s.pwr.hot = []) :
    (restart s).f 0 JOURNAL_STICKY_restarts = s.f 0 JOURNAL_STICKY_restarts + 1 ∧ (restart s).f 0 JOURNAL_STAT_running = 1 ∧
    (restart s).f 0 JOURNAL_STAT_step = 1 ∧ (restart s).tick.tb = .off := by
  have hflushed := flushRecords_sectorsOnly s
  have hcount : (flushRecords s).f 0 JOURNAL_STICKY_restarts = s.f 0 JOURNAL_STICKY_restarts :=
    hflushed.fields (0, JOURNAL_STICKY_restarts) (by decide) (by decide)
  rw [restart_eq, hcount]
  generalize hcold : coldRestart _ _ (flushRecords s) = u
  have hpwr : u.pwr = (powerOnReset (flushRecords s)).pwr := by rw [← hcold, coldRestart, State.setFs_pwr]
  have hcool : (beginStart u).coolEnough = true := by simp [State.coolEnough, hpwr, hflushed.pwr, hhot]
  have hrails' : (beginStart u).pwr.railsGood = true := by simpa [hpwr, hflushed.pwr] using hrails
  have hosc' : (beginStart u).pwr.oscReady = true := by simpa [hpwr, hflushed.pwr] using hosc
  have hheld' : (beginStart u).pwr.clkHeld = false := by simpa [hpwr, hflushed.pwr] using hheld
  obtain ⟨-, hstep, -⟩ := endS0_ends (beginStart_atStep u) hrails' hosc' hheld' hcool
  obtain ⟨htick, hkept⟩ := endS0_leaves (beginStart_atStep u) hrails' hosc' hheld' hcool
  refine ⟨?_, ?_, hstep, ?_⟩
  · rw [hkept _ (by decide) (by decide) (by decide), beginStart_f_clear _ (by decide) (by decide), ← hcold, coldRestart,
      State.f_setFs_cons _ _ _ _ _ (by decide) (by simp [placed, apart, JOURNAL_RETRY]), Nat.mod_eq_of_lt (show _ < 2 ^ 3 by omega)]
    omega
  · rw [hkept _ (by decide) (by decide) (by decide), beginStart_running]
  · rw [htick, beginStart, State.setFs_tick, ← hcold, coldRestart, State.setFs_tick, powerOnReset_tb]

/-! ### START_STEP_END and START_STEP_TIMEOUT (R438, R456) -/

/-- The start waits: none runs, or the buffer of records is full. -/
def State.startWaits (s : State) : Bool := !s.on 0 JOURNAL_STAT_running || s.bufFull

/-- A start that waits neither ends a step nor times one out. -/
theorem startStep_waits (i : StepIn) {s : State} (h : s.startWaits = true) : startStepEnd i s = s ∧ startStepTimeout i s = s :=
  ⟨if_pos h, if_pos h⟩

/-- A start that runs, with room for a record, does not wait. -/
theorem State.startWaits_false {s : State} (hrun : s.f 0 JOURNAL_STAT_running = 1) (hroom : s.jour.buf.length < 16) : s.startWaits = false := by
  simp [State.startWaits, State.on_of_one hrun, State.bufFull, hroom]

section Steps
variable {s : State} (i : StepIn)

/-- A check that has ended well passes S3, or S10. -/
theorem startStepEnd_passes {k : Nat} (hk : k = 3 ∨ k = 10) (hgo : s.startWaits = false) (hstep : s.f 0 JOURNAL_STAT_step = k)
    (hok : i.ok = true) : startStepEnd i s = passStep k 0 s := by
  unfold startStepEnd
  rw [if_neg (by simpa [State.startWaits] using hgo), hstep]
  obtain rfl | rfl := hk <;> exact if_pos hok

/-- S14 ends as its join has. -/
theorem startStepEnd_joins (hgo : s.startWaits = false) (hstep : s.f 0 JOURNAL_STAT_step = 14) : startStepEnd i s = endS14 s := by
  unfold startStepEnd
  rw [if_neg (by simpa [State.startWaits] using hgo), hstep]
  rfl

/-- S3, S10 and S14 fail at their limit. -/
theorem startStepTimeout_fails {k : Nat} (hk : k = 3 ∨ k = 10 ∨ k = 14) (hgo : s.startWaits = false) (hstep : s.f 0 JOURNAL_STAT_step = k) :
    startStepTimeout i s = stepFails k 0 s := by
  unfold startStepTimeout
  rw [if_neg (by simpa [State.startWaits] using hgo), hstep]
  obtain rfl | rfl | rfl := hk <;> rfl

end Steps

/-- S14 passes at once without an upstream port. -/
theorem endS14_passes {s : State} (h : 8 ≤ s.f 0 ITA_ID_upstream) : endS14 s = passStep 14 0 s :=
  if_pos (by simp [State.hasUpPort, State.upstream, Nat.not_lt.mpr h])

/-- S14 waits for an upstream port that is not UP. -/
theorem endS14_waits {s : State} (hup : s.f 0 ITA_ID_upstream < 8) (hstate : s.portState (s.f 0 ITA_ID_upstream) ≠ 4) : endS14 s = s :=
  if_neg (by simp [State.hasUpPort, State.upstream, hup, hstate])

/-- A failure of S14 lets the start go on (R438). -/
theorem stepFails_goesOn (s : State) : (stepFails 14 0 s).f 0 JOURNAL_STAT_step = (if s.start.deferred then 12 else 15) ∧
    (stepFails 14 0 s).f 0 JOURNAL_EVT_step_fail = 1 := by
  obtain ⟨hnext, hmem⟩ := goNext_begins (k := 14) (record 14 1 (s.variantOf 14) 0 s) (.inr (.inr ⟨rfl, rfl⟩))
  obtain ⟨hstep, -, hevt⟩ := beginAt_begins hmem (record 14 1 (s.variantOf 14) 0 s)
  have hfails : stepFails 14 0 s = goNext 14 (record 14 1 (s.variantOf 14) 0 s) := rfl
  rw [hfails, hnext]
  exact ⟨by rw [hstep, record_start], by rw [hevt, record_step_fail]⟩

/-- A failure of S3 stops the start (R439). -/
theorem stepFails_stops (s : State) : stepFails 3 0 s = stopStart 3 3 (s.variantOf 3) 0 5 s := rfl

/-- A failure of S10 restarts a start that is not degraded, before the third in a row and the fourth restart (R448). -/
theorem stepFails_restarts {s : State} (hdeg : s.degraded = false) (hfails : s.failsOf 10 < 2) (hn : s.f 0 JOURNAL_STICKY_restarts < 4) :
    stepFails 10 0 s = restart (record 10 1 (s.variantOf 10) 0 s) := by
  have hlast : s.lastChance 10 = false := by
    simp only [State.lastChance, Bool.or_eq_false_iff, decide_eq_false_iff_not]
    omega
  simp [stepFails, hdeg, hlast]

/-- Settles O19: a step that is over begins the one that goNext names, and a failure is what stepFails makes of it: S14 goes on, S3 stops,
S10 restarts. -/
theorem startStepsEndFailAndRestart : Obligations.StartStepsEndFailAndRestart := by
  unfold Obligations.StartStepsEndFailAndRestart
  refine ⟨fun s i hwait => ?_, fun s i k hk hrun hstep hroom hf hok => ?_, fun s i hrun hstep hroom hf hup hdef => ?_,
    fun s i hrun hstep hup hstate => ?_, fun s i hrun hstep hroom => ?_, fun s i hrun hstep hroom hsafe => ?_,
    fun s i hrun hstep hroom hdeg hfails hn ⟨hrails, hosc, hheld, hhot⟩ => ?_⟩
  · have hwaits : s.fresh.startWaits = true := by
      simpa [State.startWaits, State.on, State.bufFull] using hwait
    obtain ⟨hend, htimeout⟩ := startStep_waits i hwaits
    exact ⟨s.fresh, by rw [exec_startStepEnd, run, hend, State.ended_fresh], rfl, by rw [exec_startStepTimeout, run, htimeout, State.ended_fresh]⟩
  · have hgo := State.startWaits_false (s := s.fresh) hrun hroom
    refine exec_answers (exec_startStepEnd i s) ?_
    rw [startStepEnd_passes i hk hgo hstep hok, State.ended_f, State.ended_jour]
    exact passStep_ends (s := s.fresh) hf (by omega)
  · have hgo := State.startWaits_false (s := s.fresh) hrun hroom
    refine exec_answers (exec_startStepEnd i s) ?_
    rw [startStepEnd_joins i hgo hstep, endS14_passes (s := s.fresh) hup, State.ended_f, State.ended_jour]
    exact passStep_ends (s := s.fresh) hf (.inr (.inr ⟨rfl, by simp [hdef]⟩))
  · have hsame : startStepEnd i s.fresh = s.fresh := by
      cases hgo : s.fresh.startWaits
      · rw [startStepEnd_joins i hgo hstep, endS14_waits (s := s.fresh) hup hstate]
      · exact (startStep_waits i hgo).1
    exact ⟨s.fresh, by rw [exec_startStepEnd, run, hsame, State.ended_fresh], rfl⟩
  · have hgo := State.startWaits_false (s := s.fresh) hrun hroom
    refine exec_answers (exec_startStepTimeout i s) ?_
    rw [startStepTimeout_fails i (.inr (.inr rfl)) hgo hstep, State.ended_f, State.ended_f]
    exact stepFails_goesOn s.fresh
  · have hgo := State.startWaits_false (s := s.fresh) hrun hroom
    refine exec_answers (exec_startStepTimeout i s) ?_
    rw [startStepTimeout_fails i (.inl rfl) hgo hstep, stepFails_stops]
    simp only [State.ended_pwr, State.ended_f]
    exact stopStart_stops (by decide) (by decide) (by decide) 3 _ 0 hsafe
  · have hgo := State.startWaits_false (s := s.fresh) hrun hroom
    have hcount := record_f_clear 10 1 (s.fresh.variantOf 10) 0 s.fresh (x := JOURNAL_STICKY_restarts) (by decide) (by decide)
    refine exec_answers (exec_startStepTimeout i s) ?_
    rw [startStepTimeout_fails i (.inr (.inl rfl)) hgo hstep, stepFails_restarts (s := s.fresh) hdeg hfails hn]
    simp only [State.ended_tick, State.ended_f]
    rw [State.fresh_f] at hcount
    rw [← hcount]
    exact restart_begins (by rwa [hcount]) (by rwa [record_pwr]) (by rwa [record_pwr]) (by rwa [record_pwr]) (by rwa [record_pwr])

end Sys2Proof.Machine
end

section
/-! SUPPORT. The step, the paths to the debug bus master (R569), fabric PLLs and clock gates (R533, R538), and the frequency meters (R537). -/

namespace Sys2Proof.Machine

/-! ### The step -/

/-- An idle cycle moves nothing but the count, by one inside the tick of a running timebase. -/
theorem idle_counts (s : State) : ∃ n, idle s = { s with time := { s.time with count := n } } ∧
    (n = s.time.count ∨ (s.tick.tb = .running ∧ n = s.time.count + 1 ∧ n < s.time.bnd + s.time.p)) := by
  unfold idle
  split
  · next hcounts =>
    simp only [State.tbRuns, Bool.and_eq_true, beq_iff_eq, decide_eq_true_eq] at hcounts
    obtain ⟨hruns, hinside⟩ := hcounts
    exact ⟨_, rfl, .inr ⟨hruns, rfl, hinside⟩⟩
  · exact ⟨_, rfl, .inl rfl⟩

/-- A step runs the command in front of the queue. -/
theorem step_cons {s : State} {c : Instr} {l : List Instr} (h : s.pending = c :: l) : step s = exec c { s with pending := l } := by
  simp only [step, h]

/-- With no command waiting, a step idles. -/
theorem step_nil {s : State} (h : s.pending = []) : step s = .next (idle s) := by simp only [step, h]

/-- Settles O1: the step splits on the queue, and an empty one idles. -/
theorem stepRunsTheFrontCommand : Obligations.StepRunsTheFrontCommand := by
  unfold Obligations.StepRunsTheFrontCommand
  refine ⟨fun s c l hqueue => step_cons hqueue, fun s hqueue => ?_⟩
  obtain ⟨n, hidle, hn⟩ := idle_counts s
  exact ⟨n, (step_nil hqueue).trans (congrArg _ hidle), hn⟩

/-! ### The paths to the debug bus master -/

/-- A write of the access registers from outside the three paths is refused, whoever owns the master (R569). -/
theorem dbgOwned_other (f : State → State) (s : State) : dbgOwned DbgPath.other.code f s = dbgRefuse s := rfl

/-- A refusal shows. -/
theorem dbgRefuse_refused (s : State) : (dbgRefuse s).f 0 DBG_EVT_refused = 1 := State.f_setF_fits s 0 _ 1 (by decide) (by decide)

/-- Refutes O58: at reset no path owns the master, and a claim by an initiator that is on none of the three paths is refused and sets
`DBG_EVT.refused`, where the first clause, which takes every `DbgPath` and so `other` too, lets nothing but the owner change. -/
theorem not_oneDebugPathOwnsTheBusMaster : ¬ Obligations.OneDebugPathOwnsTheBusMaster := by
  unfold Obligations.OneDebugPathOwnsTheBusMaster
  rintro ⟨hclaim, -⟩
  obtain ⟨t, ht, -, ⟨honly, -⟩, -⟩ := hclaim State.reset .other (.inl (by decide))
  have hkept : t.f 0 DBG_EVT_refused = State.reset.f 0 DBG_EVT_refused := honly (0, DBG_EVT_refused) (by decide) (by decide)
  have hset : t.f 0 DBG_EVT_refused = 1 := by
    have hrun := (exec_dbgClaim .other State.reset).symm.trans ht
    rw [run, dbgClaim, dbgOwned_other] at hrun
    injection hrun with hrun
    rw [← hrun, State.ended_f, dbgRefuse_refused]
  have hclear : State.reset.f 0 DBG_EVT_refused = 0 := by decide
  omega

/-! ### Stores of several fields -/

/-- Fields of die d that are stored one after another share no bit. -/
def storesApart (d : Nat) (l : List (Fld × Nat)) : Prop :=
  (∀ e ∈ l, placed (d, e.1) = true) ∧ l.Pairwise fun a b => apart (d, b.1) (d, a.1) = true

/-- Each of several fields reads back what was stored, cut to its length. -/
theorem State.f_setFs_mem (s : State) {d : Nat} {l : List (Fld × Nat)} (hl : storesApart d l) {e : Fld × Nat} (he : e ∈ l) :
    (s.setFs d l).f d e.1 = e.2 % 2 ^ e.1.len := by
  obtain ⟨hplaced, hapart⟩ := hl
  induction l generalizing s with
  | nil => simp at he
  | cons a l ih =>
    obtain ⟨hlater, -⟩ := List.pairwise_cons.mp hapart
    obtain rfl | he := List.mem_cons.mp he
    · exact State.f_setFs_cons s d _ _ l (hplaced _ List.mem_cons_self) fun x hx => ⟨hplaced x (List.mem_cons_of_mem _ hx), hlater x hx⟩
    · rw [State.setFs_cons]
      exact ih _ he (fun x hx => hplaced x (List.mem_cons_of_mem _ hx)) hapart.of_cons

/-! ### Commands of the power unit -/

/-- From s to t nothing changes but what the power unit holds, the registers and what is put out. -/
def State.pwrFrame (s t : State) : Prop := t.rest = { s.rest with pwr := t.pwr }

/-- A change of registers and outputs alone stays within the frame. -/
theorem State.pwrFrame_rest {s t u : State} (h : s.pwrFrame t) (hu : u.rest = t.rest) : s.pwrFrame u := by
  have hpwr : u.pwr = t.pwr := (congrArg State.pwr hu :)
  rw [State.pwrFrame, hu, hpwr]
  exact h

/-- So does such a change by itself. -/
theorem State.pwrFrame_of_rest {s t : State} (h : t.rest = s.rest) : s.pwrFrame t := State.pwrFrame_rest (t := s) rfl h

/-- A command whose effect stays within that frame answers what its effect leaves. -/
theorem exec_next_pwr {c : Instr} {f : State → State} {s u : State} (hc : exec c s = run f s) (hu : f s.fresh = u)
    (hframe : s.pwrFrame u) : exec c s = .next u := by
  have hpend : u.pending = s.pending := (congrArg State.pending hframe :)
  have htime : u.time = s.time := (congrArg State.time hframe :)
  have hfuses : u.fuses = s.fuses := (congrArg State.fuses hframe :)
  refine exec_next_self hc hu ?_
  rw [State.ended, ← hpend, ← htime, ← hfuses]

/-- One bit of a register is a field of it. -/
theorem bit_placed {r b : Nat} (hr : r < 0x1000000) (hb : b < 32) (d : Nat) : placed (d, ⟨r, b, 1⟩) = true := by
  simp only [placed, Bool.and_eq_true, decide_eq_true_eq]
  exact ⟨hr, hb⟩

/-- A command that stores one field answers it stored, and changes nothing else. -/
theorem exec_stores {c : Instr} {f : State → State} {s : State} {d v : Nat} {x : Fld} (hc : exec c s = run f s)
    (hf : f s.fresh = s.fresh.setF d x v) (hx : placed (d, x) = true) (hv : v < 2 ^ x.len) :
    exec c s = .next (s.fresh.setF d x v) ∧ (s.fresh.setF d x v).f d x = v ∧ s.regsOnly (s.fresh.setF d x v) [(d, x)] := by
  have honly : s.fresh.regsOnly (s.fresh.setF d x v) [(d, x)] := State.regsOnly_setF (State.regsOnly_refl _ _) d x v hx (by simp)
  have hfit : x.lo + x.len ≤ 32 := by
    simp only [placed, Bool.and_eq_true, decide_eq_true_eq] at hx
    exact hx.2
  exact ⟨exec_next_pwr hc hf (State.pwrFrame_of_rest honly.2), State.f_setF_fits _ d x v hfit hv, honly⟩

/-- A command that does nothing answers the state with nothing put out. -/
theorem exec_idles {c : Instr} {f : State → State} {s : State} (hc : exec c s = run f s) (hf : f s.fresh = s.fresh) :
    exec c s = .next s.fresh := exec_next_pwr hc hf (State.pwrFrame_of_rest rfl)

/-! ### Fabric PLLs (R533) -/

/-- Bit k of a field that begins at bit 0. -/
theorem State.nbit_f (s : State) (d r : Nat) {n k : Nat} (h : k < n) : nbit (s.f d ⟨r, 0, n⟩) k = (s.f d ⟨r, k, 1⟩ == 1) := by
  have hbit : nbits ((s.rd d r).toNat % 2 ^ n) k 1 = nbits (s.rd d r).toNat k 1 := nbits_mod h _
  simp only [State.f, bitsOf, pow_zero, Nat.div_one]
  exact congrArg (· == 1) hbit

/-- What pages leave alone, fields outside them read. -/
theorem State.f_of_onlyPages {s t : State} {l : List (Nat × Nat)} (h : s.onlyPages t l) {d : Nat} {x : Fld} (hr : x.reg < 0x1000000)
    (hout : (d, x.reg / 0x10000) ∉ l) : t.f d x = s.f d x := by
  rw [State.f, h d x.reg hr hout, State.f]

/-- A die that is out of reset notes a contained error, and IOS may note it too (R509 to R511). -/
theorem errReport_live {d : Nat} (src region detail : Nat) {s : State} (hlive : s.live d = true) :
    errReport d src .contained region detail s = s.containedNoted d src ∨
    errReport d src .contained region detail s = (s.containedNoted d src).setF 0 ⟨ERR_DIES, d, 1⟩ 1 := by
  rw [errReport, if_neg (by simp [hlive])]
  dsimp only
  split
  · exact .inr rfl
  · exact .inl rfl

/-- The die's source bit is set. -/
theorem errReport_source {d src : Nat} (region detail : Nat) {s : State} (hd : d < 32) (hsrc : src < 32) (hlive : s.live d = true) :
    (errReport d src .contained region detail s).f d ⟨ERR_SRC, src, 1⟩ = 1 := by
  have hnoted : (s.containedNoted d src).f d ⟨ERR_SRC, src, 1⟩ = 1 := State.f_setF_fits _ d _ 1 hsrc Nat.one_lt_two
  obtain he | he := errReport_live src region detail hlive <;> rw [he]
  · exact hnoted
  · rwa [State.f_setF_clear _ 0 d _ _ 1 (bit_placed (by decide) hd 0) (bit_placed (by decide) hsrc d) (by simp [apart, ERR_DIES, ERR_SRC])]

/-- PLL k of die d stops: its lock bit is clear, and the event stands (R533). -/
def State.pllStopped (s : State) (d k : Nat) : State := (s.setF d ⟨CLK_PLL_LOCK, k, 1⟩ 0).evt d CLK_EVT_pll_unlock

section Pll
variable {s : State} {d k : Nat} (hk : k < 8)
include hk

/-- The loss of a lock stops the PLL, and is reported as a contained error. -/
theorem pllUnlock_locked (hlive : s.live d = true) (hlock : s.f d ⟨CLK_PLL_LOCK, k, 1⟩ = 1) :
    pllUnlock d k s = errReport d 13 .contained 0x1F 0 (s.pllStopped d k) := by
  have hbit : nbit (s.f d CLK_PLL_LOCK_lock) k = true := by rw [State.nbit_f s d CLK_PLL_LOCK hk, hlock]; rfl
  exact if_neg (by simp [hlive, hbit])

/-- The lock bit of a stopped PLL is clear. -/
theorem State.pllStopped_lock : (s.pllStopped d k).f d ⟨CLK_PLL_LOCK, k, 1⟩ = 0 := by
  have hplaced := bit_placed (r := CLK_PLL_LOCK) (by decide) (show k < 32 by omega) d
  rw [State.pllStopped, State.evt, State.f_setF_clear _ d d _ _ 1 rfl hplaced (by simp [apart])]
  exact State.f_setF_fits _ d _ 0 (show k + 1 ≤ 32 by omega) Nat.two_pos

end Pll

/-- The event of a stopped PLL stands. -/
theorem State.pllStopped_event (s : State) (d k : Nat) : (s.pllStopped d k).f d CLK_EVT_pll_unlock = 1 :=
  State.f_setF_fits _ d _ 1 (by decide) (by decide)

/-- What a PLL's loss of lock shows at its die (R533). -/
theorem pllUnlock_shows {s : State} {d k : Nat} (hd : d < 32) (hk : k < 8) (hlive : s.live d = true)
    (hlock : s.f d ⟨CLK_PLL_LOCK, k, 1⟩ = 1) :
    (pllUnlock d k s).f d ⟨CLK_PLL_LOCK, k, 1⟩ = 0 ∧ (pllUnlock d k s).f d CLK_EVT_pll_unlock = 1 ∧
    (pllUnlock d k s).f d ⟨ERR_SRC, 13, 1⟩ = 1 ∧ (pllUnlock d k s).rest = s.rest := by
  have hstopped : (s.pllStopped d k).rest = s.rest := by simp [State.pllStopped]
  have hpages := errReport_onlyPages d 13 0x1F 0 (s.pllStopped d k)
  have hup : (s.pllStopped d k).live d = true := by simpa [State.live, State.pllStopped] using hlive
  rw [pllUnlock_locked hk hlive hlock]
  refine ⟨?_, ?_, errReport_source 0x1F 0 hd (by decide) hup, (errReport_rest ..).trans hstopped⟩
  · rw [State.f_of_onlyPages hpages (show CLK_PLL_LOCK < _ by decide) (by simp [CLK_PLL_LOCK]), State.pllStopped_lock hk]
  · rw [State.f_of_onlyPages hpages (by decide) (by simp [CLK_EVT]), State.pllStopped_event]

/-! ### Clock gates (R538) -/

section Gate
variable {s : State} {i : Init} {d b : Nat}

section Write
variable (hup : s.dieUp d = true) (hexists : gateExists d b = true)
include hup hexists

/-- An initiator that may gate requests idle by a 1. -/
theorem gateRequest_requests (hmay : mayGate i d = true) : gateRequest i d b s = s.setF d ⟨CLK_GATE, b, 1⟩ 1 := by
  simp [gateRequest, hup, hexists, hmay]

/-- By a 0 it withdraws the request and opens the gate. -/
theorem gateOpen_opens (hmay : mayGate i d = true) :
    gateOpen i d b s = s.setFs d [(⟨CLK_GATE, b, 1⟩, 0), (⟨CLK_GATE_STAT, b, 1⟩, 0)] := by simp [gateOpen, hup, hexists, hmay]

/-- Another initiator's 1 is refused. -/
theorem gateRequest_refuses (hmay : mayGate i d = false) : gateRequest i d b s = s.evt d CLK_EVT_refused := by
  simp [gateRequest, hup, hexists, hmay]

/-- So is its 0. -/
theorem gateOpen_refuses (hmay : mayGate i d = false) : gateOpen i d b s = s.evt d CLK_EVT_refused := by
  simp [gateOpen, hup, hexists, hmay]

end Write

/-- The two bits of a block lie in registers of their own. -/
theorem gateBits_apart (hb : b < 30) : storesApart d [(⟨CLK_GATE, b, 1⟩, 0), (⟨CLK_GATE_STAT, b, 1⟩, 0)] := by
  have hplaced {r : Nat} (hr : r < 0x1000000) := bit_placed hr (show b < 32 by omega) d
  simp [storesApart, apart, hplaced (show CLK_GATE < _ by decide), hplaced (show CLK_GATE_STAT < _ by decide)]

/-- Once they are clear, no other bit has changed. -/
theorem gateOpened_shows (hb : b < 30) : let t := s.setFs d [(⟨CLK_GATE, b, 1⟩, 0), (⟨CLK_GATE_STAT, b, 1⟩, 0)]
    t.f d ⟨CLK_GATE, b, 1⟩ = 0 ∧ t.f d ⟨CLK_GATE_STAT, b, 1⟩ = 0 ∧ s.regsOnly t [(d, ⟨CLK_GATE, b, 1⟩), (d, ⟨CLK_GATE_STAT, b, 1⟩)] := by
  have hstores := gateBits_apart (d := d) hb
  refine ⟨?_, ?_, State.onlyFields_setFs _ (State.onlyFields_refl s _) ?_, State.setFs_rest ..⟩
  · exact State.f_setFs_mem s hstores (e := (⟨CLK_GATE, b, 1⟩, 0)) (by simp)
  · exact State.f_setFs_mem s hstores (e := (⟨CLK_GATE_STAT, b, 1⟩, 0)) (by simp)
  · exact fun e he => ⟨hstores.1 e he, List.mem_map_of_mem (f := fun e => (d, e.1)) he⟩

/-- The block that a timeout names (R550). -/
def gateFailLoc (b : Nat) : List (Fld × Nat) := [(CLK_GATE_FAIL_bit, b), (CLK_GATE_FAIL_valid, 1)]

/-- Its two fields share no bit. -/
theorem gateFailLoc_apart : storesApart d (gateFailLoc b) := by simp [storesApart, gateFailLoc, placed, apart, CLK_GATE_FAIL]

/-- A request that times out is withdrawn, and its block is latched with the event. -/
theorem gateTimeout_pending (hpend : s.gatePending d b = true) : gateTimeout d b s =
    (s.setF d ⟨CLK_GATE, b, 1⟩ 0).evtLatch d CLK_EVT_gate_timeout fun s => s.setFs d (gateFailLoc b) := if_pos hpend

/-- What a timeout shows, and all that it changes. -/
theorem gateTimeout_shows (hb : b < 30) (hpend : s.gatePending d b = true) :
    (gateTimeout d b s).f d ⟨CLK_GATE, b, 1⟩ = 0 ∧ (gateTimeout d b s).f d CLK_EVT_gate_timeout = 1 ∧
    (s.f d CLK_EVT_gate_timeout = 0 → (gateTimeout d b s).f d CLK_GATE_FAIL_bit = b ∧ (gateTimeout d b s).f d CLK_GATE_FAIL_valid = 1) ∧
    s.regsOnly (gateTimeout d b s) [(d, ⟨CLK_GATE, b, 1⟩), (d, CLK_EVT_gate_timeout), (d, CLK_GATE_FAIL_bit), (d, CLK_GATE_FAIL_valid)] := by
  have hplaced := bit_placed (r := CLK_GATE) (by decide) (show b < 32 by omega) d
  rw [gateTimeout_pending hpend]
  set w := s.setF d ⟨CLK_GATE, b, 1⟩ 0 with hw
  have hwithdrawn : w.f d ⟨CLK_GATE, b, 1⟩ = 0 := State.f_setF_fits s d _ 0 (show b + 1 ≤ 32 by omega) Nat.two_pos
  have hloc : ∀ e ∈ gateFailLoc b, e.1.reg = CLK_GATE_FAIL ∧ placed (d, e.1) = true := by simp [gateFailLoc, placed, CLK_GATE_FAIL]
  obtain ⟨t, ht, he⟩ := w.evtLatch_evt d CLK_EVT_gate_timeout fun s => s.setFs d (gateFailLoc b)
  refine ⟨?_, ?_, fun hclear => ?_, ?_⟩
  · rw [he, State.evt, State.f_setF_clear t d d _ _ 1 rfl hplaced (by simp [apart])]
    obtain rfl | rfl := ht
    · exact hwithdrawn
    · rw [State.f_setFs_clear w d _ hplaced fun e he => ⟨(hloc e he).2, by simp [apart, (hloc e he).1]⟩, hwithdrawn]
  · rw [he]
    exact State.f_setF_fits t d _ 1 (by decide) (by decide)
  · have hfirst : w.f d CLK_EVT_gate_timeout = 0 := by
      rw [hw, State.f_setF_clear s d d _ _ 0 hplaced rfl (by simp [apart]), hclear]
    have hlatched {e : Fld × Nat} (he : e ∈ gateFailLoc b) :
        ((w.setFs d (gateFailLoc b)).evt d CLK_EVT_gate_timeout).f d e.1 = e.2 % 2 ^ e.1.len := by
      rw [State.evt, State.f_setF_clear _ d d _ _ 1 rfl (hloc e he).2 (by simp [apart, (hloc e he).1]),
        State.f_setFs_mem w gateFailLoc_apart he]
    rw [State.evtLatch_clear hfirst]
    exact ⟨(hlatched List.mem_cons_self).trans (Nat.mod_eq_of_lt (show b < 32 by omega)),
      hlatched (e := (CLK_GATE_FAIL_valid, 1)) (by simp [gateFailLoc])⟩
  · have hfirst := State.regsOnly_setF (State.regsOnly_refl s
      [(d, ⟨CLK_GATE, b, 1⟩), (d, CLK_EVT_gate_timeout), (d, CLK_GATE_FAIL_bit), (d, CLK_GATE_FAIL_valid)]) d _ 0 hplaced List.mem_cons_self
    rw [he]
    refine State.regsOnly_setF ?_ d _ 1 rfl (by simp)
    obtain rfl | rfl := ht
    · exact hfirst
    · exact ⟨State.onlyFields_setFs _ hfirst.1 (by simp [gateFailLoc, placed, CLK_GATE_FAIL]), (State.setFs_rest ..).trans hfirst.2⟩

end Gate

/-- Settles O11: each command is a store of one or two bits, or one of the effects above. -/
theorem pllsAndClockGates : Obligations.PllsAndClockGates := by
  unfold Obligations.PllsAndClockGates
  have hbit {r : Nat} (hr : r < 0x1000000) (d : Nat) (b : Fin 30) : placed (d, ⟨r, b.val, 1⟩) = true := bit_placed hr (by omega) d
  refine ⟨fun s d k hlive hlock => ?_, fun s d k hlive hen => ?_, fun s d k hoff => ?_, fun s i d b hup hexists hmay => ?_,
    fun s i d b hup hexists hmay => ?_, fun s i d b hup hexists hmay => ?_, fun s d b hpend => ?_, fun s d b hpend => ?_,
    fun s d b hpend => ?_⟩
  · -- a PLL loses lock
    obtain ⟨hlost, hevent, hsource, hrest⟩ := pllUnlock_shows (s := s.fresh) (show d.val + 2 < 32 by omega) k.isLt hlive hlock
    exact ⟨_, exec_next_pwr (exec_fabricPllUnlock d k s) rfl (State.pwrFrame_of_rest hrest), hlost, hevent, hsource, hrest⟩
  · -- it relocks
    exact ⟨_, exec_stores (exec_fabricPllRelock d k s) (if_pos ⟨hlive, hen⟩) (bit_placed (by decide) (by omega) _) Nat.one_lt_two⟩
  · -- a PLL that nothing has enabled, or a die in reset
    refine ⟨_, exec_idles (exec_fabricPllRelock d k s) (if_neg ?_), rfl⟩
    rintro ⟨hlive, hen⟩
    obtain hoff | hoff := hoff
    · exact Bool.false_ne_true (hoff.symm.trans hlive)
    · exact Bool.false_ne_true (hoff.symm.trans hen)
  · -- a 1
    exact ⟨_, exec_stores (exec_clockGateRequest i d b s) (gateRequest_requests hup hexists hmay) (hbit (by decide) _ b) Nat.one_lt_two⟩
  · -- a 0
    obtain ⟨hgate, hstat, honly⟩ := gateOpened_shows (s := s.fresh) (d := d.val) b.isLt
    exact ⟨_, exec_next_pwr (exec_clockGateOpen i d b s) (gateOpen_opens hup hexists hmay) (State.pwrFrame_of_rest honly.2),
      hgate, hstat, honly⟩
  · -- an initiator that may not gate
    obtain ⟨hnext, hset, honly⟩ := exec_stores (exec_clockGateRequest i d b s) (gateRequest_refuses hup hexists hmay) rfl Nat.one_lt_two
    exact ⟨_, hnext, hset, honly, (exec_stores (exec_clockGateOpen i d b s) (gateOpen_refuses hup hexists hmay) rfl Nat.one_lt_two).1⟩
  · -- the block acknowledges
    exact ⟨_, exec_stores (exec_clockGateIdleAck d b s) (if_pos hpend) (hbit (by decide) _ b) Nat.one_lt_two⟩
  · -- it does not
    obtain ⟨hgate, hevent, hlatched, honly⟩ := gateTimeout_shows (s := s.fresh) b.isLt hpend
    exact ⟨_, exec_next_pwr (exec_clockGateTimeout d b s) rfl (State.pwrFrame_of_rest honly.2), hgate, hevent, hlatched, honly⟩
  · -- no request waits
    have hnone : ¬ s.fresh.gatePending d.val b.val = true := Bool.eq_false_iff.mp hpend
    exact ⟨_, exec_idles (exec_clockGateTimeout d b s) (if_neg hnone), rfl, exec_idles (exec_clockGateIdleAck d b s) (if_neg hnone)⟩

/-! ### Frequency meters (R537) -/

/-- A write of a meter's N stores N, whether or not it starts the meter. -/
def State.meterLoaded (s : State) (m : Nat) (v : Word) : State := s.setF 0 (CLK_FM_N_n m) (bitsOf v 0 24)

/-- The power unit notes whether the clock that a meter measures is lost. -/
def State.setLost (s : State) (m : Nat) (lost : Bool) : State := { s with pwr := { s.pwr with fmLost := KMap.put s.pwr.fmLost m lost } }

@[simp] theorem State.setLost_regs (s : State) (m : Nat) (lost : Bool) : (s.setLost m lost).regs = s.regs := rfl

@[simp] theorem State.setLost_f (s : State) (m : Nat) (lost : Bool) (d : Nat) (x : Fld) : (s.setLost m lost).f d x = s.f d x :=
  State.f_congr (State.setLost_regs s m lost) d x

@[simp] theorem State.setLost_rd (s : State) (m : Nat) (lost : Bool) (d r : Nat) : (s.setLost m lost).rd d r = s.rd d r :=
  State.rd_congr (State.setLost_regs s m lost) d r

/-- Nothing else of the rest changes. -/
theorem State.setLost_pwrFrame {s t : State} (h : t.rest = s.rest) (m : Nat) (lost : Bool) : s.pwrFrame (t.setLost m lost) := by
  rw [State.pwrFrame, ← h]
  rfl

/-- A meter starts: busy, its other status bits clear, and its loss so far that of the measured die's clock. -/
def State.meterStarted (s : State) (m meas : Nat) : State :=
  (s.wr 0 (CLK_FM_STAT m) 1).setLost m ((s.wr 0 (CLK_FM_STAT m) 1).dieFenced (meas / 256))

/-- What the end of a gate shows: the count, or its loss. -/
def meterFields (m n : Nat) (lost : Bool) : List (Fld × Nat) :=
  [(CLK_FM_STAT_busy m, 0), (CLK_FM_STAT_done m, 1), (CLK_FM_STAT_sat m, if 2 ^ 32 ≤ n then 1 else 0),
    (CLK_FM_STAT_absent m, if lost then 1 else 0), (CLK_FM_RES_count m, sat 32 n)]

/-- A write starts a meter by its top bit. -/
theorem meterStart_bit (v : Word) : bitsOf v 31 1 = 0 ↔ v.toNat < 2 ^ 31 := by
  have := v.isLt
  simp only [bitsOf]
  omega

section Meter
variable {s : State} {m : Nat} {v : Word}

/-- A field of a meter's registers lies in the CLK page of IOS. -/
theorem meter_placed (hm : m < 16) {r lo len : Nat} (hr : r ≤ CLK_FM_STAT 0) (hfit : lo + len ≤ 32) :
    placed (0, ⟨r + m * 0x10, lo, len⟩) = true := by
  simp only [placed, Bool.and_eq_true, decide_eq_true_eq]
  simp only [CLK_FM_STAT] at hr
  omega

/-- The store of N leaves every field of another register. -/
theorem State.meterLoaded_f (hm : m < 16) {x : Fld} (hx : placed (0, x) = true) (hne : CLK_FM_N m ≠ x.reg) :
    (s.meterLoaded m v).f 0 x = s.f 0 x :=
  State.f_setF_clear s 0 0 _ x _ (meter_placed hm (by decide) (by decide)) hx (by simp [apart, hne])

/-- N reads back. -/
theorem State.meterLoaded_n : (s.meterLoaded m v).f 0 (CLK_FM_N_n m) = v.toNat % 2 ^ 24 := by
  rw [State.meterLoaded, State.f_setF_same s 0 _ _ (by decide : 0 + 24 ≤ 32)]
  simp [bitsOf]

section Write
variable (hm : m < 16) (hup : s.iosUp = true)
include hm hup

/-- Without start, or on a busy meter, N is stored and no more. -/
theorem meterStart_loads (h : v.toNat < 2 ^ 31 ∨ s.f 0 (CLK_FM_STAT_busy m) = 1) : meterStart m v s = s.meterLoaded m v := by
  have hbusy : (s.meterLoaded m v).f 0 (CLK_FM_STAT_busy m) = s.f 0 (CLK_FM_STAT_busy m) :=
    State.meterLoaded_f hm (meter_placed hm (by decide) (by decide)) (by simp)
  rw [meterStart, if_neg (by simp [hup])]
  refine if_pos (h.imp (meterStart_bit v).mpr fun hset => ?_)
  exact State.on_of_one (hbusy.trans hset)

variable (hstart : 2 ^ 31 ≤ v.toNat) (hidle : s.f 0 (CLK_FM_STAT_busy m) = 0)
include hstart hidle

/-- A start of a meter that is not busy turns on the selection. -/
theorem meterStart_selects : meterStart m v s =
    if clockExists (s.f 0 (CLK_FM_SEL_meas m)) = true ∧ s.f 0 (CLK_FM_SEL_gate m) ≤ 2 then
      (s.meterLoaded m v).meterStarted m (s.f 0 (CLK_FM_SEL_meas m))
    else (s.meterLoaded m v).setF 0 (CLK_FM_STAT_bad_sel m) 1 := by
  have hkept {x : Fld} := State.meterLoaded_f (s := s) (v := v) hm (x := x)
  have hbusy := (hkept (x := CLK_FM_STAT_busy m) (meter_placed hm (by decide) (by decide)) (by simp)).trans hidle
  have hmeas := hkept (x := CLK_FM_SEL_meas m) (meter_placed hm (by decide) (by decide)) (by simp)
  have hgate := hkept (x := CLK_FM_SEL_gate m) (meter_placed hm (by decide) (by decide)) (by simp)
  have hgo : ¬ (bitsOf v 31 1 = 0 ∨ (s.meterLoaded m v).on 0 (CLK_FM_STAT_busy m) = true) := by
    rw [meterStart_bit, State.on_of_zero hbusy]
    simpa using hstart
  rw [meterStart, if_neg (by simp [hup]), ← hmeas, ← hgate]
  exact if_neg hgo

end Write

/-- A meter's start shows in its status, and its loss is what the power unit holds. -/
theorem State.meterStarted_shows (hm : m < 16) (meas : Nat) : let t := (s.meterLoaded m v).meterStarted m meas
    t.f 0 (CLK_FM_N_n m) = v.toNat % 2 ^ 24 ∧ t.rd 0 (CLK_FM_STAT m) = 1 ∧ s.onlyPages t [(0, 0x02)] ∧ s.pwrFrame t := by
  have hstat : CLK_FM_STAT m < 0x1000000 := by simp only [CLK_FM_STAT]; omega
  have hn : CLK_FM_N m < 0x1000000 := by simp only [CLK_FM_N]; omega
  have hstatpage : CLK_FM_STAT m / 0x10000 = 0x02 := by simp only [CLK_FM_STAT]; omega
  have hnpage : CLK_FM_N m / 0x10000 = 0x02 := by simp only [CLK_FM_N]; omega
  have hloaded : s.onlyPages (s.meterLoaded m v) [(0, 0x02)] :=
    State.onlyPages_setF (State.onlyPages_refl s _) 0 (CLK_FM_N_n m) _ hn (by simp [hnpage])
  have hshown := State.onlyPages_wr hloaded 0 _ 1 hstat (by simp [hstatpage])
  refine ⟨?_, ?_, State.onlyPages_regs hshown (State.setLost_regs ..), State.setLost_pwrFrame ?_ ..⟩
  · rw [State.meterStarted, State.setLost_f, State.f_wr_clear _ 0 0 _ _ 1 hstat (meter_placed hm (by decide) (by decide)) (.inr (by simp)),
      State.meterLoaded_n]
  · rw [State.meterStarted, State.setLost_rd, State.rd_wr_same]
  · rw [State.wr_rest, State.meterLoaded, State.setF_rest]

/-- A meter's refusal shows beside N. -/
theorem State.meterRefused_shows (hm : m < 16) : let t := (s.meterLoaded m v).setF 0 (CLK_FM_STAT_bad_sel m) 1
    t.f 0 (CLK_FM_N_n m) = v.toNat % 2 ^ 24 ∧ t.f 0 (CLK_FM_STAT_bad_sel m) = 1 ∧
    s.regsOnly t [(0, CLK_FM_N_n m), (0, CLK_FM_STAT_bad_sel m)] := by
  have hn : placed (0, CLK_FM_N_n m) = true := meter_placed hm (by decide) (by decide)
  have hbad : placed (0, CLK_FM_STAT_bad_sel m) = true := meter_placed hm (by decide) (by decide)
  refine ⟨?_, State.f_setF_fits _ 0 _ 1 (by decide : 4 + 1 ≤ 32) Nat.one_lt_two, ?_⟩
  · rw [State.f_setF_clear _ 0 0 _ _ 1 hbad hn (by simp [apart]), State.meterLoaded_n]
  · exact State.regsOnly_setF (State.regsOnly_setF (State.regsOnly_refl s _) 0 _ _ hn (by simp)) 0 _ 1 hbad (by simp)

/-- The fields that the end of a gate shows share no bit. -/
theorem meterFields_apart (hm : m < 16) (n : Nat) (lost : Bool) : storesApart 0 (meterFields m n lost) := by
  have hfit {r lo len : Nat} := meter_placed hm (r := r) (lo := lo) (len := len)
  refine ⟨?_, ?_⟩
  · simp only [meterFields, List.forall_mem_cons]
    refine ⟨hfit ?_ ?_, hfit ?_ ?_, hfit ?_ ?_, hfit ?_ ?_, hfit ?_ ?_, List.forall_mem_nil _⟩ <;> decide
  · simp [meterFields, apart]

/-- They lie in two registers. -/
theorem meterFields_reg {n : Nat} {lost : Bool} : ∀ e ∈ meterFields m n lost, e.1.reg = CLK_FM_STAT m ∨ e.1.reg = CLK_FM_RES m := by
  simp [meterFields]

/-- A busy meter's end stores those fields, counts an event, and forgets the loss. -/
theorem meterDone_busy {n : Nat} {lost : Bool} (hbusy : s.f 0 (CLK_FM_STAT_busy m) = 1) (hlost : KMap.look s.pwr.fmLost m = lost) :
    meterDone m n s = ((s.setFs 0 (meterFields m (if lost then 0 else n) lost)).setLost m false).evt 0 CLK_EVT_fm_done := by
  subst hlost
  exact if_neg (by simp [State.on_of_one hbusy])

/-- Those fields read what was stored, the event stands, and nothing else has changed. -/
theorem meterDone_stores (hm : m < 16) {n : Nat} {lost : Bool} (hbusy : s.f 0 (CLK_FM_STAT_busy m) = 1)
    (hlost : KMap.look s.pwr.fmLost m = lost) :
    (∀ e ∈ meterFields m (if lost then 0 else n) lost, (meterDone m n s).f 0 e.1 = e.2 % 2 ^ e.1.len) ∧
    (meterDone m n s).f 0 CLK_EVT_fm_done = 1 ∧
    s.onlyFields (meterDone m n s) [(0, CLK_FM_STAT_busy m), (0, CLK_FM_STAT_done m), (0, CLK_FM_STAT_absent m), (0, CLK_FM_STAT_sat m),
      (0, CLK_FM_RES_count m), (0, CLK_EVT_fm_done)] ∧
    s.pwrFrame (meterDone m n s) := by
  have hstores := meterFields_apart hm (if lost then 0 else n) lost
  have hevt : CLK_EVT ≠ CLK_FM_STAT m ∧ CLK_EVT ≠ CLK_FM_RES m := by simp only [CLK_EVT, CLK_FM_STAT, CLK_FM_RES]; omega
  rw [meterDone_busy hbusy hlost]
  refine ⟨fun e he => ?_, State.f_setF_fits _ 0 _ 1 (by decide) (by decide), State.onlyFields_setF ?_ 0 _ 1 rfl (by simp),
    State.pwrFrame_rest (State.setLost_pwrFrame (State.setFs_rest ..) m false) (State.evt_rest ..)⟩
  · have hevent : apart (0, CLK_EVT_fm_done) (0, e.1) = true := by
      obtain hreg | hreg := meterFields_reg e he
      · simp [apart, hreg, hevt.1]
      · simp [apart, hreg, hevt.2]
    rw [State.evt, State.f_setF_clear _ 0 0 _ _ 1 rfl (hstores.1 e he) hevent, State.setLost_f, State.f_setFs_mem s hstores he]
  · refine State.onlyFields_regs (State.onlyFields_setFs _ (State.onlyFields_refl s _) fun e he => ⟨hstores.1 e he, ?_⟩)
      (State.setLost_regs ..)
    simp only [meterFields, List.mem_cons, List.not_mem_nil, or_false] at he
    obtain rfl | rfl | rfl | rfl | rfl := he <;> simp

/-- What a busy meter's end shows: a count of 0 where the clock was lost. -/
theorem meterDone_shows (hm : m < 16) {n k : Nat} {lost : Bool} (hbusy : s.f 0 (CLK_FM_STAT_busy m) = 1)
    (hlost : KMap.look s.pwr.fmLost m = lost) (hk : (if lost then 0 else n) = k) :
    (meterDone m n s).f 0 (CLK_FM_STAT_busy m) = 0 ∧ (meterDone m n s).f 0 (CLK_FM_STAT_done m) = 1 ∧
    (meterDone m n s).f 0 (CLK_FM_STAT_sat m) = (if 2 ^ 32 ≤ k then 1 else 0) ∧
    (meterDone m n s).f 0 (CLK_FM_STAT_absent m) = lost.toNat ∧ (meterDone m n s).f 0 (CLK_FM_RES_count m) = min k (2 ^ 32 - 1) := by
  obtain ⟨hshows, -⟩ := meterDone_stores hm hbusy hlost (n := n)
  rw [hk] at hshows
  simp only [meterFields, List.forall_mem_cons] at hshows
  obtain ⟨hbusy, hdone, hsat, habsent, hcount, -⟩ := hshows
  refine ⟨hbusy, hdone, hsat.trans ?_, habsent.trans ?_, hcount.trans ?_⟩
  · split <;> rfl
  · cases lost <;> rfl
  · simp only [sat]
    omega

end Meter

/-- Settles O12: a write stores N and selects, and the end of a gate stores what it shows. -/
theorem frequencyMeters : Obligations.FrequencyMeters := by
  unfold Obligations.FrequencyMeters
  refine ⟨fun s m v hup hloads => ?_, fun s m v hup hstart hidle hmeas hgate => ?_, fun s m v hup hstart hidle hbad => ?_,
    fun s m n hbusy hlost => ?_, fun s m n hbusy hlost => ?_⟩
  · -- N alone
    have honly : s.fresh.regsOnly (s.fresh.meterLoaded m.val v) [(0, CLK_FM_N_n m.val)] :=
      State.regsOnly_setF (State.regsOnly_refl _ _) 0 _ _ (meter_placed m.isLt (by decide) (by decide)) (by simp)
    exact ⟨_, exec_next_pwr (exec_freqMeterStart m v s) (meterStart_loads (s := s.fresh) m.isLt hup hloads)
      (State.pwrFrame_of_rest honly.2), State.meterLoaded_n, honly⟩
  · -- a legal selection
    obtain ⟨hn, hstat, hpages, hframe⟩ := State.meterStarted_shows (s := s.fresh) (v := v) m.isLt (s.f 0 (CLK_FM_SEL_meas m.val))
    refine ⟨_, exec_next_pwr (exec_freqMeterStart m v s) ?_ hframe, hn, hstat, hpages, hframe⟩
    exact (meterStart_selects (s := s.fresh) m.isLt hup hstart hidle).trans (if_pos ⟨hmeas, hgate⟩)
  · -- an illegal selection
    obtain ⟨hn, hset, honly⟩ := State.meterRefused_shows (s := s.fresh) (v := v) m.isLt
    refine ⟨_, exec_next_pwr (exec_freqMeterStart m v s) ?_ (State.pwrFrame_of_rest honly.2), hn, hset, honly⟩
    refine (meterStart_selects (s := s.fresh) m.isLt hup hstart hidle).trans (if_neg ?_)
    rintro ⟨hmeas, hgate⟩
    obtain hbad | hbad := hbad
    · exact Bool.false_ne_true (hbad.symm.trans hmeas)
    · exact absurd hgate (Nat.not_le.mpr hbad)
  · -- a count
    obtain ⟨-, hevent, honly, hframe⟩ := meterDone_stores (s := s.fresh) (n := n) m.isLt hbusy hlost
    obtain ⟨hidle, hdone, hsat, habsent, hcount⟩ := meterDone_shows (s := s.fresh) (n := n) m.isLt hbusy hlost rfl
    refine ⟨_, exec_next_pwr (exec_freqMeterDone m n s) rfl hframe, hidle, hdone, habsent, hcount, hsat.trans ?_, hevent, honly, hframe⟩
    split_ifs <;> omega
  · -- a lost clock
    obtain ⟨-, -, honly, hframe⟩ := meterDone_stores (s := s.fresh) (n := n) m.isLt hbusy hlost
    obtain ⟨hidle, hdone, -, habsent, hcount⟩ := meterDone_shows (s := s.fresh) (n := n) m.isLt hbusy hlost rfl
    exact ⟨_, exec_next_pwr (exec_freqMeterDone m n s) rfl hframe, hidle, hdone, habsent, hcount, honly, hframe⟩

end Sys2Proof.Machine
end
